-- ==== Sys2Proof/Word.lean ====
section
/-!
DEFINITION. The words of the machine: the 32-bit register word (R6), the byte, the 128-bit fault record and the lane
of the Loop Engines, and sparse finite maps in one canonical form.
-/

namespace Sys2Proof

/-- A 32-bit register word (R6). -/
abbrev Word := BitVec 32

/-- A byte of memory. -/
abbrev Byte := BitVec 8

/-- A sparse map: a list of key and value pairs in which a key that is not listed has the map's default. -/
abbrev SMap (κ α : Type) := List (κ × α)

/-- The value at key `k`, or `d` where `k` is not listed. -/
def SMap.get {κ α : Type} [DecidableEq κ] (m : SMap κ α) (k : κ) (d : α) : α :=
  match m with
  | [] => d
  | (k', v) :: t => if k' = k then v else SMap.get t k d

/-- The map without key `k`. -/
def SMap.erase {κ α : Type} [DecidableEq κ] (m : SMap κ α) (k : κ) : SMap κ α :=
  match m with
  | [] => []
  | (k', v) :: t => if k' = k then SMap.erase t k else (k', v) :: SMap.erase t k

/-- The map with the pair `(k, v)` put before the first greater key. -/
def SMap.insert {κ α : Type} (lt : κ → κ → Bool) (m : SMap κ α) (k : κ) (v : α) : SMap κ α :=
  match m with
  | [] => [(k, v)]
  | (k', v') :: t => if lt k k' then (k, v) :: (k', v') :: t else (k', v') :: SMap.insert lt t k v

/-- The map with `k` at `v`; writing the default removes the entry. -/
def SMap.put {κ α : Type} [DecidableEq κ] [DecidableEq α] (lt : κ → κ → Bool) (m : SMap κ α) (k : κ) (v d : α) :
    SMap κ α :=
  if v = d then SMap.erase m k else SMap.insert lt (SMap.erase m k) k v

/-- The keys of the map rise strictly by `lt`, and no entry holds the default `d k` of its key. -/
def SMap.wf {κ α : Type} [DecidableEq α] (lt : κ → κ → Bool) (d : κ → α) (m : SMap κ α) : Bool :=
  match m with
  | [] => true
  | (k, v) :: t => decide (v ≠ d k) && t.all (fun e => lt k e.1) && SMap.wf lt d t

/-- The order of natural keys. -/
def natLt (a b : Nat) : Bool := decide (a < b)

/-- A map from natural numbers, put at its default `d`. -/
abbrev NMap (α : Type) := SMap Nat α

/-- The map with `k` at `v`, `d` being the default. -/
def NMap.set {α : Type} [DecidableEq α] (m : NMap α) (k : Nat) (v d : α) : NMap α := SMap.put natLt m k v d

end Sys2Proof
end

