-- ==== Sys2Proof/Machine/Inputs.lean ====
section
/-!
DEFINITION. The operand types of the commands: what comes from outside the module.
Readings and choices: logs 28, 50 of notes/assumptions.
-/

namespace Sys2Proof

/-- Who makes a bus access (R20): a local master, or a request of another node that came in at port `p` (R304). The tag
tells its result from others. -/
inductive Origin where
  | here (mid : BitVec 10) (tag : Nat)
  | remote (p : Fin 8) (src : BitVec 9) (smaster : BitVec 10) (tag : Nat)
deriving DecidableEq, Repr

/-- A fabric packet: the header fields of R304 without the CRCs, and its payload flits. -/
structure Packet where
  type    : BitVec 4
  vc      : BitVec 2
  dest    : BitVec 9
  src     : BitVec 9
  smaster : BitVec 10
  len     : BitVec 6
  tag     : BitVec 6
  addr    : BitVec 40
  status  : BitVec 3
  sz      : BitVec 2
  down    : Bool
  hops    : BitVec 4
  payload : List (BitVec 128)
deriving DecidableEq, Repr

/-- What the HPC measures in a control round where the spec names no register or stream that carries it (R137, R139, R140, R145). -/
structure RoundInputs where
  /-- Rotor load, 0.1 %. -/
  rotor  : Nat
  /-- Measured feed, g/s. -/
  feed   : Nat
  /-- Loss and quality, 0.01 %, and throughput, 0.1 t/h (R139, R140). -/
  loss   : Nat
  qual   : Nat
  thr    : Nat
deriving DecidableEq, Repr

/-- The ECC check of a CSI-2 packet header (R225). -/
inductive Header where
  | good
  /-- A single-bit error, corrected. -/
  | fixed
  /-- Uncorrectable. -/
  | bad
deriving DecidableEq, Repr

/-- A pose in the odometry frame (R236): mm and µrad, with the yaw rate in µrad/s. -/
structure Pose where
  at_     : Nat
  x       : Int
  y       : Int
  z       : Int
  roll    : Int
  pitch   : Int
  yaw     : Int
  yawRate : Int
deriving DecidableEq, Repr

/-- The pose at the start of a full start. -/
def Pose.zero : Pose := ⟨0, 0, 0, 0, 0, 0, 0, 0⟩

/-- A feature of a camera frame (R242, R244): its pixel, and the values of the model's channels. -/
structure Feature where
  u    : Nat
  v    : Nat
  vals : List Int
deriving DecidableEq, Repr

/-- What a GRID_HEAD writes to a cell (R244): its slot, the cell, and the values of its channels. -/
structure HeadOut where
  slot : Nat
  row  : Nat
  col  : Nat
  vals : List Int
deriving DecidableEq, Repr

/-- A narrowband line of a spectrum (R263): its offset from the band centre in 100 Hz, its level above the noise floor in
0.1 dB, and the notch that stands on it. -/
structure SpecLine where
  freq  : Int
  level : Nat
  notch : Option (Fin 8)
deriving DecidableEq, Repr

/-- A satellite signal that a channel may track (R257): antenna (true: ANT_B), signal, satellite, elevation in degrees. -/
structure Candidate where
  ant  : Bool
  sig  : Fin 15
  sv   : BitVec 8
  elev : Int
deriving DecidableEq, Repr

/-- What the position and heading solvers find for a measurement epoch `ago` ns back (R266 to R268, R273). -/
structure Solution where
  ago     : Nat
  /-- The position is that of the phase centre of ANT_B, else of ANT_A. -/
  ant     : Bool
  /-- Satellites used; usable code and carrier corrections; satellites with fixed ambiguities; inertial sensor valid. -/
  nsv     : Nat
  code    : Bool
  carrier : Bool
  fixed   : Nat
  ins     : Bool
  /-- 10^-9 °, mm, mm/s. -/
  lat     : Int
  lon     : Int
  hgt     : Int
  vn      : Int
  ve      : Int
  vu      : Int
  /-- A moving baseline: its length in mm and the common satellites with fixed ambiguities. -/
  base    : Option (Nat × Nat)
  /-- 0.01 °. -/
  hdg     : Nat
  hdgSd   : Nat
  pitch   : Int
  roll    : Int
  hpe     : Nat
  vpe     : Nat
  sog     : Nat
  /-- TB0 − GNSS time as measured, ps, while the timing solution holds; GPS − UTC in s, once known. -/
  timing  : Option Int
  leap    : Option Nat
  /-- The satellites, by system and number, whose ephemeris the module holds (R262). -/
  eph     : List (Nat × Nat)
deriving DecidableEq, Repr

/-- A CAN frame (R343). -/
structure CanFrame where
  brs  : Bool
  fdf  : Bool
  ide  : Bool
  id   : BitVec 29
  dlc  : BitVec 4
  data : List Byte
deriving DecidableEq, Repr

/-- What an Ethernet frame carries (R339, R340). -/
inductive EthIn where
  /-- A frame with a VLAN tag. -/
  | tagged
  | echo (src dst : BitVec 128) (data : List Byte)
  /-- A neighbour solicitation. -/
  | solicit (src dst target : BitVec 128)
  | udp (src dst : BitVec 128) (sport port : BitVec 16) (payload : List Byte)
  /-- Anything that the module does not support: IPv4, TCP, DHCPv6, router advertisements, other protocols. -/
  | other
deriving DecidableEq, Repr

/-- What the environment decides at a register write: whether a commit reaches its pipeline less than one pixel clock before
the next Frame Start (R216, R219), the frame that is on the bus of a CAN controller that is switched off (R344), and the
error in ns with which a locked TB0 enters HOLDOVER (R274). -/
structure WriteEnv where
  late : Bool
  bus  : Option Bool
  err  : Nat
deriving DecidableEq, Repr

/-- Nothing of the kind happens. -/
def WriteEnv.quiet : WriteEnv := ⟨false, none, 0⟩

/-- A pin of a module chip under boundary scan (R442, R444): of the GV512 the AC-coupled ones and any other, of a ZP16 the gate of a
channel, of a ZS8 the high-side and the low-side gate. -/
inductive ScanPin where
  | fpTx (p : Fin 8)
  | fpRx (p : Fin 8)
  | csi (p : Fin 12)
  | other (n : Nat)
  | gate (c : Fin 16)
  | high (c : Fin 8)
  | low (c : Fin 8)
deriving DecidableEq, Repr

/-- What a scan of the test chain brings (R441, R448): what the boundary register of each TAP captures at its pins, the bits that are
shifted in on TDI, first bit first, and the LECLK edge on which a debug access arrives. -/
structure ScanIn where
  pins : List (List Bool)
  tdi  : List Bool
  edge : Nat
deriving DecidableEq, Repr

/-- What a full start meets outside: the supply in mV, the node address straps, the FREEZE_HOLD strap and RECOVER_N (R303,
R368, R413, R447), the first self-test item that fails, counted from 0 (R409), and the journal pages whose CRC fails now, by
region and number (R394), and the ticks that the start takes (R398). -/
structure StartIn where
  mv       : Nat
  node     : BitVec 9
  hold     : Bool
  recoverN : Bool
  item     : Option (Fin 6)
  torn     : List (Fin 5 × Nat)
  ticks    : Nat
deriving DecidableEq, Repr

end Sys2Proof
end

