-- ==== Sys2Proof/Syntax.lean ====
section
/-!
DEFINITION. The commands of the block: one constructor for each row of the opcode table, with the row's operands.
What comes from outside the module (a level, a measured quantity, a packet, a timer's owner) is an operand.
-/

namespace Sys2Proof

/-- The commands, in the order of the opcode table. -/
inductive Instr where
  /-- REGISTER_WRITE: A write to a register field that has no row of its own takes effect according to the field's
    access type. (R9) -/
  | registerWrite (mid : BitVec 10) (addr : BitVec 40) (width : Nat) (data : BitVec 128) (env : WriteEnv)
  /-- TARGET_ACCESS: An access reaches the gate of its target and passes through the ordered checks that admit or
    refuse it. (R359) -/
  | targetAccess (origin : Origin) (write : Bool) (addr : BitVec 40) (width : Nat) (data : BitVec 128) (edge : Nat)
  /-- ACCESS_ACCEPT: A target accepts a waiting access on a free LECLK edge, lower master ID first, and later
    completes it in order. (R19) -/
  | accessAccept (target : Fin 52) (edge : Nat) (env : WriteEnv)
  /-- FAULT_RECORD_SEND: A held fault record is sent on VC3 to the conductor once a conductor is known and the supply
    state is NORMAL. (R26) -/
  | faultRecordSend
  /-- CLASS_SEEN_CLEAR: A W1C write to SYS_FAULT_LATCH clears class bits and releases FAULT_N once FAULT_PENDING
    returns to 0. (R27) -/
  | classSeenClear (bits : Word)
  /-- TBU_TICK: On each 10 ns tick the TBU snapshots all sixteen timebases, interpolates, evaluates slots, windows and
    deadlines. (R32) -/
  | tbuTick
  /-- SOURCE_PULSE: A filtered encoder edge adds or subtracts TB_SCALE on a built timebase, stepping forward if
    interpolation lagged. (R36) -/
  | sourcePulse (tb : Fin 16)
  /-- INDEX_PULSE: An index pulse corrects the angle of an angular timebase to TB_INDEX.OFFSET in the direction of
    movement, or holds it. (R40) -/
  | indexPulse (tb : Fin 16)
  /-- TB_STALL_EXPIRY: No pulse for TB_STALL ms sets the interpolation rate to 0 and STALLED to 1. (R39) -/
  | tbStallExpiry (tb : Fin 16)
  /-- TB3_SLIP_UPDATE: Every 100 ms with valid GNSS ground speed above 0.5 m/s, SLIP moves by at most 0.5 % toward
    matching wheel speed. (R41) -/
  | tb3SlipUpdate
  /-- TB2_SET_LOW_WRITE: A write to TB2_SET_LO stores the low word without loading TB2. (R42) -/
  | tb2SetLowWrite (v : Word)
  /-- TB2_LOAD: A write covering TB2_SET_HI loads TB2 on the next tick and flags a step when TB2 was already valid.
    (R42) -/
  | tb2Load (hi : Word) (lo : Option Word)
  /-- TBU_SNAP: A write of 1 to TBU_SNAP copies the next tick's snapshot of all timebases into the snapshot registers.
    (R32) -/
  | tbuSnap
  /-- ENC_CFG_WRITE: A write of ENC_CFG.EN changes the validity of the built timebases that use that channel from the
    next tick. (R35) -/
  | encCfgWrite (ch : Fin 32) (v : Word)
  /-- SLOT_ARM: A slot is armed on EN 0 to 1 or a change of its settings, checked under R451 and fired late if COUNT
    already passed. (R46) -/
  | slotArm (slot : Fin 1024) (ctrl : Word)
  /-- SLOT_COUNT_LOW_WRITE: While EN is 1 a write to SLOT_COUNT_LO is held without changing COUNT or re-arming. (R452)
    -/
  | slotCountLowWrite (slot : Fin 1024) (v : Word)
  /-- SLOT_COUNT_HIGH_WRITE: A write covering SLOT_COUNT_HI sets COUNT from the high and chosen low word and re-arms
    the slot. (R452) -/
  | slotCountHighWrite (slot : Fin 1024) (hi : Word) (lo : Option Word)
  /-- SLOT_PERIOD_WRITE: A write of SLOT_PERIOD words sets PERIOD for use at the next advance, without re-arming.
    (R452) -/
  | slotPeriodWrite (slot : Fin 1024) (lo : Option Word) (hi : Option Word)
  /-- SLOT_FIRE: A timebase reaches or passes a slot's COUNT in its direction and the slot fires its target and
    applies its mode. (R44) -/
  | slotFire (slot : Fin 1024)
  /-- TRIGGER_ARRIVAL: A slot trigger reaches a task, making an IDLE task READY or being discarded otherwise. (R67) -/
  | triggerArrival (task : Fin 4096)
  /-- DEADLINE_REACHED: A running instance reaches its deadline D, raising one TASK_DEADLINE record and applying
    MISS_ACTION. (R56) -/
  | deadlineReached (task : Fin 4096)
  /-- BACKSTOP_REACHED: A running instance reaches its TB1 backstop, raising one TASK_BACKSTOP record and applying
    MISS_ACTION. (R56) -/
  | backstopReached (task : Fin 4096)
  /-- TASK_ENABLE: A write of TASK_CTRL.EN = 1 enables a valid task to IDLE or is refused with EN_REFUSED. (R63) -/
  | taskEnable (task : Fin 4096)
  /-- TASK_DISABLE: A write of TASK_CTRL.EN = 0 disables an idle task or puts a running one into DRAINING. (R78) -/
  | taskDisable (task : Fin 4096)
  /-- TASK_SWAP: A write of TASK_CTRL.SWAP requests a coefficient bank swap or is refused with BANK_LOCKED. (R81) -/
  | taskSwap (task : Fin 4096)
  /-- TASK_PL_CLR: A write of TASK_CTRL.PL_CLR ends the plausibility episode and realigns the plant model. (R89) -/
  | taskPlClr (task : Fin 4096)
  /-- TASK_MAN_WRITE: A write of TASK_CTRL.MAN requests MANUAL or AUTO from the next sample boundary. (R84) -/
  | taskManWrite (task : Fin 4096) (man : Bool)
  /-- SAMPLE_BOUNDARY: An engine selects a READY instance and on the boundary edge copies the mailbox, swaps banks,
    changes mode, checks the model and issues. (R72) -/
  | sampleBoundary (eng : Fin 512)
  /-- PREEMPT: A READY task of higher priority preempts the running instance at its next instruction boundary. (R69)
    -/
  | preempt (eng : Fin 512)
  /-- RESUME: A preempted instance resumes when no higher-priority task is READY. (R69) -/
  | resume (eng : Fin 512)
  /-- COMMIT: On the edge after END retires all staged outputs of the instance are released together. (R74) -/
  | commit (eng : Fin 512)
  /-- INSTANCE_ABORT: An instance marked for abort stops at its next instruction boundary, discarding staged values
    and committing safe values as set. (R77) -/
  | instanceAbort (task : Fin 4096)
  /-- DRAIN_LIMIT: A draining instance without deadline or backstop is aborted after 1 ms of TB1 without a record.
    (R78) -/
  | drainLimit (task : Fin 4096)
  /-- OCC_WINDOW: Every 1 ms of TB1 a tile's occupancy over the window is measured. (R93) -/
  | occWindow (tile : Fin 32)
  /-- GRACE_END: At the end of the 20 ms grace time a still-hot tile with high occupancy is GATED. (R94) -/
  | graceEnd (tile : Fin 32)
  /-- ILL: An illegal instruction aborts the instance, commits safe values and disables the task. (R102) -/
  | ill (eng : Fin 512)
  /-- NOP: The instruction does nothing. (R103) -/
  | nop (eng : Fin 512)
  /-- END: END retires once all earlier loads and stores have completed, ending the instance. (R118) -/
  | endInstr (eng : Fin 512)
  /-- BR: A branch is taken according to COND applied to the predicate. (R119) -/
  | branch (eng : Fin 512)
  /-- ADD: Saturating lane addition. (R103) -/
  | add (eng : Fin 512)
  /-- SUB: Saturating lane subtraction. (R103) -/
  | sub (eng : Fin 512)
  /-- ADDW: Wrapping lane addition. (R103) -/
  | addw (eng : Fin 512)
  /-- SUBW: Wrapping lane subtraction. (R103) -/
  | subw (eng : Fin 512)
  /-- MIN: Signed lane minimum. (R103) -/
  | minLane (eng : Fin 512)
  /-- MAX: Signed lane maximum. (R103) -/
  | maxLane (eng : Fin 512)
  /-- ABS: Saturating absolute value per lane. (R103) -/
  | absLane (eng : Fin 512)
  /-- NEG: Saturating negation per lane. (R103) -/
  | neg (eng : Fin 512)
  /-- AND: Bitwise AND per lane. (R103) -/
  | andLane (eng : Fin 512)
  /-- OR: Bitwise OR per lane. (R103) -/
  | orLane (eng : Fin 512)
  /-- XOR: Bitwise XOR per lane. (R103) -/
  | xorLane (eng : Fin 512)
  /-- SHL: Saturating left shift per lane. (R103) -/
  | shl (eng : Fin 512)
  /-- SHR: Arithmetic right shift per lane. (R103) -/
  | shr (eng : Fin 512)
  /-- SHRR: Rounding right shift per lane. (R105) -/
  | shrr (eng : Fin 512)
  /-- MUL: Saturating multiply with rounding shift per lane. (R103) -/
  | mul (eng : Fin 512)
  /-- DIV: Pre-shifted saturating division per lane, with divide-by-zero handling. (R110) -/
  | div (eng : Fin 512)
  /-- MOV: Lane copy. (R103) -/
  | mov (eng : Fin 512)
  /-- BCST: Broadcast one lane of VA to all enabled lanes. (R103) -/
  | bcst (eng : Fin 512)
  /-- MOVL: Copy one lane of VA into one lane of VD. (R103) -/
  | movl (eng : Fin 512)
  /-- HSUM: Saturating sum of enabled lanes into lane 0. (R103) -/
  | hsum (eng : Fin 512)
  /-- CMPEQ: Lane equality compare into a predicate. (R103) -/
  | cmpeq (eng : Fin 512)
  /-- CMPNE: Lane inequality compare into a predicate. (R103) -/
  | cmpne (eng : Fin 512)
  /-- CMPLT: Signed less-than compare into a predicate. (R103) -/
  | cmplt (eng : Fin 512)
  /-- CMPLE: Signed less-or-equal compare into a predicate. (R103) -/
  | cmple (eng : Fin 512)
  /-- CMPLTU: Unsigned less-than compare into a predicate. (R103) -/
  | cmpltu (eng : Fin 512)
  /-- PAND: Predicate AND. (R103) -/
  | pand (eng : Fin 512)
  /-- POR: Predicate OR. (R103) -/
  | por (eng : Fin 512)
  /-- PNOT: Predicate NOT. (R103) -/
  | pnot (eng : Fin 512)
  /-- PSET: Set a predicate to an immediate mask. (R103) -/
  | pset (eng : Fin 512)
  /-- LDI: Load a sign-extended 16-bit immediate. (R103) -/
  | ldi (eng : Fin 512)
  /-- LDIH: Load an immediate into the upper 16 bits. (R103) -/
  | ldih (eng : Fin 512)
  /-- ADDI: Saturating addition of a signed 15-bit immediate. (R103) -/
  | addi (eng : Fin 512)
  /-- CMUL: Coefficient product with rounding and saturation. (R107) -/
  | cmul (eng : Fin 512)
  /-- CLD: Load a raw coefficient word. (R103) -/
  | cld (eng : Fin 512)
  /-- CMAC: Add an aligned coefficient product to the accumulator. (R108) -/
  | cmac (eng : Fin 512)
  /-- CMSU: Subtract an aligned coefficient product from the accumulator. (R108) -/
  | cmsu (eng : Fin 512)
  /-- CLRA: Clear accumulator lanes. (R103) -/
  | clra (eng : Fin 512)
  /-- ADDA: Add a lane value into the accumulator. (R103) -/
  | adda (eng : Fin 512)
  /-- ACCR: Read the accumulator with rounding shift and saturation. (R109) -/
  | accr (eng : Fin 512)
  /-- ACCL: Load a lane value into the accumulator. (R103) -/
  | accl (eng : Fin 512)
  /-- LD: Load from the task's tile memory, checked against tables and locks. (R113) -/
  | ldTile (eng : Fin 512)
  /-- ST: Store to the task's tile memory, checked against tables and locks. (R113) -/
  | stTile (eng : Fin 512)
  /-- LDX: Gather load of tile memory words indexed per lane. (R113) -/
  | ldx (eng : Fin 512)
  /-- GLD: Issue a global load from a 49-bit address. (R114) -/
  | gld (eng : Fin 512)
  /-- GLD_RESPONSE: The result or refusal of an outstanding global load arrives and is written or discarded. (R114) -/
  | gldResponse (task : Fin 4096) (num : Nat)
  /-- GST: Issue a posted global store. (R114) -/
  | gst (eng : Fin 512)
  /-- GST_COMPLETE: An outstanding global store completes or is refused, possibly releasing a waiting END. (R118) -/
  | gstComplete (task : Fin 4096) (num : Nat)
  /-- SMP: Read the latest sample word of a sensor channel with its validity. (R115) -/
  | smp (eng : Fin 512)
  /-- TBR: Read a timebase, trigger time, deadline or backstop value. (R116) -/
  | tbr (eng : Fin 512)
  /-- OUT: Stage a value for an output entry. (R117) -/
  | outStage (eng : Fin 512)
  /-- FLG: Copy FLAGS into a lane once earlier flag-setting instructions completed. (R103) -/
  | flg (eng : Fin 512)
  /-- CONTROL_ROUND: Every 20 ms the HPC snapshots inputs, applies modes, anticipates, arbitrates and writes changed
    targets. (R126) -/
  | controlRound (x : RoundInputs) (late : Option Nat)
  /-- ROUND_OVERRUN: A round missing its 5 ms deadline drops its unissued writes and sets ROUND_OVR. (R127) -/
  | roundOverrun
  /-- HPC_WRITE_DENIED: A refusal of an HPC target write returns and sets WRITE_DENIED. (R125) -/
  | hpcWriteDenied (fn : Fin 31)
  /-- OPTIMISER_PROPOSAL: Every PROPOSE_S seconds the optimiser issues a new proposal or exploration step. (R141) -/
  | optimiserProposal
  /-- FIELD_LOAD: A write of HPC_FIELD.SLOT starts loading that slot's surfaces from the journal. (R142) -/
  | fieldLoad (slot : Fin 64)
  /-- FIELD_LOAD_DONE: Loading of a field slot completes and FIELD_LOADING clears. (R142) -/
  | fieldLoadDone
  /-- SURFACE_SAVE: Every 10 min of TB1 the surfaces of the current slot are written to the journal. (R142) -/
  | surfaceSave
  /-- SETPOINT_ARRIVAL: A SOL setpoint arrives at its slice, is clamped and is used from the next sample instant.
    (R154) -/
  | setpointArrival (c : Fin 64)
  /-- CURRENT_SAMPLE: At a sample instant the slice converts current and computes the new duty. (R152) -/
  | currentSample (c : Fin 64) (code : BitVec 16) (cnt : Nat)
  /-- PWM_EDGE: The period counter reaches an edge and the half-bridge passes between ON, DEAD and RECIRC. (R155) -/
  | pwmEdge (c : Fin 64)
  /-- PWM_PHASE_TRIGGER: A PWM-phase trigger loads the channel's period counter with SOL_PHASE.OFFSET. (R158) -/
  | pwmPhaseTrigger (c : Fin 64)
  /-- COIL_BAND_UPDATE: Every 10 ms the slice estimates coil resistance and updates the temperature band. (R160) -/
  | coilBandUpdate (c : Fin 64)
  /-- PULLIN_TIMEOUT: No dip within WIN_MS ends pull-in with ARM_FAIL and an ARMATURE_NO_MOVE record. (R163) -/
  | pullinTimeout (c : Fin 64)
  /-- TRIP_ASSERT: An accepted trip assertion switches off all mapped channels within 2 µs, latches them and raises
    TRIP records. (R168) -/
  | tripAssert (t : Fin 4)
  /-- TRIP_RELEASE: An accepted trip release changes the filtered level. (R168) -/
  | tripRelease (t : Fin 4)
  /-- SOL_TRIP_CLEAR: A write of SOL_CTRL.TRIP_CLR clears the trip latch or is refused while a mapped input is
    asserted. (R169) -/
  | solTripClear (c : Fin 64)
  /-- SOL_FAULT_CLEAR: A write of SOL_CTRL.FLT_CLR clears FLT and its causes unless over-temperature persists. (R171)
    -/
  | solFaultClear (c : Fin 64)
  /-- SOL_ENABLE: A write of SOL_CTRL.EN = 1 allows the channel to drive the next setpoint that arrives. (R167) -/
  | solEnable (c : Fin 64)
  /-- SOL_DISABLE: A write of SOL_CTRL.EN = 0 ends the period at once and takes the channel through FAST to OFF.
    (R167) -/
  | solDisable (c : Fin 64)
  /-- COMPANION_OVERTEMP: A companion junction above 175 °C sets OTEMP and FLT on every channel of the companion.
    (R171) -/
  | companionOvertemp (k : Fin 8) (temp : Int)
  /-- LINK_FRAME: An actuator-link frame reaches a companion, refreshing its watchdog and ending watchdog expiry after
    CONFIG_DONE. (R172) -/
  | linkFrame (k : Fin 16)
  /-- WATCHDOG_EXPIRY: No link frame for 50 ms sets WD_EXPIRED and puts the companion into limp-home. (R172) -/
  | watchdogExpiry (k : Fin 16)
  /-- LIMP_HOME_ENTRY: Within 10 µs of the compute side losing power or entering reset, each companion enters limp-
    home. (R192) -/
  | limpHomeEntry
  /-- LIMP_PIN_CHANGE: A LIMP pin level stable for 1 ms is accepted and mapped channels follow it. (R193) -/
  | limpPinChange (p : Fin 8) (high : Bool)
  /-- LIMP_RELEASE: A write of 1 to LSW_LIMP_REL releases a companion's channels from their limp pins. (R194) -/
  | limpRelease (zs8 : BitVec 8) (zp16 : BitVec 8)
  /-- FEED_UNDERVOLTAGE: A feed below 3.0 V switches off its bank's switch channels and its ZS8's valve channels and
    sets FEED_UV. (R190) -/
  | feedUndervoltage (k : Fin 8) (mv : Nat)
  /-- FEED_RECOVERY: A feed at or above 3.5 V for 10 ms returns its channels to the command or setpoint in force.
    (R190) -/
  | feedRecovery (k : Fin 8) (mv : Nat) (since : Nat)
  /-- LSW_COMMAND: An LSW command reaches its channel and is applied or stored. (R177) -/
  | lswCommand (c : Fin 128)
  /-- SENSE_SAMPLE: Every 10 µs a channel digitises its current into a sense code. (R179) -/
  | senseSample (c : Fin 128) (ua : Nat)
  /-- LSW_SHORT: The active limit acting 50 µs without a break switches the channel off with SHORT and FLT. (R181) -/
  | lswShort (c : Fin 128) (since : Nat) (peak : Nat)
  /-- LSW_OVERLOAD: Current above OC_THRESH beyond the blank or 1 ms switches the channel off with OVERLOAD and FLT.
    (R181) -/
  | lswOverload (c : Fin 128) (since : Nat) (peak : Nat)
  /-- LAMP_LIMIT_OFF: A lamp channel switches off on 1 ms of active limit or overload and retries or latches
    RETRY_EXH. (R182) -/
  | lampLimitOff (c : Fin 128) (limit : Bool) (since : Nat) (peak : Nat)
  /-- LSW_RETRY: 2 ms after a lamp off edge the channel switches on again and RETRY_CNT increments. (R182) -/
  | lswRetry (c : Fin 128)
  /-- RETRY_EPISODE_END: After 100 ms on without an event RETRY_CNT returns to 0. (R183) -/
  | retryEpisodeEnd (c : Fin 128)
  /-- FEED_SHED: With feed current over a limit the companion sheds its highest-ranked on channel, once per 1 ms.
    (R175) -/
  | feedShed (k : Fin 8) (feed : Nat) (since : Nat)
  /-- SHED_EPISODE_END: A shed episode ends after the feed current has stayed within limits for 100 ms. (R175) -/
  | shedEpisodeEnd (k : Fin 8) (feed : Nat) (since : Nat)
  /-- LSW_JUNCTION_OVERTEMP: A channel junction above 175 °C switches the channel off with OTEMP, FLT and a record.
    (R184) -/
  | lswJunctionOvertemp (c : Fin 128) (temp : Int)
  /-- LSW_FAULT_CLEAR: A write of LSW_CTRL.FLT_CLR clears FLT and its causes unless the junction is 165 °C or above.
    (R184) -/
  | lswFaultClear (c : Fin 128)
  /-- LSW_TRIP_CLEAR: A write of LSW_CTRL.TRIP_CLR clears the trip latch or is refused as for valve channels. (R187)
    -/
  | lswTripClear (c : Fin 128)
  /-- LSW_ENABLE: A write of LSW_CTRL.EN = 1 lets the channel follow the next command that arrives. (R178) -/
  | lswEnable (c : Fin 128)
  /-- LSW_DISABLE: A write of LSW_CTRL.EN = 0 switches the channel off at once and cancels retries. (R178) -/
  | lswDisable (c : Fin 128)
  /-- OPEN_LOAD_CHECK: Every 1 ms an off channel compares its output voltage and starts or ends an open-load episode.
    (R185) -/
  | openLoadCheck (c : Fin 128) (mv : Nat)
  /-- OPEN_LOAD_DISABLE: A write of OL_EN = 0 ends any open-load episode. (R185) -/
  | openLoadDisable (c : Fin 128)
  /-- AIN_WORD: At each decimation boundary an AIN channel delivers a new sample word, invalid after a change. (R200)
    -/
  | ainWord (a : Fin 64) (pins : List Int) (exc : Nat)
  /-- AIN_CFG_WRITE: A write to AIN_CFG takes effect at the next word boundary and invalidates the next N words.
    (R202) -/
  | ainCfgWrite (a : Fin 64) (v : Word)
  /-- EXCITATION_FAULT: An excitation output leaving 4.75–5.25 V or in current limit sets EXC_FAULT for its group.
    (R199) -/
  | excitationFault (g : Fin 4) (mv : Nat) (limited : Bool)
  /-- IMP_SAMPLE: Every 2 µs an impact input is sampled and a hit counted when the threshold is crossed after HOLDOFF.
    (R204) -/
  | impSample (input : Fin 16) (mv : Int)
  /-- SENSOR_SAMPLE_TRIGGER: A sensor-sample trigger closes an IMP interval or captures an AIN or ENC word. (R206) -/
  | sensorSampleTrigger (ch : Fin 112)
  /-- ENC_EDGE: A filtered encoder edge updates the channel count or quadrature pair. (R207) -/
  | encEdge (e : Fin 32) (level : Bool) (since : Nat) (partner : Option Nat)
  /-- HOUSEKEEPING_ROUND: Every 10 ms of TB1 the housekeeping controller reads channels 0–127 and thermal protection,
    throttle and cooling act. (R210) -/
  | housekeepingRound (x : List (Int × Bool)) (energy : BitVec 16)
  /-- REDUCTION_END: A reduction episode ends when K has stood at 1000 for 10 s. (R385) -/
  | reductionEnd
  /-- SHUTDOWN_RESTART: After every die reading has been below 120 °C for 10 s the housekeeping controller starts a
    full start. (R386) -/
  | shutdownRestart
  /-- COOL_HOST_WRITE: A write of COOL_HOST sets a host demand and clears HOST_SILENT. (R391) -/
  | coolHostWrite (f : Fin 10) (v : BitVec 10)
  /-- HOST_SILENT: No COOL_HOST write for HOST_WD_MS holds host demands and raises HOST_SILENT. (R391) -/
  | hostSilent
  /-- COOL_FAULT: An output at 30 % duty or more below MIN_RPM for 3 s sets FAULT and raises COOL_FAULT. (R392) -/
  | coolFault (f : Fin 10)
  /-- COOL_FAULT_CLEAR: FAULT clears after the speed has been at or above MIN_RPM for 3 s. (R392) -/
  | coolFaultClear (f : Fin 10)
  /-- FRAME_START: A decoded Frame Start latches a pending address, applies parameters, matches a trigger capture and
    opens the frame. (R221) -/
  | frameStart (p : Fin 12) (vc : BitVec 2) (fnum : BitVec 16) (h : Header)
  /-- FRAME_END: A Frame End closes the frame and writes its frame record. (R224) -/
  | frameEnd (p : Fin 12) (vc : BitVec 2) (h : Header)
  /-- LONG_PACKET: A long packet is checked, corrected and written to its stream buffer or discarded. (R213) -/
  | longPacket (p : Fin 12) (vc : BitVec 2) (dt : BitVec 6) (h : Header) (vals : List Nat) (crcOk : Bool) (lost : Bool)
  /-- LINE_PACKET: A Line Start or Line End packet is accepted and ignored. (R213) -/
  | linePacket (p : Fin 12) (vc : BitVec 2) (h : Header)
  /-- STREAM_ADDRESS_COMMIT: A write of ST_COMMIT makes the shadow address pending, or late if too close to Frame
    Start. (R221) -/
  | streamAddressCommit (p : Fin 12) (str : Fin 4) (late : Bool)
  /-- PARAMETER_COMMIT: A write of PS_COMMIT queues the shadow parameter set for frame n + 1 + DELAY, or is refused.
    (R218) -/
  | parameterCommit (p : Fin 12) (delay : Fin 4) (late : Bool)
  /-- PIPELINE_ENABLE: A write of CAM_CTRL.EN = 1 enables the pipeline, or is refused while DRAINING. (R228) -/
  | pipelineEnable (p : Fin 12)
  /-- PIPELINE_DISABLE: A write of CAM_CTRL.EN = 0 disables, drains or aborts the pipeline per DIS_MODE. (R228) -/
  | pipelineDisable (p : Fin 12)
  /-- EXPOSURE_TRIGGER: An exposure trigger asserts CAM_TRIGp and captures the selected timebase. (R223) -/
  | exposureTrigger (p : Fin 12)
  /-- TRIGGER_PULSE_END: After WIDTH_US the CAM_TRIGp pulse ends. (R223) -/
  | triggerPulseEnd (p : Fin 12)
  /-- NO_FRAME: No primary Frame Start within TIMEOUT_MS of a trigger drops the capture and raises CAM_LATE. (R227) -/
  | noFrame (p : Fin 12)
  /-- NO_END: No Frame End within TIMEOUT_MS closes the frame with LINE_COUNT and raises CAM_LATE. (R227) -/
  | noEnd (p : Fin 12) (str : Fin 4)
  /-- NO_START: No Frame Start for 4 × TIMEOUT_MS on an enabled stream raises CAM_LATE once. (R227) -/
  | noStart (p : Fin 12) (str : Fin 4)
  /-- CCI_START: A write of CCI_CMD.START begins an I2C transfer unless BUSY. (R229) -/
  | cciStart (p : Fin 12) (cmd : Word)
  /-- CCI_DONE: An I2C transfer completes or ends on NACK, setting DONE and DONE_FCNT. (R229) -/
  | cciDone (p : Fin 12) (nack : Bool) (rx : List Byte)
  /-- POSE_UPDATE: Every 250 µs the fusion array integrates its sources into a new pose. (R236) -/
  | poseUpdate (pose : Pose) (fed : BitVec 3)
  /-- EPOCH: At each epoch the grid node moves, decays, fuses, checks, bins and publishes the grid. (R238) -/
  | epoch (head : List HeadOut)
  /-- SENSOR_DROPPED: An enabled sensor without accepted input for DROP_MS counts as dropped. (R247) -/
  | sensorDropped (sen : Fin 31)
  /-- EPOCH_ABANDON: An epoch not published by T_EPOCH + EPOCH_MS is abandoned and OVR set. (R240) -/
  | epochAbandon
  /-- MODEL_LOAD: A write of MODEL_CMD.LOAD copies a model image into the spare weight area or is refused. (R245) -/
  | modelLoad (m : Fin 8)
  /-- FRAME_INFERENCE: An ENCODER or IMAGE_RESULT slot runs on a DONE unmarked primary frame and writes its output.
    (R244) -/
  | frameInference (m : Fin 8) (p : Fin 12) (feats : List Feature) (words : List Int)
  /-- POINT_PACKET: A range-sensor point packet arrives and is accepted as observations or discarded. (R246) -/
  | pointPacket (e : Fin 6) (port : BitVec 16) (data : List Byte)
  /-- FUSION_ENABLE: A write of FUS_CTRL.EN = 1 starts from an empty grid, or is refused while DRAINING. (R250) -/
  | fusionEnable
  /-- FUSION_DISABLE: A write of FUS_CTRL.EN = 0 drains the epoch in progress and then disables the fusion array.
    (R250) -/
  | fusionDisable
  /-- CHANNEL_ASSIGN: A tracking channel is assigned to an antenna, signal and satellite and enters ACQ. (R257) -/
  | channelAssign (ch : Fin 384) (cands : List Candidate)
  /-- CHANNEL_RELEASE: A channel whose satellite has set 2° below the mask returns to IDLE. (R257) -/
  | channelRelease (ch : Fin 384) (elev : Int)
  /-- CORRELATOR_DUMP: Every 1 ms a channel delivers I and Q of its taps, triggering its tracking task. (R258) -/
  | correlatorDump (ch : Fin 384) (iq : List (Int × Int)) (cn0 : BitVec 8) (doppler : Int) (aid : Int) (osc : Option (Nat × Int))
  /-- SIGNAL_FOUND: Acquisition finds the signal and the channel enters PULL_IN. (R260) -/
  | signalFound (ch : Fin 384) (code : Nat) (doppler : Int) (pred : Int)
  /-- PULL_IN_LOCK: Phase lock held 100 ms moves the channel to TRACK. (R260) -/
  | pullInLock (ch : Fin 384) (since : Nat)
  /-- PULL_IN_TIMEOUT: No lock within 2 s returns the channel to ACQ. (R260) -/
  | pullInTimeout (ch : Fin 384)
  /-- COAST_ENTRY: C/N0 below CN0_LOSS for 20 ms moves the channel to COAST. (R260) -/
  | coastEntry (ch : Fin 384) (since : Nat) (sigV : Nat) (sigA : Nat)
  /-- COAST_EXIT: C/N0 recovered for 20 ms returns the channel to TRACK with the predicted phase-error check. (R261)
    -/
  | coastExit (ch : Fin 384) (since : Nat)
  /-- COAST_TIMEOUT: A coast beyond its limit returns the channel to ACQ and increments SLIPS. (R260) -/
  | coastTimeout (ch : Fin 384)
  /-- SPECTRUM_SCAN: Every 100 ms each band's spectrum engages notches and detects a full notch episode. (R263) -/
  | spectrumScan (ant : Bool) (band : Fin 3) (lines : List SpecLine)
  /-- NOTCH_RELEASE: A notch releases when its line has stood low for 1 s. (R263) -/
  | notchRelease (ant : Bool) (band : Fin 3) (k : Fin 8)
  /-- JAM_EVALUATION: Every 100 ms AGC and flatness are evaluated and jamming episodes start or end. (R264) -/
  | jamEvaluation (ant : Bool) (band : Fin 3) (agc : Int) (sf : BitVec 8)
  /-- NAV_SOLUTION: Every 10 ms the solver computes and publishes a navigation record. (R266) -/
  | navSolution (x : Solution)
  /-- NAV_SNAP: A write to GNSS_NAV_SNAP copies the latest navigation record into GNSS_NAV0–15. (R266) -/
  | navSnap
  /-- RTCM_FRAME: An RTCM frame arrives and is accepted or discarded. (R270) -/
  | rtcmFrame (frame : List Byte)
  /-- CORRECTION_EPOCH_CLOSE: A correction epoch closes on a final MSM or 200 ms after its first message. (R271) -/
  | correctionEpochClose
  /-- TIME_LOCK: A timing error of 50 ns or less held 10 s moves TIME_STATE to LOCKED and TB0 takes GNSS time. (R273)
    -/
  | timeLock (since : Nat) (gnss : Nat)
  /-- HOLDOVER_ENTRY: Loss of the timing solution moves TB0 into HOLDOVER with a GNSS_HOLDOVER ENTERED record. (R274)
    -/
  | holdoverEntry (err : Nat)
  /-- HOLDOVER_LIMIT: Holdover error or duration beyond its limit makes TB0 not valid and raises LIMIT. (R274) -/
  | holdoverLimit (err : Nat)
  /-- LOCK_RETURN: Lock returns in holdover and TB0 is slewed, stepped forward or held with a TIME_RESET. (R275) -/
  | lockReturn (gnss : Nat)
  /-- PPS_SECOND: At each whole second of TB0 PPS_OUT is released when driven. (R277) -/
  | ppsSecond
  /-- PPS_WIDTH_END: WIDTH_MS after the second PPS_OUT is held low. (R277) -/
  | ppsWidthEnd
  /-- NMEA_OUTPUT: At each output epoch the host sends one NMEA datagram. (R279) -/
  | nmeaOutput
  /-- GNSS_ENABLE: A write of GNSS_CTRL.EN = 1 starts every channel in ACQ. (R281) -/
  | gnssEnable
  /-- GNSS_DISABLE: A write of GNSS_CTRL.EN = 0 stops channels, solution and NMEA and puts TB0 in holdover. (R281) -/
  | gnssDisable (err : Nat)
  /-- MASS_FLOW_READ: Every 10 ms mass flow and moisture are read, substituted if invalid and attributed to the
    cutting instant. (R283) -/
  | massFlowRead
  /-- CELL_CLOSE: A map cell closes DELAY_MS + 100 ms after its last cutting instant and joins the open tile. (R286)
    -/
  | cellClose
  /-- EXPORT_START: A write of YLD_EXPORT.START begins the ISO 11783-10 export of a job. (R289) -/
  | exportStart
  /-- EXPORT_DONE: The export completes or overflows and sets EXPORT_DONE with EXP_LEN. (R289) -/
  | exportDone
  /-- JOB_OPEN: A write of JOB_OPEN opens a job with hour and day periods, or is refused. (R290) -/
  | jobOpen
  /-- JOB_CLOSE: A write of JOB_CLOSE puts the job in CLOSING. (R290) -/
  | jobClose
  /-- JOB_CLOSE_COMPLETE: DELAY_MS + 2 s after closing began the hour, day and job periods close and JOB_CLOSE is
    written. (R290) -/
  | jobCloseComplete
  /-- HOUR_CLOSE: Every 3600 s of TB1 the hour period closes and its successor opens. (R293) -/
  | hourClose
  /-- DAY_CLOSE: At the day boundary on TB1 the day period closes and its successor opens. (R293) -/
  | dayClose
  /-- CHECKPOINT: Every 1 s of TB1 the open periods are checkpointed to the journal. (R295) -/
  | checkpoint
  /-- ACCRUAL_ACCEPT: An accrual input level held 100 ms is accepted and dated back to its change. (R296) -/
  | accrualAccept (input : Fin 8)
  /-- JOURNAL_FLUSH: A journal page is written when full, 1 s after its first entry or on crank entry. (R394) -/
  | journalFlush
  /-- TRAINING_ATTEMPT: Every 1 ms a DOWN port attempts training. (R301) -/
  | trainingAttempt (p : Fin 8)
  /-- LINK_UP: Block lock, deskew and 10 µs of TRAIN flits bring the port UP. (R301) -/
  | linkUp (p : Fin 8)
  /-- LINK_DOWN: Loss of signal or sync errors take an UP port DOWN with a LINK_DOWN record. (R301) -/
  | linkDown (p : Fin 8) (sync : Nat)
  /-- TRAIN_FLIT: A TRAIN control flit is received, detecting a duplicate node address. (R301) -/
  | trainFlit (p : Fin 8) (sport : Fin 8) (snode : BitVec 9) (marker : BitVec 4) (preset : BitVec 2) (crc : BitVec 16)
  /-- CREDIT_FLIT: A CREDIT control flit returns credits per class to the egress port. (R311) -/
  | creditFlit (p : Fin 8) (n : List Nat) (crc : BitVec 16)
  /-- CREDIT_SEND: A CREDIT flit is sent once 8 credits of a class are pending or the oldest has waited 26 ns. (R311)
    -/
  | creditSend (p : Fin 8)
  /-- IDLE_FLIT: An IDLE control flit is received and has no effect. (R308) -/
  | idleFlit (p : Fin 8) (sync : BitVec 2)
  /-- FREEZE_FLIT: A FREEZE flit with an unseen pair is forwarded on other UP ports and freezes the node. (R338) -/
  | freezeFlit (p : Fin 8) (id : BitVec 16) (origin : BitVec 9) (crc : BitVec 16)
  /-- PACKET_FORWARD: A router checks a header and forwards it with credit, or discards it. (R313) -/
  | packetForward (e : Fin 8) (arr : Option (Fin 8 × Packet × BitVec 16 × BitVec 16))
  /-- RD_REQ: A read request reaches its destination and is issued under a proxy master ID. (R315) -/
  | rdReq (p : Fin 8) (k : Packet) (pcrc : BitVec 16) (edge : Nat)
  /-- RD_RSP: A read response returns to its requesting master. (R306) -/
  | rdRsp (p : Fin 8) (k : Packet) (pcrc : BitVec 16)
  /-- WR_REQ: A write request reaches its destination and is issued under a proxy master ID. (R315) -/
  | wrReq (p : Fin 8) (k : Packet) (pcrc : BitVec 16) (edge : Nat)
  /-- WR_RSP: A write response returns to its requesting master. (R306) -/
  | wrRsp (p : Fin 8) (k : Packet) (pcrc : BitVec 16)
  /-- STREAM: A STREAM packet is delivered through its receive entry or discarded. (R317) -/
  | streamPacket (p : Fin 8) (k : Packet) (pcrc : BitVec 16)
  /-- FAULT: A FAULT packet is coalesced on its way and appended to the conductor's log. (R330) -/
  | faultPacket (p : Fin 8) (k : Packet) (pcrc : BitVec 16)
  /-- BEACON: A BEACON updates the best conductor and parent. (R321) -/
  | beaconPacket (p : Fin 8) (k : Packet) (pcrc : BitVec 16)
  /-- BEACON_SEND: Every 100 µs each UP port sends a BEACON. (R320) -/
  | beaconSend (p : Fin 8)
  /-- TOPO: A TOPO packet reaches the conductor with a node's port states. (R326) -/
  | topoPacket (p : Fin 8) (k : Packet) (pcrc : BitVec 16)
  /-- TOPO_SEND: A node sends TOPO to the conductor after a port state change or a change of conductor. (R326) -/
  | topoSend
  /-- ROUTE_COMPUTE: The conductor computes legal routes and sends ROUTE packets with a new epoch. (R327) -/
  | routeCompute
  /-- ROUTE: A ROUTE chunk is received and used at once. (R327) -/
  | routePacket (p : Fin 8) (k : Packet) (pcrc : BitVec 16)
  /-- TIME_SYNC: A SYNC sets the child's FT from the carried value plus link delay and is repeated downwards. (R336)
    -/
  | timeSync (p : Fin 8) (k : Packet) (pcrc : BitVec 16)
  /-- SYNC_SEND: Every 1 ms the conductor sends a SYNC to its children. (R336) -/
  | syncSend
  /-- DELAY_MEASURE: Every 10 ms a node sends a DELAY_REQ on its parent link. (R336) -/
  | delayMeasure (t1 : Nat)
  /-- DELAY_REQ: A DELAY_REQ is stamped and answered with a DELAY_RSP. (R336) -/
  | delayReq (p : Fin 8) (k : Packet) (pcrc : BitVec 16) (t2 : Nat) (t3 : Nat)
  /-- DELAY_RSP: A DELAY_RSP yields the parent link delay. (R336) -/
  | delayRsp (p : Fin 8) (k : Packet) (pcrc : BitVec 16) (t4 : Nat)
  /-- TB0_PAIR: A TB0 and FT pair from the GNSS host sets the node's TB0. (R337) -/
  | tb0Pair (p : Fin 8) (k : Packet) (pcrc : BitVec 16)
  /-- TB0_PAIR_SEND: Every 10 ms the GNSS host sends a TB0 pair to every node. (R337) -/
  | tb0PairSend
  /-- TB0_PAIR_TIMEOUT: No pair within 100 ms makes a non-host node's TB0 not valid. (R337) -/
  | tb0PairTimeout
  /-- ROLE_TAKE: A TAKE asks the holder for the conductor role, answered with GRANT or REFUSE. (R323) -/
  | roleTake (p : Fin 8) (k : Packet) (pcrc : BitVec 16)
  /-- ROLE_GIVE: A GIVE offers a candidate the conductor role, answered with GRANT or REFUSE. (R323) -/
  | roleGive (p : Fin 8) (k : Packet) (pcrc : BitVec 16)
  /-- ROLE_GRANT: A GRANT transfers the conductor role. (R323) -/
  | roleGrant (p : Fin 8) (k : Packet) (pcrc : BitVec 16)
  /-- ROLE_REFUSE: A REFUSE ends a role request with a reason. (R323) -/
  | roleRefuse (p : Fin 8) (k : Packet) (pcrc : BitVec 16)
  /-- ROLE_REQUEST: A write of FAB_ROLE.REQ sends a TAKE or GIVE to PEER. (R323) -/
  | roleRequest (v : Word)
  /-- GIVE_TIMEOUT: No answer to a GIVE within 10 ms returns the role to the holder. (R323) -/
  | giveTimeout
  /-- ROLE_HOLDOFF_END: 500 ms after a collision the higher node may send role requests again. (R324) -/
  | roleHoldoffEnd (peer : BitVec 9)
  /-- ROLE_ELECTION: A candidate that has been its own best conductor for 20 ms takes the role. (R322) -/
  | roleElection
  /-- CONDUCTOR_LOST: A conductor sequence not advancing for 5 ms is treated as lost. (R322) -/
  | conductorLost
  /-- CONTRIB: A CONTRIB packet at the grid node becomes an observation of a remote sensor. (R319) -/
  | contribPacket (p : Fin 8) (k : Packet) (pcrc : BitVec 16)
  /-- REMOTE_REQUEST_SEND: A remote request leaves once one of the master's 64 tags is free. (R314) -/
  | remoteRequestSend (x : Option (Fin 64))
  /-- RESPONSE_TIMEOUT: A remote request without response after RSP_TO_US completes with NAK_TIMEOUT. (R314) -/
  | responseTimeout (mid : BitVec 10) (tag : BitVec 6)
  /-- COALESCE_WINDOW_END: At the end of a 1 ms window a summary record is emitted if records were counted. (R331) -/
  | coalesceWindowEnd (p : Fin 9)
  /-- CRC_EPISODE_END: A CRC error episode ends after 100 ms without errors. (R307) -/
  | crcEpisodeEnd (p : Fin 8)
  /-- TRANSFER_START: A KIND 5 trigger or XD_CTRL.GO starts a transfer descriptor, or is dropped while BUSY. (R318) -/
  | transferStart (x : Fin 64) (go : Bool)
  /-- TRANSFER_DONE: All responses of a transfer have returned and DONE and LAST_STATUS are set. (R318) -/
  | transferDone (x : Fin 64)
  /-- PORT_ENABLE: A write of PORT_CTRL.EN = 1 starts training. (R334) -/
  | portEnable (p : Fin 8)
  /-- PORT_DISABLE: A write of PORT_CTRL.EN = 0 cuts the port and answers its requests with NAK_PORT_DOWN. (R334) -/
  | portDisable (p : Fin 8)
  /-- ETH_FRAME: An Ethernet frame arrives and is answered, carried or discarded. (R340) -/
  | ethFrame (e : Fin 6) (f : EthIn)
  /-- ETH_DISABLE: A write of ETH_CTRL.EN = 0 drops the link and discards queued frames. (R341) -/
  | ethDisable (e : Fin 6)
  /-- CAN_FRAME_RECEIVE: A CAN frame is filtered and stored in the receive ring. (R343) -/
  | canFrameReceive (k : Fin 8) (f : CanFrame) (full : Bool) (te : BitVec 16) (re : BitVec 16)
  /-- CAN_TRANSMIT: A CAN frame from the transmit ring completes on the bus. (R343) -/
  | canTransmit (k : Fin 8) (own : Bool) (te : BitVec 16) (re : BitVec 16)
  /-- CAN_RESTART: A write of CAN_CTRL.RESTART rejoins a bus-off controller. (R342) -/
  | canRestart (k : Fin 8)
  /-- BUS_OFF_RECOVERY: With AUTO_REC a bus-off controller rejoins after 128 × 11 recessive bits. (R342) -/
  | busOffRecovery (k : Fin 8)
  /-- CAN_DISABLE: A write of CAN_CTRL.EN = 0 lets the frame on the bus finish and the controller then leaves the bus.
    (R344) -/
  | canDisable (k : Fin 8) (bus : Option Bool)
  /-- ISOBUS_MESSAGE: An ISO 11783 message is handled for address claim, transport or task controller. (R345) -/
  | isobusMessage (k : Fin 2) (f : CanFrame)
  /-- ENGINE_REQUEST_SEND: Every 100 ms the HF30 target is sent to ENG_ADDR in Proprietary A. (R346) -/
  | engineRequestSend
  /-- PGN_TIMEOUT: A received J1939 value becomes invalid after 500 ms without its PGN. (R346) -/
  | pgnTimeout (group : Fin 3)
  /-- FLEET_TAKE: A fleet ROLE TAKE asks the receiver to become follower. (R349) -/
  | fleetTake (d : List Byte)
  /-- FLEET_GIVE: A fleet ROLE GIVE offers the receiver the leader role. (R349) -/
  | fleetGive (d : List Byte)
  /-- FLEET_GRANT: A fleet ROLE GRANT sets the requester's role on receipt. (R349) -/
  | fleetGrant (d : List Byte)
  /-- FLEET_REFUSE: A fleet ROLE REFUSE ends the request. (R349) -/
  | fleetRefuse (d : List Byte)
  /-- FLEET_ROLE_REQUEST: A write of FLEET_ROLE.REQ sends a TAKE or GIVE to FLEET_PEER. (R349) -/
  | fleetRoleRequest (v : Word)
  /-- FLEET_ROLE_TIMEOUT: A fleet role request without answer within 1 s counts as refused. (R349) -/
  | fleetRoleTimeout
  /-- FLEET_HOLDOFF_END: 500 ms after a fleet collision the higher-ID node may send ROLE again. (R350) -/
  | fleetHoldoffEnd (peer : BitVec 32)
  /-- STATE_SEND: Every STATE_S seconds a STATE datagram is sent. (R348) -/
  | stateSend (fill : BitVec 16)
  /-- UNLOAD: An UNLOAD message from the peer updates the coordination state. (R351) -/
  | unloadMessage (d : List Byte)
  /-- UNLOAD_SEND: Every 100 ms while paired an UNLOAD message is sent. (R348) -/
  | unloadSend (lat : Word) (lon : Word) (fill : BitVec 16) (along : Int) (across : Int)
  /-- UNLOAD_READY: Follower errors within tolerance for 1 s move the state to READY. (R351) -/
  | unloadReady
  /-- UNLOAD_LOST: No UNLOAD message for 500 ms moves the state to LOST. (R351) -/
  | unloadLost
  /-- FLEET_UNPAIR: A write of FLEET_CTRL.UNPAIR returns the state to IDLE. (R351) -/
  | fleetUnpair
  /-- RTK: An RTK datagram is handed to the GNSS host and relayed to the follower. (R352) -/
  | rtkDatagram (d : List Byte)
  /-- LEDGER_SEND: LEDGER datagrams are sent from YLD_ACK + 1 with up to 4 unacknowledged. (R353) -/
  | ledgerSend
  /-- LEDGER_ACK: A LEDGER_ACK raises YLD_ACK if within range, otherwise is discarded. (R353) -/
  | ledgerAck (d : List Byte)
  /-- LEDGER_RESEND_TIMEOUT: No ACK raising YLD_ACK for 5 s restarts sending from YLD_ACK + 1. (R353) -/
  | ledgerResendTimeout
  /-- FLEET_DISABLE: A write of FLEET_CTRL.EN = 0 stops sending and sets the state to IDLE. (R353) -/
  | fleetDisable
  /-- LOG_READ_ADVANCE: A write of ACC_LOG_RD advances the read index if it stays between RD and WR. (R363) -/
  | logReadAdvance (v : Word)
  /-- CRANK_ENTRY: A supply below 6.0 V enters CRANK_HOLD with reduced LECLK and frozen outputs. (R368) -/
  | crankEntry (mv : Nat)
  /-- STORE_EXHAUSTED: An exhausted hold-up store enters CRANK_SLEEP with domains in retention. (R368) -/
  | storeExhausted (mv : Nat)
  /-- NORMAL_RETURN: A supply at or above 6.5 V for 10 ms returns to NORMAL and applies stored commands. (R370) -/
  | normalReturn (mv : Nat) (since : Nat)
  /-- SUPPLY_OFF: A supply below 3.0 V switches every output off and resets the module. (R368) -/
  | supplyOff (mv : Nat)
  /-- SUPPLY_HIGH: A supply above 32.0 V for 1 ms sets HIGH and raises a SUPPLY record. (R372) -/
  | supplyHigh (mv : Nat) (since : Nat)
  /-- HIGH_CLEAR: HIGH clears after the supply has been at or below 31.0 V for 1 s. (R372) -/
  | highClear (mv : Nat) (since : Nat)
  /-- HOLDUP_CHECK: 5 s after the start an uncharged store raises HOLDUP_LOW. (R369) -/
  | holdupCheck
  /-- DOMAIN_REQUEST: A write of PD_CTRL.ON = 1 queues an OFF domain. (R374) -/
  | domainRequest (d : Fin 64)
  /-- DOMAIN_OFF_REQUEST: A write of PD_CTRL.ON = 0 withdraws, stops or refuses the domain per pending work. (R379) -/
  | domainOffRequest (d : Fin 64)
  /-- DOMAIN_FORCE_OFF: A write of ON = 0 with FORCE = 1 ends pending work and stops the domain. (R380) -/
  | domainForceOff (d : Fin 64) (err : Nat)
  /-- DOMAIN_ADMIT: The wake sequencer admits the queue head when enough credits are free. (R376) -/
  | domainAdmit
  /-- RAMP_END: After the hold time the domain releases its credits and enters SETTLE. (R374) -/
  | rampEnd (d : Fin 64)
  /-- SETTLE_END: After the ready time the domain is ON. (R374) -/
  | settleEnd (d : Fin 64) (err : Nat)
  /-- DOMAIN_STOPPED: A STOPPING domain reaches OFF when its last admitted access completes. (R379) -/
  | domainStopped (d : Fin 64)
  /-- FULL_START: Reset release runs the boot procedure through verification, load, configuration read and commit.
    (R397) -/
  | fullStart (x : StartIn)
  /-- FAILED_START_RESTART: After a failed start holds reset for 1 s a new full start begins. (R398) -/
  | failedStartRestart
  /-- UPDATE_STAGE: A write of BOOT_UPD_CMD.STAGE starts verifying and writing a package into the other set. (R406) -/
  | updateStage
  /-- STAGE_COMPLETE: Staging ends with the set STAGED or FAILED with STAGE_FAIL. (R406) -/
  | stageComplete (nand : Option (Fin 64))
  /-- STAGE_ABORT: A write of ABORT stops staging at the next NAND page and leaves the set EMPTY. (R407) -/
  | stageAbort
  /-- STAGE_DISCARD: A write of DISCARD marks a STAGED set EMPTY. (R407) -/
  | stageDiscard
  /-- HELLO: A recovery HELLO binds the tool and returns module and set state. (R415) -/
  | recoveryHello (src : BitVec 128) (port : BitVec 16) (d : List Byte)
  /-- BEGIN: A recovery BEGIN clears the DRAM receive buffer. (R414) -/
  | recoveryBegin (src : BitVec 128) (port : BitVec 16) (d : List Byte)
  /-- DATA: A recovery DATA block is accepted at the next expected offset. (R414) -/
  | recoveryData (src : BitVec 128) (port : BitVec 16) (d : List Byte)
  /-- RECOVERY_COMMIT: A recovery COMMIT stages the received package and sets FAILS to 0. (R414) -/
  | recoveryCommit (src : BitVec 128) (port : BitVec 16) (d : List Byte)
  /-- RECOVERY_COMMIT_DONE: Staging of a recovery COMMIT completes and the reply is sent. (R415) -/
  | recoveryCommitDone (nand : Option (Fin 64))
  /-- OTP_WRITE: A recovery OTP_WRITE programs the next generation of a field group or is refused. (R403) -/
  | otpWrite (src : BitVec 128) (port : BitVec 16) (d : List Byte)
  /-- READ_LOG: A recovery READ_LOG returns up to 63 fault-log records. (R414) -/
  | readLog (src : BitVec 128) (port : BitVec 16) (d : List Byte)
  /-- RESTART: A recovery RESTART begins a full start once RECOVER_N is high. (R414) -/
  | recoveryRestart (src : BitVec 128) (port : BitVec 16) (d : List Byte)
  /-- BINDING_TIMEOUT: A tool binding ends after 60 s without a datagram. (R415) -/
  | bindingTimeout
  /-- TAP_RESET: TRST_N low resets every TAP to Test-Logic-Reset. (R441) -/
  | tapReset
  /-- BYPASS: The TAP selects its 1-bit bypass register. (R442) -/
  | bypass (k : Fin 17) (ir : BitVec 88) (x : ScanIn)
  /-- IDCODE: The TAP returns its 32-bit identification code. (R443) -/
  | idcode (k : Fin 17) (ir : BitVec 88) (x : ScanIn)
  /-- SAMPLE_PRELOAD: The boundary register samples pins or is preloaded without disturbing them. (R442) -/
  | samplePreload (k : Fin 17) (ir : BitVec 88) (x : ScanIn)
  /-- EXTEST: With FREEZE_HOLD the boundary register drives the pins. (R444) -/
  | extest (k : Fin 17) (ir : BitVec 88) (x : ScanIn)
  /-- CLAMP: With FREEZE_HOLD pins hold preloaded values with bypass selected. (R444) -/
  | clamp (k : Fin 17) (ir : BitVec 88) (x : ScanIn)
  /-- HIGHZ: With FREEZE_HOLD outputs go to high impedance. (R444) -/
  | highz (k : Fin 17) (ir : BitVec 88) (x : ScanIn)
  /-- EXTEST_PULSE: AC-coupled pins are tested with pulses under IEEE 1149.6. (R442) -/
  | extestPulse (k : Fin 17) (ir : BitVec 88) (x : ScanIn)
  /-- EXTEST_TRAIN: AC-coupled pins are tested with pulse trains under IEEE 1149.6. (R442) -/
  | extestTrain (k : Fin 17) (ir : BitVec 88) (x : ScanIn)
  /-- DBG_ACCESS: Update-DR issues one 32-bit access as master 1023 and Capture-DR returns the previous result. (R448)
    -/
  | dbgAccess (ir : BitVec 88) (x : ScanIn)
  /-- FREEZE_PIN: FREEZE_N low for 5 ns starts a freeze as origin and sends a FREEZE flit. (R445) -/
  | freezePin (high : Bool)
  /-- FREEZE_REGISTER: A write of DBG_CTRL.FREEZE by master 1023 starts a freeze as origin. (R445) -/
  | freezeRegister (mid : BitVec 10)
  /-- DBG_RESTART: A write of DBG_CTRL.RESTART while frozen starts a full start. (R447) -/
  | dbgRestart
  /-- MODEL_LOAD_COMPLETE: The copy of a model image into the spare weight area finishes, and the digest and header
    checks either refuse the load or leave it awaiting the switch at the next epoch. (R245) -/
  | modelLoadComplete (m : Fin 8)
  /-- ANTENNA_BIAS_FAULT: An antenna bias current moves below 5 mA or above 100 mA, or back within that range, and
    ANT_A_FLT or ANT_B_FLT follows it. (R432) -/
  | antennaBiasFault (ant : Bool) (ua : Nat)
  /-- ETH_LINK_CHANGE: The T1 link of an enabled Ethernet port comes up or goes down on the wire, and ETH_STATUS.LINK
    follows it. (R339) -/
  | ethLinkChange (e : Fin 6) (up : Bool)
  /-- BUS_OFF: Accumulated bus errors take a CAN controller into the bus-off state, from which it leaves only by
    automatic recovery or by RESTART. (R342) -/
  | busOff (k : Fin 8)
  /-- RECOVER_N_RELEASE: RECOVER_N goes high after a RESTART was accepted in Chrysalis, and the module then begins the
    full start it had been holding back. (R414) -/
  | recoverNRelease
  /-- PHY_LOCK_CHANGE: The D-PHY clock lane of a pipeline enters or leaves high-speed state, including ultra-low-power
    entry and exit, and PHY_LOCK follows it. (R212) -/
  | phyLockChange (p : Fin 12) (hs : Bool)
  /-- SOT_SYNC_ERROR: A start-of-transmission sync error on a pipeline's data lanes is counted in SOT_ERR. (R225) -/
  | sotSyncError (p : Fin 12)
deriving DecidableEq, Repr

end Sys2Proof
end

