-- ==== Sys2Proof/Machine/Operands.lean ====
section
/-!
DEFINITION. The fixed-point arithmetic that several blocks share (R104 to R110): saturation, rounding shifts,
coefficient words. Each saturating operation answers the value and whether a limit was applied.
Readings and choices: logs 15 of notes/assumptions.
-/

namespace Sys2Proof.Machine

/-- `x` limited to the signed numbers of `w` bits (R104). -/
def satN (w : Nat) (x : Int) : Int := max (-(2 ^ (w - 1) : Int)) (min (2 ^ (w - 1) - 1 : Int) x)

/-- sat32 and whether it applied a limit (R104). -/
def sat32 (x : Int) : Int × Bool := (satN 32 x, decide (satN 32 x ≠ x))

/-- sat64 and whether it applied a limit (R104). -/
def sat64 (x : Int) : Int × Bool := (satN 64 x, decide (satN 64 x ≠ x))

/-- The rounding shift rs(p, s): halves round toward plus infinity (R105). -/
def rshift (p : Int) (s : Nat) : Int := if s = 0 then p else (p + 2 ^ (s - 1)) / 2 ^ s

/-- MANT of a coefficient word, signed 27 bits (R106). -/
def coefMant (c : Word) : Int := (c.extractLsb' 5 27).toInt

/-- SHIFT of a coefficient word (R106). -/
def coefShift (c : Word) : Nat := (c.extractLsb' 0 5).toNat

/-- The coefficient product cp(x, c) and whether it saturated (R107). -/
def coefProd (x : Int) (c : Word) : Int × Bool := sat32 (rshift (x * coefMant c) (coefShift c))

/-- The exact product aligned to the accumulator's 16 fraction bits (R108). -/
def coefAlign (x : Int) (c : Word) : Int :=
  let p := x * coefMant c
  if coefShift c ≤ 16 then p * 2 ^ (16 - coefShift c) else p / 2 ^ (coefShift c - 16)

/-- DIV (R110): the quotient, whether it saturated, and whether it divided by zero. -/
def divLane (a b : Int) (sh : Nat) : Int × Bool × Bool :=
  if b = 0 then
    if a = 0 then (0, false, true) else if a > 0 then (2 ^ 31 - 1, true, true) else (-(2 ^ 31), true, true)
  else
    let q := sat32 ((a * 2 ^ sh).tdiv b)
    (q.1, q.2, false)

/-! ## Angles

An angle is in units of 2^-40 rad. The sums below are exact to 2^-38; where a result falls on a rounding limit, the reader of the
value says what is open. -/

/-- A whole turn. -/
def turn40 : Int := 6908435304715

/-- The sum 1 − q/k₁ (1 − q/k₂ (…)) for the divisors given from the innermost out, in 2^-40. -/
def series40 (q : Int) (l : List Int) : Int := l.foldl (fun s k => 2 ^ 40 - q * s / (k * 2 ^ 40)) (2 ^ 40)

/-- The angle between −half a turn and half a turn. -/
def wrap40 (x : Int) : Int := (x + turn40 / 2) % turn40 - turn40 / 2

/-- The sine of an angle, in 2^-40. -/
def sin40 (x : Int) : Int :=
  let y := wrap40 x
  let z := if turn40 / 4 < y then turn40 / 2 - y else if y < -(turn40 / 4) then -(turn40 / 2) - y else y
  z * series40 (z * z / 2 ^ 40) [210, 156, 110, 72, 42, 20, 6] / 2 ^ 40

/-- The cosine of an angle, in 2^-40. -/
def cos40 (x : Int) : Int :=
  let y : Int := (wrap40 x).natAbs
  let z := if turn40 / 4 < y then turn40 / 2 - y else y
  let v := series40 (z * z / 2 ^ 40) [182, 132, 90, 56, 30, 12, 2]
  if turn40 / 4 < y then -v else v

/-- The angle of `x` µrad. -/
def micro40 (x : Int) : Int := x * 2 ^ 40 / 1000000

/-- The greatest number of `k` bits above `r` whose square is at most `n`. -/
def isqrtFrom (n : Nat) : Nat → Nat → Nat
  | 0, r => r
  | k + 1, r => isqrtFrom n k (if (r + 2 ^ k) * (r + 2 ^ k) ≤ n then r + 2 ^ k else r)

/-- The integer part of the square root of a number below 2^128. -/
def isqrt (n : Nat) : Nat := isqrtFrom n 64 0

/-- A sample word (R196). -/
def sampleWord (valid : Bool) (reason seq : Nat) (value : Int) : Word :=
  BitVec.ofNat 32 (valid.toNat * 2 ^ 31 + reason % 16 * 2 ^ 27 + seq % 8 * 2 ^ 24 + (value % 2 ^ 24).toNat)

/-- SEQ of a sample word (R196). -/
def sampleSeq (w : Word) : Nat := (w.extractLsb' 24 3).toNat

/-- V of a sample word (R196). -/
def sampleValid (w : Word) : Bool := w.getLsbD 31

/-- VALUE of a sample word, sign-extended (R115, R196). -/
def sampleValue (w : Word) : Int := (w.extractLsb' 0 24).toInt

/-- The sample word that carries the lowest of the reasons that apply, or is valid where none does (R197): under
DISABLED (reason 1) VALUE is 0. -/
def reasonWord (reasons : List Nat) (seq : Nat) (value : Int) : Word :=
  match reasons.min? with
  | none => sampleWord true 0 seq value
  | some r => sampleWord false r seq (if r = 1 then 0 else value)

end Sys2Proof.Machine
end

