-- ==== Sys2Proof/Config.lean ====
section
/-!
DEFINITION. What the spec leaves open: the free values, one opaque constant for each kind, applied to the counter
`free` of the state (or to the operands the value depends on). No constant here has a body, so nothing can be proved
about its value.
-/

namespace Sys2Proof.Config

/-- Picoseconds by which TB2 is slewed on a tick, before the bound of 100 ppm (R42); log 24. -/
opaque tb2SlewPs : Nat → Nat

/-- Picoseconds by which TB0 is slewed on a tick, before the bound of 200 ppm (R273); log 24. -/
opaque tb0SlewPs : Nat → Nat

/-- Picoseconds by which TB0 advances on a tick of holdover (R274: the corrected reference oscillator); log 24. -/
opaque holdoverPs : Nat → Nat

/-- The housing temperature stays within 2 °C of its value at entry in the holdover entered at TB1 `at` (R276); log 24. -/
opaque holdoverSteady : Nat → Bool

/-- The task slot on T24 to T27 of the task that tracks channel `c`, and the sequence number of the instance that one of its dumps
triggers (R259); log 52. -/
opaque trackTask : (c free : Nat) → Fin 512 × BitVec 16

/-- Northward and eastward angle, 10^-9 °, of a distance in mm on the ellipsoid at a latitude of 10^-9 ° and a height in mm (R266);
log 52. -/
opaque northAngle : (lat hgt : Int) → (mm : Rat) → Int
opaque eastAngle : (lat hgt : Int) → (mm : Rat) → Int

/-- The alignment marker of a TRAIN flit (R308); log 55. -/
opaque trainMarker : Nat → Fin 16

/-- Picoseconds by which FT is slewed on a tick, before the bound of 200 ppm (R335); log 24. -/
opaque ftSlewPs : Nat → Nat

/-- The move of SLIP, in 0.001 %, that the slip trim makes, before the bounds of R41; log 24. -/
opaque slipMove : Nat → Int

/-- The goal of harvest function `n` where the spec names its rule and gives no value (R128, R130, R138); log 26. -/
opaque hpcRule : (n free : Nat) → Int

/-- The goal of HF07 and of HF09, which feeds the anticipated crop at the feeder (R138), from the crop volumes of the bins in 0.01
L/m², the swath width in mm, the density in g/L and the ground speed in mm/s; log 26. -/
opaque feederGoal : (n : Nat) → (volumes : List Nat) → (width dens speed : Nat) → Int

/-- Which of several settings that minimise the predicted J equally is proposed (R141), the nine of the set and the feed rate; log 64. -/
opaque hpcTie : Nat → List Int

/-- The reel ratio that the optimiser sets (R138), in LSB of HF04; log 26. -/
opaque hpcReel : Nat → Int

/-- The least and the greatest feed rate, g/s, over which the tenth variable is normalised (R139); log 64. -/
opaque feedRange : Nat × Nat

/-- The value of a coefficient of a response surface that the module holds, and the one that it holds for a value (R139); log 64. -/
opaque fitValue : BitVec 64 → Rat
opaque fitRound : Rat → BitVec 64

/-- Coefficient `k` of output `y` (0 L, 1 T, 2 Q), and element r, c of the gain, from which the fit of a crop starts (R139, R142);
log 64. -/
opaque fitStart : (crop y k : Nat) → BitVec 64
opaque gainStart : (r c : Nat) → BitVec 64

/-- Crop volume, 0.01 L/m², of a bin of low confidence ahead of which no bin has enough (R137); log 26. -/
opaque hpcBin : Nat → Nat

/-- The measured value in a ROAD_MODE record, whose condition is no measured value (R147); log 26. -/
opaque roadValue : Nat → Nat

/-- Byte offset of the mailbox of a task of another node in its tile (R129); log 26. -/
opaque remoteMbox : (node task : Nat) → Nat

/-- What TASK_CTRL of a task of another node holds when the HPC's write of MAN reaches it, for a write at `tb1` (R132); log 26. -/
opaque remoteCtrl : (node task tb1 : Nat) → BitVec 32

/-- Whether the slice rounds the sine of a dither phase, in millionths of a cycle, down or up to 1 / 32 768 (even: down; R159);
log 19. -/
opaque ditherRound : Nat → Int

/-- Which of two equally near old cells a moved cell takes, by row (0) or column (1): the higher one for false (R238); log 25. -/
opaque nearTie : (free cell axis : Nat) → Bool

/-- A format version of model images is supported (R245); log 25. -/
opaque modelVersion : Nat → Bool

/-- The raw code of a pin voltage in µV over an excitation of 0 V, which the spec does not state (R198); log 61. -/
opaque ratioCode : Int → Int

/-- Cells in the boundary register of TAP `k`, and the cell of a pin there (R442); log 49. -/
opaque boundaryCells : (k : Nat) → Nat
opaque boundaryCell : (k : Nat) → ScanPin → Nat

/-- Bad NAND blocks of journal region `r`, at most 4 (R394); log 23. -/
opaque badBlocks : (r : Nat) → Fin 5

/-- Dry mass, in 0.1 kg, where M_STD is 100 % or more (R284); log 27. -/
opaque dryMass : (sum : Int) → (mStd : Nat) → Int

/-- What the standard puts into the start tag of element `k` of the export's XML files beside what R289 states (ISO 11783-10); log 27. -/
opaque xmlText : (k : Nat) → List Byte

/-- Time and date of a record of the time log at TB0 (R289, ISO 11783-10); log 27. -/
opaque logTime : (tb0 : Nat) → List Byte

/-- Which of the position statuses without a position marks a cell as not valid (R289, ISO 11783-10); log 27. -/
opaque notValid : Fin 3

/-- The time in ns over which the mass of cell `k` of a job came in (R289), whose record gives its mass and not its duration; log 27. -/
opaque cellNs : (cells : List (List Byte)) → (k : Nat) → Nat

/-- Field `field` of NMEA sentence `sentence` (0 GGA, 1 RMC, 2 VTG), which nothing of the spec gives: HDOP, the course of a
machine that stands, the navigational status of RMC (R279); log 27. -/
opaque nmeaField : (sentence field : Nat) → (nav : List (BitVec 32)) → List Byte

/-- Decimals of a speed or course field, and whether its last one is rounded up (R279); log 27. -/
opaque nmeaPlaces : (sentence field : Nat) → Nat
opaque nmeaUp : (sentence field : Nat) → (nav : List (BitVec 32)) → Bool

/-- The address that a self-configurable node claims after it has lost its own (R345, ISO 11783-5); log 27. -/
opaque isoAddress : Nat → Byte

/-- The messages that the task controller client sends to one about its capabilities or its device description (R345); log 27. -/
opaque tcDevice : (data : List Byte) → List (List Byte)

/-- The value, above 119, that the receive error counter takes with a frame received in error passive (R342, ISO 11898-1); log 58. -/
opaque recAfter : Nat → Fin 9

/-- The lowest and the current configuration version of a GV512 image (R411); log 27. -/
opaque imageVersions : (image : List Byte) → Nat × Nat

/-- A configuration part that Molt has converted to the current version of the image (R411); log 27. -/
opaque moltConfig : (image config : List Byte) → List Byte

/-- The field-surface or checkpoint entry that Molt makes of an entry of an older version; none where the entry is of the
current version (R411); log 27. -/
opaque moltEntry : (image entry : List Byte) → Option (List Byte)

/-- The version of a journal entry lies below the lowest that the image accepts (R411); log 27. -/
opaque entryTooOld : (image entry : List Byte) → Bool

end Sys2Proof.Config
end

