-- ==== Sys2Proof/Machine/StateAfe.lean ====
section
/-!
DEFINITION. The state of the sensor front end beyond its registers (spec chapter 08).
-/

namespace Sys2Proof.Machine

/-- The settings of an AIN channel in force, effective values (R198, R200, R202). -/
structure AinCfg where
  en   : Bool
  mux  : Nat
  gain : Nat
  filt : Nat
  dec  : Nat
deriving DecidableEq, Repr

/-- The order of the sinc filter (R200). -/
def AinCfg.order (c : AinCfg) : Nat := c.filt + 3

/-- D, the samples of the modulator in a word (R200). -/
def AinCfg.decim (c : AinCfg) : Nat := 64 * 2 ^ c.dec

/-- An AIN channel: its settings in force, the invalid words that remain with their reason (R202, R203), and TB1 of its last
word (R200). -/
structure AinSt where
  cfg    : AinCfg
  remain : Nat
  reason : Nat
  at_    : Nat
  /-- The sums of the sinc filter over the samples, and what each of its differences saw last, one of each for an order (R200). -/
  sums   : List (BitVec 96)
  diffs  : List (BitVec 96)
deriving DecidableEq, Repr

/-- The channel with an empty filter of its order. -/
def AinSt.fresh (x : AinSt) : AinSt :=
  { x with sums := List.replicate x.cfg.order 0, diffs := List.replicate x.cfg.order 0 }

/-- An AIN channel at reset: EN 0, and the fields at their reset values. -/
def AinSt.zero : AinSt := ⟨⟨false, 0, 0, 0, 2⟩, 0, 0, 0, List.replicate 3 0, List.replicate 3 0⟩

/-- An IMP channel: the last rectified sample in mV, TB1 of the last hit, the hits since the last tick, the distance
accumulator in µm, and whether TB3 was not valid at a tick of the interval (R204 to R206). -/
structure ImpSt where
  rect    : Nat
  lastHit : Option Nat
  fresh   : Nat
  dist    : Nat
  tbLost  : Bool
deriving DecidableEq, Repr

/-- An IMP channel at reset. -/
def ImpSt.zero : ImpSt := ⟨0, none, 0, 0, false⟩

/-- An ENC channel: its filtered level and TB1 of the last change of it, its count, TB1 of the last counted edge, and whether
both inputs of its pair have changed on one tick since the last word (R207, R208). -/
structure EncSt where
  level   : Bool
  moved   : Option Nat
  count   : Int
  lastAt  : Option Nat
  quadErr : Bool
deriving DecidableEq, Repr

/-- An ENC channel at reset. -/
def EncSt.zero : EncSt := ⟨false, none, 0, none, false⟩

/-- The sensor front end beyond its registers. -/
structure AfeSt where
  ain : NMap AinSt
  imp : NMap ImpSt
  enc : NMap EncSt
deriving DecidableEq, Repr

/-- The sensor front end at reset. -/
def AfeSt.reset : AfeSt := ⟨[], [], []⟩

end Sys2Proof.Machine
end

