-- ==== Sys2Proof/Machine/Regs.lean ====
section
/-!
DEFINITION. The register file of the module (spec chapters 01 to 19): every register of every block map by its
manual name, its place (R16 and the offset formula of its chapter), its access types (R9) and its Reset column (R11).
-/

namespace Sys2Proof.Machine

/-- The registers of the block maps, by their manual names. -/
inductive RegName where
  | SYS_ID
  | SYS_STEP
  | SYS_NODE
  | SYS_STATUS
  | SYS_FAULT_LATCH
  | SYS_FAULT_MASK
  | TBU_CTRL
  | TBU_STATUS
  | TBU_SNAP
  | TB2_SET_LO
  | TB2_SET_HI
  | TB3_SLIP
  | TBU_SNAPVAL_LO
  | TBU_SNAPVAL_HI
  | TB_VALUE_LO
  | TB_VALUE_HI
  | TB_CFG
  | TB_SCALE
  | TB_INDEX
  | TB_STALL
  | TB_STAT
  | WIN_CFG
  | WIN_COUNT
  | SLOT_CTRL
  | SLOT_TARGET
  | SLOT_COUNT_LO
  | SLOT_COUNT_HI
  | SLOT_PERIOD_LO
  | SLOT_PERIOD_HI
  | SLOT_STATUS
  | SLOT_FIRES
  | TILE_STATUS
  | TILE_THR
  | TILE_OCC
  | TILE_TEMP_SEEN
  | ENG_STATUS
  | ENG_ISSUE
  | TASK_MAN
  | TASK_CNT
  | TASK_CTRL
  | TASK_DESC
  | TASK_STATUS
  | TASK_SEQ
  | SOL_TRIPMAP_LO
  | SOL_TRIPMAP_HI
  | SOL_TRIP_IN
  | SOL_BAND
  | SOL_COMP_STATUS
  | SOL_COMP_TEMP
  | SOL_CTRL
  | SOL_CFG
  | SOL_PWM
  | SOL_PHASE
  | SOL_GAIN
  | SOL_DITHER
  | SOL_DGAIN
  | SOL_ARM
  | SOL_ARM2
  | SOL_RCOLD
  | SOL_SP
  | SOL_MEAS
  | SOL_DUTY
  | SOL_RCOIL
  | SOL_STATUS
  | SOL_ARMTIME
  | LSW_TRIPMAP
  | LSW_TRIP_IN
  | LSW_LIMP
  | LSW_LIMP_REL
  | LSW_TOTAL
  | LSW_MUXSEL
  | LSW_BANK_STATUS
  | LSW_BANK_FEED
  | LSW_BANK_TEMP
  | LSW_CTRL
  | LSW_CFG
  | LSW_CMD
  | LSW_SENSE
  | LSW_STATUS
  | LSW_TEMP
  | HK_ROUND
  | AFE_EXC
  | AIN_CFG
  | AIN_OFFSET
  | AIN_SCALE
  | AIN_WORD
  | AIN_CAP
  | AIN_CAP_T
  | IMP_CFG
  | IMP_WORD
  | IMP_CAP_CNT
  | IMP_CAP_DIST
  | IMP_LIVE
  | ENC_CFG
  | ENC_WORD
  | ENC_PERIOD
  | ENC_CAP
  | HK_WORD
  | CAM_CTRL
  | CAM_CFG
  | CAM_STATUS
  | CAM_TRIG
  | CAM_ERR0
  | CAM_ERR1
  | CAM_ERR2
  | CCI_CMD
  | CCI_TX
  | CCI_RX
  | CCI_STATUS
  | PS_BLACK01
  | PS_BLACK23
  | PS_GAIN
  | PS_DPC
  | PS_COMMIT
  | PS_STATUS
  | ST_CFG
  | ST_SIZE
  | ST_PITCH
  | ST_ADDR_LO
  | ST_ADDR_HI
  | ST_COMMIT
  | ST_ACTIVE_LO
  | ST_ACTIVE_HI
  | ST_STATUS
  | ST_FCNT
  | FUS_CTRL
  | FUS_STATUS
  | FUS_EPOCH
  | FUS_PUB
  | FUS_GRID_CFG
  | FUS_GRID_LO
  | FUS_GRID_HI
  | FUS_HEADER
  | FUS_SWATH
  | FUS_VOL
  | FUS_CONS
  | FUS_DROP
  | FUS_SENS_EN
  | FUS_MASK
  | FUS_RS_PORT
  | FUS_RS_CNT
  | FUS_RS_GAP
  | CAL_CFG
  | CAL_R
  | CAL_T
  | CAL_F
  | CAL_C
  | CAL_K
  | CAL_PROJ
  | CAL_DEPTH_LO
  | CAL_DEPTH_HI
  | CAL_REMOTE
  | MODEL_CFG
  | MODEL_ADDR_LO
  | MODEL_ADDR_HI
  | MODEL_OUT_LO
  | MODEL_OUT_HI
  | MODEL_CMD
  | MODEL_STATUS
  | FUS_BIN
  | GNSS_CTRL
  | GNSS_STATUS
  | GNSS_SIG_EN
  | GNSS_MASK
  | GNSS_COAST
  | GNSS_HOLD
  | GNSS_HOLD_STAT
  | GNSS_TIME_OFS
  | GNSS_LEAP
  | GNSS_PPS
  | GNSS_RTCM_CFG
  | GNSS_RTCM_STAT
  | GNSS_RTCM_CNT
  | GNSS_BASE
  | GNSS_NAV_STREAM
  | GNSS_NAV_SNAP
  | GNSS_NMEA
  | GNSS_JAM_CFG
  | LEV_A
  | LEV_B
  | GNSS_NAV
  | JAM_STAT
  | NOTCH
  | CH_STATUS
  | CH_DOPPLER
  | CH_PHASE
  | CH_LOCK
  | HPC_CTRL
  | HPC_STATUS
  | HPC_ROUND
  | HPC_FIELD
  | HPC_OBS
  | HPC_WEIGHTS
  | HPC_REF0
  | HPC_REF1
  | HPC_REF2
  | HPC_REF3
  | HPC_ANT
  | HPC_DENS
  | HPC_FEED_FIX
  | HPC_FEED
  | HPC_ILK0
  | HPC_ILK1
  | HPC_ILK2
  | HPC_OPT
  | FN_CFG0
  | FN_CFG1
  | FN_MODE
  | FN_OPCMD
  | FN_TARGET
  | FN_PROPOSAL
  | FN_BAND
  | FN_OVR
  | FN_STATUS
  | FN_HOLD
  | LIM_MIN
  | LIM_MAX
  | LIM_UP
  | LIM_DN
  | DEF
  | YLD_CTRL
  | YLD_STATUS
  | YLD_JOB
  | YLD_SRC
  | YLD_DELAY
  | YLD_MOIST
  | YLD_CELL
  | YLD_DAY
  | YLD_ACC
  | YLD_ACC_STATE
  | YLD_AREA
  | YLD_DRY
  | YLD_HARV
  | YLD_SEQ
  | YLD_ACK
  | YLD_CNT
  | YLD_EXPORT
  | YLD_EXP_LO
  | YLD_EXP_HI
  | YLD_EXP_SIZE
  | YLD_EXP_LEN
  | YLD_DAYEND_LO
  | YLD_DAYEND_HI
  | FAB_CFG
  | FAB_STATUS
  | FAB_ROLE
  | FAB_FT_LO
  | FAB_FT_HI
  | FAB_TIME
  | FAB_FLTQ
  | FAB_SRX_MISS
  | FAB_COAL_LOCAL
  | FAB_EQ
  | PORT_CTRL
  | PORT_STATUS
  | PORT_ERR
  | PORT_ERR2
  | PORT_DELAY
  | PORT_COAL
  | PORT_NAK
  | PORT_FLITS
  | XD_SRC_LO
  | XD_SRC_HI
  | XD_DST_LO
  | XD_DST_HI
  | XD_CFG
  | XD_CTRL
  | XD_STATUS
  | STX_CFG
  | STX_DEST01
  | STX_DEST23
  | STX_SENT
  | SRX_CFG
  | SRX_ADDR_LO
  | SRX_ADDR_HI
  | SRX_CNT
  | FAB_ROUTE
  | ACC_CFG
  | ACC_LOG_LO
  | ACC_LOG_HI
  | ACC_LOG_N
  | ACC_LOG_WR
  | ACC_LOG_RD
  | ACC_LOG_LOST
  | ACC_REFUSED
  | ACC_ENT0
  | ACC_ENT1
  | ACC_ENT2
  | ACC_ENT3
  | ACC_TMAP
  | PWR_STATUS
  | PWR_HOLDUP
  | PWR_THERM
  | PWR_DRAM
  | PWR_WAKE
  | PWR_EVT
  | PD_CTRL
  | PD_STATUS
  | TZ_CFG
  | TZ_STAT
  | COOL_CFG
  | COOL_HOST
  | COOL_STATUS
  | COOL_MIN
  | COOL_WD
  | BOOT_STATUS
  | BOOT_SEQ
  | BOOT_FB_SEQ
  | BOOT_CFG_VER
  | BOOT_START_MS
  | BOOT_UPD_LO
  | BOOT_UPD_HI
  | BOOT_UPD_LEN
  | BOOT_UPD_CMD
  | BOOT_UPD_STATUS
  | BOOT_UPD_SEQ
  | BOOT_OTP_GEN
  | BOOT_MAC_LO
  | BOOT_MAC_HI
  | BOOT_SERIAL
  | BOOT_JRN
  | ETH_CTRL
  | ETH_STATUS
  | ETH_IP
  | ETH_CNT
  | CAN_CTRL
  | CAN_CFG
  | CAN_TXR_LO
  | CAN_TXR_HI
  | CAN_RXR_LO
  | CAN_RXR_HI
  | CAN_STATUS
  | CAN_FILT_EN
  | CAN_FILT_ID
  | CAN_FILT_MASK
  | ISO_CFG
  | ISO_NAME_LO
  | ISO_NAME_HI
  | J1939_CFG
  | FLEET_CTRL
  | FLEET_ID
  | FLEET_GW
  | FLEET_CFG
  | FLEET_TOL
  | FLEET_UNLOAD
  | FLEET_ROLE
  | FLEET_PEER
  | FLEET_STATUS
  | FLEET_CNT
  | DBG_STATUS
  | DBG_FRZ_ID
  | DBG_FRZ_T_LO
  | DBG_FRZ_T_HI
  | DBG_CTRL
  | DBG_CTX_SEL
  | DBG_CTX_DATA
deriving DecidableEq, Repr

/-- Where the words of a register stand: `base` is the byte offset of the first one from 0x00_4000_0000, then
`n1` groups `s1` bytes apart of `n2` words `s2` bytes apart; `first` is the number of the first index. -/
structure RegLayout where
  base  : Nat
  n1    : Nat
  s1    : Nat
  n2    : Nat
  s2    : Nat
  first : Nat
deriving DecidableEq, Repr

/-- The bits of each access type (R9); a bit in none of them is RO, STK or reserved, and a write leaves it. -/
structure RegMasks where
  rw  : Nat
  w1c : Nat
  wo  : Nat
  lck : Nat
deriving DecidableEq, Repr

/-- The place of each register (R16 and the chapters' offset formulas). -/
def RegName.layout : RegName → RegLayout
  | .SYS_ID => ⟨0x0, 1, 0x4, 1, 0x4, 0⟩
  | .SYS_STEP => ⟨0x4, 1, 0x4, 1, 0x4, 0⟩
  | .SYS_NODE => ⟨0x8, 1, 0x4, 1, 0x4, 0⟩
  | .SYS_STATUS => ⟨0xC, 1, 0x4, 1, 0x4, 0⟩
  | .SYS_FAULT_LATCH => ⟨0x10, 1, 0x4, 1, 0x4, 0⟩
  | .SYS_FAULT_MASK => ⟨0x14, 1, 0x4, 1, 0x4, 0⟩
  | .TBU_CTRL => ⟨0x10000, 1, 0x4, 1, 0x4, 0⟩
  | .TBU_STATUS => ⟨0x10004, 1, 0x4, 1, 0x4, 0⟩
  | .TBU_SNAP => ⟨0x10008, 1, 0x4, 1, 0x4, 0⟩
  | .TB2_SET_LO => ⟨0x1000C, 1, 0x4, 1, 0x4, 0⟩
  | .TB2_SET_HI => ⟨0x10010, 1, 0x4, 1, 0x4, 0⟩
  | .TB3_SLIP => ⟨0x10014, 1, 0x4, 1, 0x4, 0⟩
  | .TBU_SNAPVAL_LO => ⟨0x10200, 16, 0x8, 1, 0x4, 0⟩
  | .TBU_SNAPVAL_HI => ⟨0x10204, 16, 0x8, 1, 0x4, 0⟩
  | .TB_VALUE_LO => ⟨0x10400, 16, 0x20, 1, 0x4, 0⟩
  | .TB_VALUE_HI => ⟨0x10404, 16, 0x20, 1, 0x4, 0⟩
  | .TB_CFG => ⟨0x10408, 16, 0x20, 1, 0x4, 0⟩
  | .TB_SCALE => ⟨0x1040C, 16, 0x20, 1, 0x4, 0⟩
  | .TB_INDEX => ⟨0x10410, 16, 0x20, 1, 0x4, 0⟩
  | .TB_STALL => ⟨0x10414, 16, 0x20, 1, 0x4, 0⟩
  | .TB_STAT => ⟨0x10418, 16, 0x20, 1, 0x4, 0⟩
  | .WIN_CFG => ⟨0x11000, 128, 0x8, 1, 0x4, 0⟩
  | .WIN_COUNT => ⟨0x11004, 128, 0x8, 1, 0x4, 0⟩
  | .SLOT_CTRL => ⟨0x18000, 1024, 0x20, 1, 0x4, 0⟩
  | .SLOT_TARGET => ⟨0x18004, 1024, 0x20, 1, 0x4, 0⟩
  | .SLOT_COUNT_LO => ⟨0x18008, 1024, 0x20, 1, 0x4, 0⟩
  | .SLOT_COUNT_HI => ⟨0x1800C, 1024, 0x20, 1, 0x4, 0⟩
  | .SLOT_PERIOD_LO => ⟨0x18010, 1024, 0x20, 1, 0x4, 0⟩
  | .SLOT_PERIOD_HI => ⟨0x18014, 1024, 0x20, 1, 0x4, 0⟩
  | .SLOT_STATUS => ⟨0x18018, 1024, 0x20, 1, 0x4, 0⟩
  | .SLOT_FIRES => ⟨0x1801C, 1024, 0x20, 1, 0x4, 0⟩
  | .TILE_STATUS => ⟨0x20000, 32, 0x1000, 1, 0x4, 0⟩
  | .TILE_THR => ⟨0x20004, 32, 0x1000, 1, 0x4, 0⟩
  | .TILE_OCC => ⟨0x20008, 32, 0x1000, 1, 0x4, 0⟩
  | .TILE_TEMP_SEEN => ⟨0x2000C, 32, 0x1000, 1, 0x4, 0⟩
  | .ENG_STATUS => ⟨0x20100, 32, 0x1000, 16, 0x10, 0⟩
  | .ENG_ISSUE => ⟨0x20104, 32, 0x1000, 16, 0x10, 0⟩
  | .TASK_MAN => ⟨0x20400, 32, 0x1000, 128, 0x8, 0⟩
  | .TASK_CNT => ⟨0x20404, 32, 0x1000, 128, 0x8, 0⟩
  | .TASK_CTRL => ⟨0x20800, 32, 0x1000, 128, 0x10, 0⟩
  | .TASK_DESC => ⟨0x20804, 32, 0x1000, 128, 0x10, 0⟩
  | .TASK_STATUS => ⟨0x20808, 32, 0x1000, 128, 0x10, 0⟩
  | .TASK_SEQ => ⟨0x2080C, 32, 0x1000, 128, 0x10, 0⟩
  | .SOL_TRIPMAP_LO => ⟨0x40000, 4, 0x8, 1, 0x4, 0⟩
  | .SOL_TRIPMAP_HI => ⟨0x40004, 4, 0x8, 1, 0x4, 0⟩
  | .SOL_TRIP_IN => ⟨0x40020, 1, 0x4, 1, 0x4, 0⟩
  | .SOL_BAND => ⟨0x40024, 1, 0x4, 1, 0x4, 0⟩
  | .SOL_COMP_STATUS => ⟨0x40100, 8, 0x10, 1, 0x4, 0⟩
  | .SOL_COMP_TEMP => ⟨0x40104, 8, 0x10, 1, 0x4, 0⟩
  | .SOL_CTRL => ⟨0x41000, 64, 0x40, 1, 0x4, 0⟩
  | .SOL_CFG => ⟨0x41004, 64, 0x40, 1, 0x4, 0⟩
  | .SOL_PWM => ⟨0x41008, 64, 0x40, 1, 0x4, 0⟩
  | .SOL_PHASE => ⟨0x4100C, 64, 0x40, 1, 0x4, 0⟩
  | .SOL_GAIN => ⟨0x41010, 64, 0x40, 1, 0x4, 0⟩
  | .SOL_DITHER => ⟨0x41014, 64, 0x40, 1, 0x4, 0⟩
  | .SOL_DGAIN => ⟨0x41018, 64, 0x40, 1, 0x4, 0⟩
  | .SOL_ARM => ⟨0x4101C, 64, 0x40, 1, 0x4, 0⟩
  | .SOL_ARM2 => ⟨0x41020, 64, 0x40, 1, 0x4, 0⟩
  | .SOL_RCOLD => ⟨0x41024, 64, 0x40, 1, 0x4, 0⟩
  | .SOL_SP => ⟨0x41028, 64, 0x40, 1, 0x4, 0⟩
  | .SOL_MEAS => ⟨0x4102C, 64, 0x40, 1, 0x4, 0⟩
  | .SOL_DUTY => ⟨0x41030, 64, 0x40, 1, 0x4, 0⟩
  | .SOL_RCOIL => ⟨0x41034, 64, 0x40, 1, 0x4, 0⟩
  | .SOL_STATUS => ⟨0x41038, 64, 0x40, 1, 0x4, 0⟩
  | .SOL_ARMTIME => ⟨0x4103C, 64, 0x40, 1, 0x4, 0⟩
  | .LSW_TRIPMAP => ⟨0x50000, 4, 0x10, 4, 0x4, 0⟩
  | .LSW_TRIP_IN => ⟨0x50040, 1, 0x4, 1, 0x4, 0⟩
  | .LSW_LIMP => ⟨0x50044, 1, 0x4, 1, 0x4, 0⟩
  | .LSW_LIMP_REL => ⟨0x50048, 1, 0x4, 1, 0x4, 0⟩
  | .LSW_TOTAL => ⟨0x5004C, 1, 0x4, 1, 0x4, 0⟩
  | .LSW_MUXSEL => ⟨0x50050, 4, 0x4, 1, 0x4, 0⟩
  | .LSW_BANK_STATUS => ⟨0x50100, 8, 0x10, 1, 0x4, 0⟩
  | .LSW_BANK_FEED => ⟨0x50104, 8, 0x10, 1, 0x4, 0⟩
  | .LSW_BANK_TEMP => ⟨0x50108, 8, 0x10, 1, 0x4, 0⟩
  | .LSW_CTRL => ⟨0x51000, 128, 0x20, 1, 0x4, 0⟩
  | .LSW_CFG => ⟨0x51004, 128, 0x20, 1, 0x4, 0⟩
  | .LSW_CMD => ⟨0x51008, 128, 0x20, 1, 0x4, 0⟩
  | .LSW_SENSE => ⟨0x5100C, 128, 0x20, 1, 0x4, 0⟩
  | .LSW_STATUS => ⟨0x51010, 128, 0x20, 1, 0x4, 0⟩
  | .LSW_TEMP => ⟨0x51014, 128, 0x20, 1, 0x4, 0⟩
  | .HK_ROUND => ⟨0x60000, 1, 0x4, 1, 0x4, 0⟩
  | .AFE_EXC => ⟨0x60004, 1, 0x4, 1, 0x4, 0⟩
  | .AIN_CFG => ⟨0x60100, 64, 0x20, 1, 0x4, 0⟩
  | .AIN_OFFSET => ⟨0x60104, 64, 0x20, 1, 0x4, 0⟩
  | .AIN_SCALE => ⟨0x60108, 64, 0x20, 1, 0x4, 0⟩
  | .AIN_WORD => ⟨0x6010C, 64, 0x20, 1, 0x4, 0⟩
  | .AIN_CAP => ⟨0x60110, 64, 0x20, 1, 0x4, 0⟩
  | .AIN_CAP_T => ⟨0x60114, 64, 0x20, 1, 0x4, 0⟩
  | .IMP_CFG => ⟨0x61000, 16, 0x20, 1, 0x4, 0⟩
  | .IMP_WORD => ⟨0x61004, 16, 0x20, 1, 0x4, 0⟩
  | .IMP_CAP_CNT => ⟨0x61008, 16, 0x20, 1, 0x4, 0⟩
  | .IMP_CAP_DIST => ⟨0x6100C, 16, 0x20, 1, 0x4, 0⟩
  | .IMP_LIVE => ⟨0x61010, 16, 0x20, 1, 0x4, 0⟩
  | .ENC_CFG => ⟨0x61400, 32, 0x10, 1, 0x4, 0⟩
  | .ENC_WORD => ⟨0x61404, 32, 0x10, 1, 0x4, 0⟩
  | .ENC_PERIOD => ⟨0x61408, 32, 0x10, 1, 0x4, 0⟩
  | .ENC_CAP => ⟨0x6140C, 32, 0x10, 1, 0x4, 0⟩
  | .HK_WORD => ⟨0x61800, 128, 0x4, 1, 0x4, 0⟩
  | .CAM_CTRL => ⟨0x70000, 12, 0x1000, 1, 0x4, 0⟩
  | .CAM_CFG => ⟨0x70004, 12, 0x1000, 1, 0x4, 0⟩
  | .CAM_STATUS => ⟨0x70008, 12, 0x1000, 1, 0x4, 0⟩
  | .CAM_TRIG => ⟨0x7000C, 12, 0x1000, 1, 0x4, 0⟩
  | .CAM_ERR0 => ⟨0x70010, 12, 0x1000, 1, 0x4, 0⟩
  | .CAM_ERR1 => ⟨0x70014, 12, 0x1000, 1, 0x4, 0⟩
  | .CAM_ERR2 => ⟨0x70018, 12, 0x1000, 1, 0x4, 0⟩
  | .CCI_CMD => ⟨0x70020, 12, 0x1000, 1, 0x4, 0⟩
  | .CCI_TX => ⟨0x70024, 12, 0x1000, 2, 0x4, 0⟩
  | .CCI_RX => ⟨0x7002C, 12, 0x1000, 2, 0x4, 0⟩
  | .CCI_STATUS => ⟨0x70034, 12, 0x1000, 1, 0x4, 0⟩
  | .PS_BLACK01 => ⟨0x70040, 12, 0x1000, 1, 0x4, 0⟩
  | .PS_BLACK23 => ⟨0x70044, 12, 0x1000, 1, 0x4, 0⟩
  | .PS_GAIN => ⟨0x70048, 12, 0x1000, 4, 0x4, 0⟩
  | .PS_DPC => ⟨0x70058, 12, 0x1000, 1, 0x4, 0⟩
  | .PS_COMMIT => ⟨0x7005C, 12, 0x1000, 1, 0x4, 0⟩
  | .PS_STATUS => ⟨0x70060, 12, 0x1000, 1, 0x4, 0⟩
  | .ST_CFG => ⟨0x70100, 12, 0x1000, 4, 0x40, 0⟩
  | .ST_SIZE => ⟨0x70104, 12, 0x1000, 4, 0x40, 0⟩
  | .ST_PITCH => ⟨0x70108, 12, 0x1000, 4, 0x40, 0⟩
  | .ST_ADDR_LO => ⟨0x7010C, 12, 0x1000, 4, 0x40, 0⟩
  | .ST_ADDR_HI => ⟨0x70110, 12, 0x1000, 4, 0x40, 0⟩
  | .ST_COMMIT => ⟨0x70114, 12, 0x1000, 4, 0x40, 0⟩
  | .ST_ACTIVE_LO => ⟨0x70118, 12, 0x1000, 4, 0x40, 0⟩
  | .ST_ACTIVE_HI => ⟨0x7011C, 12, 0x1000, 4, 0x40, 0⟩
  | .ST_STATUS => ⟨0x70120, 12, 0x1000, 4, 0x40, 0⟩
  | .ST_FCNT => ⟨0x70124, 12, 0x1000, 4, 0x40, 0⟩
  | .FUS_CTRL => ⟨0x80000, 1, 0x4, 1, 0x4, 0⟩
  | .FUS_STATUS => ⟨0x80004, 1, 0x4, 1, 0x4, 0⟩
  | .FUS_EPOCH => ⟨0x80008, 1, 0x4, 1, 0x4, 0⟩
  | .FUS_PUB => ⟨0x8000C, 1, 0x4, 1, 0x4, 0⟩
  | .FUS_GRID_CFG => ⟨0x80010, 1, 0x4, 1, 0x4, 0⟩
  | .FUS_GRID_LO => ⟨0x80014, 1, 0x4, 1, 0x4, 0⟩
  | .FUS_GRID_HI => ⟨0x80018, 1, 0x4, 1, 0x4, 0⟩
  | .FUS_HEADER => ⟨0x8001C, 1, 0x4, 1, 0x4, 0⟩
  | .FUS_SWATH => ⟨0x80020, 1, 0x4, 1, 0x4, 0⟩
  | .FUS_VOL => ⟨0x80024, 1, 0x4, 1, 0x4, 0⟩
  | .FUS_CONS => ⟨0x80028, 1, 0x4, 1, 0x4, 0⟩
  | .FUS_DROP => ⟨0x8002C, 1, 0x4, 1, 0x4, 0⟩
  | .FUS_SENS_EN => ⟨0x80030, 1, 0x4, 1, 0x4, 0⟩
  | .FUS_MASK => ⟨0x80034, 1, 0x4, 1, 0x4, 0⟩
  | .FUS_RS_PORT => ⟨0x80038, 1, 0x4, 1, 0x4, 0⟩
  | .FUS_RS_CNT => ⟨0x80040, 8, 0x4, 1, 0x4, 0⟩
  | .FUS_RS_GAP => ⟨0x80060, 8, 0x4, 1, 0x4, 0⟩
  | .CAL_CFG => ⟨0x81000, 31, 0x80, 1, 0x4, 0⟩
  | .CAL_R => ⟨0x81004, 31, 0x80, 9, 0x4, 0⟩
  | .CAL_T => ⟨0x81028, 31, 0x80, 3, 0x4, 0⟩
  | .CAL_F => ⟨0x81034, 31, 0x80, 2, 0x4, 0⟩
  | .CAL_C => ⟨0x8103C, 31, 0x80, 2, 0x4, 0⟩
  | .CAL_K => ⟨0x81044, 31, 0x80, 3, 0x4, 0⟩
  | .CAL_PROJ => ⟨0x81050, 31, 0x80, 1, 0x4, 0⟩
  | .CAL_DEPTH_LO => ⟨0x81054, 31, 0x80, 1, 0x4, 0⟩
  | .CAL_DEPTH_HI => ⟨0x81058, 31, 0x80, 1, 0x4, 0⟩
  | .CAL_REMOTE => ⟨0x8105C, 31, 0x80, 1, 0x4, 0⟩
  | .MODEL_CFG => ⟨0x82000, 8, 0x20, 1, 0x4, 0⟩
  | .MODEL_ADDR_LO => ⟨0x82004, 8, 0x20, 1, 0x4, 0⟩
  | .MODEL_ADDR_HI => ⟨0x82008, 8, 0x20, 1, 0x4, 0⟩
  | .MODEL_OUT_LO => ⟨0x8200C, 8, 0x20, 1, 0x4, 0⟩
  | .MODEL_OUT_HI => ⟨0x82010, 8, 0x20, 1, 0x4, 0⟩
  | .MODEL_CMD => ⟨0x82014, 8, 0x20, 1, 0x4, 0⟩
  | .MODEL_STATUS => ⟨0x82018, 8, 0x20, 1, 0x4, 0⟩
  | .FUS_BIN => ⟨0x83000, 32, 0x4, 1, 0x4, 0⟩
  | .GNSS_CTRL => ⟨0x90000, 1, 0x4, 1, 0x4, 0⟩
  | .GNSS_STATUS => ⟨0x90004, 1, 0x4, 1, 0x4, 0⟩
  | .GNSS_SIG_EN => ⟨0x90008, 1, 0x4, 1, 0x4, 0⟩
  | .GNSS_MASK => ⟨0x9000C, 1, 0x4, 1, 0x4, 0⟩
  | .GNSS_COAST => ⟨0x90010, 1, 0x4, 1, 0x4, 0⟩
  | .GNSS_HOLD => ⟨0x90014, 1, 0x4, 1, 0x4, 0⟩
  | .GNSS_HOLD_STAT => ⟨0x90018, 1, 0x4, 1, 0x4, 0⟩
  | .GNSS_TIME_OFS => ⟨0x9001C, 1, 0x4, 1, 0x4, 0⟩
  | .GNSS_LEAP => ⟨0x90020, 1, 0x4, 1, 0x4, 0⟩
  | .GNSS_PPS => ⟨0x90024, 1, 0x4, 1, 0x4, 0⟩
  | .GNSS_RTCM_CFG => ⟨0x90028, 1, 0x4, 1, 0x4, 0⟩
  | .GNSS_RTCM_STAT => ⟨0x9002C, 1, 0x4, 1, 0x4, 0⟩
  | .GNSS_RTCM_CNT => ⟨0x90030, 1, 0x4, 1, 0x4, 0⟩
  | .GNSS_BASE => ⟨0x90034, 1, 0x4, 1, 0x4, 0⟩
  | .GNSS_NAV_STREAM => ⟨0x90038, 1, 0x4, 1, 0x4, 0⟩
  | .GNSS_NAV_SNAP => ⟨0x9003C, 1, 0x4, 1, 0x4, 0⟩
  | .GNSS_NMEA => ⟨0x90040, 1, 0x4, 1, 0x4, 0⟩
  | .GNSS_JAM_CFG => ⟨0x90044, 1, 0x4, 1, 0x4, 0⟩
  | .LEV_A => ⟨0x90050, 3, 0x4, 1, 0x4, 0⟩
  | .LEV_B => ⟨0x9005C, 3, 0x4, 1, 0x4, 0⟩
  | .GNSS_NAV => ⟨0x90100, 16, 0x4, 1, 0x4, 0⟩
  | .JAM_STAT => ⟨0x90200, 6, 0x4, 1, 0x4, 0⟩
  | .NOTCH => ⟨0x90400, 6, 0x20, 8, 0x4, 0⟩
  | .CH_STATUS => ⟨0x91000, 384, 0x10, 1, 0x4, 0⟩
  | .CH_DOPPLER => ⟨0x91004, 384, 0x10, 1, 0x4, 0⟩
  | .CH_PHASE => ⟨0x91008, 384, 0x10, 1, 0x4, 0⟩
  | .CH_LOCK => ⟨0x9100C, 384, 0x10, 1, 0x4, 0⟩
  | .HPC_CTRL => ⟨0xA0000, 1, 0x4, 1, 0x4, 0⟩
  | .HPC_STATUS => ⟨0xA0004, 1, 0x4, 1, 0x4, 0⟩
  | .HPC_ROUND => ⟨0xA0008, 1, 0x4, 1, 0x4, 0⟩
  | .HPC_FIELD => ⟨0xA000C, 1, 0x4, 1, 0x4, 0⟩
  | .HPC_OBS => ⟨0xA0010, 1, 0x4, 1, 0x4, 0⟩
  | .HPC_WEIGHTS => ⟨0xA0014, 1, 0x4, 1, 0x4, 0⟩
  | .HPC_REF0 => ⟨0xA0018, 1, 0x4, 1, 0x4, 0⟩
  | .HPC_REF1 => ⟨0xA001C, 1, 0x4, 1, 0x4, 0⟩
  | .HPC_REF2 => ⟨0xA0020, 1, 0x4, 1, 0x4, 0⟩
  | .HPC_REF3 => ⟨0xA0024, 1, 0x4, 1, 0x4, 0⟩
  | .HPC_ANT => ⟨0xA0028, 1, 0x4, 1, 0x4, 0⟩
  | .HPC_DENS => ⟨0xA002C, 1, 0x4, 1, 0x4, 0⟩
  | .HPC_FEED_FIX => ⟨0xA0030, 1, 0x4, 1, 0x4, 0⟩
  | .HPC_FEED => ⟨0xA0034, 1, 0x4, 1, 0x4, 0⟩
  | .HPC_ILK0 => ⟨0xA0040, 1, 0x4, 1, 0x4, 0⟩
  | .HPC_ILK1 => ⟨0xA0044, 1, 0x4, 1, 0x4, 0⟩
  | .HPC_ILK2 => ⟨0xA0048, 1, 0x4, 1, 0x4, 0⟩
  | .HPC_OPT => ⟨0xA0050, 1, 0x4, 1, 0x4, 0⟩
  | .FN_CFG0 => ⟨0xA1040, 30, 0x40, 1, 0x4, 1⟩
  | .FN_CFG1 => ⟨0xA1044, 30, 0x40, 1, 0x4, 1⟩
  | .FN_MODE => ⟨0xA1048, 30, 0x40, 1, 0x4, 1⟩
  | .FN_OPCMD => ⟨0xA104C, 30, 0x40, 1, 0x4, 1⟩
  | .FN_TARGET => ⟨0xA1050, 30, 0x40, 1, 0x4, 1⟩
  | .FN_PROPOSAL => ⟨0xA1054, 30, 0x40, 1, 0x4, 1⟩
  | .FN_BAND => ⟨0xA1058, 30, 0x40, 1, 0x4, 1⟩
  | .FN_OVR => ⟨0xA105C, 30, 0x40, 1, 0x4, 1⟩
  | .FN_STATUS => ⟨0xA1060, 30, 0x40, 1, 0x4, 1⟩
  | .FN_HOLD => ⟨0xA1064, 30, 0x40, 1, 0x4, 1⟩
  | .LIM_MIN => ⟨0xA4000, 512, 0x10, 1, 0x4, 0⟩
  | .LIM_MAX => ⟨0xA4004, 512, 0x10, 1, 0x4, 0⟩
  | .LIM_UP => ⟨0xA4008, 512, 0x10, 1, 0x4, 0⟩
  | .LIM_DN => ⟨0xA400C, 512, 0x10, 1, 0x4, 0⟩
  | .DEF => ⟨0xA6000, 512, 0x4, 1, 0x4, 0⟩
  | .YLD_CTRL => ⟨0xB0000, 1, 0x4, 1, 0x4, 0⟩
  | .YLD_STATUS => ⟨0xB0004, 1, 0x4, 1, 0x4, 0⟩
  | .YLD_JOB => ⟨0xB0008, 1, 0x4, 1, 0x4, 0⟩
  | .YLD_SRC => ⟨0xB000C, 1, 0x4, 1, 0x4, 0⟩
  | .YLD_DELAY => ⟨0xB0010, 1, 0x4, 1, 0x4, 0⟩
  | .YLD_MOIST => ⟨0xB0014, 1, 0x4, 1, 0x4, 0⟩
  | .YLD_CELL => ⟨0xB0018, 1, 0x4, 1, 0x4, 0⟩
  | .YLD_DAY => ⟨0xB001C, 1, 0x4, 1, 0x4, 0⟩
  | .YLD_ACC => ⟨0xB0020, 1, 0x4, 1, 0x4, 0⟩
  | .YLD_ACC_STATE => ⟨0xB0024, 1, 0x4, 1, 0x4, 0⟩
  | .YLD_AREA => ⟨0xB0028, 1, 0x4, 1, 0x4, 0⟩
  | .YLD_DRY => ⟨0xB002C, 1, 0x4, 1, 0x4, 0⟩
  | .YLD_HARV => ⟨0xB0030, 1, 0x4, 1, 0x4, 0⟩
  | .YLD_SEQ => ⟨0xB0034, 1, 0x4, 1, 0x4, 0⟩
  | .YLD_ACK => ⟨0xB0038, 1, 0x4, 1, 0x4, 0⟩
  | .YLD_CNT => ⟨0xB003C, 1, 0x4, 1, 0x4, 0⟩
  | .YLD_EXPORT => ⟨0xB0040, 1, 0x4, 1, 0x4, 0⟩
  | .YLD_EXP_LO => ⟨0xB0044, 1, 0x4, 1, 0x4, 0⟩
  | .YLD_EXP_HI => ⟨0xB0048, 1, 0x4, 1, 0x4, 0⟩
  | .YLD_EXP_SIZE => ⟨0xB004C, 1, 0x4, 1, 0x4, 0⟩
  | .YLD_EXP_LEN => ⟨0xB0050, 1, 0x4, 1, 0x4, 0⟩
  | .YLD_DAYEND_LO => ⟨0xB0054, 1, 0x4, 1, 0x4, 0⟩
  | .YLD_DAYEND_HI => ⟨0xB0058, 1, 0x4, 1, 0x4, 0⟩
  | .FAB_CFG => ⟨0xC0000, 1, 0x4, 1, 0x4, 0⟩
  | .FAB_STATUS => ⟨0xC0004, 1, 0x4, 1, 0x4, 0⟩
  | .FAB_ROLE => ⟨0xC0008, 1, 0x4, 1, 0x4, 0⟩
  | .FAB_FT_LO => ⟨0xC000C, 1, 0x4, 1, 0x4, 0⟩
  | .FAB_FT_HI => ⟨0xC0010, 1, 0x4, 1, 0x4, 0⟩
  | .FAB_TIME => ⟨0xC0014, 1, 0x4, 1, 0x4, 0⟩
  | .FAB_FLTQ => ⟨0xC0018, 1, 0x4, 1, 0x4, 0⟩
  | .FAB_SRX_MISS => ⟨0xC001C, 1, 0x4, 1, 0x4, 0⟩
  | .FAB_COAL_LOCAL => ⟨0xC0020, 1, 0x4, 1, 0x4, 0⟩
  | .FAB_EQ => ⟨0xC0024, 1, 0x4, 1, 0x4, 0⟩
  | .PORT_CTRL => ⟨0xC0100, 8, 0x40, 1, 0x4, 0⟩
  | .PORT_STATUS => ⟨0xC0104, 8, 0x40, 1, 0x4, 0⟩
  | .PORT_ERR => ⟨0xC0108, 8, 0x40, 1, 0x4, 0⟩
  | .PORT_ERR2 => ⟨0xC010C, 8, 0x40, 1, 0x4, 0⟩
  | .PORT_DELAY => ⟨0xC0110, 8, 0x40, 1, 0x4, 0⟩
  | .PORT_COAL => ⟨0xC0114, 8, 0x40, 1, 0x4, 0⟩
  | .PORT_NAK => ⟨0xC0118, 8, 0x40, 1, 0x4, 0⟩
  | .PORT_FLITS => ⟨0xC011C, 8, 0x40, 1, 0x4, 0⟩
  | .XD_SRC_LO => ⟨0xC1000, 64, 0x20, 1, 0x4, 0⟩
  | .XD_SRC_HI => ⟨0xC1004, 64, 0x20, 1, 0x4, 0⟩
  | .XD_DST_LO => ⟨0xC1008, 64, 0x20, 1, 0x4, 0⟩
  | .XD_DST_HI => ⟨0xC100C, 64, 0x20, 1, 0x4, 0⟩
  | .XD_CFG => ⟨0xC1010, 64, 0x20, 1, 0x4, 0⟩
  | .XD_CTRL => ⟨0xC1014, 64, 0x20, 1, 0x4, 0⟩
  | .XD_STATUS => ⟨0xC1018, 64, 0x20, 1, 0x4, 0⟩
  | .STX_CFG => ⟨0xC2000, 512, 0x10, 1, 0x4, 0⟩
  | .STX_DEST01 => ⟨0xC2004, 512, 0x10, 1, 0x4, 0⟩
  | .STX_DEST23 => ⟨0xC2008, 512, 0x10, 1, 0x4, 0⟩
  | .STX_SENT => ⟨0xC200C, 512, 0x10, 1, 0x4, 0⟩
  | .SRX_CFG => ⟨0xC4000, 1024, 0x10, 1, 0x4, 0⟩
  | .SRX_ADDR_LO => ⟨0xC4004, 1024, 0x10, 1, 0x4, 0⟩
  | .SRX_ADDR_HI => ⟨0xC4008, 1024, 0x10, 1, 0x4, 0⟩
  | .SRX_CNT => ⟨0xC400C, 1024, 0x10, 1, 0x4, 0⟩
  | .FAB_ROUTE => ⟨0xC8000, 512, 0x4, 1, 0x4, 0⟩
  | .ACC_CFG => ⟨0xD0000, 1, 0x4, 1, 0x4, 0⟩
  | .ACC_LOG_LO => ⟨0xD0004, 1, 0x4, 1, 0x4, 0⟩
  | .ACC_LOG_HI => ⟨0xD0008, 1, 0x4, 1, 0x4, 0⟩
  | .ACC_LOG_N => ⟨0xD000C, 1, 0x4, 1, 0x4, 0⟩
  | .ACC_LOG_WR => ⟨0xD0010, 1, 0x4, 1, 0x4, 0⟩
  | .ACC_LOG_RD => ⟨0xD0014, 1, 0x4, 1, 0x4, 0⟩
  | .ACC_LOG_LOST => ⟨0xD0018, 1, 0x4, 1, 0x4, 0⟩
  | .ACC_REFUSED => ⟨0xD001C, 1, 0x4, 1, 0x4, 0⟩
  | .ACC_ENT0 => ⟨0xD1000, 52, 0x400, 64, 0x10, 0⟩
  | .ACC_ENT1 => ⟨0xD1004, 52, 0x400, 64, 0x10, 0⟩
  | .ACC_ENT2 => ⟨0xD1008, 52, 0x400, 64, 0x10, 0⟩
  | .ACC_ENT3 => ⟨0xD100C, 52, 0x400, 64, 0x10, 0⟩
  | .ACC_TMAP => ⟨0xDE000, 8, 0x100, 64, 0x4, 0⟩
  | .PWR_STATUS => ⟨0xE0000, 1, 0x4, 1, 0x4, 0⟩
  | .PWR_HOLDUP => ⟨0xE0004, 1, 0x4, 1, 0x4, 0⟩
  | .PWR_THERM => ⟨0xE0008, 1, 0x4, 1, 0x4, 0⟩
  | .PWR_DRAM => ⟨0xE000C, 1, 0x4, 1, 0x4, 0⟩
  | .PWR_WAKE => ⟨0xE0010, 1, 0x4, 1, 0x4, 0⟩
  | .PWR_EVT => ⟨0xE0014, 1, 0x4, 1, 0x4, 0⟩
  | .PD_CTRL => ⟨0xE0100, 64, 0x8, 1, 0x4, 0⟩
  | .PD_STATUS => ⟨0xE0104, 64, 0x8, 1, 0x4, 0⟩
  | .TZ_CFG => ⟨0xE0400, 12, 0x4, 1, 0x4, 0⟩
  | .TZ_STAT => ⟨0xE0440, 12, 0x4, 1, 0x4, 0⟩
  | .COOL_CFG => ⟨0xE0500, 10, 0x10, 1, 0x4, 0⟩
  | .COOL_HOST => ⟨0xE0504, 10, 0x10, 1, 0x4, 0⟩
  | .COOL_STATUS => ⟨0xE0508, 10, 0x10, 1, 0x4, 0⟩
  | .COOL_MIN => ⟨0xE050C, 10, 0x10, 1, 0x4, 0⟩
  | .COOL_WD => ⟨0xE0600, 1, 0x4, 1, 0x4, 0⟩
  | .BOOT_STATUS => ⟨0xF0000, 1, 0x4, 1, 0x4, 0⟩
  | .BOOT_SEQ => ⟨0xF0004, 1, 0x4, 1, 0x4, 0⟩
  | .BOOT_FB_SEQ => ⟨0xF0008, 1, 0x4, 1, 0x4, 0⟩
  | .BOOT_CFG_VER => ⟨0xF000C, 1, 0x4, 1, 0x4, 0⟩
  | .BOOT_START_MS => ⟨0xF0010, 1, 0x4, 1, 0x4, 0⟩
  | .BOOT_UPD_LO => ⟨0xF0020, 1, 0x4, 1, 0x4, 0⟩
  | .BOOT_UPD_HI => ⟨0xF0024, 1, 0x4, 1, 0x4, 0⟩
  | .BOOT_UPD_LEN => ⟨0xF0028, 1, 0x4, 1, 0x4, 0⟩
  | .BOOT_UPD_CMD => ⟨0xF002C, 1, 0x4, 1, 0x4, 0⟩
  | .BOOT_UPD_STATUS => ⟨0xF0030, 1, 0x4, 1, 0x4, 0⟩
  | .BOOT_UPD_SEQ => ⟨0xF0034, 1, 0x4, 1, 0x4, 0⟩
  | .BOOT_OTP_GEN => ⟨0xF0040, 1, 0x4, 1, 0x4, 0⟩
  | .BOOT_MAC_LO => ⟨0xF0044, 1, 0x4, 1, 0x4, 0⟩
  | .BOOT_MAC_HI => ⟨0xF0048, 1, 0x4, 1, 0x4, 0⟩
  | .BOOT_SERIAL => ⟨0xF004C, 1, 0x4, 1, 0x4, 0⟩
  | .BOOT_JRN => ⟨0xF0050, 1, 0x4, 1, 0x4, 0⟩
  | .ETH_CTRL => ⟨0x100000, 6, 0x20, 1, 0x4, 0⟩
  | .ETH_STATUS => ⟨0x100004, 6, 0x20, 1, 0x4, 0⟩
  | .ETH_IP => ⟨0x100008, 6, 0x20, 4, 0x4, 0⟩
  | .ETH_CNT => ⟨0x100018, 6, 0x20, 1, 0x4, 0⟩
  | .CAN_CTRL => ⟨0x100200, 8, 0x40, 1, 0x4, 0⟩
  | .CAN_CFG => ⟨0x100204, 8, 0x40, 1, 0x4, 0⟩
  | .CAN_TXR_LO => ⟨0x100208, 8, 0x40, 1, 0x4, 0⟩
  | .CAN_TXR_HI => ⟨0x10020C, 8, 0x40, 1, 0x4, 0⟩
  | .CAN_RXR_LO => ⟨0x100210, 8, 0x40, 1, 0x4, 0⟩
  | .CAN_RXR_HI => ⟨0x100214, 8, 0x40, 1, 0x4, 0⟩
  | .CAN_STATUS => ⟨0x100218, 8, 0x40, 1, 0x4, 0⟩
  | .CAN_FILT_EN => ⟨0x10021C, 8, 0x40, 1, 0x4, 0⟩
  | .CAN_FILT_ID => ⟨0x101000, 8, 0x100, 32, 0x8, 0⟩
  | .CAN_FILT_MASK => ⟨0x101004, 8, 0x100, 32, 0x8, 0⟩
  | .ISO_CFG => ⟨0x100400, 1, 0x4, 1, 0x4, 0⟩
  | .ISO_NAME_LO => ⟨0x100404, 1, 0x4, 1, 0x4, 0⟩
  | .ISO_NAME_HI => ⟨0x100408, 1, 0x4, 1, 0x4, 0⟩
  | .J1939_CFG => ⟨0x10040C, 1, 0x4, 1, 0x4, 0⟩
  | .FLEET_CTRL => ⟨0x100410, 1, 0x4, 1, 0x4, 0⟩
  | .FLEET_ID => ⟨0x100414, 1, 0x4, 1, 0x4, 0⟩
  | .FLEET_GW => ⟨0x100418, 4, 0x4, 1, 0x4, 0⟩
  | .FLEET_CFG => ⟨0x100428, 1, 0x4, 1, 0x4, 0⟩
  | .FLEET_TOL => ⟨0x10042C, 1, 0x4, 1, 0x4, 0⟩
  | .FLEET_UNLOAD => ⟨0x100430, 1, 0x4, 1, 0x4, 0⟩
  | .FLEET_ROLE => ⟨0x100434, 1, 0x4, 1, 0x4, 0⟩
  | .FLEET_PEER => ⟨0x100438, 1, 0x4, 1, 0x4, 0⟩
  | .FLEET_STATUS => ⟨0x10043C, 1, 0x4, 1, 0x4, 0⟩
  | .FLEET_CNT => ⟨0x100440, 1, 0x4, 1, 0x4, 0⟩
  | .DBG_STATUS => ⟨0x110000, 1, 0x4, 1, 0x4, 0⟩
  | .DBG_FRZ_ID => ⟨0x110004, 1, 0x4, 1, 0x4, 0⟩
  | .DBG_FRZ_T_LO => ⟨0x110008, 1, 0x4, 1, 0x4, 0⟩
  | .DBG_FRZ_T_HI => ⟨0x11000C, 1, 0x4, 1, 0x4, 0⟩
  | .DBG_CTRL => ⟨0x110010, 1, 0x4, 1, 0x4, 0⟩
  | .DBG_CTX_SEL => ⟨0x110020, 1, 0x4, 1, 0x4, 0⟩
  | .DBG_CTX_DATA => ⟨0x110024, 1, 0x4, 1, 0x4, 0⟩

/-- The access types of each register's bits (R9, field maps). -/
def RegName.masks : RegName → RegMasks
  | .SYS_ID => ⟨0x0, 0x0, 0x0, 0x0⟩
  | .SYS_STEP => ⟨0x0, 0x0, 0x0, 0x0⟩
  | .SYS_NODE => ⟨0x0, 0x0, 0x0, 0x0⟩
  | .SYS_STATUS => ⟨0x0, 0x0, 0x0, 0x0⟩
  | .SYS_FAULT_LATCH => ⟨0x0, 0x3FFFFE, 0x0, 0x0⟩
  | .SYS_FAULT_MASK => ⟨0x0, 0x0, 0x0, 0x3FFFFE⟩
  | .TBU_CTRL => ⟨0x1, 0x0, 0x0, 0x0⟩
  | .TBU_STATUS => ⟨0x0, 0x30000, 0x0, 0x0⟩
  | .TBU_SNAP => ⟨0x0, 0x0, 0x1, 0x0⟩
  | .TB2_SET_LO => ⟨0x0, 0x0, 0xFFFFFFFF, 0x0⟩
  | .TB2_SET_HI => ⟨0x0, 0x0, 0xFFFFFFFF, 0x0⟩
  | .TB3_SLIP => ⟨0x0, 0x0, 0x0, 0x0⟩
  | .TBU_SNAPVAL_LO => ⟨0x0, 0x0, 0x0, 0x0⟩
  | .TBU_SNAPVAL_HI => ⟨0x0, 0x0, 0x0, 0x0⟩
  | .TB_VALUE_LO => ⟨0x0, 0x0, 0x0, 0x0⟩
  | .TB_VALUE_HI => ⟨0x0, 0x0, 0x0, 0x0⟩
  | .TB_CFG => ⟨0x0, 0x0, 0x0, 0x3FFF03⟩
  | .TB_SCALE => ⟨0x0, 0x0, 0x0, 0xFFFFFFFF⟩
  | .TB_INDEX => ⟨0x0, 0x0, 0x0, 0xFFFF⟩
  | .TB_STALL => ⟨0x0, 0x0, 0x0, 0xFFFF⟩
  | .TB_STAT => ⟨0x0, 0x10, 0x0, 0x0⟩
  | .WIN_CFG => ⟨0x0, 0x0, 0x0, 0xFF3⟩
  | .WIN_COUNT => ⟨0x0, 0x0, 0x0, 0x0⟩
  | .SLOT_CTRL => ⟨0x1FFFF, 0x0, 0x0, 0x0⟩
  | .SLOT_TARGET => ⟨0x0, 0x0, 0x0, 0xFFF07⟩
  | .SLOT_COUNT_LO => ⟨0xFFFFFFFF, 0x0, 0x0, 0x0⟩
  | .SLOT_COUNT_HI => ⟨0xFFFFFFFF, 0x0, 0x0, 0x0⟩
  | .SLOT_PERIOD_LO => ⟨0xFFFFFFFF, 0x0, 0x0, 0x0⟩
  | .SLOT_PERIOD_HI => ⟨0xFFFFFFFF, 0x0, 0x0, 0x0⟩
  | .SLOT_STATUS => ⟨0x0, 0x2, 0x0, 0x0⟩
  | .SLOT_FIRES => ⟨0x0, 0x0, 0x0, 0x0⟩
  | .TILE_STATUS => ⟨0x0, 0x0, 0x0, 0x0⟩
  | .TILE_THR => ⟨0x0, 0x0, 0x0, 0x7F⟩
  | .TILE_OCC => ⟨0x0, 0x0, 0x0, 0x0⟩
  | .TILE_TEMP_SEEN => ⟨0x0, 0x1, 0x0, 0x0⟩
  | .ENG_STATUS => ⟨0x0, 0x0, 0x0, 0x0⟩
  | .ENG_ISSUE => ⟨0x0, 0x0, 0x0, 0x0⟩
  | .TASK_MAN => ⟨0xFFFFFFFF, 0x0, 0x0, 0x0⟩
  | .TASK_CNT => ⟨0x0, 0x0, 0x0, 0x0⟩
  | .TASK_CTRL => ⟨0x3, 0x0, 0xC, 0xFFF0⟩
  | .TASK_DESC => ⟨0x0, 0x0, 0x0, 0x3FFC1⟩
  | .TASK_STATUS => ⟨0x0, 0xC20, 0x0, 0x0⟩
  | .TASK_SEQ => ⟨0x0, 0x0, 0x0, 0x0⟩
  | .SOL_TRIPMAP_LO => ⟨0x0, 0x0, 0x0, 0xFFFFFFFF⟩
  | .SOL_TRIPMAP_HI => ⟨0x0, 0x0, 0x0, 0xFFFFFFFF⟩
  | .SOL_TRIP_IN => ⟨0x0, 0xF0, 0x0, 0x0⟩
  | .SOL_BAND => ⟨0x0, 0x0, 0x0, 0xFFFFFF⟩
  | .SOL_COMP_STATUS => ⟨0x0, 0x4, 0x0, 0x0⟩
  | .SOL_COMP_TEMP => ⟨0x0, 0x0, 0x0, 0x0⟩
  | .SOL_CTRL => ⟨0x1, 0x0, 0x6, 0x0⟩
  | .SOL_CFG => ⟨0x0, 0x0, 0x0, 0xFC⟩
  | .SOL_PWM => ⟨0x0, 0x0, 0x0, 0xFFC7FFFF⟩
  | .SOL_PHASE => ⟨0x7FFFF, 0x0, 0x0, 0x0⟩
  | .SOL_GAIN => ⟨0x0, 0x0, 0x0, 0xFFFFFFFF⟩
  | .SOL_DITHER => ⟨0xFFE0FFFF, 0x0, 0x0, 0x0⟩
  | .SOL_DGAIN => ⟨0x0, 0x0, 0x0, 0xFFFFFFFF⟩
  | .SOL_ARM => ⟨0x0, 0x0, 0x0, 0xFFFFFFFF⟩
  | .SOL_ARM2 => ⟨0x0, 0x0, 0x0, 0xFFFFFFFF⟩
  | .SOL_RCOLD => ⟨0x0, 0x0, 0x0, 0xFFFF⟩
  | .SOL_SP => ⟨0x0, 0x0, 0x0, 0x0⟩
  | .SOL_MEAS => ⟨0x0, 0x0, 0x0, 0x0⟩
  | .SOL_DUTY => ⟨0x0, 0x0, 0x0, 0x0⟩
  | .SOL_RCOIL => ⟨0x0, 0x0, 0x0, 0x0⟩
  | .SOL_STATUS => ⟨0x0, 0x20C0, 0x0, 0x0⟩
  | .SOL_ARMTIME => ⟨0x0, 0x0, 0x0, 0x0⟩
  | .LSW_TRIPMAP => ⟨0x0, 0x0, 0x0, 0xFFFFFFFF⟩
  | .LSW_TRIP_IN => ⟨0x0, 0xF0, 0x0, 0x0⟩
  | .LSW_LIMP => ⟨0x0, 0x0, 0x0, 0x0⟩
  | .LSW_LIMP_REL => ⟨0x0, 0x0, 0xFFFF, 0x0⟩
  | .LSW_TOTAL => ⟨0x0, 0x0, 0x0, 0x0⟩
  | .LSW_MUXSEL => ⟨0x0, 0x0, 0x0, 0x1F⟩
  | .LSW_BANK_STATUS => ⟨0x0, 0x8, 0x0, 0x0⟩
  | .LSW_BANK_FEED => ⟨0x0, 0x0, 0x0, 0x0⟩
  | .LSW_BANK_TEMP => ⟨0x0, 0x0, 0x0, 0x0⟩
  | .LSW_CTRL => ⟨0x1, 0x0, 0x6, 0x0⟩
  | .LSW_CFG => ⟨0x400, 0x0, 0x0, 0xFFFFF8FF⟩
  | .LSW_CMD => ⟨0x0, 0x0, 0x0, 0x0⟩
  | .LSW_SENSE => ⟨0x0, 0x0, 0x0, 0x0⟩
  | .LSW_STATUS => ⟨0x0, 0x0, 0x0, 0x0⟩
  | .LSW_TEMP => ⟨0x0, 0x0, 0x0, 0x0⟩
  | .HK_ROUND => ⟨0x0, 0x0, 0x0, 0x0⟩
  | .AFE_EXC => ⟨0x0, 0x0, 0x0, 0xF0⟩
  | .AIN_CFG => ⟨0x7FF, 0x0, 0x0, 0x0⟩
  | .AIN_OFFSET => ⟨0x0, 0x0, 0x0, 0xFFFFFF⟩
  | .AIN_SCALE => ⟨0x0, 0x0, 0x0, 0xFFFFFFFF⟩
  | .AIN_WORD => ⟨0x0, 0x0, 0x0, 0x0⟩
  | .AIN_CAP => ⟨0x0, 0x0, 0x0, 0x0⟩
  | .AIN_CAP_T => ⟨0x0, 0x0, 0x0, 0x0⟩
  | .IMP_CFG => ⟨0x1, 0x0, 0x0, 0xFFFFFFF2⟩
  | .IMP_WORD => ⟨0x0, 0x0, 0x0, 0x0⟩
  | .IMP_CAP_CNT => ⟨0x0, 0x0, 0x0, 0x0⟩
  | .IMP_CAP_DIST => ⟨0x0, 0x0, 0x0, 0x0⟩
  | .IMP_LIVE => ⟨0x0, 0x0, 0x0, 0x0⟩
  | .ENC_CFG => ⟨0x1, 0x0, 0x0, 0xFF06⟩
  | .ENC_WORD => ⟨0x0, 0x0, 0x0, 0x0⟩
  | .ENC_PERIOD => ⟨0x0, 0x0, 0x0, 0x0⟩
  | .ENC_CAP => ⟨0x0, 0x0, 0x0, 0x0⟩
  | .HK_WORD => ⟨0x0, 0x0, 0x0, 0x0⟩
  | .CAM_CTRL => ⟨0x1, 0x0, 0x0, 0x2⟩
  | .CAM_CFG => ⟨0x0, 0x0, 0x0, 0xFFFF⟩
  | .CAM_STATUS => ⟨0x0, 0x20, 0x0, 0x0⟩
  | .CAM_TRIG => ⟨0x0, 0x0, 0x0, 0xFFF1FFFF⟩
  | .CAM_ERR0 => ⟨0x0, 0x0, 0x0, 0x0⟩
  | .CAM_ERR1 => ⟨0x0, 0x0, 0x0, 0x0⟩
  | .CAM_ERR2 => ⟨0x0, 0x0, 0x0, 0x0⟩
  | .CCI_CMD => ⟨0xFE0FE, 0x0, 0x1, 0x0⟩
  | .CCI_TX => ⟨0xFFFFFFFF, 0x0, 0x0, 0x0⟩
  | .CCI_RX => ⟨0x0, 0x0, 0x0, 0x0⟩
  | .CCI_STATUS => ⟨0x0, 0x6, 0x0, 0x0⟩
  | .PS_BLACK01 => ⟨0xFFFFFFFF, 0x0, 0x0, 0x0⟩
  | .PS_BLACK23 => ⟨0xFFFFFFFF, 0x0, 0x0, 0x0⟩
  | .PS_GAIN => ⟨0xFFFF, 0x0, 0x0, 0x0⟩
  | .PS_DPC => ⟨0xFFFF, 0x0, 0x0, 0x0⟩
  | .PS_COMMIT => ⟨0x0, 0x0, 0x7, 0x0⟩
  | .PS_STATUS => ⟨0x0, 0x18, 0x0, 0x0⟩
  | .ST_CFG => ⟨0x0, 0x0, 0x0, 0x1FF⟩
  | .ST_SIZE => ⟨0x0, 0x0, 0x0, 0xFFFFFFFF⟩
  | .ST_PITCH => ⟨0x0, 0x0, 0x0, 0xFFFFF⟩
  | .ST_ADDR_LO => ⟨0xFFFFFFFF, 0x0, 0x0, 0x0⟩
  | .ST_ADDR_HI => ⟨0xFF, 0x0, 0x0, 0x0⟩
  | .ST_COMMIT => ⟨0x0, 0x0, 0x1, 0x0⟩
  | .ST_ACTIVE_LO => ⟨0x0, 0x0, 0x0, 0x0⟩
  | .ST_ACTIVE_HI => ⟨0x0, 0x0, 0x0, 0x0⟩
  | .ST_STATUS => ⟨0x0, 0x14, 0x0, 0x0⟩
  | .ST_FCNT => ⟨0x0, 0x0, 0x0, 0x0⟩
  | .FUS_CTRL => ⟨0x1, 0x0, 0x0, 0x1FF0002⟩
  | .FUS_STATUS => ⟨0x0, 0xC0, 0x0, 0x0⟩
  | .FUS_EPOCH => ⟨0x0, 0x0, 0x0, 0x0⟩
  | .FUS_PUB => ⟨0x0, 0x0, 0x0, 0x0⟩
  | .FUS_GRID_CFG => ⟨0x0, 0x0, 0x0, 0xFFFF3FFF⟩
  | .FUS_GRID_LO => ⟨0x0, 0x0, 0x0, 0xFFFFFFFF⟩
  | .FUS_GRID_HI => ⟨0x0, 0x0, 0x0, 0xFF⟩
  | .FUS_HEADER => ⟨0x0, 0x0, 0x0, 0xFFFFFFFF⟩
  | .FUS_SWATH => ⟨0x0, 0x0, 0x0, 0x0⟩
  | .FUS_VOL => ⟨0x0, 0x0, 0x0, 0xFF⟩
  | .FUS_CONS => ⟨0x0, 0x0, 0x0, 0xFFFFFFFF⟩
  | .FUS_DROP => ⟨0x0, 0x0, 0x0, 0xFFFF⟩
  | .FUS_SENS_EN => ⟨0x0, 0x0, 0x0, 0x7FFFFFFF⟩
  | .FUS_MASK => ⟨0x0, 0x0, 0x0, 0x0⟩
  | .FUS_RS_PORT => ⟨0x0, 0x0, 0x0, 0xFFFF⟩
  | .FUS_RS_CNT => ⟨0x0, 0x0, 0x0, 0x0⟩
  | .FUS_RS_GAP => ⟨0x0, 0x0, 0x0, 0x0⟩
  | .CAL_CFG => ⟨0x0, 0x0, 0x0, 0xFFFF00FF⟩
  | .CAL_R => ⟨0x0, 0x0, 0x0, 0xFFFFFFFF⟩
  | .CAL_T => ⟨0x0, 0x0, 0x0, 0xFFFFFFFF⟩
  | .CAL_F => ⟨0x0, 0x0, 0x0, 0xFFFFFFFF⟩
  | .CAL_C => ⟨0x0, 0x0, 0x0, 0xFFFFFFFF⟩
  | .CAL_K => ⟨0x0, 0x0, 0x0, 0xFFFFFFFF⟩
  | .CAL_PROJ => ⟨0x0, 0x0, 0x0, 0x8000000F⟩
  | .CAL_DEPTH_LO => ⟨0x0, 0x0, 0x0, 0xFFFFFFFF⟩
  | .CAL_DEPTH_HI => ⟨0x0, 0x0, 0x0, 0xFF⟩
  | .CAL_REMOTE => ⟨0x0, 0x0, 0x0, 0x81FF000F⟩
  | .MODEL_CFG => ⟨0x0, 0x0, 0x0, 0xFFFFFFFF⟩
  | .MODEL_ADDR_LO => ⟨0xFFFFFFFF, 0x0, 0x0, 0x0⟩
  | .MODEL_ADDR_HI => ⟨0xFF, 0x0, 0x0, 0x0⟩
  | .MODEL_OUT_LO => ⟨0x0, 0x0, 0x0, 0xFFFFFFFF⟩
  | .MODEL_OUT_HI => ⟨0x0, 0x0, 0x0, 0xFF⟩
  | .MODEL_CMD => ⟨0x0, 0x0, 0x1, 0x0⟩
  | .MODEL_STATUS => ⟨0x0, 0x20, 0x0, 0x0⟩
  | .FUS_BIN => ⟨0x0, 0x0, 0x0, 0x0⟩
  | .GNSS_CTRL => ⟨0x1, 0x0, 0x0, 0xE⟩
  | .GNSS_STATUS => ⟨0x0, 0x0, 0x0, 0x0⟩
  | .GNSS_SIG_EN => ⟨0x0, 0x0, 0x0, 0x7FFF⟩
  | .GNSS_MASK => ⟨0x0, 0x0, 0x0, 0xFFFFFF⟩
  | .GNSS_COAST => ⟨0x0, 0x0, 0x0, 0xFFFFFFFF⟩
  | .GNSS_HOLD => ⟨0x0, 0x0, 0x0, 0xFFFFFFFF⟩
  | .GNSS_HOLD_STAT => ⟨0x0, 0x0, 0x0, 0x0⟩
  | .GNSS_TIME_OFS => ⟨0x0, 0x0, 0x0, 0x0⟩
  | .GNSS_LEAP => ⟨0x0, 0x0, 0x0, 0x0⟩
  | .GNSS_PPS => ⟨0x0, 0x0, 0x0, 0x301FF⟩
  | .GNSS_RTCM_CFG => ⟨0x0, 0x0, 0x0, 0xFF⟩
  | .GNSS_RTCM_STAT => ⟨0x0, 0x0, 0x0, 0x0⟩
  | .GNSS_RTCM_CNT => ⟨0x0, 0x0, 0x0, 0x0⟩
  | .GNSS_BASE => ⟨0x0, 0x0, 0x0, 0xFFFF⟩
  | .GNSS_NAV_STREAM => ⟨0x0, 0x0, 0x0, 0xFFFF⟩
  | .GNSS_NAV_SNAP => ⟨0x0, 0x0, 0x1, 0x0⟩
  | .GNSS_NMEA => ⟨0x0, 0x0, 0x0, 0xFFFFEC0F⟩
  | .GNSS_JAM_CFG => ⟨0x0, 0x0, 0x0, 0xFFFFFF⟩
  | .LEV_A => ⟨0x0, 0x0, 0x0, 0xFFFFFFFF⟩
  | .LEV_B => ⟨0x0, 0x0, 0x0, 0xFFFFFFFF⟩
  | .GNSS_NAV => ⟨0x0, 0x0, 0x0, 0x0⟩
  | .JAM_STAT => ⟨0x0, 0x0, 0x0, 0x0⟩
  | .NOTCH => ⟨0x0, 0x0, 0x0, 0x0⟩
  | .CH_STATUS => ⟨0x0, 0x0, 0x0, 0x0⟩
  | .CH_DOPPLER => ⟨0x0, 0x0, 0x0, 0x0⟩
  | .CH_PHASE => ⟨0x0, 0x0, 0x0, 0x0⟩
  | .CH_LOCK => ⟨0x0, 0x0, 0x0, 0x0⟩
  | .HPC_CTRL => ⟨0xF06, 0x0, 0x0, 0x1⟩
  | .HPC_STATUS => ⟨0x0, 0x1, 0x0, 0x0⟩
  | .HPC_ROUND => ⟨0x0, 0x0, 0x0, 0x0⟩
  | .HPC_FIELD => ⟨0x3F, 0x0, 0x0, 0x0⟩
  | .HPC_OBS => ⟨0x0, 0x0, 0x0, 0x0⟩
  | .HPC_WEIGHTS => ⟨0xFFFFFFFF, 0x0, 0x0, 0x0⟩
  | .HPC_REF0 => ⟨0x0, 0x0, 0x0, 0xFFFFFFFF⟩
  | .HPC_REF1 => ⟨0x0, 0x0, 0x0, 0xFFFFFFFF⟩
  | .HPC_REF2 => ⟨0x0, 0x0, 0x0, 0xFFFFFFFF⟩
  | .HPC_REF3 => ⟨0x0, 0x0, 0x0, 0xFFFFFFFF⟩
  | .HPC_ANT => ⟨0x0, 0x0, 0x0, 0xFFFFFFFF⟩
  | .HPC_DENS => ⟨0xFFFF, 0x0, 0x0, 0x0⟩
  | .HPC_FEED_FIX => ⟨0x80FFFFFF, 0x0, 0x0, 0x0⟩
  | .HPC_FEED => ⟨0x0, 0x0, 0x0, 0x0⟩
  | .HPC_ILK0 => ⟨0x0, 0x0, 0x0, 0xFFFFFFFF⟩
  | .HPC_ILK1 => ⟨0x0, 0x0, 0x0, 0xFFFFFFFF⟩
  | .HPC_ILK2 => ⟨0x0, 0x0, 0x0, 0xFFFF⟩
  | .HPC_OPT => ⟨0x0, 0x0, 0x0, 0xFFFFFFFF⟩
  | .FN_CFG0 => ⟨0x0, 0x0, 0x0, 0xEFFFE1FF⟩
  | .FN_CFG1 => ⟨0x0, 0x0, 0x0, 0xFFFF⟩
  | .FN_MODE => ⟨0x3, 0x0, 0x0, 0x0⟩
  | .FN_OPCMD => ⟨0xFFFFFFFF, 0x0, 0x0, 0x0⟩
  | .FN_TARGET => ⟨0x0, 0x0, 0x0, 0x0⟩
  | .FN_PROPOSAL => ⟨0x0, 0x0, 0x0, 0x0⟩
  | .FN_BAND => ⟨0x0, 0x0, 0x0, 0xFFFFFFFF⟩
  | .FN_OVR => ⟨0x0, 0x0, 0x0, 0xFFFFFFFF⟩
  | .FN_STATUS => ⟨0x0, 0x87, 0x0, 0x0⟩
  | .FN_HOLD => ⟨0x0, 0x0, 0x0, 0xFFFFFFFF⟩
  | .LIM_MIN => ⟨0x0, 0x0, 0x0, 0xFFFFFFFF⟩
  | .LIM_MAX => ⟨0x0, 0x0, 0x0, 0xFFFFFFFF⟩
  | .LIM_UP => ⟨0x0, 0x0, 0x0, 0xFFFFFFFF⟩
  | .LIM_DN => ⟨0x0, 0x0, 0x0, 0xFFFFFFFF⟩
  | .DEF => ⟨0x0, 0x0, 0x0, 0xFFFFFFFF⟩
  | .YLD_CTRL => ⟨0x1, 0x0, 0x6, 0x0⟩
  | .YLD_STATUS => ⟨0x0, 0x50, 0x0, 0x0⟩
  | .YLD_JOB => ⟨0xFFFFFFFF, 0x0, 0x0, 0x0⟩
  | .YLD_SRC => ⟨0x0, 0x0, 0x0, 0xFF7F⟩
  | .YLD_DELAY => ⟨0x0, 0x0, 0x0, 0xFFFFFFFF⟩
  | .YLD_MOIST => ⟨0x0, 0x0, 0x0, 0xFFFF⟩
  | .YLD_CELL => ⟨0x0, 0x0, 0x0, 0xFFFF⟩
  | .YLD_DAY => ⟨0x0, 0x0, 0x0, 0xFFFF⟩
  | .YLD_ACC => ⟨0x0, 0x0, 0x0, 0xFFFF⟩
  | .YLD_ACC_STATE => ⟨0x0, 0x0, 0x0, 0x0⟩
  | .YLD_AREA => ⟨0x0, 0x0, 0x0, 0x0⟩
  | .YLD_DRY => ⟨0x0, 0x0, 0x0, 0x0⟩
  | .YLD_HARV => ⟨0x0, 0x0, 0x0, 0x0⟩
  | .YLD_SEQ => ⟨0x0, 0x0, 0x0, 0x0⟩
  | .YLD_ACK => ⟨0xFFFFFFFF, 0x0, 0x0, 0x0⟩
  | .YLD_CNT => ⟨0x0, 0x0, 0x0, 0x0⟩
  | .YLD_EXPORT => ⟨0x0, 0x0, 0x1, 0x0⟩
  | .YLD_EXP_LO => ⟨0x0, 0x0, 0x0, 0xFFFFFFFF⟩
  | .YLD_EXP_HI => ⟨0x0, 0x0, 0x0, 0xFF⟩
  | .YLD_EXP_SIZE => ⟨0x0, 0x0, 0x0, 0xFFFFFFFF⟩
  | .YLD_EXP_LEN => ⟨0x0, 0x0, 0x0, 0x0⟩
  | .YLD_DAYEND_LO => ⟨0x0, 0x0, 0x0, 0x0⟩
  | .YLD_DAYEND_HI => ⟨0x0, 0x0, 0x0, 0x0⟩
  | .FAB_CFG => ⟨0x0, 0x0, 0x0, 0xFFFF01F0⟩
  | .FAB_STATUS => ⟨0x0, 0x0, 0x0, 0x0⟩
  | .FAB_ROLE => ⟨0x1FF000, 0xE, 0xC00, 0x0⟩
  | .FAB_FT_LO => ⟨0x0, 0x0, 0x0, 0x0⟩
  | .FAB_FT_HI => ⟨0x0, 0x0, 0x0, 0x0⟩
  | .FAB_TIME => ⟨0x0, 0x0, 0x0, 0x0⟩
  | .FAB_FLTQ => ⟨0x0, 0x0, 0x0, 0x0⟩
  | .FAB_SRX_MISS => ⟨0x0, 0x0, 0x0, 0x0⟩
  | .FAB_COAL_LOCAL => ⟨0x0, 0x0, 0x0, 0x0⟩
  | .FAB_EQ => ⟨0x0, 0x0, 0x0, 0xFFFF⟩
  | .PORT_CTRL => ⟨0x1, 0x0, 0x0, 0x0⟩
  | .PORT_STATUS => ⟨0x0, 0x0, 0x0, 0x0⟩
  | .PORT_ERR => ⟨0x0, 0x0, 0x0, 0x0⟩
  | .PORT_ERR2 => ⟨0x0, 0x0, 0x0, 0x0⟩
  | .PORT_DELAY => ⟨0x0, 0x0, 0x0, 0x0⟩
  | .PORT_COAL => ⟨0x0, 0x0, 0x0, 0x0⟩
  | .PORT_NAK => ⟨0x0, 0x0, 0x0, 0x0⟩
  | .PORT_FLITS => ⟨0x0, 0x0, 0x0, 0x0⟩
  | .XD_SRC_LO => ⟨0x0, 0x0, 0x0, 0xFFFFFFFF⟩
  | .XD_SRC_HI => ⟨0x0, 0x0, 0x0, 0xFF⟩
  | .XD_DST_LO => ⟨0x0, 0x0, 0x0, 0xFFFFFFFF⟩
  | .XD_DST_HI => ⟨0x0, 0x0, 0x0, 0x1FFFF⟩
  | .XD_CFG => ⟨0x0, 0x0, 0x0, 0xFFC01FFF⟩
  | .XD_CTRL => ⟨0x0, 0x0, 0x1, 0x0⟩
  | .XD_STATUS => ⟨0x0, 0x6, 0x0, 0x0⟩
  | .STX_CFG => ⟨0x0, 0x0, 0x0, 0x8000FFFF⟩
  | .STX_DEST01 => ⟨0x0, 0x0, 0x0, 0x81FF81FF⟩
  | .STX_DEST23 => ⟨0x0, 0x0, 0x0, 0x81FF81FF⟩
  | .STX_SENT => ⟨0x0, 0x0, 0x0, 0x0⟩
  | .SRX_CFG => ⟨0x0, 0x0, 0x0, 0x8003FFFF⟩
  | .SRX_ADDR_LO => ⟨0x0, 0x0, 0x0, 0xFFFFFFFF⟩
  | .SRX_ADDR_HI => ⟨0x0, 0x0, 0x0, 0xFF⟩
  | .SRX_CNT => ⟨0x0, 0x0, 0x0, 0x0⟩
  | .FAB_ROUTE => ⟨0x0, 0x0, 0x0, 0x0⟩
  | .ACC_CFG => ⟨0x0, 0x0, 0x0, 0x3FF⟩
  | .ACC_LOG_LO => ⟨0x0, 0x0, 0x0, 0xFFFFFFFF⟩
  | .ACC_LOG_HI => ⟨0x0, 0x0, 0x0, 0xFF⟩
  | .ACC_LOG_N => ⟨0x0, 0x0, 0x0, 0x1FFF⟩
  | .ACC_LOG_WR => ⟨0x0, 0x0, 0x0, 0x0⟩
  | .ACC_LOG_RD => ⟨0xFFFFFFFF, 0x0, 0x0, 0x0⟩
  | .ACC_LOG_LOST => ⟨0x0, 0x0, 0x0, 0x0⟩
  | .ACC_REFUSED => ⟨0x0, 0x0, 0x0, 0x0⟩
  | .ACC_ENT0 => ⟨0x0, 0x0, 0x0, 0xE00FFFFF⟩
  | .ACC_ENT1 => ⟨0x0, 0x0, 0x0, 0xFFFFFFFF⟩
  | .ACC_ENT2 => ⟨0x0, 0x0, 0x0, 0xFFFFFFFF⟩
  | .ACC_ENT3 => ⟨0x0, 0x0, 0x0, 0x0⟩
  | .ACC_TMAP => ⟨0x0, 0x0, 0x0, 0xFFFFF3FF⟩
  | .PWR_STATUS => ⟨0x0, 0x0, 0x0, 0x0⟩
  | .PWR_HOLDUP => ⟨0x0, 0x0, 0x0, 0x0⟩
  | .PWR_THERM => ⟨0x0, 0x0, 0x0, 0x0⟩
  | .PWR_DRAM => ⟨0x0, 0x0, 0x0, 0x0⟩
  | .PWR_WAKE => ⟨0x0, 0x0, 0x0, 0x0⟩
  | .PWR_EVT => ⟨0x0, 0x7, 0x0, 0x0⟩
  | .PD_CTRL => ⟨0x1, 0x0, 0x4, 0x18⟩
  | .PD_STATUS => ⟨0x0, 0xC0, 0x0, 0x0⟩
  | .TZ_CFG => ⟨0x0, 0x0, 0x0, 0xFFFF⟩
  | .TZ_STAT => ⟨0x0, 0x0, 0x0, 0x0⟩
  | .COOL_CFG => ⟨0x0, 0x0, 0x0, 0xFFFFF⟩
  | .COOL_HOST => ⟨0x3FF, 0x0, 0x0, 0x0⟩
  | .COOL_STATUS => ⟨0x0, 0x0, 0x0, 0x0⟩
  | .COOL_MIN => ⟨0x0, 0x0, 0x0, 0xFFFF⟩
  | .COOL_WD => ⟨0x0, 0x0, 0x0, 0xFFFF⟩
  | .BOOT_STATUS => ⟨0x0, 0x0, 0x0, 0x0⟩
  | .BOOT_SEQ => ⟨0x0, 0x0, 0x0, 0x0⟩
  | .BOOT_FB_SEQ => ⟨0x0, 0x0, 0x0, 0x0⟩
  | .BOOT_CFG_VER => ⟨0x0, 0x0, 0x0, 0x0⟩
  | .BOOT_START_MS => ⟨0x0, 0x0, 0x0, 0x0⟩
  | .BOOT_UPD_LO => ⟨0xFFFFFFFF, 0x0, 0x0, 0x0⟩
  | .BOOT_UPD_HI => ⟨0xFF, 0x0, 0x0, 0x0⟩
  | .BOOT_UPD_LEN => ⟨0xFFFFFFFF, 0x0, 0x0, 0x0⟩
  | .BOOT_UPD_CMD => ⟨0x0, 0x0, 0x7, 0x0⟩
  | .BOOT_UPD_STATUS => ⟨0x0, 0x8, 0x0, 0x0⟩
  | .BOOT_UPD_SEQ => ⟨0x0, 0x0, 0x0, 0x0⟩
  | .BOOT_OTP_GEN => ⟨0x0, 0x0, 0x0, 0x0⟩
  | .BOOT_MAC_LO => ⟨0x0, 0x0, 0x0, 0x0⟩
  | .BOOT_MAC_HI => ⟨0x0, 0x0, 0x0, 0x0⟩
  | .BOOT_SERIAL => ⟨0x0, 0x0, 0x0, 0x0⟩
  | .BOOT_JRN => ⟨0x0, 0x0, 0x0, 0x0⟩
  | .ETH_CTRL => ⟨0x1, 0x0, 0x0, 0x6⟩
  | .ETH_STATUS => ⟨0x0, 0x0, 0x0, 0x0⟩
  | .ETH_IP => ⟨0x0, 0x0, 0x0, 0xFFFFFFFF⟩
  | .ETH_CNT => ⟨0x0, 0x0, 0x0, 0x0⟩
  | .CAN_CTRL => ⟨0x1, 0x0, 0x4, 0x2⟩
  | .CAN_CFG => ⟨0x0, 0x0, 0x0, 0xFFF⟩
  | .CAN_TXR_LO => ⟨0x0, 0x0, 0x0, 0xFFFFFFFF⟩
  | .CAN_TXR_HI => ⟨0x0, 0x0, 0x0, 0xFF⟩
  | .CAN_RXR_LO => ⟨0x0, 0x0, 0x0, 0xFFFFFFFF⟩
  | .CAN_RXR_HI => ⟨0x0, 0x0, 0x0, 0xFF⟩
  | .CAN_STATUS => ⟨0x0, 0x0, 0x0, 0x0⟩
  | .CAN_FILT_EN => ⟨0x0, 0x0, 0x0, 0xFFFFFFFF⟩
  | .CAN_FILT_ID => ⟨0x0, 0x0, 0x0, 0x1FFFFFFF⟩
  | .CAN_FILT_MASK => ⟨0x0, 0x0, 0x0, 0x1FFFFFFF⟩
  | .ISO_CFG => ⟨0x0, 0x0, 0x0, 0x2FF⟩
  | .ISO_NAME_LO => ⟨0x0, 0x0, 0x0, 0xFFFFFFFF⟩
  | .ISO_NAME_HI => ⟨0x0, 0x0, 0x0, 0xFFFFFFFF⟩
  | .J1939_CFG => ⟨0x0, 0x0, 0x0, 0x1FFFF⟩
  | .FLEET_CTRL => ⟨0x1, 0x0, 0x2, 0x0⟩
  | .FLEET_ID => ⟨0x0, 0x0, 0x0, 0xFFFFFFFF⟩
  | .FLEET_GW => ⟨0x0, 0x0, 0x0, 0xFFFFFFFF⟩
  | .FLEET_CFG => ⟨0x0, 0x0, 0x0, 0xFFFFF8FF⟩
  | .FLEET_TOL => ⟨0x0, 0x0, 0x0, 0xFFFFFFFF⟩
  | .FLEET_UNLOAD => ⟨0x0, 0x0, 0x0, 0xFFFFFFFF⟩
  | .FLEET_ROLE => ⟨0x0, 0xE, 0xC00, 0x0⟩
  | .FLEET_PEER => ⟨0xFFFFFFFF, 0x0, 0x0, 0x0⟩
  | .FLEET_STATUS => ⟨0x0, 0x0, 0x0, 0x0⟩
  | .FLEET_CNT => ⟨0x0, 0x0, 0x0, 0x0⟩
  | .DBG_STATUS => ⟨0x0, 0x0, 0x0, 0x0⟩
  | .DBG_FRZ_ID => ⟨0x0, 0x0, 0x0, 0x0⟩
  | .DBG_FRZ_T_LO => ⟨0x0, 0x0, 0x0, 0x0⟩
  | .DBG_FRZ_T_HI => ⟨0x0, 0x0, 0x0, 0x0⟩
  | .DBG_CTRL => ⟨0x0, 0x0, 0x3, 0x0⟩
  | .DBG_CTX_SEL => ⟨0x7FFFF, 0x0, 0x0, 0x0⟩
  | .DBG_CTX_DATA => ⟨0x0, 0x0, 0x0, 0x0⟩

/-- The Reset column, for the registers in which it is one number (R11). -/
def RegName.resetConst : RegName → Nat
  | .SYS_ID => 0x5124A243
  | .SYS_STEP => 0x1034201
  | .SYS_FAULT_MASK => 0x3FFFFE
  | .TBU_STATUS => 0x2
  | .TB_STALL => 0x1F4
  | .TILE_THR => 0x32
  | .TASK_CTRL => 0x2
  | .TASK_STATUS => 0x40
  | .SOL_BAND => 0x785028
  | .SOL_CFG => 0x20
  | .SOL_PWM => 0x1E01D4C0
  | .SOL_GAIN => 0x1000010
  | .SOL_DITHER => 0x32000000
  | .SOL_DGAIN => 0x40404040
  | .SOL_ARM => 0x14640032
  | .SOL_ARM2 => 0x6407D0
  | .LSW_CFG => 0xA0040
  | .AIN_CFG => 0x200
  | .AIN_SCALE => 0x10000
  | .IMP_CFG => 0x140A0C80
  | .ENC_CFG => 0x200
  | .ENC_PERIOD => 0xFFFFFFFF
  | .CAM_CFG => 0x2EE2
  | .CAM_TRIG => 0x6410000A
  | .CCI_CMD => 0x44000
  | .PS_GAIN => 0x1000
  | .ST_CFG => 0x158
  | .FUS_GRID_CFG => 0x20323F00
  | .FUS_VOL => 0x5
  | .FUS_CONS => 0x14050508
  | .FUS_DROP => 0x1F4
  | .FUS_RS_PORT => 0xB810
  | .GNSS_SIG_EN => 0x7FFF
  | .GNSS_MASK => 0x160A04
  | .GNSS_COAST => 0xBB80F0A
  | .GNSS_HOLD => 0x1C202710
  | .GNSS_PPS => 0x64
  | .GNSS_RTCM_CFG => 0xA
  | .GNSS_RTCM_STAT => 0xFFFF
  | .GNSS_NMEA => 0x277E0000
  | .GNSS_JAM_CFG => 0xAA03C
  | .JAM_STAT => 0xFF0000
  | .HPC_WEIGHTS => 0x408080
  | .HPC_REF0 => 0x64
  | .HPC_REF1 => 0x64
  | .HPC_REF2 => 0x1F4
  | .HPC_REF3 => 0x320
  | .HPC_ANT => 0x801F4320
  | .HPC_DENS => 0x82
  | .HPC_ILK0 => 0x3521F40
  | .HPC_ILK1 => 0x2580096
  | .HPC_ILK2 => 0x3B6
  | .HPC_OPT => 0x8053C1E
  | .YLD_MOIST => 0x5AA
  | .YLD_CELL => 0x64
  | .YLD_ACC => 0x203
  | .FAB_CFG => 0x640000
  | .FAB_EQ => 0x643C
  | .ACC_CFG => 0x3FF
  | .ACC_LOG_N => 0x100
  | .PWR_STATUS => 0x3E8C00
  | .PD_CTRL => 0x19
  | .COOL_CFG => 0xFFF14
  | .COOL_WD => 0x3E8
  | .BOOT_OTP_GEN => 0x7777
  | .CAN_CTRL => 0x2
  | .CAN_CFG => 0x601
  | .ISO_CFG => 0x80
  | .J1939_CFG => 0x27
  | .FLEET_CFG => 0xB8C45001
  | .FLEET_TOL => 0x12C01F4
  | .FLEET_UNLOAD => 0x27102328
  | .DBG_STATUS => 0x10
  | _ => 0

/-- The registers of block `b` (the order of R16; LE is block 2 and takes two windows). -/
def RegName.ofBlock : Nat → List RegName
  | 0 => [.SYS_ID, .SYS_STEP, .SYS_NODE, .SYS_STATUS, .SYS_FAULT_LATCH, .SYS_FAULT_MASK]
  | 1 => [.TBU_CTRL, .TBU_STATUS, .TBU_SNAP, .TB2_SET_LO, .TB2_SET_HI, .TB3_SLIP, .TBU_SNAPVAL_LO, .TBU_SNAPVAL_HI,
      .TB_VALUE_LO, .TB_VALUE_HI, .TB_CFG, .TB_SCALE, .TB_INDEX, .TB_STALL, .TB_STAT, .WIN_CFG, .WIN_COUNT,
      .SLOT_CTRL, .SLOT_TARGET, .SLOT_COUNT_LO, .SLOT_COUNT_HI, .SLOT_PERIOD_LO, .SLOT_PERIOD_HI, .SLOT_STATUS,
      .SLOT_FIRES]
  | 2 => [.TILE_STATUS, .TILE_THR, .TILE_OCC, .TILE_TEMP_SEEN, .ENG_STATUS, .ENG_ISSUE, .TASK_MAN, .TASK_CNT,
      .TASK_CTRL, .TASK_DESC, .TASK_STATUS, .TASK_SEQ]
  | 3 => [.SOL_TRIPMAP_LO, .SOL_TRIPMAP_HI, .SOL_TRIP_IN, .SOL_BAND, .SOL_COMP_STATUS, .SOL_COMP_TEMP, .SOL_CTRL,
      .SOL_CFG, .SOL_PWM, .SOL_PHASE, .SOL_GAIN, .SOL_DITHER, .SOL_DGAIN, .SOL_ARM, .SOL_ARM2, .SOL_RCOLD, .SOL_SP,
      .SOL_MEAS, .SOL_DUTY, .SOL_RCOIL, .SOL_STATUS, .SOL_ARMTIME]
  | 4 => [.LSW_TRIPMAP, .LSW_TRIP_IN, .LSW_LIMP, .LSW_LIMP_REL, .LSW_TOTAL, .LSW_MUXSEL, .LSW_BANK_STATUS,
      .LSW_BANK_FEED, .LSW_BANK_TEMP, .LSW_CTRL, .LSW_CFG, .LSW_CMD, .LSW_SENSE, .LSW_STATUS, .LSW_TEMP]
  | 5 => [.HK_ROUND, .AFE_EXC, .AIN_CFG, .AIN_OFFSET, .AIN_SCALE, .AIN_WORD, .AIN_CAP, .AIN_CAP_T, .IMP_CFG,
      .IMP_WORD, .IMP_CAP_CNT, .IMP_CAP_DIST, .IMP_LIVE, .ENC_CFG, .ENC_WORD, .ENC_PERIOD, .ENC_CAP, .HK_WORD]
  | 6 => [.CAM_CTRL, .CAM_CFG, .CAM_STATUS, .CAM_TRIG, .CAM_ERR0, .CAM_ERR1, .CAM_ERR2, .CCI_CMD, .CCI_TX, .CCI_RX,
      .CCI_STATUS, .PS_BLACK01, .PS_BLACK23, .PS_GAIN, .PS_DPC, .PS_COMMIT, .PS_STATUS, .ST_CFG, .ST_SIZE,
      .ST_PITCH, .ST_ADDR_LO, .ST_ADDR_HI, .ST_COMMIT, .ST_ACTIVE_LO, .ST_ACTIVE_HI, .ST_STATUS, .ST_FCNT]
  | 7 => [.FUS_CTRL, .FUS_STATUS, .FUS_EPOCH, .FUS_PUB, .FUS_GRID_CFG, .FUS_GRID_LO, .FUS_GRID_HI, .FUS_HEADER,
      .FUS_SWATH, .FUS_VOL, .FUS_CONS, .FUS_DROP, .FUS_SENS_EN, .FUS_MASK, .FUS_RS_PORT, .FUS_RS_CNT, .FUS_RS_GAP,
      .CAL_CFG, .CAL_R, .CAL_T, .CAL_F, .CAL_C, .CAL_K, .CAL_PROJ, .CAL_DEPTH_LO, .CAL_DEPTH_HI, .CAL_REMOTE,
      .MODEL_CFG, .MODEL_ADDR_LO, .MODEL_ADDR_HI, .MODEL_OUT_LO, .MODEL_OUT_HI, .MODEL_CMD, .MODEL_STATUS, .FUS_BIN]
  | 8 => [.GNSS_CTRL, .GNSS_STATUS, .GNSS_SIG_EN, .GNSS_MASK, .GNSS_COAST, .GNSS_HOLD, .GNSS_HOLD_STAT,
      .GNSS_TIME_OFS, .GNSS_LEAP, .GNSS_PPS, .GNSS_RTCM_CFG, .GNSS_RTCM_STAT, .GNSS_RTCM_CNT, .GNSS_BASE,
      .GNSS_NAV_STREAM, .GNSS_NAV_SNAP, .GNSS_NMEA, .GNSS_JAM_CFG, .LEV_A, .LEV_B, .GNSS_NAV, .JAM_STAT, .NOTCH,
      .CH_STATUS, .CH_DOPPLER, .CH_PHASE, .CH_LOCK]
  | 9 => [.HPC_CTRL, .HPC_STATUS, .HPC_ROUND, .HPC_FIELD, .HPC_OBS, .HPC_WEIGHTS, .HPC_REF0, .HPC_REF1, .HPC_REF2,
      .HPC_REF3, .HPC_ANT, .HPC_DENS, .HPC_FEED_FIX, .HPC_FEED, .HPC_ILK0, .HPC_ILK1, .HPC_ILK2, .HPC_OPT,
      .FN_CFG0, .FN_CFG1, .FN_MODE, .FN_OPCMD, .FN_TARGET, .FN_PROPOSAL, .FN_BAND, .FN_OVR, .FN_STATUS, .FN_HOLD,
      .LIM_MIN, .LIM_MAX, .LIM_UP, .LIM_DN, .DEF]
  | 10 => [.YLD_CTRL, .YLD_STATUS, .YLD_JOB, .YLD_SRC, .YLD_DELAY, .YLD_MOIST, .YLD_CELL, .YLD_DAY, .YLD_ACC,
      .YLD_ACC_STATE, .YLD_AREA, .YLD_DRY, .YLD_HARV, .YLD_SEQ, .YLD_ACK, .YLD_CNT, .YLD_EXPORT, .YLD_EXP_LO,
      .YLD_EXP_HI, .YLD_EXP_SIZE, .YLD_EXP_LEN, .YLD_DAYEND_LO, .YLD_DAYEND_HI]
  | 11 => [.FAB_CFG, .FAB_STATUS, .FAB_ROLE, .FAB_FT_LO, .FAB_FT_HI, .FAB_TIME, .FAB_FLTQ, .FAB_SRX_MISS,
      .FAB_COAL_LOCAL, .FAB_EQ, .PORT_CTRL, .PORT_STATUS, .PORT_ERR, .PORT_ERR2, .PORT_DELAY, .PORT_COAL,
      .PORT_NAK, .PORT_FLITS, .XD_SRC_LO, .XD_SRC_HI, .XD_DST_LO, .XD_DST_HI, .XD_CFG, .XD_CTRL, .XD_STATUS,
      .STX_CFG, .STX_DEST01, .STX_DEST23, .STX_SENT, .SRX_CFG, .SRX_ADDR_LO, .SRX_ADDR_HI, .SRX_CNT, .FAB_ROUTE]
  | 12 => [.ACC_CFG, .ACC_LOG_LO, .ACC_LOG_HI, .ACC_LOG_N, .ACC_LOG_WR, .ACC_LOG_RD, .ACC_LOG_LOST, .ACC_REFUSED,
      .ACC_ENT0, .ACC_ENT1, .ACC_ENT2, .ACC_ENT3, .ACC_TMAP]
  | 13 => [.PWR_STATUS, .PWR_HOLDUP, .PWR_THERM, .PWR_DRAM, .PWR_WAKE, .PWR_EVT, .PD_CTRL, .PD_STATUS, .TZ_CFG,
      .TZ_STAT, .COOL_CFG, .COOL_HOST, .COOL_STATUS, .COOL_MIN, .COOL_WD]
  | 14 => [.BOOT_STATUS, .BOOT_SEQ, .BOOT_FB_SEQ, .BOOT_CFG_VER, .BOOT_START_MS, .BOOT_UPD_LO, .BOOT_UPD_HI,
      .BOOT_UPD_LEN, .BOOT_UPD_CMD, .BOOT_UPD_STATUS, .BOOT_UPD_SEQ, .BOOT_OTP_GEN, .BOOT_MAC_LO, .BOOT_MAC_HI,
      .BOOT_SERIAL, .BOOT_JRN]
  | 15 => [.ETH_CTRL, .ETH_STATUS, .ETH_IP, .ETH_CNT, .CAN_CTRL, .CAN_CFG, .CAN_TXR_LO, .CAN_TXR_HI, .CAN_RXR_LO,
      .CAN_RXR_HI, .CAN_STATUS, .CAN_FILT_EN, .CAN_FILT_ID, .CAN_FILT_MASK, .ISO_CFG, .ISO_NAME_LO, .ISO_NAME_HI,
      .J1939_CFG, .FLEET_CTRL, .FLEET_ID, .FLEET_GW, .FLEET_CFG, .FLEET_TOL, .FLEET_UNLOAD, .FLEET_ROLE,
      .FLEET_PEER, .FLEET_STATUS, .FLEET_CNT]
  | 16 => [.DBG_STATUS, .DBG_FRZ_ID, .DBG_FRZ_T_LO, .DBG_FRZ_T_HI, .DBG_CTRL, .DBG_CTX_SEL, .DBG_CTX_DATA]
  | _ => []

/-- A field of a register: its register, lowest bit and width. -/
structure Fld where
  reg : RegName
  lo  : Nat
  w   : Nat
deriving DecidableEq, Repr

end Sys2Proof.Machine

/-! The named fields of the field maps, `F.REGISTER_FIELD`. -/
namespace Sys2Proof.Machine.F

/-- SYS_ID.PART, bits [31:16], RO. -/
abbrev SYS_ID_PART : Fld := ⟨.SYS_ID, 16, 16⟩
/-- SYS_ID.VARIANT, bits [15:8], RO. -/
abbrev SYS_ID_VARIANT : Fld := ⟨.SYS_ID, 8, 8⟩
/-- SYS_ID.ISSUE, bits [7:0], RO. -/
abbrev SYS_ID_ISSUE : Fld := ⟨.SYS_ID, 0, 8⟩
/-- SYS_STEP.ROM_VER, bits [31:16], RO. -/
abbrev SYS_STEP_ROM_VER : Fld := ⟨.SYS_STEP, 16, 16⟩
/-- SYS_STEP.STEP_MAJOR, bits [15:8], RO. -/
abbrev SYS_STEP_STEP_MAJOR : Fld := ⟨.SYS_STEP, 8, 8⟩
/-- SYS_STEP.STEP_MINOR, bits [7:0], RO. -/
abbrev SYS_STEP_STEP_MINOR : Fld := ⟨.SYS_STEP, 0, 8⟩
/-- SYS_NODE.NODE, bits [8:0], RO. -/
abbrev SYS_NODE_NODE : Fld := ⟨.SYS_NODE, 0, 9⟩
/-- SYS_STATUS.FAULT_PENDING, bits [5:5], RO. -/
abbrev SYS_STATUS_FAULT_PENDING : Fld := ⟨.SYS_STATUS, 5, 1⟩
/-- SYS_STATUS.IMAGE_SLOT, bits [4:4], RO. -/
abbrev SYS_STATUS_IMAGE_SLOT : Fld := ⟨.SYS_STATUS, 4, 1⟩
/-- SYS_STATUS.CONDUCTOR, bits [3:3], RO. -/
abbrev SYS_STATUS_CONDUCTOR : Fld := ⟨.SYS_STATUS, 3, 1⟩
/-- SYS_STATUS.FROZEN, bits [2:2], RO. -/
abbrev SYS_STATUS_FROZEN : Fld := ⟨.SYS_STATUS, 2, 1⟩
/-- SYS_STATUS.CRANK_HOLD, bits [1:1], RO. -/
abbrev SYS_STATUS_CRANK_HOLD : Fld := ⟨.SYS_STATUS, 1, 1⟩
/-- SYS_STATUS.CONFIG_DONE, bits [0:0], RO. -/
abbrev SYS_STATUS_CONFIG_DONE : Fld := ⟨.SYS_STATUS, 0, 1⟩
/-- SYS_FAULT_LATCH.CLASS_SEEN, bits [21:1], W1C. -/
abbrev SYS_FAULT_LATCH_CLASS_SEEN : Fld := ⟨.SYS_FAULT_LATCH, 1, 21⟩
/-- SYS_FAULT_MASK.CLASS_EN, bits [21:1], LCK. -/
abbrev SYS_FAULT_MASK_CLASS_EN : Fld := ⟨.SYS_FAULT_MASK, 1, 21⟩
/-- TBU_CTRL.TB2_AUTO, bits [0:0], RW. -/
abbrev TBU_CTRL_TB2_AUTO : Fld := ⟨.TBU_CTRL, 0, 1⟩
/-- TBU_STATUS.TB2_STEP_FWD, bits [17:17], W1C. -/
abbrev TBU_STATUS_TB2_STEP_FWD : Fld := ⟨.TBU_STATUS, 17, 1⟩
/-- TBU_STATUS.TB2_STEP_BACK, bits [16:16], W1C. -/
abbrev TBU_STATUS_TB2_STEP_BACK : Fld := ⟨.TBU_STATUS, 16, 1⟩
/-- TBU_STATUS.TB_VALID, bits [15:0], RO. -/
abbrev TBU_STATUS_TB_VALID : Fld := ⟨.TBU_STATUS, 0, 16⟩
/-- TBU_SNAP.SNAP, bits [0:0], WO. -/
abbrev TBU_SNAP_SNAP : Fld := ⟨.TBU_SNAP, 0, 1⟩
/-- TB2_SET_LO.SET, bits [31:0], WO. -/
abbrev TB2_SET_LO_SET : Fld := ⟨.TB2_SET_LO, 0, 32⟩
/-- TB2_SET_HI.SET, bits [31:0], WO. -/
abbrev TB2_SET_HI_SET : Fld := ⟨.TB2_SET_HI, 0, 32⟩
/-- TB3_SLIP.AIDING, bits [16:16], RO. -/
abbrev TB3_SLIP_AIDING : Fld := ⟨.TB3_SLIP, 16, 1⟩
/-- TB3_SLIP.SLIP, bits [15:0], RO. -/
abbrev TB3_SLIP_SLIP : Fld := ⟨.TB3_SLIP, 0, 16⟩
/-- TBU_SNAPVAL_LO.VALUE, bits [31:0], RO. -/
abbrev TBU_SNAPVAL_LO_VALUE : Fld := ⟨.TBU_SNAPVAL_LO, 0, 32⟩
/-- TBU_SNAPVAL_HI.VALUE, bits [31:0], RO. -/
abbrev TBU_SNAPVAL_HI_VALUE : Fld := ⟨.TBU_SNAPVAL_HI, 0, 32⟩
/-- TB_VALUE_LO.VALUE, bits [31:0], RO. -/
abbrev TB_VALUE_LO_VALUE : Fld := ⟨.TB_VALUE_LO, 0, 32⟩
/-- TB_VALUE_HI.VALUE, bits [31:0], RO. -/
abbrev TB_VALUE_HI_VALUE : Fld := ⟨.TB_VALUE_HI, 0, 32⟩
/-- TB_CFG.FUSE, bits [21:21], LCK. -/
abbrev TB_CFG_FUSE : Fld := ⟨.TB_CFG, 21, 1⟩
/-- TB_CFG.INTERP, bits [20:20], LCK. -/
abbrev TB_CFG_INTERP : Fld := ⟨.TB_CFG, 20, 1⟩
/-- TB_CFG.QUAD, bits [19:19], LCK. -/
abbrev TB_CFG_QUAD : Fld := ⟨.TB_CFG, 19, 1⟩
/-- TB_CFG.SRC_B_EN, bits [18:18], LCK. -/
abbrev TB_CFG_SRC_B_EN : Fld := ⟨.TB_CFG, 18, 1⟩
/-- TB_CFG.SRC_B, bits [17:13], LCK. -/
abbrev TB_CFG_SRC_B : Fld := ⟨.TB_CFG, 13, 5⟩
/-- TB_CFG.SRC_A, bits [12:8], LCK. -/
abbrev TB_CFG_SRC_A : Fld := ⟨.TB_CFG, 8, 5⟩
/-- TB_CFG.KIND, bits [1:0], LCK. -/
abbrev TB_CFG_KIND : Fld := ⟨.TB_CFG, 0, 2⟩
/-- TB_SCALE.SCALE, bits [31:0], LCK. -/
abbrev TB_SCALE_SCALE : Fld := ⟨.TB_SCALE, 0, 32⟩
/-- TB_INDEX.OFFSET, bits [15:0], LCK. -/
abbrev TB_INDEX_OFFSET : Fld := ⟨.TB_INDEX, 0, 16⟩
/-- TB_STALL.STALL_MS, bits [15:0], LCK. -/
abbrev TB_STALL_STALL_MS : Fld := ⟨.TB_STALL, 0, 16⟩
/-- TB_STAT.STEP_FWD, bits [4:4], W1C. -/
abbrev TB_STAT_STEP_FWD : Fld := ⟨.TB_STAT, 4, 1⟩
/-- TB_STAT.REVERSE, bits [3:3], RO. -/
abbrev TB_STAT_REVERSE : Fld := ⟨.TB_STAT, 3, 1⟩
/-- TB_STAT.STALLED, bits [2:2], RO. -/
abbrev TB_STAT_STALLED : Fld := ⟨.TB_STAT, 2, 1⟩
/-- TB_STAT.HOLDING, bits [1:1], RO. -/
abbrev TB_STAT_HOLDING : Fld := ⟨.TB_STAT, 1, 1⟩
/-- TB_STAT.VALID, bits [0:0], RO. -/
abbrev TB_STAT_VALID : Fld := ⟨.TB_STAT, 0, 1⟩
/-- WIN_CFG.OPEN, bits [31:31], RO. -/
abbrev WIN_CFG_OPEN : Fld := ⟨.WIN_CFG, 31, 1⟩
/-- WIN_CFG.GATE_ID, bits [11:4], LCK. -/
abbrev WIN_CFG_GATE_ID : Fld := ⟨.WIN_CFG, 4, 8⟩
/-- WIN_CFG.GATE_KIND, bits [1:0], LCK. -/
abbrev WIN_CFG_GATE_KIND : Fld := ⟨.WIN_CFG, 0, 2⟩
/-- WIN_COUNT.ORPHAN_STOP, bits [31:16], RO. -/
abbrev WIN_COUNT_ORPHAN_STOP : Fld := ⟨.WIN_COUNT, 16, 16⟩
/-- WIN_COUNT.WINDOW_NULL, bits [15:0], RO. -/
abbrev WIN_COUNT_WINDOW_NULL : Fld := ⟨.WIN_COUNT, 0, 16⟩
/-- SLOT_CTRL.WIN, bits [16:10], RW. -/
abbrev SLOT_CTRL_WIN : Fld := ⟨.SLOT_CTRL, 10, 7⟩
/-- SLOT_CTRL.TB, bits [9:6], RW. -/
abbrev SLOT_CTRL_TB : Fld := ⟨.SLOT_CTRL, 6, 4⟩
/-- SLOT_CTRL.LOW16, bits [5:5], RW. -/
abbrev SLOT_CTRL_LOW16 : Fld := ⟨.SLOT_CTRL, 5, 1⟩
/-- SLOT_CTRL.DIR, bits [4:3], RW. -/
abbrev SLOT_CTRL_DIR : Fld := ⟨.SLOT_CTRL, 3, 2⟩
/-- SLOT_CTRL.MODE, bits [2:1], RW. -/
abbrev SLOT_CTRL_MODE : Fld := ⟨.SLOT_CTRL, 1, 2⟩
/-- SLOT_CTRL.EN, bits [0:0], RW. -/
abbrev SLOT_CTRL_EN : Fld := ⟨.SLOT_CTRL, 0, 1⟩
/-- SLOT_TARGET.ID, bits [19:8], LCK. -/
abbrev SLOT_TARGET_ID : Fld := ⟨.SLOT_TARGET, 8, 12⟩
/-- SLOT_TARGET.KIND, bits [2:0], LCK. -/
abbrev SLOT_TARGET_KIND : Fld := ⟨.SLOT_TARGET, 0, 3⟩
/-- SLOT_COUNT_LO.COUNT, bits [31:0], RW. -/
abbrev SLOT_COUNT_LO_COUNT : Fld := ⟨.SLOT_COUNT_LO, 0, 32⟩
/-- SLOT_COUNT_HI.COUNT, bits [31:0], RW. -/
abbrev SLOT_COUNT_HI_COUNT : Fld := ⟨.SLOT_COUNT_HI, 0, 32⟩
/-- SLOT_PERIOD_LO.PERIOD, bits [31:0], RW. -/
abbrev SLOT_PERIOD_LO_PERIOD : Fld := ⟨.SLOT_PERIOD_LO, 0, 32⟩
/-- SLOT_PERIOD_HI.PERIOD, bits [31:0], RW. -/
abbrev SLOT_PERIOD_HI_PERIOD : Fld := ⟨.SLOT_PERIOD_HI, 0, 32⟩
/-- SLOT_STATUS.HELD_INVALID, bits [2:2], RO. -/
abbrev SLOT_STATUS_HELD_INVALID : Fld := ⟨.SLOT_STATUS, 2, 1⟩
/-- SLOT_STATUS.ARM_LATE, bits [1:1], W1C. -/
abbrev SLOT_STATUS_ARM_LATE : Fld := ⟨.SLOT_STATUS, 1, 1⟩
/-- SLOT_STATUS.ARMED, bits [0:0], RO. -/
abbrev SLOT_STATUS_ARMED : Fld := ⟨.SLOT_STATUS, 0, 1⟩
/-- SLOT_FIRES.FIRES, bits [31:0], RO. -/
abbrev SLOT_FIRES_FIRES : Fld := ⟨.SLOT_FIRES, 0, 32⟩
/-- TILE_STATUS.GRACE_MS, bits [12:8], RO. -/
abbrev TILE_STATUS_GRACE_MS : Fld := ⟨.TILE_STATUS, 8, 5⟩
/-- TILE_STATUS.GATED, bits [1:1], RO. -/
abbrev TILE_STATUS_GATED : Fld := ⟨.TILE_STATUS, 1, 1⟩
/-- TILE_STATUS.THR_REQ, bits [0:0], RO. -/
abbrev TILE_STATUS_THR_REQ : Fld := ⟨.TILE_STATUS, 0, 1⟩
/-- TILE_THR.TARGET_PCT, bits [6:0], LCK. -/
abbrev TILE_THR_TARGET_PCT : Fld := ⟨.TILE_THR, 0, 7⟩
/-- TILE_OCC.OCC, bits [9:0], RO. -/
abbrev TILE_OCC_OCC : Fld := ⟨.TILE_OCC, 0, 10⟩
/-- TILE_TEMP_SEEN.THR_SEEN, bits [0:0], W1C. -/
abbrev TILE_TEMP_SEEN_THR_SEEN : Fld := ⟨.TILE_TEMP_SEEN, 0, 1⟩
/-- ENG_STATUS.READY, bits [15:8], RO. -/
abbrev ENG_STATUS_READY : Fld := ⟨.ENG_STATUS, 8, 8⟩
/-- ENG_STATUS.BUSY, bits [3:3], RO. -/
abbrev ENG_STATUS_BUSY : Fld := ⟨.ENG_STATUS, 3, 1⟩
/-- ENG_STATUS.SLOT, bits [2:0], RO. -/
abbrev ENG_STATUS_SLOT : Fld := ⟨.ENG_STATUS, 0, 3⟩
/-- ENG_ISSUE.ISSUED, bits [31:0], RO. -/
abbrev ENG_ISSUE_ISSUED : Fld := ⟨.ENG_ISSUE, 0, 32⟩
/-- TASK_MAN.MAN_VALUE, bits [31:0], RW. -/
abbrev TASK_MAN_MAN_VALUE : Fld := ⟨.TASK_MAN, 0, 32⟩
/-- TASK_CNT.DROPPED, bits [31:16], RO. -/
abbrev TASK_CNT_DROPPED : Fld := ⟨.TASK_CNT, 16, 16⟩
/-- TASK_CNT.ABORTS, bits [15:0], RO. -/
abbrev TASK_CNT_ABORTS : Fld := ⟨.TASK_CNT, 0, 16⟩
/-- TASK_CTRL.PL_EN, bits [15:15], LCK. -/
abbrev TASK_CTRL_PL_EN : Fld := ⟨.TASK_CTRL, 15, 1⟩
/-- TASK_CTRL.PL_ACTION, bits [14:12], LCK. -/
abbrev TASK_CTRL_PL_ACTION : Fld := ⟨.TASK_CTRL, 12, 3⟩
/-- TASK_CTRL.MISS_ACTION, bits [11:10], LCK. -/
abbrev TASK_CTRL_MISS_ACTION : Fld := ⟨.TASK_CTRL, 10, 2⟩
/-- TASK_CTRL.DISABLE_ACTION, bits [9:8], LCK. -/
abbrev TASK_CTRL_DISABLE_ACTION : Fld := ⟨.TASK_CTRL, 8, 2⟩
/-- TASK_CTRL.THR_EXEMPT, bits [7:7], LCK. -/
abbrev TASK_CTRL_THR_EXEMPT : Fld := ⟨.TASK_CTRL, 7, 1⟩
/-- TASK_CTRL.PRIO, bits [6:4], LCK. -/
abbrev TASK_CTRL_PRIO : Fld := ⟨.TASK_CTRL, 4, 3⟩
/-- TASK_CTRL.PL_CLR, bits [3:3], WO. -/
abbrev TASK_CTRL_PL_CLR : Fld := ⟨.TASK_CTRL, 3, 1⟩
/-- TASK_CTRL.SWAP, bits [2:2], WO. -/
abbrev TASK_CTRL_SWAP : Fld := ⟨.TASK_CTRL, 2, 1⟩
/-- TASK_CTRL.MAN, bits [1:1], RW. -/
abbrev TASK_CTRL_MAN : Fld := ⟨.TASK_CTRL, 1, 1⟩
/-- TASK_CTRL.EN, bits [0:0], RW. -/
abbrev TASK_CTRL_EN : Fld := ⟨.TASK_CTRL, 0, 1⟩
/-- TASK_DESC.DESC_OFF, bits [17:6], LCK. -/
abbrev TASK_DESC_DESC_OFF : Fld := ⟨.TASK_DESC, 6, 12⟩
/-- TASK_DESC.DESC_VALID, bits [0:0], LCK. -/
abbrev TASK_DESC_DESC_VALID : Fld := ⟨.TASK_DESC, 0, 1⟩
/-- TASK_STATUS.EN_REFUSED, bits [11:11], W1C. -/
abbrev TASK_STATUS_EN_REFUSED : Fld := ⟨.TASK_STATUS, 11, 1⟩
/-- TASK_STATUS.ABORTED, bits [10:10], W1C. -/
abbrev TASK_STATUS_ABORTED : Fld := ⟨.TASK_STATUS, 10, 1⟩
/-- TASK_STATUS.THR_REQ, bits [8:8], RO. -/
abbrev TASK_STATUS_THR_REQ : Fld := ⟨.TASK_STATUS, 8, 1⟩
/-- TASK_STATUS.PL_FLAG, bits [7:7], RO. -/
abbrev TASK_STATUS_PL_FLAG : Fld := ⟨.TASK_STATUS, 7, 1⟩
/-- TASK_STATUS.MODE_ACT, bits [6:6], RO. -/
abbrev TASK_STATUS_MODE_ACT : Fld := ⟨.TASK_STATUS, 6, 1⟩
/-- TASK_STATUS.BANK_LOCKED, bits [5:5], W1C. -/
abbrev TASK_STATUS_BANK_LOCKED : Fld := ⟨.TASK_STATUS, 5, 1⟩
/-- TASK_STATUS.SWAP_PEND, bits [4:4], RO. -/
abbrev TASK_STATUS_SWAP_PEND : Fld := ⟨.TASK_STATUS, 4, 1⟩
/-- TASK_STATUS.BANK, bits [3:3], RO. -/
abbrev TASK_STATUS_BANK : Fld := ⟨.TASK_STATUS, 3, 1⟩
/-- TASK_STATUS.STATE, bits [2:0], RO. -/
abbrev TASK_STATUS_STATE : Fld := ⟨.TASK_STATUS, 0, 3⟩
/-- TASK_SEQ.SEQ, bits [31:0], RO. -/
abbrev TASK_SEQ_SEQ : Fld := ⟨.TASK_SEQ, 0, 32⟩
/-- SOL_TRIPMAP_LO.MAP, bits [31:0], LCK. -/
abbrev SOL_TRIPMAP_LO_MAP : Fld := ⟨.SOL_TRIPMAP_LO, 0, 32⟩
/-- SOL_TRIPMAP_HI.MAP, bits [31:0], LCK. -/
abbrev SOL_TRIPMAP_HI_MAP : Fld := ⟨.SOL_TRIPMAP_HI, 0, 32⟩
/-- SOL_TRIP_IN.SEEN, bits [7:4], W1C. -/
abbrev SOL_TRIP_IN_SEEN : Fld := ⟨.SOL_TRIP_IN, 4, 4⟩
/-- SOL_TRIP_IN.LEVEL, bits [3:0], RO. -/
abbrev SOL_TRIP_IN_LEVEL : Fld := ⟨.SOL_TRIP_IN, 0, 4⟩
/-- SOL_BAND.TH3, bits [23:16], LCK. -/
abbrev SOL_BAND_TH3 : Fld := ⟨.SOL_BAND, 16, 8⟩
/-- SOL_BAND.TH2, bits [15:8], LCK. -/
abbrev SOL_BAND_TH2 : Fld := ⟨.SOL_BAND, 8, 8⟩
/-- SOL_BAND.TH1, bits [7:0], LCK. -/
abbrev SOL_BAND_TH1 : Fld := ⟨.SOL_BAND, 0, 8⟩
/-- SOL_COMP_STATUS.WD_EXPIRED, bits [2:2], W1C. -/
abbrev SOL_COMP_STATUS_WD_EXPIRED : Fld := ⟨.SOL_COMP_STATUS, 2, 1⟩
/-- SOL_COMP_STATUS.CRANK, bits [1:1], RO. -/
abbrev SOL_COMP_STATUS_CRANK : Fld := ⟨.SOL_COMP_STATUS, 1, 1⟩
/-- SOL_COMP_STATUS.LINK_UP, bits [0:0], RO. -/
abbrev SOL_COMP_STATUS_LINK_UP : Fld := ⟨.SOL_COMP_STATUS, 0, 1⟩
/-- SOL_COMP_TEMP.TEMP, bits [15:0], RO. -/
abbrev SOL_COMP_TEMP_TEMP : Fld := ⟨.SOL_COMP_TEMP, 0, 16⟩
/-- SOL_CTRL.FLT_CLR, bits [2:2], WO. -/
abbrev SOL_CTRL_FLT_CLR : Fld := ⟨.SOL_CTRL, 2, 1⟩
/-- SOL_CTRL.TRIP_CLR, bits [1:1], WO. -/
abbrev SOL_CTRL_TRIP_CLR : Fld := ⟨.SOL_CTRL, 1, 1⟩
/-- SOL_CTRL.EN, bits [0:0], RW. -/
abbrev SOL_CTRL_EN : Fld := ⟨.SOL_CTRL, 0, 1⟩
/-- SOL_CFG.CLAMP60, bits [7:7], LCK. -/
abbrev SOL_CFG_CLAMP60 : Fld := ⟨.SOL_CFG, 7, 1⟩
/-- SOL_CFG.DECAY, bits [6:5], LCK. -/
abbrev SOL_CFG_DECAY : Fld := ⟨.SOL_CFG, 5, 2⟩
/-- SOL_CFG.ARM_EN, bits [4:4], LCK. -/
abbrev SOL_CFG_ARM_EN : Fld := ⟨.SOL_CFG, 4, 1⟩
/-- SOL_CFG.ARM_ACTION, bits [3:2], LCK. -/
abbrev SOL_CFG_ARM_ACTION : Fld := ⟨.SOL_CFG, 2, 2⟩
/-- SOL_PWM.DEAD_T, bits [31:22], LCK. -/
abbrev SOL_PWM_DEAD_T : Fld := ⟨.SOL_PWM, 22, 10⟩
/-- SOL_PWM.PERIOD, bits [18:0], LCK. -/
abbrev SOL_PWM_PERIOD : Fld := ⟨.SOL_PWM, 0, 19⟩
/-- SOL_PHASE.OFFSET, bits [18:0], RW. -/
abbrev SOL_PHASE_OFFSET : Fld := ⟨.SOL_PHASE, 0, 19⟩
/-- SOL_GAIN.KP, bits [31:16], LCK. -/
abbrev SOL_GAIN_KP : Fld := ⟨.SOL_GAIN, 16, 16⟩
/-- SOL_GAIN.KI, bits [15:0], LCK. -/
abbrev SOL_GAIN_KI : Fld := ⟨.SOL_GAIN, 0, 16⟩
/-- SOL_DITHER.FREQ, bits [31:23], RW. -/
abbrev SOL_DITHER_FREQ : Fld := ⟨.SOL_DITHER, 23, 9⟩
/-- SOL_DITHER.SHAPE, bits [22:21], RW. -/
abbrev SOL_DITHER_SHAPE : Fld := ⟨.SOL_DITHER, 21, 2⟩
/-- SOL_DITHER.AMP, bits [15:0], RW. -/
abbrev SOL_DITHER_AMP : Fld := ⟨.SOL_DITHER, 0, 16⟩
/-- SOL_DGAIN.DG3, bits [31:24], LCK. -/
abbrev SOL_DGAIN_DG3 : Fld := ⟨.SOL_DGAIN, 24, 8⟩
/-- SOL_DGAIN.DG2, bits [23:16], LCK. -/
abbrev SOL_DGAIN_DG2 : Fld := ⟨.SOL_DGAIN, 16, 8⟩
/-- SOL_DGAIN.DG1, bits [15:8], LCK. -/
abbrev SOL_DGAIN_DG1 : Fld := ⟨.SOL_DGAIN, 8, 8⟩
/-- SOL_DGAIN.DG0, bits [7:0], LCK. -/
abbrev SOL_DGAIN_DG0 : Fld := ⟨.SOL_DGAIN, 0, 8⟩
/-- SOL_ARM.WIN_MS, bits [31:24], LCK. -/
abbrev SOL_ARM_WIN_MS : Fld := ⟨.SOL_ARM, 24, 8⟩
/-- SOL_ARM.PULL_DUTY, bits [23:16], LCK. -/
abbrev SOL_ARM_PULL_DUTY : Fld := ⟨.SOL_ARM, 16, 8⟩
/-- SOL_ARM.DIP_MIN, bits [15:0], LCK. -/
abbrev SOL_ARM_DIP_MIN : Fld := ⟨.SOL_ARM, 0, 16⟩
/-- SOL_ARM2.PI_THRESH, bits [31:16], LCK. -/
abbrev SOL_ARM2_PI_THRESH : Fld := ⟨.SOL_ARM2, 16, 16⟩
/-- SOL_ARM2.PULL_MAX, bits [15:0], LCK. -/
abbrev SOL_ARM2_PULL_MAX : Fld := ⟨.SOL_ARM2, 0, 16⟩
/-- SOL_RCOLD.RCOLD, bits [15:0], LCK. -/
abbrev SOL_RCOLD_RCOLD : Fld := ⟨.SOL_RCOLD, 0, 16⟩
/-- SOL_SP.SP, bits [31:0], RO. -/
abbrev SOL_SP_SP : Fld := ⟨.SOL_SP, 0, 32⟩
/-- SOL_MEAS.MEAS, bits [31:0], RO. -/
abbrev SOL_MEAS_MEAS : Fld := ⟨.SOL_MEAS, 0, 32⟩
/-- SOL_DUTY.DUTY, bits [15:0], RO. -/
abbrev SOL_DUTY_DUTY : Fld := ⟨.SOL_DUTY, 0, 16⟩
/-- SOL_RCOIL.BAND, bits [31:30], RO. -/
abbrev SOL_RCOIL_BAND : Fld := ⟨.SOL_RCOIL, 30, 2⟩
/-- SOL_RCOIL.RCOIL, bits [15:0], RO. -/
abbrev SOL_RCOIL_RCOIL : Fld := ⟨.SOL_RCOIL, 0, 16⟩
/-- SOL_STATUS.SP_CLAMPED, bits [13:13], W1C. -/
abbrev SOL_STATUS_SP_CLAMPED : Fld := ⟨.SOL_STATUS, 13, 1⟩
/-- SOL_STATUS.OTEMP, bits [12:12], RO. -/
abbrev SOL_STATUS_OTEMP : Fld := ⟨.SOL_STATUS, 12, 1⟩
/-- SOL_STATUS.SHORT, bits [11:11], RO. -/
abbrev SOL_STATUS_SHORT : Fld := ⟨.SOL_STATUS, 11, 1⟩
/-- SOL_STATUS.OPEN, bits [10:10], RO. -/
abbrev SOL_STATUS_OPEN : Fld := ⟨.SOL_STATUS, 10, 1⟩
/-- SOL_STATUS.DUTY_SAT, bits [9:9], RO. -/
abbrev SOL_STATUS_DUTY_SAT : Fld := ⟨.SOL_STATUS, 9, 1⟩
/-- SOL_STATUS.FLT, bits [8:8], RO. -/
abbrev SOL_STATUS_FLT : Fld := ⟨.SOL_STATUS, 8, 1⟩
/-- SOL_STATUS.ARM_FAIL, bits [7:7], W1C. -/
abbrev SOL_STATUS_ARM_FAIL : Fld := ⟨.SOL_STATUS, 7, 1⟩
/-- SOL_STATUS.ARM_OK, bits [6:6], W1C. -/
abbrev SOL_STATUS_ARM_OK : Fld := ⟨.SOL_STATUS, 6, 1⟩
/-- SOL_STATUS.TRIP_PERSIST, bits [5:5], RO. -/
abbrev SOL_STATUS_TRIP_PERSIST : Fld := ⟨.SOL_STATUS, 5, 1⟩
/-- SOL_STATUS.TRIP_LATCH, bits [4:4], RO. -/
abbrev SOL_STATUS_TRIP_LATCH : Fld := ⟨.SOL_STATUS, 4, 1⟩
/-- SOL_STATUS.STATE, bits [2:0], RO. -/
abbrev SOL_STATUS_STATE : Fld := ⟨.SOL_STATUS, 0, 3⟩
/-- SOL_ARMTIME.ARMTIME, bits [15:0], RO. -/
abbrev SOL_ARMTIME_ARMTIME : Fld := ⟨.SOL_ARMTIME, 0, 16⟩
/-- LSW_TRIPMAP.MAP, bits [31:0], LCK. -/
abbrev LSW_TRIPMAP_MAP : Fld := ⟨.LSW_TRIPMAP, 0, 32⟩
/-- LSW_TRIP_IN.SEEN, bits [7:4], W1C. -/
abbrev LSW_TRIP_IN_SEEN : Fld := ⟨.LSW_TRIP_IN, 4, 4⟩
/-- LSW_TRIP_IN.LEVEL, bits [3:0], RO. -/
abbrev LSW_TRIP_IN_LEVEL : Fld := ⟨.LSW_TRIP_IN, 0, 4⟩
/-- LSW_LIMP.ZP16_LIMP, bits [31:24], RO. -/
abbrev LSW_LIMP_ZP16_LIMP : Fld := ⟨.LSW_LIMP, 24, 8⟩
/-- LSW_LIMP.ZS8_LIMP, bits [23:16], RO. -/
abbrev LSW_LIMP_ZS8_LIMP : Fld := ⟨.LSW_LIMP, 16, 8⟩
/-- LSW_LIMP.LEVEL, bits [7:0], RO. -/
abbrev LSW_LIMP_LEVEL : Fld := ⟨.LSW_LIMP, 0, 8⟩
/-- LSW_LIMP_REL.ZP16_REL, bits [15:8], WO. -/
abbrev LSW_LIMP_REL_ZP16_REL : Fld := ⟨.LSW_LIMP_REL, 8, 8⟩
/-- LSW_LIMP_REL.ZS8_REL, bits [7:0], WO. -/
abbrev LSW_LIMP_REL_ZS8_REL : Fld := ⟨.LSW_LIMP_REL, 0, 8⟩
/-- LSW_TOTAL.TOTAL, bits [31:0], RO. -/
abbrev LSW_TOTAL_TOTAL : Fld := ⟨.LSW_TOTAL, 0, 32⟩
/-- LSW_MUXSEL.CH, bits [4:0], LCK. -/
abbrev LSW_MUXSEL_CH : Fld := ⟨.LSW_MUXSEL, 0, 5⟩
/-- LSW_BANK_STATUS.SHEDDING, bits [4:4], RO. -/
abbrev LSW_BANK_STATUS_SHEDDING : Fld := ⟨.LSW_BANK_STATUS, 4, 1⟩
/-- LSW_BANK_STATUS.WD_EXPIRED, bits [3:3], W1C. -/
abbrev LSW_BANK_STATUS_WD_EXPIRED : Fld := ⟨.LSW_BANK_STATUS, 3, 1⟩
/-- LSW_BANK_STATUS.CRANK, bits [2:2], RO. -/
abbrev LSW_BANK_STATUS_CRANK : Fld := ⟨.LSW_BANK_STATUS, 2, 1⟩
/-- LSW_BANK_STATUS.FEED_UV, bits [1:1], RO. -/
abbrev LSW_BANK_STATUS_FEED_UV : Fld := ⟨.LSW_BANK_STATUS, 1, 1⟩
/-- LSW_BANK_STATUS.LINK_UP, bits [0:0], RO. -/
abbrev LSW_BANK_STATUS_LINK_UP : Fld := ⟨.LSW_BANK_STATUS, 0, 1⟩
/-- LSW_BANK_FEED.FEED_I, bits [31:16], RO. -/
abbrev LSW_BANK_FEED_FEED_I : Fld := ⟨.LSW_BANK_FEED, 16, 16⟩
/-- LSW_BANK_FEED.FEED_V, bits [15:0], RO. -/
abbrev LSW_BANK_FEED_FEED_V : Fld := ⟨.LSW_BANK_FEED, 0, 16⟩
/-- LSW_BANK_TEMP.TEMP, bits [15:0], RO. -/
abbrev LSW_BANK_TEMP_TEMP : Fld := ⟨.LSW_BANK_TEMP, 0, 16⟩
/-- LSW_CTRL.FLT_CLR, bits [2:2], WO. -/
abbrev LSW_CTRL_FLT_CLR : Fld := ⟨.LSW_CTRL, 2, 1⟩
/-- LSW_CTRL.TRIP_CLR, bits [1:1], WO. -/
abbrev LSW_CTRL_TRIP_CLR : Fld := ⟨.LSW_CTRL, 1, 1⟩
/-- LSW_CTRL.EN, bits [0:0], RW. -/
abbrev LSW_CTRL_EN : Fld := ⟨.LSW_CTRL, 0, 1⟩
/-- LSW_CFG.OC_THRESH, bits [31:24], LCK. -/
abbrev LSW_CFG_OC_THRESH : Fld := ⟨.LSW_CFG, 24, 8⟩
/-- LSW_CFG.OC_BLANK, bits [23:16], LCK. -/
abbrev LSW_CFG_OC_BLANK : Fld := ⟨.LSW_CFG, 16, 8⟩
/-- LSW_CFG.RETRIES, bits [15:12], LCK. -/
abbrev LSW_CFG_RETRIES : Fld := ⟨.LSW_CFG, 12, 4⟩
/-- LSW_CFG.LAMP, bits [11:11], LCK. -/
abbrev LSW_CFG_LAMP : Fld := ⟨.LSW_CFG, 11, 1⟩
/-- LSW_CFG.OL_EN, bits [10:10], RW. -/
abbrev LSW_CFG_OL_EN : Fld := ⟨.LSW_CFG, 10, 1⟩
/-- LSW_CFG.OL_THRESH, bits [7:4], LCK. -/
abbrev LSW_CFG_OL_THRESH : Fld := ⟨.LSW_CFG, 4, 4⟩
/-- LSW_CFG.SHED, bits [3:0], LCK. -/
abbrev LSW_CFG_SHED : Fld := ⟨.LSW_CFG, 0, 4⟩
/-- LSW_CMD.CMD_NEW, bits [1:1], RO. -/
abbrev LSW_CMD_CMD_NEW : Fld := ⟨.LSW_CMD, 1, 1⟩
/-- LSW_CMD.ON, bits [0:0], RO. -/
abbrev LSW_CMD_ON : Fld := ⟨.LSW_CMD, 0, 1⟩
/-- LSW_SENSE.CODE, bits [15:0], RO. -/
abbrev LSW_SENSE_CODE : Fld := ⟨.LSW_SENSE, 0, 16⟩
/-- LSW_STATUS.RETRY_CNT, bits [19:16], RO. -/
abbrev LSW_STATUS_RETRY_CNT : Fld := ⟨.LSW_STATUS, 16, 4⟩
/-- LSW_STATUS.LIMP, bits [13:13], RO. -/
abbrev LSW_STATUS_LIMP : Fld := ⟨.LSW_STATUS, 13, 1⟩
/-- LSW_STATUS.FEED_UV, bits [12:12], RO. -/
abbrev LSW_STATUS_FEED_UV : Fld := ⟨.LSW_STATUS, 12, 1⟩
/-- LSW_STATUS.OPEN_OFF, bits [11:11], RO. -/
abbrev LSW_STATUS_OPEN_OFF : Fld := ⟨.LSW_STATUS, 11, 1⟩
/-- LSW_STATUS.OTEMP, bits [10:10], RO. -/
abbrev LSW_STATUS_OTEMP : Fld := ⟨.LSW_STATUS, 10, 1⟩
/-- LSW_STATUS.SHORT, bits [9:9], RO. -/
abbrev LSW_STATUS_SHORT : Fld := ⟨.LSW_STATUS, 9, 1⟩
/-- LSW_STATUS.OVERLOAD, bits [8:8], RO. -/
abbrev LSW_STATUS_OVERLOAD : Fld := ⟨.LSW_STATUS, 8, 1⟩
/-- LSW_STATUS.RETRY_EXH, bits [7:7], RO. -/
abbrev LSW_STATUS_RETRY_EXH : Fld := ⟨.LSW_STATUS, 7, 1⟩
/-- LSW_STATUS.SHED, bits [6:6], RO. -/
abbrev LSW_STATUS_SHED : Fld := ⟨.LSW_STATUS, 6, 1⟩
/-- LSW_STATUS.FLT, bits [5:5], RO. -/
abbrev LSW_STATUS_FLT : Fld := ⟨.LSW_STATUS, 5, 1⟩
/-- LSW_STATUS.TRIP_PERSIST, bits [4:4], RO. -/
abbrev LSW_STATUS_TRIP_PERSIST : Fld := ⟨.LSW_STATUS, 4, 1⟩
/-- LSW_STATUS.TRIP_LATCH, bits [3:3], RO. -/
abbrev LSW_STATUS_TRIP_LATCH : Fld := ⟨.LSW_STATUS, 3, 1⟩
/-- LSW_STATUS.RETRYING, bits [2:2], RO. -/
abbrev LSW_STATUS_RETRYING : Fld := ⟨.LSW_STATUS, 2, 1⟩
/-- LSW_STATUS.OUT, bits [0:0], RO. -/
abbrev LSW_STATUS_OUT : Fld := ⟨.LSW_STATUS, 0, 1⟩
/-- LSW_TEMP.TEMP, bits [15:0], RO. -/
abbrev LSW_TEMP_TEMP : Fld := ⟨.LSW_TEMP, 0, 16⟩
/-- HK_ROUND.ROUND, bits [31:0], RO. -/
abbrev HK_ROUND_ROUND : Fld := ⟨.HK_ROUND, 0, 32⟩
/-- AFE_EXC.EXC_EN, bits [7:4], LCK. -/
abbrev AFE_EXC_EXC_EN : Fld := ⟨.AFE_EXC, 4, 4⟩
/-- AFE_EXC.EXC_FAULT, bits [3:0], RO. -/
abbrev AFE_EXC_EXC_FAULT : Fld := ⟨.AFE_EXC, 0, 4⟩
/-- AIN_CFG.DEC, bits [10:8], RW. -/
abbrev AIN_CFG_DEC : Fld := ⟨.AIN_CFG, 8, 3⟩
/-- AIN_CFG.FILT, bits [7:6], RW. -/
abbrev AIN_CFG_FILT : Fld := ⟨.AIN_CFG, 6, 2⟩
/-- AIN_CFG.GAIN, bits [5:4], RW. -/
abbrev AIN_CFG_GAIN : Fld := ⟨.AIN_CFG, 4, 2⟩
/-- AIN_CFG.MUX, bits [3:1], RW. -/
abbrev AIN_CFG_MUX : Fld := ⟨.AIN_CFG, 1, 3⟩
/-- AIN_CFG.EN, bits [0:0], RW. -/
abbrev AIN_CFG_EN : Fld := ⟨.AIN_CFG, 0, 1⟩
/-- AIN_OFFSET.OFFSET, bits [23:0], LCK. -/
abbrev AIN_OFFSET_OFFSET : Fld := ⟨.AIN_OFFSET, 0, 24⟩
/-- AIN_SCALE.SCALE, bits [31:0], LCK. -/
abbrev AIN_SCALE_SCALE : Fld := ⟨.AIN_SCALE, 0, 32⟩
/-- AIN_WORD.WORD, bits [31:0], RO. -/
abbrev AIN_WORD_WORD : Fld := ⟨.AIN_WORD, 0, 32⟩
/-- AIN_CAP.CAP, bits [31:0], RO. -/
abbrev AIN_CAP_CAP : Fld := ⟨.AIN_CAP, 0, 32⟩
/-- AIN_CAP_T.CAP_T, bits [31:0], RO. -/
abbrev AIN_CAP_T_CAP_T : Fld := ⟨.AIN_CAP_T, 0, 32⟩
/-- IMP_CFG.HOLDOFF, bits [31:24], LCK. -/
abbrev IMP_CFG_HOLDOFF : Fld := ⟨.IMP_CFG, 24, 8⟩
/-- IMP_CFG.MIN_MM, bits [23:16], LCK. -/
abbrev IMP_CFG_MIN_MM : Fld := ⟨.IMP_CFG, 16, 8⟩
/-- IMP_CFG.THRESH, bits [15:4], LCK. -/
abbrev IMP_CFG_THRESH : Fld := ⟨.IMP_CFG, 4, 12⟩
/-- IMP_CFG.GATED, bits [1:1], LCK. -/
abbrev IMP_CFG_GATED : Fld := ⟨.IMP_CFG, 1, 1⟩
/-- IMP_CFG.EN, bits [0:0], RW. -/
abbrev IMP_CFG_EN : Fld := ⟨.IMP_CFG, 0, 1⟩
/-- IMP_WORD.WORD, bits [31:0], RO. -/
abbrev IMP_WORD_WORD : Fld := ⟨.IMP_WORD, 0, 32⟩
/-- IMP_CAP_CNT.CNT, bits [23:0], RO. -/
abbrev IMP_CAP_CNT_CNT : Fld := ⟨.IMP_CAP_CNT, 0, 24⟩
/-- IMP_CAP_DIST.DIST, bits [31:0], RO. -/
abbrev IMP_CAP_DIST_DIST : Fld := ⟨.IMP_CAP_DIST, 0, 32⟩
/-- IMP_LIVE.LIVE, bits [23:0], RO. -/
abbrev IMP_LIVE_LIVE : Fld := ⟨.IMP_LIVE, 0, 24⟩
/-- ENC_CFG.FILT, bits [15:8], LCK. -/
abbrev ENC_CFG_FILT : Fld := ⟨.ENC_CFG, 8, 8⟩
/-- ENC_CFG.QUAD, bits [2:2], LCK. -/
abbrev ENC_CFG_QUAD : Fld := ⟨.ENC_CFG, 2, 1⟩
/-- ENC_CFG.BOTH_EDGES, bits [1:1], LCK. -/
abbrev ENC_CFG_BOTH_EDGES : Fld := ⟨.ENC_CFG, 1, 1⟩
/-- ENC_CFG.EN, bits [0:0], RW. -/
abbrev ENC_CFG_EN : Fld := ⟨.ENC_CFG, 0, 1⟩
/-- ENC_WORD.WORD, bits [31:0], RO. -/
abbrev ENC_WORD_WORD : Fld := ⟨.ENC_WORD, 0, 32⟩
/-- ENC_PERIOD.PERIOD, bits [31:0], RO. -/
abbrev ENC_PERIOD_PERIOD : Fld := ⟨.ENC_PERIOD, 0, 32⟩
/-- ENC_CAP.CAP, bits [31:0], RO. -/
abbrev ENC_CAP_CAP : Fld := ⟨.ENC_CAP, 0, 32⟩
/-- HK_WORD.WORD, bits [31:0], RO. -/
abbrev HK_WORD_WORD : Fld := ⟨.HK_WORD, 0, 32⟩
/-- CAM_CTRL.DIS_MODE, bits [1:1], LCK. -/
abbrev CAM_CTRL_DIS_MODE : Fld := ⟨.CAM_CTRL, 1, 1⟩
/-- CAM_CTRL.EN, bits [0:0], RW. -/
abbrev CAM_CTRL_EN : Fld := ⟨.CAM_CTRL, 0, 1⟩
/-- CAM_CFG.LANE_MBPS, bits [15:3], LCK. -/
abbrev CAM_CFG_LANE_MBPS : Fld := ⟨.CAM_CFG, 3, 13⟩
/-- CAM_CFG.DESKEW, bits [2:2], LCK. -/
abbrev CAM_CFG_DESKEW : Fld := ⟨.CAM_CFG, 2, 1⟩
/-- CAM_CFG.LANES, bits [1:0], LCK. -/
abbrev CAM_CFG_LANES : Fld := ⟨.CAM_CFG, 0, 2⟩
/-- CAM_STATUS.EN_REFUSED, bits [5:5], W1C. -/
abbrev CAM_STATUS_EN_REFUSED : Fld := ⟨.CAM_STATUS, 5, 1⟩
/-- CAM_STATUS.PHY_LOCK, bits [4:4], RO. -/
abbrev CAM_STATUS_PHY_LOCK : Fld := ⟨.CAM_STATUS, 4, 1⟩
/-- CAM_STATUS.STATE, bits [2:0], RO. -/
abbrev CAM_STATUS_STATE : Fld := ⟨.CAM_STATUS, 0, 3⟩
/-- CAM_TRIG.TIMEOUT_MS, bits [31:24], LCK. -/
abbrev CAM_TRIG_TIMEOUT_MS : Fld := ⟨.CAM_TRIG, 24, 8⟩
/-- CAM_TRIG.TB_SEL, bits [23:20], LCK. -/
abbrev CAM_TRIG_TB_SEL : Fld := ⟨.CAM_TRIG, 20, 4⟩
/-- CAM_TRIG.POL, bits [16:16], LCK. -/
abbrev CAM_TRIG_POL : Fld := ⟨.CAM_TRIG, 16, 1⟩
/-- CAM_TRIG.WIDTH_US, bits [15:0], LCK. -/
abbrev CAM_TRIG_WIDTH_US : Fld := ⟨.CAM_TRIG, 0, 16⟩
/-- CAM_ERR0.ECC_CORR, bits [31:16], RO. -/
abbrev CAM_ERR0_ECC_CORR : Fld := ⟨.CAM_ERR0, 16, 16⟩
/-- CAM_ERR0.CRC_CNT, bits [15:0], RO. -/
abbrev CAM_ERR0_CRC_CNT : Fld := ⟨.CAM_ERR0, 0, 16⟩
/-- CAM_ERR1.SOT_ERR, bits [31:16], RO. -/
abbrev CAM_ERR1_SOT_ERR : Fld := ⟨.CAM_ERR1, 16, 16⟩
/-- CAM_ERR1.ECC_UNCORR, bits [15:0], RO. -/
abbrev CAM_ERR1_ECC_UNCORR : Fld := ⟨.CAM_ERR1, 0, 16⟩
/-- CAM_ERR2.TRIG_LOST, bits [31:16], RO. -/
abbrev CAM_ERR2_TRIG_LOST : Fld := ⟨.CAM_ERR2, 16, 16⟩
/-- CAM_ERR2.DT_DROP, bits [15:0], RO. -/
abbrev CAM_ERR2_DT_DROP : Fld := ⟨.CAM_ERR2, 0, 16⟩
/-- CCI_CMD.SPEED, bits [19:18], RW. -/
abbrev CCI_CMD_SPEED : Fld := ⟨.CCI_CMD, 18, 2⟩
/-- CCI_CMD.LEN, bits [17:14], RW. -/
abbrev CCI_CMD_LEN : Fld := ⟨.CCI_CMD, 14, 4⟩
/-- CCI_CMD.READ, bits [13:13], RW. -/
abbrev CCI_CMD_READ : Fld := ⟨.CCI_CMD, 13, 1⟩
/-- CCI_CMD.ADDR7, bits [7:1], RW. -/
abbrev CCI_CMD_ADDR7 : Fld := ⟨.CCI_CMD, 1, 7⟩
/-- CCI_CMD.START, bits [0:0], WO. -/
abbrev CCI_CMD_START : Fld := ⟨.CCI_CMD, 0, 1⟩
/-- CCI_TX.TX, bits [31:0], RW. -/
abbrev CCI_TX_TX : Fld := ⟨.CCI_TX, 0, 32⟩
/-- CCI_RX.RX, bits [31:0], RO. -/
abbrev CCI_RX_RX : Fld := ⟨.CCI_RX, 0, 32⟩
/-- CCI_STATUS.DONE_FCNT, bits [31:16], RO. -/
abbrev CCI_STATUS_DONE_FCNT : Fld := ⟨.CCI_STATUS, 16, 16⟩
/-- CCI_STATUS.NACK, bits [2:2], W1C. -/
abbrev CCI_STATUS_NACK : Fld := ⟨.CCI_STATUS, 2, 1⟩
/-- CCI_STATUS.DONE, bits [1:1], W1C. -/
abbrev CCI_STATUS_DONE : Fld := ⟨.CCI_STATUS, 1, 1⟩
/-- CCI_STATUS.BUSY, bits [0:0], RO. -/
abbrev CCI_STATUS_BUSY : Fld := ⟨.CCI_STATUS, 0, 1⟩
/-- PS_BLACK01.BLACK1, bits [31:16], RW. -/
abbrev PS_BLACK01_BLACK1 : Fld := ⟨.PS_BLACK01, 16, 16⟩
/-- PS_BLACK01.BLACK0, bits [15:0], RW. -/
abbrev PS_BLACK01_BLACK0 : Fld := ⟨.PS_BLACK01, 0, 16⟩
/-- PS_BLACK23.BLACK3, bits [31:16], RW. -/
abbrev PS_BLACK23_BLACK3 : Fld := ⟨.PS_BLACK23, 16, 16⟩
/-- PS_BLACK23.BLACK2, bits [15:0], RW. -/
abbrev PS_BLACK23_BLACK2 : Fld := ⟨.PS_BLACK23, 0, 16⟩
/-- PS_GAIN.GAIN, bits [15:0], RW. -/
abbrev PS_GAIN_GAIN : Fld := ⟨.PS_GAIN, 0, 16⟩
/-- PS_DPC.DPC_THRESH, bits [15:0], RW. -/
abbrev PS_DPC_DPC_THRESH : Fld := ⟨.PS_DPC, 0, 16⟩
/-- PS_COMMIT.DELAY, bits [2:1], WO. -/
abbrev PS_COMMIT_DELAY : Fld := ⟨.PS_COMMIT, 1, 2⟩
/-- PS_COMMIT.COMMIT, bits [0:0], WO. -/
abbrev PS_COMMIT_COMMIT : Fld := ⟨.PS_COMMIT, 0, 1⟩
/-- PS_STATUS.SEQ, bits [31:16], RO. -/
abbrev PS_STATUS_SEQ : Fld := ⟨.PS_STATUS, 16, 16⟩
/-- PS_STATUS.COMMIT_LATE, bits [4:4], W1C. -/
abbrev PS_STATUS_COMMIT_LATE : Fld := ⟨.PS_STATUS, 4, 1⟩
/-- PS_STATUS.PARAM_FULL, bits [3:3], W1C. -/
abbrev PS_STATUS_PARAM_FULL : Fld := ⟨.PS_STATUS, 3, 1⟩
/-- PS_STATUS.QUEUED, bits [2:0], RO. -/
abbrev PS_STATUS_QUEUED : Fld := ⟨.PS_STATUS, 0, 3⟩
/-- ST_CFG.DT, bits [8:3], LCK. -/
abbrev ST_CFG_DT : Fld := ⟨.ST_CFG, 3, 6⟩
/-- ST_CFG.VC, bits [2:1], LCK. -/
abbrev ST_CFG_VC : Fld := ⟨.ST_CFG, 1, 2⟩
/-- ST_CFG.EN, bits [0:0], LCK. -/
abbrev ST_CFG_EN : Fld := ⟨.ST_CFG, 0, 1⟩
/-- ST_SIZE.HEIGHT, bits [31:16], LCK. -/
abbrev ST_SIZE_HEIGHT : Fld := ⟨.ST_SIZE, 16, 16⟩
/-- ST_SIZE.WIDTH, bits [15:0], LCK. -/
abbrev ST_SIZE_WIDTH : Fld := ⟨.ST_SIZE, 0, 16⟩
/-- ST_PITCH.PITCH, bits [19:0], LCK. -/
abbrev ST_PITCH_PITCH : Fld := ⟨.ST_PITCH, 0, 20⟩
/-- ST_ADDR_LO.ADDR, bits [31:0], RW. -/
abbrev ST_ADDR_LO_ADDR : Fld := ⟨.ST_ADDR_LO, 0, 32⟩
/-- ST_ADDR_HI.ADDR, bits [7:0], RW. -/
abbrev ST_ADDR_HI_ADDR : Fld := ⟨.ST_ADDR_HI, 0, 8⟩
/-- ST_COMMIT.COMMIT, bits [0:0], WO. -/
abbrev ST_COMMIT_COMMIT : Fld := ⟨.ST_COMMIT, 0, 1⟩
/-- ST_ACTIVE_LO.ACTIVE, bits [31:0], RO. -/
abbrev ST_ACTIVE_LO_ACTIVE : Fld := ⟨.ST_ACTIVE_LO, 0, 32⟩
/-- ST_ACTIVE_HI.VALID, bits [8:8], RO. -/
abbrev ST_ACTIVE_HI_VALID : Fld := ⟨.ST_ACTIVE_HI, 8, 1⟩
/-- ST_ACTIVE_HI.ACTIVE, bits [7:0], RO. -/
abbrev ST_ACTIVE_HI_ACTIVE : Fld := ⟨.ST_ACTIVE_HI, 0, 8⟩
/-- ST_STATUS.ADDR_REFUSED, bits [4:4], W1C. -/
abbrev ST_STATUS_ADDR_REFUSED : Fld := ⟨.ST_STATUS, 4, 1⟩
/-- ST_STATUS.FRAME_OPEN, bits [3:3], RO. -/
abbrev ST_STATUS_FRAME_OPEN : Fld := ⟨.ST_STATUS, 3, 1⟩
/-- ST_STATUS.COMMIT_LATE, bits [2:2], W1C. -/
abbrev ST_STATUS_COMMIT_LATE : Fld := ⟨.ST_STATUS, 2, 1⟩
/-- ST_STATUS.LATE_PEND, bits [1:1], RO. -/
abbrev ST_STATUS_LATE_PEND : Fld := ⟨.ST_STATUS, 1, 1⟩
/-- ST_STATUS.PENDING, bits [0:0], RO. -/
abbrev ST_STATUS_PENDING : Fld := ⟨.ST_STATUS, 0, 1⟩
/-- ST_FCNT.FCNT, bits [31:0], RO. -/
abbrev ST_FCNT_FCNT : Fld := ⟨.ST_FCNT, 0, 32⟩
/-- FUS_CTRL.GRID_NODE, bits [24:16], LCK. -/
abbrev FUS_CTRL_GRID_NODE : Fld := ⟨.FUS_CTRL, 16, 9⟩
/-- FUS_CTRL.GRID, bits [1:1], LCK. -/
abbrev FUS_CTRL_GRID : Fld := ⟨.FUS_CTRL, 1, 1⟩
/-- FUS_CTRL.EN, bits [0:0], RW. -/
abbrev FUS_CTRL_EN : Fld := ⟨.FUS_CTRL, 0, 1⟩
/-- FUS_STATUS.OVR, bits [7:7], W1C. -/
abbrev FUS_STATUS_OVR : Fld := ⟨.FUS_STATUS, 7, 1⟩
/-- FUS_STATUS.EN_REFUSED, bits [6:6], W1C. -/
abbrev FUS_STATUS_EN_REFUSED : Fld := ⟨.FUS_STATUS, 6, 1⟩
/-- FUS_STATUS.EGO_OK, bits [5:5], RO. -/
abbrev FUS_STATUS_EGO_OK : Fld := ⟨.FUS_STATUS, 5, 1⟩
/-- FUS_STATUS.STATE, bits [1:0], RO. -/
abbrev FUS_STATUS_STATE : Fld := ⟨.FUS_STATUS, 0, 2⟩
/-- FUS_EPOCH.EPOCH, bits [31:0], RO. -/
abbrev FUS_EPOCH_EPOCH : Fld := ⟨.FUS_EPOCH, 0, 32⟩
/-- FUS_PUB.BUF, bits [1:0], RO. -/
abbrev FUS_PUB_BUF : Fld := ⟨.FUS_PUB, 0, 2⟩
/-- FUS_GRID_CFG.DECAY, bits [31:24], LCK. -/
abbrev FUS_GRID_CFG_DECAY : Fld := ⟨.FUS_GRID_CFG, 24, 8⟩
/-- FUS_GRID_CFG.EPOCH_MS, bits [23:16], LCK. -/
abbrev FUS_GRID_CFG_EPOCH_MS : Fld := ⟨.FUS_GRID_CFG, 16, 8⟩
/-- FUS_GRID_CFG.NBUF, bits [13:12], LCK. -/
abbrev FUS_GRID_CFG_NBUF : Fld := ⟨.FUS_GRID_CFG, 12, 2⟩
/-- FUS_GRID_CFG.X_MIN_CM, bits [11:0], LCK. -/
abbrev FUS_GRID_CFG_X_MIN_CM : Fld := ⟨.FUS_GRID_CFG, 0, 12⟩
/-- FUS_GRID_LO.ADDR, bits [31:0], LCK. -/
abbrev FUS_GRID_LO_ADDR : Fld := ⟨.FUS_GRID_LO, 0, 32⟩
/-- FUS_GRID_HI.ADDR, bits [7:0], LCK. -/
abbrev FUS_GRID_HI_ADDR : Fld := ⟨.FUS_GRID_HI, 0, 8⟩
/-- FUS_HEADER.HEADER_W_MM, bits [31:16], LCK. -/
abbrev FUS_HEADER_HEADER_W_MM : Fld := ⟨.FUS_HEADER, 16, 16⟩
/-- FUS_HEADER.CUT_X_CM, bits [15:0], LCK. -/
abbrev FUS_HEADER_CUT_X_CM : Fld := ⟨.FUS_HEADER, 0, 16⟩
/-- FUS_SWATH.V, bits [31:31], RO. -/
abbrev FUS_SWATH_V : Fld := ⟨.FUS_SWATH, 31, 1⟩
/-- FUS_SWATH.WIDTH_MM, bits [15:0], RO. -/
abbrev FUS_SWATH_WIDTH_MM : Fld := ⟨.FUS_SWATH, 0, 16⟩
/-- FUS_VOL.VOL_MIN, bits [7:0], LCK. -/
abbrev FUS_VOL_VOL_MIN : Fld := ⟨.FUS_VOL, 0, 8⟩
/-- FUS_CONS.UNMASK_N, bits [31:24], LCK. -/
abbrev FUS_CONS_UNMASK_N : Fld := ⟨.FUS_CONS, 24, 8⟩
/-- FUS_CONS.MARK_N, bits [23:16], LCK. -/
abbrev FUS_CONS_MARK_N : Fld := ⟨.FUS_CONS, 16, 8⟩
/-- FUS_CONS.CONS_N, bits [15:8], LCK. -/
abbrev FUS_CONS_CONS_N : Fld := ⟨.FUS_CONS, 8, 8⟩
/-- FUS_CONS.CONS_LIM_CM, bits [7:0], LCK. -/
abbrev FUS_CONS_CONS_LIM_CM : Fld := ⟨.FUS_CONS, 0, 8⟩
/-- FUS_DROP.DROP_MS, bits [15:0], LCK. -/
abbrev FUS_DROP_DROP_MS : Fld := ⟨.FUS_DROP, 0, 16⟩
/-- FUS_SENS_EN.EN, bits [30:0], LCK. -/
abbrev FUS_SENS_EN_EN : Fld := ⟨.FUS_SENS_EN, 0, 31⟩
/-- FUS_MASK.MASKED, bits [30:0], RO. -/
abbrev FUS_MASK_MASKED : Fld := ⟨.FUS_MASK, 0, 31⟩
/-- FUS_RS_PORT.PORT, bits [15:0], LCK. -/
abbrev FUS_RS_PORT_PORT : Fld := ⟨.FUS_RS_PORT, 0, 16⟩
/-- FUS_RS_CNT.DISCARD, bits [31:16], RO. -/
abbrev FUS_RS_CNT_DISCARD : Fld := ⟨.FUS_RS_CNT, 16, 16⟩
/-- FUS_RS_CNT.ACCEPT, bits [15:0], RO. -/
abbrev FUS_RS_CNT_ACCEPT : Fld := ⟨.FUS_RS_CNT, 0, 16⟩
/-- FUS_RS_GAP.GAP, bits [15:0], RO. -/
abbrev FUS_RS_GAP_GAP : Fld := ⟨.FUS_RS_GAP, 0, 16⟩
/-- CAL_CFG.LAT_US, bits [31:16], LCK. -/
abbrev CAL_CFG_LAT_US : Fld := ⟨.CAL_CFG, 16, 16⟩
/-- CAL_CFG.W, bits [7:0], LCK. -/
abbrev CAL_CFG_W : Fld := ⟨.CAL_CFG, 0, 8⟩
/-- CAL_R.R, bits [31:0], LCK. -/
abbrev CAL_R_R : Fld := ⟨.CAL_R, 0, 32⟩
/-- CAL_T.T, bits [31:0], LCK. -/
abbrev CAL_T_T : Fld := ⟨.CAL_T, 0, 32⟩
/-- CAL_F.F, bits [31:0], LCK. -/
abbrev CAL_F_F : Fld := ⟨.CAL_F, 0, 32⟩
/-- CAL_C.C, bits [31:0], LCK. -/
abbrev CAL_C_C : Fld := ⟨.CAL_C, 0, 32⟩
/-- CAL_K.K, bits [31:0], LCK. -/
abbrev CAL_K_K : Fld := ⟨.CAL_K, 0, 32⟩
/-- CAL_PROJ.PROJ_EN, bits [31:31], LCK. -/
abbrev CAL_PROJ_PROJ_EN : Fld := ⟨.CAL_PROJ, 31, 1⟩
/-- CAL_PROJ.PROJ_CAM, bits [3:0], LCK. -/
abbrev CAL_PROJ_PROJ_CAM : Fld := ⟨.CAL_PROJ, 0, 4⟩
/-- CAL_DEPTH_LO.DEPTH_ADDR, bits [31:0], LCK. -/
abbrev CAL_DEPTH_LO_DEPTH_ADDR : Fld := ⟨.CAL_DEPTH_LO, 0, 32⟩
/-- CAL_DEPTH_HI.DEPTH_ADDR, bits [7:0], LCK. -/
abbrev CAL_DEPTH_HI_DEPTH_ADDR : Fld := ⟨.CAL_DEPTH_HI, 0, 8⟩
/-- CAL_REMOTE.EN, bits [31:31], LCK. -/
abbrev CAL_REMOTE_EN : Fld := ⟨.CAL_REMOTE, 31, 1⟩
/-- CAL_REMOTE.NODE, bits [24:16], LCK. -/
abbrev CAL_REMOTE_NODE : Fld := ⟨.CAL_REMOTE, 16, 9⟩
/-- CAL_REMOTE.PL, bits [3:0], LCK. -/
abbrev CAL_REMOTE_PL : Fld := ⟨.CAL_REMOTE, 0, 4⟩
/-- MODEL_CFG.KIND, bits [31:29], LCK. -/
abbrev MODEL_CFG_KIND : Fld := ⟨.MODEL_CFG, 29, 3⟩
/-- MODEL_CFG.QUADS, bits [28:25], LCK. -/
abbrev MODEL_CFG_QUADS : Fld := ⟨.MODEL_CFG, 25, 4⟩
/-- MODEL_CFG.CH_FIRST, bits [24:19], LCK. -/
abbrev MODEL_CFG_CH_FIRST : Fld := ⟨.MODEL_CFG, 19, 6⟩
/-- MODEL_CFG.CH_N, bits [18:12], LCK. -/
abbrev MODEL_CFG_CH_N : Fld := ⟨.MODEL_CFG, 12, 7⟩
/-- MODEL_CFG.SRC, bits [11:0], LCK. -/
abbrev MODEL_CFG_SRC : Fld := ⟨.MODEL_CFG, 0, 12⟩
/-- MODEL_ADDR_LO.ADDR, bits [31:0], RW. -/
abbrev MODEL_ADDR_LO_ADDR : Fld := ⟨.MODEL_ADDR_LO, 0, 32⟩
/-- MODEL_ADDR_HI.ADDR, bits [7:0], RW. -/
abbrev MODEL_ADDR_HI_ADDR : Fld := ⟨.MODEL_ADDR_HI, 0, 8⟩
/-- MODEL_OUT_LO.OUT, bits [31:0], LCK. -/
abbrev MODEL_OUT_LO_OUT : Fld := ⟨.MODEL_OUT_LO, 0, 32⟩
/-- MODEL_OUT_HI.OUT, bits [7:0], LCK. -/
abbrev MODEL_OUT_HI_OUT : Fld := ⟨.MODEL_OUT_HI, 0, 8⟩
/-- MODEL_CMD.LOAD, bits [0:0], WO. -/
abbrev MODEL_CMD_LOAD : Fld := ⟨.MODEL_CMD, 0, 1⟩
/-- MODEL_STATUS.VER, bits [31:16], RO. -/
abbrev MODEL_STATUS_VER : Fld := ⟨.MODEL_STATUS, 16, 16⟩
/-- MODEL_STATUS.LOAD_REFUSED, bits [5:5], W1C. -/
abbrev MODEL_STATUS_LOAD_REFUSED : Fld := ⟨.MODEL_STATUS, 5, 1⟩
/-- MODEL_STATUS.PEND, bits [4:4], RO. -/
abbrev MODEL_STATUS_PEND : Fld := ⟨.MODEL_STATUS, 4, 1⟩
/-- MODEL_STATUS.AREA, bits [3:3], RO. -/
abbrev MODEL_STATUS_AREA : Fld := ⟨.MODEL_STATUS, 3, 1⟩
/-- MODEL_STATUS.LOADED, bits [2:2], RO. -/
abbrev MODEL_STATUS_LOADED : Fld := ⟨.MODEL_STATUS, 2, 1⟩
/-- FUS_BIN.V, bits [31:31], RO. -/
abbrev FUS_BIN_V : Fld := ⟨.FUS_BIN, 31, 1⟩
/-- FUS_BIN.C, bits [23:16], RO. -/
abbrev FUS_BIN_C : Fld := ⟨.FUS_BIN, 16, 8⟩
/-- FUS_BIN.Q, bits [15:0], RO. -/
abbrev FUS_BIN_Q : Fld := ⟨.FUS_BIN, 0, 16⟩
/-- GNSS_CTRL.HEAD_EN, bits [3:3], LCK. -/
abbrev GNSS_CTRL_HEAD_EN : Fld := ⟨.GNSS_CTRL, 3, 1⟩
/-- GNSS_CTRL.ANT_B_EN, bits [2:2], LCK. -/
abbrev GNSS_CTRL_ANT_B_EN : Fld := ⟨.GNSS_CTRL, 2, 1⟩
/-- GNSS_CTRL.HOST, bits [1:1], LCK. -/
abbrev GNSS_CTRL_HOST : Fld := ⟨.GNSS_CTRL, 1, 1⟩
/-- GNSS_CTRL.EN, bits [0:0], RW. -/
abbrev GNSS_CTRL_EN : Fld := ⟨.GNSS_CTRL, 0, 1⟩
/-- GNSS_STATUS.ANT_B_FLT, bits [6:6], RO. -/
abbrev GNSS_STATUS_ANT_B_FLT : Fld := ⟨.GNSS_STATUS, 6, 1⟩
/-- GNSS_STATUS.ANT_A_FLT, bits [5:5], RO. -/
abbrev GNSS_STATUS_ANT_A_FLT : Fld := ⟨.GNSS_STATUS, 5, 1⟩
/-- GNSS_STATUS.JAMMING, bits [4:4], RO. -/
abbrev GNSS_STATUS_JAMMING : Fld := ⟨.GNSS_STATUS, 4, 1⟩
/-- GNSS_STATUS.AIDING, bits [3:3], RO. -/
abbrev GNSS_STATUS_AIDING : Fld := ⟨.GNSS_STATUS, 3, 1⟩
/-- GNSS_STATUS.TIME_STATE, bits [1:0], RO. -/
abbrev GNSS_STATUS_TIME_STATE : Fld := ⟨.GNSS_STATUS, 0, 2⟩
/-- GNSS_SIG_EN.SIG, bits [14:0], LCK. -/
abbrev GNSS_SIG_EN_SIG : Fld := ⟨.GNSS_SIG_EN, 0, 15⟩
/-- GNSS_MASK.CN0_LOSS, bits [23:16], LCK. -/
abbrev GNSS_MASK_CN0_LOSS : Fld := ⟨.GNSS_MASK, 16, 8⟩
/-- GNSS_MASK.ELEV_MASK, bits [15:8], LCK. -/
abbrev GNSS_MASK_ELEV_MASK : Fld := ⟨.GNSS_MASK, 8, 8⟩
/-- GNSS_MASK.TAP_SP, bits [7:0], LCK. -/
abbrev GNSS_MASK_TAP_SP : Fld := ⟨.GNSS_MASK, 0, 8⟩
/-- GNSS_COAST.COAST_MS, bits [31:16], LCK. -/
abbrev GNSS_COAST_COAST_MS : Fld := ⟨.GNSS_COAST, 16, 16⟩
/-- GNSS_COAST.SLIP_LIM, bits [15:8], LCK. -/
abbrev GNSS_COAST_SLIP_LIM : Fld := ⟨.GNSS_COAST, 8, 8⟩
/-- GNSS_COAST.INS_MAX_S, bits [7:0], LCK. -/
abbrev GNSS_COAST_INS_MAX_S : Fld := ⟨.GNSS_COAST, 0, 8⟩
/-- GNSS_HOLD.HOLD_MAX_S, bits [31:16], LCK. -/
abbrev GNSS_HOLD_HOLD_MAX_S : Fld := ⟨.GNSS_HOLD, 16, 16⟩
/-- GNSS_HOLD.HOLD_LIM, bits [15:0], LCK. -/
abbrev GNSS_HOLD_HOLD_LIM : Fld := ⟨.GNSS_HOLD, 0, 16⟩
/-- GNSS_HOLD_STAT.HOLD_S, bits [31:16], RO. -/
abbrev GNSS_HOLD_STAT_HOLD_S : Fld := ⟨.GNSS_HOLD_STAT, 16, 16⟩
/-- GNSS_HOLD_STAT.HOLD_ERR, bits [15:0], RO. -/
abbrev GNSS_HOLD_STAT_HOLD_ERR : Fld := ⟨.GNSS_HOLD_STAT, 0, 16⟩
/-- GNSS_TIME_OFS.OFS, bits [31:0], RO. -/
abbrev GNSS_TIME_OFS_OFS : Fld := ⟨.GNSS_TIME_OFS, 0, 32⟩
/-- GNSS_LEAP.LEAP_V, bits [8:8], RO. -/
abbrev GNSS_LEAP_LEAP_V : Fld := ⟨.GNSS_LEAP, 8, 1⟩
/-- GNSS_LEAP.LEAP, bits [7:0], RO. -/
abbrev GNSS_LEAP_LEAP : Fld := ⟨.GNSS_LEAP, 0, 8⟩
/-- GNSS_PPS.MODE, bits [17:16], LCK. -/
abbrev GNSS_PPS_MODE : Fld := ⟨.GNSS_PPS, 16, 2⟩
/-- GNSS_PPS.WIDTH_MS, bits [8:0], LCK. -/
abbrev GNSS_PPS_WIDTH_MS : Fld := ⟨.GNSS_PPS, 0, 9⟩
/-- GNSS_RTCM_CFG.AGE_MAX_S, bits [7:0], LCK. -/
abbrev GNSS_RTCM_CFG_AGE_MAX_S : Fld := ⟨.GNSS_RTCM_CFG, 0, 8⟩
/-- GNSS_RTCM_STAT.STATION, bits [27:16], RO. -/
abbrev GNSS_RTCM_STAT_STATION : Fld := ⟨.GNSS_RTCM_STAT, 16, 12⟩
/-- GNSS_RTCM_STAT.AGE, bits [15:0], RO. -/
abbrev GNSS_RTCM_STAT_AGE : Fld := ⟨.GNSS_RTCM_STAT, 0, 16⟩
/-- GNSS_RTCM_CNT.DISCARD, bits [31:16], RO. -/
abbrev GNSS_RTCM_CNT_DISCARD : Fld := ⟨.GNSS_RTCM_CNT, 16, 16⟩
/-- GNSS_RTCM_CNT.ACCEPT, bits [15:0], RO. -/
abbrev GNSS_RTCM_CNT_ACCEPT : Fld := ⟨.GNSS_RTCM_CNT, 0, 16⟩
/-- GNSS_BASE.BASE_MM, bits [15:0], LCK. -/
abbrev GNSS_BASE_BASE_MM : Fld := ⟨.GNSS_BASE, 0, 16⟩
/-- GNSS_NAV_STREAM.STREAM, bits [15:0], LCK. -/
abbrev GNSS_NAV_STREAM_STREAM : Fld := ⟨.GNSS_NAV_STREAM, 0, 16⟩
/-- GNSS_NAV_SNAP.SNAP, bits [0:0], WO. -/
abbrev GNSS_NAV_SNAP_SNAP : Fld := ⟨.GNSS_NAV_SNAP, 0, 1⟩
/-- GNSS_NMEA.PORT, bits [31:16], LCK. -/
abbrev GNSS_NMEA_PORT : Fld := ⟨.GNSS_NMEA, 16, 16⟩
/-- GNSS_NMEA.ETH, bits [15:13], LCK. -/
abbrev GNSS_NMEA_ETH : Fld := ⟨.GNSS_NMEA, 13, 3⟩
/-- GNSS_NMEA.RATE, bits [11:10], LCK. -/
abbrev GNSS_NMEA_RATE : Fld := ⟨.GNSS_NMEA, 10, 2⟩
/-- GNSS_NMEA.SENT, bits [3:0], LCK. -/
abbrev GNSS_NMEA_SENT : Fld := ⟨.GNSS_NMEA, 0, 4⟩
/-- GNSS_JAM_CFG.NOTCH_DB, bits [23:16], LCK. -/
abbrev GNSS_JAM_CFG_NOTCH_DB : Fld := ⟨.GNSS_JAM_CFG, 16, 8⟩
/-- GNSS_JAM_CFG.SF_JAM, bits [15:8], LCK. -/
abbrev GNSS_JAM_CFG_SF_JAM : Fld := ⟨.GNSS_JAM_CFG, 8, 8⟩
/-- GNSS_JAM_CFG.AGC_JAM, bits [7:0], LCK. -/
abbrev GNSS_JAM_CFG_AGC_JAM : Fld := ⟨.GNSS_JAM_CFG, 0, 8⟩
/-- LEV_A.POS, bits [31:0], LCK. -/
abbrev LEV_A_POS : Fld := ⟨.LEV_A, 0, 32⟩
/-- LEV_B.POS, bits [31:0], LCK. -/
abbrev LEV_B_POS : Fld := ⟨.LEV_B, 0, 32⟩
/-- GNSS_NAV.NAV, bits [31:0], RO. -/
abbrev GNSS_NAV_NAV : Fld := ⟨.GNSS_NAV, 0, 32⟩
/-- JAM_STAT.JAMMING, bits [31:31], RO. -/
abbrev JAM_STAT_JAMMING : Fld := ⟨.JAM_STAT, 31, 1⟩
/-- JAM_STAT.NOTCHES, bits [27:24], RO. -/
abbrev JAM_STAT_NOTCHES : Fld := ⟨.JAM_STAT, 24, 4⟩
/-- JAM_STAT.SF, bits [23:16], RO. -/
abbrev JAM_STAT_SF : Fld := ⟨.JAM_STAT, 16, 8⟩
/-- JAM_STAT.AGC_DB, bits [15:0], RO. -/
abbrev JAM_STAT_AGC_DB : Fld := ⟨.JAM_STAT, 0, 16⟩
/-- NOTCH.ACTIVE, bits [31:31], RO. -/
abbrev NOTCH_ACTIVE : Fld := ⟨.NOTCH, 31, 1⟩
/-- NOTCH.FREQ, bits [23:0], RO. -/
abbrev NOTCH_FREQ : Fld := ⟨.NOTCH, 0, 24⟩
/-- CH_STATUS.ANT, bits [31:31], RO. -/
abbrev CH_STATUS_ANT : Fld := ⟨.CH_STATUS, 31, 1⟩
/-- CH_STATUS.SIG, bits [30:27], RO. -/
abbrev CH_STATUS_SIG : Fld := ⟨.CH_STATUS, 27, 4⟩
/-- CH_STATUS.STATE, bits [26:24], RO. -/
abbrev CH_STATUS_STATE : Fld := ⟨.CH_STATUS, 24, 3⟩
/-- CH_STATUS.CN0, bits [23:16], RO. -/
abbrev CH_STATUS_CN0 : Fld := ⟨.CH_STATUS, 16, 8⟩
/-- CH_STATUS.SV, bits [15:8], RO. -/
abbrev CH_STATUS_SV : Fld := ⟨.CH_STATUS, 8, 8⟩
/-- CH_DOPPLER.DOPPLER, bits [31:0], RO. -/
abbrev CH_DOPPLER_DOPPLER : Fld := ⟨.CH_DOPPLER, 0, 32⟩
/-- CH_PHASE.SLIPS, bits [31:16], RO. -/
abbrev CH_PHASE_SLIPS : Fld := ⟨.CH_PHASE, 16, 16⟩
/-- CH_PHASE.PRED_ERR, bits [15:0], RO. -/
abbrev CH_PHASE_PRED_ERR : Fld := ⟨.CH_PHASE, 0, 16⟩
/-- CH_LOCK.LOCK_MS, bits [31:0], RO. -/
abbrev CH_LOCK_LOCK_MS : Fld := ⟨.CH_LOCK, 0, 32⟩
/-- HPC_CTRL.CROP, bits [11:8], RW. -/
abbrev HPC_CTRL_CROP : Fld := ⟨.HPC_CTRL, 8, 4⟩
/-- HPC_CTRL.ROAD, bits [2:2], RW. -/
abbrev HPC_CTRL_ROAD : Fld := ⟨.HPC_CTRL, 2, 1⟩
/-- HPC_CTRL.RUN, bits [1:1], RW. -/
abbrev HPC_CTRL_RUN : Fld := ⟨.HPC_CTRL, 1, 1⟩
/-- HPC_CTRL.HOST, bits [0:0], LCK. -/
abbrev HPC_CTRL_HOST : Fld := ⟨.HPC_CTRL, 0, 1⟩
/-- HPC_STATUS.SURF_READY, bits [4:4], RO. -/
abbrev HPC_STATUS_SURF_READY : Fld := ⟨.HPC_STATUS, 4, 1⟩
/-- HPC_STATUS.EXPLORING, bits [3:3], RO. -/
abbrev HPC_STATUS_EXPLORING : Fld := ⟨.HPC_STATUS, 3, 1⟩
/-- HPC_STATUS.FIELD_LOADING, bits [2:2], RO. -/
abbrev HPC_STATUS_FIELD_LOADING : Fld := ⟨.HPC_STATUS, 2, 1⟩
/-- HPC_STATUS.ANTICIPATING, bits [1:1], RO. -/
abbrev HPC_STATUS_ANTICIPATING : Fld := ⟨.HPC_STATUS, 1, 1⟩
/-- HPC_STATUS.ROUND_OVR, bits [0:0], W1C. -/
abbrev HPC_STATUS_ROUND_OVR : Fld := ⟨.HPC_STATUS, 0, 1⟩
/-- HPC_ROUND.ROUND, bits [31:0], RO. -/
abbrev HPC_ROUND_ROUND : Fld := ⟨.HPC_ROUND, 0, 32⟩
/-- HPC_FIELD.SLOT, bits [5:0], RW. -/
abbrev HPC_FIELD_SLOT : Fld := ⟨.HPC_FIELD, 0, 6⟩
/-- HPC_OBS.OBS, bits [15:0], RO. -/
abbrev HPC_OBS_OBS : Fld := ⟨.HPC_OBS, 0, 16⟩
/-- HPC_WEIGHTS.W_FUEL, bits [31:24], RW. -/
abbrev HPC_WEIGHTS_W_FUEL : Fld := ⟨.HPC_WEIGHTS, 24, 8⟩
/-- HPC_WEIGHTS.W_QUAL, bits [23:16], RW. -/
abbrev HPC_WEIGHTS_W_QUAL : Fld := ⟨.HPC_WEIGHTS, 16, 8⟩
/-- HPC_WEIGHTS.W_THR, bits [15:8], RW. -/
abbrev HPC_WEIGHTS_W_THR : Fld := ⟨.HPC_WEIGHTS, 8, 8⟩
/-- HPC_WEIGHTS.W_LOSS, bits [7:0], RW. -/
abbrev HPC_WEIGHTS_W_LOSS : Fld := ⟨.HPC_WEIGHTS, 0, 8⟩
/-- HPC_REF0.L_REF, bits [31:0], LCK. -/
abbrev HPC_REF0_L_REF : Fld := ⟨.HPC_REF0, 0, 32⟩
/-- HPC_REF1.Q_REF, bits [31:0], LCK. -/
abbrev HPC_REF1_Q_REF : Fld := ⟨.HPC_REF1, 0, 32⟩
/-- HPC_REF2.T_REF, bits [31:0], LCK. -/
abbrev HPC_REF2_T_REF : Fld := ⟨.HPC_REF2, 0, 32⟩
/-- HPC_REF3.E_REF, bits [31:0], LCK. -/
abbrev HPC_REF3_E_REF : Fld := ⟨.HPC_REF3, 0, 32⟩
/-- HPC_ANT.CONF_MIN, bits [31:24], LCK. -/
abbrev HPC_ANT_CONF_MIN : Fld := ⟨.HPC_ANT, 24, 8⟩
/-- HPC_ANT.T_LEAD_MS, bits [23:12], LCK. -/
abbrev HPC_ANT_T_LEAD_MS : Fld := ⟨.HPC_ANT, 12, 12⟩
/-- HPC_ANT.LOOK_CM, bits [11:0], LCK. -/
abbrev HPC_ANT_LOOK_CM : Fld := ⟨.HPC_ANT, 0, 12⟩
/-- HPC_DENS.DENS, bits [15:0], RW. -/
abbrev HPC_DENS_DENS : Fld := ⟨.HPC_DENS, 0, 16⟩
/-- HPC_FEED_FIX.FIX, bits [31:31], RW. -/
abbrev HPC_FEED_FIX_FIX : Fld := ⟨.HPC_FEED_FIX, 31, 1⟩
/-- HPC_FEED_FIX.RATE, bits [23:0], RW. -/
abbrev HPC_FEED_FIX_RATE : Fld := ⟨.HPC_FEED_FIX, 0, 24⟩
/-- HPC_FEED.F, bits [23:0], RO. -/
abbrev HPC_FEED_F : Fld := ⟨.HPC_FEED, 0, 24⟩
/-- HPC_ILK0.ROTOR_LOAD_LIM, bits [31:16], LCK. -/
abbrev HPC_ILK0_ROTOR_LOAD_LIM : Fld := ⟨.HPC_ILK0, 16, 16⟩
/-- HPC_ILK0.UNLOAD_MIN, bits [15:0], LCK. -/
abbrev HPC_ILK0_UNLOAD_MIN : Fld := ⟨.HPC_ILK0, 0, 16⟩
/-- HPC_ILK1.REEL_AFT, bits [31:16], LCK. -/
abbrev HPC_ILK1_REEL_AFT : Fld := ⟨.HPC_ILK1, 16, 16⟩
/-- HPC_ILK1.REEL_LOW, bits [15:0], LCK. -/
abbrev HPC_ILK1_REEL_LOW : Fld := ⟨.HPC_ILK1, 0, 16⟩
/-- HPC_ILK2.ENGINE_LOAD_LIM, bits [15:0], LCK. -/
abbrev HPC_ILK2_ENGINE_LOAD_LIM : Fld := ⟨.HPC_ILK2, 0, 16⟩
/-- HPC_OPT.FG, bits [31:24], LCK. -/
abbrev HPC_OPT_FG : Fld := ⟨.HPC_OPT, 24, 8⟩
/-- HPC_OPT.STEP_PCT, bits [23:16], LCK. -/
abbrev HPC_OPT_STEP_PCT : Fld := ⟨.HPC_OPT, 16, 8⟩
/-- HPC_OPT.PROPOSE_S, bits [15:8], LCK. -/
abbrev HPC_OPT_PROPOSE_S : Fld := ⟨.HPC_OPT, 8, 8⟩
/-- HPC_OPT.SETTLE_S, bits [7:0], LCK. -/
abbrev HPC_OPT_SETTLE_S : Fld := ⟨.HPC_OPT, 0, 8⟩
/-- FN_CFG0.FITTED, bits [31:31], LCK. -/
abbrev FN_CFG0_FITTED : Fld := ⟨.FN_CFG0, 31, 1⟩
/-- FN_CFG0.DIRECT, bits [30:30], LCK. -/
abbrev FN_CFG0_DIRECT : Fld := ⟨.FN_CFG0, 30, 1⟩
/-- FN_CFG0.DEST, bits [29:29], LCK. -/
abbrev FN_CFG0_DEST : Fld := ⟨.FN_CFG0, 29, 1⟩
/-- FN_CFG0.MBOX_WORD, bits [27:25], LCK. -/
abbrev FN_CFG0_MBOX_WORD : Fld := ⟨.FN_CFG0, 25, 3⟩
/-- FN_CFG0.TASK_ID, bits [24:13], LCK. -/
abbrev FN_CFG0_TASK_ID : Fld := ⟨.FN_CFG0, 13, 12⟩
/-- FN_CFG0.NODE, bits [8:0], LCK. -/
abbrev FN_CFG0_NODE : Fld := ⟨.FN_CFG0, 0, 9⟩
/-- FN_CFG1.FB_STREAM, bits [15:0], LCK. -/
abbrev FN_CFG1_FB_STREAM : Fld := ⟨.FN_CFG1, 0, 16⟩
/-- FN_MODE.ACT, bits [5:4], RO. -/
abbrev FN_MODE_ACT : Fld := ⟨.FN_MODE, 4, 2⟩
/-- FN_MODE.REQ, bits [1:0], RW. -/
abbrev FN_MODE_REQ : Fld := ⟨.FN_MODE, 0, 2⟩
/-- FN_OPCMD.OPCMD, bits [31:0], RW. -/
abbrev FN_OPCMD_OPCMD : Fld := ⟨.FN_OPCMD, 0, 32⟩
/-- FN_TARGET.TARGET, bits [31:0], RO. -/
abbrev FN_TARGET_TARGET : Fld := ⟨.FN_TARGET, 0, 32⟩
/-- FN_PROPOSAL.PROPOSAL, bits [31:0], RO. -/
abbrev FN_PROPOSAL_PROPOSAL : Fld := ⟨.FN_PROPOSAL, 0, 32⟩
/-- FN_BAND.BAND, bits [31:0], LCK. -/
abbrev FN_BAND_BAND : Fld := ⟨.FN_BAND, 0, 32⟩
/-- FN_OVR.OVR, bits [31:0], LCK. -/
abbrev FN_OVR_OVR : Fld := ⟨.FN_OVR, 0, 32⟩
/-- FN_STATUS.WRITE_DENIED, bits [7:7], W1C. -/
abbrev FN_STATUS_WRITE_DENIED : Fld := ⟨.FN_STATUS, 7, 1⟩
/-- FN_STATUS.INPUT_VALID, bits [6:6], RO. -/
abbrev FN_STATUS_INPUT_VALID : Fld := ⟨.FN_STATUS, 6, 1⟩
/-- FN_STATUS.CLAMPED, bits [5:5], RO. -/
abbrev FN_STATUS_CLAMPED : Fld := ⟨.FN_STATUS, 5, 1⟩
/-- FN_STATUS.RATE_LIMITED, bits [4:4], RO. -/
abbrev FN_STATUS_RATE_LIMITED : Fld := ⟨.FN_STATUS, 4, 1⟩
/-- FN_STATUS.ILK_ACTIVE, bits [3:3], RO. -/
abbrev FN_STATUS_ILK_ACTIVE : Fld := ⟨.FN_STATUS, 3, 1⟩
/-- FN_STATUS.FALLBACK, bits [2:2], W1C. -/
abbrev FN_STATUS_FALLBACK : Fld := ⟨.FN_STATUS, 2, 1⟩
/-- FN_STATUS.OVERRIDDEN, bits [1:1], W1C. -/
abbrev FN_STATUS_OVERRIDDEN : Fld := ⟨.FN_STATUS, 1, 1⟩
/-- FN_STATUS.MODE_REFUSED, bits [0:0], W1C. -/
abbrev FN_STATUS_MODE_REFUSED : Fld := ⟨.FN_STATUS, 0, 1⟩
/-- FN_HOLD.HOLD, bits [31:0], LCK. -/
abbrev FN_HOLD_HOLD : Fld := ⟨.FN_HOLD, 0, 32⟩
/-- LIM_MIN.MIN, bits [31:0], LCK. -/
abbrev LIM_MIN_MIN : Fld := ⟨.LIM_MIN, 0, 32⟩
/-- LIM_MAX.MAX, bits [31:0], LCK. -/
abbrev LIM_MAX_MAX : Fld := ⟨.LIM_MAX, 0, 32⟩
/-- LIM_UP.RATE_UP, bits [31:0], LCK. -/
abbrev LIM_UP_RATE_UP : Fld := ⟨.LIM_UP, 0, 32⟩
/-- LIM_DN.RATE_DN, bits [31:0], LCK. -/
abbrev LIM_DN_RATE_DN : Fld := ⟨.LIM_DN, 0, 32⟩
/-- DEF.DEFAULT, bits [31:0], LCK. -/
abbrev DEF_DEFAULT : Fld := ⟨.DEF, 0, 32⟩
/-- YLD_CTRL.JOB_CLOSE, bits [2:2], WO. -/
abbrev YLD_CTRL_JOB_CLOSE : Fld := ⟨.YLD_CTRL, 2, 1⟩
/-- YLD_CTRL.JOB_OPEN, bits [1:1], WO. -/
abbrev YLD_CTRL_JOB_OPEN : Fld := ⟨.YLD_CTRL, 1, 1⟩
/-- YLD_CTRL.EN, bits [0:0], RW. -/
abbrev YLD_CTRL_EN : Fld := ⟨.YLD_CTRL, 0, 1⟩
/-- YLD_STATUS.FULL, bits [7:7], RO. -/
abbrev YLD_STATUS_FULL : Fld := ⟨.YLD_STATUS, 7, 1⟩
/-- YLD_STATUS.EXPORT_DONE, bits [6:6], W1C. -/
abbrev YLD_STATUS_EXPORT_DONE : Fld := ⟨.YLD_STATUS, 6, 1⟩
/-- YLD_STATUS.EXPORT_BUSY, bits [5:5], RO. -/
abbrev YLD_STATUS_EXPORT_BUSY : Fld := ⟨.YLD_STATUS, 5, 1⟩
/-- YLD_STATUS.JOB_REFUSED, bits [4:4], W1C. -/
abbrev YLD_STATUS_JOB_REFUSED : Fld := ⟨.YLD_STATUS, 4, 1⟩
/-- YLD_STATUS.JOB_STATE, bits [1:0], RO. -/
abbrev YLD_STATUS_JOB_STATE : Fld := ⟨.YLD_STATUS, 0, 2⟩
/-- YLD_JOB.JOB_ID, bits [31:0], RW. -/
abbrev YLD_JOB_JOB_ID : Fld := ⟨.YLD_JOB, 0, 32⟩
/-- YLD_SRC.MO_EN, bits [15:15], LCK. -/
abbrev YLD_SRC_MO_EN : Fld := ⟨.YLD_SRC, 15, 1⟩
/-- YLD_SRC.MO_CH, bits [14:8], LCK. -/
abbrev YLD_SRC_MO_CH : Fld := ⟨.YLD_SRC, 8, 7⟩
/-- YLD_SRC.MF_CH, bits [6:0], LCK. -/
abbrev YLD_SRC_MF_CH : Fld := ⟨.YLD_SRC, 0, 7⟩
/-- YLD_DELAY.MOIST_DELAY_MS, bits [31:16], LCK. -/
abbrev YLD_DELAY_MOIST_DELAY_MS : Fld := ⟨.YLD_DELAY, 16, 16⟩
/-- YLD_DELAY.DELAY_MS, bits [15:0], LCK. -/
abbrev YLD_DELAY_DELAY_MS : Fld := ⟨.YLD_DELAY, 0, 16⟩
/-- YLD_MOIST.M_STD, bits [15:0], LCK. -/
abbrev YLD_MOIST_M_STD : Fld := ⟨.YLD_MOIST, 0, 16⟩
/-- YLD_CELL.CELL_CM, bits [15:0], LCK. -/
abbrev YLD_CELL_CELL_CM : Fld := ⟨.YLD_CELL, 0, 16⟩
/-- YLD_DAY.UTC_OFS_MIN, bits [15:0], LCK. -/
abbrev YLD_DAY_UTC_OFS_MIN : Fld := ⟨.YLD_DAY, 0, 16⟩
/-- YLD_ACC.MASS_MASK, bits [15:8], LCK. -/
abbrev YLD_ACC_MASS_MASK : Fld := ⟨.YLD_ACC, 8, 8⟩
/-- YLD_ACC.AREA_MASK, bits [7:0], LCK. -/
abbrev YLD_ACC_AREA_MASK : Fld := ⟨.YLD_ACC, 0, 8⟩
/-- YLD_ACC_STATE.RAW, bits [15:8], RO. -/
abbrev YLD_ACC_STATE_RAW : Fld := ⟨.YLD_ACC_STATE, 8, 8⟩
/-- YLD_ACC_STATE.ACCEPTED, bits [7:0], RO. -/
abbrev YLD_ACC_STATE_ACCEPTED : Fld := ⟨.YLD_ACC_STATE, 0, 8⟩
/-- YLD_AREA.AREA, bits [31:0], RO. -/
abbrev YLD_AREA_AREA : Fld := ⟨.YLD_AREA, 0, 32⟩
/-- YLD_DRY.DRY, bits [31:0], RO. -/
abbrev YLD_DRY_DRY : Fld := ⟨.YLD_DRY, 0, 32⟩
/-- YLD_HARV.HARV, bits [31:0], RO. -/
abbrev YLD_HARV_HARV : Fld := ⟨.YLD_HARV, 0, 32⟩
/-- YLD_SEQ.SEQ, bits [31:0], RO. -/
abbrev YLD_SEQ_SEQ : Fld := ⟨.YLD_SEQ, 0, 32⟩
/-- YLD_ACK.ACK, bits [31:0], RW. -/
abbrev YLD_ACK_ACK : Fld := ⟨.YLD_ACK, 0, 32⟩
/-- YLD_CNT.LOST, bits [31:16], RO. -/
abbrev YLD_CNT_LOST : Fld := ⟨.YLD_CNT, 16, 16⟩
/-- YLD_CNT.DISC, bits [15:0], RO. -/
abbrev YLD_CNT_DISC : Fld := ⟨.YLD_CNT, 0, 16⟩
/-- YLD_EXPORT.START, bits [0:0], WO. -/
abbrev YLD_EXPORT_START : Fld := ⟨.YLD_EXPORT, 0, 1⟩
/-- YLD_EXP_LO.EXP_ADDR, bits [31:0], LCK. -/
abbrev YLD_EXP_LO_EXP_ADDR : Fld := ⟨.YLD_EXP_LO, 0, 32⟩
/-- YLD_EXP_HI.EXP_ADDR, bits [7:0], LCK. -/
abbrev YLD_EXP_HI_EXP_ADDR : Fld := ⟨.YLD_EXP_HI, 0, 8⟩
/-- YLD_EXP_SIZE.EXP_SIZE, bits [31:0], LCK. -/
abbrev YLD_EXP_SIZE_EXP_SIZE : Fld := ⟨.YLD_EXP_SIZE, 0, 32⟩
/-- YLD_EXP_LEN.EXP_LEN, bits [31:0], RO. -/
abbrev YLD_EXP_LEN_EXP_LEN : Fld := ⟨.YLD_EXP_LEN, 0, 32⟩
/-- YLD_DAYEND_LO.DAYEND, bits [31:0], RO. -/
abbrev YLD_DAYEND_LO_DAYEND : Fld := ⟨.YLD_DAYEND_LO, 0, 32⟩
/-- YLD_DAYEND_HI.DAYEND, bits [31:0], RO. -/
abbrev YLD_DAYEND_HI_DAYEND : Fld := ⟨.YLD_DAYEND_HI, 0, 32⟩
/-- FAB_CFG.RSP_TO_US, bits [31:16], LCK. -/
abbrev FAB_CFG_RSP_TO_US : Fld := ⟨.FAB_CFG, 16, 16⟩
/-- FAB_CFG.CAND, bits [8:8], LCK. -/
abbrev FAB_CFG_CAND : Fld := ⟨.FAB_CFG, 8, 1⟩
/-- FAB_CFG.COND_PRIO, bits [7:4], LCK. -/
abbrev FAB_CFG_COND_PRIO : Fld := ⟨.FAB_CFG, 4, 4⟩
/-- FAB_STATUS.CONDUCTOR, bits [31:23], RO. -/
abbrev FAB_STATUS_CONDUCTOR : Fld := ⟨.FAB_STATUS, 23, 9⟩
/-- FAB_STATUS.COND_V, bits [22:22], RO. -/
abbrev FAB_STATUS_COND_V : Fld := ⟨.FAB_STATUS, 22, 1⟩
/-- FAB_STATUS.EPOCH, bits [15:0], RO. -/
abbrev FAB_STATUS_EPOCH : Fld := ⟨.FAB_STATUS, 0, 16⟩
/-- FAB_ROLE.PEER, bits [20:12], RW. -/
abbrev FAB_ROLE_PEER : Fld := ⟨.FAB_ROLE, 12, 9⟩
/-- FAB_ROLE.REQ, bits [11:10], WO. -/
abbrev FAB_ROLE_REQ : Fld := ⟨.FAB_ROLE, 10, 2⟩
/-- FAB_ROLE.COLLIDED, bits [3:3], W1C. -/
abbrev FAB_ROLE_COLLIDED : Fld := ⟨.FAB_ROLE, 3, 1⟩
/-- FAB_ROLE.REFUSED, bits [2:2], W1C. -/
abbrev FAB_ROLE_REFUSED : Fld := ⟨.FAB_ROLE, 2, 1⟩
/-- FAB_ROLE.GRANTED, bits [1:1], W1C. -/
abbrev FAB_ROLE_GRANTED : Fld := ⟨.FAB_ROLE, 1, 1⟩
/-- FAB_ROLE.PEND, bits [0:0], RO. -/
abbrev FAB_ROLE_PEND : Fld := ⟨.FAB_ROLE, 0, 1⟩
/-- FAB_FT_LO.FT, bits [31:0], RO. -/
abbrev FAB_FT_LO_FT : Fld := ⟨.FAB_FT_LO, 0, 32⟩
/-- FAB_FT_HI.FT, bits [31:0], RO. -/
abbrev FAB_FT_HI_FT : Fld := ⟨.FAB_FT_HI, 0, 32⟩
/-- FAB_TIME.FT_V, bits [31:31], RO. -/
abbrev FAB_TIME_FT_V : Fld := ⟨.FAB_TIME, 31, 1⟩
/-- FAB_TIME.FT_ERR, bits [15:0], RO. -/
abbrev FAB_TIME_FT_ERR : Fld := ⟨.FAB_TIME, 0, 16⟩
/-- FAB_FLTQ.DROPPED, bits [31:16], RO. -/
abbrev FAB_FLTQ_DROPPED : Fld := ⟨.FAB_FLTQ, 16, 16⟩
/-- FAB_FLTQ.QUEUED, bits [15:0], RO. -/
abbrev FAB_FLTQ_QUEUED : Fld := ⟨.FAB_FLTQ, 0, 16⟩
/-- FAB_SRX_MISS.MISS, bits [31:0], RO. -/
abbrev FAB_SRX_MISS_MISS : Fld := ⟨.FAB_SRX_MISS, 0, 32⟩
/-- FAB_COAL_LOCAL.OVF, bits [31:16], RO. -/
abbrev FAB_COAL_LOCAL_OVF : Fld := ⟨.FAB_COAL_LOCAL, 16, 16⟩
/-- FAB_COAL_LOCAL.IN_USE, bits [6:0], RO. -/
abbrev FAB_COAL_LOCAL_IN_USE : Fld := ⟨.FAB_COAL_LOCAL, 0, 7⟩
/-- FAB_EQ.EQ_TH2, bits [15:8], LCK. -/
abbrev FAB_EQ_EQ_TH2 : Fld := ⟨.FAB_EQ, 8, 8⟩
/-- FAB_EQ.EQ_TH1, bits [7:0], LCK. -/
abbrev FAB_EQ_EQ_TH1 : Fld := ⟨.FAB_EQ, 0, 8⟩
/-- PORT_CTRL.EN, bits [0:0], RW. -/
abbrev PORT_CTRL_EN : Fld := ⟨.PORT_CTRL, 0, 1⟩
/-- PORT_STATUS.PARTNER, bits [31:23], RO. -/
abbrev PORT_STATUS_PARTNER : Fld := ⟨.PORT_STATUS, 23, 9⟩
/-- PORT_STATUS.PARTNER_PORT, bits [22:20], RO. -/
abbrev PORT_STATUS_PARTNER_PORT : Fld := ⟨.PORT_STATUS, 20, 3⟩
/-- PORT_STATUS.UP_LINK, bits [17:17], RO. -/
abbrev PORT_STATUS_UP_LINK : Fld := ⟨.PORT_STATUS, 17, 1⟩
/-- PORT_STATUS.PARENT, bits [16:16], RO. -/
abbrev PORT_STATUS_PARENT : Fld := ⟨.PORT_STATUS, 16, 1⟩
/-- PORT_STATUS.PRESET, bits [7:6], RO. -/
abbrev PORT_STATUS_PRESET : Fld := ⟨.PORT_STATUS, 6, 2⟩
/-- PORT_STATUS.STATE, bits [2:0], RO. -/
abbrev PORT_STATUS_STATE : Fld := ⟨.PORT_STATUS, 0, 3⟩
/-- PORT_ERR.HCRC, bits [31:16], RO. -/
abbrev PORT_ERR_HCRC : Fld := ⟨.PORT_ERR, 16, 16⟩
/-- PORT_ERR.SYNC, bits [15:0], RO. -/
abbrev PORT_ERR_SYNC : Fld := ⟨.PORT_ERR, 0, 16⟩
/-- PORT_ERR2.PCRC, bits [31:16], RO. -/
abbrev PORT_ERR2_PCRC : Fld := ⟨.PORT_ERR2, 16, 16⟩
/-- PORT_ERR2.DISCARD, bits [15:0], RO. -/
abbrev PORT_ERR2_DISCARD : Fld := ⟨.PORT_ERR2, 0, 16⟩
/-- PORT_DELAY.DELAY, bits [15:0], RO. -/
abbrev PORT_DELAY_DELAY : Fld := ⟨.PORT_DELAY, 0, 16⟩
/-- PORT_COAL.OVF, bits [31:16], RO. -/
abbrev PORT_COAL_OVF : Fld := ⟨.PORT_COAL, 16, 16⟩
/-- PORT_COAL.IN_USE, bits [6:0], RO. -/
abbrev PORT_COAL_IN_USE : Fld := ⟨.PORT_COAL, 0, 7⟩
/-- PORT_NAK.NAK_DOWN, bits [31:16], RO. -/
abbrev PORT_NAK_NAK_DOWN : Fld := ⟨.PORT_NAK, 16, 16⟩
/-- PORT_NAK.LATE, bits [15:0], RO. -/
abbrev PORT_NAK_LATE : Fld := ⟨.PORT_NAK, 0, 16⟩
/-- PORT_FLITS.TX, bits [31:0], RO. -/
abbrev PORT_FLITS_TX : Fld := ⟨.PORT_FLITS, 0, 32⟩
/-- XD_SRC_LO.SRC, bits [31:0], LCK. -/
abbrev XD_SRC_LO_SRC : Fld := ⟨.XD_SRC_LO, 0, 32⟩
/-- XD_SRC_HI.SRC, bits [7:0], LCK. -/
abbrev XD_SRC_HI_SRC : Fld := ⟨.XD_SRC_HI, 0, 8⟩
/-- XD_DST_LO.DST, bits [31:0], LCK. -/
abbrev XD_DST_LO_DST : Fld := ⟨.XD_DST_LO, 0, 32⟩
/-- XD_DST_HI.DST, bits [16:0], LCK. -/
abbrev XD_DST_HI_DST : Fld := ⟨.XD_DST_HI, 0, 17⟩
/-- XD_CFG.OWNER, bits [31:22], LCK. -/
abbrev XD_CFG_OWNER : Fld := ⟨.XD_CFG, 22, 10⟩
/-- XD_CFG.LEN, bits [12:0], LCK. -/
abbrev XD_CFG_LEN : Fld := ⟨.XD_CFG, 0, 13⟩
/-- XD_CTRL.GO, bits [0:0], WO. -/
abbrev XD_CTRL_GO : Fld := ⟨.XD_CTRL, 0, 1⟩
/-- XD_STATUS.OVR, bits [31:16], RO. -/
abbrev XD_STATUS_OVR : Fld := ⟨.XD_STATUS, 16, 16⟩
/-- XD_STATUS.LAST_STATUS, bits [5:3], RO. -/
abbrev XD_STATUS_LAST_STATUS : Fld := ⟨.XD_STATUS, 3, 3⟩
/-- XD_STATUS.ERR, bits [2:2], W1C. -/
abbrev XD_STATUS_ERR : Fld := ⟨.XD_STATUS, 2, 1⟩
/-- XD_STATUS.DONE, bits [1:1], W1C. -/
abbrev XD_STATUS_DONE : Fld := ⟨.XD_STATUS, 1, 1⟩
/-- XD_STATUS.BUSY, bits [0:0], RO. -/
abbrev XD_STATUS_BUSY : Fld := ⟨.XD_STATUS, 0, 1⟩
/-- STX_CFG.EN, bits [31:31], LCK. -/
abbrev STX_CFG_EN : Fld := ⟨.STX_CFG, 31, 1⟩
/-- STX_CFG.STREAM, bits [15:0], LCK. -/
abbrev STX_CFG_STREAM : Fld := ⟨.STX_CFG, 0, 16⟩
/-- STX_DEST01.D1_EN, bits [31:31], LCK. -/
abbrev STX_DEST01_D1_EN : Fld := ⟨.STX_DEST01, 31, 1⟩
/-- STX_DEST01.DEST1, bits [24:16], LCK. -/
abbrev STX_DEST01_DEST1 : Fld := ⟨.STX_DEST01, 16, 9⟩
/-- STX_DEST01.D0_EN, bits [15:15], LCK. -/
abbrev STX_DEST01_D0_EN : Fld := ⟨.STX_DEST01, 15, 1⟩
/-- STX_DEST01.DEST0, bits [8:0], LCK. -/
abbrev STX_DEST01_DEST0 : Fld := ⟨.STX_DEST01, 0, 9⟩
/-- STX_SENT.SENT, bits [31:0], RO. -/
abbrev STX_SENT_SENT : Fld := ⟨.STX_SENT, 0, 32⟩
/-- SRX_CFG.EN, bits [31:31], LCK. -/
abbrev SRX_CFG_EN : Fld := ⟨.SRX_CFG, 31, 1⟩
/-- SRX_CFG.LEN_M1, bits [17:16], LCK. -/
abbrev SRX_CFG_LEN_M1 : Fld := ⟨.SRX_CFG, 16, 2⟩
/-- SRX_CFG.STREAM, bits [15:0], LCK. -/
abbrev SRX_CFG_STREAM : Fld := ⟨.SRX_CFG, 0, 16⟩
/-- SRX_ADDR_LO.ADDR, bits [31:0], LCK. -/
abbrev SRX_ADDR_LO_ADDR : Fld := ⟨.SRX_ADDR_LO, 0, 32⟩
/-- SRX_ADDR_HI.ADDR, bits [7:0], LCK. -/
abbrev SRX_ADDR_HI_ADDR : Fld := ⟨.SRX_ADDR_HI, 0, 8⟩
/-- SRX_CNT.DROP, bits [31:16], RO. -/
abbrev SRX_CNT_DROP : Fld := ⟨.SRX_CNT, 16, 16⟩
/-- SRX_CNT.RECV, bits [15:0], RO. -/
abbrev SRX_CNT_RECV : Fld := ⟨.SRX_CNT, 0, 16⟩
/-- FAB_ROUTE.ENTRY, bits [15:0], RO. -/
abbrev FAB_ROUTE_ENTRY : Fld := ⟨.FAB_ROUTE, 0, 16⟩
/-- ACC_CFG.SEC_TENANT, bits [9:0], LCK. -/
abbrev ACC_CFG_SEC_TENANT : Fld := ⟨.ACC_CFG, 0, 10⟩
/-- ACC_LOG_LO.LOG_ADDR, bits [31:0], LCK. -/
abbrev ACC_LOG_LO_LOG_ADDR : Fld := ⟨.ACC_LOG_LO, 0, 32⟩
/-- ACC_LOG_HI.LOG_ADDR, bits [7:0], LCK. -/
abbrev ACC_LOG_HI_LOG_ADDR : Fld := ⟨.ACC_LOG_HI, 0, 8⟩
/-- ACC_LOG_N.LOG_N, bits [12:0], LCK. -/
abbrev ACC_LOG_N_LOG_N : Fld := ⟨.ACC_LOG_N, 0, 13⟩
/-- ACC_LOG_WR.WR, bits [31:0], RO. -/
abbrev ACC_LOG_WR_WR : Fld := ⟨.ACC_LOG_WR, 0, 32⟩
/-- ACC_LOG_RD.RD, bits [31:0], RW. -/
abbrev ACC_LOG_RD_RD : Fld := ⟨.ACC_LOG_RD, 0, 32⟩
/-- ACC_LOG_LOST.LOST, bits [31:0], RO. -/
abbrev ACC_LOG_LOST_LOST : Fld := ⟨.ACC_LOG_LOST, 0, 32⟩
/-- ACC_REFUSED.REFUSED, bits [31:0], RO. -/
abbrev ACC_REFUSED_REFUSED : Fld := ⟨.ACC_REFUSED, 0, 32⟩
/-- ACC_ENT0.WORD, bits [31:0], LCK. -/
abbrev ACC_ENT0_WORD : Fld := ⟨.ACC_ENT0, 0, 32⟩
/-- ACC_ENT1.WORD, bits [31:0], LCK. -/
abbrev ACC_ENT1_WORD : Fld := ⟨.ACC_ENT1, 0, 32⟩
/-- ACC_ENT2.WORD, bits [31:0], LCK. -/
abbrev ACC_ENT2_WORD : Fld := ⟨.ACC_ENT2, 0, 32⟩
/-- ACC_ENT3.WORD, bits [31:0], LCK. -/
abbrev ACC_ENT3_WORD : Fld := ⟨.ACC_ENT3, 0, 32⟩
/-- ACC_TMAP.ENTRY, bits [31:0], LCK. -/
abbrev ACC_TMAP_ENTRY : Fld := ⟨.ACC_TMAP, 0, 32⟩
/-- PWR_STATUS.K, bits [21:12], RO. -/
abbrev PWR_STATUS_K : Fld := ⟨.PWR_STATUS, 12, 10⟩
/-- PWR_STATUS.LECLK_N, bits [11:6], RO. -/
abbrev PWR_STATUS_LECLK_N : Fld := ⟨.PWR_STATUS, 6, 6⟩
/-- PWR_STATUS.HIGH, bits [3:3], RO. -/
abbrev PWR_STATUS_HIGH : Fld := ⟨.PWR_STATUS, 3, 1⟩
/-- PWR_STATUS.SUPPLY, bits [2:0], RO. -/
abbrev PWR_STATUS_SUPPLY : Fld := ⟨.PWR_STATUS, 0, 3⟩
/-- PWR_HOLDUP.ENERGY, bits [15:0], RO. -/
abbrev PWR_HOLDUP_ENERGY : Fld := ⟨.PWR_HOLDUP, 0, 16⟩
/-- PWR_THERM.DIE_FAULT4, bits [23:23], RO. -/
abbrev PWR_THERM_DIE_FAULT4 : Fld := ⟨.PWR_THERM, 23, 1⟩
/-- PWR_THERM.HOT_CH, bits [22:16], RO. -/
abbrev PWR_THERM_HOT_CH : Fld := ⟨.PWR_THERM, 16, 7⟩
/-- PWR_THERM.HOT_T, bits [15:0], RO. -/
abbrev PWR_THERM_HOT_T : Fld := ⟨.PWR_THERM, 0, 16⟩
/-- PWR_DRAM.BAND1, bits [3:2], RO. -/
abbrev PWR_DRAM_BAND1 : Fld := ⟨.PWR_DRAM, 2, 2⟩
/-- PWR_DRAM.BAND0, bits [1:0], RO. -/
abbrev PWR_DRAM_BAND0 : Fld := ⟨.PWR_DRAM, 0, 2⟩
/-- PWR_WAKE.QUEUED, bits [14:8], RO. -/
abbrev PWR_WAKE_QUEUED : Fld := ⟨.PWR_WAKE, 8, 7⟩
/-- PWR_WAKE.CREDITS, bits [4:0], RO. -/
abbrev PWR_WAKE_CREDITS : Fld := ⟨.PWR_WAKE, 0, 5⟩
/-- PWR_EVT.REDUCED, bits [2:2], W1C. -/
abbrev PWR_EVT_REDUCED : Fld := ⟨.PWR_EVT, 2, 1⟩
/-- PWR_EVT.CRANK, bits [1:1], W1C. -/
abbrev PWR_EVT_CRANK : Fld := ⟨.PWR_EVT, 1, 1⟩
/-- PWR_EVT.HIGH_SEEN, bits [0:0], W1C. -/
abbrev PWR_EVT_HIGH_SEEN : Fld := ⟨.PWR_EVT, 0, 1⟩
/-- PD_CTRL.PRIO, bits [4:3], LCK. -/
abbrev PD_CTRL_PRIO : Fld := ⟨.PD_CTRL, 3, 2⟩
/-- PD_CTRL.FORCE, bits [2:2], WO. -/
abbrev PD_CTRL_FORCE : Fld := ⟨.PD_CTRL, 2, 1⟩
/-- PD_CTRL.ON, bits [0:0], RW. -/
abbrev PD_CTRL_ON : Fld := ⟨.PD_CTRL, 0, 1⟩
/-- PD_STATUS.FORCED, bits [7:7], W1C. -/
abbrev PD_STATUS_FORCED : Fld := ⟨.PD_STATUS, 7, 1⟩
/-- PD_STATUS.REFUSED, bits [6:6], W1C. -/
abbrev PD_STATUS_REFUSED : Fld := ⟨.PD_STATUS, 6, 1⟩
/-- PD_STATUS.PENDING, bits [5:5], RO. -/
abbrev PD_STATUS_PENDING : Fld := ⟨.PD_STATUS, 5, 1⟩
/-- PD_STATUS.STATE, bits [2:0], RO. -/
abbrev PD_STATUS_STATE : Fld := ⟨.PD_STATUS, 0, 3⟩
/-- TZ_CFG.T_HI, bits [15:8], LCK. -/
abbrev TZ_CFG_T_HI : Fld := ⟨.TZ_CFG, 8, 8⟩
/-- TZ_CFG.T_LO, bits [7:0], LCK. -/
abbrev TZ_CFG_T_LO : Fld := ⟨.TZ_CFG, 0, 8⟩
/-- TZ_STAT.DEMAND, bits [31:16], RO. -/
abbrev TZ_STAT_DEMAND : Fld := ⟨.TZ_STAT, 16, 16⟩
/-- TZ_STAT.TEMP, bits [15:0], RO. -/
abbrev TZ_STAT_TEMP : Fld := ⟨.TZ_STAT, 0, 16⟩
/-- COOL_CFG.ZONE_MASK, bits [19:8], LCK. -/
abbrev COOL_CFG_ZONE_MASK : Fld := ⟨.COOL_CFG, 8, 12⟩
/-- COOL_CFG.MIN_DUTY, bits [7:0], LCK. -/
abbrev COOL_CFG_MIN_DUTY : Fld := ⟨.COOL_CFG, 0, 8⟩
/-- COOL_HOST.HOST, bits [9:0], RW. -/
abbrev COOL_HOST_HOST : Fld := ⟨.COOL_HOST, 0, 10⟩
/-- COOL_STATUS.RPM, bits [31:16], RO. -/
abbrev COOL_STATUS_RPM : Fld := ⟨.COOL_STATUS, 16, 16⟩
/-- COOL_STATUS.FAULT, bits [15:15], RO. -/
abbrev COOL_STATUS_FAULT : Fld := ⟨.COOL_STATUS, 15, 1⟩
/-- COOL_STATUS.DUTY, bits [9:0], RO. -/
abbrev COOL_STATUS_DUTY : Fld := ⟨.COOL_STATUS, 0, 10⟩
/-- COOL_MIN.MIN_RPM, bits [15:0], LCK. -/
abbrev COOL_MIN_MIN_RPM : Fld := ⟨.COOL_MIN, 0, 16⟩
/-- COOL_WD.HOST_SILENT, bits [16:16], RO. -/
abbrev COOL_WD_HOST_SILENT : Fld := ⟨.COOL_WD, 16, 1⟩
/-- COOL_WD.HOST_WD_MS, bits [15:0], LCK. -/
abbrev COOL_WD_HOST_WD_MS : Fld := ⟨.COOL_WD, 0, 16⟩
/-- BOOT_STATUS.FALLBACK_V, bits [9:9], RO. -/
abbrev BOOT_STATUS_FALLBACK_V : Fld := ⟨.BOOT_STATUS, 9, 1⟩
/-- BOOT_STATUS.SET, bits [8:8], RO. -/
abbrev BOOT_STATUS_SET : Fld := ⟨.BOOT_STATUS, 8, 1⟩
/-- BOOT_STATUS.MOLTED, bits [7:7], RO. -/
abbrev BOOT_STATUS_MOLTED : Fld := ⟨.BOOT_STATUS, 7, 1⟩
/-- BOOT_STATUS.FAILS, bits [4:3], RO. -/
abbrev BOOT_STATUS_FAILS : Fld := ⟨.BOOT_STATUS, 3, 2⟩
/-- BOOT_STATUS.START_KIND, bits [2:0], RO. -/
abbrev BOOT_STATUS_START_KIND : Fld := ⟨.BOOT_STATUS, 0, 3⟩
/-- BOOT_SEQ.SEQ, bits [31:0], RO. -/
abbrev BOOT_SEQ_SEQ : Fld := ⟨.BOOT_SEQ, 0, 32⟩
/-- BOOT_FB_SEQ.SEQ, bits [31:0], RO. -/
abbrev BOOT_FB_SEQ_SEQ : Fld := ⟨.BOOT_FB_SEQ, 0, 32⟩
/-- BOOT_CFG_VER.CURRENT, bits [31:16], RO. -/
abbrev BOOT_CFG_VER_CURRENT : Fld := ⟨.BOOT_CFG_VER, 16, 16⟩
/-- BOOT_CFG_VER.LOWEST, bits [15:0], RO. -/
abbrev BOOT_CFG_VER_LOWEST : Fld := ⟨.BOOT_CFG_VER, 0, 16⟩
/-- BOOT_START_MS.MS, bits [15:0], RO. -/
abbrev BOOT_START_MS_MS : Fld := ⟨.BOOT_START_MS, 0, 16⟩
/-- BOOT_UPD_LO.ADDR, bits [31:0], RW. -/
abbrev BOOT_UPD_LO_ADDR : Fld := ⟨.BOOT_UPD_LO, 0, 32⟩
/-- BOOT_UPD_HI.ADDR, bits [7:0], RW. -/
abbrev BOOT_UPD_HI_ADDR : Fld := ⟨.BOOT_UPD_HI, 0, 8⟩
/-- BOOT_UPD_LEN.LEN, bits [31:0], RW. -/
abbrev BOOT_UPD_LEN_LEN : Fld := ⟨.BOOT_UPD_LEN, 0, 32⟩
/-- BOOT_UPD_CMD.DISCARD, bits [2:2], WO. -/
abbrev BOOT_UPD_CMD_DISCARD : Fld := ⟨.BOOT_UPD_CMD, 2, 1⟩
/-- BOOT_UPD_CMD.ABORT, bits [1:1], WO. -/
abbrev BOOT_UPD_CMD_ABORT : Fld := ⟨.BOOT_UPD_CMD, 1, 1⟩
/-- BOOT_UPD_CMD.STAGE, bits [0:0], WO. -/
abbrev BOOT_UPD_CMD_STAGE : Fld := ⟨.BOOT_UPD_CMD, 0, 1⟩
/-- BOOT_UPD_STATUS.PART, bits [31:24], RO. -/
abbrev BOOT_UPD_STATUS_PART : Fld := ⟨.BOOT_UPD_STATUS, 24, 8⟩
/-- BOOT_UPD_STATUS.REASON, bits [23:16], RO. -/
abbrev BOOT_UPD_STATUS_REASON : Fld := ⟨.BOOT_UPD_STATUS, 16, 8⟩
/-- BOOT_UPD_STATUS.CMD_IGNORED, bits [3:3], W1C. -/
abbrev BOOT_UPD_STATUS_CMD_IGNORED : Fld := ⟨.BOOT_UPD_STATUS, 3, 1⟩
/-- BOOT_UPD_STATUS.STATE, bits [2:0], RO. -/
abbrev BOOT_UPD_STATUS_STATE : Fld := ⟨.BOOT_UPD_STATUS, 0, 3⟩
/-- BOOT_UPD_SEQ.SEQ, bits [31:0], RO. -/
abbrev BOOT_UPD_SEQ_SEQ : Fld := ⟨.BOOT_UPD_SEQ, 0, 32⟩
/-- BOOT_OTP_GEN.LIMP_MAP, bits [14:12], RO. -/
abbrev BOOT_OTP_GEN_LIMP_MAP : Fld := ⟨.BOOT_OTP_GEN, 12, 3⟩
/-- BOOT_OTP_GEN.ROOT, bits [10:8], RO. -/
abbrev BOOT_OTP_GEN_ROOT : Fld := ⟨.BOOT_OTP_GEN, 8, 3⟩
/-- BOOT_OTP_GEN.TRIM, bits [6:4], RO. -/
abbrev BOOT_OTP_GEN_TRIM : Fld := ⟨.BOOT_OTP_GEN, 4, 3⟩
/-- BOOT_OTP_GEN.IDENT, bits [2:0], RO. -/
abbrev BOOT_OTP_GEN_IDENT : Fld := ⟨.BOOT_OTP_GEN, 0, 3⟩
/-- BOOT_MAC_LO.MAC, bits [31:0], RO. -/
abbrev BOOT_MAC_LO_MAC : Fld := ⟨.BOOT_MAC_LO, 0, 32⟩
/-- BOOT_MAC_HI.MAC, bits [15:0], RO. -/
abbrev BOOT_MAC_HI_MAC : Fld := ⟨.BOOT_MAC_HI, 0, 16⟩
/-- BOOT_SERIAL.SERIAL, bits [31:0], RO. -/
abbrev BOOT_SERIAL_SERIAL : Fld := ⟨.BOOT_SERIAL, 0, 32⟩
/-- BOOT_JRN.TORN, bits [15:0], RO. -/
abbrev BOOT_JRN_TORN : Fld := ⟨.BOOT_JRN, 0, 16⟩
/-- ETH_CTRL.IP_EN, bits [2:2], LCK. -/
abbrev ETH_CTRL_IP_EN : Fld := ⟨.ETH_CTRL, 2, 1⟩
/-- ETH_CTRL.ROLE, bits [1:1], LCK. -/
abbrev ETH_CTRL_ROLE : Fld := ⟨.ETH_CTRL, 1, 1⟩
/-- ETH_CTRL.EN, bits [0:0], RW. -/
abbrev ETH_CTRL_EN : Fld := ⟨.ETH_CTRL, 0, 1⟩
/-- ETH_STATUS.LINK, bits [0:0], RO. -/
abbrev ETH_STATUS_LINK : Fld := ⟨.ETH_STATUS, 0, 1⟩
/-- ETH_IP.IP, bits [31:0], LCK. -/
abbrev ETH_IP_IP : Fld := ⟨.ETH_IP, 0, 32⟩
/-- ETH_CNT.TX_DROP, bits [31:16], RO. -/
abbrev ETH_CNT_TX_DROP : Fld := ⟨.ETH_CNT, 16, 16⟩
/-- ETH_CNT.RX_DROP, bits [15:0], RO. -/
abbrev ETH_CNT_RX_DROP : Fld := ⟨.ETH_CNT, 0, 16⟩
/-- CAN_CTRL.RESTART, bits [2:2], WO. -/
abbrev CAN_CTRL_RESTART : Fld := ⟨.CAN_CTRL, 2, 1⟩
/-- CAN_CTRL.AUTO_REC, bits [1:1], LCK. -/
abbrev CAN_CTRL_AUTO_REC : Fld := ⟨.CAN_CTRL, 1, 1⟩
/-- CAN_CTRL.EN, bits [0:0], RW. -/
abbrev CAN_CTRL_EN : Fld := ⟨.CAN_CTRL, 0, 1⟩
/-- CAN_CFG.RING_LOG2, bits [11:8], LCK. -/
abbrev CAN_CFG_RING_LOG2 : Fld := ⟨.CAN_CFG, 8, 4⟩
/-- CAN_CFG.DRATE, bits [7:4], LCK. -/
abbrev CAN_CFG_DRATE : Fld := ⟨.CAN_CFG, 4, 4⟩
/-- CAN_CFG.NRATE, bits [3:0], LCK. -/
abbrev CAN_CFG_NRATE : Fld := ⟨.CAN_CFG, 0, 4⟩
/-- CAN_TXR_LO.ADDR, bits [31:0], LCK. -/
abbrev CAN_TXR_LO_ADDR : Fld := ⟨.CAN_TXR_LO, 0, 32⟩
/-- CAN_TXR_HI.ADDR, bits [7:0], LCK. -/
abbrev CAN_TXR_HI_ADDR : Fld := ⟨.CAN_TXR_HI, 0, 8⟩
/-- CAN_RXR_LO.ADDR, bits [31:0], LCK. -/
abbrev CAN_RXR_LO_ADDR : Fld := ⟨.CAN_RXR_LO, 0, 32⟩
/-- CAN_RXR_HI.ADDR, bits [7:0], LCK. -/
abbrev CAN_RXR_HI_ADDR : Fld := ⟨.CAN_RXR_HI, 0, 8⟩
/-- CAN_STATUS.RX_OVR, bits [31:16], RO. -/
abbrev CAN_STATUS_RX_OVR : Fld := ⟨.CAN_STATUS, 16, 16⟩
/-- CAN_STATUS.BUS, bits [1:0], RO. -/
abbrev CAN_STATUS_BUS : Fld := ⟨.CAN_STATUS, 0, 2⟩
/-- CAN_FILT_EN.EN, bits [31:0], LCK. -/
abbrev CAN_FILT_EN_EN : Fld := ⟨.CAN_FILT_EN, 0, 32⟩
/-- CAN_FILT_ID.ID, bits [28:0], LCK. -/
abbrev CAN_FILT_ID_ID : Fld := ⟨.CAN_FILT_ID, 0, 29⟩
/-- CAN_FILT_MASK.MASK, bits [28:0], LCK. -/
abbrev CAN_FILT_MASK_MASK : Fld := ⟨.CAN_FILT_MASK, 0, 29⟩
/-- ISO_CFG.ISO_EN, bits [9:9], LCK. -/
abbrev ISO_CFG_ISO_EN : Fld := ⟨.ISO_CFG, 9, 1⟩
/-- ISO_CFG.ISO_ADDR, bits [7:0], LCK. -/
abbrev ISO_CFG_ISO_ADDR : Fld := ⟨.ISO_CFG, 0, 8⟩
/-- ISO_NAME_LO.NAME, bits [31:0], LCK. -/
abbrev ISO_NAME_LO_NAME : Fld := ⟨.ISO_NAME_LO, 0, 32⟩
/-- ISO_NAME_HI.NAME, bits [31:0], LCK. -/
abbrev ISO_NAME_HI_NAME : Fld := ⟨.ISO_NAME_HI, 0, 32⟩
/-- J1939_CFG.J1939_EN, bits [16:16], LCK. -/
abbrev J1939_CFG_J1939_EN : Fld := ⟨.J1939_CFG, 16, 1⟩
/-- J1939_CFG.ENG_ADDR, bits [15:8], LCK. -/
abbrev J1939_CFG_ENG_ADDR : Fld := ⟨.J1939_CFG, 8, 8⟩
/-- J1939_CFG.J1939_ADDR, bits [7:0], LCK. -/
abbrev J1939_CFG_J1939_ADDR : Fld := ⟨.J1939_CFG, 0, 8⟩
/-- FLEET_CTRL.UNPAIR, bits [1:1], WO. -/
abbrev FLEET_CTRL_UNPAIR : Fld := ⟨.FLEET_CTRL, 1, 1⟩
/-- FLEET_CTRL.EN, bits [0:0], RW. -/
abbrev FLEET_CTRL_EN : Fld := ⟨.FLEET_CTRL, 0, 1⟩
/-- FLEET_ID.ID, bits [31:0], LCK. -/
abbrev FLEET_ID_ID : Fld := ⟨.FLEET_ID, 0, 32⟩
/-- FLEET_GW.GW, bits [31:0], LCK. -/
abbrev FLEET_GW_GW : Fld := ⟨.FLEET_GW, 0, 32⟩
/-- FLEET_CFG.FLEET_PORT, bits [31:16], LCK. -/
abbrev FLEET_CFG_FLEET_PORT : Fld := ⟨.FLEET_CFG, 16, 16⟩
/-- FLEET_CFG.ETH, bits [15:13], LCK. -/
abbrev FLEET_CFG_ETH : Fld := ⟨.FLEET_CFG, 13, 3⟩
/-- FLEET_CFG.LEAD_OK, bits [12:12], LCK. -/
abbrev FLEET_CFG_LEAD_OK : Fld := ⟨.FLEET_CFG, 12, 1⟩
/-- FLEET_CFG.RELAY_OUT, bits [11:11], LCK. -/
abbrev FLEET_CFG_RELAY_OUT : Fld := ⟨.FLEET_CFG, 11, 1⟩
/-- FLEET_CFG.STATE_S, bits [7:0], LCK. -/
abbrev FLEET_CFG_STATE_S : Fld := ⟨.FLEET_CFG, 0, 8⟩
/-- FLEET_TOL.ACROSS_TOL, bits [31:16], LCK. -/
abbrev FLEET_TOL_ACROSS_TOL : Fld := ⟨.FLEET_TOL, 16, 16⟩
/-- FLEET_TOL.ALONG_TOL, bits [15:0], LCK. -/
abbrev FLEET_TOL_ALONG_TOL : Fld := ⟨.FLEET_TOL, 0, 16⟩
/-- FLEET_UNLOAD.UNLOAD_RATE, bits [31:16], LCK. -/
abbrev FLEET_UNLOAD_UNLOAD_RATE : Fld := ⟨.FLEET_UNLOAD, 16, 16⟩
/-- FLEET_UNLOAD.UNLOAD_DEG, bits [15:0], LCK. -/
abbrev FLEET_UNLOAD_UNLOAD_DEG : Fld := ⟨.FLEET_UNLOAD, 0, 16⟩
/-- FLEET_ROLE.REQ, bits [11:10], WO. -/
abbrev FLEET_ROLE_REQ : Fld := ⟨.FLEET_ROLE, 10, 2⟩
/-- FLEET_ROLE.ROLE, bits [9:8], RO. -/
abbrev FLEET_ROLE_ROLE : Fld := ⟨.FLEET_ROLE, 8, 2⟩
/-- FLEET_ROLE.COLLIDED, bits [3:3], W1C. -/
abbrev FLEET_ROLE_COLLIDED : Fld := ⟨.FLEET_ROLE, 3, 1⟩
/-- FLEET_ROLE.REFUSED, bits [2:2], W1C. -/
abbrev FLEET_ROLE_REFUSED : Fld := ⟨.FLEET_ROLE, 2, 1⟩
/-- FLEET_ROLE.GRANTED, bits [1:1], W1C. -/
abbrev FLEET_ROLE_GRANTED : Fld := ⟨.FLEET_ROLE, 1, 1⟩
/-- FLEET_ROLE.PEND, bits [0:0], RO. -/
abbrev FLEET_ROLE_PEND : Fld := ⟨.FLEET_ROLE, 0, 1⟩
/-- FLEET_PEER.PEER, bits [31:0], RW. -/
abbrev FLEET_PEER_PEER : Fld := ⟨.FLEET_PEER, 0, 32⟩
/-- FLEET_STATUS.STATE, bits [1:0], RO. -/
abbrev FLEET_STATUS_STATE : Fld := ⟨.FLEET_STATUS, 0, 2⟩
/-- FLEET_CNT.DISCARD, bits [31:16], RO. -/
abbrev FLEET_CNT_DISCARD : Fld := ⟨.FLEET_CNT, 16, 16⟩
/-- FLEET_CNT.SENT, bits [15:0], RO. -/
abbrev FLEET_CNT_SENT : Fld := ⟨.FLEET_CNT, 0, 16⟩
/-- DBG_STATUS.PIN, bits [4:4], RO. -/
abbrev DBG_STATUS_PIN : Fld := ⟨.DBG_STATUS, 4, 1⟩
/-- DBG_STATUS.HOLD_STRAP, bits [3:3], RO. -/
abbrev DBG_STATUS_HOLD_STRAP : Fld := ⟨.DBG_STATUS, 3, 1⟩
/-- DBG_STATUS.CAUSE, bits [2:1], RO. -/
abbrev DBG_STATUS_CAUSE : Fld := ⟨.DBG_STATUS, 1, 2⟩
/-- DBG_STATUS.FROZEN, bits [0:0], RO. -/
abbrev DBG_STATUS_FROZEN : Fld := ⟨.DBG_STATUS, 0, 1⟩
/-- DBG_FRZ_ID.ORIGIN, bits [24:16], RO. -/
abbrev DBG_FRZ_ID_ORIGIN : Fld := ⟨.DBG_FRZ_ID, 16, 9⟩
/-- DBG_FRZ_ID.ID, bits [15:0], RO. -/
abbrev DBG_FRZ_ID_ID : Fld := ⟨.DBG_FRZ_ID, 0, 16⟩
/-- DBG_FRZ_T_LO.TIME, bits [31:0], RO. -/
abbrev DBG_FRZ_T_LO_TIME : Fld := ⟨.DBG_FRZ_T_LO, 0, 32⟩
/-- DBG_FRZ_T_HI.TIME, bits [31:0], RO. -/
abbrev DBG_FRZ_T_HI_TIME : Fld := ⟨.DBG_FRZ_T_HI, 0, 32⟩
/-- DBG_CTRL.RESTART, bits [1:1], WO. -/
abbrev DBG_CTRL_RESTART : Fld := ⟨.DBG_CTRL, 1, 1⟩
/-- DBG_CTRL.FREEZE, bits [0:0], WO. -/
abbrev DBG_CTRL_FREEZE : Fld := ⟨.DBG_CTRL, 0, 1⟩
/-- DBG_CTX_SEL.TASK, bits [18:7], RW. -/
abbrev DBG_CTX_SEL_TASK : Fld := ⟨.DBG_CTX_SEL, 7, 12⟩
/-- DBG_CTX_SEL.INDEX, bits [6:0], RW. -/
abbrev DBG_CTX_SEL_INDEX : Fld := ⟨.DBG_CTX_SEL, 0, 7⟩
/-- DBG_CTX_DATA.DATA, bits [31:0], RO. -/
abbrev DBG_CTX_DATA_DATA : Fld := ⟨.DBG_CTX_DATA, 0, 32⟩

end Sys2Proof.Machine.F
end

