-- ==== Sys2Proof/Machine/StateBase.lean ====
section
/-!
DEFINITION. The state of the module as a whole: its phase, the fault record and its queues, the journal, accesses on
the way and their results (spec chapters 01, 15, 16, 17, 19).
-/

namespace Sys2Proof.Machine

/-- Where the module stands between supply, reset and CONFIG_DONE (R368, R386, R397, R398, R413). -/
inductive Phase where
  /-- The supply is below 3.0 V (R368). -/
  | off
  /-- The supply is 3.0 V or more and has not been NORMAL since it was lost: AON has power, the compute side is in reset (R14,
  R368). -/
  | rising
  /-- Reset is released and the boot procedure has not committed (R397). -/
  | released
  /-- CONFIG_DONE is 1 (R400). -/
  | running
  /-- A failed start holds the compute side in reset (R398). -/
  | failedHold
  /-- A thermal shutdown holds the compute side in reset (R386). -/
  | thermalHold
  /-- Recovery mode (R413). -/
  | chrysalis
deriving DecidableEq, Repr

/-- The 128-bit fault record (R24), field by field. -/
structure FaultRec where
  time   : BitVec 48
  node   : BitVec 9
  source : BitVec 10
  count  : BitVec 13
  cls    : BitVec 8
  detail : BitVec 8
  data   : BitVec 32
deriving DecidableEq, Repr

/-- The record as its 128 bits (R24). -/
def FaultRec.bits (r : FaultRec) : BitVec 128 :=
  r.time ++ r.node ++ r.source ++ r.count ++ r.cls ++ r.detail ++ r.data

/-- Read or write. -/
inductive AccOp where
  | read
  | write
deriving DecidableEq, Repr

/-- Who waits for the result of an access. -/
inductive Requester where
  /-- An access of a bus master given by the environment, with a number to tell its result by. -/
  | master (tag : Nat)
  /-- Global load number `n` of task `t` (R114). -/
  | gld (t n : Nat)
  /-- Global store number `n` of task `t` (R114). -/
  | gst (t n : Nat)
  /-- A committed output of task `t`, entry `e` (R65, R117). -/
  | out (t e : Nat)
  /-- The HPC's write of function `f` (R125). -/
  | hpc (f : Nat)
  /-- A request of another node, from port `p` (R315). -/
  | remote (p src smaster tag : Nat)
  /-- A delivery of a STREAM packet (R317). -/
  | stream (e : Nat)
  /-- Packet `n` of transfer descriptor `x` (R318). -/
  | transfer (x n : Nat)
  /-- A debug access (R448). -/
  | debug
  /-- A unit that takes no result. -/
  | unit
deriving DecidableEq, Repr

/-- One access (R6, R18, R20): requester, operation, local address, width in bits, write data and the LECLK edge on
which it arrives. -/
structure Access where
  who   : Requester
  mid   : Nat
  op    : AccOp
  addr  : Nat
  width : Nat
  data  : BitVec 128
  edge  : Nat
deriving DecidableEq, Repr

/-- How an access ended. -/
inductive AccStatus where
  | ok
  /-- Refused (R359, R360). -/
  | deny
  /-- A remote request answered with another STATUS (R306). -/
  | nak (status : Nat)
deriving DecidableEq, Repr

/-- The result of an access, waiting for the row that takes it. -/
structure Completion where
  who    : Requester
  op     : AccOp
  status : AccStatus
  data   : BitVec 128
deriving DecidableEq, Repr

/-- A remote request that has not left yet: destination and global request (R18, R313, R314). -/
structure RemoteReq where
  who   : Requester
  mid   : Nat
  op    : AccOp
  node  : Nat
  addr  : Nat
  width : Nat
  data  : BitVec 128
deriving DecidableEq, Repr

/-- Accesses on the way (R19, R361). -/
structure BusSt where
  /-- Admitted accesses that no target has accepted yet. -/
  waiting  : List Access
  /-- Results not taken yet. -/
  results  : List Completion
  /-- One above the LECLK edge of each target's last acceptance (0: none). -/
  lastEdge : NMap Nat
  /-- Requests for other nodes that wait for a tag (R314). -/
  remote   : List RemoteReq
  /-- Packets that originate at this node and have not left yet (R304, R305). -/
  egress   : List Packet
deriving DecidableEq, Repr

/-- One entry of a journal region, as its bytes (R394). -/
abbrev JEntry := List Byte

/-- A journal page that has been written, or the pages of one map tile, which are valid only together: sequence number of
the first page, how many pages, the set SEQ under which they were written, the numbers of those whose CRC fails, whether that set is
BAD, and the entries (R394, R410). -/
structure JPage where
  num     : Nat
  count   : Nat
  setSeq  : Nat
  torn    : List Nat
  void    : Bool
  entries : List JEntry
deriving DecidableEq, Repr

/-- A journal region: how many pages it holds, its pages, oldest first, and the entries waiting in the AON page buffer
with the TB1 value of the first of them (R394). -/
structure JRegion where
  cap    : Nat
  pages  : List JPage
  buf    : List JEntry
  bufAt  : Option Nat
  next   : Nat
deriving DecidableEq, Repr

/-- An empty journal region of `cap` pages. -/
def JRegion.empty (cap : Nat) : JRegion := ⟨cap, [], [], none, 0⟩

/-- The journal of the config store (R393). -/
structure Journal where
  ledger : JRegion
  faults : JRegion
  tiles  : JRegion
  fields : JRegion
  checks : JRegion
deriving DecidableEq, Repr

/-- The module as a whole. -/
structure ModSt where
  phase    : Phase
  /-- Raised before CONFIG_DONE or by a shutdown, held in AON until a start commits (R386, R416). -/
  heldRecs : List FaultRec
  /-- Raised and not sent to the conductor yet (R26, R332, R370). -/
  vc3      : List FaultRec
  /-- Level of FREEZE_N, RECOVER_N and the FREEZE_HOLD strap (R445, R413, R447): true is high. -/
  freezeN  : Bool
  recoverN : Bool
  holdStrap : Bool
  /-- The supply at J1 in mV, as last told, and the lowest since CRANK_HOLD was entered (R368, R373). -/
  vbat     : Nat
  vbatLow  : Nat
deriving DecidableEq, Repr

end Sys2Proof.Machine
end

