-- ==== Sys2Proof/Machine/StateBoot.lean ====
section
/-!
DEFINITION. The config store, the boot record, staging, Chrysalis and the test access ports (spec chapters 17 and 19).
-/

namespace Sys2Proof.Machine

/-- What the boot record holds of a set (R396): its SEQ, STATE (0 EMPTY, 1 STAGED, 2 TRIAL, 3 GOOD, 4 BAD) and TRIAL_N. -/
structure SetRec where
  seq    : Nat
  state  : Nat
  trialN : Nat
deriving DecidableEq, Repr

/-- A boot record (R396). -/
structure BootRec where
  fails   : Nat
  a       : SetRec
  b       : SetRec
  counter : Nat
deriving DecidableEq, Repr

/-- A boot record with no usable set. -/
def BootRec.zero : BootRec := ⟨0, ⟨0, 0, 0⟩, ⟨0, 0, 0⟩, 0⟩

/-- A set in the store (R393): the manifest (header, entries and signature block) and the part of each entry. The
configuration part stands in the config slot, everything else in the image slot. -/
structure StoreSet where
  manifest : List Byte
  parts    : List (List Byte)
deriving DecidableEq, Repr

/-- An empty set. -/
def StoreSet.zero : StoreSet := ⟨[], []⟩

/-- What an instruction of a TAP does (R442). -/
inductive TapIr where
  | bypass
  | idcode
  | samplePreload
  | extest
  | clamp
  | highz
  | extestPulse
  | extestTrain
  | dbgAccess
deriving DecidableEq, Repr

/-- The debug access port and the TAPs. -/
structure DbgSt where
  /-- The opcode in the instruction register of each TAP, GV512 at 0 (R441, R442), and what its boundary register drives. -/
  ir       : NMap Nat
  boundary : NMap (List Bool)
  /-- What the last scan left in the data register of each TAP, nearest to TDO first, and what it shifted out on TDO, first bit first
  (R441 to R443, R448); between scans TDO is high impedance (R434). -/
  dr       : NMap (List Bool)
  tdo      : List Bool
  /-- The previous debug access: its read data and DENY (R448). -/
  data     : Word
  deny     : Bool
  /-- The freeze ID of this node, held in AON, and the pairs seen since the last full start (R445). -/
  freezeId : Nat
  seen     : List (Nat × Nat)
  /-- While frozen: the registers as held at the freeze, and as the readout path has left them since (R449). -/
  held     : Option (SMap (RegName × Nat) Word)
deriving DecidableEq, Repr

/-- The debug access port at reset. -/
def DbgSt.reset : DbgSt := ⟨[], [], [], [], 0, false, 0, [], none⟩

/-- A tool bound in Chrysalis (R415): its address, TB1 of its last datagram, SEQ and reply of the last answered one. -/
structure Tool where
  addr  : BitVec 128
  port  : Nat
  at_   : Nat
  last  : Option (BitVec 32 × List Byte)
deriving DecidableEq, Repr

/-- Start, configuration and update beyond their registers. -/
structure BootSt where
  /-- The two copies of the boot record; none where its CRC fails (R396). -/
  copy0   : Option BootRec
  copy1   : Option BootRec
  setA    : StoreSet
  setB    : StoreSet
  /-- The package that staging verifies and writes (R406). -/
  staging : List Byte
  /-- Address and length of the package, as STAGE hands it over (R406). -/
  pkgAt   : Nat
  pkgLen  : Nat
  /-- TB1 when a failed start began its hold (R398). -/
  heldAt  : Nat
  tool    : Option Tool
  /-- The package length of BEGIN and the bytes received so far (R414). -/
  want    : Option Nat
  got     : List Byte
  /-- A COMMIT runs, for the datagram of this SEQ; a RESTART waits for RECOVER_N (R414). -/
  commit  : Option (BitVec 32)
  restart : Bool
  /-- The companions and the baseband are loaded in this start (R397). -/
  loaded  : Bool
deriving DecidableEq, Repr

/-- A module with an empty store. -/
def BootSt.reset : BootSt :=
  { copy0 := none, copy1 := none, setA := .zero, setB := .zero, staging := [], pkgAt := 0, pkgLen := 0, heldAt := 0, tool := none,
    want := none, got := [], commit := none, restart := false, loaded := false }

end Sys2Proof.Machine
end

