-- ==== Sys2Proof/Machine/StateCam.lean ====
section
/-!
DEFINITION. The state of the camera pipelines beyond their registers (spec chapter 09).
-/

namespace Sys2Proof.Machine

/-- The marks of a frame record (R224). -/
structure Marks where
  discarded : Bool
  crc       : Bool
  ecc       : Bool
  lineCount : Bool
  lineLen   : Bool
  deny      : Bool
  overflow  : Bool
  noTrig    : Bool
deriving DecidableEq, Repr

/-- An open frame of a stream (R221 to R225). -/
structure Frame where
  addr  : Nat
  /-- Lines received and lines written. -/
  seen  : Nat
  lines : Nat
  marks : Marks
  pset  : Nat
  fnum  : Nat
  fcnt  : Nat
  eccN  : Nat
  crcN  : Nat
  tFs   : Nat
  tTrig : Nat
deriving DecidableEq, Repr

/-- A stream beyond its registers. -/
structure StreamSt where
  /-- The pending and the late address (R221). -/
  pend  : Option Nat
  late  : Option Nat
  frame : Option Frame
  /-- A check episode is in progress (R226). -/
  marked : Bool
  /-- TB1 of the last Frame Start, or of the enabling; NO_START has been raised since (R227). -/
  lastFs : Nat
  noStart : Bool
deriving DecidableEq, Repr

/-- A stream at reset. -/
def StreamSt.zero : StreamSt := ⟨none, none, none, false, 0, false⟩

/-- A parameter set (R217, R218): its sequence number, BLACK0 to BLACK3, GAIN0 to GAIN3 and DPC_THRESH. -/
structure ParamSet where
  seq   : Nat
  black : List Nat
  gain  : List Nat
  dpc   : Nat
deriving DecidableEq, Repr

/-- The reset set (PS registers' reset values). -/
def ParamSet.zero : ParamSet := ⟨0, [0, 0, 0, 0], [0x1000, 0x1000, 0x1000, 0x1000], 0⟩

/-- A capture of an exposure trigger: TB1 of the firing tick and the captured timebase (R223). -/
structure Capture where
  at_   : Nat
  value : Nat
deriving DecidableEq, Repr

/-- A pipeline beyond its registers. -/
structure PipeSt where
  streams : NMap StreamSt
  /-- Primary Frame Starts taken since the full start. -/
  frames : Nat
  set    : ParamSet
  /-- Queued sets with the primary frame to which each applies (R218). -/
  queue  : List (Nat × ParamSet)
  nextSeq : Nat
  capture : Option Capture
  /-- CAM_TRIGp is asserted since TB1 (R223). -/
  pulse  : Option Nat
  /-- The I2C transfer in progress: READ, LEN, ADDR7 and the bytes sent (R229). -/
  cci    : Option (Bool × Nat × Nat × List Byte)
  /-- No frame is open any more, and the pipeline is DISABLED once its writes are done (R228). -/
  ending : Bool
deriving DecidableEq, Repr

/-- A pipeline at reset. -/
def PipeSt.zero : PipeSt := ⟨[], 0, ParamSet.zero, [], 1, none, none, none, false⟩

end Sys2Proof.Machine
end

