-- ==== Sys2Proof/Machine/Geometry.lean ====
section
/-!
DEFINITION. The geometry of the projection unit and of the path arc (R237, R238, R241 to R243, R251): exact but for the sines, which
are good to 2^-38. Lengths are in mm.
Readings and choices: logs 25, 51 of notes/assumptions.
-/

namespace Sys2Proof.Machine

/-! ## Vectors and poses -/

/-- A vector; in the machine frame x points forward, y to the left, z up (R231). -/
structure Vec where
  x : Rat
  y : Rat
  z : Rat
deriving DecidableEq, Repr

/-- The sum of two vectors, and a multiple of one. -/
def Vec.add (v w : Vec) : Vec := ⟨v.x + w.x, v.y + w.y, v.z + w.z⟩
def Vec.scale (k : Rat) (v : Vec) : Vec := ⟨k * v.x, k * v.y, k * v.z⟩

/-- The square of a vector's length. -/
def Vec.sq (v : Vec) : Rat := v.x * v.x + v.y * v.y + v.z * v.z

/-- Two numbers as a vector of a plane, turned by an angle in µrad. -/
def turn (a : Int) (x y : Rat) : Rat × Rat :=
  let c : Rat := (cos40 (micro40 a) : Rat) / 2 ^ 40
  let s : Rat := (sin40 (micro40 a) : Rat) / 2 ^ 40
  (c * x - s * y, s * x + c * y)

/-- A vector of the machine frame at attitude `p` in the odometry frame: roll, then pitch, then yaw, each about its axis in the
right-handed sense (log 51). -/
def level (p : Pose) (v : Vec) : Vec :=
  let r := turn p.roll v.y v.z
  let q := turn p.pitch r.2 v.x
  let w := turn p.yaw q.2 r.1
  ⟨w.1, w.2, q.1⟩

/-- A vector of the odometry frame in the machine frame at attitude `p`. -/
def unlevel (p : Pose) (v : Vec) : Vec :=
  let w := turn (-p.yaw) v.x v.y
  let q := turn (-p.pitch) v.z w.1
  let r := turn (-p.roll) w.2 q.1
  ⟨q.2, r.1, r.2⟩

/-- Where the machine frame of a pose begins in the odometry frame. -/
def poseOrigin (p : Pose) : Vec := ⟨p.x, p.y, p.z⟩

/-- The pose has the place and the attitude of another. -/
def samePose (p q : Pose) : Bool := { p with at_ := 0, yawRate := 0 } == { q with at_ := 0, yawRate := 0 }

/-- A point of the machine frame at pose `p` in the machine frame at pose `q`. -/
def reframe (p q : Pose) (v : Vec) : Vec :=
  if samePose p q then v else unlevel q (((level p v).add (poseOrigin p)).add ((poseOrigin q).scale (-1)))

/-- A direction of the machine frame at pose `p` in the machine frame at pose `q`. -/
def redirect (p q : Pose) (v : Vec) : Vec := if samePose p q then v else unlevel q (level p v)

/-- A yaw between −π and π, µrad (R233). -/
def wrapMicro (a : Int) : Int := (wrap40 (micro40 a) * 1000000 + 2 ^ 39) / 2 ^ 40

/-- A value between two, at `t` between `t0` and `t1`. -/
def between (t0 t1 t : Nat) (v0 v1 : Int) : Int :=
  if t1 ≤ t0 then v1 else v0 + (v1 - v0) * ((t - t0 : Nat) : Int) / ((t1 - t0 : Nat) : Int)

/-- The pose at `t` by linear interpolation between the poses on either side, the yaw by the shorter way (R237): none where `t` is
older than the oldest. Newest first. -/
def poseAt (t : Nat) : List Pose → Option Pose
  | [] => none
  | [p] => if p.at_ ≤ t then some p else none
  | p :: q :: l =>
    if p.at_ ≤ t then some p
    else if q.at_ ≤ t then
      let g := fun (f : Pose → Int) => between q.at_ p.at_ t (f q) (f p)
      let yaw := wrapMicro (between q.at_ p.at_ t q.yaw (q.yaw + wrapMicro (p.yaw - q.yaw)))
      some ⟨t, g (·.x), g (·.y), g (·.z), g (·.roll), g (·.pitch), yaw, g (·.yawRate)⟩
    else poseAt t (q :: l)

/-! ## Cameras (R241 to R243) -/

/-- A calibration block (R241): rotation by rows, translation, focal lengths and principal point in px, radial distortion. -/
structure Calib where
  rot : List Rat
  pos : Vec
  fx  : Rat
  fy  : Rat
  cx  : Rat
  cy  : Rat
  k1  : Rat
  k2  : Rat
  k3  : Rat
deriving DecidableEq, Repr

/-- R_s × v. -/
def Calib.turn (c : Calib) (v : Vec) : Vec :=
  let row := fun (k : Nat) => c.rot.getD (3 * k) 0 * v.x + c.rot.getD (3 * k + 1) 0 * v.y + c.rot.getD (3 * k + 2) 0 * v.z
  ⟨row 0, row 1, row 2⟩

/-- The transpose of R_s times v: R_s is a rotation (R241). -/
def Calib.unturn (c : Calib) (v : Vec) : Vec :=
  let col := fun (k : Nat) => c.rot.getD k 0 * v.x + c.rot.getD (3 + k) 0 * v.y + c.rot.getD (6 + k) 0 * v.z
  ⟨col 0, col 1, col 2⟩

/-- The factor of the radial distortion at the square `r2` of a radius. -/
def Calib.distort (c : Calib) (r2 : Rat) : Rat := 1 + r2 * (c.k1 + r2 * (c.k2 + r2 * c.k3))

/-- The factor, in 2^-30 and below 4, by which a distorted radius whose square is `r2` is to be multiplied: bit by bit, the greatest
whose distorted radius is not above it. -/
def Calib.undistort (c : Calib) (r2 : Rat) : Nat → Nat → Nat
  | 0, n => n
  | k + 1, n =>
    let m := n + 2 ^ k
    let f : Rat := (m : Rat) / 2 ^ 30
    c.undistort r2 k (if f * c.distort (f * f * r2) ≤ 1 then m else n)

/-- The ray of a pixel in the camera frame, z along the optical axis (R242). -/
def Calib.ray (c : Calib) (u v : Nat) : Vec :=
  let x := (u - c.cx) / c.fx
  let y := (v - c.cy) / c.fy
  let f : Rat :=
    if c.k1 = 0 ∧ c.k2 = 0 ∧ c.k3 = 0 then 1 else (c.undistort (x * x + y * y) 32 0 : Rat) / 2 ^ 30
  ⟨f * x, f * y, 1⟩

/-- The pixel at 1/8 resolution, column and row, on which a point of the machine frame falls, and its distance from the camera in mm
(R243, log 51): none behind the camera or left of or above its image. -/
def Calib.pixel (c : Calib) (p : Vec) : Option (Nat × Nat × Nat) :=
  let q := c.unturn (p.add (c.pos.scale (-1)))
  if q.z ≤ 0 then none
  else
    let x := q.x / q.z
    let y := q.y / q.z
    let f := c.distort (x * x + y * y)
    let u := ((c.fx * f * x + c.cx) / 8).floor
    let v := ((c.fy * f * y + c.cy) / 8).floor
    if u < 0 ∨ v < 0 then none else some (u.toNat, v.toNat, isqrt q.sq.floor.toNat)

/-! ## The path arc (R251) -/

/-- The greatest angle of `k` bits above `a`, up to half a turn, from which the direction (x, y), y not negative, still lies to the
left. -/
def atanFrom (x y : Int) : Nat → Int → Int
  | 0, a => a
  | k + 1, a =>
    let a' := a + 2 ^ k
    atanFrom x y k (if a' ≤ turn40 / 2 ∧ 0 ≤ cos40 a' * y - sin40 a' * x then a' else a)

/-- The angle of the direction (x, y), in 2^-40 rad. -/
def atan40 (x y : Int) : Int := if y < 0 then -(atanFrom x (-y) 42 0) else atanFrom x y 42 0

/-- Arc distance and lateral offset, µm, of the point (x, y) mm from an arc that starts at the origin along x with the curvature
yaw rate / speed, in µrad/s and mm/s. -/
def arcCoords (yawRate : Int) (speed : Nat) (x y : Int) : Int × Int :=
  let r : Int := (speed : Int) * 1000000000 / yawRate.natAbs
  let px := 1000 * x
  let py := r - 1000 * (if yawRate < 0 then -y else y)
  (r * atan40 py px / 2 ^ 40, r - isqrt (px * px + py * py).toNat)

end Sys2Proof.Machine
end

