-- ==== Sys2Proof/Machine/StateFus.lean ====
section
/-!
DEFINITION. The state of the fusion array beyond its registers (spec chapter 10).
-/

namespace Sys2Proof.Machine

/-- A grid cell (R232): its confidence and its features, channel and int8 value, channels not listed at 0. -/
structure Cell where
  conf : Nat
  feat : NMap Int
deriving DecidableEq, Repr

/-- An empty cell. -/
def Cell.zero : Cell := ⟨0, []⟩

/-- What an observation places (R239, R242): a point in the machine frame at its own time, in mm, or a cell. -/
inductive Spot where
  | point (v : Vec)
  | cell (r c : Nat)
deriving DecidableEq, Repr

/-- An observation that waits for an epoch (R238, R239): sensor, TB1 of the observation, place and channel values. -/
structure GridObs where
  sensor : Nat
  at_    : Nat
  spot   : Spot
  vals   : List (Nat × Int)
deriving DecidableEq, Repr

/-- What an input of a sensor is worth to its masking (R247). -/
inductive InputKind where
  | good
  | marked
  | missing
deriving DecidableEq, Repr

/-- An input of a camera or range sensor that waits for the epoch that uses it or finds it stale (R237, R247): sensor, TB1 of the
observation and of its arrival. -/
structure FusInput where
  sensor : Nat
  at_    : Nat
  inAt   : Nat
  kind   : InputKind
deriving DecidableEq, Repr

/-- A sensor of the grid node (R247, R248). -/
structure SensorSt where
  /-- TB1 of the last accepted input. -/
  lastIn  : Nat
  /-- Consecutive primary frames marked, missing or stale. -/
  bad     : Nat
  /-- The most of them in a row among the inputs that the last epoch took. -/
  badMax  : Nat
  /-- Consecutive verdicts above CONS_LIM, and the last verdict in mm. -/
  excess    : Nat
  verdict : Nat
  /-- Consecutive epochs with valid input and no verdict above CONS_LIM. -/
  good    : Nat
  /-- Input accepted since the last epoch. -/
  fed     : Bool
  /-- DROP_MS have passed without input (R247). -/
  silent  : Bool
deriving DecidableEq, Repr

/-- A sensor at reset. -/
def SensorSt.zero : SensorSt := ⟨0, 0, 0, 0, 0, 0, false, false⟩

/-- A model slot (R245): the image of each weight area, a copy in progress, and a checked load that waits for an epoch. -/
structure ModelSt where
  area0  : List Byte
  area1  : List Byte
  copy   : Option Nat
  ready  : Bool
deriving DecidableEq, Repr

/-- A model slot at reset. -/
def ModelSt.zero : ModelSt := ⟨[], [], none, false⟩

/-- A DONE primary frame that a model slot may take (R244). -/
structure ReadyFrame where
  pipe   : Nat
  addr   : Nat
  fcnt   : Nat
  tFs    : Nat
  marked : Bool
  /-- Slots that have taken it, and slots for which a forced write dropped it (R380). -/
  taken  : List Nat
  dropped : List Nat
deriving DecidableEq, Repr

/-- The fusion array beyond its registers. -/
structure FusSt where
  /-- The last epoch begun or abandoned, the one in progress when the array began to drain, and TB1 of the newest published one
(R234, R238, R250). -/
  epoch  : Nat
  last   : Nat
  pubAt  : Nat
  /-- A grid has been published since the full start, and TB3 at the tick that reached the last T_EPOCH (R233). -/
  published : Bool
  tb3At  : Nat
  /-- The last published grid, by 512 r + c, and the pose at its epoch. -/
  grid   : NMap Cell
  gridPose : Pose
  /-- The last 4096 poses, newest first (R237). -/
  poses  : List Pose
  obs    : List GridObs
  inputs : List FusInput
  /-- EGO_OK as step 2 of an epoch reads it: a mask that step 6 decides counts from step 4 of the next epoch (R238). -/
  ego    : Bool
  sensors : NMap SensorSt
  models : NMap ModelSt
  /-- The last DONE primary frame of each pipeline. -/
  frames : List ReadyFrame
  /-- Last SEQ of each range sensor's packets (R246). -/
  rsSeq  : NMap (Option Nat)
  /-- The depth image that each range sensor with PROJ_EN forms, range in mm by 65 536 row + column, and the one that was complete
when the camera's last frame was taken (R243). -/
  depth  : NMap (NMap Nat)
  shown  : NMap (NMap Nat)
deriving DecidableEq, Repr

/-- The fusion array at reset. -/
def FusSt.reset : FusSt := ⟨0, 0, 0, false, 0, [], Pose.zero, [], [], [], false, [], [], [], [], [], []⟩

end Sys2Proof.Machine
end

