-- ==== Sys2Proof/Machine/StateGnss.lean ====
section
/-!
DEFINITION. The state of the GNSS baseband and its firmware beyond their registers (spec chapter 11).
-/

namespace Sys2Proof.Machine

/-- A tracking channel (R257 to R262): the values of the code oscillator (2^-32 chip) and of the carrier oscillator (0.01 Hz) that
its task has written, and those that wait for the next dump boundary; the frequency at which the carrier oscillator runs, the aided
Doppler with it; TB1 when it entered its state. -/
structure ChanSt where
  /-- The channel has an antenna, a signal and a satellite (R257). -/
  assigned : Bool
  code    : Nat
  carrier : Int
  next    : Option (Nat × Int)
  rate    : Int
  since   : Nat
  /-- TB1 of the last entry to TRACK without slip (CH_LOCK). -/
  lockAt  : Nat
  /-- The channel stops at its next dump boundary (R281). -/
  stop    : Bool
  /-- The taps of the last dump, tap −3 first: code offset in 1/32 chip, I and Q (R258); TB1 of it. -/
  dump    : List (Int × Int × Int)
  dumpAt  : Option Nat
  /-- TB1 of the deadline that the tracking task misses, until the record is raised (R259). -/
  missAt  : Option Nat
  /-- TB1 of the first of the last dumps that all stood below CN0_LOSS, and of those that all stood at CN0_LOSS + 3 dB-Hz or above
(R260). -/
  lowAt   : Option Nat
  highAt  : Option Nat
  /-- Inertial uncertainties at the start of the coast, mm/s and mm/s² (R261). -/
  sigV    : Nat
  sigA    : Nat
  /-- The solver has to treat the ambiguity as new (R261, R271). -/
  newAmb  : Bool
deriving DecidableEq, Repr

/-- A channel that has never been assigned. -/
def ChanSt.zero : ChanSt := ⟨false, 0, 0, none, 0, 0, 0, false, [], none, none, none, none, 0, 0, false⟩

/-- A band of an antenna (R263, R264): consecutive evaluations with and without a jamming condition; an episode of a ninth
line; since when each notch's line has stood low; TB1 of the last spectrum and of the last evaluation. -/
structure BandSt where
  jamN   : Nat
  clearN : Nat
  full   : Bool
  low    : NMap (Option Nat)
  scanAt : Option Nat
  evalAt : Option Nat
deriving DecidableEq, Repr

/-- A band at reset. -/
def BandSt.zero : BandSt := ⟨0, 0, false, [], none, none⟩

/-- The GNSS baseband and its firmware beyond their registers. -/
structure GnssSt where
  chans  : NMap ChanSt
  bands  : NMap BandSt
  /-- The latest navigation record, 16 words (R266), the solution counter, and TB1 of the last measurement epoch. -/
  nav    : List Word
  seq    : Nat
  solAt  : Option Nat
  /-- The satellites, by system and number, whose ephemeris is held (R262, R281). -/
  eph    : List (Nat × Nat)
  /-- TB1 of the last solution with at least 4 satellites (R267), and of the last accepted baseline (R268). -/
  fixAt  : Option Nat
  headAt : Option Nat
  /-- Corrections (R270, R271): the frames of the open epoch with TB1 of the first; TB1 of the newest corrections in use;
  frames held for a station position with TB1 of their arrival; stations whose position is known. -/
  epoch  : List (List Byte)
  epochAt : Option Nat
  corrAt : Option Nat
  held   : List (Nat × Nat × List Byte)
  stations : NMap (Option (List Byte))
  /-- The last frame accepted ends its correction epoch; the reference station has changed since the last solution (R271). -/
  final  : Bool
  refix  : Bool
  /-- TB1 of the first of the last solutions that all measured TB0, none being lost since (R273). -/
  timeAt : Option Nat
  /-- TB1 of the entry to LOCKED and to HOLDOVER (R273, R274). -/
  lockAt : Nat
  holdAt : Nat
  /-- Nanoseconds LOCKED before the last entry to HOLDOVER (R276, R278). -/
  lockNs : Nat
  /-- PPS_OUT is released (R277); the second of the last pulse. -/
  pps    : Bool
  ppsSec : Nat
  /-- The output epoch of the last NMEA datagram (R279). -/
  nmea   : Nat
deriving DecidableEq, Repr

/-- The GNSS baseband at reset. -/
def GnssSt.reset : GnssSt :=
  { chans := [], bands := [], nav := List.replicate 16 0, seq := 0, solAt := none, eph := [], fixAt := none, headAt := none, epoch := [],
    epochAt := none, corrAt := none, held := [], stations := [], final := false, refix := false, timeAt := none, lockAt := 0, holdAt := 0, lockNs := 0, pps := true,
    ppsSec := 0, nmea := 0 }

end Sys2Proof.Machine
end

