-- ==== Sys2Proof/Machine/StateHpc.lean ====
section
/-!
DEFINITION. The state of the Harvest Process Controller beyond its registers (spec chapter 05).
-/

namespace Sys2Proof.Machine

/-- Where a function with DIRECT stands (R132). -/
inductive DirectPhase where
  /-- Not in DIRECT MANUAL. -/
  | off
  /-- MANUAL was entered when FN_OPCMD held `entry`; the write of TASK_CTRL.MAN = 1 has not issued yet. -/
  | entering (entry : Word)
  /-- In DIRECT MANUAL since FN_OPCMD held `entry`; `moved` from the first round in which it differs. -/
  | manual (entry : Word) (moved : Bool)
  /-- Left, with the feedback written as the target; the write of TASK_CTRL.MAN = 0 has not issued yet. -/
  | leaving
deriving DecidableEq, Repr

/-- A harvest function beyond its registers. -/
structure FnSt where
  /-- FN_MODE.REQ has been written since the last round (R130). -/
  req    : Bool
  /-- FN_OPCMD at the previous round (R133). -/
  cmd    : Word
  direct : DirectPhase
  /-- MAN_VALUE last written (R132, R146), and the command from which an interlock tests the next one: the last that was written
  and not refused, FN_OPCMD at entry before that (log 64). -/
  man    : Option Word
  passed : Word
  /-- TB1 of the last step of a function that moves step by step (R128). -/
  stepAt : Option Nat
  /-- DETAILs whose interlock episode is open (R146). -/
  ilk    : List Nat
  /-- The optimiser's proposal (R141), and the value from which exploration steps. -/
  prop   : Option Int
  base   : Int
deriving DecidableEq, Repr

/-- A function at reset. -/
def FnSt.zero : FnSt := ⟨false, 0, .off, none, 0, none, [], none, 0⟩

/-- The response surface of one crop and one value of HF16 (R139): the 66 coefficients of L, T and Q as the module holds them,
and the gain of the recursive fit. -/
structure Surface where
  loss : List (BitVec 64)
  thr  : List (BitVec 64)
  qual : List (BitVec 64)
  gain : List (List (BitVec 64))
deriving DecidableEq, Repr

/-- What an HPC write changes in the HPC once it issues (R125, R127). -/
inductive HpcEffect where
  /-- A target becomes the previous target; `step` where a function that moves step by step has made a step. -/
  | target (v : Int) (step : Bool)
  /-- TASK_CTRL.MAN is 1: DIRECT MANUAL holds. -/
  | entered (cmd : Word)
  /-- MAN_VALUE is written: refused commands leave the value from which the next is tested. -/
  | manValue (refused : Bool)
  /-- The feedback has become the target: DIRECT MANUAL is being left. -/
  | left (v : Int)
  /-- TASK_CTRL.MAN is 0. -/
  | released
deriving DecidableEq, Repr

/-- A write that a round has formed and that has not issued (R126, R127). -/
structure HpcWrite where
  fn     : Nat
  addr   : Nat
  data   : Word
  effect : HpcEffect
deriving DecidableEq, Repr

/-- The Harvest Process Controller beyond its registers. -/
structure HpcSt where
  fns    : NMap FnSt
  /-- Writes of the round in progress that have not issued; none when no round is in progress. -/
  todo   : Option (List HpcWrite)
  /-- The optimiser's throughput choice, g/s, and its reel ratio, in LSB of HF04 (R138). -/
  choice : Nat
  reel   : Option Int
  /-- Steps of exploration made, the feed rate from which exploration steps, and TB1 of the last proposal (R141). -/
  explored : Nat
  feedBase : Nat
  propAt : Option Nat
  /-- The surfaces of the current field slot, by 8 × crop + HF16, and its observations (R139). -/
  surf   : NMap (Option Surface)
  obs    : Nat
  /-- TB1 and TB3 since which the settings are steady (R139). -/
  since  : Nat
  since3 : Nat
  /-- TB1 of the last saving of the surfaces (R142). -/
  savedAt : Nat
  /-- TB1 at which the last control round fired (R126). -/
  roundAt : Option Nat
deriving DecidableEq, Repr

/-- The Harvest Process Controller at reset. -/
def HpcSt.reset : HpcSt := ⟨[], none, 0, none, 0, 0, none, [], 0, 0, 0, 0, none⟩

end Sys2Proof.Machine
end

