-- ==== Sys2Proof/Machine/StateLe.lean ====
section
/-!
DEFINITION. The state of the Loop Engines beyond their registers (spec chapters 03 and 04).
-/

namespace Sys2Proof.Machine

/-- A global load whose result has not arrived (R114, R121): its number, destination register, the lanes it writes, whether it is
wide, its lane where it is not, and by lane what a later instruction has written there, which takes effect on the load's edge. -/
structure GldRec where
  num   : Nat
  vd    : Nat
  lanes : BitVec 4
  wide  : Bool
  lane  : Nat
  late  : NMap (Option Word)
deriving DecidableEq, Repr

/-- What an instance marked for abort does when it stops (R77, R78). -/
inductive AbortMark where
  /-- Not marked. -/
  | none
  /-- MISS_ACTION 1: outputs hold, the task returns to IDLE. -/
  | hold
  /-- MISS_ACTION 2: the SAFE values are committed, the task returns to IDLE. -/
  | safe
  /-- MISS_ACTION 3: the SAFE values are committed, the task becomes DISABLED. -/
  | safeDisable
  /-- The instance was draining: the task becomes DISABLED under DISABLE_ACTION (R78, R79). -/
  | drain
deriving DecidableEq, Repr

/-- What the last tick found due for an instance (R55, R56, R78). -/
inductive MissDue where
  | none
  /-- Its deadline, and so the record TASK_DEADLINE. -/
  | deadline
  /-- Its backstop, and so the record TASK_BACKSTOP. -/
  | backstop
  /-- The end of a draining instance whose one record was raised before. -/
  | drain
deriving DecidableEq, Repr

/-- A task slot beyond its registers: its context (R96) and its instance. -/
structure TaskSt where
  /-- V0 to V15: lane `j` of register `n` at key `4 n + j`. -/
  v      : NMap Word
  /-- AC0 to AC3: lane `j` of accumulator `n` at key `4 n + j`. -/
  ac     : NMap (BitVec 64)
  /-- P1 to P7. -/
  p      : NMap (BitVec 4)
  flags  : Nat
  pc     : Nat
  /-- TB1 when the trigger reached the task, and TB1 at the tick on which it fired (R68, R116). -/
  arrival : Nat
  trigTb1 : Nat
  /-- Deadline D and backstop B (R55), and whether the instance's one record was raised (R56). -/
  dl     : Option Nat
  bs     : Option Nat
  missed : Bool
  /-- A tick has reached D, a tick has reached B, and what the last tick found due that has not acted yet. -/
  dlHit  : Bool
  bsHit  : Bool
  due    : MissDue
  /-- The instance has passed its sample boundary; its END has retired (R72, R118). -/
  started : Bool
  ended  : Bool
  mark   : AbortMark
  /-- Values staged for the commit, by output entry (R74, R117). -/
  staged : NMap (Option (BitVec 128))
  /-- MAN_VALUE as read at the boundary (R84), the primary value in force (R85), and whether the first automatic
  instance is still awaited (R85). -/
  manVal : Word
  prim   : Word
  toAuto : Bool
  /-- Outstanding global loads and stores, and the number of the next one (R114). -/
  gld    : List GldRec
  gst    : List Nat
  next   : Nat
  /-- Consecutive boundaries with the residual and the range condition, and with none of the three (R89). -/
  resN   : Nat
  rngN   : Nat
  quietN : Nat
  /-- TB1 when draining began (R78). -/
  drainAt : Nat
  /-- The alignment of the model waits for the feedback word (R88, R388). -/
  align  : Bool
deriving DecidableEq, Repr

/-- A task slot that has never been enabled. -/
def TaskSt.zero : TaskSt :=
  ⟨[], [], [], 0, 0, 0, 0, none, none, false, false, false, .none, false, false, .none, [], 0, 0, false, [], [], 0, 0, 0, 0, 0, false⟩

/-- A value on the actuator link, on its way to a companion (R74). -/
inductive LinkMsg where
  | sol (ch : Nat) (v : Word)
  | lsw (ch : Nat) (v : Word)
deriving DecidableEq, Repr

/-- The Loop Engines beyond their registers. -/
structure LeSt where
  tasks : NMap TaskSt
  /-- The task that runs on each engine. -/
  cur   : NMap (Option Nat)
  /-- Issue cycles of each tile since its occupancy window began (R93). -/
  issues : NMap Nat
  /-- TB1 at which each tile's occupancy window began, and the LECLK cycles, in fortieths, until then. -/
  occAt  : NMap Nat
  occCyc : NMap Nat
  /-- LECLK cycles, in fortieths, until TB1 `cycAt`, at which LECLK last changed (R93, R384). -/
  cycles : Nat
  cycAt  : Nat
  /-- TB1 at which the grace time of each tile began (R93). -/
  grace : NMap (Option Nat)
  /-- The owning task of each channel: SOL c at c, LSW c at 64 + c (R66). -/
  owner : NMap (Option Nat)
  /-- Committed setpoints and commands on the actuator link (R74). -/
  link  : List LinkMsg
deriving DecidableEq, Repr

/-- The Loop Engines at reset. -/
def LeSt.reset : LeSt := ⟨[], [], [], [], [], 0, 0, [], [], []⟩

end Sys2Proof.Machine
end

