-- ==== Sys2Proof/Machine/StateFab.lean ====
section
/-!
DEFINITION. The state of the Silkline fabric beyond its registers (spec chapter 13).
-/

namespace Sys2Proof.Machine

/-- What leaves on a link: a packet, or a control flit (R308). -/
inductive WireItem where
  /-- A packet with its PCRC and HCRC (R304). -/
  | packet (p : Packet) (pcrc hcrc : BitVec 16)
  | credit (returned : List Nat)
  /-- Sender port and node, alignment marker, transmit preset. -/
  | train (port node marker preset : Nat)
  | freeze (id origin : Nat)
  /-- A packet in progress was cut off (R334). -/
  | cut
deriving DecidableEq, Repr

/-- A credit class (R309). -/
inductive CrClass where
  | vc0Req
  | vc0Rsp
  | vc1
  | vc2Req
  | vc2Rsp
  | vc3
deriving DecidableEq, Repr

/-- What the last BEACON of a partner said (R320). -/
structure Heard where
  sender  : Nat
  port    : Nat
  parent  : Option Nat
  best    : Nat
  prio    : Nat
  seq     : Nat
  links   : Nat
  epoch   : Nat
deriving DecidableEq, Repr

/-- An open window of a coalescing table (R331): the first record, TB1 of its arrival, how many more came, and the TIME of
the last. -/
structure Window where
  first : FaultRec
  at_   : Nat
  more  : Nat
  last  : BitVec 48
deriving DecidableEq, Repr

/-- A packet that waits in an ingress buffer, with the PCRC it came with, which goes on with it though it may have failed (R307). -/
structure Waiting where
  pkt  : Packet
  pcrc : BitVec 16
deriving DecidableEq, Repr

/-- A fabric port beyond its registers. -/
structure PortSt where
  /-- Credits held for the partner's buffers, by class number (R309), credits to return, and TB1 of the oldest. -/
  credits : List Nat
  owed    : List Nat
  owedAt  : Option Nat
  /-- Packets in the ingress buffer, and packets of this node that must leave here. -/
  rx      : List Waiting
  own     : List Packet
  /-- Packet starts from other classes while a VC2 REQ packet was ready, and the ingress last served, by class (R312). -/
  skips   : Nat
  turn    : List Nat
  /-- Everything sent, oldest first: the partner's view. -/
  wire    : List WireItem
  /-- TB1 of the errors of the last 1 ms, newest first, whether an error episode is open, and TB1 of the last error
  (R307). -/
  errs    : List Nat
  episode : Bool
  lastErr : Nat
  heard   : Option Heard
  coal    : List Window
  /-- Departure of the outstanding DELAY_REQ, ns (R336), and TB1 of the last training attempt (R301). -/
  delayT1 : Option Nat
  trainAt : Option Nat
  /-- A TRAIN flit of the partner has come since training began (R301). -/
  trained : Bool
  /-- TB1 of the last delay measurement and of the last BEACON. -/
  delayAt : Option Nat
  beaconAt : Option Nat
deriving DecidableEq, Repr

/-- Credits for a partner's empty buffers (R309). -/
def fullCredits : List Nat := [16, 16, 72, 72, 8, 16]

/-- A port that is not UP. -/
def PortSt.zero : PortSt :=
  { credits := [0, 0, 0, 0, 0, 0], owed := [0, 0, 0, 0, 0, 0], owedAt := none, rx := [], own := [], skips := 0,
    turn := [8, 8, 8, 8, 8, 8], wire := [], errs := [], episode := false, lastErr := 0, heard := none,
    coal := [], delayT1 := none, trainAt := none, trained := false, delayAt := none, beaconAt := none }

/-- A remote request without response (R314): who waits, its master, destination, tag, operation and channel, the port it
left through and TB1 of its departure. -/
structure Outst where
  who  : Requester
  mid  : Nat
  dest : Nat
  tag  : Nat
  op   : AccOp
  vc   : Nat
  port : Nat
  at_  : Nat
deriving DecidableEq, Repr

/-- A transfer that runs (R318): 16-byte units not yet sent, packets without response, and the first STATUS other than OK. -/
structure Xfer where
  left   : Nat
  sent   : Nat
  open_  : Nat
  status : Nat
deriving DecidableEq, Repr

/-- A role request that waits for its answer (R323, R349): 0 TAKE or 1 GIVE, the peer, and TB1 of its sending. -/
structure RoleReq where
  kind : Nat
  peer : Nat
  at_  : Nat
deriving DecidableEq, Repr

/-- A request of another node whose response has not left (R306, R315): the port it came in through, its source, master,
tag, operation, channel and SZ, the accesses that have not completed, the first status other than OK, and the data read. -/
structure Inbound where
  port   : Nat
  src    : Nat
  sm     : Nat
  tag    : Nat
  op     : AccOp
  vc     : Nat
  sz     : Nat
  left   : Nat
  status : Nat
  data   : BitVec 128
deriving DecidableEq, Repr

/-- A TIMEOUT episode (R333): its subject, TB1 of its first NAK_TIMEOUT, how many in the first 1 ms, whether its record is
raised, and whether it has ended with its record still to come. -/
structure DeadNode where
  subject : Nat
  at_     : Nat
  n       : Nat
  raised  : Bool
  ended    : Bool
deriving DecidableEq, Repr

/-- The fabric beyond its registers. -/
structure FabSt where
  ports  : NMap PortSt
  inbound : List Inbound
  /-- The coalescing table of the conductor's own log (R330). -/
  coal   : List Window
  outst  : List Outst
  xfers  : NMap (Option Xfer)
  /-- This node holds the role (R321), its liveness sequence, and what the node knows of its best conductor: its sequence,
  TB1 of its last advance; a conductor treated as lost with that sequence (R322); TB1 since which the node, a candidate,
  is its own best conductor. -/
  holds  : Bool
  live   : Nat
  seq    : Nat
  seqAt  : Nat
  lost   : List (Nat × Nat)
  candAt : Option Nat
  /-- The conductor that a new one replaces (R322). -/
  was    : Option Nat
  /-- Port states as the conductor knows them, the payload of each node's last TOPO (R326); nodes found unreachable. -/
  topo   : NMap (Option (BitVec 128))
  unreach : List Nat
  /-- TB1 of the port state change or change of conductor for which no TOPO has left; a TOPO change awaits routes. -/
  topoDue : Option Nat
  routeDue : Bool
  role   : Option RoleReq
  /-- TB1 until which no role request goes to a peer (R324). -/
  holdoff : NMap Nat
  /-- A node whose GIVE was sent and which holds no role until an answer, or has granted since (R323). -/
  granted : Bool
  /-- The newest TB0 pair: TB0, FT and TB1 of its receipt (R337); TB1 of the last SYNC and pair sent. -/
  pairAt : Option Nat
  syncAt : Option Nat
  pairSent : Option Nat
  /-- Error of FT against the last SYNC, removed by slewing (R335). -/
  ftErr  : Int
  ftPs   : Nat
  dead   : List DeadNode
deriving DecidableEq, Repr

/-- The fabric at reset. -/
def FabSt.reset : FabSt :=
  { ports := [], inbound := [], coal := [], outst := [], xfers := [], holds := false, live := 0, seq := 0, seqAt := 0, lost := [],
    candAt := none, was := none, topo := [], unreach := [], topoDue := none, routeDue := false, role := none,
    holdoff := [], granted := false, pairAt := none, syncAt := none, pairSent := none, ftErr := 0, ftPs := 0,
    dead := [] }

end Sys2Proof.Machine
end

