-- ==== Sys2Proof/Machine/StateNet.lean ====
section
/-!
DEFINITION. The state of the machine networks and the fleet link beyond their registers (spec chapter 14).
-/

namespace Sys2Proof.Machine

/-- A UDP datagram that leaves: destination address and port, source port, payload. -/
structure Datagram where
  dst     : BitVec 128
  port    : Nat
  src     : Nat
  payload : List Byte
deriving DecidableEq, Repr

/-- What an Ethernet port sends besides datagrams of the units: the answers of R340. -/
inductive EthOut where
  | udp (d : Datagram)
  /-- An ICMPv6 echo reply with the request's data. -/
  | echo (dst : BitVec 128) (data : List Byte)
  /-- A neighbour advertisement for an address of this port. -/
  | advert (dst addr : BitVec 128)
deriving DecidableEq, Repr

/-- A transport session that a controller receives (R345, R346): the peer's address, the PGN, the bytes expected and got, whether
the peer addressed this node alone and whether it is of the extended protocol; the packets before the present window, those still to
come in it, and the most in one. -/
structure TpSession where
  src   : Nat
  pgn   : Nat
  len   : Nat
  data  : List Byte
  own   : Bool
  ext   : Bool
  base  : Nat
  left  : Nat
  most  : Nat
deriving DecidableEq, Repr

/-- A message of more than eight bytes that a controller sends (R345): the peer's address, the PGN and the bytes. -/
structure TpOut where
  dst   : Nat
  pgn   : Nat
  data  : List Byte
deriving DecidableEq, Repr

/-- A trigger that a task controller has set (R345): its address, the command, the place of the logged value, the head of the message, its
value, and TB1, travel in µm and value when it last counted. -/
structure TcTrig where
  sa     : Nat
  cmd    : Nat
  place  : Nat
  head   : List Byte
  limit  : Nat
  at_    : Nat
  travel : Nat
  last   : Nat
deriving DecidableEq, Repr

/-- A CAN controller beyond its registers. -/
structure CanSt where
  /-- The next entry of the transmit ring and of the receive ring. -/
  tx     : Nat
  rx     : Nat
  /-- Frames of the units of this node that wait for the bus. -/
  own    : List CanFrame
  /-- Every frame sent, oldest first. -/
  wire   : List CanFrame
  /-- The claimed address (254: none), the open transport session and the last message it completed (R345, R346). -/
  addr   : Nat
  tp     : Option TpSession
  last   : Option TpSession
  /-- The triggers that the task controllers have set (R345). -/
  trig   : List TcTrig
  /-- The messages that leave by a transport protocol, the first one open (R345). -/
  out    : List TpOut
  /-- The transmit and the receive error counter (R342, ISO 11898-1). -/
  tec    : Nat
  rec_   : Nat
deriving DecidableEq, Repr

/-- A controller at reset. -/
def CanSt.zero : CanSt := ⟨0, 0, [], [], 254, none, none, [], [], 0, 0⟩

/-- The machine networks and the fleet link beyond their registers. -/
structure NetSt where
  /-- Frames that wait at each Ethernet port, and every frame sent, oldest first. -/
  ethQ   : NMap (List EthOut)
  wire   : NMap (List EthOut)
  can    : NMap CanSt
  /-- The J1939 values (R346): engine speed, load and fuel rate with TB1 of arrival; TB1 of the last engine
request. -/
  pgn    : NMap (Option (Nat × Nat))
  engAt  : Option Nat
  /-- Correction frames handed to the GNSS host of another node, oldest first (R352). -/
  rtk    : List (List Byte)
  /-- The fleet link: next SEQ, peer, outstanding request, hold-off by peer, TB1 of the last UNLOAD received and since when
  the follower's errors are within tolerance, the follower's error in the last message. -/
  seq    : Nat
  peer   : Option Nat
  role   : Option RoleReq
  holdoff : NMap Nat
  unloadAt : Nat
  tolAt  : Option Nat
  /-- TB1 of the last STATE and UNLOAD sent. -/
  stateAt : Option Nat
  sentAt : Option Nat
  /-- Ledger upload: the next record to send, the last SEQ of each unacknowledged datagram, TB1 of the last rise of
  YLD_ACK. -/
  upNext : Nat
  upOut  : List Nat
  upAt   : Nat
deriving DecidableEq, Repr

/-- The networks at reset. -/
def NetSt.reset : NetSt :=
  { ethQ := [], wire := [], can := [], pgn := [], engAt := none, rtk := [], seq := 0, peer := none, role := none,
    holdoff := [], unloadAt := 0, tolAt := none, stateAt := none, sentAt := none, upNext := 0, upOut := [], upAt := 0 }

end Sys2Proof.Machine
end

