-- ==== Sys2Proof/Machine/StateOut.lean ====
section
/-!
DEFINITION. The state of the companions beyond their registers: valve channels, switch channels, limp-home (spec chapters
06 and 07).
-/

namespace Sys2Proof.Machine

/-- The half-bridge of a valve channel (R155, R157): in DEAD the next state is known. -/
inductive Half where
  | off
  | on
  | deadToOn
  | deadToLow
  | recirc
  | fast
deriving DecidableEq, Repr

/-- A valve channel beyond its registers. -/
structure ValveSt where
  /-- The setpoint in force, µA, and whether it arrived after the last event that lets the channel leave OFF (R167). -/
  use    : Nat
  fresh  : Bool
  /-- A setpoint that has arrived and that the next sample instant takes (R154). -/
  arr    : Option Nat
  /-- A setpoint stored in SOL_SP waits for the end of crank hold (R370). -/
  stored : Bool
  half   : Half
  /-- The period counter at the last edge or sample, in DEAD where DEAD began, PWM ticks; fast decay in place of RECIRC in this period (R157). -/
  cnt    : Nat
  fastP  : Bool
  /-- The integrator I, in 1 / 4 096 000 duty (R152). -/
  integ  : Int
  /-- The instantaneous target of the last sample, µA (R161). -/
  lastT  : Nat
  /-- Samples since pull-in started, the peak current in µA and its sample, and whether PULL_MAX was reached (R161). -/
  pullN  : Nat
  peak   : Nat
  peakN  : Nat
  regMax : Bool
  /-- Dither phase in millionths of a cycle, with the frequency and shape in force (R159). -/
  phase  : Nat
  freq   : Nat
  shape  : Nat
  /-- Consecutive samples that show an open coil, or full scale (R171). -/
  openN  : Nat
  fullN  : Nat
  /-- Sums of duty and current in µA, and samples, since the last estimate of coil resistance (R160). -/
  sumD   : Nat
  sumI   : Nat
  sumN   : Nat
  /-- TB1 of the last estimate of coil resistance (R160). -/
  coilAt : Nat
  /-- The channel follows its limp pins (R193, R194). -/
  follow : Bool
  /-- The limp current held after a release, µA (R194). -/
  hold   : Option Nat
deriving DecidableEq, Repr

/-- A valve channel at reset. -/
def ValveSt.zero : ValveSt :=
  ⟨0, false, none, false, .off, 0, false, 0, 0, 0, 0, 0, false, 0, 0, 0, 0, 0, 0, 0, 0, 0, false, none⟩

/-- A switch channel beyond its registers. -/
structure SwitchSt where
  /-- The command in force (R177, R178). -/
  cmd    : Bool
  /-- A command stored in LSW_CMD waits for the end of crank hold (R189). -/
  stored : Bool
  /-- The end of a retry pause (R182). -/
  retryAt : Option Nat
  /-- TB1 of the last on and off edges. -/
  onAt   : Nat
  offAt  : Nat
  /-- Consecutive checks with the output voltage above, and at or below, the threshold (R185). -/
  highN  : Nat
  lowN   : Nat
  /-- TB1 of the last of these checks since the off edge. -/
  olAt   : Option Nat
  /-- TB1 of the last event of R182 (R183). -/
  evAt   : Option Nat
  /-- The state held on entry to crank hold (R189), as far as nothing has ended it since. -/
  kept   : Bool
deriving DecidableEq, Repr

/-- A switch channel at reset. -/
def SwitchSt.zero : SwitchSt := ⟨false, false, none, 0, 0, 0, 0, none, none, false⟩

/-- A companion: ZS8 k at k, ZP16 k at 8 + k. -/
structure CompSt where
  /-- TB1 of the last link frame, or of the loss of the compute side (R172). -/
  frameAt : Nat
  /-- The watchdog has expired and no frame after CONFIG_DONE has ended that (R192, R194). -/
  expired : Bool
  /-- In limp-home (R192). -/
  limp   : Bool
  /-- ZS8: the junction has been above 175 °C and not below 165 °C since (R171). -/
  hot    : Bool
  /-- ZP16: TB1 of the last shed, the channel then shed, and whether FEED_VALVES was raised in this shed episode (R175). -/
  shedAt : Option Nat
  shedCh : Nat
  valves : Bool
deriving DecidableEq, Repr

/-- A companion at reset. -/
def CompSt.zero : CompSt := ⟨0, false, false, false, none, 0, false⟩

/-- The companions beyond their registers. -/
structure OutSt where
  valve  : NMap ValveSt
  switch : NMap SwitchSt
  comp   : NMap CompSt
  /-- The companions' copies of the limp map: 64 entries of 16 bits (R191). -/
  limp   : List Nat
  /-- No link frame has passed since reset was released: the registers that show what the channels of the companions do, and the
  feeds and limp pins, read as reset left them (R11). -/
  dark   : Bool
deriving DecidableEq, Repr

/-- The companions at reset. -/
def OutSt.reset : OutSt := ⟨[], [], [], [], true⟩

end Sys2Proof.Machine
end

