-- ==== Sys2Proof/Machine/StatePwr.lean ====
section
/-!
DEFINITION. The state of power, temperature protection and cooling beyond their registers (spec chapter 16).
-/

namespace Sys2Proof.Machine

/-- A power domain beyond its registers: the number of its request in the order of requests, TB1 of its last change of
state, and what to do once it is ON (switch off, R379) or OFF (queue again). -/
structure DomSt where
  reqNo  : Nat
  at_    : Nat
  offReq : Bool
  force  : Bool
  again  : Bool
deriving DecidableEq, Repr

/-- A domain at reset. -/
def DomSt.zero : DomSt := ⟨0, 0, false, false, false⟩

/-- A cooling output: since when its speed is below, and at or above, MIN_RPM (R392). -/
structure CoolSt where
  lowAt : Option Nat
  okAt  : Option Nat
deriving DecidableEq, Repr

/-- A cooling output at reset. -/
def CoolSt.zero : CoolSt := ⟨none, none⟩

/-- Power, temperature protection and cooling beyond their registers. -/
structure PwrSt where
  doms     : NMap DomSt
  /-- Requests made so far (R376). -/
  reqNo    : Nat
  cool     : NMap CoolSt
  /-- Housekeeping channels whose sensor has faulted since it last read valid (R382). -/
  faulted  : List Nat
  /-- A reduction episode is in progress, and TB1 since which K stands at 1000 (R385). -/
  reducing : Bool
  k1000At  : Option Nat
  /-- TB1 since which every die reading has been below 120 °C in a shutdown (R386). -/
  coldAt   : Option Nat
  /-- DRAM channels in a stall episode (R388). -/
  stalled  : List Nat
  /-- TB1 of the last write of a COOL_HOST (R391). -/
  hostAt   : Nat
  /-- HOLDUP_LOW has been looked for since the start (R369). -/
  holdSeen : Bool
  /-- The number of the last housekeeping round (R210). -/
  round    : Nat
  /-- TB1 of the entry to CRANK_HOLD (R368). -/
  crankAt  : Nat
  /-- TB1 at which the supply last stood below 6.5 V, above 31.0 V, and at or below 32.0 V, as the commands have told (R368, R372). -/
  lowAt    : Nat
  aboveAt  : Nat
  calmAt   : Nat
deriving DecidableEq, Repr

/-- Power at reset. -/
def PwrSt.reset : PwrSt :=
  { doms := [], reqNo := 0, cool := [], faulted := [], reducing := false, k1000At := none, coldAt := none, stalled := [],
    hostAt := 0, holdSeen := false, round := 0, crankAt := 0,
    lowAt := 0, aboveAt := 0, calmAt := 0 }

end Sys2Proof.Machine
end

