-- ==== Sys2Proof/Machine/StateTbu.lean ====
section
/-!
DEFINITION. The state of the Timebase Unit beyond its registers (spec chapter 02).
-/

namespace Sys2Proof.Machine

/-- A built timebase TB3 to TB15 (R36 to R41). Positions are exact, in units of 1 / 13 107 200 000 count (half a
65 536th, times the 100 000 steps of 1 + SLIP). -/
structure Built where
  /-- The position that the last pulse or index set. -/
  pos  : Int
  /-- The position from which interpolation runs, and TB1 at that instant. -/
  base : Int
  baseAt : Nat
  /-- TB1 of the last pulse, and the interval before it; none until there is one (R37, R39). -/
  last : Option Nat
  ival : Option Nat
  /-- The direction of the last movement: true is up (R40). -/
  up   : Bool
  /-- Counts held after an index that lay behind (R40). -/
  hold : Option Int
  /-- The direction of the latest pulse of the SRC_A pair: true is forward (R36). -/
  fwd  : Bool
  /-- TB1 since which no pulse has arrived (R39): of the last pulse, or the start of TB1. -/
  quiet : Nat
deriving DecidableEq, Repr

/-- A built timebase at the start of a full start. -/
def Built.zero : Built := ⟨0, 0, 0, none, none, true, none, true, 0⟩

/-- A pulse that filtered encoder edges have given timebase `tb` (R36): an index pulse, or a source pulse from SRC_B where
`srcB`, forward where `fwd`. -/
structure Pulse where
  tb    : Nat
  index : Bool
  srcB  : Bool
  fwd   : Bool
deriving DecidableEq, Repr

/-- A slot that is due on the current tick; `late` is a firing by arming (R46). -/
structure DueSlot where
  slot : Nat
  late : Bool
deriving DecidableEq, Repr

/-- A slot trigger on its way to its target, with the snapshot of its firing tick (R51, R55). -/
structure Trigger where
  slot  : Nat
  kind  : Nat
  id    : Nat
  vals  : List Nat
  valid : Nat
deriving DecidableEq, Repr

/-- The Timebase Unit beyond its registers. -/
structure TbuSt where
  /-- Sub-nanosecond parts of TB0 and TB2, in ps. -/
  tb0Ps   : Nat
  tb2Ps   : Nat
  /-- TB0 − GNSS time as last measured, less what slewing has removed, in ps (R273). -/
  tb0Err  : Int
  /-- TB0 − GNSS time in holdover, in ps, as it is (R276). -/
  tb0Drift : Int
  /-- GNSS time that TB0 takes on the next tick, and GNSS time while TB0 stands until it is reached (R275). -/
  tb0Jump : Option Nat
  tb0Hold : Option Nat
  /-- TB0 on the tick before the last (R277, R279); one less than TB0 where the last tick made a step. -/
  tb0Was  : Nat
  built   : NMap Built
  /-- Pulses of the built timebases that have not been added yet, oldest first (R36). -/
  pulses  : List Pulse
  /-- TB1 of the last slip update (R41). -/
  slipAt  : Nat
  /-- The low word last written to TB2_SET_LO, and a load waiting for the next tick (R42). -/
  tb2Lo   : Word
  tb2Load : Option (BitVec 64)
  /-- A TBU_SNAP waiting for the next tick (R32). -/
  snap    : Bool
  /-- Held low words of COUNT and PERIOD by slot (R452). -/
  cntHeld : NMap (Option Word)
  perHeld : NMap (Option Word)
  /-- Slots that fire on the next tick because they were armed late (R46). -/
  lateArm : List Nat
  /-- Slots due on the current tick, in ascending order (R50). -/
  due     : List DueSlot
  /-- Triggers on the way (R51). -/
  trig    : List Trigger
  /-- Gates, kind and number, that closed and opened again on the last tick (R52, R453). -/
  reopen  : List (Nat × Nat)
deriving DecidableEq, Repr

/-- The Timebase Unit at reset. -/
def TbuSt.reset : TbuSt := ⟨0, 0, 0, 0, none, none, 0, [], [], 0, 0, none, false, [], [], [], [], [], []⟩

end Sys2Proof.Machine
end

