-- ==== Sys2Proof/Machine/StateYld.lean ====
section
/-!
DEFINITION. The state of the yield map and the ledger beyond their registers (spec chapter 12).
-/

namespace Sys2Proof.Machine

/-- What would have accrued by an instant had every input been open: TB1, forward travel of TB3 in µm, area in µm × mm, dry mass in
g / s over 10 ms, times 10 000 − M, and time in ns (R284, R296). -/
structure Pot where
  at_    : Nat
  travel : Nat
  area   : Nat
  dry    : Int
  time   : Nat
deriving DecidableEq, Repr

/-- Nothing at TB1 0. -/
def Pot.zero : Pot := ⟨0, 0, 0, 0, 0⟩

/-- A change of a masked accrual input (R296): the input, its new level, the instant of the change, and whether it is
accepted. -/
structure AccChange where
  input : Nat
  level : Bool
  pot   : Pot
  ok    : Bool
deriving DecidableEq, Repr

/-- An open period (R291 to R293): TB1 and TB2 of its opening, what has accrued in the units of `Pot` and in ns, and its
flags. -/
structure Period where
  open1   : Nat
  open2   : Nat
  area    : Int
  dry     : Int
  harv    : Int
  noClock : Bool
  disc    : Bool
deriving DecidableEq, Repr

/-- A period that opens at TB1 and TB2. -/
def Period.fresh (open1 open2 : Nat) (noClock : Bool) : Period := ⟨open1, open2, 0, 0, 0, noClock, false⟩

/-- A map cell that has not joined a tile (R286): cell number, first and last cutting instant (TB1), the forward travel in
µm at its start and its length, whether it is still being cut, the mass (g / s over 10 ms) and moisture it has collected. -/
structure MapCell where
  seq      : Nat
  t0       : Nat
  t1       : Nat
  start    : Nat
  len      : Nat
  cutting  : Bool
  wet      : Int
  moistSum : Int
  moistN   : Nat
  mfInv    : Bool
  moistInv : Bool
deriving DecidableEq, Repr

/-- A record of the last 32 s (R285): TB1, TB0 and whether it is valid, TB3 and the forward travel, the swath width where it is
valid, and the navigation record. -/
structure Hist where
  at_    : Nat
  tb0    : Nat
  tb0V   : Bool
  tb3    : Nat
  travel : Nat
  swath  : Option Nat
  nav    : List Word
deriving DecidableEq, Repr

/-- What a reading gives to the ground cut at an instant (R285): the instant, the wet mass in g / s over 10 ms and whether it is
substituted; or the moisture in 0.01 %, where it is known. -/
structure MassAt where
  at_  : Nat
  wet  : Int
  inv  : Bool
deriving DecidableEq, Repr
structure MoistAt where
  at_  : Nat
  val  : Option Int
deriving DecidableEq, Repr

/-- The yield map and the ledger beyond their registers. -/
structure YldSt where
  /-- The job in force and its periods. -/
  job    : Word
  hour   : Period
  day    : Period
  total  : Period
  /-- TB1 when CLOSING ends, of the last checkpoint and of the last reading. -/
  closeAt : Nat
  checkAt : Nat
  /-- The ledger has been taken up since the last full start (R295); TB1 from which the day period may close (R293). -/
  begun   : Bool
  dayFrom : Nat
  readAt  : Option Nat
  /-- Accrual (R296): what would have accrued; the instant up to which accrual is settled and the levels there; the changes
  not settled yet, oldest first; TB1 since which each input differs from its accepted level. -/
  pot     : Pot
  settled : Pot
  levels  : Nat
  changes : List AccChange
  since   : NMap (Option Nat)
  /-- The last valid mass flow and moisture, with TB1 of their reading (R283). -/
  mass    : Option (Int × Nat)
  moist   : Option (Int × Nat)
  hist    : List Hist
  /-- Readings whose ground is not settled yet, oldest first (R285). -/
  massQ   : List MassAt
  moistQ  : List MoistAt
  cells   : List MapCell
  nextCell : Nat
  /-- The records of the open tile, and the field slot and crop it was begun in (R288). -/
  tile    : List (List Byte)
  tileSlot : Nat
  /-- Records held in AON while the ledger region is full (R297). -/
  held    : List (List Byte)
  /-- TB1 of the last record, and YLD_SEQ before the records of that tick (R353). -/
  tickSeq : Option (Nat × Nat)
  /-- The job that is being exported (R289). -/
  exporting : Word
deriving DecidableEq, Repr

/-- The yield map and the ledger at the start of a full start. -/
def YldSt.reset : YldSt :=
  { job := 0, hour := .fresh 0 0 false, day := .fresh 0 0 false, total := .fresh 0 0 false, closeAt := 0, checkAt := 0,
    begun := false, dayFrom := 0, readAt := none, pot := .zero, settled := .zero, levels := 0, changes := [], since := [], mass := none,
    moist := none, hist := [], massQ := [], moistQ := [], cells := [], nextCell := 0, tile := [], tileSlot := 0, held := [], tickSeq := none, exporting := 0 }

end Sys2Proof.Machine
end

