-- ==== Sys2Proof/Machine/Blk.lean ====
section
/-!
DEFINITION. The block: everything the spec gives the module, without the queue of commands.
-/

namespace Sys2Proof.Machine

/-- The key of a register word: its register and index. -/
abbrev RegKey := RegName × Nat

/-- The order of register keys: block maps in the order of `RegName`, then rising index. -/
def regLt (a b : RegKey) : Bool :=
  decide (a.1.ctorIdx < b.1.ctorIdx) || (decide (a.1 = b.1) && decide (a.2 < b.2))

/-- The module without its command queue. -/
structure Blk where
  /-- Every register word that differs from its reset value (R11). -/
  regs : SMap RegKey Word
  /-- Tile memory, shared SRAM and DRAM, by local address (R15). -/
  mem  : List Host.Cell
  /-- The OTP bytes that are not 0 (R401). -/
  otp  : List Host.Cell
  mod  : ModSt
  bus  : BusSt
  jrn  : Journal
  tbu  : TbuSt
  le   : LeSt
  afe  : AfeSt
  hpc  : HpcSt
  out  : OutSt
  cam  : NMap PipeSt
  fus  : FusSt
  gnss : GnssSt
  yld  : YldSt
  fab  : FabSt
  net  : NetSt
  pwr  : PwrSt
  boot : BootSt
  dbg  : DbgSt
  /-- The counter that indexes the free values: the model's own field. -/
  free : Nat
deriving DecidableEq, Repr

end Sys2Proof.Machine
end

