-- ==== Sys2Proof/Machine/RegReset.lean ====
section
/-!
DEFINITION. What the registers hold when reset is released (R11), for those whose Reset column is a rule and not one
number, and the register at an offset (R16, R17).
Readings and choices: logs 3 of notes/assumptions.
-/

namespace Sys2Proof.Machine

/-- The built-in range and rate limits of a harvest function, in target LSB and LSB per second (R128). -/
structure FnRange where
  min : Int
  max : Int
  up  : Nat
  dn  : Nat
deriving DecidableEq, Repr

/-- The table of R128. Of the functions that move one step at a time (HF16, HF30) the rates are the least time between
steps in ms, as the limit table reads them. HF26 has its off value 0 as minimum (log 3). -/
def fnRange : Nat → FnRange
  | 1  => ⟨0, 1200000, 250000, 400000⟩
  | 2  => ⟨-8000, 8000, 4000, 4000⟩
  | 3  => ⟨-6000, 6000, 2000, 2000⟩
  | 4  => ⟨8000, 18000, 5000, 5000⟩
  | 5  => ⟨0, 1500000, 200000, 200000⟩
  | 6  => ⟨0, 900000, 100000, 100000⟩
  | 7  => ⟨500, 6000, 2000, 2000⟩
  | 8  => ⟨400, 1300, 200, 200⟩
  | 9  => ⟨3000, 6500, 1000, 1000⟩
  | 10 => ⟨0, 3333, 300, 800⟩
  | 11 => ⟨-2000000, 2000000, 500000, 500000⟩
  | 12 => ⟨2500, 12000, 500, 500⟩
  | 13 => ⟨0, 10000, 2000, 2000⟩
  | 14 => ⟨2000, 50000, 4000, 4000⟩
  | 15 => ⟨2000, 50000, 4000, 4000⟩
  | 16 => ⟨0, 4, 3000, 3000⟩
  | 17 => ⟨5000, 40000, 3000, 3000⟩
  | 18 => ⟨4000, 14000, 500, 500⟩
  | 19 => ⟨0, 30000, 1000, 1000⟩
  | 20 => ⟨0, 25000, 1000, 1000⟩
  | 21 => ⟨-15000, 15000, 5000, 5000⟩
  | 22 => ⟨0, 10000, 1000, 1000⟩
  | 23 => ⟨0, 10000, 2500, 2500⟩
  | 24 => ⟨0, 105000, 10000, 10000⟩
  | 25 => ⟨0, 10000, 2000, 5000⟩
  | 26 => ⟨0, 38000, 2000, 4000⟩
  | 27 => ⟨0, 10000, 1000, 1000⟩
  | 28 => ⟨0, 10000, 1000, 1000⟩
  | 29 => ⟨-30000, 30000, 10000, 10000⟩
  | 30 => ⟨0, 3, 2000, 2000⟩
  | _  => ⟨0, 0, 0, 0⟩

/-- The value of register `r`, index `i`, when reset is released (R11). -/
def RegName.resetNat (r : RegName) (i : Nat) : Nat :=
  match r with
  | .TB_CFG => if i ≤ 2 then 0 else if i = 4 ∨ i = 5 then 2 else 1
  | .LSW_CFG => if i < 96 then 0x400A0040 else 0xC80A0040
  | .CAL_R => if i % 9 % 4 = 0 then 0x40000000 else 0
  | .LIM_MIN => (BitVec.ofInt 32 (fnRange (i % 32)).min).toNat
  | .LIM_MAX => (BitVec.ofInt 32 (fnRange (i % 32)).max).toNat
  | .LIM_UP => (fnRange (i % 32)).up
  | .LIM_DN => (fnRange (i % 32)).dn
  | .DEF => (BitVec.ofInt 32 (fnRange (i % 32)).min).toNat
  | .TZ_CFG => if i ≤ 8 then 120 * 256 + 60 else if i ≤ 10 then 140 * 256 + 70 else 95 * 256 + 50
  | r => r.resetConst

/-- The word of register `r`, index `i`, when reset is released (R11). -/
def RegName.resetWord (r : RegName) (i : Nat) : BitVec 32 := BitVec.ofNat 32 (r.resetNat i)

/-- The byte offset of register `r`, index `i`, from 0x00_4000_0000 (R16). -/
def RegName.offset (r : RegName) (i : Nat) : Nat :=
  let l := r.layout
  l.base + ((i - l.first) / l.n2) * l.s1 + ((i - l.first) % l.n2) * l.s2

/-- The index of register `r` that stands at byte offset `off` from 0x00_4000_0000, if one does. -/
def RegName.indexAt (r : RegName) (off : Nat) : Option Nat :=
  let l := r.layout
  if off < l.base then none
  else
    let i1 := (off - l.base) / l.s1
    let rem := (off - l.base) % l.s1
    let i2 := rem / l.s2
    if i1 < l.n1 ∧ i2 < l.n2 ∧ rem % l.s2 = 0 then some (l.first + i1 * l.n2 + i2) else none

/-- The limit and default tables have entries for functions 1 to 30 only. -/
def RegName.assigned (r : RegName) (i : Nat) : Bool :=
  match r with
  | .LIM_MIN | .LIM_MAX | .LIM_UP | .LIM_DN | .DEF => decide (1 ≤ i % 32) && decide (i % 32 ≤ 30)
  | _ => true

/-- The block whose window holds byte offset `off` from 0x00_4000_0000 (R16): the LE tiles take two windows. -/
def blockAt (off : Nat) : Nat :=
  let w := off / 0x10000
  if w ≤ 2 then w else w - 1

/-- The register and index at byte offset `off` from 0x00_4000_0000, if the offset is assigned (R17). -/
def regAt (off : Nat) : Option (RegName × Nat) :=
  (RegName.ofBlock (blockAt off)).findSome? fun r =>
    match r.indexAt off with
    | some i => if r.assigned i then some (r, i) else none
    | none => none

end Sys2Proof.Machine
end

