-- ==== Sys2Proof/Machine/Ops.lean ====
section
/-!
DEFINITION. The named operations on the block: registers and their fields, memory, fault records, free values.
Readings and choices: logs 1, 2, 4, 35, 49, 64 of notes/assumptions.
-/

namespace Sys2Proof.Machine

/-! ## Registers -/

/-- The low `n` bits of `v` above bit `lo`. -/
def bitsOf (v lo n : Nat) : Nat := v / 2 ^ lo % 2 ^ n

/-- The word of register `r`, index `i`, as the block holds it. -/
def Blk.reg (b : Blk) (r : RegName) (i : Nat) : Word := SMap.get b.regs (r, i) (r.resetWord i)

/-- The block with register `r`, index `i`, at `v`. -/
def Blk.setReg (b : Blk) (r : RegName) (i : Nat) (v : Word) : Blk :=
  { b with regs := SMap.put regLt b.regs (r, i) v (r.resetWord i) }

/-- The value of a field in a register word. -/
def Fld.get (f : Fld) (w : Word) : Nat := w.toNat / 2 ^ f.lo % 2 ^ f.w

/-- The register word with a field at `v`, taken modulo the field's width. -/
def Fld.put (f : Fld) (w : Word) (v : Nat) : Word :=
  BitVec.ofNat 32
    (w.toNat % 2 ^ f.lo + (v % 2 ^ f.w) * 2 ^ f.lo + w.toNat / 2 ^ (f.lo + f.w) * 2 ^ (f.lo + f.w))

/-- The value of field `f` of index `i`. -/
def Blk.fld (b : Blk) (f : Fld) (i : Nat) : Nat := f.get (b.reg f.reg i)

/-- Whether field `f` of index `i` is other than 0. -/
def Blk.flag (b : Blk) (f : Fld) (i : Nat) : Bool := b.fld f i != 0

/-- The value of field `f` of index `i`, read as a signed number of the field's width. -/
def Blk.sfld (b : Blk) (f : Fld) (i : Nat) : Int := (BitVec.ofNat f.w (b.fld f i)).toInt

/-- The block with field `f` of index `i` at `v`. -/
def Blk.setFld (b : Blk) (f : Fld) (i v : Nat) : Blk := b.setReg f.reg i (f.put (b.reg f.reg i) v)

/-- The block with the one-bit field `f` of index `i` at `x`. -/
def Blk.setFlag (b : Blk) (f : Fld) (i : Nat) (x : Bool) : Blk := b.setFld f i x.toNat

/-- The block with field `f` of index `i` at the signed number `v`. -/
def Blk.setSFld (b : Blk) (f : Fld) (i : Nat) (v : Int) : Blk := b.setFld f i (BitVec.ofInt f.w v).toNat

/-- The counter field `f` of index `i`, one up, wrapping at its width. -/
def Blk.incFld (b : Blk) (f : Fld) (i : Nat) : Blk := b.setFld f i (b.fld f i + 1)

/-- The counter field `f` of index `i`, `n` up, staying at its greatest value. -/
def Blk.addSat (b : Blk) (f : Fld) (i n : Nat) : Blk := b.setFld f i (min (b.fld f i + n) (2 ^ f.w - 1))

/-- The 64-bit number in a low and a high register of one index. -/
def Blk.reg64 (b : Blk) (lo hi : RegName) (i : Nat) : Nat := (b.reg hi i).toNat * 2 ^ 32 + (b.reg lo i).toNat

/-- The block with a 64-bit number in a low and a high register of one index. -/
def Blk.setReg64 (b : Blk) (lo hi : RegName) (i v : Nat) : Blk :=
  (b.setReg lo i (BitVec.ofNat 32 v)).setReg hi i (BitVec.ofNat 32 (v / 2 ^ 32))

/-- Timebase `n` in the snapshot of the last tick (R32). -/
def Blk.tb (b : Blk) (n : Nat) : Nat := b.reg64 .TB_VALUE_LO .TB_VALUE_HI n

/-- TB1, ns (R33). -/
def Blk.tb1 (b : Blk) : Nat := b.tb 1

/-- Whether timebase `n` is valid (R35). -/
def Blk.tbValid (b : Blk) (n : Nat) : Bool := (b.fld F.TBU_STATUS_TB_VALID 0).testBit n

/-- TB1 `last` lies `ns` back, or there is none. -/
def Blk.every (b : Blk) (last : Option Nat) (ns : Nat) : Bool :=
  match last with
  | none => true
  | some t => decide (t + ns ≤ b.tb1)

/-! ## Phase -/

/-- CONFIG_DONE (R400). -/
def Blk.configDone (b : Blk) : Bool := b.flag F.SYS_STATUS_CONFIG_DONE 0

/-- The node is frozen (R446). -/
def Blk.frozen (b : Blk) : Bool := b.flag F.DBG_STATUS_FROZEN 0

/-- AON is powered and its clocks run: the TBU, the housekeeping controller, the sensor front end (R14, R446). -/
def Blk.aonRuns (b : Blk) : Bool := decide (b.mod.phase ≠ .off) && !b.frozen

/-- The compute side is out of reset and its clocks run (R386, R398, R413, R446). -/
def Blk.computeRuns (b : Blk) : Bool :=
  (decide (b.mod.phase = .released) || decide (b.mod.phase = .running)) && !b.frozen

/-- The supply state (R368): 0 NORMAL, 1 CRANK_HOLD, 2 CRANK_SLEEP. -/
def Blk.supply (b : Blk) : Nat := b.fld F.PWR_STATUS_SUPPLY 0

/-- The supply state is NORMAL. -/
def Blk.supplyNormal (b : Blk) : Bool := b.supply == 0

/-- This node's address. -/
def Blk.node (b : Blk) : Nat := b.fld F.SYS_NODE_NODE 0

/-- The block if the condition holds changed by `f`, else unchanged: an event whose condition does not hold has no
effect (log 4). -/
def Blk.when (b : Blk) (c : Bool) (f : Blk → Blk) : Blk := if c then f b else b

/-- The block changed by `f` while AON is powered and the node is not frozen: the effect of a register write, or of an event
of the module's own units (R14, R446). -/
def Blk.live (b : Blk) (f : Blk → Blk) : Blk := b.when b.aonRuns f

/-! ## Memory -/

/-- What a byte of memory that nothing has written since it lost its contents reads as (log 2). -/
def freshByte : Byte := 0

/-- The byte at local address `a`. -/
def Blk.byte (b : Blk) (a : Nat) : Byte := SMap.get b.mem a freshByte

/-- The block with the byte at `a` at `v`. -/
def Blk.setByte (b : Blk) (a : Nat) (v : Byte) : Blk := { b with mem := SMap.put natLt b.mem a v freshByte }

/-- The `n` bytes from `a` as a little-endian number (R6). -/
def Blk.readMem (b : Blk) (a : Nat) : Nat → Nat
  | 0 => 0
  | n + 1 => (b.byte a).toNat + 256 * b.readMem (a + 1) n

/-- The block with `n` bytes from `a` at the little-endian number `v` (R6). -/
def Blk.writeMem (b : Blk) (a : Nat) : Nat → Nat → Blk
  | 0, _ => b
  | n + 1, v => (b.setByte a (BitVec.ofNat 8 v)).writeMem (a + 1) n (v / 256)

/-- The 32-bit word at `a`. -/
def Blk.word (b : Blk) (a : Nat) : Word := BitVec.ofNat 32 (b.readMem a 4)

/-- The block with the 32-bit word at `a` at `v`. -/
def Blk.setWord (b : Blk) (a : Nat) (v : Word) : Blk := b.writeMem a 4 v.toNat

/-- `n` bytes from `a`. -/
def Blk.bytes (b : Blk) (a : Nat) : Nat → List Byte
  | 0 => []
  | n + 1 => b.byte a :: b.bytes (a + 1) n

/-- The block with the bytes `l` from `a`. -/
def Blk.setBytes (b : Blk) (a : Nat) : List Byte → Blk
  | [] => b
  | x :: l => (b.setByte a x).setBytes (a + 1) l

/-- `n` bytes of the number `v`, least significant first. -/
def leBytes : Nat → Nat → List Byte
  | 0, _ => []
  | n + 1, v => BitVec.ofNat 8 v :: leBytes n (v / 256)

/-- The number whose bytes are `l`, least significant first. -/
def ofLeBytes : List Byte → Nat
  | [] => 0
  | x :: l => x.toNat + 256 * ofLeBytes l

/-- A word of an OTP byte memory; an unprogrammed byte reads 0 (R401). -/
def otpByte (m : List Host.Cell) (a : Nat) : Byte := SMap.get m a 0

/-- `n` bytes of OTP from `a`. -/
def otpBytes (m : List Host.Cell) (a : Nat) : Nat → List Byte
  | 0 => []
  | n + 1 => otpByte m a :: otpBytes m (a + 1) n

/-! ## The local address space (R15) -/

/-- Byte address of tile memory `t`. -/
def tileBase (t : Nat) : Nat := 0x08000000 + t * 0x40000

/-- Byte address of the register blocks. -/
def regBase : Nat := 0x40000000

/-- The region of a local address. -/
inductive Region where
  | tile (t : Nat)
  | sramLo
  | sramHi
  | regs
  | dram
deriving DecidableEq, Repr

/-- The region that holds local address `a` (R15), or none where it is unmapped. -/
def regionOf (a : Nat) : Option Region :=
  if 0x08000000 ≤ a ∧ a < 0x08800000 then some (.tile ((a - 0x08000000) / 0x40000))
  else if 0x10000000 ≤ a ∧ a < 0x11000000 then some .sramLo
  else if 0x11000000 ≤ a ∧ a < 0x12000000 then some .sramHi
  else if 0x40000000 ≤ a ∧ a < 0x40120000 then some .regs
  else if 0x1000000000 ≤ a ∧ a < 0x1400000000 then some .dram
  else none

/-- The target of a local address and the byte address at which the target begins (R354). -/
def targetOf (a : Nat) : Option (Nat × Nat) :=
  match regionOf a with
  | some (.tile t) => some (t, tileBase t)
  | some .sramLo => some (32, 0x10000000)
  | some .sramHi => some (33, 0x11000000)
  | some .dram => some (34, 0x1000000000)
  | some .regs =>
    let k := blockAt (a - regBase)
    some (35 + k, regBase + (if k ≤ 2 then k else k + 1) * 0x10000)
  | none => none

/-! ## Free values -/

/-- The block after one free value has been taken. -/
def Blk.took (b : Blk) : Blk := { b with free := b.free + 1 }

/-! ## Samples that streams deliver (R317) -/

/-- The local address at which the samples of stream `s` are delivered, where an enabled entry takes them. -/
def Blk.streamAt (b : Blk) (s : Nat) : Option Nat :=
  ((List.range 1024).find? fun e => b.flag F.SRX_CFG_EN e && b.fld F.SRX_CFG_STREAM e == s).map fun e =>
    b.fld F.SRX_ADDR_HI_ADDR e * 2 ^ 32 + (b.reg .SRX_ADDR_LO e).toNat

/-- The value of the latest sample of stream `s`: flit 0, [31:0]. No entry gives a word with V = 0. -/
def Blk.streamWord (b : Blk) (s : Nat) : Word :=
  match b.streamAt s with
  | some a => b.word a
  | none => 0

/-- The latest navigation record (R266): this node's own on the GNSS host, else the one that stream GNSS_NAV_STREAM has delivered. -/
def Blk.navRec (b : Blk) : List Word :=
  if b.flag F.GNSS_CTRL_HOST 0 then b.gnss.nav
  else
    match b.streamAt (b.fld F.GNSS_NAV_STREAM_STREAM 0) with
    | some a => (List.range 16).map fun k => b.word (a + 4 * k)
    | none => []

/-- STATUS of the latest navigation record (R267). -/
def Blk.navStatus (b : Blk) : Nat := bitsOf (b.navRec.getD 0 0).toNat 28 3

/-! ## Journal pages (R394) -/

/-- Bytes of entries that a 4 KiB page holds behind its 16-byte header. -/
def pageRoom : Nat := 4096 - 16

/-- Bytes in a list of entries. -/
def entryBytes : List JEntry → Nat
  | [] => 0
  | e :: l => e.length + entryBytes l

/-- The pages from the oldest on, without those that a ring of `cap` pages has overwritten (R395). -/
def ringTrim (cap : Nat) : List JPage → List JPage
  | [] => []
  | p :: l => if cap < (p :: l).foldl (fun acc q => acc + q.count) 0 then ringTrim cap l else p :: l

/-- The region with its waiting entries written as one page under set SEQ `seq`, or as the pages of a long entry; the
oldest pages of a full region are overwritten. -/
def JRegion.flush (j : JRegion) (seq : Nat) : JRegion :=
  match j.buf with
  | [] => j
  | _ :: _ =>
    let n := (entryBytes j.buf + pageRoom - 1) / pageRoom
    { j with pages := ringTrim j.cap (j.pages ++ [⟨j.next, n, seq, [], false, j.buf⟩]), buf := [], bufAt := none,
             next := j.next + n }

/-- The pages of a region whose entries count: every page of the unit is whole, and its set is not BAD (R394, R410). -/
def JPage.counts (p : JPage) : Bool := p.torn.isEmpty && !p.void

/-- The entries of a region that count, oldest first, the waiting ones last (R394, R410). -/
def JRegion.all (j : JRegion) : List JEntry :=
  ((j.pages.filter JPage.counts).map (·.entries)).flatten ++ j.buf

/-- The region with entry `e` waiting; a page that is full is written (R394). It is full where no further entry of the region fits: the
entries of a region are of one length, but for map tiles, which have 96 bytes or more. -/
def JRegion.append (j : JRegion) (seq now : Nat) (e : JEntry) : JRegion :=
  let j := if entryBytes j.buf + e.length > pageRoom then j.flush seq else j
  let j := { j with buf := j.buf ++ [e], bufAt := some (j.bufAt.getD now) }
  if entryBytes j.buf + min e.length 96 > pageRoom then j.flush seq else j

/-- The SEQ of the running set (R394). -/
def Blk.runSeq (b : Blk) : Nat := (b.reg .BOOT_SEQ 0).toNat

/-- Append an entry to the fault log of the journal. -/
def Blk.logFault (b : Blk) (r : FaultRec) : Blk :=
  { b with jrn := { b.jrn with faults := b.jrn.faults.append b.runSeq b.tb1 (leBytes 16 r.bits.toNat) } }

/-! ## Fault records (R24 to R27, R416) -/

/-- The record of a fault detected now on this node. -/
def Blk.mkRec (b : Blk) (source cls detail : Nat) (data : Nat) : FaultRec :=
  { time := BitVec.ofNat 48 b.tb1, node := BitVec.ofNat 9 b.node, source := BitVec.ofNat 10 source, count := 1,
    cls := BitVec.ofNat 8 cls, detail := BitVec.ofNat 8 detail, data := BitVec.ofNat 32 data }

/-- A conductor is known: this node, or the one of FAB_STATUS (R332). -/
def Blk.condKnown (b : Blk) : Bool := b.fab.holds || b.flag F.FAB_STATUS_COND_V 0

/-- The record waits for VC3; while no conductor is known, 64 records wait and a further one is dropped (R332). -/
def Blk.holdRec (b : Blk) (r : FaultRec) : Blk :=
  if !b.condKnown ∧ 64 ≤ b.mod.vc3.length then b.addSat F.FAB_FLTQ_DROPPED 0 1
  else { b with mod := { b.mod with vc3 := b.mod.vc3 ++ [r] } }

/-- A record raised after CONFIG_DONE: it enters the fault log, sets its CLASS_SEEN bit and waits for VC3 (R26). -/
def Blk.raiseRec (b : Blk) (r : FaultRec) : Blk :=
  let b := b.logFault r
  (b.setReg .SYS_FAULT_LATCH 0 (b.reg .SYS_FAULT_LATCH 0 ||| BitVec.ofNat 32 (2 ^ r.cls.toNat))).holdRec r

/-- Raise a fault record; before CONFIG_DONE it is held in AON (R26, R416). On a frozen node no clock runs that could (R446). -/
def Blk.raise (b : Blk) (source cls detail : Nat) (data : Nat) : Blk :=
  let r := b.mkRec source cls detail data
  if b.frozen then b
  else if b.configDone then b.raiseRec r else { b with mod := { b.mod with heldRecs := b.mod.heldRecs ++ [r] } }

/-- FAULT_PENDING: a class that asserts FAULT_N has been seen (SYS_STATUS, R27). -/
def Blk.faultPending (b : Blk) : Bool := (b.reg .SYS_FAULT_LATCH 0 &&& b.reg .SYS_FAULT_MASK 0) != 0

/-- FAULT_N is asserted (R27, R386, R398, R413, R435, R446). -/
def Blk.faultN (b : Blk) : Bool :=
  decide (b.mod.phase ≠ .off) &&
    (b.faultPending || decide (b.mod.phase = .thermalHold) || decide (b.mod.phase = .failedHold) ||
      decide (b.mod.phase = .chrysalis) || b.frozen)

end Sys2Proof.Machine
end

