-- ==== Sys2Proof/Machine/Tap.lean ====
section
/-!
DEFINITION. The instructions of the test access ports and what boundary scan does to the pins (R441 to R444).
Readings and choices: logs 49 of notes/assumptions.
-/

namespace Sys2Proof.Machine

/-- TAPs on the chain: the GV512 at 0, ZS8 companions at 1 to 8, ZP16 companions at 9 to 16 (R441). -/
def taps : Nat := 17

/-- The FREEZE_HOLD strap reads 1 (R447). -/
def Blk.holdStrap (b : Blk) : Bool := b.flag F.DBG_STATUS_HOLD_STRAP 0

/-- The opcode for TAP `k` in the 88 bits of the chain's instruction registers, in the order from TDI to TDO (R441). -/
def opcodeFor (ir : BitVec 88) (k : Nat) : Nat :=
  if k = 0 then (ir.extractLsb' 80 8).toNat else (ir.extractLsb' (80 - 5 * k) 5).toNat

/-- The instruction of an opcode in TAP `k` (R442). -/
def tapDecode (k op : Nat) : TapIr :=
  match op with
  | 1 => .idcode
  | 2 => .samplePreload
  | 3 => .extest
  | 4 => .clamp
  | 5 => .highz
  | 6 => if k = 0 then .extestPulse else .bypass
  | 7 => if k = 0 then .extestTrain else .bypass
  | 0x20 => if k = 0 then .dbgAccess else .bypass
  | _ => .bypass

/-- An instruction that takes over pins (R444). -/
def TapIr.takesPins : TapIr → Bool
  | .extest | .clamp | .highz | .extestPulse | .extestTrain => true
  | _ => false

/-- The instruction in force in TAP `k`: IDCODE after Test-Logic-Reset; one that takes over pins is BYPASS without the strap
(R442, R444). -/
def Blk.tapIr (b : Blk) (k : Nat) : TapIr :=
  let i := tapDecode k (SMap.get b.dbg.ir k 1)
  if i.takesPins && !b.holdStrap then .bypass else i

/-- What a pin does under boundary scan. -/
inductive PinDrive where
  /-- What the module does with it. -/
  | free
  | highz
  | level (v : Bool)
  /-- Pulses, or trains of them, of IEEE 1149.6. -/
  | pulse (v : Bool)
  | train (v : Bool)
deriving DecidableEq, Repr

/-- A pin that only observes: an input of the GV512 (R442; log 49). -/
def pinObserves : ScanPin → Bool
  | .csi _ | .fpRx _ => true
  | _ => false

/-- An AC-coupled pin that drives (R442). -/
def pinAcOut : ScanPin → Bool
  | .fpTx _ => true
  | _ => false

/-- The boundary cell of a pin of TAP `k`. -/
def Blk.cell (b : Blk) (k : Nat) (p : ScanPin) : Bool := (SMap.get b.dbg.boundary k []).getD (Config.boundaryCell k p) false

/-- What the instruction of TAP `k` has a pin do (R442, R444): EXTEST_PULSE and EXTEST_TRAIN are EXTEST but on the AC-coupled
pins. -/
def Blk.scanPin (b : Blk) (k : Nat) (p : ScanPin) : PinDrive :=
  if pinObserves p then .free
  else
    match b.tapIr k with
    | .extest | .clamp => .level (b.cell k p)
    | .extestPulse => if pinAcOut p then .pulse (b.cell k p) else .level (b.cell k p)
    | .extestTrain => if pinAcOut p then .train (b.cell k p) else .level (b.cell k p)
    | .highz => .highz
    | _ => .free

/-- The gate of a power switch: the cell where boundary scan drives it, else as the companion would; `off` while a trip or a junction
limit acts (R444). -/
def PinDrive.gate (d : PinDrive) (own off : Bool) : Bool :=
  match d with
  | .level v | .pulse v | .train v => v && !off
  | .highz => false
  | .free => own

/-- The gate of switch channel `c` conducts (R188, R444). -/
def Blk.lswGate (b : Blk) (c : Nat) : Bool :=
  (b.scanPin (9 + c / 16) (.gate (Fin.ofNat 16 c))).gate (b.flag F.LSW_STATUS_OUT c)
    (decide (b.mod.phase = .off) || b.flag F.LSW_STATUS_TRIP_LATCH c || b.flag F.LSW_STATUS_OTEMP c)

/-- The high-side and the low-side gate of valve channel `c` conduct (R155, R165, R444). -/
def Blk.solGates (b : Blk) (c : Nat) : Bool × Bool :=
  let off := decide (b.mod.phase = .off) || b.flag F.SOL_STATUS_TRIP_LATCH c || b.flag F.SOL_STATUS_OTEMP c
  ((b.scanPin (1 + c / 8) (.high (Fin.ofNat 8 c))).gate ((SMap.get b.out.valve c ValveSt.zero).half == .on) off,
    (b.scanPin (1 + c / 8) (.low (Fin.ofNat 8 c))).gate ((SMap.get b.out.valve c ValveSt.zero).half == .recirc) off)

end Sys2Proof.Machine
end

