-- ==== Sys2Proof/Machine/TaskDesc.lean ====
section
/-!
DEFINITION. The task descriptor, the output map and the model block as they stand in tile memory (R54, R62, R65, R87).
Readings and choices: logs 14 of notes/assumptions.
-/

namespace Sys2Proof.Machine

/-- The tile of task `t` (R61). -/
def taskTile (t : Nat) : Nat := t / 128

/-- The engine master ID of task `t` (R61). -/
def taskEng (t : Nat) : Nat := t / 8

/-- The task slot of task `t` in its engine (R61). -/
def taskSlot (t : Nat) : Nat := t % 8

/-- Byte address of offset `off` in the tile memory of task `t`. -/
def taskAddr (t off : Nat) : Nat := tileBase (taskTile t) + off

/-- A word of tile memory as a number. -/
def Blk.tword (b : Blk) (t off : Nat) : Nat := b.readMem (taskAddr t off) 4

/-- A task descriptor (R62) with its deadline descriptor (R54). -/
structure Desc where
  off      : Nat
  progOff  : Nat
  progLen  : Nat
  bankA    : Nat
  bankB    : Nat
  coefN    : Nat
  dlTb     : Nat
  dlEn     : Bool
  backstop : Nat
  dlOffset : Nat
  primary  : Nat
  outN     : Nat
  outmap   : Nat
  mboxEn   : Bool
  mbox     : Nat
  integEn  : Bool
  integ    : Nat
  modelEn  : Bool
  model    : Nat
  fbAddr   : Nat
deriving DecidableEq, Repr

/-- The descriptor of task `t` as tile memory holds it (R62). -/
def Blk.desc (b : Blk) (t : Nat) : Desc :=
  let o := b.fld F.TASK_DESC_DESC_OFF t * 64
  let w := fun k => b.tword t (o + k)
  { off := o, progOff := bitsOf (w 0x00) 0 18, progLen := bitsOf (w 0x30) 0 18,
    bankA := bitsOf (w 0x04) 0 18, bankB := bitsOf (w 0x08) 0 18, coefN := bitsOf (w 0x0C) 0 11,
    dlTb := bitsOf (w 0x14) 28 4, dlEn := (w 0x14).testBit 27, backstop := bitsOf (w 0x14) 0 24,
    dlOffset := w 0x10,
    primary := bitsOf (w 0x18) 24 4, outN := bitsOf (w 0x18) 18 6, outmap := bitsOf (w 0x18) 0 18,
    mboxEn := (w 0x1C).testBit 31, mbox := bitsOf (w 0x1C) 0 18,
    integEn := (w 0x20).testBit 31, integ := bitsOf (w 0x20) 0 18,
    modelEn := (w 0x24).testBit 31, model := bitsOf (w 0x24) 0 18,
    fbAddr := bitsOf (w 0x2C) 0 8 * 2 ^ 32 + w 0x28 }

/-- One entry of an output map (R65). -/
structure OutEntry where
  kind : Nat
  lane : Nat
  id   : Nat
  addr : Nat
  safe : Word
deriving DecidableEq, Repr

/-- Entry `e` of the output map of task `t` (R65). -/
def Blk.outEntry (b : Blk) (t : Nat) (d : Desc) (e : Nat) : OutEntry :=
  let w := fun k => b.tword t (d.outmap + 16 * e + k)
  { kind := bitsOf (w 0) 28 4, lane := bitsOf (w 0) 24 3, id := bitsOf (w 0) 0 24,
    addr := bitsOf (w 8) 0 8 * 2 ^ 32 + w 4, safe := BitVec.ofNat 32 (w 12) }

/-- The output entries 0 to OUT_N − 1 of task `t`, with their numbers. -/
def Blk.outEntries (b : Blk) (t : Nat) (d : Desc) : List (Nat × OutEntry) :=
  (List.range d.outN).map fun e => (e, b.outEntry t d e)

/-- The tasks with a valid descriptor, in ascending order (R62). -/
def Blk.descTasks (b : Blk) : List Nat :=
  b.regs.filterMap fun e => if e.1.1 = .TASK_DESC ∧ F.TASK_DESC_DESC_VALID.get e.2 = 1 then some e.1.2 else none

/-- The SOL (0 to 63) and LSW (64 on) channels that output entries name, with the task of each (R66). -/
def Blk.claims (b : Blk) : List (Nat × Nat) :=
  b.descTasks.flatMap fun t => (b.outEntries t (b.desc t)).filterMap fun x =>
    if x.2.kind = 1 ∧ x.2.id < 64 then some (x.2.id, t)
    else if x.2.kind = 2 ∧ x.2.id < 128 then some (64 + x.2.id, t)
    else none

/-- The task that owns channel `k` (R66); during the configuration read, the first that claims it so far. -/
def Blk.ownerOf (b : Blk) (k : Nat) : Option Nat :=
  if b.configDone then SMap.get b.le.owner k none else (b.claims.find? fun c => c.1 == k).map (·.2)

/-- The state number of task `t` (R71): 0 DISABLED to 5 DRAINING. -/
def Blk.taskState (b : Blk) (t : Nat) : Nat := b.fld F.TASK_STATUS_STATE t

/-- The task slot `t` beyond its registers. -/
def Blk.task (b : Blk) (t : Nat) : TaskSt := SMap.get b.le.tasks t TaskSt.zero

/-- The block with task slot `t` at `x`. -/
def Blk.setTask (b : Blk) (t : Nat) (x : TaskSt) : Blk :=
  { b with le := { b.le with tasks := NMap.set b.le.tasks t x TaskSt.zero } }

/-- The task that runs on engine `e`. -/
def Blk.cur (b : Blk) (e : Nat) : Option Nat := SMap.get b.le.cur e none

/-- The block with task `t` running on engine `e`, or none. -/
def Blk.setCur (b : Blk) (e : Nat) (t : Option Nat) : Blk :=
  { b with le := { b.le with cur := NMap.set b.le.cur e t none } }

/-- The byte offset of the active coefficient bank of task `t` (R81). -/
def Blk.activeBank (b : Blk) (t : Nat) (d : Desc) : Nat := if b.flag F.TASK_STATUS_BANK t then d.bankB else d.bankA

/-- The byte offset of the shadow coefficient bank of task `t` (R81). -/
def Blk.shadowBank (b : Blk) (t : Nat) (d : Desc) : Nat := if b.flag F.TASK_STATUS_BANK t then d.bankA else d.bankB

/-- Bytes of the model block (R87). -/
def modelLen : Nat := 0x64

/-- The byte ranges (offset and length) of its tile that task `t` keeps locked against writes: its content while it is not
DISABLED (R64), its banks from CONFIG_DONE on (R83), its live mailbox words (R73). -/
def Blk.lockedRanges (b : Blk) (t : Nat) : List (Nat × Nat) :=
  if b.flag F.TASK_DESC_DESC_VALID t then
    let d := b.desc t
    let content := if b.taskState t = 0 then []
      else [(d.off, 64), (d.progOff, d.progLen), (d.outmap, 16 * d.outN)] ++
        (if d.modelEn then [(d.model, modelLen)] else [])
    let banks := if b.configDone then (b.activeBank t d, 4 * d.coefN) ::
        (if b.flag F.TASK_STATUS_SWAP_PEND t then [(b.shadowBank t d, 4 * d.coefN)] else [])
      else []
    let live := if d.mboxEn then [(d.mbox, 32)] else []
    content ++ banks ++ live
  else []

/-- Two byte ranges share a byte. -/
def overlaps (a n c m : Nat) : Bool := decide (a < c + m) && decide (c < a + n) && decide (0 < n) && decide (0 < m)

/-- A write of `n` bytes at offset `off` of tile `tile` meets a lock (R64, R73, R83). -/
def Blk.locked (b : Blk) (tile off n : Nat) : Bool :=
  (List.range 128).any fun i => (b.lockedRanges (tile * 128 + i)).any fun r => overlaps off n r.1 r.2

end Sys2Proof.Machine
end

