-- ==== Sys2Proof/Machine/RegRead.lean ====
section
/-!
DEFINITION. What a read of a register returns: the word the block holds, with the fields that mirror other state
filled in from where that state stands.
Readings and choices: logs 5, 6, 15, 34, 41 of notes/assumptions.
-/

namespace Sys2Proof.Machine

/-- Bit s: slot s of engine `e` is READY, or PREEMPTED (ENG_STATUS.READY). -/
def Blk.readySlots (b : Blk) (e : Nat) : Nat :=
  (List.range 8).foldl (fun acc s =>
    let st := b.taskState (e * 8 + s)
    if st = 2 ∨ st = 4 then acc + 2 ^ s else acc) 0

/-- Context word `k` of task `t` (R449). -/
def Blk.ctxWord (b : Blk) (t k : Nat) : Nat :=
  let x := b.task t
  if k < 64 then (SMap.get x.v k 0).toNat
  else if k < 96 then
    let j := k - 64
    (SMap.get x.ac (j / 8 * 4 + j % 8 / 2) 0).toNat / 2 ^ (32 * (j % 2)) % 2 ^ 32
  else if k = 96 then
    (List.range 8).foldl (fun acc n => acc + (if n = 0 then 15 else (SMap.get x.p n 0).toNat) * 16 ^ n) 0
  else if k = 97 then x.flags
  else if k = 98 then x.pc
  else 0

/-- Credits of the wake sequencer for domain `d` (R375). -/
def wakeCredits (d : Nat) : Nat :=
  if d ≤ 31 then 2 else if d ≤ 43 then 1 else if d ≤ 47 then 6 else if d = 48 then 2 else if d ≤ 57 then 1
  else if d ≤ 59 then 4 else if d ≤ 62 then 1 else 4

/-- State of domain `d` (R374): 0 OFF, 1 QUEUED, 2 RAMP, 3 SETTLE, 4 ON, 5 STOPPING. -/
def Blk.pdState (b : Blk) (d : Nat) : Nat := b.fld F.PD_STATUS_STATE d

/-- Domains in state QUEUED (PWR_WAKE). -/
def Blk.pdQueued (b : Blk) : Nat := ((List.range 64).filter fun d => b.pdState d = 1).length

/-- Credits held by domains in RAMP (R374, R376). -/
def Blk.creditsHeld (b : Blk) : Nat :=
  (List.range 64).foldl (fun acc d => if b.pdState d = 2 then acc + wakeCredits d else acc) 0

/-- An ENC channel beyond its registers. -/
def Blk.enc (b : Blk) (e : Nat) : EncSt := SMap.get b.afe.enc e EncSt.zero

/-- The sample word that ENC channel `e` delivers on this tick (R207, R208). -/
def Blk.encWord (b : Blk) (e : Nat) : Word :=
  let x := b.enc e
  reasonWord ((if b.flag F.ENC_CFG_EN e then [] else [1]) ++ (if x.quadErr then [0xB] else []))
    (b.tb1 / 10) x.count

/-- Bit k: ZS8 companion k has a channel that follows its pin (LSW_LIMP). -/
def Blk.zs8Limp (b : Blk) : Nat :=
  (List.range 8).foldl (fun acc k =>
    if (List.range 8).any fun j => (SMap.get b.out.valve (8 * k + j) ValveSt.zero).follow then acc + 2 ^ k else acc) 0

/-- Bit k: ZP16 companion k has a channel that follows its pin (LSW_LIMP). -/
def Blk.zp16Limp (b : Blk) : Nat :=
  (List.range 8).foldl (fun acc k =>
    if (List.range 16).any fun j => b.flag F.LSW_STATUS_LIMP (16 * k + j) then acc + 2 ^ k else acc) 0

/-- The sum of the feed currents, 10 mA (R176). -/
def Blk.feedTotal (b : Blk) : Nat := (List.range 8).foldl (fun acc k => acc + b.fld F.LSW_BANK_FEED_FEED_I k) 0

/-- Age of the corrections in use, 0.1 s, saturating (GNSS_RTCM_STAT). -/
def Blk.corrAge (b : Blk) : Nat :=
  match b.gnss.corrAt with
  | none => 0xFFFF
  | some t => min 0xFFFF ((b.tb1 - t) / 100000000)

/-- Seconds in HOLDOVER, saturating (GNSS_HOLD_STAT). -/
def Blk.holdS (b : Blk) : Nat := min 65535 ((b.tb1 - b.gnss.holdAt) / 1000000000)

/-- Milliseconds since the last entry to TRACK without slip, saturating (CH_LOCK). -/
def Blk.lockMs (b : Blk) (c : Nat) : Nat :=
  match (SMap.get b.gnss.chans c ChanSt.zero).lockAt with
  | 0 => 0
  | t => min 0xFFFFFFFF ((b.tb1 - t) / 1000000)

/-- Open windows of the coalescing table of port `p` (PORT_COAL). -/
def Blk.coalOpen (b : Blk) (p : Nat) : Nat := (SMap.get b.fab.ports p PortSt.zero).coal.length

/-- The master under which a unit of this node makes an access that is master `m` once CONFIG_DONE is 1: before it the unit works
for the boot ROM, which has started it (R357). -/
def Blk.unitMaster (b : Blk) (m : Nat) : Nat := if b.configDone then m else 560

/-- An access that the unit with master `m` made itself still waits (log 6). -/
def Blk.ownWaiting (b : Blk) (m : Nat) : Bool :=
  b.bus.waiting.any fun a => a.who == .unit && a.mid == b.unitMaster m

/-- Pipeline `p` beyond its registers. -/
def Blk.pipe (b : Blk) (p : Nat) : PipeSt := SMap.get b.cam p PipeSt.zero

/-- STATE of a pipeline: 0 DISABLED, 1 ENABLED, 2 DRAINING. One that has closed its last frame drains until its writes are done
(R228). -/
def Blk.camState (b : Blk) (p : Nat) : Nat :=
  if (b.pipe p).ending && !b.ownWaiting (512 + p) then 0 else b.fld F.CAM_STATUS_STATE p

/-- The domains that serve a local address: the access needs one of them ON; none listed means AON or companion supply
(R17, R28; log 5). -/
def domainsOf (addr : Nat) : List Nat :=
  match regionOf addr with
  | some (.tile t) => [t]
  | some .sramHi => [63]
  | some .dram => [if addr < 0x1200000000 then 58 else 59]
  | some .regs =>
    let off := addr - regBase
    match blockAt off with
    | 2 => [(off - 0x20000) / 0x1000]
    | 6 => [32 + (off - 0x70000) / 0x1000]
    | 7 => [44, 45, 46, 47]
    | 8 => [48, 49]
    | 11 => if 0xC0100 ≤ off ∧ off < 0xC0300 then [50 + (off - 0xC0100) / 0x40] else [50, 51, 52, 53, 54, 55, 56, 57]
    | 12 => [62]
    | 15 =>
      if off < 0x100200 then [60]
      else if off < 0x100400 ∨ 0x101000 ≤ off then [61]
      else [60, 61]
    | _ => []
  | _ => []

/-- An admitted access waits in domain `d` (R361). -/
def Blk.pdWaiting (b : Blk) (d : Nat) : Bool := b.bus.waiting.any fun a => (domainsOf a.addr).contains d

/-- A verification runs (R380). -/
def Blk.verifying (b : Blk) : Bool := b.fld F.BOOT_UPD_STATUS_STATE 0 == 1

/-- Work of domain `d` that is pending, besides admitted accesses (R380). -/
def Blk.pdWork (b : Blk) (d : Nat) : Bool :=
  if d ≤ 31 then (List.range 128).any fun i => b.taskState (d * 128 + i) != 0
  else if d ≤ 43 then b.camState (d - 32) != 0
  else if d ≤ 47 then
    (List.range 8).any fun m => (b.fld F.MODEL_CFG_QUADS m).testBit (d - 44) &&
      (b.flag F.FUS_STATUS_STATE 0 || b.flag F.MODEL_STATUS_PEND m)
  else if d ≤ 49 then b.flag F.GNSS_CTRL_EN 0
  else if d ≤ 57 then b.flag F.PORT_CTRL_EN (d - 50)
  else if d = 60 then (List.range 6).any fun e => b.flag F.ETH_CTRL_EN e
  else if d = 61 then (List.range 8).any fun k => b.flag F.CAN_CTRL_EN k
  else if d = 62 then b.configDone || b.verifying
  else false

/-- Pending work of domain `d` (R361, R380). -/
def Blk.pdPending (b : Blk) (d : Nat) : Bool := b.pdWork d || b.pdWaiting d

/-- The bits of a register that a companion reports over the actuator link: STATE of a valve channel; OUT, FEED_UV and LIMP of a
switch channel; the levels of the limp pins; FEED_UV of a bank. -/
def darkBits : RegName → Word
  | .SOL_STATUS => 0x7
  | .LSW_STATUS => 0x3001
  | .LSW_LIMP => 0xFF
  | .LSW_BANK_STATUS => 0x2
  | _ => 0

/-- The word of register `r`, index `i`, as far as it has been reported since reset was released (R11). -/
def Blk.shownReg (b : Blk) (r : RegName) (i : Nat) : Word := if b.out.dark then b.reg r i &&& ~~~ darkBits r else b.reg r i

/-- The word that a read of register `r`, index `i`, returns. -/
def Blk.readReg (b : Blk) (r : RegName) (i : Nat) : Word :=
  let w := b.shownReg r i
  match r with
  | .SYS_STATUS =>
    let w := F.SYS_STATUS_FROZEN.put (F.SYS_STATUS_FAULT_PENDING.put w b.faultPending.toNat) b.frozen.toNat
    F.SYS_STATUS_CRANK_HOLD.put (F.SYS_STATUS_CONDUCTOR.put w b.fab.holds.toNat) (b.supply != 0).toNat
  | .TB_STAT => F.TB_STAT_VALID.put w (b.tbValid i).toNat
  | .TASK_STATUS => F.TASK_STATUS_THR_REQ.put w (b.fld F.TILE_STATUS_THR_REQ (taskTile i))
  | .TILE_STATUS =>
    match SMap.get b.le.grace i none with
    | some t => F.TILE_STATUS_GRACE_MS.put w ((t + 20000000 - b.tb1 + 999999) / 1000000)
    | none => w
  | .ENG_STATUS =>
    let slot := match b.cur i with
      | some t => F.ENG_STATUS_SLOT.put (F.ENG_STATUS_BUSY.put w 1) (taskSlot t)
      | none => w
    F.ENG_STATUS_READY.put slot (b.readySlots i)
  | .CAM_STATUS => F.CAM_STATUS_STATE.put w (b.camState i)
  | .ENC_PERIOD =>
    match (b.enc i).lastAt with
    | some t => if b.tb1 ≥ t + 42949672950 then 0xFFFFFFFF else w
    | none => w
  | .GNSS_TIME_OFS => BitVec.ofInt 32 (satN 32 (b.tbu.tb0Err.tdiv 1000))
  | .GNSS_HOLD_STAT => if b.fld F.GNSS_STATUS_TIME_STATE 0 = 2 then F.GNSS_HOLD_STAT_HOLD_S.put w b.holdS else w
  | .GNSS_RTCM_STAT => F.GNSS_RTCM_STAT_AGE.put w b.corrAge
  | .CH_LOCK => BitVec.ofNat 32 (b.lockMs i)
  | .LSW_LIMP => if b.out.dark || b.dbg.held.isSome then w else F.LSW_LIMP_ZP16_LIMP.put (F.LSW_LIMP_ZS8_LIMP.put w b.zs8Limp) b.zp16Limp
  | .LSW_STATUS => if b.out.dark || b.dbg.held.isSome then w else F.LSW_STATUS_OUT.put w (b.lswGate i).toNat
  | .LSW_TOTAL => BitVec.ofNat 32 b.feedTotal
  | .FAB_COAL_LOCAL => F.FAB_COAL_LOCAL_IN_USE.put w b.fab.coal.length
  | .PORT_COAL => F.PORT_COAL_IN_USE.put w (b.coalOpen i)
  | .FAB_FLTQ => F.FAB_FLTQ_QUEUED.put w (min 64 b.mod.vc3.length)
  | .PD_STATUS => F.PD_STATUS_PENDING.put w (b.pdPending i).toNat
  | .DBG_STATUS => if b.dbg.held.isSome then w else F.DBG_STATUS_PIN.put w b.mod.freezeN.toNat
  | .PWR_WAKE => F.PWR_WAKE_CREDITS.put (F.PWR_WAKE_QUEUED.put w b.pdQueued) b.creditsHeld
  | .DBG_CTX_DATA =>
    if b.frozen then BitVec.ofNat 32 (b.ctxWord (b.fld F.DBG_CTX_SEL_TASK 0) (b.fld F.DBG_CTX_SEL_INDEX 0)) else 0
  | _ => w &&& ~~~ BitVec.ofNat 32 r.masks.wo

/-- The bytes that a read of `n` bytes at local address `a` returns, as a little-endian number (R6, R7). -/
def Blk.readAddr (b : Blk) (a n : Nat) : Nat :=
  if regionOf a = some .regs then
    (List.range (n / 4)).foldl (fun acc k =>
      acc + (match regAt (a - regBase + 4 * k) with
        | some (r, i) => (b.readReg r i).toNat * 2 ^ (32 * k)
        | none => 0)) 0
  else b.readMem a n

end Sys2Proof.Machine
end

