-- ==== Sys2Proof/Machine/FabSend.lean ====
section
/-!
DEFINITION. Sending on the fabric, for every unit of the node: packets of this node, sample streams, and the responses to requests
of other nodes (R304 to R306, R315, R316).
-/

namespace Sys2Proof.Machine

/-- A packet of this node waits for its route and its credit. -/
def Blk.emit (b : Blk) (p : Packet) : Blk := { b with bus := { b.bus with egress := b.bus.egress ++ [p] } }

/-- A packet that this node originates (R304): SRC is the node, DOWN and HOPS are 0. -/
def Blk.newPacket (b : Blk) (type vc dest smaster tag : Nat) (addr : Nat) (sz : Nat) (payload : List (BitVec 128)) :
    Packet :=
  { type := BitVec.ofNat 4 type, vc := BitVec.ofNat 2 vc, dest := BitVec.ofNat 9 dest, src := BitVec.ofNat 9 b.node,
    smaster := BitVec.ofNat 10 smaster, len := BitVec.ofNat 6 payload.length, tag := BitVec.ofNat 6 tag,
    addr := BitVec.ofNat 40 addr, status := 0, sz := BitVec.ofNat 2 sz, down := false, hops := 0, payload := payload }

/-- Fabric time (R335). -/
def Blk.ft (b : Blk) : Nat := b.reg64 .FAB_FT_LO .FAB_FT_HI 0

/-- The enabled destinations of stream entry `e` (R316). -/
def Blk.streamDests (b : Blk) (e : Nat) : List Nat :=
  let two := fun (w : Nat) =>
    (if w.testBit 15 then [bitsOf w 0 9] else []) ++ (if w.testBit 31 then [bitsOf w 16 9] else [])
  two (b.reg .STX_DEST01 e).toNat ++ two (b.reg .STX_DEST23 e).toNat

/-- A producer sends a sample of a stream through the enabled entry that names it (R316). -/
def Blk.sendStream (b : Blk) (stream smaster : Nat) (payload : List (BitVec 128)) : Blk :=
  match (List.range 512).find? fun e => b.flag F.STX_CFG_EN e && b.fld F.STX_CFG_STREAM e == stream with
  | none => b
  | some e =>
    let b' := (b.streamDests e).foldl (fun acc d => acc.emit (b.newPacket 5 1 d smaster 0 stream 3 payload)) b
    b'.incFld F.STX_SENT_SENT e

/-! ## Results that the fabric takes (R306, R315, R318) -/

/-- A response to a request (R304, R306): SMASTER, TAG, channel and the width of read data are the request's. -/
def Blk.response (b : Blk) (op : AccOp) (vc dest sm tag status sz : Nat) (data : BitVec 128) : Packet :=
  let pay := if op = .read ∧ status = 0 then [data] else []
  { b.newPacket (if op = .read then 2 else 4) vc dest sm tag 0 (if op = .read then sz else 0) pay with status := BitVec.ofNat 3 status }

/-- The transfer `x` after a response (R318). -/
def Blk.xferDone (b : Blk) (x status : Nat) : Blk :=
  match SMap.get b.fab.xfers x none with
  | none => b
  | some t =>
    let t := { t with open_ := t.open_ - 1, status := if t.status = 0 then status else t.status }
    { b with fab := { b.fab with xfers := NMap.set b.fab.xfers x (some t) none } }

/-- One access of an inbound request has completed (R315, R317): the response leaves when all have. -/
def Blk.inboundDone (b : Blk) (i : Inbound) (status : Nat) (data : BitVec 128) : Blk :=
  let x := { i with left := i.left - 1, status := if i.status = 0 then status else i.status, data := data }
  let others := b.fab.inbound.erase i
  if x.left = 0 then
    let b := { b with fab := { b.fab with inbound := others } }
    b.emit (b.response x.op x.vc x.src x.sm x.tag x.status x.sz x.data)
  else { b with fab := { b.fab with inbound := others ++ [x] } }

/-- STATUS of a completion (R306). -/
def AccStatus.code : AccStatus → Nat
  | .ok => 0
  | .deny => 1
  | .nak s => s

/-- Results that the fabric takes (R315, R318): of requests of other nodes, and of transfers to this node's own memory. -/
def Blk.takeResults (b : Blk) : List Completion → Blk
  | [] => b
  | c :: l =>
    let b := b.takeResults l
    match c.who with
    | .remote _ src sm tag =>
      match b.fab.inbound.find? (fun i => i.src == src && i.sm == sm && i.tag == tag) with
      | some i => { b with bus := { b.bus with results := b.bus.results.erase c } }.inboundDone i c.status.code c.data
      | none => b
    | .transfer x _ => { b with bus := { b.bus with results := b.bus.results.erase c } }.xferDone x c.status.code
    | _ => b

/-- The fabric takes the results that wait for it. -/
def Blk.respond (b : Blk) : Blk := b.takeResults b.bus.results.reverse

end Sys2Proof.Machine
end

