-- ==== Sys2Proof/Machine/Access.lean ====
section
/-!
DEFINITION. The gate (spec chapter 15): the ordered checks of an access, the refusal and its log, admission.
Readings and choices: logs 5, 6, 66 of notes/assumptions.
-/

namespace Sys2Proof.Machine

/-- IDs that appear on bus requests (R20). -/
def busId (m : Nat) : Bool :=
  decide (m ≤ 523) || (decide (528 ≤ m) && decide (m ≤ 531)) || m == 536 || (decide (540 ≤ m) && decide (m ≤ 547)) ||
    (decide (560 ≤ m) && decide (m ≤ 562)) || (decide (768 ≤ m) && decide (m ≤ 1023))

/-- Width and alignment of an access (R8). -/
def formOk (addr width : Nat) : Bool :=
  (width == 32 || width == 64 || width == 128) && addr % (width / 8) == 0

/-- Every byte of the access is mapped, and every register word of it assigned (R15 to R17). -/
def mappedOk (addr width : Nat) : Bool :=
  match regionOf addr with
  | none => false
  | some .regs => (List.range (width / 32)).all fun k => (regAt (addr - regBase + 4 * k)).isSome
  | some _ => true

/-- A domain that serves the address is ON (R17, R374). -/
def Blk.domainOk (b : Blk) (addr : Nat) : Bool :=
  let l := domainsOf addr
  l.isEmpty || l.any fun d => b.pdState d == 4

/-- Entry `e` of target `t` permits the access (R355, R356). A range of IDs that takes in reserved or unit-only ones still permits its
other IDs; those that no bus request carries match nothing (log 66). -/
def Blk.entryPermits (b : Blk) (t e mid : Nat) (op : AccOp) (first last unit : Nat) : Bool :=
  let i := t * 64 + e
  let w := (b.reg .ACC_ENT0 i).toNat
  w.testBit 31 && (match op with | .read => w.testBit 30 | .write => w.testBit 29) &&
    decide (bitsOf w 0 10 ≤ mid) && decide (mid ≤ bitsOf w 10 10) &&
    decide ((b.reg .ACC_ENT1 i).toNat * unit ≤ first) && decide (last < ((b.reg .ACC_ENT2 i).toNat + 1) * unit)

/-- Bytes in the unit of a target (R354). -/
def targetUnit (t : Nat) : Nat := if t = 32 ∨ t = 33 ∨ t = 34 then 64 else 4

/-- The access table of the target permits the access (R356, R357). -/
def Blk.tablePermits (b : Blk) (mid : Nat) (op : AccOp) (addr width : Nat) : Bool :=
  if b.configDone then
    match targetOf addr with
    | some (t, base) =>
      busId mid && (List.range 64).any fun e =>
        b.entryPermits t e mid op (addr - base) (addr - base + width / 8 - 1) (targetUnit t)
    | none => false
  else decide (560 ≤ mid) && decide (mid ≤ 562)

/-- The access covers one of the log registers that only the security tenant may use (R362). -/
def coversLog (addr width : Nat) : Bool :=
  regionOf addr == some .regs &&
    (List.range (width / 32)).any fun k =>
      match regAt (addr - regBase + 4 * k) with
      | some (.ACC_LOG_RD, _) | some (.ACC_LOG_WR, _) | some (.ACC_LOG_LOST, _) | some (.ACC_REFUSED, _) => true
      | _ => false

/-- The engine of the task that owns a channel word which the access writes is not the requester (R22). -/
def Blk.notOwner (b : Blk) (mid : Nat) (addr width : Nat) : Bool :=
  regionOf addr == some .regs &&
    (List.range (width / 32)).any fun k =>
      match regAt (addr - regBase + 4 * k) with
      | some (.SOL_SP, c) => (SMap.get b.le.owner c none).map taskEng != some mid
      | some (.LSW_CMD, c) => (SMap.get b.le.owner (64 + c) none).map taskEng != some mid
      | _ => false

/-- The access meets a lock of R64, R73 or R83. -/
def Blk.meetsLock (b : Blk) (addr width : Nat) : Bool :=
  match regionOf addr with
  | some (.tile t) => b.locked t (addr - tileBase t) (width / 8)
  | _ => false

/-- The first check of R359 that the access fails, by its DETAIL; the tenant-map check is made by the caller between
`formCheck` and this. Check 7 begins with CONFIG_DONE, which fixes the owners, and check 6 holds before (log 66). -/
def Blk.lateCheck (b : Blk) (mid : Nat) (op : AccOp) (addr width : Nat) : Option Nat :=
  if !b.tablePermits mid op addr width || (coversLog addr width && mid != b.fld F.ACC_CFG_SEC_TENANT 0) then some 4
  else if !b.domainOk addr then some 5
  else if op = .write ∧ b.meetsLock addr width then some 6
  else if op = .write ∧ b.configDone ∧ b.notOwner mid addr width then some 7
  else none

/-- Checks 1 and 2 of R359. -/
def formCheck (addr width : Nat) : Option Nat :=
  if !formOk addr width then some 1 else if !mappedOk addr width then some 2 else none

/-- The gate's answer to a local access: the DETAIL of the refusal, or none (R359). -/
def Blk.gate (b : Blk) (mid : Nat) (op : AccOp) (addr width : Nat) : Option Nat :=
  match formCheck addr width with
  | some d => some d
  | none => b.lateCheck mid op addr width

/-- Bit 31 of the DATA of a refusal: 1 for a write (R365). -/
def AccOp.bit : AccOp → Nat
  | .read => 0
  | .write => 1

/-- DATA of a refusal other than NO_TENANT (R365). -/
def denyData (op : AccOp) (addr : Nat) : Nat :=
  match targetOf addr with
  | some (t, base) => op.bit * 2 ^ 31 + t * 2 ^ 25 + (addr - base) / 64 % 2 ^ 25
  | none => op.bit * 2 ^ 31 + 63 * 2 ^ 25 + addr / 64 % 2 ^ 25

/-- LOG_N as used: 16 to 4096 (ACC_LOG_N). -/
def Blk.logN (b : Blk) : Nat := max 16 (min 4096 (b.fld F.ACC_LOG_N_LOG_N 0))

/-- Address of the refusal ring (R364). -/
def Blk.logAddr (b : Blk) : Nat := b.fld F.ACC_LOG_HI_LOG_ADDR 0 * 2 ^ 32 + b.fld F.ACC_LOG_LO_LOG_ADDR 0

/-- Records between ACC_LOG_RD and ACC_LOG_WR (R363). -/
def Blk.logFill (b : Blk) : Nat := ((b.reg .ACC_LOG_WR 0) - (b.reg .ACC_LOG_RD 0)).toNat

/-- The security engine can write the ring: its domain is ON and the node is not frozen (R380, R449). -/
def Blk.logRuns (b : Blk) : Bool := b.pdState 62 == 4 && !b.frozen

/-- A row takes this result: for an HPC write only a refusal (R125); outputs, deliveries and other unit accesses take
none. -/
def Completion.taken (c : Completion) : Bool :=
  match c.who with
  | .hpc _ => decide (c.status ≠ .ok)
  | .out _ _ | .stream _ | .unit => false
  | _ => true

/-- Add the result of an access, where a row takes it. -/
def Blk.answer (b : Blk) (c : Completion) : Blk :=
  if c.taken then { b with bus := { b.bus with results := b.bus.results ++ [c] } } else b

/-- The admitted access waits at its target (R361). -/
def Blk.enqueue (b : Blk) (a : Access) : Blk := { b with bus := { b.bus with waiting := b.bus.waiting ++ [a] } }

/-- The target that a local address lies in (R354). -/
def targetNo (addr : Nat) : Option Nat := (targetOf addr).map (·.1)

/-- The LECLK edge on which an access that a unit makes now arrives at the target of `addr`: after those that wait there, and no
sooner than the edge on which the target accepts again (log 6). -/
def Blk.edgeNow (b : Blk) (addr : Nat) : Nat :=
  match targetNo addr with
  | none => 0
  | some t =>
    (b.bus.waiting.filter fun a => targetNo a.addr == some t).foldl (fun m a => max m (a.edge + 1))
      (SMap.get b.bus.lastEdge t 0)

/-- Access `x` is accepted before access `y`, which was admitted earlier (R19). -/
def Access.first (x y : Access) : Bool := decide (x.edge < y.edge) || (x.edge == y.edge && decide (x.mid < y.mid))

/-- The accesses with `a` in its place in the order of acceptance. -/
def Access.place (a : Access) : List Access → List Access
  | [] => [a]
  | x :: l => if a.first x then a :: x :: l else x :: Access.place a l

/-- A memory target performs an access. -/
def Blk.serveMem (b : Blk) (a : Access) : Blk :=
  match a.op with
  | .read => b.answer ⟨a.who, .read, .ok, BitVec.ofNat 128 (b.readMem a.addr (a.width / 8))⟩
  | .write => (b.writeMem a.addr (a.width / 8) (a.data.toNat % 2 ^ a.width)).answer ⟨a.who, .write, .ok, 0⟩

/-- The queue of the DRAM channel of `addr` stalls: its channel is in band 3 (R388). -/
def Blk.stalled (b : Blk) (addr : Nat) : Bool :=
  targetNo addr == some 34 && b.fld (if addr < 0x1200000000 then F.PWR_DRAM_BAND0 else F.PWR_DRAM_BAND1) 0 == 3

/-- What waits, as what target `t` performs now and what still waits, each in order: a hot DRAM channel stalls, and a unit's own
accesses after one that waits wait too (R388, log 6). `held` are the masters of units with an access that waits. -/
def Blk.splitWaiting (b : Blk) (t : Nat) : List Access → List Nat → List Access × List Access
  | [], _ => ([], [])
  | a :: l, held =>
    let own := a.who == .unit
    if targetNo a.addr == some t && !b.stalled a.addr && !(own && held.contains a.mid) then
      let r := b.splitWaiting t l held
      (a :: r.1, r.2)
    else
      let r := b.splitWaiting t l (if own then a.mid :: held else held)
      (r.1, a :: r.2)

/-- A unit's access to memory at `addr` is accepted now: the target has performed what waited there, but for what a hot DRAM
channel stalls, in order and one access an edge, the unit's own last (R19, log 6). Requests of other nodes among them are answered.
Register targets perform what waits on ACCESS_ACCEPT. -/
def Blk.settleMem (b : Blk) (addr : Nat) : Blk :=
  if regionOf addr = some .regs then b
  else
    match targetNo addr with
    | none => b
    | some t =>
      let r := b.splitWaiting t b.bus.waiting []
      let l := r.1.foldl (fun l a => Access.place a l) []
      let e := l.foldl (fun m a => max m a.edge + 1) (SMap.get b.bus.lastEdge t 0)
      let b' := l.foldl Blk.serveMem { b with bus := { b.bus with
        waiting := r.2, lastEdge := NMap.set b.bus.lastEdge t (e + 1) 0 } }
      if l.isEmpty then b' else b'.respond

/-- Count and record a refusal (R363). The record is a unit's write to lower shared SRAM, behind what waits there (log 6). -/
def Blk.refuse (b : Blk) (source detail data : Nat) : Blk :=
  let b := b.incFld F.ACC_REFUSED_REFUSED 0
  if !b.configDone && !b.frozen then b
  else if b.logRuns && b.logFill != b.logN then
    let r := b.mkRec source 0x0E detail data
    let a := b.logAddr + (b.reg .ACC_LOG_WR 0).toNat % b.logN * 16
    let b' := (b.settleMem a).writeMem a 16 r.bits.toNat
    b'.incFld F.ACC_LOG_WR_WR 0
  else b.addSat F.ACC_LOG_LOST_LOST 0 1

/-- A local access reaches the gate of its target: admitted, or refused with zeros (R359, R360, R361). -/
def Blk.submit (b : Blk) (a : Access) : Blk :=
  match b.gate a.mid a.op a.addr a.width with
  | none => b.enqueue a
  | some d => (b.refuse a.mid d (denyData a.op a.addr)).answer ⟨a.who, a.op, .deny, 0⟩

/-- The entry of ingress port `p`'s tenant map that holds the pair, as its proxy ID (R358). -/
def Blk.tenant (b : Blk) (p src smaster : Nat) : Option Nat :=
  (List.range 64).findSome? fun k =>
    let w := (b.reg .ACC_TMAP (p * 64 + k)).toNat
    if w.testBit 31 ∧ bitsOf w 22 9 = src ∧ bitsOf w 12 10 = smaster then some (bitsOf w 0 10) else none

/-- A request of another node reaches the gate of its target through port `p` (R315, R358, R359). -/
def Blk.submitRemote (b : Blk) (p src smaster tag : Nat) (op : AccOp) (addr width : Nat) (data : BitVec 128)
    (edge : Nat) : Blk :=
  let who := Requester.remote p src smaster tag
  let px := b.tenant p src smaster
  let source := px.getD (540 + p)
  match formCheck addr width with
  | some d => (b.refuse source d (denyData op addr)).answer ⟨who, op, .deny, 0⟩
  | none =>
    match px with
    | none =>
      (b.refuse source 3 (op.bit * 2 ^ 31 + p * 2 ^ 28 + src * 2 ^ 19 + smaster * 2 ^ 9)).answer ⟨who, op, .deny, 0⟩
    | some m =>
      match b.lateCheck m op addr width with
      | some d => (b.refuse m d (denyData op addr)).answer ⟨who, op, .deny, 0⟩
      | none => b.enqueue ⟨who, m, op, addr, width, data, edge⟩

/-- A unit's access to a 49-bit global address (R18): on this node it goes to the local gate, else to the fabric; one that breaks
R8 is refused before it leaves (R114). -/
def Blk.submitGlobal (b : Blk) (who : Requester) (mid : Nat) (op : AccOp) (gaddr width : Nat) (data : BitVec 128) : Blk :=
  if gaddr / 2 ^ 40 % 512 = b.node then
    b.submit ⟨who, b.unitMaster mid, op, gaddr % 2 ^ 40, width, data, b.edgeNow (gaddr % 2 ^ 40)⟩
  else if !formOk (gaddr % 2 ^ 40) width then
    (b.refuse mid 1 (denyData op (gaddr % 2 ^ 40))).answer ⟨who, op, .deny, 0⟩
  else
    { b with bus := { b.bus with
      remote := b.bus.remote ++ [⟨who, mid, op, gaddr / 2 ^ 40 % 512, gaddr % 2 ^ 40, width, data⟩] } }

/-- A write of the unit with master `m` to memory at `addr` has to wait: the DRAM channel stalls, or an earlier write of the unit
waits, which it does not overtake (R388, log 6). -/
def Blk.unitHeld (b : Blk) (m addr : Nat) : Bool := b.stalled addr || (b.settleMem addr).ownWaiting m

/-- A unit's read of `width` bits at `a` as master `m` is admitted and waits in the queue of a stalled DRAM channel: the unit waits
with it (R388). -/
def Blk.readWaits (b : Blk) (m a width : Nat) : Bool :=
  b.stalled a && (b.gate (b.unitMaster m) .read a width).isNone

/-- One of `n` reads of 16 bytes from `a` waits (R388). -/
def Blk.readsWait (b : Blk) (m a n : Nat) : Bool := (List.range n).any fun k => b.readWaits m (a + 16 * k) 128

/-- A write of 4, 8 or 16 bytes that a unit of this node makes: checked at the gate, and where it is admitted in memory behind
what waits there (log 6). Answers whether it was admitted. -/
def Blk.unitWrite (b : Blk) (m addr : Nat) (l : List Byte) : Blk × Bool :=
  let mid := b.unitMaster m
  match b.gate mid .write addr (8 * l.length) with
  | some d => (b.refuse mid d (denyData .write addr), false)
  | none =>
    if regionOf addr = some .regs ∨ b.unitHeld m addr then
      (b.enqueue ⟨.unit, mid, .write, addr, 8 * l.length, BitVec.ofNat 128 (ofLeBytes l), b.edgeNow addr⟩, true)
    else ((b.settleMem addr).setBytes addr l, true)

/-- Bytes that a unit writes from a 16-byte aligned address, as 128-bit writes; the last write carries what is left.
Answers whether every write was admitted. -/
def Blk.unitWrites (b : Blk) (m addr : Nat) : Nat → List Byte → Blk × Bool
  | 0, _ => (b, true)
  | n + 1, l =>
    if l.isEmpty then (b, true)
    else
      let mid := b.unitMaster m
      let part := l.take 16
      let (b, ok) :=
        match b.gate mid .write addr 128 with
        | some d => (b.refuse mid d (denyData .write addr), false)
        | none =>
          if b.unitHeld m addr then
            (b.enqueue ⟨.unit, mid, .write, addr, 8 * part.length, BitVec.ofNat 128 (ofLeBytes part), b.edgeNow addr⟩, true)
          else ((b.settleMem addr).setBytes addr part, true)
      let (b, ok') := b.unitWrites m (addr + 16) n (l.drop 16)
      (b, ok && ok')

/-- TARGET_ACCESS (R359): an access reaches its gate. -/
def Blk.targetAccess (b : Blk) (o : Origin) (write : Bool) (addr width : Nat) (data : BitVec 128) (edge : Nat) : Blk :=
  b.when (decide (b.mod.phase ≠ .off) && !b.frozen) fun b =>
    let op := if write then AccOp.write else AccOp.read
    match o with
    | .here mid tag => b.submit ⟨.master tag, mid.toNat, op, addr, width, data, edge⟩
    | .remote p src sm tag => b.submitRemote p.val src.toNat sm.toNat tag op addr width data edge

/-- LOG_READ_ADVANCE (R363): a value that would move RD back or past WR is ignored. -/
def Blk.logReadAdvance (b : Blk) (v : Word) : Blk :=
  b.when (decide ((v - b.reg .ACC_LOG_RD 0).toNat ≤ b.logFill)) fun b => b.setReg .ACC_LOG_RD 0 v

/-- FAULT_RECORD_SEND (R26, R332, R370): whether the oldest held record may leave. -/
def Blk.vc3Open (b : Blk) (conductor : Bool) : Bool := conductor && b.supplyNormal && b.computeRuns

/-- CLASS_SEEN_CLEAR (R27): a write of 1 clears a CLASS_SEEN bit. -/
def Blk.classSeenClear (b : Blk) (bits : Word) : Blk :=
  b.setReg .SYS_FAULT_LATCH 0
    (b.reg .SYS_FAULT_LATCH 0 &&& ~~~ (bits &&& BitVec.ofNat 32 RegName.SYS_FAULT_LATCH.masks.w1c))

/-- `n` units of 16 bytes read from `a` by the unit that is master `m`: zeros and a refusal where the gate refuses (R359, R360). -/
def Blk.xdRead (b : Blk) (m a : Nat) : Nat → Blk × List (BitVec 128) × Bool
  | 0 => (b, [], true)
  | n + 1 =>
    let mid := b.unitMaster m
    let (b, v, ok) := match b.gate mid .read a 128 with
      | some d => (b.refuse mid d (denyData .read a), (0 : BitVec 128), false)
      | none => (b.settleMem a, BitVec.ofNat 128 ((b.settleMem a).readAddr a 16), true)
    let (b, l, ok') := b.xdRead m (a + 16) n
    (b, v :: l, ok && ok')

end Sys2Proof.Machine
end

