-- ==== Sys2Proof/Machine/BlkReset.lean ====
section
/-!
DEFINITION. The block right after reset (R11): every register at its reset value, and everything else as a module has it whose
config store and OTP are blank.
Readings and choices: logs 1, 22, 23 of notes/assumptions.
-/

namespace Sys2Proof.Machine

/-- A journal region of `n` pages of 4 KiB without its bad blocks of 32 pages (R393, R394). -/
def freshRegion (r n : Nat) : JRegion := JRegion.empty (n - 32 * (Config.badBlocks r).val)

/-- The journal without entries. -/
def Journal.reset : Journal :=
  { ledger := freshRegion 0 4096, faults := freshRegion 1 4096, tiles := freshRegion 2 61440, fields := freshRegion 3 2048,
    checks := freshRegion 4 1536 }

/-- The module as a whole when reset is released: the supply has just become NORMAL (R368). -/
def ModSt.reset : ModSt :=
  { phase := .released, heldRecs := [], vc3 := [], freezeN := true, recoverN := true, holdStrap := false, vbat := 6500,
    vbatLow := 6500 }

/-- No access on the way. -/
def BusSt.reset : BusSt := { waiting := [], results := [], lastEdge := [], remote := [], egress := [] }

/-- The block right after reset. -/
def Blk.reset : Blk :=
  { regs := [], mem := [], otp := [], mod := .reset, bus := .reset, jrn := .reset, tbu := .reset, le := .reset, afe := .reset,
    hpc := .reset, out := .reset, cam := [], fus := .reset, gnss := .reset, yld := .reset, fab := .reset, net := .reset,
    pwr := .reset, boot := .reset, dbg := .reset, free := 0 }

end Sys2Proof.Machine
end

