-- ==== Sys2Proof/Machine/State.lean ====
section
/-!
DEFINITION. The state of the machine: the block and the queue of the commands that wait.
-/

namespace Sys2Proof.Machine

/-- Why a run stops with a fault. -/
inductive Fault where
  /-- Raised by nothing: every command of the spec has an effect on every state. Safe: a run that stops claims less than one
  that goes on. -/
  | stopped
deriving DecidableEq, Repr

/-- Why a command has no meaning. -/
inductive Refusal where
  /-- Raised by the arm of a command that has no meaning yet, with its mnemonic. Safe: no claim can be made about it. -/
  | notModelled (mnemonic : String)
deriving DecidableEq, Repr

/-- The module, with the queue of the commands that wait, first in, first out. -/
structure State where
  pending : List Instr
  blk     : Blk
deriving DecidableEq, Repr

/-- The machine right after reset: the supply has just come, RSTN is released and the boot procedure has not run (R397). -/
def State.reset : State := { pending := [], blk := Blk.reset }

/-- The next state when a command changes the block by `f`. -/
def State.run (s : State) (f : Blk → Blk) : Host.Outcome State Fault Refusal := .next { s with blk := f s.blk }

end Sys2Proof.Machine
end

