-- ==== Sys2Proof/Machine/AccessRows.lean ====
section
/-!
DEFINITION. The meanings of the commands whose operations stand in Machine/Access.lean, one for each row.
-/

namespace Sys2Proof.Machine

/-- TARGET_ACCESS: An access reaches the gate of its target and passes through the ordered checks that admit or refuse
  it. (R359) -/
def execTargetAccess (origin : Origin) (write : Bool) (addr : BitVec 40) (width : Nat) (data : BitVec 128) (edge : Nat) (s : State) :
    Host.Outcome State Fault Refusal :=
  s.run fun b => b.targetAccess origin write addr.toNat width data edge

/-- CLASS_SEEN_CLEAR: A W1C write to SYS_FAULT_LATCH clears class bits and releases FAULT_N once FAULT_PENDING returns
  to 0. (R27) -/
def execClassSeenClear (bits : Word) (s : State) : Host.Outcome State Fault Refusal :=
  s.run fun b => b.live fun b => b.classSeenClear bits

/-- LOG_READ_ADVANCE: A write of ACC_LOG_RD advances the read index if it stays between RD and WR. (R363) -/
def execLogReadAdvance (v : Word) (s : State) : Host.Outcome State Fault Refusal :=
  s.run fun b => b.live fun b => b.logReadAdvance v

end Sys2Proof.Machine
end

