-- ==== Sys2Proof/Machine/Tbu.lean ====
section
/-!
DEFINITION. The Timebase Unit (spec chapter 02): the tick, built timebases, event slots, windows.
Readings and choices: logs 9 to 11, 24, 60 of notes/assumptions.
-/

namespace Sys2Proof.Machine

/-! ## Built timebases (R33 to R41) -/

/-- Position units in one count: half a 65 536th of a count, times 100 000 steps of 1 + SLIP (R36, R41). -/
def posUnit : Int := 13107200000

/-- Built timebase `n` beyond its registers. -/
def Blk.built (b : Blk) (n : Nat) : Built := SMap.get b.tbu.built n Built.zero

/-- The block with built timebase `n` at `x`. -/
def Blk.setBuilt (b : Blk) (n : Nat) (x : Built) : Blk :=
  { b with tbu := { b.tbu with built := NMap.set b.tbu.built n x Built.zero } }

/-- The width over which timebase `n` wraps (R33). -/
def Blk.tbWidth (b : Blk) (n : Nat) : Nat :=
  if n ≤ 2 then 64 else if n = 3 then 48 else if n ≤ 5 then 64 else if b.fld F.TB_CFG_KIND n = 2 then 64 else 48

/-- Timebase `n` is angular: TB4, TB5, and TB6 to TB15 of KIND 2 (R33, R34). -/
def Blk.tbAngular (b : Blk) (n : Nat) : Bool := decide (4 ≤ n) && b.fld F.TB_CFG_KIND n == 2

/-- Position units that one source pulse of timebase `n` is worth (R36, R41): half of TB_SCALE where a linear timebase
has two sources; TB3 is multiplied by 1 + SLIP. -/
def Blk.pulseStep (b : Blk) (n : Nat) : Int :=
  let half : Int := if b.fld F.TB_CFG_KIND n = 1 ∧ b.flag F.TB_CFG_SRC_B_EN n then 1 else 2
  let slip : Int := if n = 3 then b.sfld F.TB3_SLIP_SLIP 0 else 0
  (b.fld F.TB_SCALE_SCALE n : Int) * half * (100000 + slip)

/-- The pulse count of built timebase `n` at TB1 `now` with its interpolation, in units, and whether it holds short of the next
pulse (R37, R39). Interpolation runs from `base` at the last pulse's step per last interval, and stops one count short of the next
pulse's position; after a stall it stays at `base`, and holds if it had stopped there. -/
def Blk.rawCourse (b : Blk) (n now : Nat) : Int × Bool :=
  let x := b.built n
  let step := b.pulseStep n
  match b.flag F.TB_CFG_INTERP n, b.flag F.TB_STAT_STALLED n, x.ival with
  | true, false, some iv =>
    let adv := step * ((now - x.baseAt : Nat) : Int) / (iv : Int)
    if x.up then
      let cap := max x.base (x.pos + step - posUnit)
      if x.base + adv ≥ cap then (cap, true) else (x.base + adv, false)
    else
      let cap := min x.base (x.pos - step + posUnit)
      if x.base - adv ≤ cap then (cap, true) else (x.base - adv, false)
  | true, true, some _ =>
    (x.base, if x.up then decide (x.pos + step - posUnit ≤ x.base) else decide (x.base ≤ x.pos - step + posUnit))
  | _, _, _ => (x.base, false)

/-- The course of built timebase `n` at TB1 `now`: its position in units, and whether it holds (R37, R39, R40). After an index
that lay behind, the value holds until the pulse count, set back to OFFSET at that index, has come up to it (log 60). -/
def Blk.course (b : Blk) (n now : Nat) : Int × Bool :=
  let x := b.built n
  let raw := b.rawCourse n now
  match x.hold with
  | some h =>
    if x.up then (if raw.1 < h * posUnit then (h * posUnit, true) else raw)
    else (if raw.1 ≥ (h + 1) * posUnit then (h * posUnit, true) else raw)
  | none => raw

/-- Whole counts of a position. -/
def counts (p : Int) : Int := p.fdiv posUnit

/-- A position reduced to the timebase's width, as TB_VALUE shows it (R33, R34). -/
def wrapCounts (w : Nat) (p : Int) : Nat := (counts p % (2 ^ w : Int)).toNat

/-- A built timebase is valid (R35). -/
def Blk.builtValid (b : Blk) (n : Nat) : Bool :=
  let kind := b.fld F.TB_CFG_KIND n
  let a := b.fld F.TB_CFG_SRC_A n
  let on := fun c => b.flag F.ENC_CFG_EN c
  b.configDone && (kind == 1 || kind == 2) && b.fld F.TB_SCALE_SCALE n != 0 && on a &&
    (!b.flag F.TB_CFG_QUAD n || on (a + 1)) && (!b.flag F.TB_CFG_SRC_B_EN n || on (b.fld F.TB_CFG_SRC_B n))

/-- Interpolation has reached the position of the next pulse, or is not running (R38): the interpolated value as it is now, without
the limit of R37; after a stall, whether it had stopped at that limit (log 10). -/
def Blk.reached (b : Blk) (n : Nat) : Bool :=
  let x := b.built n
  let step := b.pulseStep n
  match x.ival with
  | some iv =>
    if b.flag F.TB_STAT_STALLED n then (b.rawCourse n b.tb1).2
    else
      let adv := step * ((b.tb1 - x.baseAt : Nat) : Int) / (iv : Int)
      if x.up then decide (x.pos + step ≤ x.base + adv) else decide (x.base - adv ≤ x.pos - step)
  | none => true

/-- A source pulse of timebase `n` (R36 to R39), from SRC_B where `srcB`, of the quadrature direction `fwd` where it comes from a
quadrature pair. It never moves the value against the direction of the pulse. Where the pulse before it came on the same tick,
the interval before that one stays the rate's; a pulse of the other direction ends a hold after an index at once, and the value takes
the pulse's position (log 60). -/
def Blk.addPulse (b : Blk) (n : Nat) (srcB fwd : Bool) : Blk :=
  b.when (decide (3 ≤ n) && b.builtValid n) fun b =>
    let x := b.built n
    let now := b.tb1
    let quad := b.flag F.TB_CFG_QUAD n
    let dir := if quad then (if srcB then x.fwd else fwd) else true
    let step := b.pulseStep n
    let stalled := b.flag F.TB_STAT_STALLED n
    let ival := if stalled then none else x.last.bind fun t => if now > t then some (now - t) else x.ival
    let pos := if dir then x.pos + step else x.pos - step
    let cur := (b.rawCourse n now).1
    let base := if dir != x.up then pos else if dir then max pos cur else min pos cur
    let lag := b.flag F.TB_CFG_INTERP n && dir == x.up && !b.reached n
    let hold := x.hold.filter fun h => dir == x.up &&
      (if dir then decide (counts pos < h) else decide (h < counts pos))
    let b := b.setBuilt n { x with
      pos := pos, base := base, baseAt := now, last := some now, ival := ival, up := dir, hold := hold, quiet := now,
      fwd := if quad && !srcB then fwd else x.fwd }
    let b := if lag then b.setFld F.TB_STAT_STEP_FWD n 1 else b
    (b.setFld F.TB_STAT_STALLED n 0).setFlag F.TB_STAT_REVERSE n (!dir)

/-- The index pulse of an angular timebase (R40): the pulse count takes the place of OFFSET nearest to the value shown, which
steps there if it lies ahead and holds if it lies behind. -/
def Blk.addIndex (b : Blk) (n : Nat) : Blk :=
  b.when (b.tbAngular n && b.builtValid n) fun b =>
    let x := b.built n
    let now := b.tb1
    let raw := counts (b.rawCourse n now).1
    let cur := counts (b.course n now).1
    let off : Int := b.fld F.TB_INDEX_OFFSET n
    let d : Int := if x.up then (off - cur) % 65536 else (cur - off) % 65536
    if d = 0 then b
    else if d ≤ 32767 then
      let shift := (cur + (if x.up then d else -d) - raw) * posUnit
      let b := b.setBuilt n { x with pos := x.pos + shift, base := x.base + shift, hold := none }
      b.setFld F.TB_STAT_STEP_FWD n 1
    else
      let back := 65536 - d
      let shift := (cur + (if x.up then -back else back) - raw) * posUnit
      b.setBuilt n { x with pos := x.pos + shift, base := x.base + shift, hold := some cur }

/-- The first pulse that waits for timebase `n`, and the block without it. -/
def Blk.takePulse (b : Blk) (n : Nat) : Option (Pulse × Blk) :=
  match b.tbu.pulses.find? (·.tb = n) with
  | none => none
  | some p => some (p, { b with tbu := { b.tbu with pulses := b.tbu.pulses.erase p } })

/-- A pulse takes effect (R36, R40). -/
def Blk.addAny (b : Blk) (p : Pulse) : Blk := if p.index then b.addIndex p.tb else b.addPulse p.tb p.srcB p.fwd

/-- SOURCE_PULSE (R36 to R39): the first pulse that waits for timebase `n` is a source pulse. -/
def Blk.sourcePulse (b : Blk) (n : Nat) : Blk :=
  b.when b.aonRuns fun b =>
    match b.takePulse n with
    | some (p, b') => if p.index then b else b'.addPulse n p.srcB p.fwd
    | none => b

/-- INDEX_PULSE (R40): the first pulse that waits for timebase `n` is an index pulse. -/
def Blk.indexPulse (b : Blk) (n : Nat) : Blk :=
  b.when b.aonRuns fun b =>
    match b.takePulse n with
    | some (p, b') => if p.index then b'.addIndex n else b
    | none => b

/-- The pulses still waiting take effect, oldest first. -/
def Blk.addPulses (b : Blk) : Blk :=
  b.tbu.pulses.foldl Blk.addAny { b with tbu := { b.tbu with pulses := [] } }

/-- TB_STALL_EXPIRY (R39): no pulse for TB_STALL milliseconds; the position stays where interpolation had brought it. -/
def Blk.tbStallExpiry (b : Blk) (n : Nat) : Blk :=
  let x := b.built n
  let kind := b.fld F.TB_CFG_KIND n
  b.when (decide (3 ≤ n) && b.aonRuns && (kind == 1 || kind == 2) && !b.flag F.TB_STAT_STALLED n &&
      decide (x.quiet + b.fld F.TB_STALL_STALL_MS n * 1000000 ≤ b.tb1)) fun b =>
    let cur := (b.course n b.tb1).1
    (b.setBuilt n { x with base := cur, baseAt := b.tb1 }).setFld F.TB_STAT_STALLED n 1

/-! ## The tick (R32, R42, R44 to R53) -/

/-- A difference of two timebase values, modulo 2^w, as a signed number (R44). -/
def sdiff (w x y : Nat) : Int := (BitVec.ofNat w x - BitVec.ofNat w y).toInt

/-- A slot's comparison is met on a movement from `s0` to `s1` (R44): `dir` 0 UP, 1 DOWN, 2 BOTH. -/
def slotMet (w dir count s0 s1 : Nat) : Bool :=
  let m := sdiff w s1 s0
  let c := sdiff w count s0
  let up := decide (0 < m) && decide (0 < c) && decide (c ≤ m)
  let dn := decide (m < 0) && decide (m ≤ c) && decide (c < 0)
  match dir with
  | 0 => up
  | 1 => dn
  | 2 => up || dn
  | _ => false

/-- COUNT is at or past `s0` in the slot's direction (R46). -/
def atOrPast (w dir count s0 : Nat) : Bool :=
  let c := sdiff w count s0
  match dir with
  | 0 => decide (c ≤ 0)
  | 1 => decide (0 ≤ c)
  | 2 => decide (c = 0)
  | _ => false

/-- The width over which slot `s` compares (R45). -/
def Blk.slotWidth (b : Blk) (s : Nat) : Nat :=
  if b.flag F.SLOT_CTRL_LOW16 s then 16 else b.tbWidth (b.fld F.SLOT_CTRL_TB s)

/-- COUNT in use of slot `s`. -/
def Blk.slotCount (b : Blk) (s : Nat) : Nat := b.reg64 .SLOT_COUNT_LO .SLOT_COUNT_HI s

/-- PERIOD in use of slot `s`. -/
def Blk.slotPeriod (b : Blk) (s : Nat) : Nat := b.reg64 .SLOT_PERIOD_LO .SLOT_PERIOD_HI s

/-- The ID lies in the range of its KIND (R51). -/
def targetOk (kind id : Nat) : Bool :=
  match kind with
  | 0 => true
  | 1 => decide (id ≤ 4095)
  | 2 => decide (id ≤ 111)
  | 3 => decide (id ≤ 11)
  | 4 => decide (id ≤ 63)
  | 5 => decide (id ≤ 63)
  | _ => false

/-- The settings of slot `s` pass the checks of R451. -/
def Blk.slotOk (b : Blk) (s : Nat) : Bool :=
  let dir := b.fld F.SLOT_CTRL_DIR s
  let periodic := b.fld F.SLOT_CTRL_MODE s == 1
  let w := b.slotWidth s
  (!b.flag F.SLOT_CTRL_LOW16 s || b.tbAngular (b.fld F.SLOT_CTRL_TB s)) && dir != 3 &&
    !(periodic && dir == 2) &&
    !(periodic && (b.slotPeriod s == 0 || decide (2 ^ (w - 1) ≤ b.slotPeriod s))) &&
    targetOk (b.fld F.SLOT_TARGET_KIND s) (b.fld F.SLOT_TARGET_ID s)

/-- The block without slot `s` among the slots that wait to fire late. -/
def Blk.dropLate (b : Blk) (s : Nat) : Blk :=
  { b with tbu := { b.tbu with lateArm := b.tbu.lateArm.filter (· ≠ s) } }

/-- Arm slot `s`, whose EN is 1 (R46, R47, R451): refused, held while its timebase is not valid, or armed against the
last snapshot; before CONFIG_DONE nothing arms (R400). -/
def Blk.armSlot (b : Blk) (s : Nat) : Blk :=
  let b := b.dropLate s
  if !b.configDone then b
  else if !b.slotOk s then
    (b.setFld F.SLOT_CTRL_EN s 0).setFld F.SLOT_STATUS_ARMED s 0 |>.setFld F.SLOT_STATUS_HELD_INVALID s 0
  else if !b.tbValid (b.fld F.SLOT_CTRL_TB s) then
    (b.setFld F.SLOT_STATUS_ARMED s 0).setFld F.SLOT_STATUS_HELD_INVALID s 1
  else
    let b := (b.setFld F.SLOT_STATUS_ARMED s 1).setFld F.SLOT_STATUS_HELD_INVALID s 0
    if atOrPast (b.slotWidth s) (b.fld F.SLOT_CTRL_DIR s) (b.slotCount s) (b.tb (b.fld F.SLOT_CTRL_TB s)) then
      { b with tbu := { b.tbu with lateArm := b.tbu.lateArm ++ [s] } }
    else b

/-- The slots whose EN is 1, in ascending order. -/
def Blk.enabledSlots (b : Blk) : List Nat :=
  b.regs.filterMap fun e => if e.1.1 = .SLOT_CTRL ∧ e.2.getLsbD 0 then some e.1.2 else none

/-- UTC in TB2 units from TB0 (R272). -/
def Blk.utcNs (b : Blk) : Int :=
  (b.tb 0 : Int) + 315964800000000000 - (b.fld F.GNSS_LEAP_LEAP 0 : Int) * 1000000000

/-- TB0 becomes valid by counting GNSS time; on the GNSS host the time state is then LOCKED (R273), and counts as LOCKED from now
where it was HOLDOVER (R275, R278). -/
def Blk.tb0Counts (b : Blk) : Blk :=
  let b := b.setFld F.TBU_STATUS_TB_VALID 0 (b.fld F.TBU_STATUS_TB_VALID 0 ||| 1)
  if b.flag F.GNSS_CTRL_HOST 0 then
    let b := if b.fld F.GNSS_STATUS_TIME_STATE 0 = 2 then { b with gnss := { b.gnss with lockAt := b.tb1 } } else b
    b.setFld F.GNSS_STATUS_TIME_STATE 0 1
  else b

/-- The conditions under which R276 bounds holdover: LOCKED for 30 min before, the first 30 min, a steady temperature. -/
def Blk.holdoverBound (b : Blk) : Bool :=
  decide (1800000000000 ≤ b.gnss.lockNs) && decide (b.tb1 ≤ b.gnss.holdAt + 1800000000000) && Config.holdoverSteady b.gnss.holdAt

/-- Picoseconds that TB0 advances on a tick of holdover: under the conditions of R276 its offset from GNSS time stays within 1 µs. -/
def Blk.holdoverStep (b : Blk) : Nat :=
  let free := Config.holdoverPs b.free
  if b.holdoverBound then
    let off := max (-1000000) (min 1000000 (b.tbu.tb0Drift + ((free : Int) - 10000)))
    (off - b.tbu.tb0Drift + 10000).toNat
  else free

/-- Picoseconds that TB0 advances on a tick (R273, R274): slewed toward GNSS time within 200 ppm while it is valid and
not in holdover, at a free rate in holdover, on the reference oscillator else. -/
def Blk.tb0Step (b : Blk) : Nat :=
  let s := min (Config.tb0SlewPs b.free % 3) b.tbu.tb0Err.natAbs
  if b.fld F.GNSS_STATUS_TIME_STATE 0 = 2 then b.holdoverStep
  else if !b.tbValid 0 then 10000
  else if b.tbu.tb0Err > 0 then 10000 - s
  else 10000 + s

/-- The tick of TB0 (R273 to R275): while it stands, GNSS time catches up; a pending step takes GNSS time. -/
def Blk.tickTb0 (b : Blk) : Blk :=
  let was := b.tb 0
  match b.tbu.tb0Hold, b.tbu.tb0Jump with
  | some g, _ =>
    if b.tb 0 ≤ g + 10 then
      let b := b.setReg64 .TB_VALUE_LO .TB_VALUE_HI 0 (g + 10)
      { b with tbu := { b.tbu with tb0Hold := none, tb0Err := 0, tb0Was := was } }.tb0Counts
    else { b with tbu := { b.tbu with tb0Hold := some (g + 10), tb0Was := was } }
  | none, some g =>
    let b := b.setReg64 .TB_VALUE_LO .TB_VALUE_HI 0 (g + 10)
    { b with tbu := { b.tbu with tb0Jump := none, tb0Err := 0, tb0Ps := 0, tb0Was := g + 9 } }.tb0Counts
  | none, none =>
    let ps := b.tb0Step
    let sum := b.tbu.tb0Ps + ps
    let held := b.fld F.GNSS_STATUS_TIME_STATE 0 = 2
    let d : Int := (ps : Int) - 10000
    let b := b.setReg64 .TB_VALUE_LO .TB_VALUE_HI 0 (b.tb 0 + sum / 1000)
    { b with tbu := { b.tbu with
      tb0Ps := sum % 1000, tb0Was := was, tb0Err := if held then b.tbu.tb0Err else b.tbu.tb0Err + d,
      tb0Drift := if held then b.tbu.tb0Drift + d else b.tbu.tb0Drift } }

/-- The tick of TB1 (R33): never set back. -/
def Blk.tickTb1 (b : Blk) : Blk := b.setReg64 .TB_VALUE_LO .TB_VALUE_HI 1 (b.tb 1 + 10)

/-- What TB2 holds after a tick without load and AUTO step: slewed toward UTC within 100 ppm under AUTO (R42). -/
def Blk.tb2Course (b : Blk) : Nat × Nat :=
  let auto := b.flag F.TBU_CTRL_TB2_AUTO 0 && b.tbValid 0 && b.flag F.GNSS_LEAP_LEAP_V 0
  let diff : Int := (b.utcNs) - (b.tb 2 : Int)
  let s := if auto then Config.tb2SlewPs b.free % 2 else 0
  let ps := if diff > 0 then 10000 + s else if diff < 0 then 10000 - s else 10000
  ((b.tb 2 + (b.tbu.tb2Ps + ps) / 1000) % 2 ^ 64, (b.tbu.tb2Ps + ps) % 1000)

/-- The tick of TB2 (R42), TB0 having ticked; the second part is the step it made, new value less the value it would
have had. -/
def Blk.tickTb2 (b : Blk) : Blk × Option Int :=
  let course := b.tb2Course
  let would : Nat := course.1
  let loaded : Nat := match b.tbu.tb2Load with
    | some v => v.toNat
    | none => would
  let auto := b.flag F.TBU_CTRL_TB2_AUTO 0 && b.tbValid 0 && b.flag F.GNSS_LEAP_LEAP_V 0
  let val : Nat := if auto ∧ ((b.utcNs) - (loaded : Int)).natAbs > 1000000 then (b.utcNs % 2 ^ 64).toNat else loaded
  let wasValid := b.tbValid 2
  let load := b.tbu.tb2Load.isSome
  let step : Option Int := if wasValid ∧ val ≠ would then some ((val : Int) - would) else none
  let b := b.setReg64 .TB_VALUE_LO .TB_VALUE_HI 2 val
  let b := { b with tbu := { b.tbu with tb2Load := none, tb2Ps := if val = would then course.2 else 0 } }
  let b := if auto ∨ load ∨ wasValid then
      b.setFld F.TBU_STATUS_TB_VALID 0 (b.fld F.TBU_STATUS_TB_VALID 0 ||| 4) else b
  match step with
  | some d => (b.setFld (if d > 0 then F.TBU_STATUS_TB2_STEP_FWD else F.TBU_STATUS_TB2_STEP_BACK) 0 1, step)
  | none => (b, none)

/-- The tick of built timebase `n`: its value and HOLDING where it is valid (R37); a timebase that has lost its source
keeps its position without interpolation. -/
def Blk.tickBuilt (b : Blk) (n : Nat) : Blk :=
  if b.builtValid n then
    let (p, holding) := b.course n b.tb1
    let b := b.setReg64 .TB_VALUE_LO .TB_VALUE_HI n (wrapCounts (b.tbWidth n) p)
    b.setFlag F.TB_STAT_HOLDING n holding
  else if b.tbValid n then
    let x := b.built n
    b.setBuilt n { x with base := (b.course n b.tb1).1, baseAt := b.tb1, last := none, ival := none }
  else b

/-- The valid bits of the built timebases (R35), with those of TB0 to TB2 as they stand; TB1 is always valid. -/
def Blk.validBits (b : Blk) : Nat :=
  (List.range 13).foldl (fun acc k => if b.builtValid (k + 3) then acc + 2 ^ (k + 3) else acc)
    ((b.fld F.TBU_STATUS_TB_VALID 0 ||| 2) % 8)

/-- TIMEBASE_VALID_CHANGE (R47): the slots of a timebase that lost validity are held, those of one that gained it are
armed. -/
def Blk.validChange (b : Blk) (old new : Nat) (slots : List Nat) : Blk :=
  slots.foldl (fun b s =>
    let n := b.fld F.SLOT_CTRL_TB s
    if old.testBit n == new.testBit n then b
    else if new.testBit n then b.armSlot s
    else ((b.dropLate s).setFld F.SLOT_STATUS_ARMED s 0).setFld F.SLOT_STATUS_HELD_INVALID s 1) b

/-- Slot `s` is due on a tick that moved its timebase from `s0` to its present value (R44, R45, R46). -/
def Blk.slotDue (b : Blk) (old : List Nat) (s : Nat) : Bool :=
  let n := b.fld F.SLOT_CTRL_TB s
  b.flag F.SLOT_STATUS_ARMED s && b.tbValid n &&
    slotMet (b.slotWidth s) (b.fld F.SLOT_CTRL_DIR s) (b.slotCount s) (old.getD n 0) (b.tb n)

/-- The whole periods, beyond the one of the firing, by which a PERIODIC slot must advance to lie ahead (R49): `d` is
COUNT + PERIOD − S(k) taken in the slot's direction. None where PERIOD is 0, which only a write while EN is 1 can leave
(log 11). -/
def extraPeriods (d : Int) (period : Nat) : Nat :=
  if d > 0 ∨ period = 0 then 0 else ((-d) / (period : Int)).toNat + 1

/-- COUNT of slot `s` after its advance, and the periods skipped (R49). -/
def Blk.advance (b : Blk) (s : Nat) : Nat × Nat :=
  let w := b.slotWidth s
  let p := b.slotPeriod s
  let c := b.slotCount s
  let now := b.tb (b.fld F.SLOT_CTRL_TB s)
  let up := b.fld F.SLOT_CTRL_DIR s == 0
  let d := if up then sdiff w (c + p) now else -(sdiff w (c + 2 ^ 64 - p % 2 ^ 64) now)
  let k := if p < 2 ^ (w - 1) then extraPeriods d p else 0
  let whole := p * (1 + k)
  (if up then (c + whole) % 2 ^ 64 else (c + 2 ^ 64 * (1 + k) - whole) % 2 ^ 64, k)

/-- The snapshot values of all sixteen timebases. -/
def Blk.snapshot (b : Blk) : List Nat := (List.range 16).map b.tb

/-- The firing of a slot (R44, R46, R48 to R51): one that is due fires its target and applies its mode. -/
def Blk.fireSlot (b : Blk) (s : Nat) : Blk :=
  match b.tbu.due.find? (·.slot = s) with
  | none => b
  | some x =>
    let b := { b with tbu := { b.tbu with due := b.tbu.due.filter (·.slot ≠ s) } }
    let b := b.incFld F.SLOT_FIRES_FIRES s
    let b := if x.late then b.setFld F.SLOT_STATUS_ARM_LATE s 1 else b
    let kind := b.fld F.SLOT_TARGET_KIND s
    let b := if kind = 0 then b else
      { b with tbu := { b.tbu with trig := b.tbu.trig ++
        [⟨s, kind, b.fld F.SLOT_TARGET_ID s, b.snapshot, b.fld F.TBU_STATUS_TB_VALID 0⟩] } }
    match b.fld F.SLOT_CTRL_MODE s with
    | 0 => (b.setFld F.SLOT_CTRL_EN s 0).setFld F.SLOT_STATUS_ARMED s 0
    | 1 =>
      let (c, skipped) := b.advance s
      let b := b.setReg64 .SLOT_COUNT_LO .SLOT_COUNT_HI s c
      if skipped = 0 then b else b.raise 592 0x01 0x04 (s * 2 ^ 22 + min skipped 0xFFFF)
    | _ => b

/-- The slots still due fire, in ascending order (R50). -/
def Blk.fireDue (b : Blk) : Blk := (b.tbu.due.map (·.slot)).foldl Blk.fireSlot b

/-- SLOT_FIRE (R44, R50): the lowest slot that is due fires. -/
def Blk.slotFire (b : Blk) (s : Nat) : Blk := b.when ((b.tbu.due.head?.map (·.slot)) == some s) fun b => b.fireSlot s

/-- The gate of the kind and number follows the OR of its windows (R453). -/
def Blk.gateOpen (b : Blk) (kind id : Nat) : Bool :=
  (List.range 128).any fun w =>
    b.flag F.WIN_CFG_OPEN w && b.fld F.WIN_CFG_GATE_KIND w == kind && b.fld F.WIN_CFG_GATE_ID w == id

/-- One window after the edges of a tick (R52). -/
def Blk.resolveWindow (b : Blk) (w : Nat) (start stop : Bool) : Blk :=
  match b.flag F.WIN_CFG_OPEN w, start, stop with
  | false, true, false => b.setFld F.WIN_CFG_OPEN w 1
  | false, false, true => b.addSat F.WIN_COUNT_ORPHAN_STOP w 1
  | false, true, true => b.addSat F.WIN_COUNT_WINDOW_NULL w 1
  | true, false, true => b.setFld F.WIN_CFG_OPEN w 0
  | _, _, _ => b

/-- A due slot of the given mode names window `w`. -/
def Blk.winEdge (b : Blk) (mode w : Nat) : Bool :=
  b.tbu.due.any fun x => b.fld F.SLOT_CTRL_MODE x.slot == mode && b.fld F.SLOT_CTRL_WIN x.slot == w

/-- On this tick, which takes the windows from `b` to `c`, the gate sees a close edge and then an open edge: every window that
was open closes and one is open after (R52, R453). -/
def Blk.gateReopens (b c : Blk) (g : Nat × Nat) : Bool :=
  b.gateOpen g.1 g.2 && c.gateOpen g.1 g.2 &&
    (List.range 128).all fun w =>
      !(b.flag F.WIN_CFG_OPEN w && b.fld F.WIN_CFG_GATE_KIND w == g.1 && b.fld F.WIN_CFG_GATE_ID w == g.2) || b.winEdge 3 w

/-- WINDOW_RESOLVE (R52, R453): every window after all slots of the tick. -/
def Blk.resolveWindows (b : Blk) : Blk :=
  let wins := (b.tbu.due.map fun x => b.fld F.SLOT_CTRL_WIN x.slot).eraseDups
  let c := wins.foldl (fun acc w => acc.resolveWindow w (b.winEdge 2 w) (b.winEdge 3 w)) b
  let gates := ((wins.filter (b.winEdge 3)).map fun w => (b.fld F.WIN_CFG_GATE_KIND w, b.fld F.WIN_CFG_GATE_ID w)).eraseDups
  { c with tbu := { c.tbu with reopen := gates.filter (b.gateReopens c) } }

/-- TBU_SNAP (R32): the snapshot registers take the tick's values. -/
def Blk.takeSnap (b : Blk) : Blk :=
  if b.tbu.snap then
    let b := { b with tbu := { b.tbu with snap := false } }
    (List.range 16).foldl (fun b n => b.setReg64 .TBU_SNAPVAL_LO .TBU_SNAPVAL_HI n (b.tb n)) b
  else b

/-! ## Register commands of the TBU -/

/-- TB2_SET_LOW_WRITE (R42): the low word is stored and nothing loaded. -/
def Blk.tb2SetLow (b : Blk) (v : Word) : Blk := { b with tbu := { b.tbu with tb2Lo := v } }

/-- TB2_LOAD (R42): a write that covers TB2_SET_HI loads TB2 on the next tick. -/
def Blk.tb2LoadWrite (b : Blk) (hi : Word) (lo : Option Word) : Blk :=
  let b := match lo with
    | some v => b.tb2SetLow v
    | none => b
  { b with tbu := { b.tbu with tb2Load := some (hi ++ b.tbu.tb2Lo) } }

/-- TBU_SNAP (R32): a write of 1 waits for the next tick. -/
def Blk.tbuSnap (b : Blk) : Blk := { b with tbu := { b.tbu with snap := true } }

/-- SLOT_ARM (R46, R451): a write of SLOT_CTRL. The slots that are due fire before one is written (R32, R50). -/
def Blk.slotCtrlWrite (b : Blk) (s : Nat) (ctrl : Word) : Blk :=
  let b := b.fireDue
  let old := b.reg .SLOT_CTRL s
  let new := ctrl &&& BitVec.ofNat 32 RegName.SLOT_CTRL.masks.rw
  let b := b.setReg .SLOT_CTRL s new
  if !new.getLsbD 0 then
    ((b.dropLate s).setFld F.SLOT_STATUS_ARMED s 0).setFld F.SLOT_STATUS_HELD_INVALID s 0
  else if old = new then b
  else b.armSlot s

/-- SLOT_COUNT_LOW_WRITE (R32, R452). -/
def Blk.slotCountLow (b : Blk) (s : Nat) (v : Word) : Blk :=
  let b := b.fireDue
  if b.flag F.SLOT_CTRL_EN s then
    { b with tbu := { b.tbu with cntHeld := NMap.set b.tbu.cntHeld s (some v) none } }
  else b.setReg .SLOT_COUNT_LO s v

/-- SLOT_COUNT_HIGH_WRITE (R32, R46, R452): COUNT takes the high word and the first low word that exists. A low word held
while EN was 1 outlives EN's return to 0 and writes made meanwhile, until a high word is written with EN at 1 (log 60). -/
def Blk.slotCountHigh (b : Blk) (s : Nat) (hi : Word) (lo : Option Word) : Blk :=
  let b := b.fireDue
  if b.flag F.SLOT_CTRL_EN s then
    let low := (lo <|> SMap.get b.tbu.cntHeld s none).getD (b.reg .SLOT_COUNT_LO s)
    let b := (b.setReg .SLOT_COUNT_LO s low).setReg .SLOT_COUNT_HI s hi
    { b with tbu := { b.tbu with cntHeld := NMap.set b.tbu.cntHeld s none none } }.armSlot s
  else
    (match lo with
      | some v => b.setReg .SLOT_COUNT_LO s v
      | none => b).setReg .SLOT_COUNT_HI s hi

/-- SLOT_PERIOD_WRITE (R32, R452): as COUNT, and nothing is armed again. -/
def Blk.slotPeriodWrite (b : Blk) (s : Nat) (lo hi : Option Word) : Blk :=
  let b := b.fireDue
  if b.flag F.SLOT_CTRL_EN s then
    match hi with
    | none =>
      match lo with
      | some v => { b with tbu := { b.tbu with perHeld := NMap.set b.tbu.perHeld s (some v) none } }
      | none => b
    | some h =>
      let low := (lo <|> SMap.get b.tbu.perHeld s none).getD (b.reg .SLOT_PERIOD_LO s)
      let b := (b.setReg .SLOT_PERIOD_LO s low).setReg .SLOT_PERIOD_HI s h
      { b with tbu := { b.tbu with perHeld := NMap.set b.tbu.perHeld s none none } }
  else
    let b := match lo with
      | some v => b.setReg .SLOT_PERIOD_LO s v
      | none => b
    match hi with
    | some v => b.setReg .SLOT_PERIOD_HI s v
    | none => b

/-- Status and ground speed, mm/s, of the latest GNSS solution (R266, R267). -/
def Blk.solution (b : Blk) : Nat × Nat := (b.navStatus, (b.navRec.getD 15 0).toNat)

/-- The latest GNSS solution is valid for ground speed (R267). -/
def Blk.speedValid (b : Blk) : Bool := decide (1 ≤ b.solution.1) && decide (b.solution.1 ≤ 4)

/-- TB3_SLIP_UPDATE (R41): every 100 ms, with valid ground speed above 0.5 m/s and FUSE, SLIP moves toward the value that makes
the wheel speed equal it, by a free amount of at most 0.5 %, within ±15 %; the position does not step. While TB3 has no pulse interval
or is stalled there is no wheel speed: SLIP stays and AIDING is 0 (log 60). -/
def Blk.slipUpdate (b : Blk) : Blk :=
  b.when (decide (b.tbu.slipAt + 100000000 ≤ b.tb1)) fun b =>
    let b := { b with tbu := { b.tbu with slipAt := b.tb1 } }
    let v := b.solution.2
    match (b.built 3).ival with
    | some iv =>
      if b.speedValid ∧ v > 500 ∧ b.flag F.TB_CFG_FUSE 3 ∧ iv > 0 ∧ b.flag F.TB_STAT_STALLED 3 = false then
        let slip := b.sfld F.TB3_SLIP_SLIP 0
        let raw : Int := (b.fld F.TB_SCALE_SCALE 3 : Int) * (if b.flag F.TB_CFG_SRC_B_EN 3 then 1 else 2)
        -- µm per ns × 10^6 = mm/s; raw is µm per pulse in 1/131 072
        let goal : Int := if raw = 0 then slip else (v : Int) * iv * 131072 * 100000 / (raw * 1000000) - 100000
        let span := min 500 (goal - slip).natAbs
        let move : Int := (Config.slipMove b.free % ((span : Int) + 1))
        let new := if goal ≥ slip then slip + move else slip - move
        let new := max (-15000) (min 15000 new)
        let cur := (b.course 3 b.tb1).1
        let b := b.setBuilt 3 { b.built 3 with base := cur, baseAt := b.tb1 }
        ((b.setSFld F.TB3_SLIP_SLIP 0 new).setFld F.TB3_SLIP_AIDING 0 1).took
      else b.setFld F.TB3_SLIP_AIDING 0 0
    | none => b.setFld F.TB3_SLIP_AIDING 0 0

end Sys2Proof.Machine
end

