-- ==== Sys2Proof/Machine/Afe.lean ====
section
/-!
DEFINITION. The sensor front end (spec chapter 08): AIN, IMP and ENC channels.
Readings and choices: logs 28, 40, 61 of notes/assumptions.
-/

namespace Sys2Proof.Machine

/-- AIN channel `a` beyond its registers. -/
def Blk.ain (b : Blk) (a : Nat) : AinSt := SMap.get b.afe.ain a AinSt.zero

/-- The block with AIN channel `a` at `x`. -/
def Blk.setAin (b : Blk) (a : Nat) (x : AinSt) : Blk :=
  { b with afe := { b.afe with ain := NMap.set b.afe.ain a x AinSt.zero } }

/-- IMP channel `i` beyond its registers. -/
def Blk.imp (b : Blk) (i : Nat) : ImpSt := SMap.get b.afe.imp i ImpSt.zero

/-- The block with IMP channel `i` at `x`. -/
def Blk.setImp (b : Blk) (i : Nat) (x : ImpSt) : Blk :=
  { b with afe := { b.afe with imp := NMap.set b.afe.imp i x ImpSt.zero } }

/-- The block with ENC channel `e` at `x`. -/
def Blk.setEnc (b : Blk) (e : Nat) (x : EncSt) : Blk :=
  { b with afe := { b.afe with enc := NMap.set b.afe.enc e x EncSt.zero } }

/-- AIN_CFG of channel `a` with each field as it is taken (R198, R200). -/
def Blk.ainCfg (b : Blk) (a : Nat) : AinCfg :=
  { en := b.flag F.AIN_CFG_EN a
    mux := (let m := b.fld F.AIN_CFG_MUX a; if m ≥ 5 then 3 else m)
    gain := b.fld F.AIN_CFG_GAIN a
    filt := min 2 (b.fld F.AIN_CFG_FILT a)
    dec := min 6 (b.fld F.AIN_CFG_DEC a) }

/-- The invalid words that a change of settings brings, and their reason (R202, R203). -/
def ainChange (old new : AinCfg) : Nat × Nat :=
  let order := new.order
  let filter := if old.filt ≠ new.filt ∨ old.dec ≠ new.dec then order + 1 else 0
  let mux := if old.mux ≠ new.mux ∨ (!old.en && new.en) then order + 1 else 0
  let gain := if old.gain ≠ new.gain then order else 0
  let n := max filter (max mux gain)
  if n = 0 then (0, 0) else if n = filter then (n, 2) else if n = mux then (n, 3) else (n, 4)

/-- The channel after a change of settings takes effect, with invalid words remaining (R203); another FILT or DEC begins with an empty
filter. -/
def AinSt.take (x : AinSt) (new : AinCfg) : AinSt :=
  let (n, r) := ainChange x.cfg new
  let y := { x with cfg := new }
  let y := if x.cfg.filt = new.filt ∧ x.cfg.dec = new.dec then y else y.fresh
  if n = 0 ∨ x.remain > n then y else { y with remain := n, reason := r }

/-- FS of a GAIN in µV (R198). -/
def fullScale (gain : Nat) : Int :=
  match gain with
  | 0 => 32000000
  | 1 => 10240000
  | 2 => 5120000
  | _ => 2560000

/-- The raw code of a sample of a channel of these settings, not clipped (R198): `pin` is what the modulator sees at the pin, in µV, in
nA for MUX 1; `exc` is the excitation voltage of the channel's group in µV. ±2^23 stands for ± full scale; a code between
two numbers is floored, and a ratio to an excitation of 0 V is free (log 61). -/
def rawCode (c : AinCfg) (pin : Int) (exc : Nat) : Int :=
  match c.mux with
  | 0 => pin * 2 ^ 23 / fullScale c.gain
  | 1 => pin * 2 ^ 23 / 25600000
  | 2 => if exc = 0 then Config.ratioCode pin else pin * 5120000 * 2 ^ 23 / ((exc : Int) * fullScale c.gain)
  | 3 => 0
  | _ => 2048000 * 2 ^ 23 / fullScale c.gain

/-- Nanoseconds between the words of a channel: D / 10.24 MHz (R200). -/
def wordTime (c : AinCfg) : Nat := 6250 * 2 ^ c.dec

/-! ### The sinc filter (R200): `order` running sums over the samples, and as many differences of what stands in the last of them from
word to word, which is a cascade of `order` sums over D samples each, D^order times the input where that is constant -/

/-- A sample goes through the running sums. -/
def sincSum (v : BitVec 96) : List (BitVec 96) → List (BitVec 96)
  | [] => []
  | a :: l => (a + v) :: sincSum (a + v) l

/-- A word goes through the differences: what each has seen, and what comes out. -/
def sincDiff (v : BitVec 96) : List (BitVec 96) → List (BitVec 96) × BitVec 96
  | [] => ([], v)
  | a :: l => let r := sincDiff (v - a) l; (v :: r.1, r.2)

/-- A code that the modulator clips (R198). -/
def clipCode (code : Int) : Int := max (-(2 ^ 23 - 1)) (min (2 ^ 23 - 1) code)

/-- The samples of a word at the pin: the D that are given, the last of them standing for those that are missing. -/
def wordSamples (c : AinCfg) (pins : List Int) : List Int :=
  let l := pins.take c.decim
  l ++ List.replicate (c.decim - l.length) (l.getLast?.getD 0)

/-- The channel after the codes of a word, and the raw code that the filter gives (R198, R200). -/
def AinSt.filter (x : AinSt) (codes : List Int) : AinSt × Int :=
  let sums := codes.foldl (fun l v => sincSum (BitVec.ofInt 96 (clipCode v)) l) x.sums
  let r := sincDiff (sums.getLast?.getD 0) x.diffs
  ({ x with sums := sums, diffs := r.1 }, r.2.toInt / (x.cfg.decim : Int) ^ x.cfg.order)

/-- AIN_WORD (R197 to R203): the next decimation boundary of channel `a`; the modulator has seen `pins` since the last one, µV or nA, at
an excitation of `exc` µV. The word belongs to the settings in force, and a written AIN_CFG takes effect after it. -/
def Blk.ainWord (b : Blk) (a : Nat) (pins : List Int) (exc : Nat) : Blk :=
  b.when (b.aonRuns && decide ((b.ain a).at_ + wordTime (b.ain a).cfg ≤ b.tb1)) fun b =>
    let codes := (wordSamples (b.ain a).cfg pins).map fun p => rawCode (b.ain a).cfg p exc
    let (x, raw) := (b.ain a).filter codes
    let y := rshift ((raw - b.sfld F.AIN_OFFSET_OFFSET a) * b.sfld F.AIN_SCALE_SCALE a) 16
    let v := satN 24 y
    let reasons := (if x.cfg.en then [] else [1]) ++ (if x.remain > 0 then [x.reason] else []) ++
      (if x.cfg.mux = 2 ∧ (b.fld F.AFE_EXC_EXC_FAULT 0).testBit (a / 16) then [5] else []) ++
      (if x.cfg.mux = 1 ∧ raw * 256 < 36 * 2 ^ 23 then [6] else []) ++
      (if x.cfg.mux = 1 ∧ raw * 256 > 210 * 2 ^ 23 then [7] else []) ++
      (if (codes.any fun v => clipCode v != v) ∨ v ≠ y then [8] else [])
    let b := b.setReg .AIN_WORD a (reasonWord reasons (sampleSeq (b.reg .AIN_WORD a) + 1) v)
    b.setAin a ({ x with remain := x.remain - 1, at_ := b.tb1 }.take (b.ainCfg a))

/-- AIN_CFG_WRITE (R202): the settings wait in AIN_CFG for the next word boundary. -/
def Blk.ainCfgWrite (b : Blk) (a : Nat) (v : Word) : Blk :=
  b.setReg .AIN_CFG a (v &&& BitVec.ofNat 32 RegName.AIN_CFG.masks.rw)

/-- The compute side is out of reset: the pins of R434 leave their reset state. -/
def Blk.outOfReset (b : Blk) : Bool := decide (b.mod.phase = .released) || decide (b.mod.phase = .running)

/-- EXCg supplies its sensors (R199, R434): EXC_EN is 1 and the module is out of reset. -/
def Blk.excOn (b : Blk) (g : Nat) : Bool := b.outOfReset && (b.fld F.AFE_EXC_EXC_EN 0).testBit g

/-- EXCITATION_FAULT (R199): EXCg stands at `mv` millivolts, in current limit or not. -/
def Blk.excFault (b : Blk) (g mv : Nat) (limited : Bool) : Blk :=
  let old := b.fld F.AFE_EXC_EXC_FAULT 0
  let bad := limited || decide (mv < 4750) || decide (mv > 5250)
  b.setFld F.AFE_EXC_EXC_FAULT 0 (if bad then old ||| 2 ^ g else old &&& (15 - 2 ^ g))

/-- IMP_SAMPLE (R204): a sample of `mv` millivolts; a hit waits for the tick (R205). -/
def Blk.impSample (b : Blk) (i : Nat) (mv : Int) : Blk :=
  b.when (b.aonRuns && b.flag F.IMP_CFG_EN i) fun b =>
    let x := b.imp i
    let now := b.tb1
    let th := b.fld F.IMP_CFG_THRESH i
    let gap := max 1 (b.fld F.IMP_CFG_HOLDOFF i) * 1000
    let past := match x.lastHit with
      | some t => decide (t + gap ≤ now)
      | none => true
    let hit := decide (x.rect < th) && decide (th ≤ mv.natAbs) && past
    b.setImp i { x with rect := mv.natAbs, lastHit := if hit then some now else x.lastHit,
                        fresh := x.fresh + hit.toNat }

/-- IMP_ACCUMULATE (R205): one channel on a tick on which TB3 moved by `moved`. -/
def Blk.impTick (b : Blk) (moved : Int) (i : Nat) : Blk :=
  if b.flag F.IMP_CFG_EN i then
    let x := b.imp i
    let x' := { x with fresh := 0, tbLost := x.tbLost || !b.tbValid 3 }
    if !b.flag F.IMP_CFG_GATED i || b.gateOpen 1 i then
      let b := b.addSat F.IMP_LIVE_LIVE i x.fresh
      b.setImp i { x' with dist := min (x.dist + moved.toNat) (2 ^ 32 - 1) }
    else b.setImp i x'
  else b

/-- A sensor-sample trigger reaches an IMP channel: it closes the interval (R206). -/
def Blk.impClose (b : Blk) (i : Nat) : Blk :=
  let x := b.imp i
  let c := b.fld F.IMP_LIVE_LIVE i
  let d := x.dist
  let short := decide (d < max 1 (b.fld F.IMP_CFG_MIN_MM i) * 1000)
  let full := c * 256000000 / d
  let value := if short then c else min full (2 ^ 23 - 1)
  let reasons := (if b.flag F.IMP_CFG_EN i then [] else [1]) ++ (if !short && decide (full > 2 ^ 23 - 1) then [8] else []) ++
    (if x.tbLost then [9] else []) ++ (if short then [0xA] else [])
  let b := b.setReg .IMP_WORD i (reasonWord reasons (sampleSeq (b.reg .IMP_WORD i) + 1) value)
  let b := (b.setFld F.IMP_CAP_CNT_CNT i c).setFld F.IMP_CAP_DIST_DIST i d
  (b.setFld F.IMP_LIVE_LIVE i 0).setImp i { x with dist := 0, tbLost := false }

/-- The first trigger of a kind and number on its way, and the block without it. -/
def Blk.takeTrig (b : Blk) (kind id : Nat) : Option (Trigger × Blk) :=
  match b.tbu.trig.find? (fun t => t.kind == kind && t.id == id) with
  | none => none
  | some t => some (t, { b with tbu := { b.tbu with trig := b.tbu.trig.erase t } })

/-- SENSOR_SAMPLE_TRIGGER (R206, R208, R209): a trigger of KIND 2 reaches channel `id`. -/
def Blk.sampleTrigger (b : Blk) (id : Nat) : Blk :=
  match b.takeTrig 2 id with
  | none => b
  | some (t, b) =>
    if id < 64 then
      (b.setReg .AIN_CAP id (b.reg .AIN_WORD id)).setReg .AIN_CAP_T id (BitVec.ofNat 32 (t.vals.getD 1 0))
    else if id < 80 then b.impClose (id - 64)
    else b.setReg .ENC_CAP (id - 80) (b.reg .ENC_WORD (id - 80))

/-- An edge of ENC channel `e` that its own counter counts (R207): the period and the count. -/
def Blk.encCount (b : Blk) (e : Nat) (delta : Int) : Blk :=
  let x := b.enc e
  let now := b.tb1
  let b := match x.lastAt with
    | some t => b.setFld F.ENC_PERIOD_PERIOD e (min ((now - t) / 10) (2 ^ 32 - 1))
    | none => b
  b.setEnc e { x with count := x.count + delta, lastAt := some now }

/-- Channel `c` counts an edge to level `l` under its own BOTH_EDGES (R36, R207). -/
def Blk.countsEdge (b : Blk) (c : Nat) (l : Bool) : Bool := b.flag F.ENC_CFG_EN c && (l || b.flag F.ENC_CFG_BOTH_EDGES c)

/-- The pulses that changes of the filtered inputs on one tick, each a channel and its new level, give timebase `n` (R36). The
levels are those after the changes. -/
def Blk.pulsesOf (b : Blk) (edges : List (Nat × Bool)) (n : Nat) : List Pulse :=
  let a := b.fld F.TB_CFG_SRC_A n
  let s := b.fld F.TB_CFG_SRC_B n
  let useB := b.flag F.TB_CFG_SRC_B_EN n
  let fromA :=
    if b.flag F.TB_CFG_QUAD n then
      match edges.filter fun x => x.1 == a || x.1 == a + 1 with
      | [x] =>
        let same := (b.enc a).level == (b.enc (a + 1)).level
        [⟨n, false, false, if x.1 = a then !same else same⟩]
      | _ => []
    else (edges.filter fun x => x.1 == a && b.countsEdge a x.2).map fun _ => ⟨n, false, false, true⟩
  let fromB :=
    if !useB then []
    else if b.tbAngular n then (edges.filter fun x => x.1 == s && x.2).map fun _ => ⟨n, true, true, true⟩
    else (edges.filter fun x => x.1 == s && b.countsEdge s x.2).map fun _ => ⟨n, false, true, true⟩
  if b.builtValid n then fromA ++ fromB else []

/-- TB1 `since` lies behind the last change of the filtered level of channel `e`, on whose tick the input stood at the other level. -/
def Blk.sinceMoved (b : Blk) (e since : Nat) : Bool := (b.enc e).moved.all fun t => decide (t < since)

/-- The input of channel `e` may take a new filtered level now: it has stood at that level since TB1 `since`, after the last change, for
FILT + 2 ticks or more (R207). -/
def Blk.edgeOk (b : Blk) (e : Nat) (level : Bool) (since : Nat) : Bool :=
  (b.enc e).level != level && b.sinceMoved e since &&
    decide (since + (b.fld F.ENC_CFG_FILT e + 2) * 10 ≤ b.tb1)

/-- ENC_EDGE (R36, R207): the input of channel `e` has taken the level and stood at it since TB1 `since`; `partner` is the same of the
other channel of its pair where both change on this tick. The built timebases take the pulses that follow. -/
def Blk.encEdge (b : Blk) (e : Nat) (level : Bool) (since : Nat) (partner : Option Nat) : Blk :=
  let even := e - e % 2
  let other := if e = even then e + 1 else even
  let also := !(b.enc other).level
  b.when (b.aonRuns && b.edgeOk e level since && (b.enc other).moved != some b.tb1 &&
      (match partner with
       | some t => b.edgeOk other also t
       | none => true)) fun b =>
    let edges := (e, level) :: (match partner with
      | some _ => [(other, also)]
      | none => [])
    let quad := b.flag F.ENC_CFG_QUAD even && b.flag F.ENC_CFG_EN even
    let b := edges.foldl (fun (b : Blk) x => b.setEnc x.1 { b.enc x.1 with level := x.2, moved := some b.tb1 }) b
    let b := edges.foldl (fun (b : Blk) x =>
      if b.countsEdge x.1 x.2 && !(quad && x.1 == even) then b.encCount x.1 1 else b) b
    let b :=
      if !quad then b
      else if partner.isSome then b.setEnc even { b.enc even with quadErr := true }
      else
        let same := (b.enc even).level == (b.enc (even + 1)).level
        b.encCount even (if (if e = even then !same else same) then 1 else -1)
    let new := (List.range 13).flatMap fun k => b.pulsesOf edges (k + 3)
    { b with tbu := { b.tbu with pulses := b.tbu.pulses ++ new } }

/-- Every ENC channel delivers a word on the tick (R208). -/
def Blk.encTick (b : Blk) : Blk :=
  (List.range 32).foldl (fun b e =>
    let b := b.setReg .ENC_WORD e (b.encWord e)
    if (b.enc e).quadErr then b.setEnc e { b.enc e with quadErr := false } else b) b

end Sys2Proof.Machine
end

