-- ==== Sys2Proof/Machine/AfeRows.lean ====
section
/-!
DEFINITION. The meanings of the commands whose operations stand in Machine/Afe.lean, one for each row.
-/

namespace Sys2Proof.Machine

/-- AIN_WORD: At each decimation boundary an AIN channel delivers a new sample word, invalid after a change. (R200) -/
def execAinWord (a : Fin 64) (pins : List Int) (exc : Nat) (s : State) : Host.Outcome State Fault Refusal :=
  s.run fun b => b.ainWord a.val pins exc

/-- AIN_CFG_WRITE: A write to AIN_CFG takes effect at the next word boundary and invalidates the next N words. (R202)
  -/
def execAinCfgWrite (a : Fin 64) (v : Word) (s : State) : Host.Outcome State Fault Refusal :=
  s.run fun b => b.live fun b => b.ainCfgWrite a.val v

/-- EXCITATION_FAULT: An excitation output leaving 4.75–5.25 V or in current limit sets EXC_FAULT for its group.
  (R199) -/
def execExcitationFault (g : Fin 4) (mv : Nat) (limited : Bool) (s : State) : Host.Outcome State Fault Refusal :=
  s.run fun b => b.live fun b => b.excFault g.val mv limited

/-- IMP_SAMPLE: Every 2 µs an impact input is sampled and a hit counted when the threshold is crossed after HOLDOFF.
  (R204) -/
def execImpSample (input : Fin 16) (mv : Int) (s : State) : Host.Outcome State Fault Refusal :=
  s.run fun b => b.impSample input.val mv

/-- SENSOR_SAMPLE_TRIGGER: A sensor-sample trigger closes an IMP interval or captures an AIN or ENC word. (R206) -/
def execSensorSampleTrigger (ch : Fin 112) (s : State) : Host.Outcome State Fault Refusal :=
  s.run fun b => b.live fun b => b.sampleTrigger ch.val

/-- ENC_EDGE: A filtered encoder edge updates the channel count or quadrature pair. (R207) -/
def execEncEdge (e : Fin 32) (level : Bool) (since : Nat) (partner : Option Nat) (s : State) :
    Host.Outcome State Fault Refusal :=
  s.run fun b => b.encEdge e.val level since partner

end Sys2Proof.Machine
end

