-- ==== Sys2Proof/Machine/Crc.lean ====
section
/-!
DEFINITION. The checksums of the module: CRC-32 of IEEE 802.3 (R288), CRC-16 of polynomial 0x1021 (R304), CRC-24Q of
RTCM 3 (R270).
-/

namespace Sys2Proof.Machine

/-- `n` steps of the bit-reflected CRC-32 register. -/
def crc32Steps : Nat → BitVec 32 → BitVec 32
  | 0, c => c
  | n + 1, c => crc32Steps n (if c.getLsbD 0 then (c >>> 1) ^^^ 0xEDB88320#32 else c >>> 1)

/-- CRC-32 of IEEE 802.3 over the bytes `l` (R288). -/
def crc32 (l : List Byte) : BitVec 32 :=
  ~~~ (l.foldl (fun c x => crc32Steps 8 (c ^^^ x.setWidth 32)) 0xFFFFFFFF#32)

/-- The CRC-16 of polynomial 0x1021 and initial value 0xFFFF over the low `n` bits of `v`, highest first (R304). -/
def crc16Bits (v : Nat) : Nat → BitVec 16 → BitVec 16
  | 0, c => c
  | n + 1, c =>
    let top := c.getMsbD 0 != v.testBit n
    crc16Bits v n (if top then (c <<< 1) ^^^ 0x1021#16 else c <<< 1)

/-- `n` steps of the CRC-24Q register. -/
def crc24Steps : Nat → BitVec 24 → BitVec 24
  | 0, c => c
  | n + 1, c => crc24Steps n (if c.getMsbD 0 then (c <<< 1) ^^^ 0x864CFB#24 else c <<< 1)

/-- CRC-24Q over the bytes `l` (R270). -/
def crc24 (l : List Byte) : BitVec 24 :=
  l.foldl (fun c (x : Byte) => crc24Steps 8 (c ^^^ ((x.setWidth 24 : BitVec 24) <<< (16 : Nat)))) (0 : BitVec 24)

end Sys2Proof.Machine
end

