-- ==== Sys2Proof/Machine/Cam.lean ====
section
/-!
DEFINITION. Camera pipelines (spec chapter 09).
Readings and choices: logs 40, 41 of notes/assumptions.
-/

namespace Sys2Proof.Machine

/-! ## State -/

/-- The block with pipeline `p` at `x`. -/
def Blk.setPipe (b : Blk) (p : Nat) (x : PipeSt) : Blk := { b with cam := NMap.set b.cam p x PipeSt.zero }

/-- Stream `s` of pipeline `p` beyond its registers. -/
def Blk.strm (b : Blk) (p s : Nat) : StreamSt := SMap.get (b.pipe p).streams s StreamSt.zero

/-- The block with stream `s` of pipeline `p` at `x`; PENDING, LATE_PEND and FRAME_OPEN follow. -/
def Blk.setStrm (b : Blk) (p s : Nat) (x : StreamSt) : Blk :=
  let y := b.pipe p
  let b := b.setPipe p { y with streams := NMap.set y.streams s x StreamSt.zero }
  let i := p * 4 + s
  ((b.setFlag F.ST_STATUS_PENDING i x.pend.isSome).setFlag F.ST_STATUS_LATE_PEND i x.late.isSome).setFlag
    F.ST_STATUS_FRAME_OPEN i x.frame.isSome

/-- The pipeline receives (R228): its domain is ON, its clock runs, and it is not DISABLED. -/
def Blk.camRuns (b : Blk) (p : Nat) : Bool :=
  b.computeRuns && b.supply != 2 && b.pdState (32 + p) == 4 && b.camState p != 0

/-- TIMEOUT_MS as used, ns (R227). -/
def Blk.camTimeout (b : Blk) (p : Nat) : Nat := max 1 (b.fld F.CAM_TRIG_TIMEOUT_MS p) * 1000000

/-- The enabled streams of pipeline `p` on a virtual channel. -/
def Blk.streamsOf (b : Blk) (p vc : Nat) : List Nat :=
  (List.range 4).filter fun s => b.flag F.ST_CFG_EN (p * 4 + s) && b.fld F.ST_CFG_VC (p * 4 + s) == vc

/-- The state of the sensor of camera `p` on the grid node (R247). -/
def Blk.sensor (b : Blk) (s : Nat) : SensorSt := SMap.get b.fus.sensors s SensorSt.zero

/-- The block with sensor `s` at `x`. -/
def Blk.setSensor (b : Blk) (s : Nat) (x : SensorSt) : Blk :=
  { b with fus := { b.fus with sensors := NMap.set b.fus.sensors s x SensorSt.zero } }

/-- STATE of the fusion array: 0 DISABLED, 1 RUNNING, 2 DRAINING. -/
def Blk.fusState (b : Blk) : Nat := b.fld F.FUS_STATUS_STATE 0

/-- This node builds the grid (R230). -/
def Blk.gridNode (b : Blk) : Bool := b.flag F.FUS_CTRL_GRID 0

/-- An input of sensor `s`, observed at `t`, waits for an epoch of the grid node (R237, R247). -/
def Blk.noteInput (b : Blk) (s t : Nat) (kind : InputKind) : Blk :=
  b.when (b.gridNode && b.fusState != 0) fun b =>
    { b with fus := { b.fus with inputs := b.fus.inputs ++ [⟨s, t, b.tb1, kind⟩] } }

/-! ## Header check (R225) -/

/-- An uncorrectable header marks every open frame of the enabled streams of its virtual channel (R225). -/
def Blk.eccMark (b : Blk) (p vc : Nat) : Blk :=
  (b.streamsOf p vc).foldl (fun b s =>
    let x := b.strm p s
    match x.frame with
    | some f => b.setStrm p s { x with frame := some { f with
        marks := { f.marks with ecc := true }, eccN := min 65535 (f.eccN + 1) } }
    | none => b) b

/-- A packet header reaches the pipeline: `f` acts on it where it is correct or corrected (R225). -/
def Blk.header (b : Blk) (p vc : Nat) (h : Header) (f : Blk → Blk) : Blk :=
  b.when (b.camRuns p) fun b =>
    match h with
    | .good => f b
    | .fixed => f (b.addSat F.CAM_ERR0_ECC_CORR p 1)
    | .bad => (b.addSat F.CAM_ERR1_ECC_UNCORR p 1).eccMark p vc

/-! ## Closing a frame (R224, R226) -/

/-- The frame is marked (R224). -/
def Marks.any (m : Marks) : Bool := m.crc || m.ecc || m.lineCount || m.lineLen || m.deny || m.overflow

/-- Word 0 of the frame record (R224). -/
def Frame.word0 (f : Frame) : Nat :=
  let m := f.marks
  2 ^ 31 + m.discarded.toNat * 2 ^ 30 + m.crc.toNat * 2 ^ 29 + m.ecc.toNat * 2 ^ 28 + m.lineCount.toNat * 2 ^ 27 +
    m.lineLen.toNat * 2 ^ 26 + m.deny.toNat * 2 ^ 25 + m.overflow.toNat * 2 ^ 24 + m.noTrig.toNat * 2 ^ 23 +
    f.lines % 65536

/-- Bytes 0 to 15 of the frame record (R224). -/
def Frame.low (f : Frame) : List Byte :=
  leBytes 4 f.word0 ++ leBytes 2 f.fnum ++ leBytes 2 f.pset ++ leBytes 4 f.fcnt ++ leBytes 2 f.crcN ++ leBytes 2 f.eccN

/-- Bytes 16 to 31 of the frame record (R224). -/
def Frame.high (f : Frame) : List Byte := leBytes 8 f.tFs ++ leBytes 8 f.tTrig

/-- The lowest DETAIL of a marked frame and its DATA[15:0] (R226). -/
def Frame.check (f : Frame) : Nat × Nat :=
  let m := f.marks
  if m.crc then (1, f.crcN) else if m.ecc then (2, f.eccN)
  else if m.lineCount || m.lineLen then (3, f.lines % 65536)
  else (4, m.deny.toNat + 2 * m.overflow.toNat)

/-- The frame record is written, upper half first (R224): a refused write marks the frame with DENY. -/
def Blk.writeRecord (b : Blk) (p : Nat) (f : Frame) : Blk × Frame :=
  let (b, okHigh) := b.unitWrite (512 + p) (f.addr + 16) f.high
  let f := { f with marks := { f.marks with deny := f.marks.deny || !okHigh } }
  let (b, okPad) := b.unitWrites (512 + p) (f.addr + 32) 2 (leBytes 32 0)
  let f := { f with marks := { f.marks with deny := f.marks.deny || !okPad } }
  let (b, okLow) := b.unitWrite (512 + p) f.addr f.low
  (b, { f with marks := { f.marks with deny := f.marks.deny || !okLow } })

/-- CHECK_EPISODE (R226): a marked frame after one that was not raises one CAM_CHECK record. -/
def Blk.checkEpisode (b : Blk) (p s : Nat) (f : Frame) : Blk :=
  let x := b.strm p s
  let b := b.setStrm p s { x with marked := f.marks.any }
  if f.marks.any && !x.marked then
    b.raise (512 + p) 0x08 f.check.1 (p * 2 ^ 28 + s * 2 ^ 26 + f.check.2)
  else b

/-- A primary frame is DONE: model slots may take it, and its marks count for its sensor (R244, R247). -/
def Blk.noteFrame (b : Blk) (p : Nat) (f : Frame) : Blk :=
  let b := b.noteInput p (f.tFs - b.fld F.CAL_CFG_LAT_US p * 1000) (if f.marks.any then .marked else .good)
  { b with fus := { b.fus with
    frames := b.fus.frames.filter (·.pipe ≠ p) ++ [⟨p, f.addr, f.fcnt, f.tFs, f.marks.any, [], []⟩] } }

/-- Pipeline `p` has written its last frame record: it is DISABLED once the writes it still has to make are done (R228). -/
def Blk.camEnd (b : Blk) (p : Nat) : Blk :=
  let w := b.ownWaiting (512 + p)
  (b.setPipe p { b.pipe p with ending := w }).setFld F.CAM_STATUS_STATE p (if w then 2 else 0)

/-- A draining pipeline without an open frame is DISABLED (R228). -/
def Blk.drained (b : Blk) (p : Nat) : Blk :=
  if b.camState p = 2 && (List.range 4).all fun s => (b.strm p s).frame.isNone then b.camEnd p else b

/-- The open frame of a stream is closed, with LINE_COUNT where it has not HEIGHT lines or `short` (R215, R224, R227). -/
def Blk.closeFrame (b : Blk) (p s : Nat) (short discarded : Bool) : Blk :=
  let x := b.strm p s
  match x.frame with
  | none => b
  | some f =>
    let m := f.marks
    let bad := m.lineCount || short || f.seen != b.fld F.ST_SIZE_HEIGHT (p * 4 + s)
    let f := { f with marks := { m with lineCount := bad, discarded := discarded } }
    let (b, f) := b.writeRecord p f
    let b := b.setStrm p s { b.strm p s with frame := none }
    let b := b.checkEpisode p s f
    (if s = 0 then b.noteFrame p f else b).drained p

/-! ## Packets (R213, R215, R217, R221) -/

/-- The set that applies to primary frame `n`, and the queue without the sets that have applied (R218). -/
def PipeSt.applySets (x : PipeSt) (n : Nat) : PipeSt :=
  match x.queue.find? (fun e => e.1 = n) with
  | some e => { x with set := e.2, queue := x.queue.filter (fun e => n < e.1) }
  | none => { x with queue := x.queue.filter (fun e => n < e.1) }

/-- The primary Frame Start: the frame is counted, its parameter set applies, a capture within TIMEOUT_MS is taken (R218,
R223). -/
def Blk.primaryStart (b : Blk) (p : Nat) : Blk × Option Capture :=
  let x := b.pipe p
  let x := { x.applySets (x.frames + 1) with frames := x.frames + 1 }
  let b := (b.setPipe p x).setFld F.PS_STATUS_SEQ p x.set.seq
  let b := b.setFld F.PS_STATUS_QUEUED p x.queue.length
  match x.capture with
  | some c =>
    if b.tb1 ≤ c.at_ + b.camTimeout p then (b.setPipe p { x with capture := none }, some c) else (b, none)
  | none => (b, none)

/-- A Frame Start on one stream (R221, R222, R227): an open frame is closed, a pending address latches, a late one becomes
pending, and the frame opens where the stream has an active address. -/
def Blk.streamStart (b : Blk) (p s fnum : Nat) (cap : Option Capture) : Blk :=
  let b := b.closeFrame p s true false
  let i := p * 4 + s
  let b := b.incFld F.ST_FCNT_FCNT i
  let x := b.strm p s
  let b := match x.pend with
    | some a =>
      (b.setReg .ST_ACTIVE_LO i (BitVec.ofNat 32 a)).setReg .ST_ACTIVE_HI i (BitVec.ofNat 32 (256 + a / 2 ^ 32 % 256))
    | none => b
  let active := b.flag F.ST_ACTIVE_HI_VALID i
  let addr := b.fld F.ST_ACTIVE_HI_ACTIVE i * 2 ^ 32 + (b.reg .ST_ACTIVE_LO i).toNat
  let frame : Frame :=
    { addr := addr, seen := 0, lines := 0,
      marks := ⟨false, false, false, false, false, false, false, s != 0 || cap.isNone⟩,
      pset := (b.pipe p).set.seq % 65536, fnum := fnum, fcnt := (b.reg .ST_FCNT i).toNat, eccN := 0, crcN := 0,
      tFs := b.tb1, tTrig := if s = 0 then (cap.map (·.value)).getD 0 else 0 }
  b.setStrm p s { x with pend := x.late, late := none, lastFs := b.tb1, noStart := false,
                         frame := if active then some frame else none }

/-- FRAME_START (R213, R218, R221 to R223, R225, R227): a Frame Start with its frame number; a draining pipeline takes
none; one that no enabled stream takes is counted. -/
def Blk.frameStart (b : Blk) (p vc fnum : Nat) (h : Header) : Blk :=
  b.header p vc h fun b =>
    let l := b.streamsOf p vc
    let b := b.when l.isEmpty fun b => b.addSat F.CAM_ERR2_DT_DROP p 1
    if b.camState p ≠ 1 then b
    else
      let (b, cap) := if l.contains 0 then b.primaryStart p else (b, none)
      l.foldl (fun b s => b.streamStart p s fnum cap) b

/-- FRAME_END (R224, R226, R228): a Frame End closes the open frames of its virtual channel. -/
def Blk.frameEnd (b : Blk) (p vc : Nat) (h : Header) : Blk :=
  b.header p vc h fun b =>
    let l := b.streamsOf p vc
    l.foldl (fun b s => b.closeFrame p s false false) (b.when l.isEmpty fun b => b.addSat F.CAM_ERR2_DT_DROP p 1)

/-- LINE_PACKET (R213): accepted and ignored. -/
def Blk.linePacket (b : Blk) (p vc : Nat) (h : Header) : Blk := b.header p vc h fun b => b

/-- Bits of a raw pixel of a data type, 0 for other types (R213, R217). -/
def rawBits (dt : Nat) : Nat :=
  if dt = 0x2A then 8 else if dt = 0x2B then 10 else if dt = 0x2C then 12 else if dt = 0x2D then 14
  else if dt = 0x2E then 16 else 0

/-- Values of a packet that WIDTH counts as one: two bytes of YUV422 are one pixel (R213, R215). -/
def perPixel (dt : Nat) : Nat := if dt = 0x1E then 2 else 1

/-- Bytes stored for one value of a packet (R213). -/
def storedBytes (dt : Nat) : Nat := if 10 ≤ rawBits dt then 2 else 1

/-- BLACK and GAIN applied to the pixel at column `x`, line `y` (R217). -/
def correct (ps : ParamSet) (bits x y v : Nat) : Nat :=
  let q := (y % 2) * 2 + x % 2
  let w := v - ps.black.getD q 0
  min (rshift ((w * ps.gain.getD q 0 : Nat) : Int) 12).toNat (2 ^ bits - 1)

/-- The replacement of a defective pixel by the mean of its same-colour neighbours (R217). -/
def replacePixel (thresh : Nat) (l : List Nat) (x : Nat) : Nat :=
  let v := l.getD x 0
  if thresh = 0 ∨ x < 2 ∨ l.length ≤ x + 2 then v
  else
    let a := l.getD (x - 2) 0
    let c := l.getD (x + 2) 0
    if (a + thresh < v ∧ c + thresh < v) ∨ (v + thresh < a ∧ v + thresh < c) then (a + c) / 2 else v

/-- The values of a line as they are stored (R217). -/
def storeLine (ps : ParamSet) (dt y : Nat) (l : List Nat) : List Byte :=
  let bits := rawBits dt
  let out := if bits = 0 then l
    else
      let c := l.zipIdx.map fun v => correct ps bits v.2 y v.1
      (List.range c.length).map fun x => replacePixel ps.dpc c x
  (out.map fun v => leBytes (storedBytes dt) v).flatten

/-- One line of a frame (R215, R216): at most WIDTH pixels, lines from HEIGHT on dropped. -/
def Blk.storePacket (b : Blk) (p s dt : Nat) (f : Frame) (vals : List Nat) (crcOk lost : Bool) : Blk :=
  let i := p * 4 + s
  let x := b.strm p s
  let y := f.seen
  let width := b.fld F.ST_SIZE_WIDTH i * perPixel dt
  let m := f.marks
  let m := { m with crc := m.crc || !crcOk, lineLen := m.lineLen || vals.length != width,
                    overflow := m.overflow || lost,
                    lineCount := m.lineCount || decide (b.fld F.ST_SIZE_HEIGHT i ≤ y) }
  let f := { f with seen := y + 1, marks := m, crcN := if crcOk then f.crcN else min 65535 (f.crcN + 1) }
  if lost ∨ b.fld F.ST_SIZE_HEIGHT i ≤ y then b.setStrm p s { x with frame := some f }
  else
    let bytes := storeLine (b.pipe p).set dt y (vals.take width)
    let (b, ok) := b.unitWrites (512 + p) (f.addr + 64 + y * b.fld F.ST_PITCH_PITCH i) bytes.length bytes
    b.setStrm p s { x with frame := some { f with lines := f.lines + 1, marks := { m with deny := m.deny || !ok } } }

/-- LONG_PACKET (R213, R215 to R217, R225): a long packet with its values as CSI-2 unpacks them, its payload check, and
whether the line buffer lost it. -/
def Blk.longPacket (b : Blk) (p vc dt : Nat) (h : Header) (vals : List Nat) (crcOk lost : Bool) : Blk :=
  b.header p vc h fun b =>
    match (b.streamsOf p vc).find? (fun s => b.fld F.ST_CFG_DT (p * 4 + s) == dt) with
    | none => b.addSat F.CAM_ERR2_DT_DROP p 1
    | some s =>
      let b := if crcOk then b else b.addSat F.CAM_ERR0_CRC_CNT p 1
      match (b.strm p s).frame with
      | some f => b.storePacket p s dt f vals crcOk lost
      | none => b

/-! ## Commits (R216, R218, R219, R221) -/

/-- The buffer at an address keeps R216. -/
def Blk.bufferOk (b : Blk) (i addr : Nat) : Bool :=
  let h := b.fld F.ST_SIZE_HEIGHT i
  let pitch := b.fld F.ST_PITCH_PITCH i
  let dt := b.fld F.ST_CFG_DT i
  let last := addr + 64 + h * pitch
  addr % 64 == 0 && pitch % 64 == 0 &&
    decide (b.fld F.ST_SIZE_WIDTH i * perPixel dt * storedBytes dt ≤ pitch) &&
    ((decide (0x10000000 ≤ addr) && decide (last ≤ 0x12000000)) ||
      (decide (0x1000000000 ≤ addr) && decide (last ≤ 0x1400000000)))

/-- STREAM_ADDRESS_COMMIT (R216, R221): ST_COMMIT is written 1; `late` where less than one pixel clock is left before the
next Frame Start is decoded. -/
def Blk.addressCommit (b : Blk) (p s : Nat) (late : Bool) : Blk :=
  let i := p * 4 + s
  let addr := b.fld F.ST_ADDR_HI_ADDR i * 2 ^ 32 + (b.reg .ST_ADDR_LO i).toNat
  if !b.bufferOk i addr then b.setFld F.ST_STATUS_ADDR_REFUSED i 1
  else
    let x := b.strm p s
    if late then (b.setStrm p s { x with late := some addr }).setFld F.ST_STATUS_COMMIT_LATE i 1
    else b.setStrm p s { x with pend := some addr, late := none }

/-- The shadow parameter set of pipeline `p` (R218). -/
def Blk.shadowSet (b : Blk) (p seq : Nat) : ParamSet :=
  ⟨seq, [b.fld F.PS_BLACK01_BLACK0 p, b.fld F.PS_BLACK01_BLACK1 p, b.fld F.PS_BLACK23_BLACK2 p, b.fld F.PS_BLACK23_BLACK3 p],
    (List.range 4).map fun q => b.fld F.PS_GAIN_GAIN (p * 4 + q), b.fld F.PS_DPC_DPC_THRESH p⟩

/-- PARAMETER_COMMIT (R218, R219): PS_COMMIT is written with COMMIT = 1. -/
def Blk.paramCommit (b : Blk) (p delay : Nat) (late : Bool) : Blk :=
  let x := b.pipe p
  if 4 ≤ x.queue.length then b.setFld F.PS_STATUS_PARAM_FULL p 1
  else
    let n := x.frames + 1 + delay + late.toNat
    let q := x.queue.filter (fun e => e.1 ≠ n) ++ [(n, b.shadowSet p x.nextSeq)]
    let b := b.setPipe p { x with queue := q, nextSeq := x.nextSeq + 1 }
    let b := b.setFld F.PS_STATUS_QUEUED p q.length
    if late then b.setFld F.PS_STATUS_COMMIT_LATE p 1 else b

/-! ## Enabling (R228) -/

/-- PIPELINE_ENABLE (R228). -/
def Blk.camEnable (b : Blk) (p : Nat) : Blk :=
  match b.camState p with
  | 0 =>
    let b := b.setPipe p { b.pipe p with ending := false }
    let b := (b.setFld F.CAM_CTRL_EN p 1).setFld F.CAM_STATUS_STATE p 1
    (List.range 4).foldl (fun b s => b.setStrm p s { b.strm p s with lastFs := b.tb1 }) b
  | 2 => b.setFld F.CAM_STATUS_EN_REFUSED p 1
  | _ => b

/-- The pipeline stops at once (R228, DIS_MODE 1). -/
def Blk.camAbort (b : Blk) (p : Nat) : Blk :=
  ((List.range 4).foldl (fun b s => b.closeFrame p s true true) (b.setFld F.CAM_CTRL_EN p 0)).camEnd p

/-- PIPELINE_DISABLE (R228). -/
def Blk.camDisable (b : Blk) (p : Nat) : Blk :=
  if b.camState p ≠ 1 then b.setFld F.CAM_CTRL_EN p 0
  else if b.flag F.CAM_CTRL_DIS_MODE p then b.camAbort p
  else ((b.setFld F.CAM_CTRL_EN p 0).setFld F.CAM_STATUS_STATE p 2).drained p

/-! ## Triggers and time limits (R223, R227) -/

/-- EXPOSURE_TRIGGER (R223): a trigger of KIND 3 reaches the pipeline. -/
def Blk.exposureTrigger (b : Blk) (p : Nat) : Blk :=
  match b.takeTrig 3 p with
  | none => b
  | some (t, b) =>
    b.when (b.camRuns p) fun b =>
      let x := b.pipe p
      let b := if x.capture.isSome then b.addSat F.CAM_ERR2_TRIG_LOST p 1 else b
      b.setPipe p { x with pulse := some b.tb1,
                           capture := some ⟨t.vals.getD 1 0, t.vals.getD (b.fld F.CAM_TRIG_TB_SEL p) 0⟩ }

/-- TRIGGER_PULSE_END (R223): WIDTH_US have passed. -/
def Blk.pulseEnd (b : Blk) (p : Nat) : Blk :=
  match (b.pipe p).pulse with
  | none => b
  | some t =>
    b.when (decide (t + max 1 (min 1000 (b.fld F.CAM_TRIG_WIDTH_US p)) * 1000 ≤ b.tb1)) fun b =>
      b.setPipe p { b.pipe p with pulse := none }

/-- The level of CAM_TRIGp: true is high (R223); a disabled pipeline does not assert it (R228); high impedance (none) in reset
(R434). -/
def Blk.camTrigPin (b : Blk) (p : Nat) : Option Bool :=
  if b.outOfReset then some (((b.pipe p).pulse.isSome && b.camState p != 0) != b.flag F.CAM_TRIG_POL p) else none

/-- A CAM_LATE record (R227). -/
def Blk.camLate (b : Blk) (p s detail : Nat) : Blk :=
  b.raise (512 + p) 0x09 detail (p * 2 ^ 28 + s * 2 ^ 26 + (b.reg .ST_FCNT (p * 4 + s)).toNat % 65536)

/-- NO_FRAME (R227, R247): no primary Frame Start within TIMEOUT_MS of a trigger; the frame is missing. -/
def Blk.noFrame (b : Blk) (p : Nat) : Blk :=
  match (b.pipe p).capture with
  | none => b
  | some c =>
    b.when (b.camRuns p && decide (c.at_ + b.camTimeout p < b.tb1)) fun b =>
      let b := (b.setPipe p { b.pipe p with capture := none }).camLate p 0 0x01
      b.noteInput p b.tb1 .missing

/-- NO_END (R227): no Frame End within TIMEOUT_MS of a Frame Start. -/
def Blk.noEnd (b : Blk) (p s : Nat) : Blk :=
  match (b.strm p s).frame with
  | none => b
  | some f =>
    b.when (b.camRuns p && decide (f.tFs + b.camTimeout p < b.tb1)) fun b => (b.closeFrame p s true false).camLate p s 0x02

/-- NO_START (R227): no Frame Start for 4 × TIMEOUT_MS. -/
def Blk.noStart (b : Blk) (p s : Nat) : Blk :=
  let x := b.strm p s
  b.when (b.camRuns p && b.camState p == 1 && b.flag F.ST_CFG_EN (p * 4 + s) && !x.noStart &&
      decide (x.lastFs + 4 * b.camTimeout p ≤ b.tb1)) fun b =>
    (b.setStrm p s { x with noStart := true }).camLate p s 0x03

/-! ## Sensor control (R229) and the receiver (R212, R225) -/

/-- CCI_START (R229): CCI_CMD is written with START = 1. -/
def Blk.cciStart (b : Blk) (p : Nat) (cmd : Word) : Blk :=
  let b := b.setReg .CCI_CMD p (cmd &&& BitVec.ofNat 32 RegName.CCI_CMD.masks.rw)
  if b.flag F.CCI_STATUS_BUSY p then b
  else
    let len := max 1 (min 8 (b.fld F.CCI_CMD_LEN p))
    let rd := b.flag F.CCI_CMD_READ p
    let tx := (leBytes 4 (b.reg .CCI_TX (p * 2)).toNat ++ leBytes 4 (b.reg .CCI_TX (p * 2 + 1)).toNat).take len
    (b.setPipe p { b.pipe p with cci := some (rd, len, b.fld F.CCI_CMD_ADDR7 p, if rd then [] else tx) }).setFld
      F.CCI_STATUS_BUSY p 1

/-- CCI_DONE (R229): the transfer completes with the bytes read, or ends on a NACK. -/
def Blk.cciDone (b : Blk) (p : Nat) (nack : Bool) (rx : List Byte) : Blk :=
  match (b.pipe p).cci with
  | none => b
  | some (rd, len, _, _) =>
    let b := (b.setPipe p { b.pipe p with cci := none }).setFld F.CCI_STATUS_BUSY p 0
    let b := (b.setFld F.CCI_STATUS_DONE p 1).setFld F.CCI_STATUS_DONE_FCNT p (b.reg .ST_FCNT (p * 4)).toNat
    let b := if rd && !nack then
      let l := rx.take len
      (b.setReg .CCI_RX (p * 2) (BitVec.ofNat 32 (ofLeBytes (l.take 4)))).setReg .CCI_RX (p * 2 + 1)
        (BitVec.ofNat 32 (ofLeBytes (l.drop 4)))
      else b
    if nack then b.setFld F.CCI_STATUS_NACK p 1 else b

/-- PHY_LOCK_CHANGE (R212): the clock lane enters or leaves high speed. -/
def Blk.phyLock (b : Blk) (p : Nat) (hs : Bool) : Blk := b.setFlag F.CAM_STATUS_PHY_LOCK p hs

/-- SOT_SYNC_ERROR (R225). -/
def Blk.sotError (b : Blk) (p : Nat) : Blk := b.when (b.camRuns p) fun b => b.addSat F.CAM_ERR1_SOT_ERR p 1

end Sys2Proof.Machine
end

