-- ==== Sys2Proof/Machine/Crypto.lean ====
section
/-!
DEFINITION. SHA-384 (FIPS 180-4) and the verification of ECDSA signatures on P-384 (FIPS 186-4), which R367 and R404 name.
Readings and choices: log 25 of notes/assumptions.
-/

namespace Sys2Proof.Machine

/-! ## SHA-384 -/

/-- The round constants. -/
def shaK : List (BitVec 64) :=
  [0x428A2F98D728AE22, 0x7137449123EF65CD, 0xB5C0FBCFEC4D3B2F, 0xE9B5DBA58189DBBC,
    0x3956C25BF348B538, 0x59F111F1B605D019, 0x923F82A4AF194F9B, 0xAB1C5ED5DA6D8118,
    0xD807AA98A3030242, 0x12835B0145706FBE, 0x243185BE4EE4B28C, 0x550C7DC3D5FFB4E2,
    0x72BE5D74F27B896F, 0x80DEB1FE3B1696B1, 0x9BDC06A725C71235, 0xC19BF174CF692694] ++
  [0xE49B69C19EF14AD2, 0xEFBE4786384F25E3, 0x0FC19DC68B8CD5B5, 0x240CA1CC77AC9C65,
    0x2DE92C6F592B0275, 0x4A7484AA6EA6E483, 0x5CB0A9DCBD41FBD4, 0x76F988DA831153B5,
    0x983E5152EE66DFAB, 0xA831C66D2DB43210, 0xB00327C898FB213F, 0xBF597FC7BEEF0EE4,
    0xC6E00BF33DA88FC2, 0xD5A79147930AA725, 0x06CA6351E003826F, 0x142929670A0E6E70] ++
  [0x27B70A8546D22FFC, 0x2E1B21385C26C926, 0x4D2C6DFC5AC42AED, 0x53380D139D95B3DF,
    0x650A73548BAF63DE, 0x766A0ABB3C77B2A8, 0x81C2C92E47EDAEE6, 0x92722C851482353B,
    0xA2BFE8A14CF10364, 0xA81A664BBC423001, 0xC24B8B70D0F89791, 0xC76C51A30654BE30,
    0xD192E819D6EF5218, 0xD69906245565A910, 0xF40E35855771202A, 0x106AA07032BBD1B8] ++
  [0x19A4C116B8D2D0C8, 0x1E376C085141AB53, 0x2748774CDF8EEB99, 0x34B0BCB5E19B48A8,
    0x391C0CB3C5C95A63, 0x4ED8AA4AE3418ACB, 0x5B9CCA4F7763E373, 0x682E6FF3D6B2B8A3,
    0x748F82EE5DEFB2FC, 0x78A5636F43172F60, 0x84C87814A1F0AB72, 0x8CC702081A6439EC,
    0x90BEFFFA23631E28, 0xA4506CEBDE82BDE9, 0xBEF9A3F7B2C67915, 0xC67178F2E372532B] ++
  [0xCA273ECEEA26619C, 0xD186B8C721C0C207, 0xEADA7DD6CDE0EB1E, 0xF57D4F7FEE6ED178,
    0x06F067AA72176FBA, 0x0A637DC5A2C898A6, 0x113F9804BEF90DAE, 0x1B710B35131C471B,
    0x28DB77F523047D84, 0x32CAAB7B40C72493, 0x3C9EBE0A15C9BEBC, 0x431D67C49C100D4C,
    0x4CC5D4BECB3E42B6, 0x597F299CFC657E2A, 0x5FCB6FAB3AD6FAEC, 0x6C44198C4A475817]

/-- The first hash value. -/
def shaH : List (BitVec 64) :=
  [0xCBBB9D5DC1059ED8, 0x629A292A367CD507, 0x9159015A3070DD17, 0x152FECD8F70E5939,
    0x67332667FFC00B31, 0x8EB44A8768581511, 0xDB0C2E0D64F98FA7, 0x47B5481DBEFA4FA4]

/-- A message with its padding: a 1, zeros, and the length in bits as 16 bytes. -/
def shaPad (l : List Byte) : List Byte :=
  let n := l.length
  l ++ 0x80 :: List.replicate ((239 - n % 128) % 128) 0 ++ (leBytes 16 (8 * n)).reverse

/-- The 16 words of a block, first word first. -/
def shaWords (blk : List Byte) : List (BitVec 64) :=
  (List.range 16).map fun k => BitVec.ofNat 64 (ofLeBytes ((blk.drop (8 * k)).take 8).reverse)

/-- The message schedule so far, last word first, with `n` more words. -/
def shaSchedule : Nat → List (BitVec 64) → List (BitVec 64)
  | 0, w => w
  | n + 1, w =>
    let a := w.getD 1 0
    let b := w.getD 14 0
    let s1 := a.rotateRight 19 ^^^ a.rotateRight 61 ^^^ (a >>> (6 : Nat))
    let s0 := b.rotateRight 1 ^^^ b.rotateRight 8 ^^^ (b >>> (7 : Nat))
    shaSchedule n ((s1 + w.getD 6 0 + s0 + w.getD 15 0) :: w)

/-- The eight working variables. -/
structure ShaSt where
  a : BitVec 64
  b : BitVec 64
  c : BitVec 64
  d : BitVec 64
  e : BitVec 64
  f : BitVec 64
  g : BitVec 64
  h : BitVec 64

/-- One round with constant and schedule word `kw`. -/
def ShaSt.round (v : ShaSt) (kw : BitVec 64 × BitVec 64) : ShaSt :=
  let s1 := v.e.rotateRight 14 ^^^ v.e.rotateRight 18 ^^^ v.e.rotateRight 41
  let s0 := v.a.rotateRight 28 ^^^ v.a.rotateRight 34 ^^^ v.a.rotateRight 39
  let t1 := v.h + s1 + ((v.e &&& v.f) ^^^ (~~~ v.e &&& v.g)) + kw.1 + kw.2
  let t2 := s0 + ((v.a &&& v.b) ^^^ (v.a &&& v.c) ^^^ (v.b &&& v.c))
  ⟨t1 + t2, v.a, v.b, v.c, v.d + t1, v.e, v.f, v.g⟩

/-- The hash value after a block. -/
def shaBlock (h : List (BitVec 64)) (blk : List Byte) : List (BitVec 64) :=
  let w := (shaSchedule 64 (shaWords blk).reverse).reverse
  let x := fun k => h.getD k 0
  let v := (shaK.zip w).foldl ShaSt.round ⟨x 0, x 1, x 2, x 3, x 4, x 5, x 6, x 7⟩
  [x 0 + v.a, x 1 + v.b, x 2 + v.c, x 3 + v.d, x 4 + v.e, x 5 + v.f, x 6 + v.g, x 7 + v.h]

/-- The hash value after `n` blocks of a padded message. -/
def shaBlocks : Nat → List (BitVec 64) → List Byte → List (BitVec 64)
  | 0, h, _ => h
  | n + 1, h, l => shaBlocks n (shaBlock h (l.take 128)) (l.drop 128)

/-- The SHA-384 digest of a byte string, 48 bytes. -/
def sha384 (l : List Byte) : List Byte :=
  let m := shaPad l
  ((shaBlocks (m.length / 128) shaH m).take 6).flatMap fun x => (leBytes 8 x.toNat).reverse

/-! ## P-384 -/

/-- The prime of the field, the constant of the curve y² = x³ − 3x + b, the order of the group. -/
def primeP384 : Nat :=
  0xFFFFFFFFFFFFFFFFFFFFFFFFFFFFFFFFFFFFFFFFFFFFFFFFFFFFFFFFFFFFFFFEFFFFFFFF0000000000000000FFFFFFFF
def curveP384 : Nat :=
  0xB3312FA7E23EE7E4988E056BE3F82D19181D9C6EFE8141120314088F5013875AC656398D8A2ED19D2A85C8EDD3EC2AEF
def orderP384 : Nat :=
  0xFFFFFFFFFFFFFFFFFFFFFFFFFFFFFFFFFFFFFFFFFFFFFFFFC7634D81F4372DDF581A0DB248B0A77AECEC196ACCC52973

/-- A point, none for the one at infinity. -/
abbrev Point384 := Option (Nat × Nat)

/-- The base point. -/
def baseP384 : Point384 :=
  some (0xAA87CA22BE8B05378EB1C71EF320AD746E1D3B628BA79B9859F741E082542A385502F25DBF55296C3A545E3872760AB7,
    0x3617DE4A96262C6F5D9E98BF9292DC29F8F41DBD289A147CE9DA3113B5F0B8C00A60B1CE1D7E819D7A431D7C90EA0E5F)

/-- `a` to the low `n` bits of `e`, modulo `m`. -/
def powBits (a e m : Nat) : Nat → Nat
  | 0 => 1 % m
  | n + 1 => let h := powBits a (e / 2) m n
             if e.testBit 0 then h * h % m * a % m else h * h % m

/-- The inverse modulo a prime of at most 384 bits. -/
def invMod (a m : Nat) : Nat := powBits a (m - 2) m 384

/-- The line's third point, mirrored: the sum of two points on a line of slope `l`. -/
def chordP384 (l x1 y1 x2 : Nat) : Point384 :=
  let p := primeP384
  let x := (l * l + 2 * p - x1 - x2) % p
  some (x, (l * (x1 + p - x) + p - y1) % p)

/-- The sum of two points. -/
def addP384 : Point384 → Point384 → Point384
  | none, q => q
  | p, none => p
  | some (x1, y1), some (x2, y2) =>
    let p := primeP384
    if x1 = x2 then
      if (y1 + y2) % p = 0 then none
      else chordP384 ((3 * x1 * x1 + p - 3) * invMod (2 * y1 % p) p % p) x1 y1 x2
    else chordP384 ((y2 + p - y1) * invMod ((x2 + p - x1) % p) p % p) x1 y1 x2

/-- A point times the low `n` bits of `k`. -/
def mulP384 (k : Nat) (q : Point384) : Nat → Point384
  | 0 => none
  | n + 1 =>
    let h := mulP384 (k / 2) q n
    let d := addP384 h h
    if k.testBit 0 then addP384 d q else d

/-- X, Y lies on P-384 (R367). -/
def onP384 (x y : Nat) : Bool :=
  let p := primeP384
  decide (x < p) && decide (y < p) && y * y % p == (x * x * x + (p - 3) * x + curveP384) % p

/-- The ECDSA signature r, s under key X, Y verifies over a digest of 48 bytes, with r and s between 1 and n − 1 (R367). -/
def ecdsaP384 (x y r s : Nat) (digest : List Byte) : Bool :=
  let n := orderP384
  let w := invMod s n
  let e := ofLeBytes digest.reverse
  let g := addP384 (mulP384 (e * w % n) baseP384 384) (mulP384 (r * w % n) (some (x, y)) 384)
  onP384 x y && decide (1 ≤ r) && decide (r < n) && decide (1 ≤ s) && decide (s < n) &&
    match g with
    | none => false
    | some (gx, _) => gx % n == r

end Sys2Proof.Machine
end

