-- ==== Sys2Proof/Machine/Hpc.lean ====
section
/-!
DEFINITION. The Harvest Process Controller (spec chapter 05).
Readings and choices: logs 3, 26, 37 to 39, 64 of notes/assumptions.
-/

namespace Sys2Proof.Machine

/-! ## State of a function -/

/-- Function `n` beyond its registers. -/
def Blk.fn (b : Blk) (n : Nat) : FnSt := SMap.get b.hpc.fns n FnSt.zero

/-- The block with function `n` at `x`. -/
def Blk.setFn (b : Blk) (n : Nat) (x : FnSt) : Blk :=
  { b with hpc := { b.hpc with fns := NMap.set b.hpc.fns n x FnSt.zero } }

/-- The previous target of function `n` (R131). -/
def Blk.target (b : Blk) (n : Nat) : Int := (b.reg .FN_TARGET n).toInt

/-- The block with register `r` of function `n` at the signed number `v`. -/
def Blk.setIntReg (b : Blk) (r : RegName) (n : Nat) (v : Int) : Blk := b.setReg r n (BitVec.ofInt 32 v)

/-- The mode of function `n` (R130): 0 MANUAL, 1 ASSIST, 2 AUTO. -/
def Blk.fnMode (b : Blk) (n : Nat) : Nat := b.fld F.FN_MODE_ACT n

/-- The thirty functions. -/
def fnAll : List Nat := (List.range 30).map (· + 1)

/-- The threshing and cleaning set, in ascending order (R139). -/
def fnSet : List Nat := [12, 13, 14, 15, 17, 18, 19, 20, 22]

/-! ## Limits (R128, R144) -/

/-- Index of the limit table entry of function `n` for the crop in use (R144). -/
def Blk.limIdx (b : Blk) (n : Nat) : Nat := b.fld F.HPC_CTRL_CROP 0 * 32 + n

/-- The narrower minimum of function `n`. -/
def Blk.limMin (b : Blk) (n : Nat) : Int := max (fnRange n).min (b.reg .LIM_MIN (b.limIdx n)).toInt

/-- The narrower maximum of function `n`. -/
def Blk.limMax (b : Blk) (n : Nat) : Int := min (fnRange n).max (b.reg .LIM_MAX (b.limIdx n)).toInt

/-- The narrower rate of function `n`, up or down, LSB per second. -/
def Blk.rate (b : Blk) (n : Nat) (up : Bool) : Nat :=
  let r := if up then (b.reg .LIM_UP (b.limIdx n)).toNat else (b.reg .LIM_DN (b.limIdx n)).toNat
  min r (if up then (fnRange n).up else (fnRange n).dn)

/-- The longer least time between steps of a discrete function, ms; 0 freezes the direction (R144). -/
def Blk.stepMs (b : Blk) (n : Nat) (up : Bool) : Nat :=
  let r := if up then (b.reg .LIM_UP (b.limIdx n)).toNat else (b.reg .LIM_DN (b.limIdx n)).toNat
  if r = 0 then 0 else if n = 25 then r else max r (if up then (fnRange n).up else (fnRange n).dn)

/-- The least value of a function that is off at 0 and otherwise has a range of its own (HF25, HF26). -/
def offGap (n : Nat) : Int := if n = 25 then 1000 else if n = 26 then 10000 else 0

/-- A candidate of a discrete function rounded to the nearest value that R128 allows (R143); half-way, the higher (log 64). -/
def fnRound (n : Nat) (v : Int) : Int :=
  let g := offGap n
  let top := (fnRange n).max
  if n = 16 ∨ n = 30 then max 0 (min top v)
  else if g = 0 then v
  else if 2 * v < g then 0
  else max g (min top v)

/-- The candidate within the narrower range (R143, step 2), never outside the built-in one, and never between off and the least
value of a function that can be off (R128). -/
def Blk.clampFn (b : Blk) (n : Nat) (v : Int) : Int :=
  let c := max (fnRange n).min (min (fnRange n).max (max (b.limMin n) (min (b.limMax n) v)))
  if 0 < c ∧ c < offGap n then (if b.limMax n < offGap n then 0 else offGap n) else c

/-- A step of function `n` may be made now: the least time since its last step has passed (R128, R144). -/
def Blk.stepDue (b : Blk) (n : Nat) (up : Bool) : Bool :=
  let ms := b.stepMs n up
  ms != 0 && (match (b.fn n).stepAt with
    | none => true
    | some t => decide (t + ms * 1000000 ≤ b.tb1))

/-- One round's move from `p` toward `v` at a rate: at most floor(rate × 0.020 s), at least 1 LSB, none at rate 0 (R128). -/
def moveBy (p v : Int) (up dn : Nat) : Int :=
  if v = p then p
  else if v > p then (if up = 0 then p else min v (p + max 1 (up / 50 : Nat)))
  else if dn = 0 then p else max v (p - max 1 (dn / 50 : Nat))

/-- A function that can be off may go from off to its least value (`up`) or back now: HF25 in its steps, HF26 at once, and neither
where the rate of that direction is 0 (R128, R144, log 64). -/
def Blk.gapDue (b : Blk) (n : Nat) (up : Bool) : Bool :=
  if n = 26 then decide (0 < b.rate n up) else b.stepDue n up

/-- The rate step of the arbiter (R143, step 4): the new target, and whether it was a discrete step. -/
def Blk.rateStep (b : Blk) (n : Nat) (p v : Int) : Int × Bool :=
  let g := offGap n
  if v = p then (p, false)
  else if n = 16 ∨ n = 30 then
    if b.stepDue n (decide (v > p)) then ((if v > p then p + 1 else p - 1), true) else (p, false)
  else if g ≠ 0 ∧ (p < g ∨ (p = g ∧ v < g)) then
    if b.gapDue n (decide (v > p)) then ((if v < g then v else g), true) else (p, false)
  else (moveBy p (if g = 0 then v else max v g) (b.rate n true) (b.rate n false), false)

/-! ## Anticipation (R135 to R138) -/

/-- Measured ground speed from TB3, mm/s (R136): counts per nanosecond of its last interval, 0 while it stalls. -/
def Blk.groundSpeed (b : Blk) : Nat :=
  match (b.built 3).ival with
  | some iv =>
    if iv = 0 ∨ b.flag F.TB_STAT_STALLED 3 then 0
    else (b.pulseStep 3 * 1000000 / (13107200000 * (iv : Int))).toNat
  | none => 0

/-- EPOCH_MS as used (R238). -/
def Blk.epochMs (b : Blk) : Nat := max 20 (min 200 (b.fld F.FUS_GRID_CFG_EPOCH_MS 0))

/-- The grid is too old for the module's own consumers (R234): TB1 of the newest published epoch is `pubAt`. -/
def Blk.gridOld (b : Blk) : Bool := decide (b.fus.pubAt + 3 * b.epochMs * 1000000 < b.tb1)

/-- The swath width over which crop is fed, mm (R252): as measured where it is valid. -/
def Blk.swathSeen (b : Blk) : Nat :=
  if b.flag F.FUS_SWATH_V 0 then b.fld F.FUS_SWATH_WIDTH_MM 0 else b.fld F.FUS_HEADER_HEADER_W_MM 0

/-- The swath width that the HPC and the yield map use, mm: the cells of an old grid count as unseen (R234, R252). -/
def Blk.swathMm (b : Blk) : Nat := if b.gridOld then b.fld F.FUS_HEADER_HEADER_W_MM 0 else b.swathSeen

/-- The bins that the HPC uses: confidence and crop volume in 0.01 L/m² (R135, R234, R252); cells of an old grid have confidence 0 and
give no volume. -/
def Blk.bins (b : Blk) : List (Nat × Nat) :=
  (List.range ((min 800 (b.fld F.HPC_ANT_LOOK_CM 0) + 24) / 25)).map fun i =>
    if b.gridOld || !b.flag F.FUS_BIN_V i then (0, 0) else (b.fld F.FUS_BIN_C i, b.fld F.FUS_BIN_Q i)

/-- The crop volume that each bin is taken at: a bin of low confidence takes the highest of the bins ahead of it that have
enough (R137); where none has, a free value. -/
def binVolumes (conf free : Nat) : List (Nat × Nat) → List Nat
  | [] => []
  | (c, q) :: l =>
    let good := (l.filter fun x => conf ≤ x.1).map (·.2)
    let v := if conf ≤ c then q else match good.max? with
      | some m => m
      | none => Config.hpcBin free
    v :: binVolumes conf free l

/-- The speed in µm/s that a bin permits, squared, with the distance left to slow down (R136): none where the bin sets
no bound. -/
def binEnvelope (feed width dens aDn vNow lead i q : Nat) : Option Nat :=
  let m := width * (q * dens)
  if m = 0 then none
  else
    let cap := feed * 100000000000 / m
    let x := i * 250000 - vNow * lead
    some (cap * cap + 2 * (aDn * 1000) * x)

/-- The ground-speed goal of anticipation, mm/s, or none while it is suspended (R136, R137). -/
def Blk.speedGoal (b : Blk) (feed : Nat) : Option Int :=
  let conf := b.fld F.HPC_ANT_CONF_MIN 0
  let bins := b.bins
  if bins.all fun x => decide (x.1 < conf) then none
  else
    let env := (binVolumes conf b.free bins).zipIdx.filterMap fun x =>
      binEnvelope feed b.swathMm (b.fld F.HPC_DENS_DENS 0) (b.rate 10 false) b.groundSpeed (b.fld F.HPC_ANT_T_LEAD_MS 0)
        x.2 x.1
    match env.min? with
    | none => some (b.limMax 10)
    | some e => some (min (((isqrt (min e (2 ^ 100)) + 500) / 1000 : Nat) : Int) (b.limMax 10))

/-- The feed-rate target F, g/s (R138). -/
def Blk.feedTarget (b : Blk) : Nat :=
  if b.flag F.HPC_FEED_FIX_FIX 0 then b.fld F.HPC_FEED_FIX_RATE 0 else b.hpc.choice % 2 ^ 24

/-- The goal of HF07 and HF09: feeding the anticipated crop at the feeder (R138). -/
def Blk.feederGoal (b : Blk) (n : Nat) : Int :=
  Config.feederGoal n (binVolumes (b.fld F.HPC_ANT_CONF_MIN 0) b.free b.bins) b.swathMm (b.fld F.HPC_DENS_DENS 0) b.groundSpeed

/-- The goal of HF24 and HF25: unload coordination (R351). -/
def Blk.unloadGoal (b : Blk) (n : Nat) : Int :=
  let st := b.fld F.FLEET_STATUS_STATE 0
  if n = 24 then (if st = 1 ∨ st = 2 then b.fld F.FLEET_UNLOAD_UNLOAD_DEG 0 * 10 else 0)
  else if st = 2 then b.fld F.FLEET_UNLOAD_UNLOAD_RATE 0 else 0

/-- The HPC's goal of function `n` (R130, R136 to R138, R351): the proposal for the set, the ratio that the optimiser has set for
HF04, whose unit is the ground speed, and DEF of the crop before it has set one (log 64), anticipation for HF07, HF09 and HF10, unload coordination for HF24 and HF25, else the
function's rule, a free value. -/
def Blk.goal (b : Blk) (n feed measured : Nat) : Int :=
  if fnSet.contains n then ((b.fn n).prop).getD (b.reg .DEF (b.limIdx n)).toInt
  else if n = 4 then b.hpc.reel.getD (b.reg .DEF (b.limIdx 4)).toInt
  else if n = 7 ∨ n = 9 then satN 32 (b.feederGoal n)
  else if n = 24 ∨ n = 25 then b.unloadGoal n
  else if n = 10 then
    match b.speedGoal feed with
    | some g => g
    | none => if measured ≤ feed then b.target 10 else b.limMin 10
  else satN 32 (Config.hpcRule n b.free)

/-! ## Measured inputs (R129, R134) -/

/-- The latest sample of the feedback stream of function `n`, a sample word (R196, log 64): its value in target LSB, and V. -/
def Blk.fnSample (b : Blk) (n : Nat) : Int × Bool :=
  let w := b.streamWord (b.fld F.FN_CFG1_FB_STREAM n)
  (sampleValue w, sampleValid w)

/-- The measured value of function `n`. -/
def Blk.meas (b : Blk) (n : Nat) : Int := (b.fnSample n).1

/-- J1939 value `i`: 0 engine speed, 1 load, 2 fuel rate, while it is valid (R346). -/
def Blk.pgnValue (b : Blk) (i : Nat) : Option Nat :=
  match SMap.get b.net.pgn i none with
  | some (v, t) => if b.tb1 < t + 500000000 then some v else none
  | none => none

/-- The engine load, 0.1 %, while it is valid: SPN 92 counts in 1 % (R145, R346). -/
def Blk.engineLoad (b : Blk) : Option Nat := (b.pgnValue 1).map (· * 10)

/-- Functions that R128 has driven by the grid, by TB3, and by the engine load. HF10 is not among the first: R137 says what it does
where the grid's confidence is low (log 64). -/
def gridDriven : List Nat := [1, 3, 4, 5, 6, 7, 8, 9, 11, 30]
def speedDriven : List Nat := [4, 7, 8, 9, 10, 30]

/-- The grid confidence over the region ahead that the HPC uses: the mean over its bins (R134, log 64). -/
def Blk.gridConf (b : Blk) : Nat :=
  let l := b.bins
  (l.foldl (fun acc x => acc + x.1) 0) / l.length

/-- The driving inputs of function `n` are valid in this round (R134, R346); HF11 steers by the navigation solution, which says so
itself (V, R266). -/
def Blk.inputValid (b : Blk) (n : Nat) : Bool :=
  (b.fnSample n).2 && (n != 11 || (b.navRec.getD 0 0).toNat.testBit 31) && (!gridDriven.contains n || decide (b.fld F.HPC_ANT_CONF_MIN 0 ≤ b.gridConf)) &&
    (!speedDriven.contains n || b.tbValid 3) && (n != 30 || b.engineLoad.isSome)

/-! ## Interlocks (R145, R146) -/

/-- The condition of interlock `d` for function `n` holds: the blocking function's code and the measured value (R147), whose unit for
HF25 is 0.01 % and for HF12 0.1 rpm (log 64). -/
def Blk.ilkCond (b : Blk) (x : RoundInputs) (n d : Nat) : Option (Nat × Int) :=
  match d with
  | 1 =>
    if n = 25 ∧ b.meas 24 < (b.fld F.HPC_ILK0_UNLOAD_MIN 0 : Int) * 10 then some (24, b.meas 24 / 10) else none
  | 2 =>
    if (n = 14 ∨ n = 15 ∨ n = 17) ∧ b.fld F.HPC_ILK0_ROTOR_LOAD_LIM 0 < x.rotor then some (0, x.rotor) else none
  | 3 => if n = 24 ∧ (0 < b.target 25 ∨ 0 < b.meas 25) then some (25, b.meas 25) else none
  | 4 =>
    if (n = 5 ∨ n = 6) ∧ b.meas 5 < (b.fld F.HPC_ILK1_REEL_LOW 0 : Int) * 1000 ∧
        (b.fld F.HPC_ILK1_REEL_AFT 0 : Int) * 1000 < b.meas 6 then
      some (11 - n, b.meas 5 / 1000)
    else none
  | 5 => if n = 16 ∧ 0 < b.meas 12 then some (12, b.meas 12) else none
  | 6 => match b.engineLoad with
    | some v => if n = 10 ∧ b.fld F.HPC_ILK2_ENGINE_LOAD_LIM 0 < v then some (0, (v : Int)) else none
    | none => none
  | 7 =>
    if (n = 7 ∨ n = 8 ∨ n = 9 ∨ n = 12 ∨ n = 25) ∧ b.flag F.HPC_CTRL_ROAD 0 then
      some (0, Config.roadValue b.free) else none
  | _ => none

/-- Interlock `d` refuses the change of function `n` from `p` to `v` while its condition holds. In ROAD_MODE "from 0" binds HF25 alone:
the ranges of the others do not hold 0 (log 64). -/
def Blk.ilkRefuses (b : Blk) (n d : Nat) (p v : Int) : Bool :=
  match d with
  | 1 => p == 0 && v != 0
  | 2 | 5 => v != p
  | 3 => decide (v < p) && decide (v < (b.fld F.HPC_ILK0_UNLOAD_MIN 0 : Int) * 10)
  | 4 => if n = 5 then decide (v < p) else decide (p < v)
  | 6 => decide (p < v)
  | 7 => if n = 25 then p == 0 && v != 0 else v != p
  | _ => false

/-- The interlock episodes of function `n` whose condition is absent in this round end (R146). -/
def Blk.ilkClose (b s : Blk) (x : RoundInputs) (n : Nat) : Blk :=
  b.setFn n { b.fn n with ilk := (b.fn n).ilk.filter fun d => (s.ilkCond x n d).isSome }

/-- The interlocks of one function for a change from `p` to `v`: the block with episodes and records, and whether the
change is refused (R146). `s` is the round's snapshot. A negative measured value is shown as 0 (log 64). -/
def Blk.interlock (b s : Blk) (x : RoundInputs) (n : Nat) (p v : Int) : Blk × Bool :=
  (List.range 7).foldl (fun (acc : Blk × Bool) k =>
    let d := k + 1
    match s.ilkCond x n d with
    | none => acc
    | some (code, val) =>
      if s.ilkRefuses n d p v then
        let f := acc.1.fn n
        if f.ilk.contains d then (acc.1, true)
        else
          let b := acc.1.setFn n { f with ilk := f.ilk ++ [d] }
          (b.raise 511 0x15 d (n * 2 ^ 24 + code * 2 ^ 16 + min 0xFFFF val.toNat), true)
      else acc) (b, false)

/-! ## The round (R126) -/

/-- Apply the waiting mode request of function `n` (R129, R130). -/
def Blk.modeRequest (b : Blk) (n : Nat) : Blk :=
  let f := b.fn n
  if !f.req then b
  else
    let b := b.setFn n { f with req := false }
    let q := b.fld F.FN_MODE_REQ n
    let refused := !b.flag F.FN_CFG0_FITTED n || q == 3 ||
      (q != 0 && (!b.inputValid n || b.flag F.HPC_CTRL_ROAD 0 || (n == 11 && q == 2 && b.navStatus != 4)))
    if refused then b.setFld F.FN_STATUS_MODE_REFUSED n 1 else b.setFld F.FN_MODE_ACT n q

/-- An operator command in AUTO takes the function over (R133). -/
def Blk.override (b : Blk) (n : Nat) : Blk :=
  let ovr := (b.reg .FN_OVR n).toNat
  let diff := ((b.reg .FN_OPCMD n).toInt - (b.fn n).cmd.toInt).natAbs
  if b.fnMode n = 2 ∧ ovr ≠ 0 ∧ ovr < diff then
    (b.setFld F.FN_MODE_ACT n 0).setFld F.FN_STATUS_OVERRIDDEN n 1
  else b

/-- A function in ASSIST or AUTO that enters input loss falls back (R134). -/
def Blk.fallback (b : Blk) (n : Nat) : Blk :=
  if b.fnMode n ≠ 0 ∧ !b.inputValid n then
    let b := ((b.setFld F.FN_MODE_ACT n 0).setReg .FN_OPCMD n (b.reg .FN_TARGET n)).setFld F.FN_STATUS_FALLBACK n 1
    b.raise 511 0x15 0x08 (n * 2 ^ 24 + (b.reg .HPC_ROUND 0).toNat % 65536)
  else b

/-- The modes of one function in a round (R130, R133, R134). -/
def Blk.fnModes (b : Blk) (n : Nat) : Blk :=
  let b := b.setFlag F.FN_STATUS_INPUT_VALID n (b.inputValid n)
  let b := ((b.modeRequest n).override n).fallback n
  b.setFn n { b.fn n with cmd := b.reg .FN_OPCMD n }

/-- The global address of a register of the actuator task of function `n` (R129). -/
def Blk.fnRegAddr (b : Blk) (n : Nat) (r : RegName) : Nat :=
  b.fld F.FN_CFG0_NODE n * 2 ^ 40 + regBase + r.offset (b.fld F.FN_CFG0_TASK_ID n)

/-- The global address of the mailbox shadow word of function `n` (R73, R129). -/
def Blk.fnMboxAddr (b : Blk) (n : Nat) : Nat :=
  let node := b.fld F.FN_CFG0_NODE n
  let t := b.fld F.FN_CFG0_TASK_ID n
  let off := if node = b.node then (b.desc t).mbox else Config.remoteMbox node t
  node * 2 ^ 40 + taskAddr t off + 32 + 4 * b.fld F.FN_CFG0_MBOX_WORD n

/-- The write of value `v` as the target of function `n` (R129): none where the engine request takes it. -/
def Blk.targetWrite (b : Blk) (n : Nat) (v : Int) (e : HpcEffect) : HpcWrite :=
  ⟨n, if b.flag F.FN_CFG0_DEST n then 0 else b.fnMboxAddr n, BitVec.ofInt 32 v, e⟩

/-- The write of TASK_CTRL.MAN (R132): the task's other control bits are written as they stand, on another node as a free value (log 26),
and SWAP and PL_CLR as 0. -/
def Blk.manWrite (b : Blk) (n : Nat) (man : Bool) : HpcWrite :=
  let node := b.fld F.FN_CFG0_NODE n
  let t := b.fld F.FN_CFG0_TASK_ID n
  let w := if node = b.node then b.reg .TASK_CTRL t else Config.remoteCtrl node t b.tb1
  ⟨n, b.fnRegAddr n .TASK_CTRL, F.TASK_CTRL_MAN.put (w &&& BitVec.ofNat 32 RegName.TASK_CTRL.masks.rw) man.toNat, if man then .entered (b.reg .FN_OPCMD n) else .released⟩

/-- The arbiter for a function that is not in DIRECT MANUAL (R143); `s` is the snapshot. -/
def Blk.arbitrate (b s : Blk) (x : RoundInputs) (n : Nat) (goal : Int) : Blk × List HpcWrite :=
  let cmd := (b.reg .FN_OPCMD n).toInt
  let band : Int := (b.reg .FN_BAND n).toNat
  let src := match b.fnMode n with
    | 0 => cmd
    | 1 => cmd + max (-band) (min band (goal - cmd))
    | _ => goal
  let p := s.target n
  let r := fnRound n src
  let c := b.clampFn n r
  let b := b.setFlag F.FN_STATUS_CLAMPED n (c != r)
  let (b, refused) := b.interlock s x n p c
  let b := b.setFlag F.FN_STATUS_ILK_ACTIVE n refused
  let c := if refused then p else c
  let (v, step) := b.rateStep n p c
  let b := b.setFlag F.FN_STATUS_RATE_LIMITED n (v != c)
  (b, if v = p then [] else [b.targetWrite n v (.target v step)])

/-- A function in DIRECT MANUAL (R132, R146): MAN_VALUE follows FN_OPCMD once that differs from its value at entry, and is
FN_HOLD while an interlock refuses the change. An interlock tests the change from the last command that passed, in output units
(log 64). -/
def Blk.directManual (b s : Blk) (x : RoundInputs) (n : Nat) (entry : Word) (moved : Bool) : Blk × List HpcWrite :=
  let cmd := b.reg .FN_OPCMD n
  let moved := moved || cmd != entry
  let b := b.setFn n { b.fn n with direct := .manual entry moved }
  if !moved then (b, [])
  else
    let (b, refused) := b.interlock s x n (b.fn n).passed.toInt cmd.toInt
    let b := b.setFlag F.FN_STATUS_ILK_ACTIVE n refused
    let out := if refused then b.reg .FN_HOLD n else cmd
    if (b.fn n).man = some out then (b, [])
    else (b, [⟨n, b.fnRegAddr n .TASK_MAN, out, .manValue refused⟩])

/-- One function in a round, after its mode is known (R132, R143). What a write changes, it changes when it issues: a write that an
overrun drops is formed again in the next round (R127). ILK_ACTIVE is 1 only in a round that refuses a change (R146). -/
def Blk.fnRoundStep (b s : Blk) (x : RoundInputs) (n : Nat) (feed : Nat) : Blk × List HpcWrite :=
  let goal := s.goal n feed x.feed
  let b := ((b.setIntReg .FN_PROPOSAL n goal).ilkClose s x n).setFld F.FN_STATUS_ILK_ACTIVE n 0
  if !b.flag F.FN_CFG0_FITTED n then (b, [])
  else
    let manual := b.fnMode n = 0 ∧ b.flag F.FN_CFG0_DIRECT n
    match (b.fn n).direct with
    | .manual entry moved =>
      if manual then b.directManual s x n entry moved
      else (b, [b.targetWrite n (s.meas n) (.left (s.meas n))])
    | .entering entry =>
      if manual then (b, [{ b.manWrite n true with effect := .entered entry }])
      else (b.setFn n { b.fn n with direct := .off }).arbitrate s x n goal
    | .leaving =>
      if manual then
        (b.setFn n { b.fn n with direct := .entering (b.reg .FN_OPCMD n) }, [b.manWrite n true])
      else
        let (b, l) := b.arbitrate s x n goal
        (b, b.manWrite n false :: l)
    | .off =>
      if manual then
        (b.setFn n { b.fn n with direct := .entering (b.reg .FN_OPCMD n) }, [b.manWrite n true])
      else b.arbitrate s x n goal

/-- What the HPC holds about function `n` once a write has issued (R125, R127, R132, R143). -/
def Blk.issued (b : Blk) (n : Nat) (data : Word) : HpcEffect → Blk
  | .target v step =>
    let b := b.setIntReg .FN_TARGET n v
    if step then b.setFn n { b.fn n with stepAt := some b.tb1 } else b
  | .entered cmd => b.setFn n { b.fn n with direct := .manual cmd false, man := none, passed := cmd }
  | .manValue refused =>
    let f := b.fn n
    b.setFn n { f with man := some data, passed := if refused then f.passed else data }
  | .left v => (b.setIntReg .FN_TARGET n v).setFn n { b.fn n with direct := .leaving, man := none }
  | .released => b.setFn n { b.fn n with direct := .off }

/-- The write goes to the engine request and not to a task (R129). -/
def Blk.toEngine (b : Blk) (w : HpcWrite) : Bool :=
  b.flag F.FN_CFG0_DEST w.fn &&
    (match w.effect with
      | .target _ _ | .left _ => true
      | _ => false)

/-- A write of the round issues: a target becomes the previous target (R125, R127, R143). -/
def Blk.issueWrite (b : Blk) (w : HpcWrite) : Blk :=
  let b := b.issued w.fn w.data w.effect
  if b.toEngine w then b
  else b.submitGlobal (.hpc w.fn) 511 .write w.addr 32 (w.data.setWidth 128)

/-! ## The response surface (R139) -/

/-- The sum of the products of two lists. -/
def dot (x y : List Rat) : Rat := (List.zipWith (· * ·) x y).foldl (· + ·) 0

/-- The products of every two of the numbers, each with itself and with those after it. -/
def products : List Rat → List Rat
  | [] => []
  | a :: l => (a :: l).map (a * ·) ++ products l

/-- The 66 terms of a quadratic in ten variables. -/
def quadTerms (x : List Rat) : List Rat := 1 :: x ++ products x

/-- `v` normalised to 0 to 1 over a range. -/
def normal (lo hi v : Int) : Rat := if hi ≤ lo then 0 else ((v - lo : Int) : Rat) / ((hi - lo : Int) : Rat)

/-- The ten variables, nine settings and a feed rate, normalised over their limit-table ranges. -/
def Blk.variables (b : Blk) (l : List Int) : List Rat :=
  (fnSet.zip l).map (fun x => normal (b.limMin x.1) (b.limMax x.1) x.2) ++
    [normal Config.feedRange.1 Config.feedRange.2 (l.getD 9 0)]

/-- The surfaces of a crop from which the fit starts (R139, R142). -/
def Surface.start (crop : Nat) : Surface :=
  let row := fun y => (List.range 66).map (Config.fitStart crop y)
  ⟨row 0, row 1, row 2, (List.range 66).map fun r => (List.range 66).map (Config.gainStart r)⟩

/-- What a surface predicts. -/
def predict (c : List (BitVec 64)) (terms : List Rat) : Rat := dot (c.map Config.fitValue) terms

/-- The surfaces after one more observation: recursive least squares with forgetting `lam` (R139). -/
def Surface.fit (f : Surface) (lam : Rat) (terms : List Rat) (loss thr qual : Nat) : Surface :=
  let g := f.gain.map (·.map Config.fitValue)
  let gt := g.map (dot · terms)
  let k := gt.map (· / (lam + dot terms gt))
  let upd := fun (c : List (BitVec 64)) (y : Nat) =>
    List.zipWith (fun a g => Config.fitRound (Config.fitValue a + g * ((y : Rat) - predict c terms))) c k
  ⟨upd f.loss loss, upd f.thr thr, upd f.qual qual,
    List.zipWith (fun row kr => List.zipWith (fun a c => Config.fitRound ((a - kr * c) / lam)) row gt) g k⟩

/-- The forgetting factor (R139). -/
def Blk.forgetting (b : Blk) : Rat := 1 - ((max 1 (min 102 (b.fld F.HPC_OPT_FG 0)) : Nat) : Rat) / 1024

/-- The number of the surface in use: HF16 and the crop select it (R139). -/
def Blk.surfKey (b : Blk) : Nat := 8 * b.fld F.HPC_CTRL_CROP 0 + (b.target 16).toNat % 8

/-- The surface with number `k`. -/
def Blk.surface (b : Blk) (k : Nat) : Surface := (SMap.get b.hpc.surf k none).getD (Surface.start (k / 8))

/-- The settings and the measured feed of a round enter the surface in use, and count (R139). -/
def Blk.observe (b : Blk) (x : RoundInputs) : Blk :=
  let terms := quadTerms (b.variables (fnSet.map b.target ++ [(x.feed : Int)]))
  let f := (b.surface b.surfKey).fit b.forgetting terms x.loss x.thr x.qual
  { b with hpc := { b.hpc with surf := NMap.set b.hpc.surf b.surfKey (some f) none, obs := b.hpc.obs + 1 } }

/-- OBS and SURF_READY show the observations of the current slot (R139). -/
def Blk.showObs (b : Blk) : Blk :=
  let n := b.hpc.obs
  (b.setFld F.HPC_OBS_OBS 0 (min n 0xFFFF)).setFlag F.HPC_STATUS_SURF_READY 0 (decide (12 ≤ n))

/-- The steady settings are observed when all that R139 asks holds; what breaks them starts the time anew. `s` is the snapshot. -/
def Blk.learn (b s : Blk) (x : RoundInputs) (feed : Nat) : Blk :=
  let changed := s.fld F.HPC_FEED_F 0 != feed || fnSet.any fun n => b.target n != s.target n
  let off := decide (10 * x.feed < 9 * feed) || decide (11 * feed < 10 * x.feed)
  let lost := fnSet.any fun n => !b.flag F.FN_STATUS_INPUT_VALID n
  if changed || off || lost then { b with hpc := { b.hpc with since := b.tb1, since3 := b.tb 3 } }
  else if b.flag F.HPC_STATUS_FIELD_LOADING 0 then b
  else if b.hpc.since + b.fld F.HPC_OPT_SETTLE_S 0 * 1000000000 ≤ b.tb1 ∧
      20000000 ≤ sdiff (b.tbWidth 3) (b.tb 3) b.hpc.since3 then
    let b := b.observe x
    { b with hpc := { b.hpc with since := b.tb1, since3 := b.tb 3 } }.showObs
  else b

/-! ## The round (R126) -/

/-- Control rounds fire on this node (R124, R126). -/
def Blk.hpcRuns (b : Blk) : Bool :=
  b.computeRuns && decide (b.supply ≠ 2) && b.flag F.HPC_CTRL_HOST 0 && b.flag F.HPC_CTRL_RUN 0 && b.pdState 31 == 4

/-- 20 ms of TB1 have passed since the last control round fired (R126). -/
def Blk.roundDue (b : Blk) : Bool :=
  match b.hpc.roundAt with
  | none => true
  | some t => decide (t + 20000000 ≤ b.tb1)

/-- The round in progress has passed its deadline, 5 ms after its trigger (R126). -/
def Blk.roundLate (b : Blk) : Bool :=
  b.hpc.todo.isSome &&
    (match b.hpc.roundAt with
      | some t => decide (t + 5000000 ≤ b.tb1)
      | none => true)

/-- The writes of the round in progress that have not issued are dropped (R127). HPC_ROUND counts completed rounds, and this is none
(log 64). -/
def Blk.dropRound (b : Blk) : Blk :=
  let b := { b with hpc := { b.hpc with todo := none } }
  (b.setFld F.HPC_STATUS_ROUND_OVR 0 1).raise 511 0x01 0x01 (2 ^ 25 + (b.reg .HPC_ROUND 0).toNat % 65536)

/-- ROUND_OVERRUN (R127): the deadline passes. -/
def Blk.roundOverrun (b : Blk) : Blk := b.when b.roundLate Blk.dropRound

/-- CONTROL_ROUND (R126): a round on the measured inputs. With `late` none it meets its deadline; with `some k` only its
first k writes issue before it. -/
def Blk.controlRound (b : Blk) (x : RoundInputs) (late : Option Nat) : Blk :=
  b.when (b.hpcRuns && (b.hpc.todo.isNone || b.roundLate) && b.roundDue) fun s =>
    let s := s.roundOverrun
    let b := fnAll.foldl (fun b n => b.fnModes n) { s with hpc := { s.hpc with roundAt := some s.tb1 } }
    let feed := s.feedTarget
    let b := b.setFld F.HPC_FEED_F 0 feed
    let b := b.setFlag F.HPC_STATUS_ANTICIPATING 0 (s.speedGoal feed).isSome
    let (b, writes) := fnAll.foldl (fun (acc : Blk × List HpcWrite) n =>
      let (b, l) := acc.1.fnRoundStep s x n feed
      (b, acc.2 ++ l)) (b, [])
    let b := b.took
    match late with
    | none => ((writes.foldl Blk.issueWrite b).learn s x feed).incFld F.HPC_ROUND_ROUND 0
    | some k =>
      let b := ((writes.take k).foldl Blk.issueWrite b).learn s x feed
      { b with hpc := { b.hpc with todo := some (writes.drop k) } }

/-- HPC_WRITE_DENIED (R125): a refused write of function `n` returns. -/
def Blk.hpcWriteDenied (b : Blk) (n : Nat) : Blk :=
  match b.bus.results.find? (fun c => c.who == Requester.hpc n) with
  | none => b
  | some c => ({ b with bus := { b.bus with results := b.bus.results.erase c } }).setFld F.FN_STATUS_WRITE_DENIED n 1

/-! ## The optimiser (R139 to R142) -/

/-- PROPOSE_S as used (R141). -/
def Blk.proposeS (b : Blk) : Nat := max 10 (min 255 (b.fld F.HPC_OPT_PROPOSE_S 0))

/-- STEP_PCT of the range of function `n` (R141). -/
def Blk.boxOf (b : Blk) (n : Nat) : Int :=
  (b.limMax n - b.limMin n) * (max 1 (min 20 (b.fld F.HPC_OPT_STEP_PCT 0)) : Nat) / 100

/-- The proposal of function `n` at `v`, within the limit table. -/
def Blk.setProp (b : Blk) (n : Nat) (v : Int) : Blk := b.setFn n { b.fn n with prop := some (b.clampFn n v) }

/-- The box of function `n` around its target: ±STEP_PCT of its range, within the limit table (R141). -/
def Blk.box (b : Blk) (n : Nat) : Int × Int :=
  (b.clampFn n (b.target n - b.boxOf n), b.clampFn n (b.target n + b.boxOf n))

/-- A feed rate within its range, as HPC_FEED holds it. -/
def feedClamp (v : Int) : Int := max 0 (min (2 ^ 24 - 1) (max Config.feedRange.1 (min Config.feedRange.2 v)))

/-- STEP_PCT of the range of the feed rate. -/
def Blk.feedBox (b : Blk) : Int :=
  (Config.feedRange.2 - Config.feedRange.1) * (max 1 (min 20 (b.fld F.HPC_OPT_STEP_PCT 0)) : Nat) / 100

/-- Variable `i` of the ten, in ascending order, the feed rate last (log 64), is proposed at `v`. -/
def Blk.proposeVar (b : Blk) (i : Nat) (v : Int) : Blk :=
  match fnSet[i]? with
  | some n => b.setProp n v
  | none => { b with hpc := { b.hpc with choice := (feedClamp v).toNat } }

/-- The value from which exploration steps variable `i`. -/
def Blk.exploreBase (b : Blk) (i : Nat) : Int :=
  match fnSet[i]? with
  | some n => (b.fn n).base
  | none => b.hpc.feedBase

/-- Exploration of variable `i` starts from its current target. -/
def Blk.markBase (b : Blk) (i : Nat) : Blk :=
  match fnSet[i]? with
  | some n => b.setFn n { b.fn n with base := b.target n }
  | none => { b with hpc := { b.hpc with feedBase := b.feedTarget } }

/-- One step of exploration (R141): the variable whose turn it is goes up by STEP_PCT, then down from where it began; the
variable before it returns. -/
def Blk.explore (b : Blk) : Blk :=
  let k := b.hpc.explored
  let i := k / 2 % 10
  let step := match fnSet[i]? with
    | some n => b.boxOf n
    | none => b.feedBox
  let b := { b with hpc := { b.hpc with explored := k + 1 } }
  if k % 2 = 1 then b.proposeVar i (b.exploreBase i - step)
  else
    let b := if k = 0 then b else b.proposeVar ((i + 9) % 10) (b.exploreBase ((i + 9) % 10))
    let b := b.markBase i
    b.proposeVar i (b.exploreBase i + step)

/-- The predicted J of ten settings (R140). The fuel rate is measured, in 0.1 L/h, and the same for all. -/
def Blk.objective (b : Blk) (l : List Int) : Rat :=
  let f := b.surface b.surfKey
  let terms := quadTerms (b.variables l)
  let part := fun (w : Fld) (y : Rat) (r : RegName) => (b.fld w 0 : Rat) * y / ((b.reg r 0).toNat : Rat)
  part F.HPC_WEIGHTS_W_LOSS (predict f.loss terms) .HPC_REF0 + part F.HPC_WEIGHTS_W_QUAL (predict f.qual terms) .HPC_REF1 -
    part F.HPC_WEIGHTS_W_THR (predict f.thr terms) .HPC_REF2 +
    part F.HPC_WEIGHTS_W_FUEL (((b.pgnValue 2).getD 0 : Nat) / 2) .HPC_REF3

/-- The settings of a box at which `j` is least, after the settings `acc`; of several, the first in ascending order. -/
def leastIn (j : List Int → Rat) : List (Int × Int) → List Int → List Int
  | [], acc => acc
  | (lo, hi) :: l, acc =>
    (List.range (hi - lo).toNat).foldl (fun best (k : Nat) =>
      let c := leastIn j l (acc ++ [lo + 1 + k])
      if j c < j best then c else best) (leastIn j l (acc ++ [lo]))

/-- The box of all ten variables. -/
def Blk.boxes (b : Blk) : List (Int × Int) :=
  fnSet.map b.box ++ [(feedClamp (b.feedTarget - b.feedBox), feedClamp (b.feedTarget + b.feedBox))]

/-- The settings within the box that minimise the predicted J; of several that do, a free one (R141, log 64). -/
def Blk.optimum (b : Blk) : List Int :=
  let m := leastIn b.objective b.boxes []
  let c := (b.boxes.zip (Config.hpcTie b.free)).map fun x => max x.1.1 (min x.1.2 x.2)
  if c.length = m.length ∧ b.objective c = b.objective m then c else m

/-- A proposal of the settings that minimise the predicted J, and of a reel ratio (R138, R141). -/
def Blk.optimise (b : Blk) : Blk :=
  let b' := b.optimum.zipIdx.foldl (fun b x => b.proposeVar x.2 x.1) b
  { b' with hpc := { b'.hpc with reel := some (b.clampFn 4 (satN 32 (Config.hpcReel b.free))) } }.took

/-- OPTIMISER_PROPOSAL (R140 to R142). -/
def Blk.optimiserProposal (b : Blk) : Blk :=
  let due := match b.hpc.propAt with
    | none => true
    | some t => decide (t + b.proposeS * 1000000000 ≤ b.tb1)
  b.when (b.hpcRuns && due && b.reg .HPC_WEIGHTS 0 != 0 && !b.flag F.HPC_STATUS_FIELD_LOADING 0) fun b =>
    let b := { b with hpc := { b.hpc with propAt := some b.tb1 } }
    if b.fld F.HPC_OBS_OBS 0 < 12 then (b.setFld F.HPC_STATUS_EXPLORING 0 1).explore
    else (b.setFld F.HPC_STATUS_EXPLORING 0 0).optimise

/-- Eight bytes for each coefficient. -/
def coefBytes (l : List (BitVec 64)) : List Byte := (l.map fun c => leBytes 8 c.toNat).flatten

/-- `n` coefficients from the bytes. -/
def coefsAt (l : List Byte) (n : Nat) : List (BitVec 64) :=
  (List.range n).map fun k => BitVec.ofNat 64 (ofLeBytes ((l.drop (8 * k)).take 8))

/-- Surface `k` as a journal entry (log 38): a 1, its number, and its coefficients. -/
def Surface.bytes (f : Surface) (k : Nat) : JEntry :=
  1 :: BitVec.ofNat 8 k :: (coefBytes f.loss ++ coefBytes f.thr ++ coefBytes f.qual)

/-- The number and the surface that a journal entry holds; the gain starts anew. -/
def Surface.ofBytes (e : JEntry) : Nat × Surface :=
  let k := (e.getD 1 0).toNat
  (k, ⟨coefsAt (e.drop 2) 66, coefsAt (e.drop 530) 66, coefsAt (e.drop 1058) 66, (Surface.start (k / 8)).gain⟩)

/-- The surfaces of field slot `slot` as last saved in the journal, and its observations (R142). A saving is an entry with a 0, the
slot and the count, and then the slot's surfaces. -/
def fieldOf (slot : Nat) (l : List JEntry) : Nat × NMap (Option Surface) :=
  (l.foldl (fun (acc : Bool × Nat × NMap (Option Surface)) e =>
    match e with
    | 0 :: s :: n => if s.toNat = slot then (true, ofLeBytes n, []) else (false, acc.2)
    | _ => if acc.1 then (true, acc.2.1, NMap.set acc.2.2 (Surface.ofBytes e).1 (some (Surface.ofBytes e).2) none) else acc)
    (false, 0, [])).2

/-- The surfaces of the current slot enter the journal (R142). -/
def Blk.saveField (b : Blk) : Blk :=
  let head : JEntry := [0, BitVec.ofNat 8 (b.fld F.HPC_FIELD_SLOT 0)] ++ leBytes 4 (min b.hpc.obs 0xFFFFFFFF)
  let l := head :: b.hpc.surf.filterMap fun x => x.2.map fun f => f.bytes x.1
  let j := l.foldl (fun j e => j.append b.runSeq b.tb1 e) b.jrn.fields
  { b with jrn := { b.jrn with fields := j }, hpc := { b.hpc with savedAt := b.tb1 } }

/-- FIELD_LOAD (R142): HPC_FIELD.SLOT is written. -/
def Blk.fieldLoad (b : Blk) (slot : Nat) : Blk :=
  let b := if b.fld F.HPC_FIELD_SLOT 0 ≠ slot ∧ !b.flag F.HPC_STATUS_FIELD_LOADING 0 then b.saveField else b
  (b.setFld F.HPC_FIELD_SLOT 0 slot).setFld F.HPC_STATUS_FIELD_LOADING 0 1

/-- FIELD_LOAD_DONE (R142): the slot's surfaces are there; a slot without observations starts from the crop defaults. -/
def Blk.fieldLoadDone (b : Blk) : Blk :=
  b.when (b.flag F.HPC_STATUS_FIELD_LOADING 0 && b.computeRuns && b.supply != 2) fun b =>
    let f := fieldOf (b.fld F.HPC_FIELD_SLOT 0) b.jrn.fields.all
    let b := { b with hpc := { b.hpc with surf := f.2, obs := f.1, since := b.tb1, since3 := b.tb 3, explored := 0 } }
    let b := (b.setFld F.HPC_STATUS_FIELD_LOADING 0 0).showObs
    if f.1 = 0 then fnSet.foldl (fun b n => b.setProp n (b.reg .DEF (b.limIdx n)).toInt) b else b

/-- SURFACE_SAVE (R142): every 10 min of TB1. -/
def Blk.surfaceSave (b : Blk) : Blk :=
  b.when (b.computeRuns && b.supply != 2 && b.flag F.HPC_CTRL_HOST 0 && !b.flag F.HPC_STATUS_FIELD_LOADING 0 &&
    decide (b.hpc.savedAt + 600000000000 ≤ b.tb1)) Blk.saveField

end Sys2Proof.Machine
end

