-- ==== Sys2Proof/Machine/Fus.lean ====
section
/-!
DEFINITION. The fusion array and the common grid (spec chapter 10).
Readings and choices: logs 6, 25, 51 of notes/assumptions.
-/

namespace Sys2Proof.Machine

/-! ## State -/

/-- Sensor `s` is enabled (R247). -/
def Blk.sensorOn (b : Blk) (s : Nat) : Bool := (b.fld F.FUS_SENS_EN_EN 0).testBit s

/-- Sensor `s` is masked (R247). -/
def Blk.masked (b : Blk) (s : Nat) : Bool := (b.fld F.FUS_MASK_MASKED 0).testBit s

/-- Model slot `m` beyond its registers. -/
def Blk.model_ (b : Blk) (m : Nat) : ModelSt := SMap.get b.fus.models m ModelSt.zero

/-- The block with model slot `m` at `x`. -/
def Blk.setModel (b : Blk) (m : Nat) (x : ModelSt) : Blk :=
  { b with fus := { b.fus with models := NMap.set b.fus.models m x ModelSt.zero } }

/-- The clocks of the fusion array run. -/
def Blk.fusRuns (b : Blk) : Bool := b.computeRuns && b.supply != 2

/-- An epoch's length, ns (R238). -/
def Blk.epochNs (b : Blk) : Nat := b.epochMs * 1000000

/-- The epoch whose time has come last (R238). -/
def Blk.epochNow (b : Blk) : Nat := b.tb1 / b.epochNs

/-! ## Poses (R236, R237) -/

/-- EGO_OK as the masks give it, with one EGO_LOST record when it falls (R236, R249). -/
def Blk.egoCheck (b : Blk) : Blk :=
  let m := fun k => b.masked (20 + k)
  let ok := !((m 0 && m 2) || (m 1 && m 2))
  let fell := b.flag F.FUS_STATUS_EGO_OK 0 && !ok
  let b := b.setFlag F.FUS_STATUS_EGO_OK 0 ok
  if fell then
    b.raise 528 0x11 0x03 (31 * 2 ^ 27 + (m 0).toNat + 2 * (m 1).toNat + 4 * (m 2).toNat)
  else b

/-- Source 20 + k of the ego-motion can deliver: TB3 while it is valid, the GNSS/INS solution while STATUS is 1 to 5 (R236, R267). -/
def Blk.egoSource (b : Blk) (k : Nat) : Bool :=
  match k with
  | 1 => b.tbValid 3
  | 2 => decide (1 ≤ b.navStatus) && decide (b.navStatus ≤ 5)
  | _ => true

/-- POSE_UPDATE (R236, R237): the pose that the integration of the unmasked sources gives, its yaw between −π and π, and the sources
20 to 22 that delivered. -/
def Blk.poseUpdate (b : Blk) (pose : Pose) (fed : BitVec 3) : Blk :=
  let due := match b.fus.poses with
    | [] => true
    | p :: _ => decide (p.at_ + 250000 ≤ b.tb1)
  b.when (b.fusRuns && due) fun b =>
    let first := b.fus.poses.isEmpty
    let pose := { pose with at_ := b.tb1, yaw := wrapMicro pose.yaw }
    let b := { b with fus := { b.fus with poses := (pose :: b.fus.poses).take 4096 } }
    let b := (List.range 3).foldl (fun b k =>
      if fed.getLsbD k && b.egoSource k then
        b.setSensor (20 + k) { b.sensor (20 + k) with lastIn := b.tb1, fed := true, silent := false } else b) b
    let b := b.egoCheck
    if first then { b with fus := { b.fus with ego := b.flag F.FUS_STATUS_EGO_OK 0 } } else b

/-! ## Grid geometry (R231) -/

/-- X_MIN, mm. -/
def Blk.xMin (b : Blk) : Int := b.sfld F.FUS_GRID_CFG_X_MIN_CM 0 * 10

/-- CUT_X, mm. -/
def Blk.cutX (b : Blk) : Int := b.sfld F.FUS_HEADER_CUT_X_CM 0 * 10

/-- The key of a cell. -/
def cellKey (r c : Nat) : Nat := 512 * r + c

/-- The centre of a cell, mm (R231). -/
def cellPos (xMin : Int) (k : Nat) : Int × Int :=
  (xMin + (k / 512 : Nat) * 50 + 25, 12800 - (k % 512 : Nat) * 50 - 25)

/-- The cell of row `r` and column `c`, where the grid has one. -/
def cellOf (r c : Int) : Option Nat :=
  if 0 ≤ r ∧ r < 512 ∧ 0 ≤ c ∧ c < 512 then some (cellKey r.toNat c.toNat) else none

/-- The cell that holds a point of the machine frame, if one does. -/
def cellAt (xMin : Int) (x y : Rat) : Option Nat := cellOf ((x - xMin) / 50).floor ((12800 - y) / 50).floor

/-- The row or column whose centre is nearest to a place given in cells from the grid's edge. Where two are equally near, within what
the sines leave open, it is either of them (R238, log 25). -/
def nearRow (tie : Bool) (v : Rat) : Int :=
  let r := (v + 1 / 2).floor
  if (2 : Rat) ^ 26 * (if (r : Rat) ≤ v then v - r else r - v) ≤ 1 then (if tie then r - 1 else r) else v.floor

/-- The keys of the grid, in ascending order. -/
def cellKeys : List Nat := List.range 262144

/-- The sparse grid of the cells that `f` gives. -/
def gridOf (f : Nat → Cell) : NMap Cell :=
  cellKeys.filterMap fun k => if f k = Cell.zero then none else some (k, f k)

/-- A cell of a grid. -/
def gridCell (g : NMap Cell) (k : Nat) : Cell := SMap.get g k Cell.zero

/-- Channel `ch` of a cell. -/
def Cell.chan (c : Cell) (ch : Nat) : Int := SMap.get c.feat ch 0

/-- The old cell nearest to the place on the ground of cell `k` of the new grid (R238). -/
def oldCell (free : Nat) (xMin : Int) (old new : Pose) (k : Nat) : Option Nat :=
  let p := cellPos xMin k
  let w := turn (new.yaw - old.yaw) p.1 p.2
  let d := turn (-old.yaw) (new.x - old.x : Int) (new.y - old.y : Int)
  cellOf (nearRow (Config.nearTie free k 0) ((w.1 + d.1 - xMin) / 50)) (nearRow (Config.nearTie free k 1) ((12800 - w.2 - d.2) / 50))

/-- Steps 2 and 3 of an epoch: the grid moved by the pose change, and decayed (R238). -/
def moveGrid (free : Nat) (g : NMap Cell) (xMin : Int) (old new : Pose) (egoOk : Bool) (decay : Nat) : NMap Cell :=
  gridOf fun k =>
    match oldCell free xMin old new k with
    | some j =>
      let c := gridCell g j
      { c with conf := if egoOk then c.conf * (256 - decay) / 256 else 0 }
    | none => Cell.zero

/-! ## Fusing (R239) -/

/-- The fused value of a channel. -/
def fuseValue (old : Int) (conf : Nat) (obs : Int) (w : Nat) : Int :=
  if conf + w = 0 then old
  else (2 * (old * conf + obs * w) + ((conf + w : Nat) : Int)) / (2 * ((conf + w : Nat) : Int))

/-- A cell after one observation (R239). -/
def Cell.fuse (c : Cell) (w : Nat) (vals : List (Nat × Int)) : Cell :=
  if c.conf + w = 0 then c
  else
    { conf := min 255 (c.conf + w)
      feat := vals.foldl (fun m v => NMap.set m v.1 (fuseValue (c.chan v.1) c.conf v.2 w) 0) c.feat }

/-- An observation on the grid of pose `q` (R237, R242): its cell, and its values. A range point gives the ground height of the place
where it stands at the epoch, in LSB of channel 0 (R235, log 51). None outside the grid. -/
def Blk.placeObs (b : Blk) (q : Pose) (o : GridObs) : Option (Nat × List (Nat × Int)) :=
  match o.spot with
  | .cell r c => (cellOf r c).map fun k => (k, o.vals)
  | .point v =>
    match poseAt o.at_ b.fus.poses with
    | some p =>
      let w := reframe p q v
      (cellAt b.xMin w.x w.y).map fun k =>
        (k, if 12 ≤ o.sensor ∧ o.sensor ≤ 19 then [(0, max (-128) (min 127 ((w.z + 5) / 10).floor))] else o.vals)
    | none => none

/-- An observation before another: lower sensor, then earlier (R239). -/
def obsBefore (a c : GridObs) : Bool := decide (a.sensor < c.sensor) || (a.sensor == c.sensor && decide (a.at_ < c.at_))

/-- An observation put after those that are not later than it. -/
def insertObs (o : GridObs) : List GridObs → List GridObs
  | [] => [o]
  | a :: l => if obsBefore o a then o :: a :: l else a :: insertObs o l

/-- Observations in the order of R239. -/
def sortObs (l : List GridObs) : List GridObs := l.foldl (fun acc o => insertObs o acc) []

/-- The grid after the observations, each with its cell and its sensor's weight. -/
def fuseAll (g : NMap Cell) (l : List (Nat × Nat × GridObs)) : NMap Cell :=
  l.foldl (fun g x => NMap.set g x.1 ((gridCell g x.1).fuse x.2.1 x.2.2.vals) Cell.zero) g

/-! ## Masks (R247 to R249) -/

/-- A camera of the sensor list: local or remote (R247). -/
def isCamera (s : Nat) : Bool := decide (s ≤ 11) || (decide (23 ≤ s) && decide (s ≤ 30))

/-- Sensor `s` masked or unmasked in FUS_MASK. -/
def Blk.setMask (b : Blk) (s : Nat) (on : Bool) : Blk :=
  let m := b.fld F.FUS_MASK_MASKED 0
  if m.testBit s = on then b else b.setFld F.FUS_MASK_MASKED 0 (if on then m + 2 ^ s else m - 2 ^ s)

/-- A mask of sensor `s` starts: one SENSOR_MASKED record (R249). -/
def Blk.startMask (b : Blk) (s detail n v : Nat) : Blk :=
  ((b.setMask s true).setSensor s { b.sensor s with good := 0 }).raise 528 0x11 detail
    (s * 2 ^ 27 + n * 2 ^ 16 + min 65535 v)

/-- TB1 of the last input of sensor `s`, one that waits for its epoch and is not stale among them. -/
def Blk.lastInput (b : Blk) (s : Nat) : Nat :=
  (b.fus.inputs.filter fun x => x.sensor == s && x.kind != .missing && (poseAt x.at_ b.fus.poses).isSome).foldl
    (fun m x => max m x.inAt) (b.sensor s).lastIn

/-- ms without input of sensor `s`. -/
def Blk.silentMs (b : Blk) (s : Nat) : Nat := (b.tb1 - b.lastInput s) / 1000000

/-- SENSOR_DROPPED (R247, R249): an enabled sensor has had no input for DROP_MS. -/
def Blk.sensorDropped (b : Blk) (s : Nat) : Blk :=
  b.when (b.fusRuns && b.gridNode && b.fusState != 0 && b.sensorOn s && !(b.sensor s).silent &&
      decide (b.fld F.FUS_DROP_DROP_MS 0 ≤ b.silentMs s)) fun b =>
    let b := b.setSensor s { b.sensor s with silent := true, good := 0 }
    if b.masked s then b
    else
      let b := (b.startMask s 0x01 0 (b.silentMs s)).egoCheck
      { b with fus := { b.fus with ego := b.fus.ego && b.flag F.FUS_STATUS_EGO_OK 0 } }

/-- Channel 0 of a cell fused from some observations alone (R248). -/
def heightOf (l : List (Nat × Nat × GridObs)) : Int :=
  (l.foldl (fun (c : Cell) x => c.fuse x.2.1 (x.2.2.vals.filter fun v => v.1 = 0)) Cell.zero).chan 0

/-- The verdict of the consistency check on sensor `s`: the sum of the differences, mm, and the number of cells; none with fewer than
256 (R248). -/
def verdictOf (l : List (Nat × Nat × GridObs)) (maskedOf : Nat → Bool) (s : Nat) : Option (Nat × Nat) :=
  let h := l.filter fun x => x.2.2.vals.any fun v => v.1 == 0
  let own := h.filter fun x => x.2.2.sensor == s
  let others := h.filter fun x => x.2.2.sensor != s && !maskedOf x.2.2.sensor
  let cells := (own.map (·.1)).eraseDups.filter fun k => others.any fun x => x.1 == k
  if cells.length < 256 then none
  else
    some (cells.foldl (fun acc k =>
      let d := heightOf (own.filter fun x => x.1 == k) - heightOf (others.filter fun x => x.1 == k)
      acc + d.natAbs * 10) 0, cells.length)

/-- The mask decisions of step 6 for one sensor (R247, R248): MARK_N bad frames in a row among those taken mask a camera, whatever
came after them. -/
def Blk.maskStep (b : Blk) (s : Nat) (sum : Option (Nat × Nat)) : Blk :=
  if !b.sensorOn s then b
  else
    let x := b.sensor s
    let verdict := sum.map fun v => v.1 / v.2
    let above := match sum with
      | some v => decide (b.fld F.FUS_CONS_CONS_LIM_CM 0 * 10 * v.2 < v.1)
      | none => false
    let excess := match verdict with
      | some _ => if above then x.excess + 1 else 0
      | none => x.excess
    let good := if x.fed && !above then x.good + 1 else 0
    let b := b.setSensor s { x with excess := excess, verdict := verdict.getD x.verdict, good := good, fed := false, badMax := 0 }
    let run := max x.bad x.badMax
    if b.masked s then
      if max 1 (b.fld F.FUS_CONS_UNMASK_N 0) ≤ good then
        (b.setMask s false).setSensor s { b.sensor s with excess := 0, bad := 0 }
      else b
    else
      let markN := max 1 (b.fld F.FUS_CONS_MARK_N 0)
      let consN := max 1 (b.fld F.FUS_CONS_CONS_N 0)
      if isCamera s && decide (markN ≤ run) then b.startMask s 0x01 markN run
      else if consN ≤ excess then b.startMask s 0x02 consN (verdict.getD x.verdict)
      else b

/-! ## Bins and swath (R251 to R253) -/

/-- Arc distance and lateral offset of a cell from the path arc, µm (R251): straight ahead below 0.1 m/s or without yaw. -/
def Blk.arcOf (b : Blk) (pose : Pose) (k : Nat) : Int × Int :=
  let p := cellPos b.xMin k
  let x := p.1 - b.cutX
  if b.groundSpeed < 100 ∨ pose.yawRate = 0 then (x * 1000, p.2 * 1000) else arcCoords pose.yawRate b.groundSpeed x p.2

/-- The word of one bin (R252). -/
def binWord (g : NMap Cell) (cells : List Nat) : Word :=
  let c := cells.map (gridCell g)
  let seen := c.filter fun x => 0 < x.conf
  let q := if seen.isEmpty then 0 else ((seen.foldl (fun acc x => acc + x.chan 2) 0) * 10 / (seen.length : Int)).toNat
  let conf := if c.isEmpty then 0 else (c.foldl (fun acc x => acc + x.conf) 0) / c.length
  BitVec.ofNat 32 ((!seen.isEmpty).toNat * 2 ^ 31 + conf % 256 * 2 ^ 16 + q % 65536)

/-- The swath width: whether it is valid, and mm (R253). -/
def Blk.swathOf (b : Blk) (g : NMap Cell) : Bool × Nat :=
  let w := b.fld F.FUS_HEADER_HEADER_W_MM 0
  let rows := (List.range 512).filter fun r =>
    let x := (cellPos b.xMin (cellKey r 0)).1
    decide (b.cutX ≤ x) && decide (x < b.cutX + 1000)
  let counts := rows.map fun r =>
    ((List.range 512).filter fun c =>
      let k := cellKey r c
      let cell := gridCell g k
      decide (2 * (cellPos b.xMin k).2.natAbs ≤ w) && decide ((b.fld F.FUS_VOL_VOL_MIN 0 : Int) ≤ cell.chan 2) &&
        decide (64 ≤ cell.conf)).length
  let sorted := counts.foldl (fun acc n => insertNat n acc) []
  (decide (10 ≤ (counts.filter (0 < ·)).length), min w ((sorted.getD 9 0) * 50))
where
  /-- A number put before the first greater one. -/
  insertNat (n : Nat) : List Nat → List Nat
    | [] => [n]
    | a :: l => if n < a then n :: a :: l else a :: insertNat n l

/-- Step 7: the bins and the swath width (R252, R253). -/
def Blk.formBins (b : Blk) (g : NMap Cell) (pose : Pose) : Blk :=
  let sw := b.swathOf g
  let b := b.setReg .FUS_SWATH 0 (BitVec.ofNat 32 (sw.1.toNat * 2 ^ 31 + sw.2 % 65536))
  let w : Int := b.swathSeen
  let arcs := cellKeys.map fun k => (k, b.arcOf pose k)
  (List.range 32).foldl (fun b (i : Nat) =>
    let cells := (arcs.filter fun x =>
      decide (250000 * (i : Int) ≤ x.2.1) && decide (x.2.1 < 250000 * ((i : Int) + 1)) &&
        decide (2 * (x.2.2.natAbs : Int) ≤ 1000 * w)).map (·.1)
    b.setReg .FUS_BIN i (binWord g cells)) b

/-! ## Publishing (R232, R233) -/

/-- Address of grid buffer `n` (R232). -/
def Blk.gridAddr (b : Blk) (n : Nat) : Nat :=
  b.fld F.FUS_GRID_HI_ADDR 0 * 2 ^ 32 + (b.reg .FUS_GRID_LO 0).toNat + n * 0x1100000

/-- The bytes of the confidence plane (R232). -/
def confPlane (g : NMap Cell) : List Byte := cellKeys.map fun k => BitVec.ofNat 8 (gridCell g k).conf

/-- The bytes of the feature plane (R232). -/
def featPlane (g : NMap Cell) : List Byte :=
  (cellKeys.map fun k => (List.range 64).map fun ch => BitVec.ofInt 8 ((gridCell g k).chan ch)).flatten

/-- The buffer of a new grid is written in the order of R233 and published. -/
def Blk.publish (b : Blk) (g : NMap Cell) (e : Nat) (pose : Pose) (used : Nat) (ego stopped : Bool) : Blk :=
  let nbuf := if b.fld F.FUS_GRID_CFG_NBUF 0 = 3 then 3 else max 3 (b.fld F.FUS_GRID_CFG_NBUF 0)
  let buf := if !b.fus.published then 0 else (b.fld F.FUS_PUB_BUF 0 + 1) % nbuf
  let a := b.gridAddr buf
  let flags := ego.toNat * 2 ^ 30 + stopped.toNat * 2 ^ 29
  let t := e * b.epochNs
  let w := fun (v : Int) => leBytes 4 (BitVec.ofInt 32 v).toNat
  let b := (b.unitWrite 528 a (leBytes 4 flags)).1
  let b := (b.unitWrites 528 (a + 0x10000) 16384 (confPlane g)).1
  let b := (b.unitWrites 528 (a + 0x100000) 1048576 (featPlane g)).1
  let b := (b.unitWrite 528 (a + 0x10) (leBytes 8 b.fus.tb3At ++ leBytes 4 used ++ leBytes 4 (b.reg .FUS_SWATH 0).toNat)).1
  let b := (b.unitWrite 528 (a + 0x20) (w pose.x ++ w pose.y ++ w pose.yaw ++ leBytes 4 0)).1
  let b := (b.unitWrites 528 (a + 0x30) 1 (leBytes 16 0)).1
  let b := (b.unitWrite 528 a (leBytes 4 (2 ^ 31 + flags) ++ leBytes 4 e ++ leBytes 8 t)).1
  let b := (b.setFld F.FUS_PUB_BUF 0 buf).incFld F.FUS_EPOCH_EPOCH 0
  { b with fus := { b.fus with grid := g, gridPose := pose, pubAt := t, published := true } }

/-! ## The epoch (R238) -/

/-- Step 1: every slot whose load has completed runs the new area (R245). -/
def Blk.switchModels (b : Blk) : Blk :=
  (List.range 8).foldl (fun b m =>
    let x := b.model_ m
    if x.ready then
      let area := !b.flag F.MODEL_STATUS_AREA m
      let img := if area then x.area1 else x.area0
      let b := b.setModel m { x with ready := false }
      (((b.setFlag F.MODEL_STATUS_AREA m area).setFld F.MODEL_STATUS_VER m (ofLeBytes (img.take 2))).setFld
        F.MODEL_STATUS_LOADED m 1).setFld F.MODEL_STATUS_PEND m 0
    else b) b

/-- A camera's frame is marked, missing or stale: one more in a row (R247). -/
def SensorSt.badFrame (y : SensorSt) : SensorSt := { y with bad := y.bad + 1, badMax := max y.badMax (y.bad + 1) }

/-- What one input that an epoch takes does to its sensor: a stale one counts as missing (R237, R247). -/
def Blk.takeInput (b : Blk) (x : FusInput) : Blk :=
  let y := b.sensor x.sensor
  let stale := (poseAt x.at_ b.fus.poses).isNone
  if x.kind = .missing ∨ stale then b.setSensor x.sensor y.badFrame
  else
    let y := { y with lastIn := max y.lastIn x.inAt, silent := false }
    b.setSensor x.sensor (if x.kind = .marked then y.badFrame else { y with bad := 0, fed := true })

/-- The inputs without those that a camera's frame gave again: further packets of one frame. -/
def frameOnce : List FusInput → List FusInput
  | [] => []
  | x :: l => x :: (frameOnce l).filter fun y => !(isCamera x.sensor && y.sensor == x.sensor && y.at_ == x.at_ && y.kind == x.kind)

/-- The observations that an epoch at `t` takes, and those it leaves (R237, R238): a stale one is discarded. -/
def Blk.takeObs (b : Blk) (t : Nat) : Blk × List GridObs :=
  let due := frameOnce (b.fus.inputs.filter fun x => decide (x.at_ ≤ t))
  let obs := b.fus.obs.filter fun o => decide (o.at_ ≤ t) && (poseAt o.at_ b.fus.poses).isSome
  let b := { b with fus := { b.fus with
    obs := b.fus.obs.filter fun o => decide (t < o.at_), inputs := b.fus.inputs.filter fun x => decide (t < x.at_) } }
  (due.foldl Blk.takeInput b, obs)

/-- The quadrants of slot `m` are all ON. -/
def Blk.quadsOn (b : Blk) (m : Nat) : Bool :=
  (List.range 4).all fun q => !(b.fld F.MODEL_CFG_QUADS m).testBit q || b.pdState (44 + q) == 4

/-- Step 5: what the GRID_HEAD slots write (R244). -/
def Blk.runHeads (b : Blk) (g : NMap Cell) (head : List HeadOut) : NMap Cell :=
  head.foldl (fun g x =>
    if x.slot < 8 ∧ b.fld F.MODEL_CFG_KIND x.slot = 1 ∧ b.flag F.MODEL_STATUS_LOADED x.slot ∧ b.quadsOn x.slot ∧
        x.row < 512 ∧ x.col < 512 then
      let c := gridCell g (cellKey x.row x.col)
      let vals := (x.vals.take (b.fld F.MODEL_CFG_CH_N x.slot)).zipIdx
      let f := vals.foldl (fun m v =>
        NMap.set m (b.fld F.MODEL_CFG_CH_FIRST x.slot + v.2) (max (-128) (min 127 v.1)) 0) c.feat
      NMap.set g (cellKey x.row x.col) { c with feat := f } Cell.zero
    else g) g

/-- Steps 2 to 8 of epoch `e` on the grid node (R238). -/
def Blk.buildGrid (b : Blk) (e : Nat) (head : List HeadOut) (stopped : Bool) : Blk :=
  let t := e * b.epochNs
  let pose := (poseAt t b.fus.poses).getD b.fus.gridPose
  let ego := b.fus.ego
  let g := moveGrid b.free b.fus.grid b.xMin b.fus.gridPose pose ego (b.fld F.FUS_GRID_CFG_DECAY 0)
  let b := { b.took with fus := { b.fus with ego := b.flag F.FUS_STATUS_EGO_OK 0 } }
  let (b, obs) := b.takeObs t
  let all := (sortObs (obs.filter fun o => b.sensorOn o.sensor)).filterMap fun o =>
    (b.placeObs pose o).map fun k => (k.1, b.fld F.CAL_CFG_W o.sensor, { o with vals := k.2 })
  let used := all.filter fun x => !b.masked x.2.2.sensor
  let g := b.runHeads (fuseAll g used) head
  let bits := ((used.map fun x => x.2.2.sensor).eraseDups).foldl (fun acc s => acc + 2 ^ s) 0
  let maskNow := b.masked
  let b := ((List.range 31).foldl (fun b s => b.maskStep s (verdictOf all maskNow s)) b).egoCheck
  (b.formBins g pose).publish g e pose bits ego stopped

/-- EPOCH (R238): the epoch whose time has come, with what the GRID_HEAD models give. Epochs whose limit has passed before it are
abandoned (R240); while the array drains, the epoch in progress is the last (R250). On a node that builds no grid only step 1 takes
place. -/
def Blk.runEpoch (b : Blk) (head : List HeadOut) : Blk :=
  b.when (b.fusRuns && b.fusState != 0 && decide (b.fus.epoch < b.epochNow)) fun b =>
    let e := b.epochNow
    let stopped := b.fusState == 2
    let b := if b.gridNode && (decide (b.fus.epoch + 1 < e) || (stopped && b.fus.last != e)) then b.setFld F.FUS_STATUS_OVR 0 1 else b
    let b := { b with fus := { b.fus with epoch := e } }
    let b := if stopped && b.fus.last != e then b
      else
        let b := b.switchModels
        if b.gridNode then b.buildGrid e head stopped else b
    if stopped then b.setFld F.FUS_STATUS_STATE 0 0 else b

/-- EPOCH_ABANDON (R240): an epoch has not published by T_EPOCH + EPOCH_MS. -/
def Blk.epochAbandon (b : Blk) : Blk :=
  b.when (b.fusRuns && b.gridNode && b.fusState != 0 && decide (b.fus.epoch + 1 < b.epochNow)) fun b =>
    let b := { b with fus := { b.fus with epoch := b.epochNow - 1 } }
    let b := b.setFld F.FUS_STATUS_OVR 0 1
    if b.fusState = 2 then b.setFld F.FUS_STATUS_STATE 0 0 else b

/-! ## Enabling (R250) -/

/-- FUSION_ENABLE (R250): the first epoch starts from an empty grid, and the time without input of each sensor counts from now
(log 51). -/
def Blk.fusionEnable (b : Blk) : Blk :=
  match b.fusState with
  | 0 =>
    let b := (b.setFld F.FUS_CTRL_EN 0 1).setFld F.FUS_STATUS_STATE 0 1
    let b := (List.range 31).foldl (fun b s => b.setSensor s { b.sensor s with lastIn := b.tb1 }) b
    { b with fus := { b.fus with grid := [], epoch := b.epochNow } }
  | 2 => b.setFld F.FUS_STATUS_EN_REFUSED 0 1
  | _ => b

/-- FUSION_DISABLE (R250): an epoch whose time has come completes first. -/
def Blk.fusionDisable (b : Blk) : Blk :=
  let b := b.setFld F.FUS_CTRL_EN 0 0
  if b.fusState ≠ 1 then b
  else
    { b with fus := { b.fus with last := b.epochNow } }.setFld F.FUS_STATUS_STATE 0
      (if b.gridNode && decide (b.fus.epoch < b.epochNow) then 2 else 0)

/-! ## Models (R244, R245) -/

/-- The master ID of slot `m`: that of its lowest quadrant (R244, R319). -/
def Blk.slotMaster (b : Blk) (m : Nat) : Nat :=
  528 + ((List.range 4).find? fun q => (b.fld F.MODEL_CFG_QUADS m).testBit q).getD 0

/-- MODEL_LOAD (R245): MODEL_CMD.LOAD is written 1. -/
def Blk.modelLoad (b : Blk) (m : Nat) : Blk :=
  if b.flag F.MODEL_STATUS_PEND m || !b.quadsOn m then b.setFld F.MODEL_STATUS_LOAD_REFUSED m 1
  else
    let a := b.fld F.MODEL_ADDR_HI_ADDR m * 2 ^ 32 + (b.reg .MODEL_ADDR_LO m).toNat
    (b.setModel m { b.model_ m with copy := some a }).setFld F.MODEL_STATUS_PEND m 1

/-- A model image in memory passes the checks of R245 for slot `m`. -/
def Blk.imageOk (b : Blk) (m : Nat) (img : List Byte) : Bool :=
  let w := fun k n => ofLeBytes ((img.drop k).take n)
  let kind := b.fld F.MODEL_CFG_KIND m
  w 2 1 == kind && Config.modelVersion (w 0 2) && decide ((img.drop 0x10).take 48 = sha384 (img.drop 64)) &&
    (kind != 0 || (b.fld F.MODEL_CFG_CH_FIRST m == 0 && b.fld F.MODEL_CFG_CH_N m != 0))

/-- The model image at `a` as a load copies it: header, then the rest, through the gates (R245, R357, R359). -/
def Blk.modelImage (b : Blk) (a : Nat) : Blk × List Byte :=
  let (b, h, _) := b.xdRead 528 a 4
  let head := (h.map fun v => leBytes 16 v.toNat).flatten
  let len := ofLeBytes ((head.drop 4).take 4)
  let (b, l, _) := b.xdRead 528 (a + 64) ((len + 15) / 16)
  (b, head ++ (l.map fun v => leBytes 16 v.toNat).flatten.take len)

/-- The copy of the model image at `a` waits at a stalled DRAM channel (R388). -/
def Blk.imageWaits (b : Blk) (a : Nat) : Bool :=
  b.readsWait 528 a 4 ||
    (let len := ofLeBytes (((((b.xdRead 528 a 4).2.1.map fun v => leBytes 16 v.toNat).flatten).drop 4).take 4)
     b.readsWait 528 (a + 64) ((len + 15) / 16))

/-- MODEL_LOAD_COMPLETE (R245): the copy into the spare area finishes; the load is refused or waits for the next epoch. -/
def Blk.modelLoadComplete (b : Blk) (m : Nat) : Blk :=
  let x := b.model_ m
  match x.copy with
  | none => b
  | some a =>
    b.when (b.fusRuns && !b.imageWaits a) fun b =>
      let (b, img) := b.modelImage a
      if b.imageOk m img then
        b.setModel m (if b.flag F.MODEL_STATUS_AREA m then { x with copy := none, ready := true, area0 := img }
          else { x with copy := none, ready := true, area1 := img })
      else
        ((b.setModel m { x with copy := none }).setFld F.MODEL_STATUS_PEND m 0).setFld F.MODEL_STATUS_LOAD_REFUSED m 1

/-- The calibration block of sensor `s` (R241). -/
def Blk.calib (b : Blk) (s : Nat) : Calib :=
  let q30 := fun (r : RegName) (i : Nat) => ((b.reg r i).toInt : Rat) / 2 ^ 30
  let q16 := fun (r : RegName) (i : Nat) => ((b.reg r i).toNat : Rat) / 2 ^ 16
  let t := fun (k : Nat) => ((b.reg .CAL_T (s * 3 + k)).toInt : Rat)
  { rot := (List.range 9).map fun k => q30 .CAL_R (s * 9 + k), pos := ⟨t 0, t 1, t 2⟩,
    fx := q16 .CAL_F (s * 2), fy := q16 .CAL_F (s * 2 + 1), cx := q16 .CAL_C (s * 2), cy := q16 .CAL_C (s * 2 + 1),
    k1 := q30 .CAL_K (s * 3), k2 := q30 .CAL_K (s * 3 + 1), k3 := q30 .CAL_K (s * 3 + 2) }

/-- The height of the ground surface of the last published grid in cell `k`, mm: the plane z = 0 where its confidence is 0 (R242). -/
def Blk.groundZ (b : Blk) (k : Nat) : Int :=
  let c := gridCell b.fus.grid k
  if 0 < c.conf then c.chan 0 * 10 else 0

/-- The point at which a ray of the grid's frame first meets the ground surface, level within each cell, in the grid (R242, log 51). -/
def Blk.groundHit (b : Blk) (o d : Vec) : Option Vec :=
  (cellKeys.foldl (fun (best : Option (Rat × Vec)) k =>
    let t := ((b.groundZ k : Rat) - o.z) / d.z
    let v := o.add (d.scale t)
    if d.z = 0 ∨ t ≤ 0 ∨ cellAt b.xMin v.x v.y ≠ some k then best
    else match best with
      | some (u, w) => if t < u then some (t, v) else some (u, w)
      | none => some (t, v)) none).map (·.2)

/-- The pose of the grid whose surface a feature at pose `p` meets: that of the last epoch (R242). -/
def Blk.surfacePose (b : Blk) (p : Pose) : Pose := if b.gridNode && !b.fus.grid.isEmpty then b.fus.gridPose else p

/-- A feature of camera `p` as an observation (R242, R244): none where its ray misses the ground. -/
def Blk.featureObs (b : Blk) (m p at_ : Nat) (f : Feature) : Option GridObs :=
  let pose := (poseAt at_ b.fus.poses).getD Pose.zero
  let q := b.surfacePose pose
  let c := b.calib p
  match b.groundHit (reframe pose q c.pos) (redirect pose q (c.turn (c.ray f.u f.v))) with
  | none => none
  | some v =>
    some ⟨p, at_, .point (reframe q pose v), ((f.vals.take (b.fld F.MODEL_CFG_CH_N m)).map fun v => max (-128) (min 127 v)).zipIdx.map
      fun v => (b.fld F.MODEL_CFG_CH_FIRST m + v.2, v.1)⟩

/-- The cell flits of an observation in a CONTRIB packet, twelve channels to a flit (R319). -/
def contribFlits (r c : Nat) : Nat → List (Nat × Int) → List (BitVec 128)
  | 0, _ => []
  | n + 1, vals =>
    match vals with
    | [] => []
    | (ch, _) :: _ =>
      let part := vals.take 12
      let bytes := part.zipIdx.foldl (fun acc v => acc + (BitVec.ofInt 8 v.1.2).toNat * 2 ^ (8 * v.2)) 0
      BitVec.ofNat 128 (r % 512 * 2 ^ 119 + c % 512 * 2 ^ 110 + ch % 64 * 2 ^ 104 + (part.length - 1) * 2 ^ 100 + bytes) ::
        contribFlits r c n (vals.drop 12)

/-- Observations leave for the grid node as CONTRIB packets of up to 31 cells (R244, R319). -/
def Blk.sendContrib (b : Blk) (m p fcnt : Nat) (at_ : Nat) (l : List GridObs) : Blk :=
  let cells := (l.filterMap fun o => match o.spot with
    | .point v => (cellAt b.xMin v.x v.y).map fun k => contribFlits (k / 512) (k % 512) 6 o.vals
    | .cell r c => some (contribFlits r c 6 o.vals)).flatten
  let head : BitVec 128 := BitVec.ofNat 128 ((b.ft + at_ - b.tb1) % 2 ^ 64 * 2 ^ 64 + fcnt % 2 ^ 32 * 2 ^ 32)
  (List.range ((cells.length + 30) / 31)).foldl (fun b k =>
    b.emit (b.newPacket 12 2 (b.fld F.FUS_CTRL_GRID_NODE 0) (b.slotMaster m) 0 p 3
      (head :: (cells.drop (31 * k)).take 31))) b

/-- The depth images of the range sensors that project into camera `p` are written (R243). The first slot of KIND 0 that takes a frame
closes them; another that takes the same frame writes them again (log 51). -/
def Blk.writeDepth (b : Blk) (m p : Nat) (first : Bool) : Blk :=
  ((List.range 8).map (12 + ·)).foldl (fun b s =>
    if b.flag F.CAL_PROJ_PROJ_EN s && b.fld F.CAL_PROJ_PROJ_CAM s == p then
      let b := if first then
          { b with fus := { b.fus with
            shown := NMap.set b.fus.shown s (SMap.get b.fus.depth s []) [], depth := NMap.set b.fus.depth s [] [] } }
        else b
      let w := (b.fld F.ST_SIZE_WIDTH (p * 4) + 7) / 8
      let h := (b.fld F.ST_SIZE_HEIGHT (p * 4) + 7) / 8
      let img := SMap.get b.fus.shown s []
      let bytes := ((List.range h).map fun r => ((List.range w).map fun c => leBytes 2 (SMap.get img (65536 * r + c) 0)).flatten).flatten
      let a := b.fld F.CAL_DEPTH_HI_DEPTH_ADDR s * 2 ^ 32 + (b.reg .CAL_DEPTH_LO s).toNat
      (b.unitWrites (b.slotMaster m) a bytes.length bytes).1
    else b) b

/-- The result record of an IMAGE_RESULT slot: words 1 to 15 first, word 0 last (R244). -/
def Blk.writeResult (b : Blk) (m : Nat) (f : ReadyFrame) (words : List Int) : Blk :=
  let a := b.fld F.MODEL_OUT_HI_OUT m * 2 ^ 32 + (b.reg .MODEL_OUT_LO m).toNat
  let mid := b.slotMaster m
  let out := (leBytes 8 f.tFs ++ ((List.range 13).map fun k => leBytes 4 (BitVec.ofInt 32 (words.getD k 0)).toNat).flatten)
  let b := (b.unitWrite mid (a + 4) (out.take 4)).1
  let b := (b.unitWrite mid (a + 8) ((out.drop 4).take 8)).1
  let b := (b.unitWrites mid (a + 16) 3 (out.drop 12)).1
  (b.unitWrite mid a (leBytes 4 f.fcnt)).1

/-- FRAME_INFERENCE (R242 to R244): slot `m` runs on the DONE primary frame of pipeline `p` and gives features, or the
words of a result record. -/
def Blk.frameInference (b : Blk) (m p : Nat) (feats : List Feature) (words : List Int) : Blk :=
  let kind := b.fld F.MODEL_CFG_KIND m
  match b.fus.frames.find? (fun f => f.pipe == p) with
  | none => b
  | some f =>
    b.when (b.fusRuns && b.fusState == 1 && (kind == 0 || kind == 2) && (b.fld F.MODEL_CFG_SRC m).testBit p && !f.marked &&
        !b.ownWaiting (512 + p) && !f.taken.contains m && !f.dropped.contains m && b.flag F.MODEL_STATUS_LOADED m &&
        b.fld F.MODEL_CFG_QUADS m != 0 && b.quadsOn m) fun b =>
      let b := { b with fus := { b.fus with
        frames := b.fus.frames.map fun (g : ReadyFrame) => if g.pipe = p then { g with taken := m :: g.taken } else g } }
      if kind = 2 then b.writeResult m f words
      else
        let b := b.writeDepth m p (f.taken.all fun k => b.fld F.MODEL_CFG_KIND k != 0)
        let at_ := f.tFs - b.fld F.CAL_CFG_LAT_US p * 1000
        let l := feats.filterMap (b.featureObs m p at_)
        if b.gridNode then { b with fus := { b.fus with obs := b.fus.obs ++ l } }
        else b.sendContrib m p f.fcnt at_ l

/-! ## Point packets (R246) -/

/-- A point of a packet (R246) in the machine frame (R242: R × p + t) as an observation at its time: none where it is not usable. -/
def Blk.pointObs (b : Blk) (s : Nat) (time : Int) (l : List Byte) : Option GridObs :=
  let w := fun k => ofLeBytes ((l.drop k).take 4)
  let i := fun k => (BitVec.ofNat 32 (w k)).toInt
  let t := w 12
  if t.testBit 24 then
    let c := b.calib s
    some ⟨s, (time + (bitsOf t 0 16 : Nat) * 1000).toNat, .point ((c.turn ⟨i 0, i 4, i 8⟩).add c.pos), []⟩
  else none

/-- A point projected into the depth image of its sensor: the nearest stays (R243). -/
def Blk.depthPoint (b : Blk) (s : Nat) (o : GridObs) : Blk :=
  match o.spot with
  | .cell _ _ => b
  | .point v =>
    if !b.flag F.CAL_PROJ_PROJ_EN s then b
    else match (b.calib (b.fld F.CAL_PROJ_PROJ_CAM s)).pixel v with
      | none => b
      | some (c, r, d) =>
        let d := max 1 (min 65535 d)
        let img := SMap.get b.fus.depth s []
        let k := 65536 * r + c
        let old := SMap.get img k 0
        let img := if c < 65536 then NMap.set img k (if old = 0 then d else min old d) 0 else img
        { b with fus := { b.fus with depth := NMap.set b.fus.depth s img [] } }

/-- The packet passes the checks of R246. -/
def Blk.packetOk (b : Blk) (l : List Byte) : Bool :=
  let w := fun k n => ofLeBytes ((l.drop k).take n)
  let n := w 4 2
  let src := (w 6 2).testBit 0
  let points := (List.range n).map fun k => w (32 + 16 * k + 12) 4
  decide (32 ≤ l.length) && w 0 1 == 1 && l.length == 32 + 16 * n && decide (1 ≤ n) && decide (n ≤ 88) &&
    w 6 2 / 2 == 0 && w 16 16 == 0 && points.all (fun p => p / 2 ^ 25 == 0) && (src || b.tbValid 0) &&
    decide (w 1 1 < 8) && b.sensorOn (12 + w 1 1)

/-- Ethernet port `e` carries frames (R339, R341). -/
def Blk.ethUp (b : Blk) (e : Nat) : Bool :=
  b.computeRuns && b.supply != 2 && b.pdState 60 == 4 && b.flag F.ETH_CTRL_EN e && b.flag F.ETH_STATUS_LINK e

/-- POINT_PACKET (R243, R246): a datagram for UDP port `port` arrives at Ethernet port `e`; the range sensors' port is FUS_RS_PORT. -/
def Blk.pointPacket (b : Blk) (e port : Nat) (l : List Byte) : Blk :=
  b.when (b.fusRuns && b.ethUp e && port == b.fld F.FUS_RS_PORT_PORT 0) fun b =>
    let w := fun k n => ofLeBytes ((l.drop k).take n)
    let r := w 1 1
    if !b.packetOk l then (if 2 ≤ l.length ∧ r < 8 then b.addSat F.FUS_RS_CNT_DISCARD r 1 else b)
    else
      let s := 12 + r
      let seq := w 2 2
      let b := match SMap.get b.fus.rsSeq r none with
        | some q => if (q + 1) % 65536 = seq then b else b.addSat F.FUS_RS_GAP_GAP r 1
        | none => b
      let b := b.incFld F.FUS_RS_CNT_ACCEPT r
      let time : Int := if (w 6 2).testBit 0 then b.tb1 else (w 8 8 : Int) - (b.tb 0 : Int) + (b.tb1 : Int)
      let obs := (List.range (w 4 2)).filterMap fun k => b.pointObs s time ((l.drop (32 + 16 * k)).take 16)
      let b := obs.foldl (fun b o => b.depthPoint s o) b
      let b := b.noteInput s time.toNat .good
      let b := { b with fus := { b.fus with rsSeq := NMap.set b.fus.rsSeq r (some seq) none } }
      b.when b.gridNode fun b => { b with fus := { b.fus with obs := b.fus.obs ++ obs } }

end Sys2Proof.Machine
end

