-- ==== Sys2Proof/Machine/NetSend.lean ====
section
/-!
DEFINITION. Sending on the Ethernet ports, for every unit of the node (R339 to R341).
-/

namespace Sys2Proof.Machine

/-- The Ethernet ports are powered and clocked (R28, R446). -/
def Blk.ethRuns (b : Blk) : Bool :=
  !b.frozen && ((b.computeRuns && b.supply != 2 && b.pdState 60 == 4) || decide (b.mod.phase = .chrysalis))

/-- A frame of Ethernet port `e` (R339): it leaves while the link is up, waits while it is down, and does not arise while
the port is disabled. -/
def Blk.ethSend (b : Blk) (e : Nat) (o : EthOut) : Blk :=
  if b.flag F.ETH_CTRL_EN e ∧ b.ethRuns then
    if b.flag F.ETH_STATUS_LINK e then
      { b with net := { b.net with wire := NMap.set b.net.wire e (SMap.get b.net.wire e [] ++ [o]) [] } }
    else { b with net := { b.net with ethQ := NMap.set b.net.ethQ e (SMap.get b.net.ethQ e [] ++ [o]) [] } }
  else b

/-- The all-nodes group ff02::1 (R279, R340). -/
def allNodes : BitVec 128 := 0xFF020000000000000000000000000001

end Sys2Proof.Machine
end

