-- ==== Sys2Proof/Machine/Nmea.lean ====
section
/-!
DEFINITION. The NMEA 0183 sentences of R279 and R280.
Readings and choices: logs 27, 52 of notes/assumptions.
-/

namespace Sys2Proof.Machine

/-- The ASCII bytes of a text. -/
def ascii (s : String) : List Byte := s.toList.map fun c => BitVec.ofNat 8 c.toNat

/-- The last `n` decimal digits of `v`. -/
def digits : Nat → Nat → List Byte
  | 0, _ => []
  | n + 1, v => digits n (v / 10) ++ [BitVec.ofNat 8 (48 + v % 10)]

/-- How many decimal digits a number takes, at most `fuel`. -/
def digitsIn : Nat → Nat → Nat
  | 0, _ => 1
  | fuel + 1, v => if v < 10 then 1 else 1 + digitsIn fuel (v / 10)

/-- A number in decimal. -/
def decimal (v : Nat) : List Byte := digits (digitsIn 20 v) v

/-- A number in decimal with at least two digits. -/
def decimal2 (v : Nat) : List Byte := if v < 100 then digits 2 v else decimal v

/-- A signed number in thousandths. -/
def milli (v : Int) : List Byte :=
  (if v < 0 then ascii "-" else []) ++ decimal (v.natAbs / 1000) ++ ascii "." ++ digits 3 v.natAbs

/-- Year, month and day of a day counted from 1970-01-01, in the Gregorian calendar. -/
def civil (day : Nat) : Nat × Nat × Nat :=
  let z := day + 719468
  let era := z / 146097
  let doe := z % 146097
  let yoe := (doe - doe / 1460 + doe / 36524 - doe / 146096) / 365
  let doy := doe - (365 * yoe + yoe / 4 - yoe / 100)
  let mp := (5 * doy + 2) / 153
  let d := doy - (153 * mp + 2) / 5 + 1
  let m := if mp < 10 then mp + 3 else mp - 9
  (yoe + era * 400 + (if m ≤ 2 then 1 else 0), m, d)

/-- A hexadecimal digit. -/
def hexDigit (v : Nat) : Byte := BitVec.ofNat 8 (if v < 10 then 48 + v else 55 + v)

/-- A sentence with talker GN, its checksum, and CR LF (R279). -/
def nmeaSentence (name : String) (fields : List (List Byte)) : List Byte :=
  let body := ascii "GN" ++ ascii name ++ (fields.map fun f => ascii "," ++ f).flatten
  let sum := (body.foldl (fun (c : Byte) (x : Byte) => c ^^^ x) 0).toNat
  ascii "$" ++ body ++ ascii "*" ++ [hexDigit (sum / 16), hexDigit (sum % 16), 13, 10]

/-- What an NMEA datagram is made from: the navigation record, UTC in ns where TB0 is valid, the reference station. -/
structure NmeaIn where
  nav     : List Word
  utc     : Option Nat
  station : Nat
deriving DecidableEq, Repr

/-- STATUS of the record (R267). -/
def NmeaIn.status (x : NmeaIn) : Nat := (x.nav.getD 0 0).toNat / 2 ^ 28 % 8

/-- A signed 64-bit word pair of the record. -/
def NmeaIn.long (x : NmeaIn) (k : Nat) : Int := ((x.nav.getD (k + 1) 0) ++ (x.nav.getD k 0) : BitVec 64).toInt

/-- The time field. -/
def NmeaIn.time (x : NmeaIn) : List Byte :=
  match x.utc with
  | none => []
  | some t =>
    let s := t / 1000000000 % 86400
    digits 2 (s / 3600) ++ digits 2 (s / 60 % 60) ++ digits 2 (s % 60) ++ ascii "." ++ digits 2 (t / 10000000)

/-- A coordinate field of `n` degree digits with 7 decimals of minutes, and its hemisphere (R280). -/
def NmeaIn.coord (x : NmeaIn) (k n : Nat) (pos neg : String) : List (List Byte) :=
  if x.status = 0 then [[], []]
  else
    let v := x.long k
    let a := v.natAbs
    let min7 := a % 1000000000 * 6 / 10
    [digits n (a / 1000000000) ++ digits 2 (min7 / 10000000) ++ ascii "." ++ digits 7 min7,
      ascii (if v < 0 then neg else pos)]

/-- The quotient `n / d` in decimal, with the decimals and the rounding of a field (log 27). -/
def NmeaIn.fixed (x : NmeaIn) (sentence field n d : Nat) : List Byte :=
  let k := Config.nmeaPlaces sentence field
  let v := n * 10 ^ k / d + (Config.nmeaUp sentence field x.nav).toNat
  decimal (v / 10 ^ k) ++ (if k = 0 then [] else ascii "." ++ digits k v)

/-- Ground speed in knots, and in km/h, from SOG in mm/s. -/
def NmeaIn.knots (x : NmeaIn) (sentence field : Nat) : List Byte := x.fixed sentence field ((x.nav.getD 15 0).toNat * 9) 4630
def NmeaIn.kmh (x : NmeaIn) (sentence field : Nat) : List Byte := x.fixed sentence field ((x.nav.getD 15 0).toNat * 9) 2500

/-- Course over ground in degrees, clockwise from north, from VN and VE; nothing gives the course of a machine that stands. -/
def NmeaIn.course (x : NmeaIn) (sentence field : Nat) : List Byte :=
  let n := (x.nav.getD 9 0).toInt
  let e := (x.nav.getD 10 0).toInt
  if n = 0 ∧ e = 0 then Config.nmeaField sentence field x.nav
  else x.fixed sentence field ((atan40 n e % turn40).toNat * 360) turn40.toNat

/-- The age of the corrections in s, where one has come (AGE of the record, 0.1 s). -/
def NmeaIn.age (x : NmeaIn) : List Byte :=
  let v := (x.nav.getD 1 0).toNat % 65536
  if v = 0xFFFF then [] else decimal (v / 10) ++ ascii "." ++ digits 1 v

/-- The status letter of RMC: V with the mode indicators N and E, as NMEA 0183 has it (R279; log 52). -/
def NmeaIn.letter (x : NmeaIn) : List Byte := ascii (if x.status = 0 ∨ x.status = 5 then "V" else "A")

/-- GGA quality (R280). -/
def nmeaQuality : Nat → Nat
  | 1 => 1 | 2 => 2 | 3 => 5 | 4 => 4 | 5 => 6 | _ => 0

/-- The mode indicator of RMC and VTG (R280). -/
def nmeaMode : Nat → String
  | 1 => "A" | 2 => "D" | 3 => "F" | 4 => "R" | 5 => "E" | _ => "N"

/-- GGA (R279, R280). -/
def nmeaGga (x : NmeaIn) : List Byte :=
  let hgt : Int := (x.nav.getD 8 0).toInt
  nmeaSentence "GGA" ([x.time] ++ x.coord 4 2 "N" "S" ++ x.coord 6 3 "E" "W" ++
    [decimal (nmeaQuality x.status), decimal2 ((x.nav.getD 0 0).toNat / 2 ^ 16 % 256), Config.nmeaField 0 7 x.nav,
      if x.status = 0 then [] else milli hgt, ascii "M", ascii "0.0", ascii "M", x.age,
      digits 4 x.station])

/-- RMC (R279, R280). -/
def nmeaRmc (x : NmeaIn) : List Byte :=
  let date := match x.utc with
    | none => []
    | some t => let d := civil (t / 86400000000000); digits 2 d.2.2 ++ digits 2 d.2.1 ++ digits 2 d.1
  nmeaSentence "RMC" ([x.time, x.letter] ++ x.coord 4 2 "N" "S" ++ x.coord 6 3 "E" "W" ++
    [x.knots 1 6, x.course 1 7, date, [], [], ascii (nmeaMode x.status),
      Config.nmeaField 1 12 x.nav])

/-- VTG (R279, R280). -/
def nmeaVtg (x : NmeaIn) : List Byte :=
  nmeaSentence "VTG" [x.course 2 0, ascii "T", [], ascii "M", x.knots 2 4, ascii "N", x.kmh 2 6, ascii "K", ascii (nmeaMode x.status)]

/-- ZDA (R279, R280). -/
def nmeaZda (x : NmeaIn) : List Byte :=
  let date := match x.utc with
    | none => [[], [], []]
    | some t => let d := civil (t / 86400000000000); [digits 2 d.2.2, digits 2 d.2.1, digits 4 d.1]
  nmeaSentence "ZDA" ([x.time] ++ date ++ [ascii "00", ascii "00"])

/-- The datagram of an output epoch: the enabled sentences in the order GGA, RMC, VTG, ZDA (R279). -/
def nmeaDatagram (x : NmeaIn) (sent : Nat) : List Byte :=
  (if sent.testBit 0 then nmeaGga x else []) ++ (if sent.testBit 1 then nmeaRmc x else []) ++
    (if sent.testBit 2 then nmeaVtg x else []) ++ (if sent.testBit 3 then nmeaZda x else [])

end Sys2Proof.Machine
end

