-- ==== Sys2Proof/Machine/Flags.lean ====
section
/-!
DEFINITION. FLAGS of a Loop Engine instance (R111): each bit is set during an instance and stays until the next boundary.
-/

namespace Sys2Proof.Machine

/-- FLAGS.SAT (R104, R111). -/
def TaskSt.setSat (x : TaskSt) (on : Bool) : TaskSt := if on then { x with flags := x.flags ||| 1 } else x

/-- FLAGS.DENY (R111, R113, R114). -/
def TaskSt.setDeny (x : TaskSt) (on : Bool) : TaskSt := if on then { x with flags := x.flags ||| 2 } else x

/-- FLAGS.INVALID (R111, R115). -/
def TaskSt.setInvalid (x : TaskSt) (on : Bool) : TaskSt := if on then { x with flags := x.flags ||| 4 } else x

/-- FLAGS.DIV0 (R110, R111). -/
def TaskSt.setDiv0 (x : TaskSt) (on : Bool) : TaskSt := if on then { x with flags := x.flags ||| 8 } else x

end Sys2Proof.Machine
end

