-- ==== Sys2Proof/Machine/Le.lean ====
section
/-!
DEFINITION. Tasks on the Loop Engines (spec chapter 03): enabling and disabling, triggers, sample boundaries, commits,
aborts, the plant model, deadlines (chapter 02), tile occupancy.
Readings and choices: logs 6, 13 to 15, 36, 52, 63, 66 of notes/assumptions.
-/

namespace Sys2Proof.Machine

/-! ## Enabling (R63) -/

/-- Bytes of a tile's memory. -/
def tileBytes : Nat := 0x40000

/-- N and RES_LIM of the model block (R87). -/
def Blk.modelN (b : Blk) (t : Nat) (d : Desc) : Nat := bitsOf (b.tword t (d.model + 0x1C)) 0 8

/-- A word of the model block as a signed number (R87). -/
def Blk.modelWord (b : Blk) (t : Nat) (d : Desc) (off : Nat) : Int := (b.word (taskAddr t (d.model + off))).toInt

/-- An output entry that R63 accepts for task `t`. -/
def Blk.entryOk (b : Blk) (t : Nat) (x : OutEntry) : Bool :=
  x.kind == 0 ||
    (decide (x.kind ≤ 4) && decide (x.lane ≤ 4) && (x.lane != 4 || x.kind == 3) &&
      (x.kind != 1 || (decide (x.id < 64) && b.ownerOf x.id == some t)) &&
      (x.kind != 2 || (decide (x.id < 128) && b.ownerOf (64 + x.id) == some t)))

/-- The regions that the descriptor names lie inside the tile and are aligned (R62, R63). -/
def descPlaced (d : Desc) : Bool :=
  decide (d.off + 64 ≤ tileBytes) && decide (d.progOff + d.progLen ≤ tileBytes) &&
    decide (d.bankA + 4 * d.coefN ≤ tileBytes) && decide (d.bankB + 4 * d.coefN ≤ tileBytes) &&
    decide (d.outmap + 16 * d.outN ≤ tileBytes) && (!d.mboxEn || decide (d.mbox + 64 ≤ tileBytes)) &&
    (!d.integEn || decide (d.integ + 4 ≤ tileBytes)) && (!d.modelEn || decide (d.model + modelLen ≤ tileBytes)) &&
    d.progOff % 16 == 0 && d.bankA % 4 == 0 && d.bankB % 4 == 0 && d.outmap % 16 == 0 && d.mbox % 64 == 0 &&
    d.integ % 4 == 0 && d.model % 16 == 0 && d.progLen != 0 && d.progLen % 4 == 0

/-- The descriptor and settings of task `t` are valid (R63). -/
def Blk.taskValid (b : Blk) (t : Nat) : Bool :=
  let d := b.desc t
  b.flag F.TASK_DESC_DESC_VALID t && descPlaced d &&
    decide (1 ≤ d.coefN) && decide (d.coefN ≤ 1024) && decide (1 ≤ d.outN) && decide (d.outN ≤ 16) &&
    decide (d.primary < d.outN) && (b.outEntries t d).all (fun x => b.entryOk t x.2) &&
    (!d.modelEn || (d.fbAddr % 4 == 0 && mappedOk d.fbAddr 32 && b.modelN t d != 0 &&
      decide (0 < b.modelWord t d 0x10))) &&
    (!d.dlEn || (decide (1 ≤ d.dlOffset) && (decide (d.dlTb < 3) || d.backstop != 0))) &&
    (!b.flag F.TASK_CTRL_PL_EN t || d.modelEn) && decide (b.fld F.TASK_CTRL_PL_ACTION t ≤ 3) &&
    decide (b.fld F.TASK_CTRL_DISABLE_ACTION t ≤ 1)

/-! ## The plant model (R87 to R91) -/

/-- The feedback word at FB_ADDR, read with the engine's master ID: 0 and refused where the gate refuses (R88). -/
def Blk.feedback (b : Blk) (t : Nat) (d : Desc) : Blk × Int × Bool :=
  let mid := b.unitMaster (taskEng t)
  match b.gate mid .read d.fbAddr 32 with
  | none =>
    let b := b.settleMem d.fbAddr
    (b, (BitVec.ofNat 32 (b.readAddr d.fbAddr 4)).toInt, false)
  | some det => (b.refuse mid det (denyData .read d.fbAddr), 0, true)

/-- Task `t` has a model whose feedback word lies in a stalled DRAM channel: it waits for the word (R88, R388). -/
def Blk.feedbackWaits (b : Blk) (t : Nat) : Bool :=
  let d := b.desc t
  d.modelEn && b.flag F.TASK_DESC_DESC_VALID t && b.readWaits (taskEng t) d.fbAddr 32

/-- The model starts from the feedback, with the primary value in force as its whole history (R88); there is a model only
where the task has a descriptor and the block lies inside the tile. Where the feedback has to be waited for, the next boundary aligns
the model before anything else. -/
def Blk.modelAlign (b : Blk) (t : Nat) : Blk :=
  let d := b.desc t
  if b.feedbackWaits t then b.setTask t { b.task t with align := true }
  else if d.modelEn ∧ b.flag F.TASK_DESC_DESC_VALID t ∧ d.model + modelLen ≤ tileBytes then
    let (b, y, _) := b.feedback t d
    let a := taskAddr t d.model
    let u := (b.task t).prim
    (List.range 16).foldl (fun b j => b.setWord (a + 0x24 + 4 * j) u) (b.setWord (a + 0x20) (BitVec.ofInt 32 y))
  else b

/-- What one evaluation of the model finds (R88, R89). -/
structure ModelOut where
  y   : Int
  r   : Int
  res : Bool
  rng : Bool
  sat : Bool
deriving DecidableEq, Repr

/-- The evaluation of the model at a boundary (R88, R112): U_HIST shifted, the prediction, the residual, the estimate. The sum of
three terms is limited after each addition, from left to right (log 63). -/
def Blk.modelStep (b : Blk) (t : Nat) (d : Desc) : Blk × ModelOut :=
  let a := taskAddr t d.model
  let hist := (List.range 15).map fun j => b.word (a + 0x24 + 4 * j)
  let b := ((b.task t).prim :: hist).zipIdx.foldl (fun b x => b.setWord (a + 0x24 + 4 * x.2) x.1) b
  let (b, y, refused) := b.feedback t d
  let w := fun off => b.word (a + off)
  let delay := bitsOf (w 0x1C).toNat 8 4
  let p1 := coefProd (w 0x20).toInt (w 0x00)
  let p2 := coefProd (w (0x24 + 4 * delay)).toInt (w 0x04)
  let s1 := sat32 (p1.1 + p2.1)
  let s2 := sat32 (s1.1 + (w 0x08).toInt)
  let r := sat32 (y - s2.1)
  let p3 := coefProd r.1 (w 0x0C)
  let s3 := sat32 (s2.1 + p3.1)
  let out : ModelOut :=
    { y := y, r := r.1, res := decide ((w 0x10).toInt < r.1.natAbs),
      rng := refused || decide (y < (w 0x14).toInt) || decide ((w 0x18).toInt < y),
      sat := p1.2 || p2.2 || s1.2 || s2.2 || r.2 || p3.2 || s3.2 }
  (b.setWord (a + 0x20) (BitVec.ofInt 32 s3.1), out)

/-- The signed number limited to ±32 767, as 16 bits (R91). -/
def sat16 (x : Int) : Nat := (BitVec.ofInt 16 (max (-32767) (min 32767 x))).toNat

/-! ## Commit (R74, R84, R85) -/

/-- One value leaves the engine for its output entry (R65, R74, R316). Owners are fixed at the commit of the start, so that before
CONFIG_DONE none is looked for (R22, R357; log 66). -/
def Blk.sendOut (b : Blk) (t : Nat) (e : Nat) (x : OutEntry) (v : BitVec 128) : Blk :=
  let eng := taskEng t
  let lane : Word := v.extractLsb' 0 32
  let own := fun (k : Nat) => !b.configDone || SMap.get b.le.owner k none == some t
  match x.kind with
  | 1 =>
    if own x.id then { b with le := { b.le with link := b.le.link ++ [.sol x.id lane] } }
    else b.refuse eng 7 (denyData .write (regBase + RegName.offset .SOL_SP x.id))
  | 2 =>
    if own (64 + x.id) then { b with le := { b.le with link := b.le.link ++ [.lsw x.id lane] } }
    else b.refuse eng 7 (denyData .write (regBase + RegName.offset .LSW_CMD x.id))
  | 3 => b.submit ⟨.out t e, b.unitMaster eng, .write, x.addr, if x.lane = 4 then 128 else 32, v, b.edgeNow x.addr⟩
  | 4 => b.sendStream (x.id % 65536) eng
      [BitVec.ofNat 64 b.ft ++ b.reg .TASK_SEQ t ++ lane]
  | _ => b

/-- The SAFE value of every KIND 1 and KIND 2 entry is committed (R77, R79, R90, R102). HOLD of a plausibility episode suppresses
what an instance commits, and not the SAFE values of an abort or a disable (log 63). -/
def Blk.commitSafe (b : Blk) (t : Nat) : Blk :=
  let d := b.desc t
  (b.outEntries t d).foldl (fun b x =>
    if x.2.kind = 1 ∨ x.2.kind = 2 then
      let b := b.sendOut t x.1 x.2 (x.2.safe.setWidth 128)
      if x.1 = d.primary then b.setTask t { b.task t with prim := x.2.safe } else b
    else b) b

/-- The slot without an instance: what ends with every instance. -/
def TaskSt.clear (x : TaskSt) : TaskSt :=
  { x with dl := none, bs := none, missed := false, dlHit := false, bsHit := false, due := .none, started := false, ended := false, mark := .none, staged := [],
           gld := [], gst := [] }

/-- The engine of task `t` runs it no longer. -/
def Blk.leave (b : Blk) (t : Nat) : Blk := if b.cur (taskEng t) = some t then b.setCur (taskEng t) none else b

/-- Task `t` becomes DISABLED; its episode ends (R89). -/
def Blk.toDisabled (b : Blk) (t : Nat) : Blk :=
  let b := ((b.setFld F.TASK_STATUS_STATE t 0).setFld F.TASK_STATUS_PL_FLAG t 0).setFld F.TASK_CTRL_EN t 0
  (b.setTask t { (b.task t).clear with resN := 0, rngN := 0, quietN := 0 }).leave t

/-- Task `t` becomes DISABLED by EN: DISABLE_ACTION applies (R79). -/
def Blk.disableByEn (b : Blk) (t : Nat) : Blk :=
  let b := b.toDisabled t
  if b.fld F.TASK_CTRL_DISABLE_ACTION t = 1 then b.commitSafe t else b

/-- Task `t` returns to IDLE without an instance. -/
def Blk.toIdle (b : Blk) (t : Nat) : Blk :=
  ((b.setFld F.TASK_STATUS_STATE t 1).setTask t (b.task t).clear).leave t

/-- An instance was aborted: ABORTS and ABORTED (R77). -/
def Blk.countAbort (b : Blk) (t : Nat) : Blk := (b.addSat F.TASK_CNT_ABORTS t 1).setFld F.TASK_STATUS_ABORTED t 1

/-- The abort of an instance by its mark (R75, R77, R78, R79). -/
def Blk.abortBy (b : Blk) (t : Nat) (m : AbortMark) : Blk :=
  let b := b.countAbort t
  if b.taskState t = 5 then
    let b := b.disableByEn t
    match m with
    | .safe | .safeDisable => if b.fld F.TASK_CTRL_DISABLE_ACTION t = 1 then b else b.commitSafe t
    | _ => b
  else
    match m with
    | .safe => (b.toIdle t).commitSafe t
    | .safeDisable => (b.toDisabled t).commitSafe t
    | .drain => b.disableByEn t
    | _ => b.toIdle t

/-! ## Reached deadlines (R56, R60, R76 to R78) -/

/-- DATA of the records of R60 for task `t`: the sequence number of the instance concerned. -/
def Blk.missData (b : Blk) (t : Nat) : Nat :=
  let seq := (b.reg .TASK_SEQ t).toNat + (if (b.task t).started then 0 else 1)
  taskSlot t * 2 ^ 29 + (b.desc t).dlTb * 2 ^ 25 + seq % 65536

/-- The mark that a reached deadline puts on a started instance (R77, R78). -/
def Blk.missMark (b : Blk) (t : Nat) : AbortMark :=
  if b.taskState t = 5 then .drain
  else match b.fld F.TASK_CTRL_MISS_ACTION t with
    | 1 => .hold
    | 2 => .safe
    | 3 => .safeDisable
    | _ => (b.task t).mark

/-- A deadline or backstop of task `t` is reached: its one record and MISS_ACTION (R56, R76, R77, R78). -/
def Blk.miss (b : Blk) (t detail : Nat) : Blk :=
  let b := (b.raise (taskEng t) 0x01 detail (b.missData t)).setTask t { b.task t with missed := true }
  let x := b.task t
  if x.ended then b
  else if b.taskState t = 2 then
    if b.fld F.TASK_CTRL_MISS_ACTION t = 0 then b else b.abortBy t (b.missMark t)
  else b.setTask t { x with mark := b.missMark t }

/-- DEADLINE_REACHED (R56, R57): the last tick reached the deadline of task `t`. -/
def Blk.deadlineReached (b : Blk) (t : Nat) : Blk :=
  b.when ((b.task t).due == .deadline) fun b => (b.setTask t { b.task t with due := .none }).miss t 0x01

/-- BACKSTOP_REACHED (R56, R78): the last tick reached the backstop of task `t` first; a draining instance that raised its record
before is marked for its abort. -/
def Blk.backstopReached (b : Blk) (t : Nat) : Blk :=
  match (b.task t).due with
  | .backstop => (b.setTask t { b.task t with due := .none }).miss t 0x02
  | .drain =>
    let x := b.task t
    b.setTask t { x with due := .none, mark := if x.ended then x.mark else .drain }
  | _ => b

/-- What the last tick found due for task `t` and no row has acted on acts now: the tick came first (R56). -/
def Blk.missNow (b : Blk) (t : Nat) : Blk := (b.deadlineReached t).backstopReached t

/-! ## Commands of TASK_CTRL -/

/-- TASK_ENABLE (R63, R71, R80, R88, R97): EN written 1. -/
def Blk.taskEnable (b : Blk) (t : Nat) : Blk :=
  match b.taskState t with
  | 0 =>
    if b.taskValid t then
      let b := (b.setFld F.TASK_CTRL_EN t 1).setFld F.TASK_STATUS_STATE t 1
      let b := b.setTask t { (b.task t).clear with v := [], ac := [], resN := 0, rngN := 0, quietN := 0 }
      b.modelAlign t
    else (b.setFld F.TASK_CTRL_EN t 0).setFld F.TASK_STATUS_EN_REFUSED t 1
  | 5 => b.setFld F.TASK_STATUS_EN_REFUSED t 1
  | _ => b

/-- TASK_DISABLE (R71, R78, R79): EN written 0. -/
def Blk.taskDisable (b : Blk) (t : Nat) : Blk :=
  let b := b.missNow t
  match b.taskState t with
  | 1 | 2 => b.disableByEn t
  | 3 | 4 =>
    ((b.setFld F.TASK_CTRL_EN t 0).setFld F.TASK_STATUS_STATE t 5).setTask t { b.task t with drainAt := b.tb1 }
  | _ => b

/-- TASK_SWAP (R81, R82). -/
def Blk.taskSwap (b : Blk) (t : Nat) : Blk :=
  if b.flag F.TASK_STATUS_SWAP_PEND t ∨ b.taskState t = 5 then b.setFld F.TASK_STATUS_BANK_LOCKED t 1
  else b.setFld F.TASK_STATUS_SWAP_PEND t 1

/-- TASK_PL_CLR (R88, R89): the episode ends and the model is aligned anew. The counts of consecutive boundaries start again
(log 63). -/
def Blk.taskPlClr (b : Blk) (t : Nat) : Blk :=
  let b := b.setFld F.TASK_STATUS_PL_FLAG t 0
  (b.setTask t { b.task t with resN := 0, rngN := 0, quietN := 0 }).modelAlign t

/-- TASK_MAN_WRITE (R72, R84): the mode requested from the next boundary. -/
def Blk.taskMan (b : Blk) (t : Nat) (man : Bool) : Blk := b.setFlag F.TASK_CTRL_MAN t man

/-! ## Triggers and deadlines (R55 to R60, R67) -/

/-- TRIGGER_ARRIVAL (R55, R59, R67): a slot trigger reaches task `t`. -/
def Blk.triggerArrival (b : Blk) (t : Nat) : Blk :=
  match b.takeTrig 1 t with
  | none => b
  | some (g, b) =>
    match b.taskState t with
    | 1 =>
      let d := b.desc t
      let w := b.tbWidth d.dlTb
      let tb1 := g.vals.getD 1 0
      let x := { (b.task t).clear with
        arrival := b.tb1, trigTb1 := tb1,
        dl := if d.dlEn && g.valid.testBit d.dlTb then some ((g.vals.getD d.dlTb 0 + d.dlOffset) % 2 ^ w) else none,
        bs := if d.backstop = 0 then none else some (tb1 + d.backstop * 1000) }
      (b.setTask t x).setFld F.TASK_STATUS_STATE t 2
    | 2 | 3 | 4 => (b.addSat F.TASK_CNT_DROPPED t 1).raise (taskEng t) 0x01 0x03 (b.missData t)
    | _ => b

/-- The deadline of task `t` is reached on the last tick, or was before it (R55, R57). -/
def Blk.deadlineDue (b : Blk) (t : Nat) : Bool :=
  match (b.task t).dl with
  | some d =>
    let n := (b.desc t).dlTb
    b.tbValid n && decide (0 ≤ sdiff (b.tbWidth n) (b.tb n) d)
  | none => false

/-- The backstop of task `t` is reached on the last tick, or was before it (R55). -/
def Blk.backstopDue (b : Blk) (t : Nat) : Bool :=
  match (b.task t).bs with
  | some x => decide (x ≤ b.tb1)
  | none => false

/-- Task `t` has an instance that has not ended (R56, R76). -/
def Blk.hasInstance (b : Blk) (t : Nat) : Bool := decide (2 ≤ b.taskState t) && decide (b.taskState t ≤ 5)

/-- The checks of a tick for task `t` (R55 to R57, R78): the first of deadline and backstop that is reached, the deadline where both
are, is due; of a draining instance whose record was raised before, the abort. -/
def Blk.missTick (b : Blk) (t : Nat) : Blk :=
  let x := b.task t
  let dl := b.hasInstance t && !x.dlHit && b.deadlineDue t
  let bs := b.hasInstance t && !x.bsHit && b.backstopDue t
  if dl || bs then
    let due := if !x.missed then (if dl then .deadline else .backstop) else if b.taskState t = 5 then .drain else .none
    b.setTask t { x with dlHit := x.dlHit || dl, bsHit := x.bsHit || bs, due := due }
  else b

/-- The checks of a tick for every task. -/
def Blk.missTicks (b : Blk) : Blk := (b.le.tasks.map (·.1)).foldl Blk.missTick b

/-- What the last tick found due and no row has acted on yet. -/
def Blk.missFlush (b : Blk) : Blk :=
  (b.le.tasks.map (·.1)).foldl Blk.missNow b

/-- DRAIN_LIMIT (R78). -/
def Blk.drainLimit (b : Blk) (t : Nat) : Blk :=
  let d := b.desc t
  b.when (decide (b.taskState t = 5) && !d.dlEn && d.backstop == 0 && !(b.task t).ended &&
      decide ((b.task t).drainAt + 1000000 ≤ b.tb1)) fun b => b.abortBy t .drain

/-- INSTANCE_ABORT (R77): a marked instance stops at its next instruction boundary. -/
def Blk.instanceAbort (b : Blk) (t : Nat) : Blk :=
  let x := b.task t
  b.when (x.started && !x.ended && decide (x.mark ≠ .none)) fun b =>
    let b := b.missNow t
    b.abortBy t (b.task t).mark

/-! ## The tracking tasks of the GNSS host (R259) -/

/-- Channel `c` beyond its registers. -/
def Blk.chan (b : Blk) (c : Nat) : ChanSt := SMap.get b.gnss.chans c ChanSt.zero

/-- The block with channel `c` at `x`. -/
def Blk.setChan (b : Blk) (c : Nat) (x : ChanSt) : Blk :=
  { b with gnss := { b.gnss with chans := NMap.set b.gnss.chans c x ChanSt.zero } }

/-- A tracking task has missed its deadline (R259): one record, as R56 and R60 give it; DL_TB is TB1. The
tasks of T24 to T27 are 3072 to 3583. -/
def Blk.trackMiss (b : Blk) (c : Nat) : Blk :=
  let t := Config.trackTask c b.free
  let task := 3072 + t.1.val
  ((b.setChan c { b.chan c with missAt := none }).raise (taskEng task) 0x01 0x01
    (taskSlot task * 2 ^ 29 + 2 ^ 25 + t.2.toNat)).took

/-- The tracking tasks whose deadline has passed on this tick (R259). -/
def Blk.tickTrack (b : Blk) : Blk :=
  (b.gnss.chans.filterMap fun x =>
    match x.2.missAt with
    | some t => if t ≤ b.tb1 then some x.1 else none
    | none => none).foldl Blk.trackMiss b

/-! ## Selection (R68, R69) -/

/-- The engines of the tile can run: the compute side is up, not asleep, and the tile's domain ON (R370, R374). -/
def Blk.engineRuns (b : Blk) (e : Nat) : Bool :=
  b.computeRuns && decide (b.supply ≠ 2) && b.pdState (e / 16) == 4

/-- The tasks of engine `e` that are READY. -/
def Blk.readyTasks (b : Blk) (e : Nat) : List Nat := ((List.range 8).map (e * 8 + ·)).filter fun t => b.taskState t = 2

/-- The instances of engine `e` that are preempted, draining ones among them. -/
def Blk.preempted (b : Blk) (e : Nat) : List Nat :=
  ((List.range 8).map (e * 8 + ·)).filter fun t =>
    (b.task t).started && !(b.task t).ended && b.cur e != some t && (b.taskState t == 4 || b.taskState t == 5)

/-- PRIO of task `t` (R67). -/
def Blk.prio (b : Blk) (t : Nat) : Nat := b.fld F.TASK_CTRL_PRIO t

/-- Of two READY tasks, `t` is selected before `u` (R68): higher PRIO, then earlier arrival, then lower slot. -/
def Blk.before (b : Blk) (t u : Nat) : Bool :=
  decide (b.prio u < b.prio t) ||
    (b.prio t == b.prio u && (decide ((b.task t).arrival < (b.task u).arrival) ||
      ((b.task t).arrival == (b.task u).arrival && decide (t < u))))

/-- The first of a list of tasks by R68. -/
def Blk.firstOf (b : Blk) : List Nat → Option Nat
  | [] => none
  | t :: l =>
    match b.firstOf l with
    | none => some t
    | some u => if b.before u t then some u else some t

/-- The READY task that engine `e` would start now (R68, R69). -/
def Blk.selected (b : Blk) (e : Nat) : Option Nat :=
  match b.cur e, b.firstOf (b.readyTasks e) with
  | none, some t => if (b.preempted e).all fun u => decide (b.prio u < b.prio t) then some t else none
  | _, _ => none

/-- PREEMPT (R69): a READY task of strictly higher PRIO takes the engine at an instruction boundary. -/
def Blk.preempt (b : Blk) (e : Nat) : Blk :=
  match b.cur e with
  | none => b
  | some t =>
    b.when (b.engineRuns e && !(b.task t).ended && (b.readyTasks e).any fun u => decide (b.prio t < b.prio u)) fun b =>
      (if b.taskState t = 3 then b.setFld F.TASK_STATUS_STATE t 4 else b).setCur e none

/-- RESUME (R69): the preempted instance of highest PRIO runs again when no task of higher PRIO is READY. -/
def Blk.resume (b : Blk) (e : Nat) : Blk :=
  match b.cur e, b.firstOf (b.preempted e) with
  | none, some t =>
    b.when (b.engineRuns e && decide ((b.task t).mark = .none) &&
        (b.readyTasks e).all fun u => decide (b.prio u ≤ b.prio t)) fun b =>
      (if b.taskState t = 4 then b.setFld F.TASK_STATUS_STATE t 3 else b).setCur e (some t)
  | _, _ => b

/-! ## The sample boundary (R72) -/

/-- MAILBOX_COPY (R73): the shadow words become the live words. -/
def Blk.mailboxCopy (b : Blk) (t : Nat) (d : Desc) : Blk :=
  if d.mboxEn then b.writeMem (taskAddr t d.mbox) 32 (b.readMem (taskAddr t (d.mbox + 32)) 32) else b

/-- BANK_SWAP (R81). -/
def Blk.bankSwap (b : Blk) (t : Nat) : Blk :=
  if b.flag F.TASK_STATUS_SWAP_PEND t then
    (b.setFlag F.TASK_STATUS_BANK t (!b.flag F.TASK_STATUS_BANK t)).setFld F.TASK_STATUS_SWAP_PEND t 0
  else b

/-- The mode takes effect and MAN_VALUE is read (R72, R84, R85). -/
def Blk.modeChange (b : Blk) (t : Nat) : Blk :=
  let man := b.flag F.TASK_CTRL_MAN t
  let x := b.task t
  let toAuto := if man then false else if b.flag F.TASK_STATUS_MODE_ACT t then true else x.toAuto
  (b.setTask t { x with manVal := b.reg .TASK_MAN t, toAuto := toAuto }).setFlag F.TASK_STATUS_MODE_ACT t man

/-- PLAUSIBILITY_EPISODE (R89 to R91): the conditions of a boundary; the second part is true where SAFE_DISABLE stops the
instance. DATA is that of R91, without the SEQ that TASK_SEQ's table speaks of (log 36). -/
def Blk.plausibility (b : Blk) (t : Nat) (n : Nat) (m : ModelOut) : Blk × Bool :=
  let x := b.task t
  let resN := if m.res then x.resN + 1 else 0
  let rngN := if m.rng then x.rngN + 1 else 0
  let quietN := if m.res || m.rng || m.sat then 0 else x.quietN + 1
  let b := b.setTask t { x with resN := resN, rngN := rngN, quietN := quietN }
  if b.flag F.TASK_STATUS_PL_FLAG t then
    (if n ≤ quietN then b.setFld F.TASK_STATUS_PL_FLAG t 0 else b, false)
  else
    let detail := if n ≤ resN then 1 else if n ≤ rngN then 2 else if m.sat then 3 else 0
    if detail = 0 then (b, false)
    else
      let v := if detail = 2 then m.y else m.r
      let b := (b.setFld F.TASK_STATUS_PL_FLAG t 1).raise (taskEng t) 0x02 detail
        (taskSlot t * 2 ^ 29 + n * 2 ^ 16 + sat16 v)
      match b.fld F.TASK_CTRL_PL_ACTION t with
      | 2 =>
        let u := (b.task t).prim
        let b := ((b.setFld F.TASK_CTRL_MAN t 1).setReg .TASK_MAN t u).setFld F.TASK_STATUS_MODE_ACT t 1
        (b.setTask t { b.task t with manVal := u, toAuto := false }, false)
      | 3 => ((b.toDisabled t).commitSafe t, true)
      | _ => (b, false)

/-- Step 4 of R72. -/
def Blk.boundaryModel (b : Blk) (t : Nat) (d : Desc) : Blk × Bool :=
  if d.modelEn then
    let (b, m) := b.modelStep t d
    if b.flag F.TASK_CTRL_PL_EN t then b.plausibility t (b.modelN t d) m else (b, false)
  else (b, false)

/-- Steps 5 and 6 of R72, and the context of R97. -/
def Blk.startInstance (b : Blk) (t : Nat) (d : Desc) : Blk :=
  let b := (b.incFld F.TASK_SEQ_SEQ t).setFld F.TASK_STATUS_STATE t 3
  (b.setTask t { b.task t with p := [], flags := 0, pc := d.progOff, started := true }).setCur (taskEng t) (some t)

/-- The alignment that waited for the feedback is made (R88, R388). -/
def Blk.lateAlign (b : Blk) (t : Nat) : Blk :=
  if (b.task t).align then (b.setTask t { b.task t with align := false }).modelAlign t else b

/-- SAMPLE_BOUNDARY (R68, R72): engine `e` selects a READY instance; a deadline that the last tick reached acts first, and may end
it. A boundary whose feedback has to be waited for is not done yet (R388). -/
def Blk.sampleBoundary (b : Blk) (e : Nat) : Blk :=
  match b.selected e with
  | none => b
  | some t =>
    b.when (b.engineRuns e) fun b =>
      let b := b.missNow t
      if b.taskState t = 2 ∧ b.feedbackWaits t = false then
        let d := b.desc t
        let b := b.lateAlign t
        let b := ((b.mailboxCopy t d).bankSwap t).modeChange t
        let (b, stopped) := b.boundaryModel t d
        if stopped then b else b.startInstance t d
      else b

/-! ## The commit (R74, R84, R85) -/

/-- The staged value of entry `e`. -/
def TaskSt.stagedAt (x : TaskSt) (e : Nat) : Option (BitVec 128) := SMap.get x.staged e none

/-- BUMPLESS_TRANSFER (R85): the primary value that an automatic instance commits, the integral state being preset where
INTEG_EN is 1. -/
def Blk.autoPrimary (b : Blk) (t : Nat) (d : Desc) (u : BitVec 128) : Blk × BitVec 128 :=
  let x := b.task t
  if x.toAuto then
    let b := b.setTask t { x with toAuto := false }
    if d.integEn then
      let a := taskAddr t d.integ
      let diff := (sat32 (x.prim.toInt - (u.extractLsb' 0 32).toInt)).1
      let b := b.setWord a (BitVec.ofInt 32 (sat32 ((b.word a).toInt + diff)).1)
      (b, x.prim.setWidth 128)
    else (b, u)
  else (b, u)

/-- The primary value that this commit sends, if it sends one (R84, R85). A 32-bit value sent to an entry of 128 bits has zeros above
it (log 63). -/
def Blk.commitPrimary (b : Blk) (t : Nat) (d : Desc) : Blk × Option (BitVec 128) :=
  let x := b.task t
  if b.flag F.TASK_STATUS_MODE_ACT t then
    (b.setTask t { x with prim := x.manVal }, some (x.manVal.setWidth 128))
  else
    match x.stagedAt d.primary with
    | none => (b, none)
    | some u =>
      let (b, v) := b.autoPrimary t d u
      let w : Word := v.extractLsb' 0 32
      ((b.setTask t { b.task t with prim := w }).setReg .TASK_MAN t w, some v)

/-- The release of the staged values (R74); HOLD of a plausibility episode suppresses it (R90). -/
def Blk.release (b : Blk) (t : Nat) : Blk :=
  let d := b.desc t
  if b.flag F.TASK_STATUS_PL_FLAG t ∧ b.fld F.TASK_CTRL_PL_ACTION t = 1 then b
  else
    let (b, prim) := b.commitPrimary t d
    let x := b.task t
    (b.outEntries t d).foldl (fun b y =>
      match if y.1 = d.primary then prim else x.stagedAt y.1 with
      | some v => b.sendOut t y.1 y.2 v
      | none => b) b

/-- COMMIT (R71, R74): the instance on engine `e` whose END has retired; the record of a deadline that the last tick reached comes
first (R76). -/
def Blk.commit (b : Blk) (e : Nat) : Blk :=
  match b.cur e with
  | none => b
  | some t =>
    b.when ((b.task t).ended && b.engineRuns e) fun b =>
      let b := (b.missNow t).release t
      if b.taskState t = 5 then b.disableByEn t else b.toIdle t

/-! ## Occupancy and throttle (R93, R94) -/

/-- TARGET_PCT as taken: 25 to 90. -/
def Blk.targetPct (b : Blk) (tile : Nat) : Nat := max 25 (min 90 (b.fld F.TILE_THR_TARGET_PCT tile))

/-- LECLK cycles since the start of TB1, in fortieths: a step of 25 MHz gives one fortieth of a cycle a nanosecond (R384). -/
def Blk.cycles (b : Blk) : Nat := b.le.cycles + b.fld F.PWR_STATUS_LECLK_N 0 * (b.tb1 - b.le.cycAt)

/-- The cycles counted so far are kept: LECLK is about to change. -/
def Blk.keepCycles (b : Blk) : Blk := { b with le := { b.le with cycles := b.cycles, cycAt := b.tb1 } }

/-- OCC_WINDOW (R93): issue cycles per mille of 16 engines' LECLK cycles in the 1 ms window. -/
def Blk.occWindow (b : Blk) (tile : Nat) : Blk :=
  b.when (b.aonRuns && decide (SMap.get b.le.occAt tile 0 + 1000000 ≤ b.tb1)) fun b =>
    let cycles := b.cycles - SMap.get b.le.occCyc tile 0
    let occ := min 1000 (SMap.get b.le.issues tile 0 * 1000 * 40 / (16 * cycles))
    let b := b.setFld F.TILE_OCC_OCC tile occ
    { b with le := { b.le with
      issues := NMap.set b.le.issues tile 0 0, occAt := NMap.set b.le.occAt tile b.tb1 0,
      occCyc := NMap.set b.le.occCyc tile b.cycles 0 } }

/-- GRACE_END (R94): a tile that is still hot and busy after its grace time is gated, with a TILE_GATED record (R389). -/
def Blk.graceEnd (b : Blk) (tile : Nat) : Blk :=
  match SMap.get b.le.grace tile none with
  | none => b
  | some t =>
    b.when (b.aonRuns && decide (t + 20000000 ≤ b.tb1)) fun b =>
      let b := { b with le := { b.le with grace := NMap.set b.le.grace tile none none } }
      let occ := b.fld F.TILE_OCC_OCC tile
      if b.flag F.TILE_STATUS_THR_REQ tile ∧ b.targetPct tile * 10 < occ then
        (b.setFld F.TILE_STATUS_GATED tile 1).raise 594 0x0F 0x02 (tile * 2 ^ 27 + occ)
      else b

end Sys2Proof.Machine
end

