-- ==== Sys2Proof/Machine/StepCode.lean ====
section
/-!
DEFINITION. Step code (spec chapter 04): the instruction an engine issues is the word at its running task's PC; each
command names the engine and takes effect where that word is a legal instruction of the command's opcode.
Readings and choices: logs 8, 13, 15, 29, 62, 65 of notes/assumptions.
-/

namespace Sys2Proof.Machine

/-! ## The context (R96, R98) -/

/-- Predicate Pn; P0 is all ones (R96). -/
def TaskSt.pred (x : TaskSt) (n : Nat) : BitVec 4 := if n = 0 then 15 else SMap.get x.p n 0

/-- Write predicate Pn; P0 ignores writes (R96). -/
def TaskSt.setPred (x : TaskSt) (n : Nat) (v : BitVec 4) : TaskSt :=
  if n = 0 then x else { x with p := NMap.set x.p n v 0 }

/-- Lane `j` of Vn as bits. -/
def TaskSt.lane (x : TaskSt) (n j : Nat) : Word := SMap.get x.v (4 * n + j) 0

/-- Lane `j` of Vn as a signed number (R98). -/
def TaskSt.laneInt (x : TaskSt) (n j : Nat) : Int := (x.lane n j).toInt

/-- The latest of the outstanding global loads that writes lane `j` of Vn. -/
def TaskSt.awaited (x : TaskSt) (n j : Nat) : Option GldRec :=
  x.gld.reverse.find? fun g => g.vd == n && g.lanes.getLsbD j

/-- Write lane `j` of Vn. Where the lane awaits a global load, the write takes effect on the edge of that load (R121). -/
def TaskSt.setLane (x : TaskSt) (n j : Nat) (v : Word) : TaskSt :=
  match x.awaited n j with
  | none => { x with v := NMap.set x.v (4 * n + j) v 0 }
  | some h =>
    { x with gld := x.gld.map fun g => if g.num = h.num ∧ g.vd = n then { g with late := NMap.set g.late j (some v) none } else g }

/-- Accumulator lane `j` of ACn (R98). -/
def TaskSt.acc (x : TaskSt) (n j : Nat) : Int := (SMap.get x.ac (4 * n + j) 0).toInt

/-- Write accumulator lane `j` of ACn. -/
def TaskSt.setAcc (x : TaskSt) (n j : Nat) (v : Int) : TaskSt :=
  { x with ac := NMap.set x.ac (4 * n + j) (BitVec.ofInt 64 v) 0 }

/-- Apply `g` to the slot for every lane that the mask enables, in ascending order (R99). -/
def TaskSt.forLanes (x : TaskSt) (m : BitVec 4) (g : TaskSt → Nat → TaskSt) : TaskSt :=
  (List.range 4).foldl (fun x j => if m.getLsbD j then g x j else x) x

/-! ## Instruction words (R100 to R102) -/

/-- Opcode of a word. -/
def opOf (w : Nat) : Nat := bitsOf w 26 6
/-- Predicate number of a word. -/
def pnOf (w : Nat) : Nat := bitsOf w 23 3
/-- Bits [22:19]: VD, VS or V. -/
def vdOf (w : Nat) : Nat := bitsOf w 19 4
/-- Bits [18:15]: VA. -/
def vaOf (w : Nat) : Nat := bitsOf w 15 4
/-- Bits [14:11]: VB. -/
def vbOf (w : Nat) : Nat := bitsOf w 11 4
/-- Bits [10:5]: M of format V. -/
def mOf (w : Nat) : Nat := bitsOf w 5 6
/-- Bits [22:20]: PD of formats P and L. -/
def pdOf (w : Nat) : Nat := bitsOf w 20 3
/-- K of format C. -/
def kOf (w : Nat) : Nat := bitsOf w 5 10
/-- VEC of format C. -/
def vecOf (w : Nat) : Bool := w.testBit 4
/-- AC of CMAC and CMSU. -/
def acOf (w : Nat) : Nat := bitsOf w 19 2
/-- OFFSET of format B, signed. -/
def offsetOf (w : Nat) : Int := (BitVec.ofNat 17 w).toInt

/-- The opcodes of format V. -/
def isV (op : Nat) : Bool := (decide (8 ≤ op) && decide (op ≤ 0x1B)) || op == 0x32 || op == 0x3B

/-- The bits of M that an opcode of format V uses (R102, R103). -/
def mUsed (op : Nat) : Nat :=
  match op with
  | 0x13 | 0x14 | 0x15 | 0x17 => 0x1F
  | 0x16 => 0x3F
  | 0x19 | 0x3B => 0x03
  | 0x1A => 0x0F
  | _ => 0

/-- The operation of an opcode of format V reads VB (R103). -/
def readsVb (op : Nat) : Bool :=
  decide (op ≤ 0x0D) || op == 0x10 || op == 0x11 || op == 0x12 || op == 0x16 || op == 0x17

/-- The reserved fields of the word are 0 and its fields in range for the task's COEF_N and OUT_N, at byte offset `pc`
(R101, R102). -/
def legalWord (w pc coefN outN : Nat) : Bool :=
  let op := opOf w
  let pn0 := pnOf w == 0
  if op = 1 ∨ op = 2 then pn0 && bitsOf w 0 23 == 0
  else if op = 3 then
    let tgt : Int := (pc : Int) + 4 * offsetOf w
    bitsOf w 17 4 == 0 && decide (0 ≤ tgt) && decide (tgt < (tileBytes : Int))
  else if isV op then
    bitsOf w 0 5 == 0 && (mOf w &&& mUsed op) == mOf w && (readsVb op || vbOf w == 0) && (op != 0x3B || vaOf w == 0)
  else if (0x1C ≤ op ∧ op ≤ 0x1F) ∨ op = 0x27 then !w.testBit 19 && bitsOf w 0 11 == 0
  else if 0x20 ≤ op ∧ op ≤ 0x23 then
    pn0 && !w.testBit 19 && !w.testBit 15 && bitsOf w 4 8 == 0 &&
      (op != 0x23 || (bitsOf w 16 3 == 0 && bitsOf w 12 3 == 0)) && (op == 0x23 || bitsOf w 0 4 == 0) &&
      (op != 0x22 || bitsOf w 12 3 == 0)
  else if op = 0x24 ∨ op = 0x25 then bitsOf w 16 3 == 0
  else if op = 0x26 then true
  else if 0x28 ≤ op ∧ op ≤ 0x2B then
    bitsOf w 0 4 == 0 && (decide (op ≤ 0x29) || bitsOf w 21 2 == 0) && (op != 0x29 || vaOf w == 0) &&
      decide (kOf w + (if vecOf w then 3 else 0) < coefN)
  else if 0x2C ≤ op ∧ op ≤ 0x2F then
    bitsOf w 0 12 == 0 && (op == 0x2E || bitsOf w 12 5 == 0) && (op != 0x2C || vdOf w == 0)
  else if op = 0x30 ∨ op = 0x31 then !w.testBit 16 || (bitsOf w 17 2 == 0 && bitsOf w 0 16 % 4 == 0)
  else if op = 0x33 ∨ op = 0x34 then bitsOf w 0 12 == 0 && (!w.testBit 14 || bitsOf w 12 2 == 0)
  else if op = 0x38 then bitsOf w 0 6 == 0 && decide (bitsOf w 7 7 ≤ 111)
  else if op = 0x39 then bitsOf w 0 12 == 0 && (bitsOf w 16 2 == 0 || bitsOf w 12 4 == 0)
  else if op = 0x3A then bitsOf w 0 15 == 0 && decide (bitsOf w 15 4 < outN)
  else false

/-- The registers that the word reads (R121). -/
def sourcesOf (w : Nat) : List Nat :=
  let op := opOf w
  if op = 0x3B then []
  else if op = 0x1A then [vaOf w]
  else if isV op then if readsVb op then [vaOf w, vbOf w] else [vaOf w]
  else if (0x1C ≤ op ∧ op ≤ 0x1F) ∨ op = 0x27 then [vaOf w, vbOf w]
  else if op = 0x25 then [vdOf w]
  else if op = 0x26 ∨ op = 0x28 ∨ op = 0x2A ∨ op = 0x2B ∨ op = 0x33 then [vaOf w]
  else if op = 0x2D ∨ op = 0x2F ∨ op = 0x31 ∨ op = 0x3A then [vdOf w]
  else if op = 0x34 then [vdOf w, vaOf w]
  else []

/-- The task that can issue on engine `e`: it runs, has not ended, is not marked for abort, and no READY task of higher
PRIO waits to preempt it (R69, R77). -/
def Blk.issuer (b : Blk) (e : Nat) : Option Nat :=
  match b.cur e with
  | none => none
  | some t =>
    let x := b.task t
    if b.engineRuns e && !x.ended && decide (x.mark = .none) && !(b.readyTasks e).any fun u => decide (b.prio t < b.prio u)
    then some t else none

/-- The word at PC of task `t` (R100), read as it issues: a store into a group that is already fetched is seen by the instructions
of that group that follow it (log 65). -/
def Blk.fetch (b : Blk) (t : Nat) : Nat := b.tword t (b.task t).pc

/-- The instruction at PC of task `t` is legal (R102). -/
def Blk.legalAt (b : Blk) (t : Nat) : Bool :=
  let d := b.desc t
  decide ((b.task t).pc < tileBytes) && legalWord (b.fetch t) (b.task t).pc d.coefN d.outN

/-- The sources of the word at PC are ready (R121): no register it reads awaits a global load; FLG and END wait for every
earlier load and store (R118, R121). -/
def Blk.sourcesReady (b : Blk) (t : Nat) : Bool :=
  let x := b.task t
  let w := b.fetch t
  if opOf w = 0x3B ∨ opOf w = 2 then x.gld.isEmpty && x.gst.isEmpty
  else (sourcesOf w).all fun r => x.gld.all fun g => g.vd != r

/-- Engine `e` has spent `n` issue cycles (R93, R120). -/
def Blk.countIssue (b : Blk) (e n : Nat) : Blk :=
  let b := b.setFld F.ENG_ISSUE_ISSUED e (b.fld F.ENG_ISSUE_ISSUED e + n)
  { b with le := { b.le with issues := NMap.set b.le.issues (e / 16) (SMap.get b.le.issues (e / 16) 0 + n) 0 } }

/-- The task that issues an instruction of opcode `op` now on engine `e`, if its word at PC is one. -/
def Blk.issues (b : Blk) (e op : Nat) : Option Nat :=
  match b.issuer e with
  | none => none
  | some t => if b.legalAt t && opOf (b.fetch t) == op && b.sourcesReady t then some t else none

/-- PC of task `t` advances by 4 (R100). After an instruction at 0x3_FFFC it stands at 0x4_0000, one more than its 18 bits hold, and
the instruction there is illegal (R102; log 65). -/
def Blk.nextPc (b : Blk) (t : Nat) : Blk := b.setTask t { b.task t with pc := (b.task t).pc + 4 }

/-- Engine `e` issues its instruction of opcode `op` in `n` cycles: `f` is its effect on the block for the task and the
word (R100). -/
def Blk.issueB (b : Blk) (e op n : Nat) (f : Blk → Nat → Nat → Blk) : Blk :=
  match b.issues e op with
  | none => b
  | some t => ((f b t (b.fetch t)).nextPc t).countIssue e n

/-- As `issueB`, for an effect on the task's own context. -/
def Blk.issueX (b : Blk) (e op n : Nat) (f : TaskSt → Nat → TaskSt) : Blk :=
  b.issueB e op n fun b t w => b.setTask t (f (b.task t) w)

/-! ## Lane arithmetic (R99, R103, R104) -/

/-- Every enabled lane of VD takes the value that `f` gives for the lane, FLAGS.SAT where a limit was applied. -/
def TaskSt.laneOp (x : TaskSt) (w : Nat) (f : Nat → Int × Bool) : TaskSt :=
  x.forLanes (x.pred (pnOf w)) fun y j =>
    let r := f j
    (y.setLane (vdOf w) j (BitVec.ofInt 32 r.1)).setSat r.2

/-- A lane operation on VA and VB. -/
def TaskSt.vOp (f : Int → Int → Int × Bool) (x : TaskSt) (w : Nat) : TaskSt :=
  x.laneOp w fun j => f (x.laneInt (vaOf w) j) (x.laneInt (vbOf w) j)

/-- A lane operation that never saturates. -/
def exact (v : Int) : Int × Bool := (v, false)

/-- A compare: bit j of PD for every enabled lane. -/
def TaskSt.cmpOp (f : Word → Word → Bool) (x : TaskSt) (w : Nat) : TaskSt :=
  let m := x.pred (pnOf w)
  let old := x.pred (pdOf w)
  let bits := (List.range 4).foldl (fun acc j =>
    let bit := if m.getLsbD j then f (x.lane (vaOf w) j) (x.lane (vbOf w) j) else old.getLsbD j
    acc + bit.toNat * 2 ^ j) 0
  x.setPred (pdOf w) (BitVec.ofNat 4 bits)

/-- The coefficient word of lane `j` of the active bank (R106). -/
def Blk.coef (b : Blk) (t w j : Nat) : Word :=
  b.word (taskAddr t (b.activeBank t (b.desc t) + 4 * (kOf w + if vecOf w then j else 0)))

/-- Every enabled accumulator lane takes sat64 of the value that `f` gives. -/
def TaskSt.accOp (x : TaskSt) (w ac : Nat) (f : Nat → Int) : TaskSt :=
  x.forLanes (x.pred (pnOf w)) fun y j =>
    let r := sat64 (f j)
    (y.setAcc ac j r.1).setSat r.2

/-! ## The instructions -/

/-- ILL (R102): the instance reaches an illegal instruction; a deadline that the last tick reached came first. -/
def Blk.opIll (b : Blk) (e : Nat) : Blk :=
  match b.issuer e with
  | none => b
  | some t =>
    if b.legalAt t then b
    else
      let b := b.missNow t
      if (b.task t).mark = .none then ((b.countAbort t).toDisabled t).commitSafe t else b

/-- NOP (R103). -/
def Blk.opNop (b : Blk) (e : Nat) : Blk := b.issueX e 0x01 1 fun x _ => x

/-- END (R118): it retires, every earlier load and store having completed. -/
def Blk.opEnd (b : Blk) (e : Nat) : Blk := b.issueX e 0x02 1 fun x _ => { x with ended := true }

/-- COND of a branch applied to a predicate (R119). -/
def condHolds (cond : Nat) (p : BitVec 4) : Bool :=
  match cond with
  | 0 => p != 0
  | 1 => p == 15
  | 2 => p == 0
  | _ => p != 15

/-- BR (R119): the target is the branch's own offset plus 4 × OFFSET. -/
def Blk.opBr (b : Blk) (e : Nat) : Blk :=
  match b.issues e 0x03 with
  | none => b
  | some t =>
    let x := b.task t
    let w := b.fetch t
    if condHolds (bitsOf w 21 2) (x.pred (pnOf w)) then
      (b.setTask t { x with pc := ((x.pc : Int) + 4 * offsetOf w).toNat }).countIssue e 3
    else (b.nextPc t).countIssue e 1

/-- ADD: d := sat32(a + b) (R103). -/
def Blk.opAdd (b : Blk) (e : Nat) : Blk := b.issueX e 0x08 1 (TaskSt.vOp fun a c => sat32 (a + c))
/-- SUB: d := sat32(a − b) (R103). -/
def Blk.opSub (b : Blk) (e : Nat) : Blk := b.issueX e 0x09 1 (TaskSt.vOp fun a c => sat32 (a - c))
/-- ADDW: d := (a + b) mod 2^32 (R103). -/
def Blk.opAddw (b : Blk) (e : Nat) : Blk := b.issueX e 0x0A 1 (TaskSt.vOp fun a c => exact (a + c))
/-- SUBW: d := (a − b) mod 2^32 (R103). -/
def Blk.opSubw (b : Blk) (e : Nat) : Blk := b.issueX e 0x0B 1 (TaskSt.vOp fun a c => exact (a - c))
/-- MIN: the lesser of a and b, signed (R103). -/
def Blk.opMin (b : Blk) (e : Nat) : Blk := b.issueX e 0x0C 1 (TaskSt.vOp fun a c => exact (min a c))
/-- MAX: the greater of a and b, signed (R103). -/
def Blk.opMax (b : Blk) (e : Nat) : Blk := b.issueX e 0x0D 1 (TaskSt.vOp fun a c => exact (max a c))
/-- ABS: d := sat32(|a|) (R103). -/
def Blk.opAbs (b : Blk) (e : Nat) : Blk := b.issueX e 0x0E 1 (TaskSt.vOp fun a _ => sat32 a.natAbs)
/-- NEG: d := sat32(−a) (R103). -/
def Blk.opNeg (b : Blk) (e : Nat) : Blk := b.issueX e 0x0F 1 (TaskSt.vOp fun a _ => sat32 (-a))

/-- A bitwise lane operation. -/
def TaskSt.bitOp (f : Word → Word → Word) (x : TaskSt) (w : Nat) : TaskSt :=
  x.laneOp w fun j => exact (f (x.lane (vaOf w) j) (x.lane (vbOf w) j)).toInt

/-- AND (R103). -/
def Blk.opAnd (b : Blk) (e : Nat) : Blk := b.issueX e 0x10 1 (TaskSt.bitOp fun a c => a &&& c)
/-- OR (R103). -/
def Blk.opOr (b : Blk) (e : Nat) : Blk := b.issueX e 0x11 1 (TaskSt.bitOp fun a c => a ||| c)
/-- XOR (R103). -/
def Blk.opXor (b : Blk) (e : Nat) : Blk := b.issueX e 0x12 1 (TaskSt.bitOp fun a c => a ^^^ c)
/-- SHL: d := sat32(a × 2^M[4:0]) (R103). -/
def Blk.opShl (b : Blk) (e : Nat) : Blk :=
  b.issueX e 0x13 1 fun x w => x.vOp (fun a _ => sat32 (a * 2 ^ mOf w)) w
/-- SHR: d := floor(a / 2^M[4:0]) (R103). -/
def Blk.opShr (b : Blk) (e : Nat) : Blk :=
  b.issueX e 0x14 1 fun x w => x.vOp (fun a _ => exact (a / 2 ^ mOf w)) w
/-- SHRR: d := rs(a, M[4:0]) (R103, R105). -/
def Blk.opShrr (b : Blk) (e : Nat) : Blk :=
  b.issueX e 0x15 1 fun x w => x.vOp (fun a _ => exact (rshift a (mOf w))) w
/-- MUL: d := sat32(rs(a × b, M)) (R103, R105). -/
def Blk.opMul (b : Blk) (e : Nat) : Blk :=
  b.issueX e 0x16 1 fun x w => x.vOp (fun a c => sat32 (rshift (a * c) (mOf w))) w
/-- DIV (R110). -/
def Blk.opDiv (b : Blk) (e : Nat) : Blk :=
  b.issueX e 0x17 20 fun x w =>
    x.forLanes (x.pred (pnOf w)) fun y j =>
      let q := divLane (x.laneInt (vaOf w) j) (x.laneInt (vbOf w) j) (mOf w)
      ((y.setLane (vdOf w) j (BitVec.ofInt 32 q.1)).setSat q.2.1).setDiv0 q.2.2
/-- MOV: d := a (R103). -/
def Blk.opMov (b : Blk) (e : Nat) : Blk := b.issueX e 0x18 1 (TaskSt.vOp fun a _ => exact a)
/-- BCST: d := lane M[1:0] of VA (R103). -/
def Blk.opBcst (b : Blk) (e : Nat) : Blk :=
  b.issueX e 0x19 1 fun x w => x.laneOp w fun _ => exact (x.laneInt (vaOf w) (mOf w % 4))
/-- MOVL: lane M[3:2] of VD := lane M[1:0] of VA, when that Pn bit is 1 (R103). -/
def Blk.opMovl (b : Blk) (e : Nat) : Blk :=
  b.issueX e 0x1A 1 fun x w =>
    let j := mOf w / 4 % 4
    if (x.pred (pnOf w)).getLsbD j then x.setLane (vdOf w) j (x.lane (vaOf w) (mOf w % 4)) else x
/-- HSUM: lane 0 of VD := sat32 of the sum of the enabled lanes (R103). -/
def Blk.opHsum (b : Blk) (e : Nat) : Blk :=
  b.issueX e 0x1B 1 fun x w =>
    let m := x.pred (pnOf w)
    let s := sat32 ((List.range 4).foldl (fun acc j => if m.getLsbD j then acc + x.laneInt (vaOf w) j else acc) 0)
    (x.setLane (vdOf w) 0 (BitVec.ofInt 32 s.1)).setSat s.2
/-- CMPEQ (R103). -/
def Blk.opCmpeq (b : Blk) (e : Nat) : Blk := b.issueX e 0x1C 1 (TaskSt.cmpOp fun a c => a == c)
/-- CMPNE (R103). -/
def Blk.opCmpne (b : Blk) (e : Nat) : Blk := b.issueX e 0x1D 1 (TaskSt.cmpOp fun a c => a != c)
/-- CMPLT, signed (R103). -/
def Blk.opCmplt (b : Blk) (e : Nat) : Blk := b.issueX e 0x1E 1 (TaskSt.cmpOp fun a c => decide (a.toInt < c.toInt))
/-- CMPLE, signed (R103). -/
def Blk.opCmple (b : Blk) (e : Nat) : Blk := b.issueX e 0x1F 1 (TaskSt.cmpOp fun a c => decide (a.toInt ≤ c.toInt))
/-- CMPLTU, unsigned (R103). -/
def Blk.opCmpltu (b : Blk) (e : Nat) : Blk := b.issueX e 0x27 1 (TaskSt.cmpOp fun a c => decide (a.toNat < c.toNat))
/-- PAND: PD := PA AND PB (R103). -/
def Blk.opPand (b : Blk) (e : Nat) : Blk :=
  b.issueX e 0x20 1 fun x w => x.setPred (pdOf w) (x.pred (bitsOf w 16 3) &&& x.pred (bitsOf w 12 3))
/-- POR: PD := PA OR PB (R103). -/
def Blk.opPor (b : Blk) (e : Nat) : Blk :=
  b.issueX e 0x21 1 fun x w => x.setPred (pdOf w) (x.pred (bitsOf w 16 3) ||| x.pred (bitsOf w 12 3))
/-- PNOT: PD := NOT PA (R103). -/
def Blk.opPnot (b : Blk) (e : Nat) : Blk :=
  b.issueX e 0x22 1 fun x w => x.setPred (pdOf w) (~~~ x.pred (bitsOf w 16 3))
/-- PSET: PD := MASK (R103). -/
def Blk.opPset (b : Blk) (e : Nat) : Blk :=
  b.issueX e 0x23 1 fun x w => x.setPred (pdOf w) (BitVec.ofNat 4 w)
/-- LDI: d := IMM16, sign-extended (R103). -/
def Blk.opLdi (b : Blk) (e : Nat) : Blk :=
  b.issueX e 0x24 1 fun x w => x.laneOp w fun _ => exact (BitVec.ofNat 16 w).toInt
/-- LDIH: d[31:16] := IMM16 (R103). -/
def Blk.opLdih (b : Blk) (e : Nat) : Blk :=
  b.issueX e 0x25 1 fun x w => x.laneOp w fun j =>
    exact (BitVec.ofNat 16 w ++ (x.lane (vdOf w) j).extractLsb' 0 16).toInt
/-- ADDI: d := sat32(a + IMM15) (R103). -/
def Blk.opAddi (b : Blk) (e : Nat) : Blk :=
  b.issueX e 0x26 1 fun x w => x.laneOp w fun j => sat32 (x.laneInt (vaOf w) j + (BitVec.ofNat 15 w).toInt)
/-- CMUL: d := cp(a, coefficient) (R107). -/
def Blk.opCmul (b : Blk) (e : Nat) : Blk :=
  b.issueB e 0x28 1 fun b t w => b.setTask t ((b.task t).laneOp w fun j =>
    coefProd ((b.task t).laneInt (vaOf w) j) (b.coef t w j))
/-- CMAC: the aligned coefficient product is added to the accumulator (R108). -/
def Blk.opCmac (b : Blk) (e : Nat) : Blk :=
  b.issueB e 0x2A 1 fun b t w => b.setTask t ((b.task t).accOp w (acOf w) fun j =>
    (b.task t).acc (acOf w) j + coefAlign ((b.task t).laneInt (vaOf w) j) (b.coef t w j))
/-- CMSU: the aligned coefficient product is subtracted from the accumulator (R108). -/
def Blk.opCmsu (b : Blk) (e : Nat) : Blk :=
  b.issueB e 0x2B 1 fun b t w => b.setTask t ((b.task t).accOp w (acOf w) fun j =>
    (b.task t).acc (acOf w) j - coefAlign ((b.task t).laneInt (vaOf w) j) (b.coef t w j))
/-- AC of format A. -/
def acA (w : Nat) : Nat := bitsOf w 17 2
/-- CLRA (R103). -/
def Blk.opClra (b : Blk) (e : Nat) : Blk := b.issueX e 0x2C 1 fun x w => x.accOp w (acA w) fun _ => 0
/-- ADDA: AC := sat64(AC + v × 2^16) (R103). -/
def Blk.opAdda (b : Blk) (e : Nat) : Blk :=
  b.issueX e 0x2D 1 fun x w => x.accOp w (acA w) fun j => x.acc (acA w) j + x.laneInt (vdOf w) j * 65536
/-- ACCR: v := sat32(rs(AC, 16 + SH)) (R109). -/
def Blk.opAccr (b : Blk) (e : Nat) : Blk :=
  b.issueX e 0x2E 1 fun x w => x.laneOp w fun j => sat32 (rshift (x.acc (acA w) j) (16 + bitsOf w 12 5))
/-- ACCL: AC := v × 2^16 (R103). -/
def Blk.opAccl (b : Blk) (e : Nat) : Blk :=
  b.issueX e 0x2F 1 fun x w => x.accOp w (acA w) fun j => x.laneInt (vdOf w) j * 65536

/-! ## Memory (R113, R114) -/

/-- A read of `n` bytes of its own tile by task `t`: the bytes, or refused (R113). -/
def Blk.tileRead (b : Blk) (t off n : Nat) : Blk × Option Nat :=
  let a := taskAddr t off
  let mid := b.unitMaster (taskEng t)
  match b.gate mid .read a (8 * n) with
  | none => (b.settleMem a, some ((b.settleMem a).readMem a n))
  | some d => (b.refuse mid d (denyData .read a), none)

/-- A write of `n` bytes of its own tile by task `t`; true where it was refused (R113). -/
def Blk.tileWrite (b : Blk) (t off n v : Nat) : Blk × Bool :=
  let a := taskAddr t off
  let mid := b.unitMaster (taskEng t)
  match b.gate mid .write a (8 * n) with
  | none => ((b.settleMem a).writeMem a n v, false)
  | some d => (b.refuse mid d (denyData .write a), true)

/-- The lanes that take part in a load or store of formats M and G (R113, R114). -/
def memMask (p : BitVec 4) (wide : Bool) (lane : Nat) : BitVec 4 :=
  if wide then p else if p.getLsbD lane then BitVec.ofNat 4 (2 ^ lane) else 0

/-- What a load gives lane `j`: of a wide load its own word, of a refused one 0 (R113, R114). -/
def loadedLane (wide : Bool) (v : Option Nat) (j : Nat) : Word :=
  match v with
  | some n => BitVec.ofNat 32 (if wide then n / 2 ^ (32 * j) else n)
  | none => 0

/-- Write the loaded words into the enabled lanes; a refused load sets FLAGS.DENY (R113, R114). -/
def TaskSt.loaded (x : TaskSt) (vd : Nat) (m : BitVec 4) (wide : Bool) (v : Option Nat) : TaskSt :=
  (x.forLanes m fun y j => y.setLane vd j (loadedLane wide v j)).setDeny v.isNone

/-- LD (R113). -/
def Blk.opLd (b : Blk) (e : Nat) : Blk :=
  b.issueB e 0x30 1 fun b t w =>
    let x := b.task t
    let wide := w.testBit 16
    let m := memMask (x.pred (pnOf w)) wide (bitsOf w 17 2)
    if m = 0 then b
    else
      let (b, v) := b.tileRead t (4 * bitsOf w 0 16) (if wide then 16 else 4)
      b.setTask t ((b.task t).loaded (vdOf w) m wide v)

/-- CLD: d := raw coefficient word (R103). It is a local load (R120): VEC 0 reads one word for every enabled lane, VEC 1 one word
for each, and a refused read gives 0 and FLAGS.DENY (R113; log 62). -/
def Blk.opCld (b : Blk) (e : Nat) : Blk :=
  b.issueB e 0x29 1 fun b t w =>
    let m := (b.task t).pred (pnOf w)
    let off := b.activeBank t (b.desc t) + 4 * kOf w
    let one := fun (b : Blk) (off : Nat) (m : BitVec 4) =>
      let (b, v) := b.tileRead t off 4
      b.setTask t ((b.task t).loaded (vdOf w) m false v)
    if m = 0 then b
    else if vecOf w then
      (List.range 4).foldl (fun b j => if m.getLsbD j then one b (off + 4 * j) (BitVec.ofNat 4 (2 ^ j)) else b) b
    else one b off m

/-- The four lanes of Vn as one number, lane 0 lowest (R98). -/
def TaskSt.quad (x : TaskSt) (n : Nat) : Nat :=
  (x.lane n 0).toNat + (x.lane n 1).toNat * 2 ^ 32 + (x.lane n 2).toNat * 2 ^ 64 + (x.lane n 3).toNat * 2 ^ 96

/-- ST (R113). -/
def Blk.opSt (b : Blk) (e : Nat) : Blk :=
  b.issueB e 0x31 1 fun b t w =>
    let x := b.task t
    let wide := w.testBit 16
    let lane := bitsOf w 17 2
    let m := memMask (x.pred (pnOf w)) wide lane
    let off := 4 * bitsOf w 0 16
    let (b, deny) :=
      if m = 15 then b.tileWrite t off 16 (x.quad (vdOf w))
      else (List.range 4).foldl (fun acc j =>
        if m.getLsbD j then
          let (b, d) := acc.1.tileWrite t (if wide then off + 4 * j else off) 4 (x.lane (vdOf w) j).toNat
          (b, acc.2 || d)
        else acc) (b, false)
    b.setTask t ((b.task t).setDeny deny)

/-- LDX (R113). -/
def Blk.opLdx (b : Blk) (e : Nat) : Blk :=
  b.issueB e 0x32 1 fun b t w =>
    let x := b.task t
    let m := x.pred (pnOf w)
    (List.range 4).foldl (fun b j =>
      if m.getLsbD j then
        let (b, v) := b.tileRead t (4 * ((x.lane (vaOf w) j).toNat % 65536)) 4
        b.setTask t ((b.task t).loaded (vdOf w) (BitVec.ofNat 4 (2 ^ j)) false v)
      else b) b

/-- The 49-bit global address in lanes 0 and 1 of VA (R114). -/
def TaskSt.gaddr (x : TaskSt) (n : Nat) : Nat := (x.lane n 0).toNat + (x.lane n 1).toNat % 2 ^ 17 * 2 ^ 32

/-- GLD (R114). -/
def Blk.opGld (b : Blk) (e : Nat) : Blk :=
  b.issueB e 0x33 1 fun b t w =>
    let x := b.task t
    let wide := w.testBit 14
    let lane := bitsOf w 12 2
    let m := memMask (x.pred (pnOf w)) wide lane
    if m = 0 then b
    else
      let b := b.setTask t { x with
        gld := x.gld ++ [⟨x.next, vdOf w, m, wide, lane, []⟩], next := x.next + 1 }
      b.submitGlobal (.gld t x.next) (taskEng t) .read (x.gaddr (vaOf w)) (if wide then 128 else 32) 0

/-- GST (R114): one write for a single word or four lanes, else one per enabled lane; a misaligned wide store is refused
whole. -/
def Blk.opGst (b : Blk) (e : Nat) : Blk :=
  b.issueB e 0x34 1 fun b t w =>
    let x := b.task t
    let wide := w.testBit 14
    let lane := bitsOf w 12 2
    let m := memMask (x.pred (pnOf w)) wide lane
    let ga := x.gaddr (vaOf w)
    let one := fun (b : Blk) (a width : Nat) (v : BitVec 128) =>
      let y := b.task t
      (b.setTask t { y with gst := y.gst ++ [y.next], next := y.next + 1 }).submitGlobal
        (.gst t y.next) (taskEng t) .write a width v
    if m = 0 then b
    else if wide && (m == 15 || ga % 16 != 0) then one b ga 128 (BitVec.ofNat 128 (x.quad (vdOf w)))
    else (List.range 4).foldl (fun b j =>
      if m.getLsbD j then one b (if wide then ga + 4 * j else ga) 32 ((x.lane (vdOf w) j).setWidth 128) else b) b

/-- The first result for a requester, and the block without it. -/
def Blk.takeResult (b : Blk) (who : Requester) : Option (Completion × Blk) :=
  match b.bus.results.find? (fun c => c.who == who) with
  | none => none
  | some c => some (c, { b with bus := { b.bus with results := b.bus.results.erase c } })

/-- The result `v` of global load `g` is written, or in its place what a later instruction wrote there meanwhile (R121): now, or
where the lane awaits a load that was issued before `g`, on the edge of that one. -/
def TaskSt.response (x : TaskSt) (g : GldRec) (v : Option Nat) : TaskSt :=
  let y := { x with gld := x.gld.filter fun h => decide (h.num < g.num) }
  let y := (y.forLanes g.lanes fun y j =>
    y.setLane g.vd j ((SMap.get g.late j none).getD (loadedLane g.wide v j))).setDeny v.isNone
  { y with gld := y.gld ++ x.gld.filter fun h => decide (g.num < h.num) }

/-- GLD_RESPONSE (R114, R121, R122): the result of global load `n` of task `t` is written, or discarded where the instance
that issued it was aborted. -/
def Blk.gldResponse (b : Blk) (t n : Nat) : Blk :=
  match b.takeResult (.gld t n) with
  | none => b
  | some (c, b) =>
    let x := b.task t
    match x.gld.find? (fun g => g.num == n) with
    | none => b
    | some g =>
      let v := if c.status = AccStatus.ok then some c.data.toNat else none
      b.setTask t (x.response g v)

/-- GST_COMPLETE (R114, R118): global store `n` of task `t` has completed or was refused. -/
def Blk.gstComplete (b : Blk) (t n : Nat) : Blk :=
  match b.takeResult (.gst t n) with
  | none => b
  | some (c, b) =>
    let x := b.task t
    if x.gst.contains n then
      b.setTask t ({ x with gst := x.gst.erase n }.setDeny (decide (c.status ≠ AccStatus.ok)))
    else b

/-! ## Inputs and outputs (R115 to R117) -/

/-- The latest sample word of channel `ch` (R51, R115). -/
def Blk.sample (b : Blk) (ch : Nat) : Word :=
  if ch < 64 then b.reg .AIN_WORD ch else if ch < 80 then b.reg .IMP_WORD (ch - 64) else b.reg .ENC_WORD (ch - 80)

/-- SMP (R115). -/
def Blk.opSmp (b : Blk) (e : Nat) : Blk :=
  b.issueB e 0x38 1 fun b t w =>
    let x := b.task t
    let lane := bitsOf w 17 2
    let pd := bitsOf w 14 3
    if (x.pred (pnOf w)).getLsbD lane then
      let s := b.sample (bitsOf w 7 7)
      let v : Word := if w.testBit 6 then s else BitVec.ofInt 32 (sampleValue s)
      let p := x.pred pd
      let bit := BitVec.ofNat 4 (2 ^ lane)
      let x := x.setLane (vdOf w) lane v
      let x := x.setPred pd (if sampleValid s then p ||| bit else p &&& ~~~ bit)
      b.setTask t (x.setInvalid (!sampleValid s))
    else b

/-- The 64-bit value of TBR (R116). -/
def Blk.tbrValue (b : Blk) (t src n : Nat) : Nat :=
  let x := b.task t
  match src with
  | 0 => b.tb n
  | 1 => x.trigTb1
  | 2 => x.dl.getD 0
  | _ => x.bs.getD 0

/-- TBR (R116): lanes 2 × PAIR and 2 × PAIR + 1, when Pn bit 2 × PAIR is 1. -/
def Blk.opTbr (b : Blk) (e : Nat) : Blk :=
  b.issueB e 0x39 1 fun b t w =>
    let x := b.task t
    let j := 2 * bitsOf w 18 1
    if (x.pred (pnOf w)).getLsbD j then
      let v := b.tbrValue t (bitsOf w 16 2) (bitsOf w 12 4)
      b.setTask t ((x.setLane (vdOf w) j (BitVec.ofNat 32 v)).setLane (vdOf w) (j + 1) (BitVec.ofNat 32 (v / 2 ^ 32)))
    else b

/-- OUT (R117): the value for an output entry is staged. -/
def Blk.opOut (b : Blk) (e : Nat) : Blk :=
  b.issueB e 0x3A 1 fun b t w =>
    let x := b.task t
    let n := bitsOf w 15 4
    let y := b.outEntry t (b.desc t) n
    let p := x.pred (pnOf w)
    let stage := fun (v : BitVec 128) => b.setTask t { x with staged := NMap.set x.staged n (some v) none }
    if y.kind = 0 then b
    else if y.lane = 4 then (if p.getLsbD 0 then stage (BitVec.ofNat 128 (x.quad (vdOf w))) else b)
    else if p.getLsbD y.lane then stage ((x.lane (vdOf w) y.lane).setWidth 128)
    else b

/-- FLG (R103): lane M[1:0] of VD := FLAGS, when that Pn bit is 1. -/
def Blk.opFlg (b : Blk) (e : Nat) : Blk :=
  b.issueX e 0x3B 1 fun x w =>
    let j := mOf w % 4
    if (x.pred (pnOf w)).getLsbD j then x.setLane (vdOf w) j (BitVec.ofNat 32 x.flags) else x

end Sys2Proof.Machine
end

