-- ==== Sys2Proof/Machine/Yld.lean ====
section
/-!
DEFINITION. The yield map and the harvest ledger (spec chapter 12).
Readings and choices: logs 20, 27, 38, 53, 57 of notes/assumptions.
-/

namespace Sys2Proof.Machine

/-- JOB_STATE: 0 NONE, 1 OPEN, 2 CLOSING. -/
def Blk.jobState (b : Blk) : Nat := b.fld F.YLD_STATUS_JOB_STATE 0

/-- The map and the ledger run: on the HPC host, with EN, the compute side up and not asleep, and the domain of the reserved tiles ON
(R282, R370, R374; log 38). -/
def Blk.yldRuns (b : Blk) : Bool :=
  b.configDone && b.computeRuns && b.supply != 2 && b.pdState 31 == 4 && b.flag F.HPC_CTRL_HOST 0 && b.flag F.YLD_CTRL_EN 0

/-- DELAY_MS in ns; above 30 000 ms it is taken as 30 000 ms (R285). -/
def Blk.delayNs (b : Blk) : Nat := min 30000 (b.fld F.YLD_DELAY_DELAY_MS 0) * 1000000

/-- MOIST_DELAY_MS in ns (R285). -/
def Blk.moistDelayNs (b : Blk) : Nat := min 30000 (b.fld F.YLD_DELAY_MOIST_DELAY_MS 0) * 1000000

/-! ## Ledger records (R291, R297) -/

/-- FLAGS of a ledger record (R291). -/
def ledgerFlags (restart noClock disc : Bool) : Nat := restart.toNat + 2 * noClock.toNat + 4 * disc.toNat

/-- The first 60 bytes of a ledger record (R291): totals in the register units. -/
def ledgerBody (type kind flags seq : Nat) (job : Word) (o1 c1 o2 c2 area : Nat) (dry : Int) (harv : Nat) : List Byte :=
  leBytes 4 (type + kind * 2 ^ 8 + flags * 2 ^ 16) ++ leBytes 4 seq ++ leBytes 4 job.toNat ++ leBytes 4 0 ++
    leBytes 8 o1 ++ leBytes 8 c1 ++ leBytes 8 o2 ++ leBytes 8 c2 ++ leBytes 4 area ++
    leBytes 4 (BitVec.ofInt 32 dry).toNat ++ leBytes 4 harv

/-- SEQ of a ledger record. -/
def ledgerSeq (e : JEntry) : Nat := ofLeBytes ((e.drop 4).take 4)

/-- The ledger region has no place for a further page (R297): it is full, and its oldest page holds a record that the upload has not
acknowledged. -/
def Blk.ledgerFull (b : Blk) : Bool :=
  let j := b.jrn.ledger
  match j.pages with
  | [] => false
  | p :: _ =>
    decide (j.cap ≤ j.pages.length) && p.counts && p.entries.any fun e => decide ((b.reg .YLD_ACK 0).toNat < ledgerSeq e)

/-- FULL shows whether the ledger region is full of records not acknowledged (R297). -/
def Blk.showFull (b : Blk) : Blk := b.setFlag F.YLD_STATUS_FULL 0 b.ledgerFull

/-- A record enters the journal, or is held in AON while the region is full, or is lost (R297). -/
def Blk.ledgerPut (b : Blk) (e : JEntry) : Blk :=
  Blk.showFull (if !b.ledgerFull then { b with jrn := { b.jrn with ledger := b.jrn.ledger.append b.runSeq b.tb1 e } }
    else if b.yld.held.length < 64 then { b with yld := { b.yld with held := b.yld.held ++ [e] } }
    else b.addSat F.YLD_CNT_LOST 0 1)

/-- Records held in AON enter the journal as far as it has room again (R297). -/
def Blk.ledgerDrain (b : Blk) : Nat → Blk
  | 0 => b
  | n + 1 =>
    let b := b.showFull
    match b.yld.held, b.ledgerFull with
    | e :: l, false =>
      ({ b with yld := { b.yld with held := l } }.ledgerPut e).ledgerDrain n
    | _, _ => b

/-- YLD_ACK takes a value; held records move on (R297). -/
def Blk.setAck (b : Blk) (v : Word) : Blk := (b.setReg .YLD_ACK 0 v).ledgerDrain 64

/-- YLD_SEQ before the records that were appended on this tick (R353). -/
def Blk.seqBefore (b : Blk) : Nat :=
  match b.yld.tickSeq with
  | some (t, n) => if t = b.tb1 then n else (b.reg .YLD_SEQ 0).toNat
  | none => (b.reg .YLD_SEQ 0).toNat

/-- A ledger record with the next SEQ is written. -/
def Blk.ledgerRec (b : Blk) (type kind flags : Nat) (o1 c1 o2 c2 area : Nat) (dry : Int) (harv : Nat) : Blk :=
  let body := ledgerBody type kind flags (b.reg .YLD_SEQ 0).toNat b.yld.job o1 c1 o2 c2 area dry harv
  let b := { b with yld := { b.yld with tickSeq := some (b.tb1, b.seqBefore) } }
  (b.ledgerPut (body ++ leBytes 4 (crc32 body).toNat)).incFld F.YLD_SEQ_SEQ 0

/-! ## Totals in register units -/

/-- Area in 0.1 m² (R291). -/
def Period.area10 (p : Period) : Nat := p.area.toNat / 100000000

/-- Time in 0.1 s (R291). -/
def Period.harv10 (p : Period) : Nat := p.harv.toNat / 100000000

/-- Dry mass in 0.1 kg (R284, R291). -/
def Blk.dry10 (b : Blk) (p : Period) : Int :=
  let m := b.fld F.YLD_MOIST_M_STD 0
  if m < 10000 then p.dry.fdiv ((10000 - m) * 10000 : Nat) else Config.dryMass p.dry m

/-! ## Map cells (R286) -/

/-- A cell ends at TB1 `t` and at a travel. -/
def endCell (t travel : Nat) (c : MapCell) : MapCell :=
  if c.cutting then { c with t1 := t, len := travel - c.start, cutting := false } else c

/-- CELL_CM in µm of travel, 50 to 2000 cm (R286). -/
def Blk.cellSize (b : Blk) : Nat := max 50 (min 2000 (b.fld F.YLD_CELL_CELL_CM 0)) * 10000

/-- The cells and the next cell number after the ground between two points of TB1 and travel, the travel between them even: a
cell ends after `size` of travel and the next one begins there (R286). -/
def cutSeg (size : Nat) (q : Nat × Nat) : Nat → Nat × Nat → List MapCell × Nat → List MapCell × Nat
  | 0, _, u => u
  | n + 1, p, u =>
    if q.1 ≤ p.1 then u
    else
      let u := if u.1.any (·.cutting) then u
        else (u.1 ++ [⟨u.2, p.1, p.1, p.2, 0, true, 0, 0, 0, false, false⟩], (u.2 + 1) % 2 ^ 24)
      match u.1.find? (·.cutting) with
      | none => u
      | some c =>
        let e := c.start + size
        if q.2 < e then u
        else
          let t := p.1 + (q.1 - p.1) * (e - p.2) / (q.2 - p.2)
          cutSeg size q n (t, e) (u.1.map (endCell t e), u.2)

/-- The points of TB1 and travel between two instants that the module keeps, the later instant last (R285). -/
def Blk.path (b : Blk) (x y : Pot) : List (Nat × Nat) :=
  ((b.yld.hist.filter fun h => decide (x.at_ < h.at_) && decide (h.at_ < y.at_)).map fun h => (h.at_, h.travel)) ++
    [(y.at_, y.travel)]

/-- The ground between two instants (R286): cut into cells where the mass inputs are open, else the cell being cut ends. -/
def Blk.cutGround (b : Blk) (on : Bool) (x y : Pot) : Blk :=
  let u := b.yld
  if !on then { b with yld := { u with cells := u.cells.map (endCell x.at_ x.travel) } }
  else
    let r := (b.path x y).foldl
      (fun (acc : (Nat × Nat) × (List MapCell × Nat)) q =>
        (q, cutSeg b.cellSize q ((q.2 - acc.1.2) / b.cellSize + 2) acc.1 acc.2))
      ((x.at_, x.travel), (u.cells, u.nextCell))
    { b with yld := { u with cells := r.2.1, nextCell := r.2.2 } }

/-- The cutting instant `t`, which is settled, lies in the cell. -/
def MapCell.holds (c : MapCell) (t : Nat) : Bool := decide (c.t0 ≤ t) && (c.cutting || decide (t < c.t1))

/-- The cell with what a reading gives to it (R283, R286). -/
def MapCell.giveMass (c : MapCell) (x : MassAt) : MapCell :=
  if c.holds x.at_ then { c with wet := c.wet + x.wet, mfInv := c.mfInv || x.inv } else c
def MapCell.giveMoist (c : MapCell) (x : MoistAt) : MapCell :=
  if c.holds x.at_ then
    match x.val with
    | some v => { c with moistSum := c.moistSum + v, moistN := c.moistN + 1 }
    | none => { c with moistInv := true }
  else c

/-- The readings whose ground is settled go to its cells (R285, R286). -/
def Blk.giveOut (b : Blk) : Blk :=
  let u := b.yld
  let s := u.settled.at_
  let cells := u.cells.map fun c =>
    (u.moistQ.filter fun x => decide (x.at_ < s)).foldl MapCell.giveMoist
      ((u.massQ.filter fun x => decide (x.at_ < s)).foldl MapCell.giveMass c)
  { b with yld := { u with
    cells := cells, massQ := u.massQ.filter fun x => decide (s ≤ x.at_), moistQ := u.moistQ.filter fun x => decide (s ≤ x.at_) } }

/-! ## Accrual (R292, R296) -/

/-- What lies between two instants, with the inputs of the masks open or not, added to a period. -/
def Period.add (p : Period) (area mass : Bool) (x y : Pot) : Period :=
  { p with area := if area then p.area + ((y.area : Int) - x.area) else p.area,
           dry := if mass then p.dry + (y.dry - x.dry) else p.dry,
           harv := if mass then p.harv + ((y.time : Int) - x.time) else p.harv }

/-- Accrual and cells up to instant `y` at the settled levels. -/
def Blk.accrueTo (b : Blk) (y : Pot) : Blk :=
  let am := b.fld F.YLD_ACC_AREA_MASK 0
  let mm := b.fld F.YLD_ACC_MASS_MASK 0
  let mass := b.yld.levels &&& mm == mm
  let b := b.cutGround mass b.yld.settled y
  let u := b.yld
  let f := fun (p : Period) => p.add (u.levels &&& am == am) mass u.settled y
  { b with yld := { u with hour := f u.hour, day := f u.day, total := f u.total, settled := y } }

/-- A bit of a number set or cleared. -/
def putBit (v i : Nat) (x : Bool) : Nat :=
  if v.testBit i then (if x then v else v - 2 ^ i) else (if x then v + 2 ^ i else v)

/-- Accrual up to the first change that is not accepted yet, or to now (R296). -/
def Blk.settle (b : Blk) : Nat → Blk
  | 0 => b
  | n + 1 =>
    match b.yld.changes with
    | [] => b.accrueTo b.yld.pot
    | c :: l =>
      if c.ok then
        let b := b.accrueTo c.pot
        ({ b with yld := { b.yld with levels := putBit b.yld.levels c.input c.level, changes := l } }).settle n
      else b.accrueTo c.pot

/-- The block as it would be settled to now at the accepted levels: no change that waits is ever accepted. -/
def Blk.asAccepted (b : Blk) : Blk :=
  ({ b with yld := { b.yld with changes := b.yld.changes.filter (·.ok) } }).settle (b.yld.changes.length + 1)

/-- The totals of the open job as the registers show them, at the accepted levels. -/
def Blk.showTotals (b : Blk) : Blk :=
  let p := b.asAccepted.yld.total
  ((b.setReg .YLD_AREA 0 (BitVec.ofNat 32 p.area10)).setReg .YLD_DRY 0 (BitVec.ofInt 32 (b.dry10 p))).setReg .YLD_HARV 0
    (BitVec.ofNat 32 p.harv10)

/-- Accrual and cells, brought up to date where a job is open. -/
def Blk.settleAll (b : Blk) : Blk :=
  if b.jobState = 0 then b else (b.settle (b.yld.changes.length + 1)).giveOut.showTotals

/-- One accrual input after the windows of a tick (R296): a change starts to be timed; one that breaks off is withdrawn, and a close
and reopen on this tick is a break. -/
def Blk.accrInput (b : Blk) (i : Nat) : Blk :=
  let raw := b.gateOpen 2 i
  let acc := (b.fld F.YLD_ACC_STATE_ACCEPTED 0).testBit i
  let masked := (b.fld F.YLD_ACC_AREA_MASK 0 ||| b.fld F.YLD_ACC_MASS_MASK 0).testBit i
  if raw == (b.fld F.YLD_ACC_STATE_RAW 0).testBit i && !b.tbu.reopen.contains (2, i) then b
  else
    let b := b.setFld F.YLD_ACC_STATE_RAW 0 (putBit (b.fld F.YLD_ACC_STATE_RAW 0) i raw)
    let kept := b.yld.changes.filter fun c => c.ok || c.input != i
    if raw == acc then
      { b with yld := { b.yld with since := NMap.set b.yld.since i none none, changes := kept } }
    else
      { b with yld := { b.yld with
        since := NMap.set b.yld.since i (some b.tb1) none
        changes := if masked then kept ++ [⟨i, raw, b.yld.pot, false⟩] else kept } }

/-- What can accrue on a tick on which TB3 moved by `moved` µm (R286, R290, R296). -/
def Blk.potTick (b : Blk) (moved : Int) : Blk :=
  let p := b.yld.pot
  let fwd := moved.toNat
  { b with yld := { b.yld with
    pot := ⟨b.tb1, p.travel + fwd, if b.jobState = 1 then p.area + fwd * b.swathMm else p.area, p.dry, p.time + 10⟩ } }

/-- ACCRUAL_ACCEPT (R296): a level that has held for 100 ms is accepted, dated back to its change. -/
def Blk.accrAccept (b : Blk) (i : Nat) : Blk :=
  match SMap.get b.yld.since i none with
  | none => b
  | some t =>
    b.when (b.yldRuns && decide (t + 100000000 ≤ b.tb1)) fun b =>
      let level := (b.fld F.YLD_ACC_STATE_RAW 0).testBit i
      let b := b.setFld F.YLD_ACC_STATE_ACCEPTED 0 (putBit (b.fld F.YLD_ACC_STATE_ACCEPTED 0) i level)
      let changes := b.yld.changes.map fun (c : AccChange) => if c.input = i then { c with ok := true } else c
      { b with yld := { b.yld with since := NMap.set b.yld.since i none none, changes := changes } }.settleAll

/-! ## Cell records and tiles (R285 to R288) -/

/-- The record of the last 32 s in force at TB1 `t`, or the oldest. -/
def histAt (t : Nat) (l : List Hist) : Option Hist :=
  l.foldl (fun acc h => if h.at_ ≤ t ∨ acc.isNone then some h else acc) none

/-- The first record of the last 32 s after TB1 `t`. -/
def histAfter (t : Nat) (l : List Hist) : Option Hist := l.find? fun h => decide (t < h.at_)

/-- Word `k` of a navigation record. -/
def navWord (nav : List Word) (k : Nat) : Nat := (nav.getD k 0).toNat

/-- A signed 64-bit entry of a navigation record. -/
def navLong (nav : List Word) (k : Nat) : Int :=
  (BitVec.ofNat 64 (navWord nav k + navWord nav (k + 1) * 2 ^ 32)).toInt

/-- Division with halves rounded up. -/
def divNear (a : Int) (n : Nat) : Int := (2 * a + n).fdiv (2 * n : Nat)

/-- A value interpolated between two instants. -/
def interp (t0 t1 t : Nat) (x y : Int) : Int := if t1 ≤ t0 then x else x + divNear ((y - x) * (t - t0 : Nat)) (t1 - t0)

/-- The record of a cell that closes (R287): position and width at its middle cutting instant. -/
def Blk.cellRecord (b : Blk) (c : MapCell) : List Byte :=
  let mid := (c.t0 + c.t1) / 2
  let h := (histAt mid b.yld.hist).getD ⟨mid, 0, false, 0, 0, none, []⟩
  let h2 := (histAfter mid b.yld.hist).getD h
  let pos := fun k => divNear (interp h.at_ h2.at_ mid (navLong h.nav k) (navLong h2.nav k)) 100
  let swV := h.swath.isSome
  let width := h.swath.getD (b.fld F.FUS_HEADER_HEADER_W_MM 0)
  let posInv := !(navWord h.nav 0).testBit 31
  let status := bitsOf (navWord h.nav 0) 28 3
  let noMoist := c.moistInv || c.moistN == 0
  let moist : Int := if noMoist then b.fld F.YLD_MOIST_M_STD 0 else divNear c.moistSum c.moistN
  let v := swV && !c.mfInv && !noMoist && !posInv && decide (1 ≤ status) && decide (status ≤ 4)
  leBytes 4 (v.toNat * 2 ^ 31 + (!swV).toNat * 2 ^ 30 + c.mfInv.toNat * 2 ^ 29 + noMoist.toNat * 2 ^ 28 +
      posInv.toNat * 2 ^ 27 + status * 2 ^ 24 + c.seq % 2 ^ 24) ++
    leBytes 4 (width * 2 ^ 16 + c.len / 1000 % 65536) ++ leBytes 4 (BitVec.ofInt 32 (pos 4)).toNat ++
    leBytes 4 (BitVec.ofInt 32 (pos 6)).toNat ++ leBytes 8 (if h.tb0V then h.tb0 + (mid - h.at_) else 0) ++
    leBytes 4 (BitVec.ofInt 32 (c.wet.fdiv 100)).toNat ++
    leBytes 4 (bitsOf (navWord h.nav 12) 0 16 * 2 ^ 16 + (BitVec.ofInt 16 moist).toNat)

/-- TILE_CLOSE (R288): the open tile is written to the journal. -/
def Blk.tileClose (b : Blk) : Blk :=
  match b.yld.tile with
  | [] => b
  | first :: _ =>
    let n := b.yld.tile.length
    let head := leBytes 4 (1 + b.yld.tileSlot * 2 ^ 16 + b.fld F.HPC_CTRL_CROP 0 * 2 ^ 24) ++ leBytes 4 b.yld.job.toNat ++
      leBytes 4 (bitsOf (ofLeBytes (first.take 4)) 0 24) ++ leBytes 4 (n + b.fld F.YLD_MOIST_M_STD 0 * 2 ^ 16) ++
      leBytes 8 b.tb1 ++ List.replicate 36 0
    let cells := b.yld.tile.flatten
    let crc := crc32 (head ++ leBytes 4 0 ++ cells)
    let e : JEntry := head ++ leBytes 4 crc.toNat ++ cells
    { b with yld := { b.yld with tile := [] }, jrn := { b.jrn with tiles := b.jrn.tiles.append b.runSeq b.tb1 e } }

/-- A cell joins the open tile; a full tile closes (R286, R288). -/
def Blk.joinTile (b : Blk) (c : MapCell) : Blk :=
  let u := b.yld
  let slot := if u.tile.isEmpty then b.fld F.HPC_FIELD_SLOT 0 else u.tileSlot
  let b := { b with yld := { u with tile := u.tile ++ [b.cellRecord c], tileSlot := slot,
                                    cells := u.cells.filter fun x => x.seq != c.seq } }
  if b.yld.tile.length ≥ 1022 then b.tileClose else b

/-- The cell that closes next (R286): it is cut, and DELAY_MS + 100 ms have passed since its last cutting instant. -/
def Blk.cellDue (b : Blk) : Option MapCell :=
  match b.yld.cells with
  | [] => none
  | c :: _ => if !c.cutting ∧ c.t1 + b.delayNs + 100000000 ≤ b.tb1 then some c else none

/-- CELL_CLOSE (R286). -/
def Blk.cellClose (b : Blk) : Blk :=
  match b.cellDue with
  | none => b
  | some c => b.when b.yldRuns fun b => b.joinTile c

/-- A value read at TB1 `now`, with the last valid one for at most `hold` ns (R283): the value in use, whether it was
substituted, and what is remembered. -/
def heldValue (w : Word) (now hold : Nat) (last : Option (Int × Nat)) : Option Int × Bool × Option (Int × Nat) :=
  if sampleValid w then (some (sampleValue w), false, some (sampleValue w, now))
  else match last with
    | some (v, t) => if now ≤ t + hold then (some v, true, last) else (none, true, last)
    | none => (none, true, none)

/-- MASS_FLOW_READ (R283 to R286, R292): every 10 ms of TB1. -/
def Blk.massFlowRead (b : Blk) : Blk :=
  let due := match b.yld.readAt with
    | none => true
    | some t => decide (t + 10000000 ≤ b.tb1)
  b.when (b.yldRuns && due) fun b =>
    let now := b.tb1
    let mstd : Int := b.fld F.YLD_MOIST_M_STD 0
    let mf := heldValue (b.sample (b.fld F.YLD_SRC_MF_CH 0)) now 1000000000 b.yld.mass
    let wet := mf.1.getD 0
    let mo := if b.flag F.YLD_SRC_MO_EN 0 then heldValue (b.sample (b.fld F.YLD_SRC_MO_CH 0)) now 60000000000 b.yld.moist
      else (none, true, b.yld.moist)
    let m := mo.1.getD mstd
    let swath := if b.flag F.FUS_SWATH_V 0 && !b.gridOld then some (b.fld F.FUS_SWATH_WIDTH_MM 0) else none
    let u := b.yld
    let h : Hist := ⟨now, b.tb 0, b.tbValid 0, b.tb 3, u.pot.travel, swath, b.navRec⟩
    let job := b.jobState != 0
    let b := { b with yld := { u with
      readAt := some now, mass := mf.2.2, moist := mo.2.2
      hist := (u.hist.filter fun (x : Hist) => decide (now < x.at_ + 32000000000)) ++ [h]
      massQ := if job && decide (b.delayNs ≤ now) then u.massQ ++ [MassAt.mk (now - b.delayNs) wet mf.2.1] else u.massQ
      moistQ := if job && decide (b.moistDelayNs ≤ now) then u.moistQ ++ [MoistAt.mk (now - b.moistDelayNs) mo.1] else u.moistQ
      pot := { u.pot with dry := if job then u.pot.dry + wet * (10000 - m) else u.pot.dry } } }
    b.settleAll

/-- FIELD_LOAD (R142, R288): a change of HPC_FIELD.SLOT also closes the open tile. -/
def Blk.fieldLoadRow (b : Blk) (slot : Nat) : Blk :=
  (if b.fld F.HPC_FIELD_SLOT 0 ≠ slot then b.tileClose else b).fieldLoad slot

/-! ## Periods and jobs (R290, R293 to R295) -/

/-- Nanoseconds of a day. -/
def dayNs : Int := 86400000000000

/-- TB1 of the boundary of the open day period (R293), as DAYEND shows it; 0 where it lies before the full start. -/
def Blk.dayBoundary (b : Blk) : Blk :=
  let p := b.yld.day
  let ofs : Int := b.sfld F.YLD_DAY_UTC_OFS_MIN 0 * 60000000000
  let at_ : Int :=
    if p.noClock then (p.open1 : Int) + dayNs
    else
      let local_ : Int := (p.open2 : Int) + ofs
      let midnight := (local_.fdiv dayNs + 1) * dayNs - ofs
      (b.tb1 : Int) + (midnight - (b.tb 2 : Int))
  b.setReg64 .YLD_DAYEND_LO .YLD_DAYEND_HI 0 (at_.toNat % 2 ^ 64)

/-- A period as its PERIOD_CLOSE record (R291). -/
def Blk.closeRecord (b : Blk) (kind : Nat) (p : Period) (restart : Bool) (c1 c2 : Nat) : Blk :=
  b.ledgerRec 1 kind (ledgerFlags restart p.noClock p.disc) p.open1 c1 p.open2 c2 p.area10 (b.dry10 p) p.harv10

/-- A period that opens now, owing what its predecessor closed with beyond what is settled of it: a change that is accepted later
corrects the period then in force (R296). -/
def Period.owing (settled closed : Period) (open1 open2 : Nat) (noClock : Bool) : Period :=
  ⟨open1, open2, settled.area - closed.area, settled.dry - closed.dry, settled.harv - closed.harv, noClock, false⟩

/-- An hour period opens now. -/
def Blk.openHour (b : Blk) : Blk := { b with yld := { b.yld with hour := .fresh b.tb1 (b.tb 2) false } }

/-- A day period opens now; without a valid TB2 it has no clock (R293). -/
def Blk.openDay (b : Blk) : Blk :=
  let noClock := !b.tbValid 2
  let b := ({ b with yld := { b.yld with day := .fresh b.tb1 (b.tb 2) noClock } }).dayBoundary
  if noClock then b.raise 510 0x13 0x04 b.yld.job.toNat else b

/-- A period as the bytes of a checkpoint. -/
def Period.bytes (p : Period) : List Byte :=
  leBytes 8 p.open1 ++ leBytes 8 p.open2 ++ leBytes 8 (BitVec.ofInt 64 p.area).toNat ++ leBytes 8 (BitVec.ofInt 64 p.dry).toNat ++
    leBytes 8 (BitVec.ofInt 64 p.harv).toNat ++ leBytes 8 (p.noClock.toNat + 2 * p.disc.toNat)

/-- The period that 48 bytes of a checkpoint hold. -/
def Period.ofBytes (l : List Byte) : Period :=
  let w := fun k => ofLeBytes ((l.drop (8 * k)).take 8)
  let i := fun k => (BitVec.ofNat 64 (w k)).toInt
  ⟨w 0, w 1, i 2, i 3, i 4, (w 5).testBit 0, (w 5).testBit 1⟩

/-- The open periods enter the journal, with the job, its state, the clocks and the next SEQ (R295). -/
def Blk.checkNow (b : Blk) : Blk :=
  let u := b.asAccepted.yld
  let e : JEntry := leBytes 8 u.job.toNat ++ leBytes 8 b.jobState ++ leBytes 8 b.tb1 ++ leBytes 8 (b.tb 2) ++
    u.hour.bytes ++ u.day.bytes ++ u.total.bytes ++ leBytes 8 (b.reg .YLD_SEQ 0).toNat
  { b with yld := { b.yld with checkAt := b.tb1 }, jrn := { b.jrn with checks := b.jrn.checks.append b.runSeq b.tb1 e } }

/-! ## Taking the ledger up after a start (R295) -/

/-- The type, the kind and the job of a ledger record. -/
def ledgerType (e : JEntry) : Nat := (e.getD 0 0).toNat
def ledgerKind (e : JEntry) : Nat := (e.getD 1 0).toNat
def ledgerJob (e : JEntry) : Nat := ofLeBytes ((e.drop 8).take 4)

/-- The 64-bit entry of a ledger record at byte `k`. -/
def ledgerLong (e : JEntry) (k : Nat) : Nat := ofLeBytes ((e.drop k).take 8)

/-- SEQ of the cell that follows the tiles of a job in the journal (R287, R288). -/
def cellsKept (job : Nat) (tiles : List JEntry) : Nat :=
  match (tiles.filter fun e => ofLeBytes ((e.drop 4).take 4) == job).getLast? with
  | none => 0
  | some e => (ofLeBytes ((e.drop 8).take 4) + ofLeBytes ((e.drop 12).take 2)) % 2 ^ 24

/-- What the journal holds of the job in force: the job, JOB_STATE, TB1 and TB2, and the periods. -/
structure JobKept where
  job   : Nat
  state : Nat
  at1   : Nat
  at2   : Nat
  hour  : Period
  day   : Period
  total : Period
deriving DecidableEq, Repr

/-- What a checkpoint holds, and the next SEQ at it. -/
def checkOf (e : JEntry) : JobKept × Nat :=
  let w := fun k => ofLeBytes ((e.drop (8 * k)).take 8)
  (⟨w 0, w 1, w 2, w 3, Period.ofBytes (e.drop 32), Period.ofBytes (e.drop 80), Period.ofBytes (e.drop 128)⟩, w 22)

/-- The state that a ledger record leaves behind the one before it (R290, R293). -/
def JobKept.after (x : JobKept) (e : JEntry) : JobKept :=
  let c1 := ledgerLong e 24
  let c2 := ledgerLong e 40
  let p := Period.fresh c1 c2 false
  match ledgerType e, ledgerKind e with
  | 1, 0 => { x with hour := p, at1 := max x.at1 c1, at2 := c2 }
  | 1, 1 => { x with day := p, at1 := max x.at1 c1, at2 := c2 }
  | 2, _ => ⟨ledgerJob e, 1, c1, c2, p, p, p⟩
  | 3, _ => { x with state := 0 }
  | _, _ => x

/-- The job in force at the end of the last run: the last checkpoint with what the records after it say; the next SEQ. -/
def Blk.jobKept (b : Blk) : JobKept × Nat :=
  let recs := b.jrn.ledger.all ++ b.yld.held
  let none_ : JobKept × Nat := (⟨0, 0, 0, 0, .fresh 0 0 false, .fresh 0 0 false, .fresh 0 0 false⟩, 0)
  let ck := match (b.jrn.checks.all.filter fun e => decide (e.length = 184)).getLast? with
    | some e => checkOf e
    | none => none_
  let later := recs.filter fun e => decide (ck.2 ≤ ledgerSeq e)
  let written := (b.jrn.ledger.pages.map (·.entries)).flatten ++ recs
  (later.foldl JobKept.after ck.1, (written.map fun e => ledgerSeq e + 1).foldl max ck.2)

/-- SEQ goes on after a start (R291): no number is given twice, not even one that stands on a page set aside. -/
def Blk.seqKept (b : Blk) : Blk := (b.setReg .YLD_SEQ 0 (BitVec.ofNat 32 b.jobKept.2)).showFull

/-- What the first start after a job was left OPEN or CLOSING does (R295): its periods close at their last checkpoint, and the job
is taken up again. -/
def Blk.ledgerRestart (b : Blk) : Blk :=
  let k := b.jobKept.1
  if k.state = 0 then b
  else
    let b := { b with yld := { b.yld with
      job := BitVec.ofNat 32 k.job, total := k.total, settled := b.yld.pot, nextCell := cellsKept k.job b.jrn.tiles.all } }
    let b := b.closeRecord 0 k.hour true k.at1 k.at2
    let b := b.closeRecord 1 k.day true k.at1 k.at2
    let b := b.ledgerRec 5 0 1 b.tb1 b.tb1 (b.tb 2) (b.tb 2) 0 0 0
    let b := b.raise 510 0x13 0x03 k.job
    let b := b.setFld F.YLD_STATUS_JOB_STATE 0 k.state
    let b := { b with yld := { b.yld with closeAt := b.tb1 + b.delayNs + 2000000000 } }
    (b.openHour.openDay).checkNow.showTotals

/-- The ledger is taken up when it first runs after a full start (R295). -/
def Blk.ledgerBegin (b : Blk) : Blk :=
  if b.yld.begun then b else { b with yld := { b.yld with begun := true } }.ledgerRestart

/-! ## Jobs and closings (R290, R293) -/

/-- JOB_OPEN (R290). -/
def Blk.jobOpen (b : Blk) : Blk :=
  b.when (b.yldRuns) fun b =>
    let b := b.ledgerBegin
    if b.jobState ≠ 0 ∨ b.fld F.YLD_DELAY_DELAY_MS 0 = 0 then b.setFld F.YLD_STATUS_JOB_REFUSED 0 1
    else
      let u := b.yld
      let changes := (u.changes.filter fun c => !c.ok).map fun (c : AccChange) => { c with pot := u.pot }
      let b := { b with yld := { u with
        job := b.reg .YLD_JOB 0, total := .fresh b.tb1 (b.tb 2) (!b.tbValid 2), settled := u.pot,
        levels := b.fld F.YLD_ACC_STATE_ACCEPTED 0, changes := changes, nextCell := 0, cells := [], tile := [],
        massQ := [], moistQ := [] } }
      let b := b.setFld F.YLD_STATUS_JOB_STATE 0 1
      let b := (b.ledgerRec 2 0 0 b.tb1 b.tb1 (b.tb 2) (b.tb 2) 0 0 0)
      (b.openHour.openDay).checkNow.showTotals

/-- JOB_CLOSE (R290): the job drains for DELAY_MS + 2 s. -/
def Blk.jobClose (b : Blk) : Blk :=
  b.when (b.yldRuns && b.jobState == 1) fun b =>
    let b := b.settleAll.setFld F.YLD_STATUS_JOB_STATE 0 2
    { b with yld := { b.yld with closeAt := b.tb1 + b.delayNs + 2000000000 } }.checkNow

/-- The job in CLOSING closes now (R290). -/
def Blk.jobDue (b : Blk) : Bool := b.jobState == 2 && decide (b.yld.closeAt ≤ b.tb1)

/-- JOB_CLOSE_COMPLETE (R290): a change that is not accepted yet goes with the job. -/
def Blk.jobCloseComplete (b : Blk) : Blk :=
  b.when (b.yldRuns && b.jobDue) fun b =>
    let b := { b with yld := { b.yld with changes := b.yld.changes.filter (·.ok) } }.settleAll
    let now := b.tb1
    let b := b.closeRecord 0 b.yld.hour false now (b.tb 2)
    let b := b.closeRecord 1 b.yld.day false now (b.tb 2)
    let b := b.closeRecord 2 b.yld.total false now (b.tb 2)
    let p := b.yld.total
    let b := b.ledgerRec 3 2 (ledgerFlags false p.noClock p.disc) p.open1 now p.open2 (b.tb 2) p.area10 (b.dry10 p) p.harv10
    let b := { b with yld := { b.yld with cells := b.yld.cells.map (endCell now b.yld.pot.travel) } }
    let b := b.yld.cells.foldl Blk.joinTile b
    (b.tileClose.setFld F.YLD_STATUS_JOB_STATE 0 0).checkNow

/-- The hour period closes now (R293): closings of the job go before its own. -/
def Blk.hourDue (b : Blk) : Bool :=
  b.jobState != 0 && !b.jobDue && decide (b.yld.hour.open1 + 3600000000000 ≤ b.tb1)

/-- HOUR_CLOSE (R293): every 3600 s of TB1. -/
def Blk.hourClose (b : Blk) : Blk :=
  b.when (b.yldRuns && b.hourDue) fun b =>
    let b := b.settleAll
    let p := b.asAccepted.yld.hour
    let b := b.closeRecord 0 p false b.tb1 (b.tb 2)
    { b with yld := { b.yld with hour := .owing b.yld.hour p b.tb1 (b.tb 2) false } }.checkNow

/-- The day period closes now (R293): a boundary that a step of TB2 has moved to now or before, on the next tick. -/
def Blk.dayDue (b : Blk) : Bool :=
  b.jobState != 0 && !b.jobDue && decide (b.reg64 .YLD_DAYEND_LO .YLD_DAYEND_HI 0 ≤ b.tb1) && decide (b.yld.dayFrom ≤ b.tb1)

/-- DAY_CLOSE (R293): at the day boundary on TB1; an hour that closes on the same tick closes before. -/
def Blk.dayClose (b : Blk) : Blk :=
  b.when (b.yldRuns && b.dayDue) fun b =>
    let b := b.hourClose.settleAll
    let q := b.yld.day
    let p := b.asAccepted.yld.day
    let b := (b.closeRecord 1 p false b.tb1 (b.tb 2)).openDay
    { b with yld := { b.yld with day := .owing q p b.yld.day.open1 b.yld.day.open2 b.yld.day.noClock } }.checkNow

/-- A step of TB2 by `d` from the value `before` that it would have had (R294). -/
def Blk.clockStep (b : Blk) (d : Int) (before : Nat) : Blk :=
  b.when (b.yldRuns && b.jobState != 0) fun b =>
    let b := b.ledgerRec 4 0 0 b.tb1 b.tb1 before (b.tb 2) 0 0 0
    let u := b.yld
    let b := { b with yld := { u with hour := { u.hour with disc := true }, day := { u.day with disc := true },
                                      total := { u.total with disc := true } } }
    let b := (b.addSat F.YLD_CNT_DISC 0 1).dayBoundary
    let b := { b with yld := { b.yld with dayFrom := b.tb1 + 10 } }
    let ms := min (d.natAbs / 1000000) 0xFFFFFFFF
    (if d < 0 then b.raise 510 0x13 0x01 ms else if 1000000000 < d then b.raise 510 0x13 0x02 ms else b).checkNow

/-- CHECKPOINT (R295): every 1 s of TB1 the open periods enter the journal. -/
def Blk.checkpoint (b : Blk) : Blk :=
  b.when (b.yldRuns && b.jobState != 0 && decide (b.yld.checkAt + 1000000000 ≤ b.tb1)) fun b => b.settleAll.checkNow

/-! ## The tick -/

/-- What the last tick found due and no row has acted on yet: accepted changes, then closings, hour, day, job (R293, R296). -/
def Blk.yldFlush (b : Blk) : Blk :=
  b.when b.yldRuns fun b =>
    ((List.range 8).foldl Blk.accrAccept b).hourClose.dayClose.jobCloseComplete

/-- The yield map and the ledger on a tick on which TB3 moved by `moved` µm; `edges` where a window may have moved (R286, R290, R295,
R296). After a pause of the ledger the inputs are looked at anew. -/
def Blk.accrTick (b : Blk) (moved : Int) (edges : Bool) : Blk :=
  b.when b.yldRuns fun b =>
    let look := edges || decide (b.yld.pot.at_ + 10 ≠ b.tb1)
    let b := (b.ledgerBegin).potTick moved
    if look then (List.range 8).foldl Blk.accrInput b else b

/-! ## Journal and export -/

/-- JOURNAL_FLUSH (R394): a page is written 1 s after its first entry. -/
def JRegion.age (j : JRegion) (seq now : Nat) : JRegion :=
  match j.bufAt with
  | some t => if t + 1000000000 ≤ now then j.flush seq else j
  | none => j

/-- The waiting pages go through `f`, but for one of the ledger that would overwrite a record not acknowledged (R297). -/
def Blk.writePages (b : Blk) (f : JRegion → JRegion) : Blk :=
  { b with jrn := ⟨if b.ledgerFull then b.jrn.ledger else f b.jrn.ledger, f b.jrn.faults, f b.jrn.tiles, f b.jrn.fields,
                   f b.jrn.checks⟩ }.showFull

/-- JOURNAL_FLUSH (R394): the pages that have waited for 1 s. -/
def Blk.journalFlush (b : Blk) : Blk :=
  b.when b.aonRuns fun b => b.writePages fun j => j.age b.runSeq b.tb1

/-- Every waiting page is written (R394, on entry to CRANK_HOLD). -/
def Blk.journalFlushAll (b : Blk) : Blk := b.writePages fun j => j.flush b.runSeq

/-- EXPORT_START (R289). -/
def Blk.exportStart (b : Blk) : Blk :=
  b.when (b.yldRuns && !b.flag F.YLD_STATUS_EXPORT_BUSY 0) fun b =>
    { b with yld := { b.yld with exporting := b.reg .YLD_JOB 0 } }.setFld F.YLD_STATUS_EXPORT_BUSY 0 1

/-- A file of the export with its 64-byte header (R289). -/
def exportFile (f : List Byte × List Byte) : List Byte :=
  (f.1.take 32 ++ List.replicate (32 - f.1.length) 0) ++ leBytes 4 f.2.length ++ List.replicate 28 0 ++ f.2

/-- The cell records of a map tile (R288). -/
def tileCells (e : JEntry) : List (List Byte) :=
  (List.range (ofLeBytes ((e.drop 12).take 2))).map fun k => (e.drop (64 + 32 * k)).take 32

/-- Width times length of a cell in mm² (R287). -/
def cellArea (c : List Byte) : Nat := ofLeBytes ((c.drop 6).take 2) * ofLeBytes ((c.drop 4).take 2)

/-- The logged values of cell `k` of a job (R289, log 27): mass per time in mg/s, moisture in ppm, width in mm, total area in m². -/
def logValues (cells : List (List Byte)) (k : Nat) : List Nat :=
  let c := cells.getD k []
  let area := ((cells.take (k + 1)).map cellArea).foldl (· + ·) 0 / 1000000
  [ofLeBytes ((c.drop 24).take 4) * 1000000000000 / max 1 (Config.cellNs cells k), ofLeBytes ((c.drop 28).take 2) * 100, ofLeBytes ((c.drop 6).take 2), area]

/-- The position status of a logged cell (R289, ISO 11783-10): by STATUS, or one without a position where V is 0 (log 27). -/
def logStatus (v : Bool) (status : Nat) : Byte :=
  if v then BitVec.ofNat 8 (nmeaQuality status) else [(0 : Byte), 14, 15].getD Config.notValid.val 0

/-- The record of cell `k` in the time log of its job (R289, log 27): time, position, position status, and the values with their
numbers. -/
def logRecord (cells : List (List Byte)) (k : Nat) : List Byte :=
  let c := cells.getD k []
  let w0 := ofLeBytes (c.take 4)
  let vals := logValues cells k
  Config.logTime (ofLeBytes ((c.drop 16).take 8)) ++ (c.drop 8).take 8 ++
    [logStatus (w0.testBit 31) (bitsOf w0 24 3), BitVec.ofNat 8 vals.length] ++
    (vals.zipIdx.map fun v => leBytes 1 v.2 ++ leBytes 4 v.1).flatten

/-- An element of an XML file with the text of its start tag, which holds no bracket, and its content. -/
def xmlElem (tag : String) (attrs body : List Byte) : List Byte :=
  ascii "<" ++ ascii tag ++ attrs.filter (fun x => x != 60 && x != 62) ++ ascii ">" ++ body ++ ascii "</" ++ ascii tag ++ ascii ">"

/-- An attribute. -/
def xmlAttr (name : String) (v : List Byte) : List Byte := ascii " " ++ ascii name ++ ascii "=" ++ [34] ++ v ++ [34]

/-- Date and time of day of a value of TB2, to the millisecond. -/
def xmlTime (t : Nat) : List Byte :=
  let d := civil (t / 86400000000000)
  let s := t / 1000000000
  digits 4 d.1 ++ ascii "-" ++ digits 2 d.2.1 ++ ascii "-" ++ digits 2 d.2.2 ++ ascii "T" ++ digits 2 (s / 3600 % 24) ++ ascii ":" ++
    digits 2 (s / 60 % 60) ++ ascii ":" ++ digits 2 (s % 60) ++ ascii "." ++ digits 3 (t / 1000000) ++ ascii "Z"

/-- The data dictionary entries of the logged values of R289, in its order: mass per time yield 87, crop moisture 99, working width 67,
total area 116 (ISO 11783-11; log 20). -/
def loggedDdis : List Nat := [87, 99, 67, 116]

/-- The number of a data dictionary entry, in hexadecimal. -/
def xmlDdi (k : Fin 4) : List Byte :=
  let v := loggedDdis.getD k.val 0
  [hexDigit (v / 4096), hexDigit (v / 256 % 16), hexDigit (v / 16 % 16), hexDigit (v % 16)]

/-- TASKDATA.XML (R289): schema version 4; one device with the definition of each logged value; one task for the job, with a TIM for
each opening and what closed it, and its log. -/
def taskData (job : Nat) (opened closed : List Nat) (log : List Byte) : List Byte :=
  let tim := fun (x : Nat × Nat) =>
    xmlElem "TIM" (xmlAttr "A" (xmlTime x.1) ++
      (match closed[x.2]? with
        | some t => xmlAttr "B" (xmlTime t)
        | none => []) ++ Config.xmlText 7) []
  let dpd := fun (k : Fin 4) => xmlElem "DPD" (xmlAttr "A" (decimal (k.val + 1)) ++ xmlAttr "B" (xmlDdi k) ++ Config.xmlText (2 + k.val)) []
  ascii "<?xml version=\"1.0\" encoding=\"UTF-8\"?>" ++
    xmlElem "ISO11783_TaskData" (xmlAttr "VersionMajor" (ascii "4") ++ Config.xmlText 0)
      (xmlElem "DVC" (Config.xmlText 1) ([0, 1, 2, 3].map dpd).flatten ++
        xmlElem "TSK" (xmlAttr "A" (ascii "TSK" ++ decimal job) ++ Config.xmlText 6)
          ((opened.zipIdx.map tim).flatten ++ xmlElem "TLG" (xmlAttr "A" log) []))

/-- The header of the time log (R289): a position, PTN, and a DLV for each of the four values. -/
def logHeader : List Byte :=
  xmlElem "TIM" (xmlAttr "A" [] ++ Config.xmlText 8)
    (xmlElem "PTN" (Config.xmlText 9) [] ++
      (([0, 1, 2, 3] : List (Fin 4)).map fun k => xmlElem "DLV" (xmlAttr "A" (xmlDdi k) ++ Config.xmlText 10) []).flatten)

/-- TB2 at which a job opened or closed, from its ledger records of one type (R289, R291). -/
def jobTimes (job type : Nat) (recs : List JEntry) : List Nat :=
  (recs.filter fun e => ledgerType e == type && ledgerJob e == job).map fun e => ledgerLong e 40

/-- The files of the export of a job (R289). -/
def taskFiles (job : Word) (recs tiles : List JEntry) : List (List Byte × List Byte) :=
  let cells := (tiles.map tileCells).flatten
  [(ascii "TASKDATA.XML", taskData job.toNat (jobTimes job.toNat 2 recs) (jobTimes job.toNat 3 recs) (ascii "TLG00001")),
    (ascii "TLG00001.XML", logHeader),
    (ascii "TLG00001.BIN", ((List.range cells.length).map (logRecord cells)).flatten)]

/-- EXPORT_DONE (R289): the files of the job's tiles are in the buffer, or would exceed it. -/
def Blk.exportDone (b : Blk) : Blk :=
  b.when (b.yldRuns && b.flag F.YLD_STATUS_EXPORT_BUSY 0) fun b =>
    let job := b.yld.exporting
    let tiles := b.jrn.tiles.all.filter fun e => ofLeBytes ((e.drop 4).take 4) == job.toNat
    let out := ((taskFiles job (b.jrn.ledger.all ++ b.yld.held) tiles).map exportFile).flatten
    let size := (b.reg .YLD_EXP_SIZE 0).toNat
    let fits := decide (out.length ≤ size)
    let part := out.take size
    let a := b.fld F.YLD_EXP_HI_EXP_ADDR 0 * 2 ^ 32 + (b.reg .YLD_EXP_LO 0).toNat
    let b := (b.unitWrites 510 a part.length part).1
    let b := b.setReg .YLD_EXP_LEN 0 (if fits then BitVec.ofNat 32 out.length else 0)
    (b.setFld F.YLD_STATUS_EXPORT_BUSY 0 0).setFld F.YLD_STATUS_EXPORT_DONE 0 1

end Sys2Proof.Machine
end

