-- ==== Sys2Proof/Machine/Tc.lean ====
section
/-!
DEFINITION. Frames of this node's units on the CAN buses, and the task controller client (R344 to R346).
Readings and choices: logs 20, 27, 58 of notes/assumptions.
-/

namespace Sys2Proof.Machine

/-- Controller `k` beyond its registers. -/
def Blk.can (b : Blk) (k : Nat) : CanSt := SMap.get b.net.can k CanSt.zero

/-- The block with controller `k` at `x`. -/
def Blk.setCan (b : Blk) (k : Nat) (x : CanSt) : Blk :=
  { b with net := { b.net with can := NMap.set b.net.can k x CanSt.zero } }

/-- The CAN controllers are powered and clocked (R28, R370, R446). -/
def Blk.canPowered (b : Blk) : Bool := b.computeRuns && b.supply != 2 && b.pdState 61 == 4

/-- Controller `k` takes part in its bus. -/
def Blk.canRuns (b : Blk) (k : Nat) : Bool :=
  b.canPowered && b.flag F.CAN_CTRL_EN k && (b.fld F.CAN_STATUS_BUS k == 1 || b.fld F.CAN_STATUS_BUS k == 2)

/-- A frame of a unit of this node waits for bus `k`. -/
def Blk.canSend (b : Blk) (k : Nat) (f : CanFrame) : Blk :=
  let x := b.can k
  b.setCan k { x with own := x.own ++ [f] }

/-- An extended classical frame of priority `prio`, PDU format and specific, from this node's address. -/
def Blk.stackSend (b : Blk) (k prio pf ps sa : Nat) (data : List Byte) : Blk :=
  b.canSend k ⟨false, false, true, BitVec.ofNat 29 (prio * 2 ^ 26 + pf * 2 ^ 16 + ps * 2 ^ 8 + sa), 8, data⟩

/-- The protocol stack runs on controller `k`: ISOBUS on CAN0 and CAN1, J1939 on CAN2. -/
def Blk.stackOn (b : Blk) (k : Nat) : Bool :=
  if k ≤ 1 then b.flag F.ISO_CFG_ISO_EN 0 else k == 2 && b.flag F.J1939_CFG_J1939_EN 0

/-! ## Sending by a transport protocol (ISO 11783-3; R345, log 20) -/

/-- Packets of a message: seven bytes each. -/
def tpPackets (len : Nat) : Nat := (len + 6) / 7

/-- The first message that waits is announced: with a request to send of the transport protocol up to 1785 bytes, of the extended one
beyond. -/
def Blk.tpOpen (b : Blk) (k : Nat) : Blk :=
  match (b.can k).out with
  | [] => b
  | m :: _ =>
    let n := m.data.length
    if n ≤ 1785 then
      b.stackSend k 7 0xEC m.dst (b.can k).addr
        (leBytes 1 16 ++ leBytes 2 n ++ leBytes 1 (tpPackets n) ++ leBytes 1 255 ++ leBytes 3 m.pgn)
    else b.stackSend k 7 0xC8 m.dst (b.can k).addr (leBytes 1 20 ++ leBytes 4 n ++ leBytes 3 m.pgn)

/-- A message of this node to `dst`: one frame, or by a transport protocol behind those that wait. -/
def Blk.tpSend (b : Blk) (k dst pgn : Nat) (l : List Byte) : Blk :=
  let x := b.can k
  if l.length ≤ 8 then b.stackSend k 3 (pgn / 256) dst x.addr (l ++ List.replicate (8 - l.length) 0xFF)
  else
    let b := b.setCan k { x with out := x.out ++ [⟨dst, pgn, l⟩] }
    if x.out.isEmpty then b.tpOpen k else b

/-- `n` packets of the open message from packet `first` (0 the first of it); the extended protocol numbers them in the window. -/
def Blk.tpWindow (b : Blk) (k : Nat) (m : TpOut) (ext : Bool) (first n : Nat) : Blk :=
  (List.range (min n (tpPackets m.data.length - first))).foldl (fun b i =>
    let part := (m.data.drop (7 * (first + i))).take 7
    b.stackSend k 7 (if ext then 0xC7 else 0xEB) m.dst (b.can k).addr
      (leBytes 1 (if ext then i + 1 else first + i + 1) ++ part ++ List.replicate (7 - part.length) 0xFF)) b

/-- The peer is clear to take `n` packets of the open message from packet number `next` on. -/
def Blk.tpClear (b : Blk) (k sa : Nat) (ext : Bool) (n next : Nat) : Blk :=
  match (b.can k).out with
  | [] => b
  | m :: _ =>
    if m.dst ≠ sa ∨ n = 0 ∨ next = 0 ∨ ext ≠ decide (1785 < m.data.length) then b
    else
      let b := if ext then
          b.stackSend k 7 0xC8 sa (b.can k).addr (leBytes 1 22 ++ leBytes 1 n ++ leBytes 3 (next - 1) ++ leBytes 3 m.pgn)
        else b
      b.tpWindow k m ext (next - 1) n

/-- The peer has taken the open message, or aborts it: the next one opens. -/
def Blk.tpClose (b : Blk) (k sa : Nat) : Blk :=
  let x := b.can k
  match x.out with
  | [] => b
  | m :: l => if m.dst = sa then (b.setCan k { x with out := l }).tpOpen k else b

/-! ## The task controller client (R345) -/

/-- The cells of the job in force: those of its tiles in the journal, and those of the open tile. -/
def Blk.jobCells (b : Blk) : List (List Byte) :=
  ((b.jrn.tiles.all.filter fun e => ofLeBytes ((e.drop 4).take 4) == b.yld.job.toNat).map tileCells).flatten ++ b.yld.tile

/-- The place among the logged values of R289 of a data dictionary entry. -/
def loggedIndex (ddi : Nat) : Option Nat := loggedDdis.findIdx? (· == ddi)

/-- The present value of a logged value: that of the latest cell of the job; log 58. -/
def Blk.tcValue (b : Blk) (i : Nat) : Nat :=
  let cells := b.jobCells
  (logValues cells (cells.length - 1)).getD i 0

/-- A process data message with a command, for the element and entry that `head` names. -/
def Blk.tcSend (b : Blk) (k sa cmd : Nat) (head : List Byte) (v : Nat) : Blk :=
  b.stackSend k 3 0xCB sa (b.can k).addr
    (leBytes 1 ((head.getD 0 0).toNat / 16 * 16 + cmd) ++ (head.drop 1).take 3 ++ leBytes 4 v)

/-- A trigger that the task controller sets: 4 time in ms, 5 distance in mm, 6 and 7 thresholds, 8 change. The value that ends it is 0, and
for the thresholds the lowest and the highest number (ISO 11783-10; log 20). -/
def trigEnds (cmd limit : Nat) : Bool :=
  match cmd with
  | 6 => limit == 0x80000000
  | 7 => limit == 0x7FFFFFFF
  | _ => limit == 0

/-- The trigger's condition holds (R345, log 20). -/
def Blk.trigDue (b : Blk) (g : TcTrig) : Bool :=
  let v := b.tcValue g.place
  let limit := (BitVec.ofNat 32 g.limit).toInt
  match g.cmd with
  | 4 => decide (g.at_ + g.limit * 1000000 ≤ b.tb1)
  | 5 => decide (g.travel + g.limit * 1000 ≤ b.yld.pot.travel)
  | 6 => v != g.last && decide (limit ≤ (v : Int))
  | 7 => v != g.last && decide ((v : Int) ≤ limit)
  | _ => v != g.last && decide (g.limit ≤ ((v : Int) - (g.last : Int)).natAbs)

/-- A trigger of this message, counted from now. -/
def Blk.trigNow (b : Blk) (g : TcTrig) : TcTrig :=
  { g with at_ := b.tb1, travel := b.yld.pot.travel, last := b.tcValue g.place }

/-- Process data of the task controller (ISO 11783-10, R345): technical capabilities and the device description are answered from the
description of this module, a request with the value, a value command with a NACK, and so is an entry that is not logged. A
trigger takes the place of one of its kind. -/
def Blk.processData (b : Blk) (k sa : Nat) (d : List Byte) : Blk :=
  let cmd := (d.getD 0 0).toNat % 16
  let head := d.take 4
  let limit := ofLeBytes ((d.drop 4).take 4)
  let nack := b.tcSend k sa 13 head 0xFFFFFFFF
  match loggedIndex (ofLeBytes ((d.drop 2).take 2)), cmd with
  | _, 0 | _, 1 => (Config.tcDevice d).foldl (fun b l => b.tpSend k sa 0xCB00 l) b
  | _, 3 => nack
  | some i, 2 => b.tcSend k sa 3 head (b.tcValue i)
  | some i, 4 | some i, 5 | some i, 6 | some i, 7 | some i, 8 =>
    let x := b.can k
    let rest := x.trig.filter fun g => g.cmd != cmd || g.place != i || g.sa != sa
    let g := b.trigNow ⟨sa, cmd, i, head, limit, 0, 0, 0⟩
    b.setCan k { x with trig := if trigEnds cmd limit then rest else rest ++ [g] }
  | none, 2 | none, 4 | none, 5 | none, 6 | none, 7 | none, 8 => nack
  | _, _ => b

/-- The triggers of controller `k` whose condition holds send their value (R345). -/
def Blk.tickTc (b : Blk) (k : Nat) : Blk :=
  let due := (b.can k).trig.filter b.trigDue
  if due.isEmpty ∨ !b.canRuns k ∨ !b.stackOn k then b
  else
    let x := b.can k
    let b := b.setCan k { x with trig := x.trig.map fun g => if b.trigDue g then b.trigNow g else g }
    due.foldl (fun b g => b.tcSend k g.sa 3 g.head (b.tcValue g.place)) b

end Sys2Proof.Machine
end

