-- ==== Sys2Proof/Machine/Tick.lean ====
section
/-!
DEFINITION. The tick of the Timebase Unit (R32) and everything that it does: timebases, slots, windows, gates.
Readings and choices: logs 9, 24, 54 of notes/assumptions.
-/

namespace Sys2Proof.Machine

/-- The tick of fabric time (R335): it runs once it is synchronised, slewed toward the conductor's within 200 ppm. -/
def Blk.tickFt (b : Blk) : Blk :=
  if b.flag F.FAB_TIME_FT_V 0 then
    let s := min (Config.ftSlewPs b.free % 3) b.fab.ftErr.natAbs
    let ps := if b.fab.ftErr > 0 then 10000 - s else 10000 + s
    let sum := b.fab.ftPs + ps
    let b := b.setReg64 .FAB_FT_LO .FAB_FT_HI 0 ((b.ft + sum / 1000) % 2 ^ 64)
    { b with fab := { b.fab with ftPs := sum % 1000, ftErr := b.fab.ftErr + ((ps : Int) - 10000) } }
  else b

/-- The TIMEOUT records whose first 1 ms has passed (R333). -/
def Blk.tickDead (b : Blk) : Blk :=
  let excess := b.fab.dead.filter fun d => !d.raised && decide (d.at_ + 1000000 ≤ b.tb1)
  if excess.isEmpty then b
  else
    let mark := (b.fab.dead.map fun d => if excess.contains d then { d with raised := true } else d).filter fun d =>
      !(d.ended && d.raised)
    excess.foldl (fun b d => b.raise 595 0x0D 0x01 (d.subject * 2 ^ 23 + min d.n 65535))
      { b with fab := { b.fab with dead := mark } }

/-- The slots that are due on this tick, in ascending order (R44, R46, R50): those whose comparison is met, and those armed
late. -/
def Blk.dueSlots (b : Blk) (old : List Nat) : List DueSlot :=
  b.enabledSlots.filterMap fun s =>
    let late := b.tbu.lateArm.contains s && b.flag F.SLOT_STATUS_ARMED s && b.tbValid (b.fld F.SLOT_CTRL_TB s)
    if late then some ⟨s, true⟩ else if b.slotDue old s then some ⟨s, false⟩ else none

/-- The timebases take their values of the next tick (R33); the second part is the step of TB2, if it made one. -/
def Blk.tickTimebases (b : Blk) : Blk × Option Int :=
  let (b, step) := b.tickTb0.tickTb1.tickTb2
  (((List.range 13).foldl (fun b k => b.tickBuilt (k + 3)) b).tickFt, step)

/-- The slots and windows of a tick: validity, arming, what is due (R44 to R47, R52). -/
def Blk.tickSlots (b : Blk) (old : List Nat) (wasValid : Nat) : Blk :=
  let valid := b.validBits
  let b := b.setFld F.TBU_STATUS_TB_VALID 0 valid
  let slots := b.enabledSlots
  let due := b.dueSlots old
  let b := { b with tbu := { b.tbu with due := [], lateArm := [] } }
  let b := b.validChange wasValid valid slots
  { b with tbu := { b.tbu with due := due } }.resolveWindows

/-- A tick that reaches a T_EPOCH takes TB3 for the grid header (R233). -/
def Blk.tickEpoch (b : Blk) : Blk :=
  if b.gridNode && b.tb1 % b.epochNs == 0 then { b with fus := { b.fus with tb3At := b.tb 3 } } else b

/-- TBU_TICK (R32): what the last tick found due and no row has acted on does so first: pulses are added (R36), slots fire, misses
are recorded. -/
def Blk.tbuTick (b : Blk) : Blk :=
  b.when b.aonRuns fun b =>
    let b := b.addPulses.fireDue.missFlush.yldFlush
    let old := b.snapshot
    let wasValid := b.fld F.TBU_STATUS_TB_VALID 0
    let (b, step) := b.tickTimebases
    let b := (b.tickSlots old wasValid).missTicks.encTick
    let moved := sdiff (b.tbWidth 3) (b.tb 3) (old.getD 3 0)
    let b := b.accrTick moved (!b.tbu.due.isEmpty)
    let b := (List.range 16).foldl (fun b i => b.impTick moved i) b
    let b := ((b.takeSnap.tickEpoch.tickDead.tickTrack.tickTc 0).tickTc 1).took
    match step with
    | none => b
    | some d => b.clockStep d (((b.tb 2 : Int) - d) % (2 ^ 64 : Int)).toNat

end Sys2Proof.Machine
end

