-- ==== Sys2Proof/Machine/Gnss.lean ====
section
/-!
DEFINITION. Satellite time and position (spec chapter 11): tracking channels, interference, the solution, corrections, TB0,
PPS, NMEA.
Readings and choices: logs 12, 24, 27, 28, 51, 52 of notes/assumptions.
-/

namespace Sys2Proof.Machine

/-- STATE of channel `c` (R260): 0 IDLE, 1 ACQ, 2 PULL_IN, 3 TRACK, 4 COAST. -/
def Blk.chState (b : Blk) (c : Nat) : Nat := b.fld F.CH_STATUS_STATE c

/-- This node is the GNSS host, and clocked (R254, R370, R446). -/
def Blk.gnssHost (b : Blk) : Bool := b.computeRuns && b.supply != 2 && b.flag F.GNSS_CTRL_HOST 0

/-- The tracking loops and the solvers of the host run: tiles T24 to T27, which carry them, are all ON (R254, log 52). -/
def Blk.gnssOn (b : Blk) : Bool := b.gnssHost && (List.range 4).all fun k => b.pdState (24 + k) == 4

/-- The correlators and oscillators are ON (R254). -/
def Blk.corrOn (b : Blk) : Bool := b.gnssHost && b.pdState 48 == 4

/-- The baseband runs (R281). -/
def Blk.gnssRuns (b : Blk) : Bool := b.gnssOn && b.flag F.GNSS_CTRL_EN 0

/-- The channels run with their tasks. -/
def Blk.chanRuns (b : Blk) : Bool := b.gnssRuns && b.corrOn

/-- Channel `c` enters STATE `s` now. -/
def Blk.chEnter (b : Blk) (c s : Nat) : Blk :=
  (b.setFld F.CH_STATUS_STATE c s).setChan c { b.chan c with since := b.tb1 }

/-- Since `ms` milliseconds the channel stands in its state. -/
def Blk.chSince (b : Blk) (c ms : Nat) : Bool := decide ((b.chan c).since + ms * 1000000 ≤ b.tb1)

/-! ## Channels (R257 to R262) -/

/-- ELEV_MASK, 0 to 45 degrees. -/
def Blk.elevMask (b : Blk) : Nat := min 45 (b.fld F.GNSS_MASK_ELEV_MASK 0)

/-- CH_STATUS of a channel that is assigned to a candidate, before its state and C/N0. -/
def candStatus (x : Candidate) : Nat := x.ant.toNat * 2 ^ 31 + x.sig.val * 2 ^ 27 + x.sv.toNat * 2 ^ 8

/-- A channel tracks the candidate. -/
def Blk.tracked (b : Blk) (x : Candidate) : Bool :=
  b.gnss.chans.any fun c => c.2.assigned && b.fld F.CH_STATUS_ANT c.1 == x.ant.toNat && b.fld F.CH_STATUS_SIG c.1 == x.sig.val &&
    b.fld F.CH_STATUS_SV c.1 == x.sv.toNat

/-- The candidate may have a channel (R257): its signal is enabled, it stands above the mask, ANT_B is in use where it is of that
antenna, and no channel has it. -/
def Blk.qualifies (b : Blk) (x : Candidate) : Bool :=
  (b.fld F.GNSS_SIG_EN_SIG 0).testBit x.sig.val && decide ((b.elevMask : Int) < x.elev) && (!x.ant || b.flag F.GNSS_CTRL_ANT_B_EN 0) &&
    !b.tracked x

/-- `x` goes before `y` (R257): ANT_A first, then the higher elevation. -/
def candBefore (x y : Candidate) : Bool := (!x.ant && y.ant) || (x.ant == y.ant && decide (y.elev < x.elev))

/-- The candidate that goes first; of equal ones the first of the list. -/
def bestSat : List Candidate → Option Candidate
  | [] => none
  | x :: l =>
    match bestSat l with
    | none => some x
    | some y => some (if candBefore y x then y else x)

/-- Channel `c` has no satellite yet: it is idle, or R281 has started it in ACQ. -/
def Blk.chFree (b : Blk) (c : Nat) : Bool := b.chState c == 0 || (b.chState c == 1 && !(b.chan c).assigned)

/-- CHANNEL_ASSIGN (R257): the firmware assigns channel `c` to the first of the candidates. -/
def Blk.channelAssign (b : Blk) (c : Nat) (cands : List Candidate) : Blk :=
  match bestSat (cands.filter b.qualifies) with
  | none => b
  | some x =>
    b.when (b.chanRuns && b.chFree c) fun b =>
      ((b.setReg .CH_STATUS c (BitVec.ofNat 32 (candStatus x))).setChan c { ChanSt.zero with assigned := true }).chEnter c 1

/-- CHANNEL_RELEASE (R257, R260): the satellite of channel `c` stands at elevation `elev`. -/
def Blk.channelRelease (b : Blk) (c : Nat) (elev : Int) : Blk :=
  b.when (b.chanRuns && b.chState c != 0 && decide (elev + 2 ≤ b.elevMask)) fun b =>
    (b.setChan c { b.chan c with assigned := false }).chEnter c 0

/-- TAP_SP, 1/32 chip, 1 to 16 (R258). -/
def Blk.tapSp (b : Blk) : Nat := max 1 (min 16 (b.fld F.GNSS_MASK_TAP_SP 0))

/-- The taps of a dump: the code offsets k × TAP_SP for k = −3 to +3 with I and Q (R258). -/
def tapsOf (sp : Nat) (iq : List (Int × Int)) : List (Int × Int × Int) :=
  iq.zipIdx.map fun x => (((x.2 : Int) - 3) * sp, x.1)

/-- Where the carrier oscillator runs (R259, R261), 0.01 Hz: at the task's value, the aided Doppler added to it; in COAST at the aided
prediction alone; without aiding a coast goes on at the last rate. -/
def Blk.carrierRate (b : Blk) (c : Nat) (loop aid : Int) : Int :=
  let aiding := b.flag F.GNSS_STATUS_AIDING 0
  if b.chState c = 4 then (if aiding then aid else (b.chan c).rate) else if aiding then loop + aid else loop

/-- A dump may come: 1 ms of code timing has passed since the last one; a Doppler shortens it by less than 20 ns (R258). -/
def Blk.dumpDue (b : Blk) (c : Nat) : Bool := b.every (b.chan c).dumpAt 999980

/-- CORRELATOR_DUMP (R258, R259, R281): oscillator values that wait take effect, I and Q of the seven taps are delivered, and the
tracking task answers with `osc`; with none it misses its deadline 800 µs on, and the oscillators run on at their last rates. `aid` is the Doppler predicted from the inertial
solution and the antenna's lever arm, 0.01 Hz. -/
def Blk.correlatorDump (b : Blk) (c : Nat) (iq : List (Int × Int)) (cn0 : Nat) (doppler aid : Int)
    (osc : Option (Nat × Int)) : Blk :=
  b.when (b.corrOn && b.chState c != 0 && decide (iq.length = 7) && b.dumpDue c) fun b =>
    let x := b.chan c
    if x.stop then (b.setFld F.CH_STATUS_STATE c 0).setChan c ChanSt.zero
    else
      let o := x.next.getD (x.code, x.carrier)
      let rate := match x.next with
        | some v => b.carrierRate c v.2 aid
        | none => x.rate
      let loss := b.fld F.GNSS_MASK_CN0_LOSS 0
      let run := fun (on : Bool) (t : Option Nat) => if on then some (t.getD b.tb1) else none
      let b := (b.setFld F.CH_STATUS_CN0 c (min cn0 255)).setSFld F.CH_DOPPLER_DOPPLER c doppler
      b.setChan c { x with
        code := o.1, carrier := o.2, rate := rate, next := if b.gnssOn then osc else none, dump := tapsOf b.tapSp iq, dumpAt := some b.tb1,
        missAt := if osc.isNone && b.gnssOn then some (b.tb1 + 800000) else x.missAt,
        lowAt := run (decide (cn0 < loss)) x.lowAt, highAt := run (decide (loss + 3 ≤ cn0)) x.highAt }

/-- Chips of the code of a signal (R262, log 12). -/
def codeChips : Nat → Nat
  | 0 | 12 => 1023
  | 3 => 4092
  | 6 | 7 => 511
  | 8 | 10 => 2046
  | _ => 10230

/-- The satellite system of a signal (R256): GPS, Galileo, GLONASS, BeiDou, QZSS. -/
def sigSystem (sig : Nat) : Nat :=
  if sig < 3 then 0 else if sig < 6 then 1 else if sig < 8 then 2 else if sig < 12 then 3 else 4

/-- Position, time and the satellite's ephemeris are known (R262). -/
def Blk.acqKnown (b : Blk) (c : Nat) : Bool :=
  b.navStatus != 0 && b.tbValid 0 && b.gnss.eph.contains (sigSystem (b.fld F.CH_STATUS_SIG c), b.fld F.CH_STATUS_SV c)

/-- The Doppler lies in the search range (R262), 0.01 Hz: ±500 Hz around the prediction, or ±5 kHz. -/
def Blk.inSearch (b : Blk) (c : Nat) (doppler pred : Int) : Bool :=
  if b.acqKnown c then decide ((doppler - pred).natAbs ≤ 50000) else decide (doppler.natAbs ≤ 500000)

/-- SIGNAL_FOUND (R260, R262): the search meets the signal at a code phase, in 2^-32 chip, and a Doppler; `pred` is the Doppler
predicted. -/
def Blk.signalFound (b : Blk) (c code : Nat) (doppler pred : Int) : Blk :=
  b.when (b.chanRuns && b.chState c == 1 && (b.chan c).assigned && b.inSearch c doppler pred &&
      decide (code < codeChips (b.fld F.CH_STATUS_SIG c) * 2 ^ 32)) fun b =>
    let b := b.setSFld F.CH_DOPPLER_DOPPLER c doppler
    (b.setChan c { b.chan c with code := code, carrier := doppler, rate := doppler, next := none }).chEnter c 2

/-- Channel `c` enters TRACK; without a slip before it LOCK_MS runs on. -/
def Blk.enterTrack (b : Blk) (c : Nat) (slip : Bool) : Blk :=
  let b := b.chEnter c 3
  if slip then b else b.setChan c { b.chan c with lockAt := b.tb1 }

/-- PULL_IN_LOCK (R260): phase lock has held since TB1 `since`, for 100 ms. -/
def Blk.pullInLock (b : Blk) (c since : Nat) : Blk :=
  b.when (b.chanRuns && b.chState c == 2 && decide ((b.chan c).since ≤ since) && decide (since + 100000000 ≤ b.tb1))
    fun b => b.enterTrack c false

/-- PULL_IN_TIMEOUT (R260): no lock within 2 s. -/
def Blk.pullInTimeout (b : Blk) (c : Nat) : Blk :=
  b.when (b.chanRuns && b.chState c == 2 && b.chSince c 2000) fun b => b.chEnter c 1

/-- The run that began at TB1 `t` had begun by `since`, which is not before channel `c` entered its state, and has held 20 ms (R260). -/
def Blk.chHeld (b : Blk) (c since : Nat) (t : Option Nat) : Bool :=
  (match t with
    | some t => decide (t ≤ since)
    | none => false) && decide ((b.chan c).since ≤ since) && decide (since + 20000000 ≤ b.tb1)

/-- COAST_ENTRY (R260, R261): C/N0 has been below CN0_LOSS since TB1 `since`; the inertial uncertainties at the start. -/
def Blk.coastEntry (b : Blk) (c since sigV sigA : Nat) : Blk :=
  b.when (b.chanRuns && b.chState c == 3 && b.chHeld c since (b.chan c).lowAt) fun b =>
    let b := b.chEnter c 4
    b.setChan c { b.chan c with sigV := sigV, sigA := sigA }

/-- The carrier frequency of signal `sig` in kHz (R255, R256); GLONASS by its frequency slot + 7 (log 12). -/
def sigKhz (sig sv : Nat) : Nat :=
  match sig with
  | 0 | 3 | 9 | 12 => 1575420
  | 1 | 13 => 1227600
  | 2 | 4 | 11 | 14 => 1176450
  | 5 | 10 => 1207140
  | 6 => (3204000 + 1125 * sv - 7875) / 2
  | 7 => (4984000 + 1750 * sv - 12250) / 4
  | 8 => 1561098
  | _ => 1575420

/-- σ_pred of a coast of `t` ns over the wavelength (R261), in 0.001 cycle, to the nearest. -/
def predErr (sigV sigA t khz : Nat) : Nat :=
  -- mm × 2 × 10^18, then cycles: mm × kHz / 299 792 458
  let mm2 := 2 * (sigV + 6) * t * 1000000000 + sigA * t * t
  (mm2 * khz * 1000 + 299792458 * 1000000000000000000) / (2 * 299792458 * 1000000000000000000)

/-- COAST_EXIT (R260, R261): C/N0 has been at or above CN0_LOSS + 3 dB-Hz since TB1 `since`. -/
def Blk.coastExit (b : Blk) (c since : Nat) : Blk :=
  b.when (b.chanRuns && b.chState c == 4 && b.chHeld c since (b.chan c).highAt) fun b =>
    let x := b.chan c
    let e := min 65535 (predErr x.sigV x.sigA (b.tb1 - x.since) (sigKhz (b.fld F.CH_STATUS_SIG c) (b.fld F.CH_STATUS_SV c)))
    let b := b.setFld F.CH_PHASE_PRED_ERR c e
    if e ≤ 10 * b.fld F.GNSS_COAST_SLIP_LIM 0 then b.enterTrack c false
    else
      let b := (b.addSat F.CH_PHASE_SLIPS c 1).enterTrack c true
      b.setChan c { b.chan c with newAmb := true }

/-- COAST_TIMEOUT (R260): COAST_MS with aiding, 100 ms without. -/
def Blk.coastTimeout (b : Blk) (c : Nat) : Blk :=
  let ms := if b.flag F.GNSS_STATUS_AIDING 0 then max 100 (min 10000 (b.fld F.GNSS_COAST_COAST_MS 0)) else 100
  b.when (b.chanRuns && b.chState c == 4 && b.chSince c ms) fun b => (b.addSat F.CH_PHASE_SLIPS c 1).chEnter c 1

/-! ## Interference (R263 to R265) -/

/-- Index of the band of an antenna. -/
def bandIdx (ant : Bool) (band : Nat) : Nat := ant.toNat * 3 + band

/-- A band of an antenna beyond its registers. -/
def Blk.band (b : Blk) (i : Nat) : BandSt := SMap.get b.gnss.bands i BandSt.zero

/-- The block with a band at `x`. -/
def Blk.setBand (b : Blk) (i : Nat) (x : BandSt) : Blk :=
  { b with gnss := { b.gnss with bands := NMap.set b.gnss.bands i x BandSt.zero } }

/-- The front end runs: RF and notch filters are powered (R254). -/
def Blk.frontRuns (b : Blk) : Bool := b.gnssHost && b.flag F.GNSS_CTRL_EN 0 && b.pdState 49 == 4

/-- NOTCHES of a band, from its notches. -/
def Blk.countNotches (b : Blk) (i : Nat) : Blk :=
  b.setFld F.JAM_STAT_NOTCHES i ((List.range 8).filter fun k => b.flag F.NOTCH_ACTIVE (i * 8 + k)).length

/-- An engaged notch after a spectrum: it follows its line, and its low time runs while the line stands below
NOTCH_DB − 3 dB or is gone (R263). -/
def Blk.notchFollow (b : Blk) (i : Nat) (lines : List SpecLine) (k : Nat) : Blk :=
  if b.flag F.NOTCH_ACTIVE (i * 8 + k) then
    let line := lines.find? fun l => (l.notch.map (·.val)) == some k
    let b := match line with
      | some l => b.setSFld F.NOTCH_FREQ (i * 8 + k) l.freq
      | none => b
    let low := match line with
      | some l => decide (l.level + 30 < 10 * b.fld F.GNSS_JAM_CFG_NOTCH_DB 0)
      | none => true
    let x := b.band i
    let old := SMap.get x.low k none
    b.setBand i { x with low := NMap.set x.low k (if low then some (old.getD b.tb1) else none) none }
  else b

/-- The first free notch of a band. -/
def Blk.freeNotch (b : Blk) (i : Nat) : Option Nat := (List.range 8).find? fun k => !b.flag F.NOTCH_ACTIVE (i * 8 + k)

/-- A line put before the first weaker one. -/
def insertLine (x : SpecLine) : List SpecLine → List SpecLine
  | [] => [x]
  | y :: l => if y.level < x.level then x :: y :: l else y :: insertLine x l

/-- The lines, strongest first: free notches engage; the first line for which none is left starts a notch episode (R263). -/
def Blk.notchEngage (b : Blk) (i : Nat) : List SpecLine → Blk
  | [] => b
  | l :: rest =>
    match b.freeNotch i with
    | some k =>
      let b := (b.setFld F.NOTCH_ACTIVE (i * 8 + k) 1).setSFld F.NOTCH_FREQ (i * 8 + k) l.freq
      let x := b.band i
      (b.setBand i { x with low := NMap.set x.low k none none }).notchEngage i rest
    | none =>
      if (b.band i).full then b
      else
        (b.setBand i { b.band i with full := true }).raise 536 0x0A 0x02
          (i / 3 * 2 ^ 31 + i % 3 * 2 ^ 29 + min l.level 0xFFFF)

/-- SPECTRUM_SCAN (R263): the narrowband lines of a band, every 100 ms. -/
def Blk.spectrumScan (b : Blk) (ant : Bool) (band : Nat) (lines : List SpecLine) : Blk :=
  b.when (b.frontRuns && b.every (b.band (bandIdx ant band)).scanAt 100000000) fun b =>
    let i := bandIdx ant band
    let b := b.setBand i { b.band i with scanAt := some b.tb1 }
    let b := (List.range 8).foldl (fun b k => b.notchFollow i lines k) b
    let new := lines.filter fun l => l.notch.isNone && decide (10 * b.fld F.GNSS_JAM_CFG_NOTCH_DB 0 ≤ l.level)
    (b.notchEngage i (new.foldl (fun acc l => insertLine l acc) [])).countNotches i

/-- NOTCH_RELEASE (R263): the line of a notch has stood low for 1 s. -/
def Blk.notchRelease (b : Blk) (ant : Bool) (band k : Nat) : Blk :=
  let i := bandIdx ant band
  match SMap.get (b.band i).low k none with
  | none => b
  | some t =>
    b.when (b.frontRuns && b.flag F.NOTCH_ACTIVE (i * 8 + k) && decide (t + 1000000000 ≤ b.tb1)) fun b =>
      let x := b.band i
      let b := b.setBand i { x with full := false, low := NMap.set x.low k none none }
      ((b.setReg .NOTCH (i * 8 + k) 0)).countNotches i

/-- JAMMING of the baseband: any band is in an episode. -/
def Blk.showJam (b : Blk) : Blk :=
  b.setFlag F.GNSS_STATUS_JAMMING 0 ((List.range 6).any fun i => b.flag F.JAM_STAT_JAMMING i)

/-- JAM_EVALUATION (R264): gain reduction in 0.1 dB and spectral flatness of a band, every 100 ms. -/
def Blk.jamEvaluation (b : Blk) (ant : Bool) (band : Nat) (agc : Int) (sf : Nat) : Blk :=
  b.when (b.frontRuns && b.every (b.band (bandIdx ant band)).evalAt 100000000) fun b =>
    let i := bandIdx ant band
    let b := (b.setSFld F.JAM_STAT_AGC_DB i agc).setFld F.JAM_STAT_SF i (min sf 255)
    let jam := decide ((b.fld F.GNSS_JAM_CFG_AGC_JAM 0 : Int) ≤ agc) || decide (sf ≤ b.fld F.GNSS_JAM_CFG_SF_JAM 0)
    let x := b.band i
    let x := { x with jamN := if jam then x.jamN + 1 else 0, clearN := if jam then 0 else x.clearN + 1, evalAt := some b.tb1 }
    let b := b.setBand i x
    if b.flag F.JAM_STAT_JAMMING i then
      (if 10 ≤ x.clearN then b.setFld F.JAM_STAT_JAMMING i 0 else b).showJam
    else if 5 ≤ x.jamN then
      (b.setFld F.JAM_STAT_JAMMING i 1).showJam.raise 536 0x0A 0x01
        (i / 3 * 2 ^ 31 + i % 3 * 2 ^ 29 + min sf 255 * 2 ^ 16 + (BitVec.ofInt 16 agc).toNat)
    else b

/-! ## The navigation solution (R266 to R268) -/

/-- AGE_MAX_S, 1 to 60 s. -/
def Blk.ageMax (b : Blk) : Nat := max 1 (min 60 (b.fld F.GNSS_RTCM_CFG_AGE_MAX_S 0))

/-- Corrections are in use, not older than AGE_MAX_S (R271). -/
def Blk.corrFresh (b : Blk) : Bool :=
  match b.gnss.corrAt with
  | none => false
  | some t => decide (b.tb1 ≤ t + b.ageMax * 1000000000)

/-- STATUS of a solution (R267); before the first fix there is nothing to propagate. -/
def Blk.solStatus (b : Blk) (x : Solution) : Nat :=
  let corr := b.corrFresh
  if !b.flag F.GNSS_CTRL_EN 0 then 0
  else if decide (5 ≤ x.fixed) && x.carrier && corr && !b.gnss.refix then 4
  else if decide (4 ≤ x.nsv) && x.carrier && corr then 3
  else if decide (4 ≤ x.nsv) && x.code && corr then 2
  else if 4 ≤ x.nsv then 1
  else
    match b.gnss.fixAt with
    | some t => if x.ins ∧ b.tb1 ≤ t + b.fld F.GNSS_COAST_INS_MAX_S 0 * 1000000000 then 5 else 0
    | none => 0

/-- The heading solver accepts the moving baseline (R268). -/
def Blk.baseOk (b : Blk) (x : Solution) : Bool :=
  b.flag F.GNSS_CTRL_HEAD_EN 0 &&
    match x.base with
    | none => false
    | some (len, common) =>
      decide (5 ≤ common) && decide (((len : Int) - b.fld F.GNSS_BASE_BASE_MM 0).natAbs ≤ 20)

/-- An angle of 0.01° in 2^-40 rad. -/
def centi40 (a : Int) : Int := a * turn40 / 36000

/-- A vector of two components turned by an angle of 0.01°. -/
def turnCenti (a : Int) (x y : Rat) : Rat × Rat :=
  let c : Rat := (cos40 (centi40 a) : Rat) / 2 ^ 40
  let s : Rat := (sin40 (centi40 a) : Rat) / 2 ^ 40
  (c * x - s * y, s * x + c * y)

/-- A vector of the machine frame as north, east and up at a heading, a pitch and a roll of 0.01°: roll, then pitch, each about its
axis in the right-handed sense (logs 51, 52), then the heading, clockwise from north. -/
def levelNeu (hdg pitch roll : Int) (v : Vec) : Rat × Rat × Rat :=
  let r := turnCenti roll v.y v.z
  let q := turnCenti pitch r.2 v.x
  let w := turnCenti (-hdg) q.2 r.1
  (w.1, -w.2, q.1)

/-- The phase centre of an antenna in the machine frame (GNSS_LEVER). -/
def Blk.lever (b : Blk) (antB : Bool) : Vec :=
  let at_ := fun (k : Nat) => ((b.reg (if antB then .LEV_B else .LEV_A) k).toInt : Rat)
  ⟨at_ 0, at_ 1, at_ 2⟩

/-- The solution with the position moved from the antenna to the machine reference point (R266). -/
def Blk.atReference (b : Blk) (x : Solution) : Solution :=
  let v := b.lever x.ant
  if v = ⟨0, 0, 0⟩ then x
  else
    let p := levelNeu x.hdg x.pitch x.roll v
    { x with
      lat := x.lat - Config.northAngle x.lat x.hgt p.1, lon := x.lon - Config.eastAngle x.lat x.hgt p.2.1,
      hgt := x.hgt - p.2.2.floor }

/-- The navigation record (R266): 16 words. -/
def navRecord (status : Nat) (hdgV : Bool) (seq age t : Nat) (x : Solution) : List Word :=
  let i32 := fun (v : Int) => BitVec.ofInt 32 v
  let i16 := fun (v : Int) => (BitVec.ofInt 16 v).toNat
  let lo := fun (v : Int) => (BitVec.ofInt 64 v).extractLsb' 0 32
  let hi := fun (v : Int) => (BitVec.ofInt 64 v).extractLsb' 32 32
  let v := decide (1 ≤ status) && decide (x.hpe ≤ 500)
  [BitVec.ofNat 32 (v.toNat * 2 ^ 31 + status * 2 ^ 28 + hdgV.toNat * 2 ^ 27 + min x.nsv 255 * 2 ^ 16 + seq % 65536),
    BitVec.ofNat 32 age, BitVec.ofNat 32 t, BitVec.ofNat 32 (t / 2 ^ 32), lo x.lat, hi x.lat, lo x.lon, hi x.lon,
    i32 x.hgt, i32 x.vn, i32 x.ve, i32 x.vu, BitVec.ofNat 32 (x.hdgSd % 65536 * 65536 + x.hdg % 36000),
    BitVec.ofNat 32 (i16 x.pitch * 65536 + i16 x.roll), BitVec.ofNat 32 (min x.hpe 65535 * 65536 + min x.vpe 65535),
    BitVec.ofNat 32 x.sog]

/-- Four words as one flit. -/
def flitOf (l : List Word) (k : Nat) : BitVec 128 :=
  l.getD (4 * k + 3) 0 ++ l.getD (4 * k + 2) 0 ++ l.getD (4 * k + 1) 0 ++ l.getD (4 * k) 0

/-- NAV_SOLUTION (R266 to R268, R273): every 10 ms of TB1 the solver publishes a record, no later than 5 ms after its measurement
epoch, and measures TB0. -/
def Blk.navSolution (b : Blk) (x : Solution) : Blk :=
  b.when (b.gnssOn && b.every b.gnss.solAt 10000000 && decide (x.ago ≤ 5000000)) fun b =>
    let status := b.solStatus x
    let b := if b.baseOk x then { b with gnss := { b.gnss with headAt := some b.tb1 } } else b
    let hdgV := match b.gnss.headAt with
      | some t => b.flag F.GNSS_CTRL_HEAD_EN 0 && decide (b.tb1 < t + 200000000)
      | none => false
    let nav := navRecord status hdgV b.gnss.seq b.corrAge (b.tb 0 - x.ago) (b.atReference x)
    let g := b.gnss
    let b := { b with gnss := { g with
      nav := nav, seq := (g.seq + 1) % 65536, solAt := some b.tb1, refix := false, eph := x.eph,
      fixAt := if 1 ≤ status ∧ status ≤ 4 then some b.tb1 else g.fixAt,
      timeAt := if b.flag F.GNSS_CTRL_EN 0 && x.timing.isSome then some (g.timeAt.getD b.tb1) else none } }
    let b := b.setFlag F.GNSS_STATUS_AIDING 0 (x.ins && decide (1 ≤ status))
    let b := match x.leap with
      | some s => (b.setFld F.GNSS_LEAP_LEAP 0 s).setFld F.GNSS_LEAP_LEAP_V 0 1
      | none => b
    let b := match x.timing with
      | some e => if b.fld F.GNSS_STATUS_TIME_STATE 0 = 2 then b else { b with tbu := { b.tbu with tb0Err := e } }
      | none => b
    b.sendStream (b.fld F.GNSS_NAV_STREAM_STREAM 0) 536 ((List.range 4).map (flitOf nav))

/-- NAV_SNAP (R266): the latest record is copied whole. -/
def Blk.navSnap (b : Blk) : Blk :=
  b.gnss.nav.zipIdx.foldl (fun b w => b.setReg .GNSS_NAV w.2 w.1) b

/-! ## Corrections (R270, R271) -/

/-- A big-endian number. -/
def ofBeBytes (l : List Byte) : Nat := l.foldl (fun acc x => acc * 256 + x.toNat) 0

/-- `n` bits of an RTCM message from bit `off` on, the first bit being the highest. -/
def rtcmBits (m : List Byte) (off n : Nat) : Nat := ofBeBytes m / 2 ^ (8 * m.length - off - n) % 2 ^ n

/-- The message of a well-formed frame (R270): preamble, reserved bits, length and CRC-24Q hold. -/
def rtcmMessage (f : List Byte) : Option (List Byte) :=
  let h := (f.getD 1 0).toNat
  let len := h % 4 * 256 + (f.getD 2 0).toNat
  if f.getD 0 0 = 0xD3 ∧ h / 4 = 0 ∧ f.length = len + 6 ∧ 2 ≤ len ∧
      (crc24 (f.take (len + 3))).toNat = ofBeBytes (f.drop (len + 3)) then some ((f.drop 3).take len)
  else none

/-- Messages that R270 accepts. -/
def rtcmAccepted (n : Nat) : Bool :=
  [1005, 1006, 1033, 1230].contains n ||
    [107, 108, 109, 111, 112].any fun g => n == 10 * g + 4 || n == 10 * g + 5 || n == 10 * g + 7

/-- A multiple-signal message. -/
def isMsm (n : Nat) : Bool := rtcmAccepted n && decide (1070 ≤ n) && decide (n ≤ 1127)

/-- The open correction epoch closes: its corrections come into use (R271). -/
def Blk.epochEnd (b : Blk) : Blk :=
  match b.gnss.epochAt with
  | none => b
  | some t => { b with gnss := { b.gnss with epoch := [], epochAt := none, final := false, corrAt := some t } }

/-- The open correction epoch is complete (R271): its last message is final, or its first one came 200 ms ago. -/
def Blk.epochOver (b : Blk) : Bool :=
  match b.gnss.epochAt with
  | none => false
  | some t => b.gnss.final || decide (t + 200000000 ≤ b.tb1)

/-- A multiple-signal message that arrived at TB1 `at_` joins the open correction epoch; one that is complete closes before (R271). -/
def Blk.joinEpoch (b : Blk) (at_ : Nat) (m : List Byte) : Blk :=
  let b := if b.epochOver then b.epochEnd else b
  let g := b.gnss
  { b with gnss := { g with epoch := g.epoch ++ [m], epochAt := some (g.epochAt.getD at_),
                            final := rtcmBits m 54 1 == 0 } }

/-- The reference station in use is `id`: a change of it discards the fixed ambiguities (R271). -/
def Blk.useStation (b : Blk) (id : Nat) : Blk :=
  let changed := (b.gnss.stations.any fun s => s.2.isSome) && b.fld F.GNSS_RTCM_STAT_STATION 0 != id
  let b := b.setFld F.GNSS_RTCM_STAT_STATION 0 id
  if changed then
    { b with gnss := { b.gnss with
        refix := true, chans := b.gnss.chans.map fun c => (c.1, { c.2 with newAmb := true }) } }
  else b

/-- A reference station position (R271): frames held for the station join. -/
def Blk.station (b : Blk) (m : List Byte) (id : Nat) : Blk :=
  let b := b.useStation id
  let b := { b with gnss := { b.gnss with stations := NMap.set b.gnss.stations id (some m) none } }
  let ready := b.gnss.held.filter fun h => decide (h.1 = id) && decide (b.tb1 ≤ h.2.1 + 10000000000)
  let b := { b with gnss := { b.gnss with held := b.gnss.held.filter fun h => h.1 != id } }
  ready.foldl (fun b h => b.joinEpoch h.2.1 h.2.2) b

/-- RTCM_FRAME (R270, R271): a frame of the correction stream reaches the GNSS host. -/
def Blk.rtcmFrame (b : Blk) (f : List Byte) : Blk :=
  b.when (b.gnssOn) fun b =>
    match rtcmMessage f with
    | none => b.addSat F.GNSS_RTCM_CNT_DISCARD 0 1
    | some m =>
      let n := rtcmBits m 0 12
      if !rtcmAccepted n then b.addSat F.GNSS_RTCM_CNT_DISCARD 0 1
      else
        let b := b.incFld F.GNSS_RTCM_CNT_ACCEPT 0
        let id := rtcmBits m 12 12
        if n = 1005 ∨ n = 1006 then b.station m id
        else if isMsm n then
          if (SMap.get b.gnss.stations id none).isSome then (b.useStation id).joinEpoch b.tb1 m
          else { b with gnss := { b.gnss with held := b.gnss.held ++ [(id, b.tb1, m)] } }
        else b

/-- CORRECTION_EPOCH_CLOSE (R271): on a final MSM, or 200 ms after the first message. -/
def Blk.correctionClose (b : Blk) : Blk := b.when (b.gnssOn && b.epochOver) Blk.epochEnd

/-! ## TB0 (R273 to R275) -/

/-- TB0 is no longer valid; its slots are held (R47). -/
def Blk.tb0Invalid (b : Blk) : Blk :=
  let old := b.fld F.TBU_STATUS_TB_VALID 0
  let new := old - old % 2
  (b.setFld F.TBU_STATUS_TB_VALID 0 new).validChange old new b.enabledSlots

/-- TB0 goes to GNSS time `g` by the forward step or the hold of R275. -/
def Blk.tb0Reach (b : Blk) (g : Nat) : Blk :=
  if b.tb 0 ≤ g then { b with tbu := { b.tbu with tb0Jump := some g, tb0Hold := none } }
  else { b with tbu := { b.tbu with tb0Hold := some g, tb0Jump := none } }

/-- TIME_LOCK (R273): the timing error has been 50 ns or less since TB1 `since`, and every solution since has measured TB0; GNSS time
on this tick is `g`. -/
def Blk.timeLock (b : Blk) (since g : Nat) : Blk :=
  b.when (b.gnssRuns && b.fld F.GNSS_STATUS_TIME_STATE 0 == 0 && decide (since + 10000000000 ≤ b.tb1) &&
      (match b.gnss.timeAt with
        | some t => decide (t ≤ since)
        | none => false)) fun b =>
    let b := { b with gnss := { b.gnss with lockAt := b.tb1 } }
    (b.setFld F.GNSS_STATUS_TIME_STATE 0 1).tb0Reach g

/-- What TB0 was to take from the lock is withdrawn: it runs on the oscillator (R274). -/
def Blk.tb0Free (b : Blk) : Blk := { b with tbu := { b.tbu with tb0Hold := none, tb0Jump := none } }

/-- TB0 goes from LOCKED to HOLDOVER with `err` ns of accumulated error (R274). -/
def Blk.toHoldover (b : Blk) (err : Nat) : Blk :=
  let b := { b with
    gnss := { b.gnss with holdAt := b.tb1, lockNs := b.tb1 - b.gnss.lockAt },
    tbu := { b.tbu with tb0Hold := none, tb0Jump := none, tb0Drift := b.tbu.tb0Err } }
  let b := (b.setFld F.GNSS_STATUS_TIME_STATE 0 2).setReg .GNSS_HOLD_STAT 0 (BitVec.ofNat 32 (min err 65535))
  b.raise 536 0x0B 0x01 (min ((b.tb1 - b.gnss.lockAt) / 1000000000) 0xFFFFFFFF)

/-- The timing is lost (R274): a TB0 that is LOCKED goes to HOLDOVER; a return that is still under way is withdrawn. -/
def Blk.timeLost (b : Blk) (err : Nat) : Blk :=
  let b := { b with gnss := { b.gnss with timeAt := none } }
  if b.fld F.GNSS_STATUS_TIME_STATE 0 = 1 then b.toHoldover err
  else if b.fld F.GNSS_STATUS_TIME_STATE 0 = 2 then b.tb0Free
  else b

/-- HOLDOVER_ENTRY (R274): the timing solution is lost. -/
def Blk.holdoverEntry (b : Blk) (err : Nat) : Blk := b.when b.gnssOn fun b => b.timeLost err

/-- A lock has returned and TB0 has still to take GNSS time (R275). -/
def Blk.returning (b : Blk) : Bool := b.tbu.tb0Hold.isSome || b.tbu.tb0Jump.isSome

/-- HOLDOVER_LIMIT (R274): the estimated error is `err` ns; beyond a limit TB0 is not valid. Once lock
has returned HOLDOVER ends by R275. -/
def Blk.holdoverLimit (b : Blk) (err : Nat) : Blk :=
  b.when (b.aonRuns && b.fld F.GNSS_STATUS_TIME_STATE 0 == 2 && !b.returning) fun b =>
    let b := (b.setFld F.GNSS_HOLD_STAT_HOLD_ERR 0 (min err 65535)).setFld F.GNSS_HOLD_STAT_HOLD_S 0 b.holdS
    if b.fld F.GNSS_HOLD_HOLD_LIM 0 < err ∨ b.fld F.GNSS_HOLD_HOLD_MAX_S 0 < b.holdS then
      let b := { b with gnss := { b.gnss with timeAt := none } }.tb0Invalid.setFld F.GNSS_STATUS_TIME_STATE 0 0
      b.raise 536 0x0B 0x02 (b.holdS * 65536 + min err 65535)
    else b

/-- LOCK_RETURN (R275): lock returns in HOLDOVER; GNSS time on this tick is `g`. -/
def Blk.lockReturn (b : Blk) (g : Nat) : Blk :=
  b.when (b.gnssRuns && b.fld F.GNSS_STATUS_TIME_STATE 0 == 2 && !b.returning) fun b =>
    let off : Int := (b.tb 0 : Int) - g
    let b := b.setFld F.GNSS_HOLD_STAT_HOLD_S 0 b.holdS
    if off.natAbs ≤ 1000000 then
      let b := { b with
        gnss := { b.gnss with lockAt := b.tb1 }, tbu := { b.tbu with tb0Err := off * 1000 } }.setFld F.GNSS_STATUS_TIME_STATE 0 1
      if b.tbValid 0 then b else b.tb0Reach g
    else (b.tb0Invalid.raise 536 0x0B 0x03 (BitVec.ofInt 32 (satN 32 (off.tdiv 1000))).toNat).tb0Reach g

/-! ## PPS and NMEA (R277, R279) -/

/-- PPS_OUT is driven (R277): on a node other than the host the node's TB0 stands for the lock; it is not in reset (R434). -/
def Blk.ppsDriven (b : Blk) : Bool :=
  b.outOfReset &&
  let state := b.fld F.GNSS_STATUS_TIME_STATE 0
  let locked := if b.flag F.GNSS_CTRL_HOST 0 then state == 1 else b.tbValid 0
  match b.fld F.GNSS_PPS_MODE 0 with
  | 0 => false
  | 1 => locked
  | _ => locked || state == 2

/-- PPS_SECOND (R277): the last tick reached or passed a whole second of TB0; a step passes none that it skips. -/
def Blk.ppsSecond (b : Blk) : Blk :=
  b.when (b.aonRuns && b.ppsDriven && decide (b.gnss.ppsSec < b.tb 0 / 1000000000) &&
      decide (b.tbu.tb0Was / 1000000000 < b.tb 0 / 1000000000)) fun b =>
    { b with gnss := { b.gnss with pps := true, ppsSec := b.tb 0 / 1000000000 } }

/-- PPS_WIDTH_END (R277): WIDTH_MS after the second PPS_OUT is held low. -/
def Blk.ppsWidthEnd (b : Blk) : Blk :=
  let width := max 1 (min 500 (b.fld F.GNSS_PPS_WIDTH_MS 0))
  b.when (b.aonRuns && b.ppsDriven && decide (b.gnss.ppsSec * 1000000000 + width * 1000000 ≤ b.tb 0)) fun b =>
    { b with gnss := { b.gnss with pps := false } }

/-- The level of PPS_OUT: true is released (R277), as in reset (R434). -/
def Blk.ppsOut (b : Blk) : Bool := !b.ppsDriven || b.gnss.pps

/-- Output epochs per second (GNSS_NMEA.RATE). -/
def nmeaRate : Nat → Nat
  | 0 => 1 | 1 => 2 | 2 => 5 | _ => 10

/-- The output epoch of a value of TB0 (R279). -/
def Blk.nmeaEpoch (b : Blk) (t : Nat) : Nat := t * nmeaRate (b.fld F.GNSS_NMEA_RATE 0) / 1000000000

/-- NMEA_OUTPUT (R279, R280): at the tick that reaches or passes a multiple of 1 / RATE s of TB0 one datagram leaves. -/
def Blk.nmeaOutput (b : Blk) : Blk :=
  let epoch := b.nmeaEpoch (b.tb 0)
  b.when (b.gnssRuns && b.fld F.GNSS_NMEA_SENT 0 != 0 && decide (b.nmeaEpoch b.tbu.tb0Was < epoch) && epoch != b.gnss.nmea) fun b =>
    let utc := if b.tbValid 0 then some b.utcNs.toNat else none
    let text := nmeaDatagram ⟨b.gnss.nav, utc, b.fld F.GNSS_RTCM_STAT_STATION 0⟩ (b.fld F.GNSS_NMEA_SENT 0)
    let b := { b with gnss := { b.gnss with nmea := epoch } }
    let port := b.fld F.GNSS_NMEA_PORT 0
    b.ethSend (b.fld F.GNSS_NMEA_ETH 0) (.udp ⟨allNodes, port, port, text⟩)

/-! ## Enabling and the antennas (R281, R432) -/

/-- GNSS_ENABLE (R281): every channel starts in ACQ. -/
def Blk.gnssEnable (b : Blk) : Blk :=
  let was := b.flag F.GNSS_CTRL_EN 0
  let b := b.setFld F.GNSS_CTRL_EN 0 1
  b.when (!was && b.flag F.GNSS_CTRL_HOST 0) fun b =>
    (List.range 384).foldl (fun b c =>
      (b.setFld F.CH_STATUS_STATE c 1).setChan c { b.chan c with since := b.tb1, stop := false }) b

/-- GNSS_DISABLE (R281): channels stop at their next dump boundary, NMEA stops, and a locked TB0 enters HOLDOVER with
`err` ns of accumulated error. -/
def Blk.gnssDisable (b : Blk) (err : Nat) : Blk :=
  let was := b.flag F.GNSS_CTRL_EN 0
  let b := b.setFld F.GNSS_CTRL_EN 0 0
  b.when (was && b.flag F.GNSS_CTRL_HOST 0) fun b =>
    let b := (List.range 384).foldl (fun b c =>
      if b.chState c = 0 then b else b.setChan c { b.chan c with stop := true }) b
    b.timeLost err

/-- ANT_A and ANT_B supply their antennas (R432), but in reset (R434). -/
def Blk.antBias (b : Blk) : Bool := b.outOfReset

/-- ANTENNA_BIAS_FAULT (R432): the bias current of an antenna in µA. -/
def Blk.antennaBias (b : Blk) (ant : Bool) (ua : Nat) : Blk :=
  b.when b.aonRuns fun b =>
    b.setFlag (if ant then F.GNSS_STATUS_ANT_B_FLT else F.GNSS_STATUS_ANT_A_FLT) 0
      (decide (ua < 5000) || decide (100000 < ua))

end Sys2Proof.Machine
end

