-- ==== Sys2Proof/Machine/Fab.lean ====
section
/-!
DEFINITION. The Silkline fabric (spec chapter 13): ports and links, forwarding, requests and responses, coalescing of fault
records, transfers.
Readings and choices: logs 51, 54 to 56 of notes/assumptions.
-/

namespace Sys2Proof.Machine

/-! ## State -/

/-- Port `p` beyond its registers. -/
def Blk.port (b : Blk) (p : Nat) : PortSt := SMap.get b.fab.ports p PortSt.zero

/-- The block with port `p` at `x`. -/
def Blk.setPort (b : Blk) (p : Nat) (x : PortSt) : Blk :=
  { b with fab := { b.fab with ports := NMap.set b.fab.ports p x PortSt.zero } }

/-- STATE of port `p` (R301): 0 DISABLED, 1 DOWN, 2 TRAINING, 3 UP. -/
def Blk.portState (b : Blk) (p : Nat) : Nat := b.fld F.PORT_STATUS_STATE p

/-- Port `p` is UP. -/
def Blk.portUp (b : Blk) (p : Nat) : Bool := b.portState p == 3

/-- The routers run (R370, R446). -/
def Blk.fabRuns (b : Blk) : Bool := b.computeRuns && b.supply != 2

/-- The link of port `p` runs: its domain is ON and the compute side out of reset; a freeze does not stop it (R446). -/
def Blk.linkRuns (b : Blk) (p : Nat) : Bool :=
  (decide (b.mod.phase = .released) || decide (b.mod.phase = .running)) && b.supply != 2 && b.pdState (50 + p) == 4

/-- The UP ports. -/
def Blk.upPorts (b : Blk) : List Nat := (List.range 8).filter b.portUp

/-- Port `p` enters state `s`: the conductor is to be told (R301, R326). -/
def Blk.setPortState (b : Blk) (p s : Nat) : Blk :=
  let b := b.setFld F.PORT_STATUS_STATE p s
  { b with fab := { b.fab with topoDue := some (b.fab.topoDue.getD b.tb1) } }

/-- Something leaves on the link of port `p`. -/
def Blk.send (b : Blk) (p : Nat) (w : WireItem) : Blk :=
  let x := b.port p
  b.setPort p { x with wire := x.wire ++ [w] }

/-- A packet of this node that must leave through port `p`. -/
def Blk.emitAt (b : Blk) (p : Nat) (k : Packet) : Blk :=
  let x := b.port p
  b.setPort p { x with own := x.own ++ [k] }

/-- A port state has changed: the conductor is to be told within 1 ms (R326). -/
def Blk.topoChange (b : Blk) : Blk := { b with fab := { b.fab with topoDue := some (b.fab.topoDue.getD b.tb1) } }

/-! ## Packets (R304, R305, R309) -/

/-- Credit class of a packet (R305). -/
def classOf (k : Packet) : CrClass :=
  match k.type.toNat with
  | 1 => .vc0Req
  | 2 => .vc0Rsp
  | 3 => if k.vc = 2 then .vc2Req else .vc0Req
  | 4 => if k.vc = 2 then .vc2Rsp else .vc0Rsp
  | 5 => .vc1
  | 12 => .vc2Req
  | _ => .vc3

/-- The class's place in a credit list. -/
def CrClass.idx : CrClass → Nat
  | .vc0Req => 0
  | .vc0Rsp => 1
  | .vc1 => 2
  | .vc2Req => 3
  | .vc2Rsp => 4
  | .vc3 => 5

/-- The classes in the order in which an egress port serves them (R312). -/
def classOrder : List CrClass := [.vc0Rsp, .vc0Req, .vc1, .vc3, .vc2Rsp, .vc2Req]

/-- Flits of a packet. -/
def flits (k : Packet) : Nat := 1 + k.payload.length

/-- LEN lies within the limits of the type (R305); reserved types have none. -/
def lenOk (k : Packet) : Bool :=
  let n := k.len.toNat
  match k.type.toNat with
  | 1 => n == 1
  | 2 => decide (n ≤ 1)
  | 3 => decide (1 ≤ n) && decide (n ≤ (if k.vc = 2 then 32 else 1))
  | 4 => n == 0
  | 5 => decide (1 ≤ n) && decide (n ≤ 4)
  | 6 | 7 | 8 | 10 | 11 => n == 1
  | 9 => decide (1 ≤ n) && decide (n ≤ 8)
  | 12 => decide (2 ≤ n) && decide (n ≤ 32)
  | _ => false

/-- PCRC of a packet (R304): over the payload flits, 0 without any. -/
def payloadCrc (k : Packet) : BitVec 16 :=
  if k.payload.isEmpty then 0 else k.payload.foldl (fun c v => crc16Bits v.toNat 128 c) 0xFFFF#16

/-- Bits [127:16] of a header flit (R304). -/
def headerBits (k : Packet) (pcrc : BitVec 16) : BitVec 112 :=
  k.type ++ k.vc ++ k.dest ++ k.src ++ k.smaster ++ k.len ++ k.tag ++ k.addr ++ k.status ++ k.sz ++ BitVec.ofBool k.down ++ k.hops ++
    pcrc

/-- HCRC of a header flit whose PCRC is `pcrc` (R304). -/
def headerCrc (k : Packet) (pcrc : BitVec 16) : BitVec 16 := crc16Bits (headerBits k pcrc).toNat 112 0xFFFF#16

/-- The CRC of a control flit with CTYPE `type` and content [119:16] (R308). -/
def controlCrc (type : Nat) (content : Nat) : BitVec 16 := crc16Bits (type * 2 ^ 104 + content) 112 0xFFFF#16

/-- Content of a TRAIN flit (R308). -/
def trainBits (port node marker preset : Nat) : Nat := port * 2 ^ 101 + node * 2 ^ 92 + marker * 2 ^ 88 + preset * 2 ^ 86

/-- Content of a FREEZE flit (R308). -/
def freezeBits (id origin : Nat) : Nat := id * 2 ^ 88 + origin * 2 ^ 79

/-- Content of a CREDIT flit: the credits returned, by class, in the order of R309 (R308). -/
def creditBits (n : List Nat) : Nat := n.zipIdx.foldl (fun acc x => acc + x.1 * 2 ^ (96 - 8 * x.2)) 0

/-- Six counts of 8 bits, which is what a CREDIT flit holds (R308). -/
def creditOk (n : List Nat) : Bool := n.length == 6 && n.all fun x => decide (x < 256)

/-- A request: RD_REQ or WR_REQ. -/
def isRequest (k : Packet) : Bool := k.type == 1 || k.type == 3

/-! ## Errors on a link (R307) -/

/-- An HCRC or PCRC error at port `p`: 16 within 1 ms start an error episode with one record. -/
def Blk.crcError (b : Blk) (p : Nat) : Blk :=
  let x := b.port p
  let errs := ((b.tb1 :: x.errs).filter fun t => decide (b.tb1 < t + 1000000)).take 16
  let start := errs.length == 16 && !x.episode
  let b := b.setPort p { x with errs := errs, lastErr := b.tb1, episode := x.episode || start }
  if start then b.raise 595 0x0C 0x02 (p * 2 ^ 29 + 16) else b

/-- CRC_EPISODE_END (R307): 100 ms without errors. -/
def Blk.crcEpisodeEnd (b : Blk) (p : Nat) : Blk :=
  let x := b.port p
  b.when (x.episode && decide (x.lastErr + 100000000 ≤ b.tb1)) fun b => b.setPort p { x with episode := false, errs := [] }

/-- The header of a packet that arrives at port `p` fails HCRC: it is discarded (R307). -/
def Blk.badHeader (b : Blk) (p : Nat) : Blk := (b.addSat F.PORT_ERR_HCRC p 1).crcError p

/-- The payload of a packet that arrives at port `p` fails PCRC (R307). -/
def Blk.badPayload (b : Blk) (p : Nat) (bad : Bool) : Blk :=
  if bad then (b.addSat F.PORT_ERR2_PCRC p 1).crcError p else b

/-- A packet is discarded at ingress `p`, 8 being the local node (R305, R328, R334). -/
def Blk.discard (b : Blk) (p : Nat) : Blk := if p < 8 then b.addSat F.PORT_ERR2_DISCARD p 1 else b

/-! ## Credits (R309 to R311) -/

/-- A list with `n` added at place `i`. -/
def addAt (l : List Nat) (i n : Nat) : List Nat := l.zipIdx.map fun x => if x.2 = i then x.1 + n else x.1

/-- A list with `n` taken away at place `i`. -/
def subAt (l : List Nat) (i n : Nat) : List Nat := l.zipIdx.map fun x => if x.2 = i then x.1 - n else x.1

/-- The flits of a packet leave the ingress buffer of port `p`: their credits are to be returned (R311). -/
def Blk.consume (b : Blk) (p : Nat) (k : Packet) : Blk :=
  if p < 8 then
    let x := b.port p
    b.setPort p { x with owed := addAt x.owed (classOf k).idx (flits k), owedAt := some (x.owedAt.getD b.tb1) }
  else b

/-- CREDIT_FLIT (R308, R311): credits come back, by class. -/
def Blk.creditFlit (b : Blk) (p : Nat) (n : List Nat) (crcOk : Bool) : Blk :=
  b.when (b.linkRuns p && !b.frozen && b.portUp p && crcOk && creditOk n) fun b =>
    let x := b.port p
    b.setPort p { x with credits := n.zipIdx.foldl (fun acc y => addAt acc y.2 y.1) x.credits }

/-- CREDIT_SEND (R311): a class has 8 credits pending, or the oldest has waited 26 ns. Frozen, a link sends IDLE flits only (R446). -/
def Blk.creditSend (b : Blk) (p : Nat) : Blk :=
  let x := b.port p
  let due := x.owed.any (fun n => decide (8 ≤ n)) || (match x.owedAt with
    | some t => decide (t + 26 ≤ b.tb1)
    | none => false)
  b.when (b.linkRuns p && !b.frozen && b.portUp p && due && x.owed.any (fun n => decide (0 < n))) fun b =>
    b.setPort p { x with owed := [0, 0, 0, 0, 0, 0], owedAt := none, wire := x.wire ++ [.credit x.owed] }

/-! ## Coalescing (R330 to R332) -/

/-- The subject of a record (R330). -/
def recSubject (r : FaultRec) : Nat := if r.cls = 0x0D then r.data.toNat / 2 ^ 23 else r.node.toNat

/-- Two records have one key (R330). -/
def sameKey (r s : FaultRec) : Bool := recSubject r == recSubject s && r.cls == s.cls && r.detail == s.detail

/-- A window whose 1 ms has passed at TB1 `now`. -/
def Window.excess (w : Window) (now : Nat) : Bool := decide (w.at_ + 1000000 ≤ now)

/-- A record passes a coalescing table (R331, R332): the table after it, what is forwarded, and whether the table was
full. A window whose end falls on this tick counts no record and its entry is free. -/
def coalesce (now : Nat) (t : List Window) (r : FaultRec) : List Window × Option FaultRec × Bool :=
  if r.count ≠ 1 then (t, some r, false)
  else if t.any (fun w => sameKey w.first r && !w.excess now) then
    (t.map fun w => if sameKey w.first r && !w.excess now then { w with more := w.more + 1, last := r.time } else w, none, false)
  else if (t.filter fun w => !w.excess now).length ≥ 64 then (t, some { r with count := 0 }, true)
  else (t ++ [⟨r, now, 0, r.time⟩], some r, false)

/-- The summary record of a window, if a record was counted (R331). -/
def Window.summary (w : Window) : Option FaultRec :=
  if w.more = 0 then none else some { w.first with count := BitVec.ofNat 13 (min 8191 (1 + w.more)), time := w.last }

/-- The record of a FAULT packet's payload (R24, R330). -/
def recOf (v : BitVec 128) : FaultRec :=
  { time := v.extractLsb' 80 48, node := v.extractLsb' 71 9, source := v.extractLsb' 61 10, count := v.extractLsb' 48 13,
    cls := v.extractLsb' 40 8, detail := v.extractLsb' 32 8, data := v.extractLsb' 0 32 }

/-- A record that reaches the conductor passes its local table into its fault log (R26, R330). -/
def Blk.deliverRec (b : Blk) (r : FaultRec) : Blk :=
  let (t, out, full) := coalesce b.tb1 b.fab.coal r
  let b := { b with fab := { b.fab with coal := t } }
  let b := if full then b.addSat F.FAB_COAL_LOCAL_OVF 0 1 else b
  match out with
  | some r => b.logFault r
  | none => b

/-- The FAULT packet of a record to the conductor. -/
def Blk.faultPacket (b : Blk) (r : FaultRec) : Packet :=
  b.newPacket 6 3 (b.fld F.FAB_STATUS_CONDUCTOR 0) 595 0 0 2 [r.bits]

/-- COALESCE_WINDOW_END (R331): the first window over in the table of port `p`, 8 being the conductor's own. -/
def Blk.coalesceEnd (b : Blk) (p : Nat) : Blk :=
  let t := if p < 8 then (b.port p).coal else b.fab.coal
  match t.find? (·.excess b.tb1) with
  | none => b
  | some w =>
    let rest := t.erase w
    if p < 8 then
      let b := b.setPort p { b.port p with coal := rest }
      match w.summary with
      | some r => b.emitAt p (b.faultPacket r)
      | none => b
    else
      let b := { b with fab := { b.fab with coal := rest } }
      match w.summary with
      | some r => b.logFault r
      | none => b

/-! ## Responses and completions (R306, R314, R315) -/

/-- Of the TIMEOUT episodes those that `ends` names end: one whose record is raised is gone, another stays until it is (R333). -/
def endDead (ends : DeadNode → Bool) (l : List DeadNode) : List DeadNode :=
  (l.filter fun d => !(ends d && d.raised)).map fun d => if ends d then { d with ended := true } else d

/-- The completion of a request of this node reaches whoever waits: any STATUS other than OK is a refusal (R306). -/
def Blk.finish (b : Blk) (o : Outst) (status : Nat) (data : BitVec 128) : Blk :=
  let b := { b with fab := { b.fab with outst := b.fab.outst.erase o } }
  let b := if status = 0 then { b with fab := { b.fab with dead := endDead (fun d => d.subject == o.dest) b.fab.dead } } else b
  match o.who with
  | .transfer x _ => b.xferDone x status
  | w => b.answer ⟨w, o.op, if status = 0 then .ok else .nak status, if status = 0 then data else 0⟩

/-- A request that ends before its destination is answered to its source with a status (R328, R334). -/
def Blk.nak (b : Blk) (k : Packet) (status : Nat) : Blk :=
  let op := if k.type = 1 then AccOp.read else AccOp.write
  if k.src.toNat = b.node then
    match b.fab.outst.find? (fun o => o.mid == k.smaster.toNat && o.tag == k.tag.toNat) with
    | some o => b.finish o status 0
    | none => b
  else b.emit (b.response op k.vc.toNat k.src.toNat k.smaster.toNat k.tag.toNat status k.sz.toNat 0)

/-! ## The best conductor (R320 to R322) -/

/-- A liveness sequence is newer than another, both of 32 bits. -/
def seqNewer (a b : Nat) : Bool :=
  let d := (a + 2 ^ 32 - b) % 2 ^ 32
  decide (0 < d) && decide (d < 2 ^ 31)

/-- A conductor or candidate as this node knows it: its sequence is 0 while it only stands for election; `port` is none for
this node itself. -/
structure Cand where
  node  : Nat
  prio  : Nat
  seq   : Nat
  links : Nat
  port  : Option Nat
deriving DecidableEq, Repr

/-- Conductor `n` with sequence `seq` is treated as lost (R322). -/
def Blk.isLost (b : Blk) (n seq : Nat) : Bool := b.fab.lost.any fun x => x.1 == n && !seqNewer seq x.2

/-- What the partners advertise. A partner that knows of no conductor says so with sequence 0 over 15 links. -/
def Blk.heardCands (b : Blk) : List Cand :=
  b.upPorts.filterMap fun p =>
    match (b.port p).heard with
    | none => none
    | some h =>
      if h.best = b.node ∨ h.links = 15 ∨ (h.seq ≠ 0 ∧ b.isLost h.best h.seq) then none
      else some ⟨h.best, h.prio, h.seq, h.links + 1, some p⟩

/-- What this node itself stands for: a holder of the role, or a candidate while no node holds it (R321, R322). -/
def Blk.ownCand (b : Blk) : List Cand :=
  if b.fab.holds then [⟨b.node, b.fld F.FAB_CFG_COND_PRIO 0, b.fab.live, 0, none⟩]
  else if b.flag F.FAB_CFG_CAND 0 ∧ !b.heardCands.any (·.seq != 0) then [⟨b.node, b.fld F.FAB_CFG_COND_PRIO 0, 0, 0, none⟩]
  else []

/-- `x` comes before `y`: the higher COND_PRIO, then the lower address; for one conductor the newer sequence, then fewer
links, then the lower port (R321). -/
def Cand.before (x y : Cand) : Bool :=
  if x.prio ≠ y.prio then decide (y.prio < x.prio)
  else if x.node ≠ y.node then decide (x.node < y.node)
  else if x.seq ≠ y.seq then seqNewer x.seq y.seq
  else if x.links ≠ y.links then decide (x.links < y.links)
  else decide (x.port.getD 8 < y.port.getD 8)

/-- The first of a list. -/
def firstCand : List Cand → Option Cand
  | [] => none
  | x :: l =>
    match firstCand l with
    | none => some x
    | some y => if y.before x then some y else some x

/-- The best conductor (R321): of the nodes that hold the role, else of the candidates. -/
def Blk.best (b : Blk) : Option Cand :=
  let l := b.ownCand ++ b.heardCands
  match firstCand (l.filter (·.seq != 0)) with
  | some x => some x
  | none => firstCand l

/-- Port `p` is an up link from this node at depth `links` (R326): its partner is nearer to the conductor, or as near with
a lower address. -/
def Blk.leadsUp (b : Blk) (x : Cand) (p : Nat) : Bool :=
  match (b.port p).heard with
  | some h => b.portUp p && h.best == x.node &&
      (decide (h.links < x.links) || (h.links == x.links && decide (h.sender < b.node)))
  | none => false

/-- FAB_STATUS and PORT_STATUS show the best conductor; a new one is told the topology, and a holder that knows of a better
one gives the role up (R321, R322, R326). -/
def Blk.updateBest (b : Blk) : Blk :=
  let was := if b.flag F.FAB_STATUS_COND_V 0 then some (b.fld F.FAB_STATUS_CONDUCTOR 0) else none
  match b.best with
  | none =>
    let b := (b.setFld F.FAB_STATUS_COND_V 0 0)
    let b := (List.range 8).foldl (fun b p => (b.setFld F.PORT_STATUS_PARENT p 0).setFld F.PORT_STATUS_UP_LINK p 0) b
    { b with fab := { b.fab with candAt := none } }
  | some x =>
    let held := x.seq != 0
    let b := (b.setFld F.FAB_STATUS_CONDUCTOR 0 x.node).setFlag F.FAB_STATUS_COND_V 0 held
    let b := (List.range 8).foldl (fun b p =>
      (b.setFlag F.PORT_STATUS_PARENT p (x.port == some p)).setFlag F.PORT_STATUS_UP_LINK p (b.leadsUp x p)) b
    let own := x.port.isNone
    let b := { b with fab := { b.fab with
      holds := b.fab.holds && own
      was := if held && !own then none else b.fab.was
      candAt := if own && !held then some (b.fab.candAt.getD b.tb1) else none } }
    if held ∧ was ≠ some x.node then
      { b with fab := { b.fab with seq := x.seq, seqAt := b.tb1 } }.topoChange
    else if held ∧ seqNewer x.seq b.fab.seq then { b with fab := { b.fab with seq := x.seq, seqAt := b.tb1 } }
    else b

/-! ## Routing (R327 to R329) -/

/-- The route entry for a node. -/
def Blk.routeEntry (b : Blk) (n : Nat) : Nat := b.fld F.FAB_ROUTE_ENTRY n

/-- The parent port (R321). -/
def Blk.parentPort (b : Blk) : Option Nat := (List.range 8).find? fun p => b.flag F.PORT_STATUS_PARENT p

/-- The UP ports whose partner names this node as its parent (R329). -/
def Blk.childPorts (b : Blk) : List Nat :=
  b.upPorts.filter fun p => match (b.port p).heard with
    | some h => h.parent == some b.node
    | none => false

/-- Where a packet goes from here. -/
inductive RouteTo where
  | here
  | port (p : Nat)
  /-- Out of every port that leads to a child, once (R329). -/
  | flood (l : List Nat)
  | none
deriving DecidableEq, Repr

/-- The way of a packet (R327, R329): by its route entry; to the conductor without a route through the parent port; from
the conductor to a node without a route through every child. -/
def Blk.routeTo (b : Blk) (k : Packet) : RouteTo :=
  let n := k.dest.toNat
  let e := b.routeEntry n
  if n = b.node then .here
  else if e.testBit 15 then .port (bitsOf e 12 3)
  else if b.flag F.FAB_STATUS_COND_V 0 ∧ n = b.fld F.FAB_STATUS_CONDUCTOR 0 then
    match b.parentPort with
    | some p => .port p
    | none => .none
  else if b.flag F.FAB_STATUS_COND_V 0 ∧ k.src.toNat = b.fld F.FAB_STATUS_CONDUCTOR 0 ∧ !b.childPorts.isEmpty then
    .flood b.childPorts
  else .none

/-- A packet that waits for egress `e`: its ingress (8 local), the packet and its PCRC, and whether it has to leave there whatever
the route says. -/
structure Ready where
  ingress : Nat
  pkt     : Packet
  pcrc    : BitVec 16
  own     : Bool
deriving DecidableEq, Repr

/-- A packet of this node with its PCRC (R304). -/
def freshWaiting (k : Packet) : Waiting := ⟨k, payloadCrc k⟩

/-- The first packet of each class in an ingress queue. -/
def headsOf (l : List Waiting) : List Waiting :=
  classOrder.filterMap fun c => l.find? fun w => classOf w.pkt == c

/-- The packets ready for egress `e`: the first of each class of every ingress, where the route leads to `e` (R312). -/
def Blk.readyFor (b : Blk) (e : Nat) : List Ready :=
  let dest := fun (k : Packet) => match b.routeTo k with
    | .port p => p == e
    | _ => false
  let rx := ((List.range 8).map fun p => (headsOf (b.port p).rx).filterMap fun w =>
    if dest w.pkt then some (Ready.mk p w.pkt w.pcrc false) else none).flatten
  let own := (headsOf ((b.port e).own.map freshWaiting)).map fun w => Ready.mk 8 w.pkt w.pcrc true
  let here := (headsOf (b.bus.egress.map freshWaiting)).filterMap fun w =>
    if dest w.pkt then some (Ready.mk 8 w.pkt w.pcrc false) else none
  rx ++ own ++ here

/-- The egress port holds credits for all flits of the packet (R310). -/
def Blk.hasCredit (b : Blk) (e : Nat) (k : Packet) : Bool :=
  decide (flits k ≤ (b.port e).credits.getD (classOf k).idx 0)

/-- Of packets of one class the one whose ingress comes first in round-robin order after ingress `last` (R312). -/
def roundRobin (last : Nat) (l : List Ready) : Option Ready :=
  (List.range 9).findSome? fun k => l.find? fun r => r.ingress == (last + 1 + k) % 9

/-- The packet that egress `e` starts next (R312). -/
def Blk.nextStart (b : Blk) (e : Nat) : Option Ready :=
  let l := (b.readyFor e).filter fun r => b.hasCredit e r.pkt
  let x := b.port e
  let pick := fun (c : CrClass) => roundRobin (x.turn.getD c.idx 8) (l.filter fun r => classOf r.pkt == c)
  match (if x.skips ≥ 16 then pick .vc2Req else none) with
  | some r => some r
  | none => classOrder.findSome? pick

/-- The packet leaves its queue. -/
def Blk.unqueue (b : Blk) (e : Nat) (r : Ready) : Blk :=
  if r.own then
    let x := b.port e
    b.setPort e { x with own := x.own.erase r.pkt }
  else if r.ingress < 8 then
    let x := b.port r.ingress
    (b.setPort r.ingress { x with rx := x.rx.erase ⟨r.pkt, r.pcrc⟩ }).consume r.ingress r.pkt
  else { b with bus := { b.bus with egress := b.bus.egress.erase r.pkt } }

/-- Port `e` leads up (R326). -/
def Blk.upLink (b : Blk) (e : Nat) : Bool := b.flag F.PORT_STATUS_UP_LINK e

/-- A router may send the packet through port `e` (R328). -/
def Blk.legal (b : Blk) (e : Nat) (k : Packet) : Bool := !(k.down && b.upLink e) && k.hops != 15

/-- The packet as it leaves through port `e` (R307). -/
def Blk.leaving (b : Blk) (e : Nat) (k : Packet) : Packet :=
  { k with hops := k.hops + 1, down := k.down || !b.upLink e }

/-- A SYNC carries FT at its departure (R336); every other packet leaves as it was made. -/
def Blk.stamped (b : Blk) (k : Packet) : Packet :=
  if k.type = 10 ∧ k.addr.toNat % 4 = 0 then { k with payload := [BitVec.ofNat 128 (b.ft * 2 ^ 64)] } else k

/-- The packet goes out on port `e` behind its header flit, whose HCRC is written afresh, with PCRC `pcrc` (R304, R307, R310). -/
def Blk.putOut (b : Blk) (e : Nat) (k : Packet) (pcrc : BitVec 16) : Blk :=
  let x := b.port e
  let out := b.leaving e k
  let b := b.setPort e { x with
    credits := subAt x.credits (classOf k).idx (flits k), wire := x.wire ++ [.packet out pcrc (headerCrc out pcrc)] }
  b.setFld F.PORT_FLITS_TX e (b.fld F.PORT_FLITS_TX e + flits k)

/-- The packet leaves through port `e` (R310, R314, R330): an outstanding request notes its port and time; a FAULT packet whose
payload is sound passes the port's coalescing table first; one that failed its PCRC goes on as it is (R307, log 54). -/
def Blk.transmit (b : Blk) (e : Nat) (k : Packet) (pcrc : BitVec 16) : Blk :=
  if k.type = 6 ∧ pcrc = payloadCrc k then
    let x := b.port e
    let (t, r, full) := coalesce b.tb1 x.coal (recOf (k.payload.getD 0 0))
    let b := b.setPort e { x with coal := t }
    let b := if full then b.addSat F.PORT_COAL_OVF e 1 else b
    match r with
    | some r =>
      let k := { k with payload := [r.bits] }
      b.putOut e k (payloadCrc k)
    | none => b
  else
    let k' := b.stamped k
    let b := b.putOut e k' (if k' = k then pcrc else payloadCrc k')
    if k.src.toNat = b.node ∧ isRequest k then
      { b with fab := { b.fab with outst := b.fab.outst.map fun (o : Outst) =>
        if o.mid = k.smaster.toNat ∧ o.tag = k.tag.toNat then { o with port := e, at_ := b.tb1 } else o } }
    else b

/-- Egress `e` starts its next packet (R310, R312). -/
def Blk.startNext (b : Blk) (e : Nat) : Blk :=
  if !b.portUp e then b
  else
    match b.nextStart e with
    | none => b
    | some r =>
      let waits := (b.readyFor e).any fun s => classOf s.pkt == .vc2Req && b.hasCredit e s.pkt && s != r
      let c := classOf r.pkt
      let x := b.port e
      let b := b.setPort e { x with
        skips := if c = .vc2Req ∨ !waits then 0 else x.skips + 1
        turn := x.turn.zipIdx.map fun y => if y.2 = c.idx then r.ingress else y.1 }
      (b.unqueue e r).transmit e r.pkt r.pcrc

/-- What becomes of a packet that cannot be sent on (R328, R332, R334). -/
inductive Stuck where
  /-- It waits for its turn, or has a way. -/
  | no
  /-- It is discarded, and a request answered with this status. -/
  | drop (status : Nat)
  /-- A fault record waits for a conductor. -/
  | queue
deriving DecidableEq, Repr

/-- A packet at the head of its queue that cannot go anywhere: no legal route, or a disabled port; a fault record waits in the queue
of R332 while no node holds the role (R323, R328, R334). -/
def Blk.stuck (b : Blk) (k : Packet) : Stuck :=
  match b.routeTo k with
  | .here | .flood _ => .no
  | .none => if k.type = 6 ∧ !b.condKnown then .queue else .drop 3
  | .port e => if b.portState e = 0 then .drop 2 else if b.legal e k then .no else .drop 3

/-- A stuck packet is discarded, a request answered (R328, R334). It counts at the port it came in through, and one of this node at
the port that its route entry names (log 54). -/
def Blk.dropStuck (b : Blk) (ingress : Nat) (k : Packet) (status : Nat) : Blk :=
  let b := b.consume ingress k
  let e := bitsOf (b.routeEntry k.dest.toNat) 12 3
  let at_ := if ingress < 8 then ingress else e
  if isRequest k then
    let b := if status = 2 then b.addSat F.PORT_NAK_NAK_DOWN e 1 else b.discard at_
    b.nak k status
  else if status = 2 then b.discard e else b.discard at_

/-- A packet without a route goes once out of every port that leads to a child (R329). -/
def Blk.spread (b : Blk) (ingress : Nat) (k : Packet) (l : List Nat) : Blk :=
  l.foldl (fun b e => b.emitAt e k) (b.consume ingress k)

/-- One flit of a sample is written under master `mid`; answers whether it was refused (R317). -/
def Blk.streamWrite (b : Blk) (mid a : Nat) (v : BitVec 128) (e : Nat) : Blk × Bool :=
  match b.gate mid .write a 128 with
  | some d => (b.refuse mid d (denyData .write a), true)
  | none => (b.enqueue ⟨.stream e, mid, .write, a, 128, v, b.edgeNow a⟩, false)

/-- A sample is delivered through receive entry `e`: flits 1 on first, flit 0 last (R317). -/
def Blk.streamDeliver (b : Blk) (mid e : Nat) (payload : List (BitVec 128)) : Blk :=
  let a := b.fld F.SRX_ADDR_HI_ADDR e * 2 ^ 32 + (b.reg .SRX_ADDR_LO e).toNat
  let order := payload.zipIdx.drop 1 ++ payload.zipIdx.take 1
  let b := order.foldl (fun b v =>
    let (b, bad) := b.streamWrite mid (a + 16 * v.2) v.1 e
    if bad then b.addSat F.SRX_CNT_DROP e 1 else b) b
  b.incFld F.SRX_CNT_RECV e

/-- A sample finds its receive entry (R317). -/
def Blk.streamMatch (b : Blk) (mid : Nat) (k : Packet) : Blk :=
  match (List.range 1024).find? fun e => b.flag F.SRX_CFG_EN e && b.reg .SRX_CFG e &&& 0xFFFF == k.addr.setWidth 32 &&& 0xFFFF with
  | none => b.addSat F.FAB_SRX_MISS_MISS 0 1
  | some e =>
    if b.fld F.SRX_CFG_LEN_M1 e + 1 ≠ k.payload.length then b.addSat F.FAB_SRX_MISS_MISS 0 1
    else b.streamDeliver mid e k.payload

/-- A packet of this node to itself: a sample is delivered here, under the master that sends it (log 54); any other has no taker and
is dropped. -/
def Blk.toSelf (b : Blk) (k : Packet) : Blk := if k.type = 5 then b.streamMatch (b.unitMaster k.smaster.toNat) k else b

/-- What becomes of a packet that waits for no port of its own: stuck it is dropped or queued, without a route it is spread, for this
node itself it is delivered; else it waits on. `take` takes it out of its queue. -/
def Blk.clearOne (b : Blk) (ingress : Nat) (k : Packet) (take : Blk → Blk) : Blk :=
  match b.stuck k, b.routeTo k with
  | .drop s, _ => (take b).dropStuck ingress k s
  | .queue, _ => ((take b).consume ingress k).holdRec (recOf (k.payload.getD 0 0))
  | .no, .flood l => (take b).spread ingress k (l.filter (· ≠ ingress))
  | .no, .here => ((take b).consume ingress k).toSelf k
  | .no, _ => b

/-- The packets of port `p`'s own queue that may not leave through it are discarded (R328). -/
def Blk.clearOwn (b : Blk) (p : Nat) : Blk :=
  (b.port p).own.foldl (fun b k =>
    if b.legal p k then b
    else
      let b := (b.setPort p { b.port p with own := (b.port p).own.erase k }).discard p
      if isRequest k then b.nak k 3 else b) b

/-- The stuck packets of every queue are cleared, and those without a route spread (R328, R329, R334). -/
def Blk.clearStuck (b : Blk) : Blk :=
  let b := (List.range 8).foldl (fun b p =>
    (b.port p).rx.foldl (fun b w =>
      b.clearOne p w.pkt fun b => b.setPort p { b.port p with rx := (b.port p).rx.erase w }) b) b
  let b := b.bus.egress.foldl (fun b k =>
    b.clearOne 8 k fun b => { b with bus := { b.bus with egress := b.bus.egress.erase k } }) b
  (List.range 8).foldl Blk.clearOwn b

/-- A packet as it comes in: port, packet, whether HCRC holds, and PCRC. -/
def Blk.arrive (b : Blk) (p : Nat) (k : Packet) (hcrc : Bool) (pcrc : BitVec 16) : Blk :=
  if !b.portUp p then b
  else if !hcrc then (b.badHeader p).consume p k
  else if !lenOk k then (b.discard p).consume p k
  else
    let b := b.badPayload p (pcrc != payloadCrc k)
    let x := b.port p
    b.setPort p { x with rx := x.rx ++ [⟨k, pcrc⟩] }

/-- The packet ends at this node, where the command of its type takes it: it is sound in form and addressed here, or a
BEACON, which no router forwards (R305). -/
def Blk.endsHere (b : Blk) (k : Packet) : Bool := lenOk k && (k.dest.toNat == b.node || k.type == 7)

/-- PACKET_FORWARD (R307, R310, R312, R313, R328): a header that has arrived is checked; packets with no legal way are
cleared; egress `e` starts its next packet. -/
def Blk.packetForward (b : Blk) (e : Nat) (arr : Option (Fin 8 × Packet × Bool × BitVec 16)) : Blk :=
  b.when b.fabRuns fun b =>
    let b := match arr with
      | some (p, k, h, c) => if h && b.endsHere k then b else b.arrive p.val k h c
      | none => b
    b.clearStuck.startNext e

/-! ## Requests (R314, R315) -/

/-- A tag that master `mid` has free (R314). -/
def Blk.freeTag (b : Blk) (mid : Nat) : Option Nat :=
  (List.range 64).find? fun t => !b.fab.outst.any fun o => o.mid == mid && o.tag == t

/-- SZ of a width (R304). -/
def szOf (width : Nat) : Nat := if width = 32 then 0 else if width = 64 then 1 else 2

/-- A waiting request of this node leaves with tag `t` (R314). -/
def Blk.sendRequest (b : Blk) (r : RemoteReq) (t : Nat) : Blk :=
  let b := { b with bus := { b.bus with remote := b.bus.remote.erase r } }
  let o : Outst := ⟨r.who, r.mid, r.node, t, r.op, 0, 8, b.tb1⟩
  let b := { b with fab := { b.fab with outst := b.fab.outst ++ [o] } }
  let k := match r.op with
    | .read => { b.newPacket 1 0 r.node r.mid t r.addr (szOf r.width) [] with len := 1 }
    | .write => b.newPacket 3 0 r.node r.mid t r.addr (szOf r.width) [r.data]
  b.emit k

/-- Source address, destination and owner of transfer `x` (R318). -/
def Blk.xdSrc (b : Blk) (x : Nat) : Nat := b.fld F.XD_SRC_HI_SRC x * 2 ^ 32 + (b.reg .XD_SRC_LO x).toNat
def Blk.xdDst (b : Blk) (x : Nat) : Nat := b.fld F.XD_DST_HI_DST x * 2 ^ 32 + (b.reg .XD_DST_LO x).toNat

/-- The next packet of transfer `x` leaves with tag `tag` (R318); to this node itself it is written at once through the
gates. -/
def Blk.xferSend (b : Blk) (x tag : Nat) (t : Xfer) : Blk :=
  let mid := b.fld F.XD_CFG_OWNER x
  let n := min 32 t.left
  let (b, data, ok) := b.xdRead mid (b.xdSrc x + 16 * t.sent) n
  let dst := b.xdDst x + 16 * t.sent
  let node := dst / 2 ^ 40 % 512
  let st := if ok then t.status else if t.status = 0 then 1 else t.status
  let put := fun (b : Blk) (opened : Nat) =>
    let xs := NMap.set b.fab.xfers x (some ⟨t.left - n, t.sent + n, t.open_ + opened, st⟩) none
    { b with fab := { b.fab with xfers := xs } }
  if node = b.node then
    data.zipIdx.foldl (fun b v => b.submit ⟨.transfer x v.2, b.unitMaster mid, .write, dst % 2 ^ 40 + 16 * v.2, 128, v.1,
      b.edgeNow (dst % 2 ^ 40 + 16 * v.2)⟩) (put b n)
  else
    let b := put b 1
    let o : Outst := ⟨.transfer x t.sent, mid, node, tag, .write, 2, 8, b.tb1⟩
    let b := { b with fab := { b.fab with outst := b.fab.outst ++ [o] } }
    b.emit (b.newPacket 3 2 node mid tag (dst % 2 ^ 40) 3 data)

/-- REMOTE_REQUEST_SEND (R314, R318): the oldest waiting request whose master has a free tag leaves, or the next packet of
transfer `x`. -/
def Blk.remoteRequestSend (b : Blk) (x : Option Nat) : Blk :=
  b.when b.fabRuns fun b =>
    match x with
    | none =>
      match b.bus.remote.findSome? (fun r => (b.freeTag r.mid).map fun t => (r, t)) with
      | some (r, t) => b.sendRequest r t
      | none => b
    | some x =>
      match SMap.get b.fab.xfers x none, b.freeTag (b.fld F.XD_CFG_OWNER x) with
      | some t, some tag =>
        if t.left = 0 ∨ b.readsWait (b.fld F.XD_CFG_OWNER x) (b.xdSrc x + 16 * t.sent) (min 32 t.left) then b
        else b.xferSend x tag t
      | _, _ => b

/-- TRANSFER_START (R51, R318): by a KIND 5 trigger, or by a write of GO. -/
def Blk.transferStart (b : Blk) (x : Nat) (go : Bool) : Blk :=
  let start := fun (b : Blk) =>
    if b.flag F.XD_STATUS_BUSY x then b.addSat F.XD_STATUS_OVR x 1
    else
      let b := b.setFld F.XD_STATUS_BUSY x 1
      { b with fab := { b.fab with xfers := NMap.set b.fab.xfers x (some ⟨b.fld F.XD_CFG_LEN x, 0, 0, 0⟩) none } }
  if go then b.when b.fabRuns start
  else
    match b.takeTrig 5 x with
    | none => b
    | some (_, b) => b.when b.fabRuns start

/-- TRANSFER_DONE (R318). -/
def Blk.transferDone (b : Blk) (x : Nat) : Blk :=
  match b.respond, SMap.get b.respond.fab.xfers x none with
  | b, some t =>
    if t.left = 0 ∧ t.open_ = 0 then
      let b := { b with fab := { b.fab with xfers := NMap.set b.fab.xfers x none none } }
      let b := ((b.setFld F.XD_STATUS_BUSY x 0).setFld F.XD_STATUS_DONE x 1).setFld F.XD_STATUS_LAST_STATUS x t.status
      if t.status = 0 then b else b.setFld F.XD_STATUS_ERR x 1
    else b
  | b, none => b

/-- A request reaches its destination (R307, R315): it is answered NAK_CRC, or issued under the proxy master ID. -/
def Blk.request (b : Blk) (p : Nat) (k : Packet) (pcrc : Bool) (edge : Nat) : Blk :=
  let read := decide (k.type = 1)
  let op := if read then AccOp.read else AccOp.write
  b.when (b.fabRuns && b.portUp p && lenOk k && k.dest.toNat == b.node) fun b =>
    let b := (b.badPayload p (!pcrc)).consume p k
    if !pcrc then b.emit (b.response op k.vc.toNat k.src.toNat k.smaster.toNat k.tag.toNat 4 k.sz.toNat 0)
    else
      let width := match k.sz.toNat with
        | 0 => 32
        | 1 => 64
        | _ => 128
      let n := if read then 1 else k.payload.length
      let i : Inbound := ⟨p, k.src.toNat, k.smaster.toNat, k.tag.toNat, op, k.vc.toNat, k.sz.toNat, n, 0, 0⟩
      let b := { b with fab := { b.fab with inbound := b.fab.inbound ++ [i] } }
      let one := fun (b : Blk) (a : Nat) (d : BitVec 128) =>
        b.submitRemote p k.src.toNat k.smaster.toNat k.tag.toNat op a width d edge
      let b := if read then one b k.addr.toNat 0
        else k.payload.zipIdx.foldl (fun b v => one b (k.addr.toNat + 16 * v.2) v.1) b
      b.respond

/-- RD_REQ and WR_REQ (R315). -/
def Blk.rdReq (b : Blk) (p : Nat) (k : Packet) (pcrc : Bool) (edge : Nat) : Blk :=
  b.when (k.type == 1) fun b => b.request p k pcrc edge
def Blk.wrReq (b : Blk) (p : Nat) (k : Packet) (pcrc : Bool) (edge : Nat) : Blk :=
  b.when (k.type == 3) fun b => b.request p k pcrc edge

/-- A response reaches its master (R306, R307, R314): it is the destination's, or a router's that found no way; a late one is
discarded and counted. -/
def Blk.responseIn (b : Blk) (p : Nat) (k : Packet) (pcrc : Bool) : Blk :=
  b.when (b.fabRuns && b.portUp p && lenOk k && k.dest.toNat == b.node) fun b =>
    let b := (b.badPayload p (!pcrc)).consume p k
    match b.fab.outst.find? (fun o => o.mid == k.smaster.toNat && o.tag == k.tag.toNat &&
        (o.dest == k.src.toNat || k.status == 2 || k.status == 3)) with
    | none => b.addSat F.PORT_NAK_LATE p 1
    | some o => b.finish o (if pcrc then k.status.toNat else 4) (k.payload.getD 0 0)

/-- RD_RSP and WR_RSP (R306). -/
def Blk.rdRsp (b : Blk) (p : Nat) (k : Packet) (pcrc : Bool) : Blk := b.when (k.type == 2) fun b => b.responseIn p k pcrc
def Blk.wrRsp (b : Blk) (p : Nat) (k : Packet) (pcrc : Bool) : Blk := b.when (k.type == 4) fun b => b.responseIn p k pcrc

/-- A NAK_TIMEOUT to a subject counts in its episode (R333). -/
def Blk.countDead (b : Blk) (subject : Nat) : Blk :=
  let l := b.fab.dead
  let l := if l.any fun d => d.subject == subject && !d.ended then
      l.map fun d => if d.subject = subject ∧ !d.ended ∧ !d.raised ∧ b.tb1 < d.at_ + 1000000 then { d with n := d.n + 1 } else d
    else l ++ [⟨subject, b.tb1, 1, false, false⟩]
  { b with fab := { b.fab with dead := l } }

/-- RESPONSE_TIMEOUT (R314): a request without response after RSP_TO_US. -/
def Blk.responseTimeout (b : Blk) (mid tag : Nat) : Blk :=
  match b.fab.outst.find? (fun o => o.mid == mid && o.tag == tag) with
  | none => b
  | some o =>
    b.when (b.aonRuns && decide (o.at_ + max 1 (b.fld F.FAB_CFG_RSP_TO_US 0) * 1000 ≤ b.tb1)) fun b =>
      (b.finish o 5 0).countDead o.dest

/-! ## Streams, contributions, faults (R317, R319, R330) -/

/-- STREAM (R317): a sample reaches its destination. -/
def Blk.streamIn (b : Blk) (p : Nat) (k : Packet) (pcrc : Bool) : Blk :=
  b.when (b.fabRuns && b.portUp p && k.type == 5 && lenOk k && k.dest.toNat == b.node) fun b =>
    let b := (b.badPayload p (!pcrc)).consume p k
    if !pcrc then b.discard p else b.streamMatch (540 + p) k

/-- The cells of a CONTRIB packet (R319): row, column, and channel values. -/
def contribCells (l : List (BitVec 128)) : List (Nat × Nat × List (Nat × Int)) :=
  l.map fun v =>
    let w := v.toNat
    let first := bitsOf w 104 6
    (bitsOf w 119 9, bitsOf w 110 9, (List.range (bitsOf w 100 4 + 1)).map fun k =>
      (first + k, (v.extractLsb' (8 * k) 8).toInt))

/-- CONTRIB (R248, R319): at the grid node the cells are observations of the remote sensor that names the source. -/
def Blk.contribIn (b : Blk) (p : Nat) (k : Packet) (pcrc : Bool) : Blk :=
  b.when (b.fabRuns && b.portUp p && k.type == 12 && lenOk k && k.dest.toNat == b.node) fun b =>
    let b := (b.badPayload p (!pcrc)).consume p k
    if !pcrc then b.discard p
    else
      let pl := bitsOf k.addr.toNat 0 4
      let named := (List.range 8).map (23 + ·) |>.find? fun s =>
        b.flag F.CAL_REMOTE_EN s && b.fld F.CAL_REMOTE_NODE s == k.src.toNat && b.fld F.CAL_REMOTE_PL s == pl
      match named with
      | none => b
      | some s =>
        b.when (b.gridNode && b.sensorOn s && b.fusRuns) fun b =>
          let ft := bitsOf (k.payload.getD 0 0).toNat 64 64
          let at_ := (ft + b.tb1 - b.ft) % 2 ^ 64
          let obs := (contribCells (k.payload.drop 1)).map fun c => GridObs.mk s at_ (.cell c.1 c.2.1) c.2.2
          let b := b.noteInput s at_ .good
          { b with fus := { b.fus with obs := b.fus.obs ++ obs } }

/-- FAULT (R26, R330): at the conductor a record passes the local table into the log; elsewhere it waits for the
conductor (R323, R332). -/
def Blk.faultIn (b : Blk) (p : Nat) (k : Packet) (pcrc : Bool) : Blk :=
  b.when (b.fabRuns && b.portUp p && k.type == 6 && lenOk k && k.dest.toNat == b.node) fun b =>
    let b := (b.badPayload p (!pcrc)).consume p k
    if !pcrc then b.discard p
    else
      let r := recOf (k.payload.getD 0 0)
      if b.fab.holds then b.deliverRec r
      else b.holdRec r

/-- FAULT_RECORD_SEND (R26, R332, R370): the oldest held record leaves for the conductor; on the conductor itself the log
has it already. -/
def Blk.faultRecordSend (b : Blk) : Blk :=
  match b.mod.vc3 with
  | [] => b
  | r :: l =>
    b.when (b.vc3Open b.condKnown) fun b =>
      let b := { b with mod := { b.mod with vc3 := l } }
      if b.fab.holds then (if r.node.toNat = b.node then b else b.deliverRec r)
      else b.emit (b.faultPacket r)

/-! ## Ports (R301, R303, R334) -/

/-- TRAINING_ATTEMPT (R301): every 1 ms a DOWN port attempts training. -/
def Blk.trainingAttempt (b : Blk) (p : Nat) : Blk :=
  let x := b.port p
  let due := match x.trainAt with
    | none => true
    | some t => decide (t + 1000000 ≤ b.tb1)
  b.when (b.linkRuns p && b.portState p == 1 && due) fun b =>
    let b := b.setPort p { x with trainAt := some b.tb1, trained := false }
    let marker := (Config.trainMarker b.free).val
    ((b.setPortState p 2).send p (.train p b.node marker (b.fld F.PORT_STATUS_PRESET p))).took

/-- TRAIN_FLIT (R301, R303, R308): the partner's port and node; a partner with this node's address leaves the port DOWN. -/
def Blk.trainFlit (b : Blk) (p sport snode : Nat) (crcOk : Bool) : Blk :=
  b.when (b.linkRuns p && b.portState p == 2 && crcOk) fun b =>
    let b := (b.setFld F.PORT_STATUS_PARTNER p snode).setFld F.PORT_STATUS_PARTNER_PORT p sport
    if snode = b.node then (b.setPortState p 1).raise 595 0x0C 0x03 (p * 2 ^ 29 + snode * 2 ^ 20)
    else b.setPort p { b.port p with trained := true }

/-- LINK_UP (R301): block lock and deskew are reached, and TRAIN flits have been exchanged for 10 µs. -/
def Blk.linkUp (b : Blk) (p : Nat) : Blk :=
  b.when (b.linkRuns p && b.portState p == 2 && (b.port p).trained && b.every (b.port p).trainAt 10000) fun b =>
    let x := b.port p
    let b := b.setPort p { x with credits := fullCredits, owed := [0, 0, 0, 0, 0, 0], owedAt := none, skips := 0,
                                  turn := [8, 8, 8, 8, 8, 8] }
    (b.setPortState p 3).updateBest

/-- The link of port `p` is gone: what was learned through it, the best conductor with it, and its credits. -/
def Blk.linkGone (b : Blk) (p : Nat) : Blk :=
  let x := b.port p
  let b := b.setPort p { x with credits := [0, 0, 0, 0, 0, 0], owed := [0, 0, 0, 0, 0, 0], owedAt := none, heard := none,
                                trainAt := none }
  ((b.setFld F.PORT_STATUS_PARENT p 0).setFld F.PORT_STATUS_UP_LINK p 0).updateBest

/-- LINK_DOWN (R300, R301): loss of signal, or 16 invalid sync headers within 64 blocks; `sync` is how many of them no IDLE_FLIT
told of. -/
def Blk.linkDown (b : Blk) (p sync : Nat) : Blk :=
  b.when (b.linkRuns p && decide (2 ≤ b.portState p)) fun b =>
    let b := b.addSat F.PORT_ERR_SYNC p sync
    if b.portUp p then
      let partner := b.fld F.PORT_STATUS_PARTNER p
      ((b.setPortState p 1).linkGone p).raise 595 0x0C 0x01 (p * 2 ^ 29 + partner * 2 ^ 20)
    else b.setPortState p 1

/-- IDLE_FLIT (R300, R308): a block without a packet flit; an IDLE flit has no effect, and a block whose sync header is invalid is a
sync error. -/
def Blk.idleFlit (b : Blk) (p : Nat) (sync : BitVec 2) : Blk :=
  b.when (b.linkRuns p && !b.frozen && decide (2 ≤ b.portState p) && (sync == 0 || sync == 3)) fun b => b.addSat F.PORT_ERR_SYNC p 1

/-- PORT_ENABLE (R301, R334): training starts. -/
def Blk.portEnable (b : Blk) (p : Nat) : Blk :=
  let was := b.flag F.PORT_CTRL_EN p
  let b := b.setFld F.PORT_CTRL_EN p 1
  if was then b
  else (b.setPort p { b.port p with trainAt := none }).setPortState p 1

/-- The requests of this node that left through port `p` complete with NAK_PORT_DOWN (R334). -/
def Blk.cutRequests (b : Blk) (p : Nat) : Blk :=
  (b.fab.outst.filter fun o => o.port == p).foldl (fun b o => (b.addSat F.PORT_NAK_NAK_DOWN p 1).finish o 2 0) b

/-- PORT_DISABLE (R334). -/
def Blk.portDisable (b : Blk) (p : Nat) : Blk :=
  let was := b.flag F.PORT_CTRL_EN p
  let b := b.setFld F.PORT_CTRL_EN p 0
  if !was then b
  else
    let b := (b.send p .cut).cutRequests p
    let up := decide (2 ≤ b.portState p)
    let own := (b.port p).own
    let b := b.setPort p { b.port p with own := [] }
    let b := b.setPortState p 0
    let b := own.foldl (fun b k =>
      if isRequest k then (b.addSat F.PORT_NAK_NAK_DOWN p 1).nak k 2 else b.discard p) b
    (if up then b.linkGone p else b).clearStuck

end Sys2Proof.Machine
end

