-- ==== Sys2Proof/Machine/Limp.lean ====
section
/-!
DEFINITION. What the valve and switch channels share: companions, the limp map, elapsed time on a companion (R148, R173,
R191 to R194).
Readings and choices: logs 34, 42 of notes/assumptions.
-/

namespace Sys2Proof.Machine

/-- Valve channel `c` beyond its registers. -/
def Blk.valve (b : Blk) (c : Nat) : ValveSt := SMap.get b.out.valve c ValveSt.zero

/-- The block with valve channel `c` at `x`. -/
def Blk.setValve (b : Blk) (c : Nat) (x : ValveSt) : Blk :=
  { b with out := { b.out with valve := NMap.set b.out.valve c x ValveSt.zero } }

/-- Switch channel `c` beyond its registers. -/
def Blk.switch (b : Blk) (c : Nat) : SwitchSt := SMap.get b.out.switch c SwitchSt.zero

/-- The block with switch channel `c` at `x`. -/
def Blk.setSwitch (b : Blk) (c : Nat) (x : SwitchSt) : Blk :=
  { b with out := { b.out with switch := NMap.set b.out.switch c x SwitchSt.zero } }

/-- Companion `k`: ZS8 companions at 0 to 7, ZP16 companions at 8 to 15. -/
def Blk.comp (b : Blk) (k : Nat) : CompSt := SMap.get b.out.comp k CompSt.zero

/-- The block with companion `k` at `x`. -/
def Blk.setComp (b : Blk) (k : Nat) (x : CompSt) : Blk :=
  { b with out := { b.out with comp := NMap.set b.out.comp k x CompSt.zero } }

/-- The companions have supply: VBAT is 3.0 V or more (R419, R368). -/
def Blk.powered (b : Blk) : Bool := decide (b.mod.phase ≠ .off)

/-- `d` ns have passed on a companion since TB1 stood at `t`. A companion's own time runs on when a freeze stops TB1
(R446, R447). -/
def Blk.elapsed (b : Blk) (t d : Nat) : Bool := b.frozen || decide (t + d ≤ b.tb1)

/-- More than `d` ns have passed on a companion since TB1 stood at `t`. -/
def Blk.exceeded (b : Blk) (t d : Nat) : Bool := b.frozen || decide (t + d < b.tb1)

/-- In crank hold or crank sleep (R370). -/
def Blk.cranking (b : Blk) : Bool := b.supply != 0

/-- The valid limp entries of a channel of kind `kind` (0 LSW, 1 SOL): pin and IMA (R191). -/
def Blk.limpOf (b : Blk) (kind ch : Nat) : List (Nat × Nat) :=
  b.out.limp.zipIdx.filterMap fun x =>
    let e := x.1
    let ima := bitsOf e 0 7
    if e.testBit 15 ∧ bitsOf e 14 1 = kind ∧ bitsOf e 7 7 = ch ∧
        (if kind = 0 then ima = 0 else 1 ≤ ima ∧ ima ≤ 80) then some (x.2 / 8, ima)
    else none

/-- The limp pin is high after filtering (R193). -/
def Blk.limpPin (b : Blk) (p : Nat) : Bool := (b.fld F.LSW_LIMP_LEVEL 0).testBit p

/-- A pin of the channel is high (R191). -/
def Blk.limpOn (b : Blk) (kind ch : Nat) : Bool := (b.limpOf kind ch).any fun x => b.limpPin x.1

/-- The limp current of a valve channel, µA: the highest IMA among its pins that are high (R191, R193). -/
def Blk.limpCurrent (b : Blk) (ch : Nat) : Option Nat :=
  (((b.limpOf 1 ch).filter fun x => b.limpPin x.1).map fun x => x.2 * 50000).max?

/-- The lowest trip input of `inputs` that is asserted after filtering (R168). -/
def Blk.tripLevel (b : Blk) (inputs : List Nat) : Option Nat :=
  (inputs.filter fun t => (b.fld F.SOL_TRIP_IN_LEVEL 0).testBit t).min?

/-- The trip inputs mapped to valve channel `c` (R168). -/
def Blk.valveTrips (b : Blk) (c : Nat) : List Nat :=
  (List.range 4).filter fun t =>
    if c < 32 then (b.reg .SOL_TRIPMAP_LO t).getLsbD c else (b.reg .SOL_TRIPMAP_HI t).getLsbD (c - 32)

/-- The trip inputs mapped to switch channel `c` (R187). -/
def Blk.switchTrips (b : Blk) (c : Nat) : List Nat :=
  (List.range 4).filter fun t => (b.reg .LSW_TRIPMAP (t * 4 + c / 32)).getLsbD (c % 32)

/-- The first message on the actuator link that `f` picks, and the block without it (R74). -/
def Blk.takeLink (b : Blk) (f : LinkMsg → Bool) : Option (LinkMsg × Blk) :=
  match b.le.link.find? f with
  | none => none
  | some m => some (m, { b with le := { b.le with link := b.le.link.erase m } })

end Sys2Proof.Machine
end

