-- ==== Sys2Proof/Machine/Sol.lean ====
section
/-!
DEFINITION. Valve channels (spec chapter 06).
Readings and choices: logs 16 to 19, 31 to 33, 42 of notes/assumptions.
-/

namespace Sys2Proof.Machine

/-! ## Settings as used -/

/-- PERIOD, PWM ticks (R155). -/
def Blk.pwmPeriod (b : Blk) (c : Nat) : Nat := max 48000 (min 300000 (b.fld F.SOL_PWM_PERIOD c))

/-- DEAD_T, PWM ticks (R155). -/
def Blk.deadT (b : Blk) (c : Nat) : Nat := max 24 (min 600 (b.fld F.SOL_PWM_DEAD_T c))

/-- The on-time of the duty in force, PWM ticks (R155). -/
def Blk.onTicks (b : Blk) (c : Nat) : Nat := b.fld F.SOL_DUTY_DUTY c * b.pwmPeriod c / 65536

/-- PULL_DUTY as a duty (R161). -/
def Blk.pullDuty (b : Blk) (c : Nat) : Nat := max 1 (min 100 (b.fld F.SOL_ARM_PULL_DUTY c)) * 65535 / 100

/-- PULL_MAX, µA (R161). -/
def Blk.pullMax (b : Blk) (c : Nat) : Nat := min 4000 (b.fld F.SOL_ARM2_PULL_MAX c) * 1000

/-- The current of a converter code, µA (R151). -/
def codeUa (code : Nat) : Nat := code * 5000000 / 65536

/-- Units of the integrator in one LSB of duty (R152): KP is 8.8 and KI 4.12 per mA, the error in µA. -/
def dutyUnit : Int := 4096000

/-! ## State -/

/-- STATE of a valve channel (R165): 0 OFF, 1 PULLIN, 2 REG, 3 FAST, 4 LIMP. -/
def Blk.solState (b : Blk) (c : Nat) : Nat := b.fld F.SOL_STATUS_STATE c

/-- The channel with STATE `n`. -/
def Blk.setSol (b : Blk) (c n : Nat) : Blk := b.setFld F.SOL_STATUS_STATE c n

/-- A condition of rows 1 to 3 of R166 holds: no supply, feed below 3.0 V, trip latched, FLT. -/
def Blk.solBarred (b : Blk) (c : Nat) : Bool :=
  !b.powered || b.flag F.LSW_BANK_STATUS_FEED_UV (c / 8) || b.flag F.SOL_STATUS_TRIP_LATCH c ||
    b.flag F.SOL_STATUS_FLT c

/-- What lets a setpoint count as one that the channel may drive (R167, R190, R437): no latch, no FLT, EN, and not in
limp-home. -/
def Blk.solTakes (b : Blk) (c : Nat) : Bool :=
  !b.flag F.SOL_STATUS_TRIP_LATCH c && !b.flag F.SOL_STATUS_FLT c && b.flag F.SOL_CTRL_EN c && !(b.comp (c / 8)).limp

/-- Both switches open and the coil current into the clamp, then OFF (R157, R166): a channel that is OFF stays so. -/
def Blk.solFast (b : Blk) (c : Nat) : Blk :=
  let x := b.valve c
  let b := b.setFld F.SOL_DUTY_DUTY c 0
  let b := b.setFld F.SOL_STATUS_DUTY_SAT c 0
  if b.solState c = 0 then b.setValve c { x with half := .off }
  else (b.setValve c { x with half := .fast, integ := 0 }).setSol c 3

/-- The channel drives no setpoint that has arrived before now (R167). -/
def Blk.solForget (b : Blk) (c : Nat) : Blk :=
  b.setValve c { b.valve c with fresh := false, arr := none, stored := false, hold := none }

/-- As `solFast`, and only a setpoint that arrives later is driven again (R167). -/
def Blk.solStop (b : Blk) (c : Nat) : Blk := (b.solFast c).solForget c

/-- FLT of a valve channel (R166 row 3). -/
def Blk.solFault (b : Blk) (c : Nat) (cause : Fld) : Blk :=
  ((b.setFld cause c 1).setFld F.SOL_STATUS_FLT c 1).solStop c

/-! ## The current loop (R152, R159, R161) -/

/-- The dither waveform at a phase, in 1 / 32 768 of its amplitude (R159). The sine lies between two numbers; which of them is taken
is free (log 19). -/
def ditherWave (shape phase : Nat) : Int :=
  if shape = 1 then
    max (-32768) (min 32768 (sin40 ((phase : Int) * turn40 / 1000000) * 32768 / 2 ^ 40 + Config.ditherRound phase % 2))
  else if shape = 2 then (if phase < 500000 then 32768 else -32768)
  else
    let p : Int := phase
    let v := if phase < 250000 then 4 * p else if phase < 750000 then 2000000 - 4 * p else 4 * p - 4000000
    v * 32768 / 1000000

/-- Dither gain of the channel's band (R159, R160). -/
def Blk.ditherGain (b : Blk) (c : Nat) : Nat :=
  let g := match b.fld F.SOL_RCOIL_BAND c with
    | 0 => b.fld F.SOL_DGAIN_DG0 c
    | 1 => b.fld F.SOL_DGAIN_DG1 c
    | 2 => b.fld F.SOL_DGAIN_DG2 c
    | _ => b.fld F.SOL_DGAIN_DG3 c
  max 32 (min 128 g)

/-- Dither amplitude, µA (R159). -/
def Blk.ditherAmp (b : Blk) (c sp : Nat) : Nat :=
  min (sp / 4) (sp * min 2500 (b.fld F.SOL_DITHER_AMP c) * b.ditherGain c / 640000)

/-- SP with dither, limited to 0 to 4.500 A (R152). -/
def Blk.dithered (b : Blk) (c : Nat) : Nat :=
  let x := b.valve c
  let d := (b.ditherAmp c x.use : Int) * ditherWave x.shape x.phase / 32768
  (max 0 (min 4500000 ((x.use : Int) + d))).toNat

/-- The dither's phase moves by one sample; FREQ and SHAPE are taken at a zero crossing (R159). -/
def Blk.ditherStep (b : Blk) (c : Nat) : Blk :=
  let x := b.valve c
  let p := (x.phase + x.freq) % 1000000
  let crossed := decide (p < x.phase) || (decide (x.phase < 500000) && decide (500000 ≤ p)) || x.freq == 0
  let y := { x with phase := p }
  b.setValve c (if crossed then
    { y with freq := max 50 (min 400 (b.fld F.SOL_DITHER_FREQ c)), shape := b.fld F.SOL_DITHER_SHAPE c % 3 } else y)

/-- The loop computes the duty toward target `t` from current `i`, both µA (R152, R156). DESIGN CHOICE, log 19: KP × e + I is taken
exactly, the clamp acts on that value, and SOL_DUTY has its floor. -/
def Blk.regulate (b : Blk) (c t i : Nat) : Blk :=
  let x := b.valve c
  let e : Int := (t : Int) - (i : Int)
  let raw := (b.fld F.SOL_GAIN_KP c : Int) * e * 16 + x.integ
  let top := 65535 * dutyUnit
  let clamped := decide (raw < 0) || decide (top < raw)
  let duty := (max 0 (min top raw) / dutyUnit).toNat
  let b := b.setValve c { x with integ := if clamped then x.integ else x.integ + (b.fld F.SOL_GAIN_KI c : Int) * e }
  (b.setFld F.SOL_DUTY_DUTY c duty).setFlag F.SOL_STATUS_DUTY_SAT c (clamped && duty == 65535 && decide (e > 0))

/-- The half-bridge against the new duty at counter `cnt` (R155 to R157): an off-point already passed ends ON at once, through DEAD;
past its off-point a period has no further ON (log 19). Fast decay ends below 20 mA. -/
def Blk.compare (b : Blk) (c cnt i : Nat) : Blk :=
  let x := b.valve c
  let now := cnt % b.pwmPeriod c
  match x.half with
  | .on => b.setValve c { x with cnt := now, half := if b.onTicks c ≤ now then .deadToLow else .on }
  | .fast => b.setValve c { x with cnt := now, half := if i < 20000 then .recirc else .fast }
  | .recirc | .off => b.setValve c { x with cnt := now }
  | .deadToOn | .deadToLow => b

/-- The channel begins to drive: zero duty, integrator and dither phase; with DECAY 2 fast decay stands in place of RECIRC from the
first (R157). -/
def Blk.solStart (b : Blk) (c : Nat) : Blk :=
  let x := b.valve c
  let fast := b.fld F.SOL_CFG_DECAY c == 2
  (b.setValve c { x with integ := 0, lastT := 0, phase := 0, freq := 0, half := if fast then .fast else .recirc, fastP := fast,
                         hold := none, pullN := 0, peak := 0, peakN := 0, regMax := false }).setFld F.SOL_DUTY_DUTY c 0

/-- A dip (R162): ARM_OK, ARMTIME, and REG from the duty in force. -/
def Blk.dip (b : Blk) (c : Nat) : Blk :=
  let x := b.valve c
  let b := (b.setFld F.SOL_STATUS_ARM_OK c 1).setFld F.SOL_ARMTIME_ARMTIME c (min x.peakN 0xFFFE)
  (b.setValve c { x with integ := (b.fld F.SOL_DUTY_DUTY c : Int) * dutyUnit }).setSol c 2

/-- One sample in PULLIN (R161, R162). -/
def Blk.pullSample (b : Blk) (c i : Nat) : Blk :=
  let x := b.valve c
  let x := { x with pullN := x.pullN + 1, lastT := b.pullMax c }
  let x := if i > x.peak then { x with peak := i, peakN := x.pullN } else x
  let b := b.setValve c x
  if x.regMax then b.regulate c (b.pullMax c) i
  else if b.pullMax c ≤ i then (b.setValve c { x with regMax := true, integ := 0 }).regulate c (b.pullMax c) i
  else if b.fld F.SOL_ARM_DIP_MIN c * 1000 ≤ x.peak - i then b.dip c
  else b.setFld F.SOL_DUTY_DUTY c (b.pullDuty c)

/-- Pull-in starts (R161). -/
def Blk.pullStart (b : Blk) (c i : Nat) : Blk :=
  let x := b.valve c
  (((b.setValve c { x with pullN := 0, peak := i, peakN := 0, regMax := false, lastT := b.pullMax c }).setSol c 1).setFld
    F.SOL_DUTY_DUTY c (b.pullDuty c)).setFld F.SOL_STATUS_DUTY_SAT c 0

/-- One sample of a channel that drives its setpoint (R152, R161, R166 rows 6 and 7). -/
def Blk.driveSample (b : Blk) (c i : Nat) : Blk :=
  if b.solState c = 1 then b.pullSample c i
  else
    let x := b.valve c
    if x.use = 0 ∧ i < 20000 then
      (((b.setValve c { x with half := .off, lastT := 0, integ := 0 }).setSol c 0).setFld F.SOL_DUTY_DUTY c 0).setFld
        F.SOL_STATUS_DUTY_SAT c 0
    else
      let first := b.solState c == 0
      let b := if b.solState c = 2 ∨ b.solState c = 4 then b else b.solStart c
      let b := b.setSol c 2
      let b := b.ditherStep c
      let t := b.dithered c
      let th := b.fld F.SOL_ARM2_PI_THRESH c * 1000
      if b.flag F.SOL_CFG_ARM_EN c ∧ ((b.valve c).lastT < th ∨ first) ∧ th ≤ t then b.pullStart c i
      else (b.setValve c { b.valve c with lastT := t }).regulate c t i

/-- One sample of a channel at its limp current (R193). -/
def Blk.limpSample (b : Blk) (c i t : Nat) : Blk :=
  let b := if b.solState c = 2 ∨ b.solState c = 4 then b else b.solStart c
  let b := b.setSol c 4
  (b.setValve c { b.valve c with lastT := t }).regulate c t i

/-- One sample of a channel that may not drive (R157, R166): FAST, and OFF once the current is below 20 mA. -/
def Blk.idleSample (b : Blk) (c i : Nat) : Blk :=
  let b := b.solFast c
  if i < 20000 then (b.setValve c { b.valve c with half := .off, lastT := 0 }).setSol c 0 else b

/-- COIL_FAULT (R171): the samples that show an open coil or a short are counted, a short in every state, and a fault found at this
sample acts; the second part is true where one does. In LIMP the current that is regulated counts as SP (R193). -/
def Blk.coilFault (b : Blk) (c code i : Nat) : Blk × Bool :=
  let x := b.valve c
  let sp := if b.solState c = 4 then x.lastT else x.use
  let full := if code == 65535 then x.fullN + 1 else 0
  let isOpen := (b.solState c == 1 || b.solState c == 2 || b.solState c == 4) && decide (200000 ≤ sp) &&
    b.fld F.SOL_DUTY_DUTY c == 65535 && decide (i < 50000)
  let open_ := if isOpen then x.openN + 1 else 0
  let b := b.setValve c { x with fullN := full, openN := open_ }
  if 2 ≤ full ∧ !b.flag F.SOL_STATUS_SHORT c then
    ((b.solFault c F.SOL_STATUS_SHORT).raise (576 + c / 8) 0x05 0x01 (c * 2 ^ 25 + 500), true)
  else if 4 ≤ open_ ∧ !b.flag F.SOL_STATUS_OPEN c then
    ((b.solFault c F.SOL_STATUS_OPEN).raise (576 + c / 8) 0x04 0x02 (c * 2 ^ 25 + sp / 1000 % 65536), true)
  else (b, false)

/-- A setpoint that has arrived comes into use at the sample instant (R154). -/
def ValveSt.takeArr (x : ValveSt) : ValveSt :=
  match x.arr with
  | some sp => { x with use := sp, fresh := true, arr := none, hold := none }
  | none => x

/-- CURRENT_SAMPLE (R151, R152, R154 to R157, R159, R161, R162, R166, R171): the converter of channel `c` delivers a code
while the period counter stands at `cnt`. -/
def Blk.currentSample (b : Blk) (c code cnt : Nat) : Blk :=
  b.when b.powered fun b =>
    let i := codeUa code
    let b := b.setReg .SOL_MEAS c (BitVec.ofNat 32 i)
    let x := (b.valve c).takeArr
    let b := b.setValve c { x with sumD := x.sumD + b.fld F.SOL_DUTY_DUTY c, sumI := x.sumI + i, sumN := x.sumN + 1 }
    match b.coilFault c code i with
    | (b, true) => b
    | (b, false) =>
      let x := b.valve c
      if b.solBarred c then b.idleSample c i
      else if x.follow then
        match (if b.cranking then (if b.solState c = 4 then some x.lastT else none) else b.limpCurrent c) with
        | some t => (b.limpSample c i t).compare c cnt i
        | none => b.idleSample c i
      else if (b.comp (c / 8)).limp then b.idleSample c i
      else
        match (if b.flag F.SOL_CTRL_EN c then x.hold else none) with
        | some t => (b.limpSample c i t).compare c cnt i
        | none =>
          if b.flag F.SOL_CTRL_EN c && x.fresh then (b.driveSample c i).compare c cnt i else b.idleSample c i

/-! ## The half-bridge (R155 to R158) -/

/-- Fast decay takes the place of RECIRC in the period that starts (R157). -/
def Blk.fastPeriod (b : Blk) (c : Nat) : Bool :=
  match b.fld F.SOL_CFG_DECAY c with
  | 0 => false
  | 2 => true
  | _ =>
    let x := b.valve c
    let sp := if b.solState c = 4 then x.lastT else x.use
    decide ((b.reg .SOL_MEAS c).toNat > x.lastT + max 100000 (sp / 10))

/-- The low side of the period: RECIRC, or FAST in its place. -/
def ValveSt.low (x : ValveSt) : Half := if x.fastP then .fast else .recirc

/-- A period starts with the counter at `n`: ON before the off-point, else the low side (R155, R156). -/
def Blk.periodStart (b : Blk) (c : Nat) (x : ValveSt) (n : Nat) : ValveSt :=
  let y := { x with cnt := n, fastP := b.fastPeriod c }
  { y with half := if n < b.onTicks c then .on else y.low }

/-- An off-time that begins at the counter `cnt` and is shorter than two dead times leaves no room for the low side (R155). -/
def Blk.shortOff (b : Blk) (c cnt : Nat) : Bool :=
  decide (b.pwmPeriod c < b.onTicks c + 2 * b.deadT c) && decide (b.onTicks c ≤ cnt)

/-- DEAD, which began at the counter `x.cnt`, ends: in the next period, whose start it may have reached, or with which a short off-time
ends; or before the off-point with ON where that was the next state; or else with the low side (R155, R156, R158). -/
def Blk.deadEnd (b : Blk) (c : Nat) (x : ValveSt) : ValveSt :=
  let n := x.cnt + b.deadT c
  if b.pwmPeriod c ≤ n then b.periodStart c x (n - b.pwmPeriod c)
  else if x.half = .deadToOn ∧ b.shortOff c x.cnt then b.periodStart c x 0
  else { x with cnt := n, half := if x.half = .deadToOn ∧ n < b.onTicks c then .on else x.low }

/-- PWM_EDGE (R155, R157): the period counter reaches the next edge of the half-bridge. An off-time shorter than two dead times
is DEAD throughout. -/
def Blk.pwmEdge (b : Blk) (c : Nat) : Blk :=
  b.when (b.powered && (b.solState c == 1 || b.solState c == 2 || b.solState c == 4)) fun b =>
    let x := b.valve c
    let per := b.pwmPeriod c
    let dead := b.deadT c
    let on := b.onTicks c
    b.setValve c (match x.half with
      | .on => { x with cnt := on, half := if b.shortOff c on then .deadToOn else .deadToLow }
      | .deadToLow | .deadToOn => b.deadEnd c x
      | .recirc | .fast =>
        if on = 0 then b.periodStart c x 0 else { x with cnt := max x.cnt (per - dead), half := .deadToOn }
      | .off => x)

/-- PWM_PHASE_TRIGGER (R158): a trigger of KIND 4 loads the period counter; a change between ON and RECIRC passes through
DEAD. DESIGN CHOICE, log 19: in DEAD a whole DEAD_T runs from the loaded counter on. -/
def Blk.phaseTrigger (b : Blk) (c : Nat) : Blk :=
  match b.takeTrig 4 c with
  | none => b
  | some (_, b) =>
    let cnt := b.fld F.SOL_PHASE_OFFSET c % b.pwmPeriod c
    let x := { b.valve c with cnt := cnt }
    let on := decide (cnt < b.onTicks c)
    match x.half with
    | .on => b.setValve c (if on then x else { x with half := .deadToLow })
    | .recirc | .fast => b.setValve c (if on && b.solState c != 3 then { x with half := .deadToOn } else x)
    | .deadToOn => b.setValve c (if on then x else { x with half := .deadToLow })
    | .deadToLow => b.setValve c (if on then { x with half := .deadToOn } else x)
    | .off => b.setValve c x

/-! ## Setpoints, enable (R149, R154, R167) -/

/-- A setpoint as the slice takes it, µA (R149). -/
def clampSp (v : Word) : Nat := (max 0 (min 4000000 v.toInt)).toNat

/-- SETPOINT_ARRIVAL (R149, R154, R167, R194, R370): the next setpoint for channel `c` arrives on the actuator link. -/
def Blk.setpointArrival (b : Blk) (c : Nat) : Blk :=
  b.when (b.powered && !b.frozen) fun b =>
    match b.takeLink (fun m => match m with | .sol ch _ => ch == c | .lsw _ _ => false) with
    | some (.sol _ v, b) =>
      let sp := clampSp v
      let b := b.setReg .SOL_SP c (BitVec.ofNat 32 sp)
      let b := if v.toInt > 4000000 then b.setFld F.SOL_STATUS_SP_CLAMPED c 1 else b
      let x := b.valve c
      if (b.comp (c / 8)).limp then b
      else
        let x := { x with follow := false }
        if b.cranking then b.setValve c { b.valve c with stored := true }
        else b.setValve c { x with arr := if b.solTakes c then some sp else none }
    | _ => b

/-- The stored setpoint of channel `c` applies at the end of crank hold (R370). -/
def Blk.solReturn (b : Blk) (c : Nat) : Blk :=
  let x := b.valve c
  if !x.stored then b
  else
    b.setValve c { x with stored := false, follow := false, arr := if b.solTakes c then some (b.reg .SOL_SP c).toNat else none }

/-- SOL_ENABLE (R167): EN is written 1; the next setpoint that arrives is driven. -/
def Blk.solEnable (b : Blk) (c : Nat) : Blk :=
  if b.flag F.SOL_CTRL_EN c then b
  else
    (b.setFld F.SOL_CTRL_EN c 1).solForget c

/-- SOL_DISABLE (R157, R166, R167): EN is written 0. -/
def Blk.solDisable (b : Blk) (c : Nat) : Blk :=
  let b := b.setFld F.SOL_CTRL_EN c 0
  if (b.valve c).follow then b.solForget c else b.solStop c

/-! ## Pull-in window, coil bands (R160, R163) -/

/-- PULLIN_TIMEOUT (R163): WIN_MS have passed without a dip. -/
def Blk.pullinTimeout (b : Blk) (c : Nat) : Blk :=
  let x := b.valve c
  b.when (b.powered && b.solState c == 1 && decide (max 1 (b.fld F.SOL_ARM_WIN_MS c) * 1000 ≤ x.pullN)) fun b =>
    let b := (b.setFld F.SOL_STATUS_ARM_FAIL c 1).setFld F.SOL_ARMTIME_ARMTIME c 0xFFFF
    let b := b.raise (576 + c / 8) 0x07 0x01 (c * 2 ^ 26 + x.peak / 1000 % 65536)
    if b.fld F.SOL_CFG_ARM_ACTION c = 1 then (b.setFld F.SOL_STATUS_FLT c 1).solStop c
    else (b.setValve c { x with integ := (b.fld F.SOL_DUTY_DUTY c : Int) * dutyUnit }).setSol c 2

/-- The estimated coil temperature is at or above `th` °C, for a resistance `r` (R160). -/
def coilAbove (r rcold : Nat) (th : Int) : Bool :=
  decide ((th - 20) * 393 * (rcold : Int) ≤ ((r : Int) - rcold) * 100000)

/-- The band after an estimate (R160). -/
def coilBand (r rcold band th1 th2 th3 : Nat) : Nat :=
  let ok := fun (n th : Nat) => coilAbove r rcold th || (decide (n ≤ band) && !coilBelow r rcold th)
  if ok 3 th3 then 3 else if ok 2 th2 then 2 else if ok 1 th1 then 1 else 0
where
  /-- The temperature is 3 °C below the threshold, or lower. -/
  coilBelow (r rcold th : Nat) : Bool :=
    decide (((r : Int) - rcold) * 100000 ≤ ((th : Int) - 23) * 393 * (rcold : Int))

/-- COIL_BAND_UPDATE (R160): every 10 ms the estimate over the samples since the last one, at the feed voltage of the bank. -/
def Blk.coilUpdate (b : Blk) (c : Nat) : Blk :=
  b.when (b.powered && b.elapsed (b.valve c).coilAt 10000000) fun b =>
    let x := b.valve c
    let rcold := b.fld F.SOL_RCOLD_RCOLD c
    let b := b.setValve c { x with sumD := 0, sumI := 0, sumN := 0, coilAt := b.tb1 }
    if rcold = 0 then b.setFld F.SOL_RCOIL_BAND c 0
    else if x.sumN = 0 ∨ x.sumI < 200000 * x.sumN then b
    else
      let r := b.fld F.LSW_BANK_FEED_FEED_V (c / 8) * x.sumD * 1000000 / (65536 * x.sumI)
      (b.setFld F.SOL_RCOIL_RCOIL c (min r 65535)).setFld F.SOL_RCOIL_BAND c
        (coilBand r rcold (b.fld F.SOL_RCOIL_BAND c) (b.fld F.SOL_BAND_TH1 0) (b.fld F.SOL_BAND_TH2 0)
          (b.fld F.SOL_BAND_TH3 0))

/-! ## Faults and trips (R168 to R171) -/

/-- SOL_FAULT_CLEAR (R171). -/
def Blk.solFaultClear (b : Blk) (c : Nat) : Blk :=
  if !b.flag F.SOL_STATUS_FLT c ∨ (b.flag F.SOL_STATUS_OTEMP c ∧ 1650 ≤ b.sfld F.SOL_COMP_TEMP_TEMP (c / 8)) then b
  else
    let b := b.solForget c
    (((b.setFld F.SOL_STATUS_FLT c 0).setFld F.SOL_STATUS_OPEN c 0).setFld F.SOL_STATUS_SHORT c 0).setFld
      F.SOL_STATUS_OTEMP c 0

/-- The junction of ZS8 companion `k` stands at `temp`, in 0.1 °C: below 165 °C the over-temperature condition is over (R171). -/
def Blk.setCompTemp (b : Blk) (k : Nat) (temp : Int) : Blk :=
  (b.setSFld F.SOL_COMP_TEMP_TEMP k temp).when (decide (temp < 1650)) fun b => b.setComp k { b.comp k with hot := false }

/-- COMPANION_OVERTEMP (R171): the junction of ZS8 companion `k` stands at `temp`, in 0.1 °C. -/
def Blk.companionOvertemp (b : Blk) (k : Nat) (temp : Int) : Blk :=
  b.when b.powered fun b =>
    let b := b.setCompTemp k temp
    b.when (decide (temp > 1750) && !(b.comp k).hot) fun b =>
      let b := b.setComp k { b.comp k with hot := true }
      let b := (List.range 8).foldl (fun b j => b.solFault (8 * k + j) F.SOL_STATUS_OTEMP) b
      b.raise (576 + k) 0x06 0x02 (8 * k * 2 ^ 25 + (BitVec.ofInt 16 temp).toNat)

/-- SOL_TRIP_CLEAR (R169). -/
def Blk.solTripClear (b : Blk) (c : Nat) : Blk :=
  if !b.flag F.SOL_STATUS_TRIP_LATCH c then b
  else
    match b.tripLevel (b.valveTrips c) with
    | none =>
      let b := b.solForget c
      (b.setFld F.SOL_STATUS_TRIP_LATCH c 0).setFld F.SOL_STATUS_TRIP_PERSIST c 0
    | some t =>
      let first := !b.flag F.SOL_STATUS_TRIP_PERSIST c
      let b := b.setFld F.SOL_STATUS_TRIP_PERSIST c 1
      if first then b.raise (576 + c / 8) 0x03 0x02 (t * 2 ^ 30 + 2 ^ (c % 8)) else b

end Sys2Proof.Machine
end

