-- ==== Sys2Proof/Machine/Lsw.lean ====
section
/-!
DEFINITION. Switch channels, the trip inputs, the feeds, the actuator link and limp-home (spec chapter 07, R168 to R172).
Readings and choices: logs 16, 31 to 34, 42 of notes/assumptions.
-/

namespace Sys2Proof.Machine

/-! ## Switching (R177, R188) -/

/-- OUT: the output of switch channel `c` is on. -/
def Blk.lswOut (b : Blk) (c : Nat) : Bool := b.flag F.LSW_STATUS_OUT c

/-- The channel follows its limp pins (R193, R194). -/
def Blk.lswFollows (b : Blk) (c : Nat) : Bool := b.flag F.LSW_STATUS_LIMP c

/-- The companion of switch channel `c`. -/
def lswComp (c : Nat) : Nat := 8 + c / 16

/-- The output that R188 gives the channel; in crank hold a channel at its limp pin keeps its state (R189). -/
def Blk.lswWant (b : Blk) (c : Nat) : Bool :=
  if !b.powered || b.flag F.LSW_STATUS_TRIP_LATCH c || b.flag F.LSW_STATUS_FLT c ||
      b.flag F.LSW_BANK_STATUS_FEED_UV (c / 16) then false
  else if b.lswFollows c then (if b.cranking then (b.switch c).kept else b.limpOn 0 c)
  else if (b.comp (lswComp c)).limp then false
  else b.flag F.LSW_CTRL_EN c && (b.switch c).retryAt.isNone && (b.switch c).cmd

/-- The output of channel `c` switched on or off: an on edge ends an open-load episode and RETRYING (R182, R185). -/
def Blk.lswSwitch (b : Blk) (c : Nat) (on : Bool) : Blk :=
  if b.lswOut c = on then b
  else
    let b := b.setFlag F.LSW_STATUS_OUT c on
    let x := b.switch c
    let x := { x with highN := 0, lowN := 0, olAt := none }
    if on then
      ((b.setSwitch c { x with onAt := b.tb1 }).setFld F.LSW_STATUS_OPEN_OFF c 0).setFld F.LSW_STATUS_RETRYING c 0
    else b.setSwitch c { x with offAt := b.tb1 }

/-- The channel takes the output that R188 gives it. -/
def Blk.lswUpdate (b : Blk) (c : Nat) : Blk := b.lswSwitch c (b.lswWant c)

/-- No command that has arrived before now is driven (R178), and no retry follows. -/
def Blk.lswForget (b : Blk) (c : Nat) : Blk :=
  (b.setFld F.LSW_STATUS_RETRYING c 0).setSwitch c { b.switch c with cmd := false, stored := false, retryAt := none, kept := false }

/-- The command in force is dropped: the channel stays off until a command arrives (R178). -/
def Blk.lswDrop (b : Blk) (c : Nat) : Blk := (b.lswForget c).lswUpdate c

/-- FLT of a switch channel: off, no retry (R181, R182, R184). -/
def Blk.lswFault (b : Blk) (c : Nat) (cause : Fld) : Blk :=
  ((b.setFld cause c 1).setFld F.LSW_STATUS_FLT c 1).lswDrop c

/-- A command of the channel would be driven (R178, R188): EN, no FLT, no latch. -/
def Blk.lswTakes (b : Blk) (c : Nat) : Bool :=
  b.flag F.LSW_CTRL_EN c && !b.flag F.LSW_STATUS_FLT c && !b.flag F.LSW_STATUS_TRIP_LATCH c

/-- A command comes into force: an off-to-on command starts a retry episode (R183); off ends a retry pause. -/
def Blk.lswApply (b : Blk) (c : Nat) (on : Bool) : Blk :=
  let x := b.switch c
  let b := if on && !x.cmd then b.setFld F.LSW_STATUS_RETRY_CNT c 0 else b
  let keep := on && x.cmd
  let b := if keep then b else b.setFld F.LSW_STATUS_RETRYING c 0
  (b.setSwitch c { x with cmd := on, retryAt := if keep then x.retryAt else none }).lswUpdate c

/-- LSW_COMMAND (R177, R178, R189, R194): the next command for channel `c` arrives on the actuator link. -/
def Blk.lswCommand (b : Blk) (c : Nat) : Blk :=
  b.when (b.powered && !b.frozen) fun b =>
    match b.takeLink (fun m => match m with | .lsw ch _ => ch == c | .sol _ _ => false) with
    | some (.lsw _ v, b) =>
      let on := v.getLsbD 0
      let b := (b.setFlag F.LSW_CMD_ON c on).setFld F.LSW_CMD_CMD_NEW c 1
      if (b.comp (lswComp c)).limp then b
      else if b.cranking then b.setSwitch c { b.switch c with stored := true }
      else if b.lswTakes c then (b.setFld F.LSW_STATUS_LIMP c 0).lswApply c on
      else (b.setFld F.LSW_STATUS_LIMP c 0).lswUpdate c
    | _ => b

/-- The end of a retry pause that the crank hold from TB1 `hold` until now has suspended: all of the hold, or from the beginning of a
pause that began within it (R182, R189). -/
def Blk.pauseEnd (b : Blk) (hold t : Nat) : Nat := t + (b.tb1 - max hold (t - 2000000))

/-- The stored command of channel `c` applies at the end of the crank hold that began at TB1 `hold` (R189); a retry pause goes on, and
a channel that follows its limp pin takes its level. -/
def Blk.lswReturn (b : Blk) (c hold : Nat) : Blk :=
  let x := b.switch c
  let b := b.setSwitch c { x with stored := false, kept := false, retryAt := x.retryAt.map (b.pauseEnd hold) }
  if !x.stored then b.lswUpdate c
  else if b.lswTakes c then (b.setFld F.LSW_STATUS_LIMP c 0).lswApply c (b.flag F.LSW_CMD_ON c)
  else (b.setFld F.LSW_STATUS_LIMP c 0).lswUpdate c

/-- The state that a channel holds as crank hold begins (R189). -/
def Blk.lswKeep (b : Blk) (c : Nat) : Blk := b.setSwitch c { b.switch c with kept := b.lswOut c }

/-- LSW_ENABLE (R178): the channel follows the next command that arrives; EN is 1 already where nothing changes. -/
def Blk.lswEnable (b : Blk) (c : Nat) : Blk :=
  if b.flag F.LSW_CTRL_EN c then b
  else ((b.lswForget c).setFld F.LSW_CTRL_EN c 1).setFld F.LSW_CMD_CMD_NEW c 0

/-- LSW_DISABLE (R178): off at once, retries cancelled. -/
def Blk.lswDisable (b : Blk) (c : Nat) : Blk :=
  ((b.setFld F.LSW_CTRL_EN c 0).setFld F.LSW_CMD_CMD_NEW c 0).lswDrop c

/-! ## Current sense (R179, R180) -/

/-- µA in one LSB of the sense code (R174). -/
def senseLsb (c : Nat) : Nat := if c < 96 then 500 else 2000

/-- The sense code of channel `c` at `ua` µA (R179): the highest code whose condition holds. -/
def Blk.senseCode (b : Blk) (c ua : Nat) : Nat :=
  if b.flag F.LSW_STATUS_TRIP_LATCH c then 0xFFF7
  else if b.flag F.LSW_BANK_STATUS_FEED_UV (c / 16) then 0xFFF6
  else if b.flag F.LSW_STATUS_OTEMP c then 0xFFF5
  else if b.flag F.LSW_STATUS_SHORT c then 0xFFF4
  else if b.flag F.LSW_STATUS_RETRY_EXH c then 0xFFF3
  else if b.flag F.LSW_STATUS_OVERLOAD c || b.flag F.LSW_STATUS_RETRYING c then 0xFFF2
  else if b.flag F.LSW_STATUS_SHED c then 0xFFF1
  else if b.flag F.LSW_STATUS_OPEN_OFF c then 0xFFF0
  else if b.lswOut c then min 0xFFEF (ua / senseLsb c)
  else 0

/-- SENSE_SAMPLE (R179): channel `c` digitises its current of `ua` µA. -/
def Blk.senseSample (b : Blk) (c ua : Nat) : Blk :=
  b.when b.powered fun b => b.setFld F.LSW_SENSE_CODE c (b.senseCode c ua)

/-- The channel on SENSE_MUXm (R180). -/
def Blk.senseMux (b : Blk) (m : Nat) : Nat := 32 * m + b.fld F.LSW_MUXSEL_CH m

/-- The level of SENSE_MUXm in mV at the nominal values of R430 for a current of `ua` µA: the fault level, 0.50 V for a
channel that is off, or the linear range; high impedance (none) without supply (R434). -/
def Blk.senseMuxMv (b : Blk) (m ua : Nat) : Option Nat :=
  let c := b.senseMux m
  if !b.powered then none
  else if 0xFFF0 ≤ b.fld F.LSW_SENSE_CODE c then some 4750
  else if !b.lswOut c then some 500
  else some (500 + 3500 * min ua (0xFFEF * senseLsb c) / (0xFFEF * senseLsb c))

/-! ## Overcurrent (R181 to R183) -/

/-- OC_THRESH as used, 0.125 A (R174, R181). -/
def Blk.ocThresh (b : Blk) (c : Nat) : Nat := min (if c < 96 then 80 else 250) (b.fld F.LSW_CFG_OC_THRESH c)

/-- OC_BLANK as used, ns. -/
def Blk.ocBlank (b : Blk) (c : Nat) : Nat := max 1 (b.fld F.LSW_CFG_OC_BLANK c) * 100000

/-- A current that has lain at `peak` (10 mA) since TB1 `since` is an overload (R181): one that began within the blank may
last to the end of the blank, any other 1 ms, and each must be longer. -/
def Blk.overload (b : Blk) (c since peak : Nat) : Bool :=
  let x := b.switch c
  decide (b.ocThresh c * 25 < peak * 2) &&
    (if since < x.onAt + b.ocBlank c then b.exceeded x.onAt (b.ocBlank c) else b.exceeded since 1000000)

/-- LSW_SHORT (R181): the active limit has acted for 50 µs since TB1 `since`. -/
def Blk.lswShort (b : Blk) (c since peak : Nat) : Blk :=
  b.when (b.powered && b.lswOut c && !b.flag F.LSW_CFG_LAMP c && b.elapsed since 50000) fun b =>
    (b.lswFault c F.LSW_STATUS_SHORT).raise (584 + c / 16) 0x05 0x01 (c * 2 ^ 25 + min 65535 peak)

/-- LSW_OVERLOAD (R181). -/
def Blk.lswOverload (b : Blk) (c since peak : Nat) : Blk :=
  b.when (b.powered && b.lswOut c && !b.flag F.LSW_CFG_LAMP c && b.overload c since peak) fun b =>
    (b.lswFault c F.LSW_STATUS_OVERLOAD).raise (584 + c / 16) 0x05 0x02 (c * 2 ^ 25 + min 65535 peak)

/-- LAMP_LIMIT_OFF (R182): the active limit has acted since TB1 `since`, or the current is an overload. -/
def Blk.lampLimitOff (b : Blk) (c : Nat) (limit : Bool) (since peak : Nat) : Blk :=
  b.when (b.powered && b.lswOut c && b.flag F.LSW_CFG_LAMP c &&
      (if limit then b.elapsed since 1000000 else b.overload c since peak)) fun b =>
    let n := b.fld F.LSW_STATUS_RETRY_CNT c
    let b := b.setSwitch c { b.switch c with evAt := some b.tb1 }
    if n < b.fld F.LSW_CFG_RETRIES c then
      ((b.setFld F.LSW_STATUS_RETRYING c 1).setSwitch c
        { b.switch c with retryAt := some (b.tb1 + 2000000) }).lswUpdate c
    else
      ((b.lswFault c F.LSW_STATUS_RETRY_EXH).setFld F.LSW_STATUS_RETRYING c 1).raise (584 + c / 16) 0x05 0x03
        (c * 2 ^ 25 + n * 2 ^ 16 + min 65535 peak)

/-- LSW_RETRY (R182, R189, R447): 2 ms after the off edge the channel switches on again, which counts as a retry; a channel that something
else keeps off makes none, and a freeze under the hold strap holds the output. -/
def Blk.lswRetry (b : Blk) (c : Nat) : Blk :=
  match (b.switch c).retryAt with
  | none => b
  | some t =>
    b.when (b.powered && !b.cranking && !(b.frozen && b.flag F.DBG_STATUS_HOLD_STRAP 0) && b.elapsed t 0) fun b =>
      let b := ((b.setFld F.LSW_STATUS_RETRYING c 0).setSwitch c { b.switch c with retryAt := none }).lswUpdate c
      if b.lswOut c then b.incFld F.LSW_STATUS_RETRY_CNT c else b

/-- RETRY_EPISODE_END (R183): 100 ms on without an event. -/
def Blk.retryEpisodeEnd (b : Blk) (c : Nat) : Blk :=
  let x := b.switch c
  b.when (b.powered && b.lswOut c && b.elapsed (max x.onAt (x.evAt.getD 0)) 100000000) fun b =>
    b.setFld F.LSW_STATUS_RETRY_CNT c 0

/-! ## Feeds (R175, R190) -/

/-- The switch channel of bank `k` that is on and sheds first (R175): highest rank, then highest number. -/
def Blk.shedFirst (b : Blk) (k : Nat) : Option Nat :=
  (List.range 16).foldl (fun acc j =>
    let c := 16 * k + j
    if b.lswOut c then
      match acc with
      | some m => if b.fld F.LSW_CFG_SHED m ≤ b.fld F.LSW_CFG_SHED c then some c else some m
      | none => some c
    else acc) none

/-- The feed current `feed` (10 mA), above 50 A since TB1 `since`, is over a limit (R175). -/
def Blk.feedExcess (b : Blk) (feed since : Nat) : Bool :=
  decide (15000 < feed) || (decide (5000 < feed) && b.exceeded since 100000000)

/-- FEED_SHED (R175): the feed of bank `k` carries `feed` (10 mA), above 50 A since TB1 `since`. -/
def Blk.feedShed (b : Blk) (k feed since : Nat) : Blk :=
  let x := b.comp (8 + k)
  let excess := b.feedExcess feed since
  let due := match x.shedAt with
    | some t => b.elapsed t 1000000
    | none => true
  b.when (b.powered && excess && due) fun b =>
    let b := b.setFld F.LSW_BANK_FEED_FEED_I k (min feed 65535)
    match b.shedFirst k with
    | none => b
    | some c =>
      let first := !b.flag F.LSW_BANK_STATUS_SHEDDING k
      let b := ((b.lswFault c F.LSW_STATUS_SHED).setFld F.LSW_BANK_STATUS_SHEDDING k 1).setComp (8 + k)
        { x with shedAt := some b.tb1, shedCh := c }
      if first then b.raise (584 + k) 0x05 0x04 (c * 2 ^ 25 + min 65535 feed) else b

/-- The feed is still over a limit when the last switch channel has been shed: one FEED_VALVES record in the episode
(R175), which names the channel shed last. -/
def Blk.feedValves (b : Blk) (k feed since : Nat) : Blk :=
  let x := b.comp (8 + k)
  b.when (b.powered && b.flag F.LSW_BANK_STATUS_SHEDDING k && (b.shedFirst k).isNone && !x.valves && b.feedExcess feed since)
    fun b =>
      ((b.setFld F.LSW_BANK_FEED_FEED_I k (min feed 65535)).setComp (8 + k) { x with valves := true }).raise (584 + k) 0x05 0x05
        (x.shedCh * 2 ^ 25 + min 65535 feed)

/-- FEED_SHED as a whole (R175): a shed, or, with no switch channel on in a shed episode, the FEED_VALVES record. -/
def Blk.feedOver (b : Blk) (k feed since : Nat) : Blk :=
  match b.shedFirst k with
  | some _ => b.feedShed k feed since
  | none => b.feedValves k feed since

/-- SHED_EPISODE_END (R175): the feed of bank `k` carries `feed` (10 mA), within both limits since TB1 `since`. -/
def Blk.shedEnd (b : Blk) (k feed since : Nat) : Blk :=
  b.when (b.powered && decide (feed ≤ 5000) && b.elapsed since 100000000) fun b =>
    ((b.setFld F.LSW_BANK_FEED_FEED_I k feed).setFld F.LSW_BANK_STATUS_SHEDDING k 0).setComp (8 + k)
      { b.comp (8 + k) with valves := false, shedAt := none }

/-- Both kinds of channel of bank `k` take what the precedence rules give them. -/
def Blk.bankUpdate (b : Blk) (k : Nat) : Blk := (List.range 16).foldl (fun b j => b.lswUpdate (16 * k + j)) b

/-- FEED_UV of bank `k` in the bank and in its channels. -/
def Blk.setFeedUv (b : Blk) (k : Nat) (on : Bool) : Blk :=
  (List.range 16).foldl (fun b j => b.setFlag F.LSW_STATUS_FEED_UV (16 * k + j) on)
    (b.setFlag F.LSW_BANK_STATUS_FEED_UV k on)

/-- FEED_UNDERVOLTAGE (R166, R190, R373): FEEDk stands at `mv`. -/
def Blk.feedUndervoltage (b : Blk) (k mv : Nat) : Blk :=
  b.when (b.powered && decide (mv < 3000)) fun b =>
    let b := b.setFld F.LSW_BANK_FEED_FEED_V k mv
    if b.flag F.LSW_BANK_STATUS_FEED_UV k then b
    else
      let b := (b.setFeedUv k true).bankUpdate k
      let b := (List.range 8).foldl (fun b j => b.solFast (8 * k + j)) b
      b.raise (584 + k) 0x10 0x05 (k * 2 ^ 29 + mv)

/-- FEED_RECOVERY (R190, R437): FEEDk stands at `mv`, 3.5 V or more since TB1 `since`. -/
def Blk.feedRecovery (b : Blk) (k mv since : Nat) : Blk :=
  b.when (b.powered && decide (3500 ≤ mv) && b.elapsed since 10000000) fun b =>
    (((b.setFld F.LSW_BANK_FEED_FEED_V k mv).setFeedUv k false)).bankUpdate k

/-! ## Junction, clears (R178, R183, R184) -/

/-- LSW_JUNCTION_OVERTEMP (R184): the junction of channel `c` stands at `temp`, in 0.1 °C. A new episode begins only once OTEMP has
been cleared, and so below 165 °C (log 32). -/
def Blk.lswJunction (b : Blk) (c : Nat) (temp : Int) : Blk :=
  b.when b.powered fun b =>
    let b := b.setSFld F.LSW_TEMP_TEMP c temp
    b.when (!b.flag F.LSW_STATUS_OTEMP c && decide (1750 < temp)) fun b =>
      (b.lswFault c F.LSW_STATUS_OTEMP).raise (584 + c / 16) 0x06 0x01 (c * 2 ^ 25 + (BitVec.ofInt 16 temp).toNat)

/-- LSW_FAULT_CLEAR (R178, R183, R184): ignored while the junction is 165 °C or above, and nothing to clear without FLT. -/
def Blk.lswFaultClear (b : Blk) (c : Nat) : Blk :=
  if !b.flag F.LSW_STATUS_FLT c ∨ 1650 ≤ b.sfld F.LSW_TEMP_TEMP c then b
  else
    let b := (b.setFld F.LSW_STATUS_RETRY_CNT c 0).lswForget c
    let b := [F.LSW_STATUS_FLT, F.LSW_STATUS_SHORT, F.LSW_STATUS_OVERLOAD, F.LSW_STATUS_RETRY_EXH, F.LSW_STATUS_OTEMP,
      F.LSW_STATUS_SHED].foldl (fun b f => b.setFld f c 0) b
    (b.setFld F.LSW_CMD_CMD_NEW c 0).lswUpdate c

/-- LSW_TRIP_CLEAR (R169, R178, R187). -/
def Blk.lswTripClear (b : Blk) (c : Nat) : Blk :=
  if !b.flag F.LSW_STATUS_TRIP_LATCH c then b
  else
    match b.tripLevel (b.switchTrips c) with
    | none =>
      ((((b.lswForget c).setFld F.LSW_CMD_CMD_NEW c 0).setFld F.LSW_STATUS_TRIP_LATCH c 0).setFld F.LSW_STATUS_TRIP_PERSIST c 0).lswUpdate c
    | some t =>
      let first := !b.flag F.LSW_STATUS_TRIP_PERSIST c
      let b := b.setFld F.LSW_STATUS_TRIP_PERSIST c 1
      if first then b.raise (584 + c / 16) 0x03 0x02 (t * 2 ^ 30 + 2 ^ (c % 16)) else b

/-! ## Open load (R185, R186) -/

/-- The threshold of open-load detection, mV (R185). -/
def Blk.olMv (b : Blk) (c : Nat) : Nat := 1000 + 250 * b.fld F.LSW_CFG_OL_THRESH c

/-- OPEN_LOAD_CHECK (R185, R186): the output of channel `c` stands at `mv`, 2 ms after the off edge and every 1 ms from then. -/
def Blk.openLoadCheck (b : Blk) (c mv : Nat) : Blk :=
  let due := match (b.switch c).olAt with
    | some t => b.elapsed t 1000000
    | none => b.elapsed (b.switch c).offAt 2000000
  b.when (b.powered && b.flag F.LSW_CFG_OL_EN c && !b.lswOut c && due && !b.cranking &&
      !b.flag F.LSW_BANK_STATUS_FEED_UV (c / 16)) fun b =>
    let x : SwitchSt := { b.switch c with olAt := some b.tb1 }
    if b.olMv c < mv then
      let b := b.setSwitch c { x with highN := x.highN + 1, lowN := 0 }
      if 8 ≤ x.highN + 1 ∧ !b.flag F.LSW_STATUS_OPEN_OFF c then
        (b.setFld F.LSW_STATUS_OPEN_OFF c 1).raise (584 + c / 16) 0x04 0x01 (c * 2 ^ 25 + min 65535 mv)
      else b
    else
      let b := b.setSwitch c { x with highN := 0, lowN := x.lowN + 1 }
      if 8 ≤ x.lowN + 1 then b.setFld F.LSW_STATUS_OPEN_OFF c 0 else b

/-- OPEN_LOAD_DISABLE (R185). -/
def Blk.openLoadDisable (b : Blk) (c : Nat) : Blk :=
  ((b.setFld F.LSW_CFG_OL_EN c 0).setFld F.LSW_STATUS_OPEN_OFF c 0).setSwitch c { b.switch c with highN := 0, lowN := 0 }

/-! ## Trips (R168 to R170, R187) -/

/-- A trip reaches a valve channel: latched, and FAST to OFF. -/
def Blk.valveTrip (b : Blk) (c : Nat) : Blk := (b.setFld F.SOL_STATUS_TRIP_LATCH c 1).solStop c

/-- A trip reaches a switch channel: latched and off, retries cancelled. -/
def Blk.switchTrip (b : Blk) (c : Nat) : Blk := (b.setFld F.LSW_STATUS_TRIP_LATCH c 1).lswDrop c

/-- The bit mask of the channels of one companion. -/
def chanMask (l : List Nat) (n : Nat) : Nat := l.foldl (fun acc c => acc + 2 ^ (c % n)) 0

/-- Input `t` on ZS8 companion `k` (R168, R170). -/
def Blk.tripValves (b : Blk) (t k : Nat) : Blk :=
  let l := ((List.range 8).map (8 * k + ·)).filter fun c => (b.valveTrips c).contains t
  let dead := l.any fun c => (b.valve c).half == .deadToOn || (b.valve c).half == .deadToLow
  if l.isEmpty then b
  else (l.foldl Blk.valveTrip b).raise (576 + k) 0x03 0x01 (t * 2 ^ 30 + dead.toNat * 2 ^ 29 + chanMask l 8)

/-- Input `t` on ZP16 companion `k` (R170, R187). -/
def Blk.tripSwitches (b : Blk) (t k : Nat) : Blk :=
  let l := ((List.range 16).map (16 * k + ·)).filter fun c => (b.switchTrips c).contains t
  if l.isEmpty then b
  else (l.foldl Blk.switchTrip b).raise (584 + k) 0x03 0x01 (t * 2 ^ 30 + chanMask l 16)

/-- An accepted assertion of trip input `t` acts on every channel mapped to it. -/
def Blk.tripAct (b : Blk) (t : Nat) : Blk :=
  (List.range 8).foldl (fun b k => b.tripSwitches t k) ((List.range 8).foldl (fun b k => b.tripValves t k) b)

/-- TRIP_ASSERT (R168, R170, R187): the filter accepts an assertion of input `t`. -/
def Blk.tripAssert (b : Blk) (t : Nat) : Blk :=
  b.when (b.powered && !(b.fld F.SOL_TRIP_IN_LEVEL 0).testBit t) fun b =>
    let b := [F.SOL_TRIP_IN_LEVEL, F.SOL_TRIP_IN_SEEN, F.LSW_TRIP_IN_LEVEL, F.LSW_TRIP_IN_SEEN].foldl
      (fun b f => b.setFld f 0 (b.fld f 0 ||| 2 ^ t)) b
    b.tripAct t

/-- TRIP_RELEASE (R168): the filter accepts a release of input `t`. -/
def Blk.tripRelease (b : Blk) (t : Nat) : Blk :=
  b.when b.powered fun b =>
    [F.SOL_TRIP_IN_LEVEL, F.LSW_TRIP_IN_LEVEL].foldl (fun b f => b.setFld f 0 (b.fld f 0 &&& (15 - 2 ^ t))) b

/-! ## Actuator link and limp-home (R172, R191 to R194, R447) -/

/-- LINK_UP of companion `k`. -/
def Blk.setLinkUp (b : Blk) (k : Nat) (on : Bool) : Blk :=
  if k < 8 then b.setFlag F.SOL_COMP_STATUS_LINK_UP k on else b.setFlag F.LSW_BANK_STATUS_LINK_UP (k - 8) on

/-- Valve channel `c` enters limp-home (R193). -/
def Blk.valveLimp (b : Blk) (c : Nat) : Blk :=
  if (b.limpOf 1 c).isEmpty then b.solStop c
  else (b.solForget c).setValve c { (b.solForget c).valve c with follow := true }

/-- Switch channel `c` enters limp-home (R193). -/
def Blk.switchLimp (b : Blk) (c : Nat) : Blk :=
  (((b.lswForget c).setSwitch c { (b.lswForget c).switch c with kept := b.lswOut c }).setFlag F.LSW_STATUS_LIMP c
    (!(b.limpOf 0 c).isEmpty)).lswUpdate c

/-- Companion `k` enters limp-home (R192, R193). -/
def Blk.limpEnter (b : Blk) (k : Nat) : Blk :=
  if (b.comp k).limp then b
  else
    let b := b.setComp k { b.comp k with limp := true }
    if k < 8 then (List.range 8).foldl (fun b j => b.valveLimp (8 * k + j)) b
    else (List.range 16).foldl (fun b j => b.switchLimp (16 * (k - 8) + j)) b

/-- LINK_FRAME (R172, R194): an actuator-link frame reaches companion `k`; after CONFIG_DONE it ends limp-home. -/
def Blk.linkFrame (b : Blk) (k : Nat) : Blk :=
  b.when (b.powered && !b.frozen) fun b =>
    let x := b.comp k
    let done := b.configDone
    let b := (b.setComp k { x with frameAt := b.tb1, expired := x.expired && !done, limp := x.limp && !done }).setLinkUp k true
    let b := if done then { b with out := { b.out with dark := false } } else b
    if x.limp ∧ done ∧ 8 ≤ k then b.bankUpdate (k - 8) else b

/-- WATCHDOG_EXPIRY (R166, R172, R192, R447): no link frame for 50 ms. In crank hold the keep-alive comes every 1 ms, and a frozen
node that holds its outputs has suspended the watchdog. -/
def Blk.watchdogExpiry (b : Blk) (k : Nat) : Blk :=
  let x := b.comp k
  b.when (b.powered && !x.expired && (!b.cranking || b.frozen) && b.elapsed x.frameAt 50000000 && !(b.frozen && b.flag F.DBG_STATUS_HOLD_STRAP 0)) fun b =>
    let b := (b.setComp k { x with expired := true }).setLinkUp k false
    let b := if k < 8 then b.setFld F.SOL_COMP_STATUS_WD_EXPIRED k 1
      else b.setFld F.LSW_BANK_STATUS_WD_EXPIRED (k - 8) 1
    b.limpEnter k

/-- LIMP_HOME_ENTRY (R192, R447): the compute side is unpowered or in reset, or the node is frozen without the hold
strap; every companion is in limp-home within 10 µs. -/
def Blk.limpHomeEntry (b : Blk) : Blk :=
  b.when (b.powered && (decide (b.mod.phase ≠ .running) || (b.frozen && !b.flag F.DBG_STATUS_HOLD_STRAP 0))) fun b =>
    (List.range 16).foldl (fun b k => b.limpEnter k) b

/-- LIMP_PIN_CHANGE (R193): a level of LIMPp that has been stable for 1 ms. -/
def Blk.limpPinChange (b : Blk) (p : Nat) (high : Bool) : Blk :=
  b.when b.powered fun b =>
    let old := b.fld F.LSW_LIMP_LEVEL 0
    let b := b.setFld F.LSW_LIMP_LEVEL 0 (if high then old ||| 2 ^ p else old &&& (255 - 2 ^ p))
    (List.range 128).foldl (fun b c => if b.lswFollows c then b.lswUpdate c else b) b

/-- Valve channel `c` is released from its limp pins: it holds its limp current until a setpoint arrives (R167, R194). -/
def Blk.valveRelease (b : Blk) (c : Nat) : Blk :=
  let x := b.valve c
  if x.follow then b.setValve c { x with follow := false, hold := b.limpCurrent c } else b

/-- Switch channel `c` is released from its limp pins: it keeps its output until a command arrives (R178, R194). -/
def Blk.switchRelease (b : Blk) (c : Nat) : Blk :=
  if b.lswFollows c then
    ((b.setFld F.LSW_STATUS_LIMP c 0).setSwitch c { b.switch c with cmd := b.lswOut c }).lswUpdate c
  else b

/-- LIMP_RELEASE (R194): bits of LSW_LIMP_REL are written 1; a companion still in limp-home keeps its pins. -/
def Blk.limpRelease (b : Blk) (zs8 zp16 : BitVec 8) : Blk :=
  let b := (List.range 64).foldl (fun b c =>
    if zs8.getLsbD (c / 8) && !(b.comp (c / 8)).limp then b.valveRelease c else b) b
  (List.range 128).foldl (fun b c =>
    if zp16.getLsbD (c / 16) && !(b.comp (lswComp c)).limp then b.switchRelease c else b) b

end Sys2Proof.Machine
end

