-- ==== Sys2Proof/Machine/Start.lean ====
section
/-!
DEFINITION. What a reset keeps and what it loses (R11, R368, R386, R394, R450): loss of supply, the beginning of a full start,
the hold of the compute side.
Readings and choices: logs 2, 22, 32, 34, 43, 55 of notes/assumptions.
-/

namespace Sys2Proof.Machine

/-- A journal region without the entries that wait in AON. -/
def JRegion.drop (j : JRegion) : JRegion := { j with buf := [], bufAt := none }

/-- A journal region whose waiting entries go on into a new count of TB1. -/
def JRegion.carry (j : JRegion) : JRegion := { j with bufAt := j.bufAt.map fun _ => 0 }

/-- The journal, region by region. -/
def Journal.each (j : Journal) (f : JRegion → JRegion) : Journal :=
  ⟨f j.ledger, f j.faults, f j.tiles, f j.fields, f j.checks⟩

/-- What the config store holds. -/
def BootSt.stored (x : BootSt) : BootSt :=
  { BootSt.reset with copy0 := x.copy0, copy1 := x.copy1, setA := x.setA, setB := x.setB }

/-- The registers whose words hold what a companion does now, with their number and the bits that are the companion's and not the
compute side's: a reset of the compute side leaves them alone, and they read as 0 until the companion's next link frame (R11, R192,
R193). -/
def liveRegs : List (RegName × Nat × Word) :=
  [(.SOL_STATUS, 64, darkBits .SOL_STATUS), (.LSW_STATUS, 128, darkBits .LSW_STATUS), (.LSW_LIMP, 1, darkBits .LSW_LIMP),
    (.LSW_BANK_STATUS, 8, darkBits .LSW_BANK_STATUS)]

/-- The block with the live bits of `old` in its companion registers. -/
def Blk.keepLive (b old : Blk) : Blk :=
  liveRegs.foldl (fun b r => (List.range r.2.1).foldl (fun b i => b.setReg r.1 i (old.reg r.1 i &&& r.2.2)) b) b

/-- The companions, which run on through a start: their limp-home goes on. -/
def OutSt.carry (o : OutSt) : OutSt :=
  { o with
    valve := o.valve.map fun x => (x.1, { x.2 with fresh := false, arr := none, stored := false, coilAt := 0 })
    switch := []
    comp := o.comp.map fun x => (x.1, { x.2 with frameAt := 0, shedAt := none, hot := false })
    dark := true }

/-- The address lies in lower shared SRAM, which AON holds (R450). -/
def inAon (a : Nat) : Bool := decide (0x10000000 ≤ a) && decide (a < 0x11000000)

/-- The registers that show pins sampled when reset is released (R445, R447). -/
def Blk.sampleStraps (b : Blk) : Blk := b.setFlag F.DBG_STATUS_HOLD_STRAP 0 b.mod.holdStrap

/-- A full start begins while VBAT has stayed at 3.0 V or more (R11, R450): AON keeps lower shared SRAM and what the module
holds there; everything else takes its reset value. -/
def Blk.restart (b : Blk) : Blk :=
  { Blk.reset with
    mem := b.mem.filter fun c => inAon c.1
    otp := b.otp
    mod := { b.mod with phase := .released }
    jrn := b.jrn.each JRegion.carry
    out := b.out.carry
    yld := { YldSt.reset with held := b.yld.held }
    net := { NetSt.reset with wire := b.net.wire }
    boot := b.boot.stored
    dbg := { b.dbg with data := 0, deny := false, seen := [], held := none }
    free := b.free }.keepLive b |>.sampleStraps

/-- The supply is gone (R14, R190, R368, R450): what is left stands in OTP and in the config store. -/
def Blk.powerOff (b : Blk) : Blk :=
  { Blk.reset with
    otp := b.otp
    mod := { ModSt.reset with phase := .off, freezeN := b.mod.freezeN, recoverN := b.mod.recoverN,
                              holdStrap := b.mod.holdStrap, vbat := b.mod.vbat }
    jrn := b.jrn.each JRegion.drop
    boot := b.boot.stored
    free := b.free }

/-- The compute side is held in reset (R386, R398, R413): the configuration is no longer in force. -/
def Blk.hold (b : Blk) (p : Phase) : Blk := { b.setFld F.SYS_STATUS_CONFIG_DONE 0 0 with mod := { b.mod with phase := p } }

end Sys2Proof.Machine
end

