-- ==== Sys2Proof/Machine/Dbg.lean ====
section
/-!
DEFINITION. Plain register writes (R9), boundary scan, freeze and state readout (spec chapter 19).
Readings and choices: logs 49, 54 of notes/assumptions.
-/

namespace Sys2Proof.Machine

/-- The bits of a word of register `r` that a write sets: RW, and LCK until CONFIG_DONE (R9). -/
def Blk.writable (b : Blk) (r : RegName) : Word :=
  BitVec.ofNat 32 r.masks.rw ||| (if b.configDone then 0 else BitVec.ofNat 32 r.masks.lck)

/-- A write of `v` to register `r`, index `i`, by the access types of its fields (R9): RW and LCK fields are set, W1C fields
cleared where `v` has 1. -/
def Blk.plainWrite (b : Blk) (r : RegName) (i : Nat) (v : Word) : Blk :=
  let m := b.writable r
  let old := b.reg r i
  b.setReg r i ((old &&& ~~~ m ||| v &&& m) &&& ~~~ (v &&& BitVec.ofNat 32 r.masks.w1c))

/-! ## Freeze (R445 to R447) -/

/-- The registers as a freeze holds them (R449): with what the limp pins and channels and FREEZE_N show at that instant. -/
def Blk.heldRegs (b : Blk) : SMap RegKey Word :=
  ((b.setReg .LSW_LIMP 0 (b.readReg .LSW_LIMP 0)).setReg .DBG_STATUS 0 (b.readReg .DBG_STATUS 0)).regs

/-- The node freezes. -/
def Blk.freeze (b : Blk) (cause id origin : Nat) : Blk :=
  let b := (b.setFld F.DBG_STATUS_CAUSE 0 cause).setFld F.DBG_STATUS_FROZEN 0 1
  let b := (b.setFld F.DBG_FRZ_ID_ID 0 id).setFld F.DBG_FRZ_ID_ORIGIN 0 origin
  let b := b.setReg64 .DBG_FRZ_T_LO .DBG_FRZ_T_HI 0 b.tb1
  { b with dbg := { b.dbg with held := some b.heldRegs } }

/-- A pair has been seen. -/
def Blk.sawFreeze (b : Blk) (origin id : Nat) : Blk := { b with dbg := { b.dbg with seen := b.dbg.seen ++ [(origin, id)] } }

/-- A freeze starts here: this node is the origin. -/
def Blk.freezeHere (b : Blk) (cause : Nat) : Blk :=
  b.when (decide (b.mod.phase ≠ .off) && !b.frozen) fun b =>
    let id := (b.dbg.freezeId + 1) % 2 ^ 16
    let b := { b with dbg := { b.dbg with freezeId := id } }.sawFreeze b.node id
    (b.upPorts.foldl (fun b p => b.send p (.freeze id b.node)) b).freeze cause id b.node

/-- FREEZE_PIN (R445): FREEZE_N has been low for 5 ns, or is high again. -/
def Blk.freezePin (b : Blk) (high : Bool) : Blk :=
  let b := { b with mod := { b.mod with freezeN := high } }
  if high then b else b.freezeHere 1

/-- FREEZE_REGISTER (R445): DBG_CTRL.FREEZE is written 1 by master `mid`. -/
def Blk.freezeRegister (b : Blk) (mid : Nat) : Blk := b.when (mid == 1023) fun b => b.freezeHere 2

/-- FREEZE_FLIT (R338, R445, R446): an unseen pair goes to every other UP port, and the node freezes unless it is frozen;
a flit that fails its CRC is discarded (R308). -/
def Blk.freezeFlit (b : Blk) (p id origin : Nat) (crcOk : Bool) : Blk :=
  b.when (b.linkRuns p && b.portUp p && crcOk) fun b =>
    if b.dbg.seen.contains (origin, id) then b
    else
      let b := b.sawFreeze origin id
      let b := (b.upPorts.filter (· != p)).foldl (fun b q => b.send q (.freeze id origin)) b
      if b.frozen then b else b.freeze 3 id origin

/-- DBG_RESTART (R447): DBG_CTRL.RESTART is written 1; a full start begins while FROZEN is 1. -/
def Blk.dbgRestart (b : Blk) : Blk := b.when b.frozen Blk.restart

/-! ## Boundary scan (R441 to R444) -/

/-- The low `n` bits of `v`, least significant first. -/
def bitList (n v : Nat) : List Bool := (List.range n).map v.testBit

/-- The number whose bits are `l`, least significant first. -/
def ofBitList : List Bool → Nat
  | [] => 0
  | x :: l => x.toNat + 2 * ofBitList l

/-- The identification code of TAP `k` (R443). -/
def idCode (k : Nat) : Nat := if k = 0 then 0x15120A4B else 0x10580A4B

/-- The data register of TAP `k`: the identification code after Test-Logic-Reset. -/
def Blk.tapDr (b : Blk) (k : Nat) : List Bool := SMap.get b.dbg.dr k (bitList 32 (idCode k))

/-- The block with `l` in the data register of TAP `k`. -/
def Blk.setTapDr (b : Blk) (k : Nat) (l : List Bool) : Blk :=
  { b with dbg := { b.dbg with dr := NMap.set b.dbg.dr k l (bitList 32 (idCode k)) } }

/-- TAP_RESET (R441, R442): TRST_N is low. -/
def Blk.tapReset (b : Blk) : Blk :=
  b.when (decide (b.mod.phase ≠ .off)) fun b => { b with dbg := { b.dbg with ir := [], dr := [] } }

/-- The cells of the boundary register of TAP `k` drive `bits`. -/
def Blk.setBoundary (b : Blk) (k : Nat) (bits : List Bool) : Blk :=
  { b with dbg := { b.dbg with boundary := NMap.set b.dbg.boundary k bits [] } }

/-! ## Debug access (R448, R449) -/

/-- A result is one of a debug access. -/
def Completion.ofDebug (c : Completion) : Bool := decide (c.who = .debug)

/-- A debug access is still on its way; the readout path of a frozen node serves each at once (R449). -/
def Blk.dbgBusy (b : Blk) : Bool := !b.frozen && b.bus.waiting.any fun a => decide (a.who = .debug)

/-- The results of debug accesses reach the data register. -/
def Blk.dbgTake (b : Blk) : Blk :=
  let mine := b.bus.results.filter Completion.ofDebug
  let b := { b with bus := { b.bus with results := b.bus.results.filter fun c => !c.ofDebug } }
  mine.foldl (fun b c => { b with dbg := { b.dbg with data := c.data.setWidth 32, deny := decide (c.status ≠ .ok) } }) b

/-- What Capture-DR captures (R448). -/
def Blk.dbgCapture (b : Blk) : Nat := b.dbgBusy.toNat * 2 ^ 33 + b.dbg.deny.toNat * 2 ^ 32 + b.dbg.data.toNat

/-- While frozen an access of the debug path fails the checks of R359, or meets DRAM (R449). -/
def Blk.frozenGate (b : Blk) (op : AccOp) (addr : Nat) : Option Nat :=
  match b.gate 1023 op addr 32 with
  | some d => some d
  | none => if regionOf addr = some .dram then some 5 else none

/-- While frozen, RW and LCK fields take a write, W1C and WO fields ignore it (R449); the ring's read index moves as it does at any
write (R363). -/
def Blk.frozenWrite (b : Blk) (addr : Nat) (v : Word) : Blk :=
  if regionOf addr = some .regs then
    match regAt (addr - regBase) with
    | some (.ACC_LOG_RD, _) => b.logReadAdvance v
    | some (r, i) =>
      let m := b.writable r
      b.setReg r i (b.reg r i &&& ~~~ m ||| v &&& m)
    | none => b
  else b.setWord addr v

/-- The previous debug access has ended so. -/
def Blk.dbgEnd (b : Blk) (v : Word) (deny : Bool) : Blk := { b with dbg := { b.dbg with data := v, deny := deny } }

/-- A debug access of a frozen node acts on the registers as the freeze holds them, `b` being the block with these; a refusal is
counted and not recorded (R449). -/
def Blk.frozenServe (b : Blk) (write : Bool) (addr : Nat) (v : Word) : Blk :=
  let op := if write then AccOp.write else AccOp.read
  match b.frozenGate op addr with
  | some _ => ((b.incFld F.ACC_REFUSED_REFUSED 0).addSat F.ACC_LOG_LOST_LOST 0 1).dbgEnd 0 true
  | none =>
    if write then (b.frozenWrite addr v).dbgEnd 0 false
    else b.dbgEnd (BitVec.ofNat 32 (b.readAddr addr 4)) false

/-- `f` acts on the block with the held registers, and what it makes of them is held. -/
def Blk.onHeld (b : Blk) (f : Blk → Blk) : Blk :=
  match b.dbg.held with
  | none => f b
  | some r =>
    let c := f { b with regs := r }
    { c with regs := b.regs, dbg := { c.dbg with held := some c.regs } }

/-- A write of 1 to DBG_CTRL.RESTART (R447, R449). -/
def isRestart (write : Bool) (addr : Nat) (v : Word) : Bool :=
  write && regAt (addr - regBase) == some (.DBG_CTRL, 0) && regionOf addr == some .regs && v.getLsbD 1

/-- A debug access while frozen (R449): one that is served and writes RESTART begins a full start. -/
def Blk.frozenAccess (b : Blk) (write : Bool) (addr : Nat) (v : Word) : Blk :=
  let c := b.onHeld fun b => b.frozenServe write addr v
  if isRestart write addr v && !c.dbg.deny then c.dbgRestart else c

/-- One 32-bit access as master 1023 is issued (R448). -/
def Blk.dbgIssue (b : Blk) (write : Bool) (addr : Nat) (v : Word) (edge : Nat) : Blk :=
  if b.frozen then b.frozenAccess write addr v
  else b.submit ⟨.debug, 1023, if write then .write else .read, addr, 32, v.setWidth 128, edge⟩

/-! ## A scan (R441, R442) -/

/-- `l` as a register of `n` cells: cells that nothing is given for hold 0. -/
def fitBits (n : Nat) (l : List Bool) : List Bool := (List.range n).map fun i => l.getD i false

/-- What Capture-DR puts into the data register of TAP `k`; `pins` is what its boundary cells see. -/
def Blk.captureDr (b : Blk) (k : Nat) (pins : List Bool) : List Bool :=
  match b.tapIr k with
  | .bypass | .clamp | .highz => [false]
  | .idcode => bitList 32 (idCode k)
  | .dbgAccess => bitList 73 b.dbgCapture
  | .samplePreload | .extest | .extestPulse | .extestTrain => fitBits (Config.boundaryCells k) pins

/-- A list cut into pieces of the given lengths. -/
def pieces : List Nat → List Bool → List (List Bool)
  | [], _ => []
  | n :: ns, l => l.take n :: pieces ns (l.drop n)

/-- Registers in the order from TDI to TDO, each nearest to TDO first, after `tdi` has been shifted in, with what went out. -/
def shiftChain (regs : List (List Bool)) (tdi : List Bool) : List (List Bool) × List Bool :=
  let all := regs.reverse.flatten ++ tdi
  ((pieces (regs.reverse.map List.length) (all.drop tdi.length)).reverse, all.take tdi.length)

/-- Update-DR of TAP `k` (R442, R448). -/
def Blk.updateDr (b : Blk) (k edge : Nat) : Blk :=
  match b.tapIr k with
  | .samplePreload | .extest | .extestPulse | .extestTrain => b.setBoundary k (b.tapDr k)
  | .dbgAccess =>
    let v := ofBitList (b.tapDr k)
    b.dbgIssue (v.testBit 72) (bitsOf v 32 40) (BitVec.ofNat 32 v) edge
  | _ => b

/-- The instruction registers of the chain take `ir` (R441). -/
def Blk.loadIr (b : Blk) (ir : BitVec 88) : Blk :=
  (List.range taps).foldl (fun b k => { b with dbg := { b.dbg with ir := NMap.set b.dbg.ir k (opcodeFor ir k) 1 } }) b

/-- The data registers of the chain are captured, and `tdi` is shifted through them. -/
def Blk.shiftDr (b : Blk) (x : ScanIn) : Blk :=
  let r := shiftChain ((List.range taps).map fun k => b.captureDr k (x.pins.getD k [])) x.tdi
  let b := (List.range taps).foldl (fun b k => b.setTapDr k (r.1.getD k [])) b
  { b with dbg := { b.dbg with tdo := r.2 } }

/-- A scan of the whole chain: instructions, then data. -/
def Blk.scan (b : Blk) (ir : BitVec 88) (x : ScanIn) : Blk :=
  let b := (b.loadIr ir).dbgTake.shiftDr x
  (List.range taps).foldl (fun b k => b.updateDr k x.edge) b

/-- A scan that gives TAP `k` instruction `i` (R442); the others take what `ir` holds for them. With another opcode for TAP `k` the
command is none of this row. -/
def Blk.tapScan (b : Blk) (i : TapIr) (k : Nat) (ir : BitVec 88) (x : ScanIn) : Blk :=
  b.when (decide (b.mod.phase ≠ .off) && tapDecode k (opcodeFor ir k) == i) fun b => b.scan ir x

end Sys2Proof.Machine
end

