-- ==== Sys2Proof/Machine/Net.lean ====
section
/-!
DEFINITION. The machine networks (spec chapter 14): Ethernet, CAN, ISOBUS, J1939. What R345 and R346 take from ISO 11783 and
SAE J1939 follows those standards (log 20).
Readings and choices: logs 20, 47, 58 of notes/assumptions.
-/

namespace Sys2Proof.Machine

/-! ## Ethernet (R339 to R341) -/

/-- MAC address of port `e` (R340). -/
def Blk.mac (b : Blk) (e : Nat) : Nat := (b.reg64 .BOOT_MAC_LO .BOOT_MAC_HI 0 + e) % 2 ^ 48

/-- The link-local address of a MAC address, as a modified EUI-64 (R340). -/
def linkLocal (mac : Nat) : BitVec 128 :=
  BitVec.ofNat 128 (0xFE80 * 2 ^ 112 + ((mac / 2 ^ 24) ^^^ 0x020000) * 2 ^ 40 + 0xFFFE * 2 ^ 24 + mac % 2 ^ 24)

/-- The static address of port `e` (R340). -/
def Blk.staticIp (b : Blk) (e : Nat) : BitVec 128 :=
  b.reg .ETH_IP (e * 4 + 3) ++ b.reg .ETH_IP (e * 4 + 2) ++ b.reg .ETH_IP (e * 4 + 1) ++ b.reg .ETH_IP (e * 4)

/-- The addresses of port `e`. -/
def Blk.ownIps (b : Blk) (e : Nat) : List (BitVec 128) :=
  linkLocal (b.mac e) :: if b.flag F.ETH_CTRL_IP_EN e then [b.staticIp e] else []

/-- The solicited-node group of an address (R340). -/
def solicitedNode (a : BitVec 128) : BitVec 128 := 0xFF0200000000000000000001FF000000#128 ||| (a &&& 0xFFFFFF#128)

/-- Port `e` takes what is sent to `dst`: an address of its own, the all-nodes group, or the solicited-node group of an address of its
own (R340). -/
def Blk.hearsIp (b : Blk) (e : Nat) (dst : BitVec 128) : Bool :=
  let own := b.ownIps e
  own.contains dst || dst == allNodes || (own.map solicitedNode).contains dst

/-- An Ethernet frame but for UDP (R339, R340): a tagged frame is discarded and counted, echo requests and neighbour solicitations
are answered, one from the unspecified address to all nodes, and the rest discarded. In Chrysalis none of these is answered (R413). -/
def Blk.ethAnswer (b : Blk) (e : Nat) (f : EthIn) : Blk :=
  b.when (b.ethRuns && b.flag F.ETH_CTRL_EN e && b.flag F.ETH_STATUS_LINK e) fun b =>
    let own := b.ownIps e
    match f with
    | .tagged => b.addSat F.ETH_CNT_RX_DROP e 1
    | .echo src dst data => if b.computeRuns ∧ b.hearsIp e dst then b.ethSend e (.echo src data) else b
    | .solicit src dst target =>
      if b.computeRuns ∧ own.contains target ∧ (dst = target ∨ dst = solicitedNode target) then
        b.ethSend e (.advert (if src = 0 then allNodes else src) target)
      else b
    | .udp _ _ _ _ _ | .other => b

/-- ETH_DISABLE (R341): the link drops at once, queued frames are discarded. -/
def Blk.ethDisable (b : Blk) (e : Nat) : Blk :=
  let was := b.flag F.ETH_CTRL_EN e
  let b := b.setFld F.ETH_CTRL_EN e 0
  if !was then b
  else
    let n := (SMap.get b.net.ethQ e []).length
    let b := { b with net := { b.net with ethQ := NMap.set b.net.ethQ e [] [] } }
    (b.setFld F.ETH_STATUS_LINK e 0).addSat F.ETH_CNT_TX_DROP e n

/-- ETH_LINK_CHANGE (R339): frames that wait leave when the link comes up. -/
def Blk.ethLink (b : Blk) (e : Nat) (up : Bool) : Blk :=
  b.when (b.ethRuns && b.flag F.ETH_CTRL_EN e) fun b =>
    let b := b.setFlag F.ETH_STATUS_LINK e up
    if up then
      let q := SMap.get b.net.ethQ e []
      { b with net := { b.net with
        ethQ := NMap.set b.net.ethQ e [] [], wire := NMap.set b.net.wire e (SMap.get b.net.wire e [] ++ q) [] } }
    else b

/-! ## CAN (R342 to R344) -/

/-- Entries of a ring (R343). -/
def Blk.ringN (b : Blk) (k : Nat) : Nat := 2 ^ max 4 (min 10 (b.fld F.CAN_CFG_RING_LOG2 k))

/-- Address of entry `i` of the transmit and of the receive ring. -/
def Blk.txEntry (b : Blk) (k i : Nat) : Nat :=
  b.fld F.CAN_TXR_HI_ADDR k * 2 ^ 32 + (b.reg .CAN_TXR_LO k).toNat + 80 * i
def Blk.rxEntry (b : Blk) (k i : Nat) : Nat :=
  b.fld F.CAN_RXR_HI_ADDR k * 2 ^ 32 + (b.reg .CAN_RXR_LO k).toNat + 80 * i

/-- Data bytes of a data length code (R342, ISO 11898-1). -/
def dlcBytes (fdf : Bool) (dlc : Nat) : Nat :=
  if dlc ≤ 8 then dlc
  else if !fdf then 8
  else
    match dlc with
    | 9 => 12
    | 10 => 16
    | 11 => 20
    | 12 => 24
    | 13 => 32
    | 14 => 48
    | _ => 64

/-- A ring entry (R343). -/
def canEntry (f : CanFrame) (t : Nat) : List Byte :=
  let id := if f.ide then f.id.toNat else f.id.toNat % 2 ^ 11
  let data := (f.data ++ List.replicate 64 0).take 64
  leBytes 4 (f.brs.toNat * 2 ^ 31 + f.fdf.toNat * 2 ^ 30 + f.ide.toNat * 2 ^ 29 + id) ++ leBytes 4 f.dlc.toNat ++
    leBytes 8 t ++ data

/-- The frame of a ring entry. -/
def Blk.canFrameAt (b : Blk) (a : Nat) : CanFrame :=
  let w := (b.word a).toNat
  let dlc := b.readMem (a + 4) 4 % 16
  let ide := w.testBit 29
  { brs := w.testBit 31, fdf := w.testBit 30, ide := ide,
    id := BitVec.ofNat 29 (if ide then bitsOf w 0 29 else bitsOf w 0 11), dlc := BitVec.ofNat 4 dlc,
    data := b.bytes (a + 16) (dlcBytes (w.testBit 30) dlc) }

/-- Some acceptance filter in use matches the identifier (R343). -/
def Blk.canAccepts (b : Blk) (k : Nat) (f : CanFrame) : Bool :=
  let id := BitVec.ofNat 29 (if f.ide then f.id.toNat else f.id.toNat % 2 ^ 11)
  (List.range 32).any fun j =>
    (b.reg .CAN_FILT_EN k).getLsbD j &&
      (id ^^^ (b.reg .CAN_FILT_ID (k * 32 + j)).setWidth 29) &&& (b.reg .CAN_FILT_MASK (k * 32 + j)).setWidth 29 == 0

/-! ## ISOBUS and J1939 (R345, R346) -/

/-- The NAME of this node (R345). -/
def Blk.isoName (b : Blk) : Nat := b.reg64 .ISO_NAME_LO .ISO_NAME_HI 0

/-- The address claimed message of address `sa`; 254 says that no address can be claimed. -/
def Blk.sendClaim (b : Blk) (k sa : Nat) : Blk := b.stackSend k 6 0xEE 255 sa (leBytes 8 b.isoName)

/-- The preferred address of controller `k` (R345, R346). -/
def Blk.prefAddr (b : Blk) (k : Nat) : Nat :=
  if k ≤ 1 then b.fld F.ISO_CFG_ISO_ADDR 0 else b.fld F.J1939_CFG_J1939_ADDR 0

/-- A controller joins its bus; a stack claims its address. -/
def Blk.canJoin (b : Blk) (k : Nat) : Blk :=
  let b := (b.setFld F.CAN_STATUS_BUS k 1).setCan k { b.can k with tec := 0, rec_ := 0 }
  if b.stackOn k then
    let a := b.prefAddr k
    (b.setCan k { b.can k with addr := a }).sendClaim k a
  else b

/-- Another node claims this node's address: the lower NAME keeps it; a self-configurable node claims another. -/
def Blk.claimed (b : Blk) (k : Nat) (name : Nat) : Blk :=
  let x := b.can k
  if b.isoName < name then b.sendClaim k x.addr
  else if b.isoName.testBit 63 then
    let a := (Config.isoAddress b.free).toNat
    ((b.setCan k { x with addr := a }).sendClaim k a).took
  else (b.setCan k { x with addr := 254 }).sendClaim k 254

/-- A transport message is complete: its end is acknowledged to a peer that addressed this node alone, and process data in it are taken. -/
def Blk.tpDone (b : Blk) (k : Nat) (t : TpSession) : Blk :=
  let t := { t with data := t.data.take t.len }
  let b := b.setCan k { b.can k with tp := none, last := some t }
  let a := (b.can k).addr
  if !t.own then b
  else
    let b := if t.ext then b.stackSend k 7 0xC8 t.src a (leBytes 1 23 ++ leBytes 4 t.len ++ leBytes 3 t.pgn)
      else b.stackSend k 7 0xEC t.src a (leBytes 1 19 ++ leBytes 2 t.len ++ leBytes 1 (tpPackets t.len) ++ leBytes 1 255 ++ leBytes 3 t.pgn)
    if k ≤ 1 ∧ t.pgn / 256 = 0xCB then b.processData k t.src t.data else b

/-- This node is clear to take the next window of a session: at most `most` packets. -/
def Blk.tpNext (b : Blk) (k : Nat) (t : TpSession) : Blk :=
  let got := t.data.length / 7
  let n := min t.most (tpPackets t.len - got)
  let b := b.setCan k { b.can k with tp := some { t with left := if t.ext then 0 else n } }
  let a := (b.can k).addr
  if t.ext then b.stackSend k 7 0xC8 t.src a (leBytes 1 21 ++ leBytes 1 n ++ leBytes 3 (got + 1) ++ leBytes 3 t.pgn)
  else b.stackSend k 7 0xEC t.src a (leBytes 1 17 ++ leBytes 1 n ++ leBytes 1 (got + 1) ++ leBytes 2 0xFFFF ++ leBytes 3 t.pgn)

/-- Transport protocol, connection management (ISO 11783-3, J1939-21): RTS 16, CTS 17, end acknowledged 19, BAM 32, abort 255; of the
extended one RTS 20, CTS 21, data packet offset 22, end acknowledged 23. -/
def Blk.tpManage (b : Blk) (k sa : Nat) (own ext : Bool) (d : List Byte) : Blk :=
  let x := b.can k
  let n := ofLeBytes d
  let pgn := bitsOf n 40 24
  match bitsOf n 0 8, own, ext with
  | 16, true, false => b.tpNext k ⟨sa, pgn, bitsOf n 8 16, [], true, false, 0, 0, max 1 (bitsOf n 32 8)⟩
  | 20, true, true => b.tpNext k ⟨sa, pgn, bitsOf n 8 32, [], true, true, 0, 0, 255⟩
  | 22, true, true =>
    match x.tp with
    | some t =>
      if t.src = sa ∧ t.ext ∧ bitsOf n 16 24 * 7 = t.data.length then
        b.setCan k { x with tp := some { t with base := bitsOf n 16 24, left := bitsOf n 8 8 } }
      else b
    | none => b
  | 32, false, false => b.setCan k { x with tp := some ⟨sa, pgn, bitsOf n 8 16, [], false, false, 0, tpPackets (bitsOf n 8 16), 255⟩ }
  | 17, true, false => b.tpClear k sa false (bitsOf n 8 8) (bitsOf n 16 8)
  | 21, true, true => b.tpClear k sa true (bitsOf n 8 8) (bitsOf n 16 24)
  | 19, true, false | 23, true, true => b.tpClose k sa
  | 255, _, _ => (b.setCan k { x with tp := x.tp.filter (·.src != sa) }).tpClose k sa
  | _, _, _ => b

/-- Transport protocol, data: seven bytes a frame, taken in their order; at the end of a window the next one is asked for. -/
def Blk.tpData (b : Blk) (k sa : Nat) (ext : Bool) (d : List Byte) : Blk :=
  let x := b.can k
  match x.tp with
  | some t =>
    if t.src = sa ∧ t.ext = ext ∧ t.left ≠ 0 ∧ 7 * (t.base + (d.getD 0 0).toNat) = t.data.length + 7 then
      let t := { t with data := t.data ++ (d.drop 1 ++ List.replicate 7 0xFF).take 7, left := t.left - 1 }
      if t.len ≤ t.data.length then b.tpDone k t
      else if t.left = 0 ∧ t.own then b.tpNext k t
      else b.setCan k { x with tp := some t }
    else b
  | none => b

/-- The stack of controller `k` handles a classical frame with a 29-bit identifier (R345, R346). -/
def Blk.stackFrame (b : Blk) (k : Nat) (f : CanFrame) : Blk :=
  let w := f.id.toNat
  let x := b.can k
  let ps := bitsOf w 8 8
  let sa := bitsOf w 0 8
  let own := ps == x.addr && x.addr != 254
  let all := ps == 255
  if !f.ide ∨ f.fdf ∨ w.testBit 24 then b
  else
    match bitsOf w 16 8 with
    | 0xEE => if sa = x.addr ∧ x.addr ≠ 254 then b.claimed k (ofLeBytes f.data) else b
    | 0xEA => if (own || all) ∧ ofLeBytes (f.data.take 3) = 0xEE00 then b.sendClaim k x.addr else b
    | 0xEC => if own || all then b.tpManage k sa own false f.data else b
    | 0xC8 => if own ∧ k ≤ 1 then b.tpManage k sa own true f.data else b
    | 0xEB => if own || all then b.tpData k sa false f.data else b
    | 0xC7 => if own ∧ k ≤ 1 then b.tpData k sa true f.data else b
    | 0xCB => if own ∧ k ≤ 1 then b.processData k sa f.data else b
    | _ => b

/-- The J1939 values of a frame (R346): 0 engine speed of EEC1, 1 load of EEC2, 2 fuel rate of LFE1. -/
def pgnOf (f : CanFrame) : Option (Nat × Nat) :=
  let byte := fun (i : Nat) => (f.data.getD i 0).toNat
  if !f.ide ∨ f.fdf ∨ f.id.toNat.testBit 24 then none
  else
    match bitsOf f.id.toNat 8 16 with
    | 61444 => some (0, byte 3 + 256 * byte 4)
    | 61443 => some (1, byte 2)
    | 65266 => some (2, byte 0 + 256 * byte 1)
    | _ => none

/-- Controller `k` runs frames of this form: with its stack on, classical ones alone, and on CAN2 with 29-bit identifiers (R345, R346). -/
def Blk.canForm (b : Blk) (k : Nat) (f : CanFrame) : Bool := !b.stackOn k || (!f.fdf && (decide (k ≤ 1) || f.ide))

/-- The errors on the bus have added `te` and `re` to the error counters: above 127 the controller is error passive, above 255 in the
transmit counter bus-off (R342, ISO 11898-1; log 58). -/
def Blk.canErrors (b : Blk) (k te re : Nat) : Blk :=
  let x := b.can k
  let x := { x with tec := x.tec + te, rec_ := x.rec_ + re }
  (b.setCan k x).setFld F.CAN_STATUS_BUS k (if 255 < x.tec then 3 else if 127 < x.tec ∨ 127 < x.rec_ then 2 else 1)

/-- A frame has been sent, or received without error: the error counters fall (R342, ISO 11898-1; log 58). -/
def Blk.canSent (b : Blk) (k : Nat) : Blk :=
  (b.setCan k { b.can k with tec := (b.can k).tec - 1 }).canErrors k 0 0
def Blk.canHeard (b : Blk) (k : Nat) : Blk :=
  let x := b.can k
  if 127 < x.rec_ then ((b.setCan k { x with rec_ := 119 + (Config.recAfter b.free).val }).took).canErrors k 0 0
  else (b.setCan k { x with rec_ := x.rec_ - 1 }).canErrors k 0 0

/-- CAN_FRAME_RECEIVE (R342, R343, R345, R346): after errors that added `te` and `re` to the error counters a frame is received; where some
filter in use matches, it is stored, or counted where the ring is full; on CAN2 the J1939 stack handles it. -/
def Blk.canReceive (b : Blk) (k : Nat) (f : CanFrame) (full : Bool) (te re : Nat) : Blk :=
  b.when (b.canRuns k) fun b =>
    let b := b.canErrors k te re
    if !b.canRuns k ∨ !b.canForm k f then b else
    let b := b.canHeard k
    let b := if b.canAccepts k f then
        if full then b.addSat F.CAN_STATUS_RX_OVR k 1
        else
          let x := b.can k
          (b.setBytes (b.rxEntry k x.rx) (canEntry f b.tb1)).setCan k { x with rx := (x.rx + 1) % b.ringN k }
      else b
    if k = 2 ∧ b.stackOn 2 then
      let b := b.stackFrame 2 f
      match pgnOf f with
      | some (i, v) => { b with net := { b.net with pgn := NMap.set b.net.pgn i (some (v, b.tb1)) none } }
      | none => b
    else b

/-- A frame completes on bus `k`: the first of this node's units, or the next entry of the transmit ring; an entry of a form that the
controller does not run is passed over (log 58). -/
def Blk.canComplete (b : Blk) (k : Nat) (own : Bool) : Blk :=
  let x := b.can k
  if own then
    match x.own with
    | f :: l => b.setCan k { x with own := l, wire := x.wire ++ [f] }
    | [] => b
  else
    let f := b.canFrameAt (b.txEntry k x.tx)
    b.setCan k { x with wire := if b.canForm k f then x.wire ++ [f] else x.wire, tx := (x.tx + 1) % b.ringN k }

/-- CAN_TRANSMIT (R342, R343): after errors that added `te` and `re` to the error counters a frame completes, unless they have put the
controller off the bus. -/
def Blk.canTransmit (b : Blk) (k : Nat) (own : Bool) (te re : Nat) : Blk :=
  b.when (b.canRuns k) fun b =>
    let b := b.canErrors k te re
    b.when (b.canRuns k) fun b => (b.canComplete k own).canSent k

/-- BUS_OFF (R342). -/
def Blk.busOff (b : Blk) (k : Nat) : Blk := b.when (b.canRuns k) fun b => b.setFld F.CAN_STATUS_BUS k 3

/-- A bus-off controller rejoins (R342). -/
def Blk.rejoin (b : Blk) (k : Nat) (may : Bool) : Blk :=
  b.when (b.canPowered && b.flag F.CAN_CTRL_EN k && b.fld F.CAN_STATUS_BUS k == 3 && may) fun b =>
    (b.setCan k { b.can k with tec := 0, rec_ := 0 }).setFld F.CAN_STATUS_BUS k 1

/-- CAN_RESTART: a write of RESTART; BUS_OFF_RECOVERY: 128 × 11 recessive bits under AUTO_REC (R342). -/
def Blk.canRestart (b : Blk) (k : Nat) : Blk := b.rejoin k true
def Blk.busOffRecovery (b : Blk) (k : Nat) : Blk := b.rejoin k (b.flag F.CAN_CTRL_AUTO_REC k)

/-- CAN_DISABLE (R344): `bus` is the frame that is on the bus and completes: one of a unit, or of the transmit ring; none
where there is none or it loses arbitration. -/
def Blk.canDisable (b : Blk) (k : Nat) (bus : Option Bool) : Blk :=
  let b := if b.canRuns k then
      match bus with
      | some own => b.canComplete k own
      | none => b
    else b
  (b.setFld F.CAN_CTRL_EN k 0).setFld F.CAN_STATUS_BUS k 0

/-- A write of CAN_CTRL.EN = 1: the controller joins the bus. -/
def Blk.canEnable (b : Blk) (k : Nat) : Blk :=
  let was := b.flag F.CAN_CTRL_EN k
  let b := b.setFld F.CAN_CTRL_EN k 1
  if was then b else b.canJoin k

/-- ISOBUS_MESSAGE (R345). -/
def Blk.isobusMessage (b : Blk) (k : Nat) (f : CanFrame) : Blk :=
  b.when (b.canRuns k && b.stackOn k && decide (k ≤ 1)) fun b => b.stackFrame k f

/-- ENGINE_REQUEST_SEND (R346): every 100 ms the HF30 target goes to ENG_ADDR. -/
def Blk.engineSend (b : Blk) : Blk :=
  b.when (b.canRuns 2 && b.stackOn 2 && (b.can 2).addr != 254 && b.every b.net.engAt 100000000) fun b =>
    let b := { b with net := { b.net with engAt := some b.tb1 } }
    let hf30 := (b.reg .FN_TARGET 30).toNat % 256
    b.stackSend 2 6 0xEF (b.fld F.J1939_CFG_ENG_ADDR 0) (b.can 2).addr (leBytes 1 hf30 ++ List.replicate 7 255)

/-- PGN_TIMEOUT (R346): value `i` has not arrived for 500 ms. -/
def Blk.pgnTimeout (b : Blk) (i : Nat) : Blk :=
  match SMap.get b.net.pgn i none with
  | some (_, t) =>
    b.when (b.aonRuns && decide (t + 500000000 ≤ b.tb1)) fun b =>
      { b with net := { b.net with pgn := NMap.set b.net.pgn i none none } }
  | none => b

end Sys2Proof.Machine
end

