-- ==== Sys2Proof/Machine/Manifest.lean ====
section
/-!
DEFINITION. Signed objects, OTP slots and update packages (R366, R367, R401 to R405), the boot record (R396).
Readings and choices: logs 46, 47 of notes/assumptions.
-/

namespace Sys2Proof.Machine

/-- The number in `n` bytes at offset `k`, little-endian. -/
def leAt (l : List Byte) (k n : Nat) : Nat := ofLeBytes ((l.drop k).take n)

/-- The number in `n` bytes at offset `k`, big-endian (R366). -/
def beAt (l : List Byte) (k n : Nat) : Nat := ofLeBytes ((l.drop k).take n).reverse

/-- `n` bytes at offset `k`, zeros where the list ends. -/
def sliceAt (l : List Byte) (k n : Nat) : List Byte := (((l.drop k).take n) ++ List.replicate n 0).take n

/-! ## Signature blocks (R366, R367) -/

/-- The security engine accepts `obj` with signature block `blk` under the root hash `root` (R367). -/
def signatureOk (root obj blk : List Byte) : Bool :=
  let x := sliceAt blk 8 48
  let y := sliceAt blk 0x38 48
  beAt blk 0 4 == 1 && beAt blk 4 4 == 0 && beAt blk 0xC8 0x38 == 0 &&
    decide (sha384 (4 :: x ++ y) = root) &&
    ecdsaP384 (beAt blk 8 48) (beAt blk 0x38 48) (beAt blk 0x68 48) (beAt blk 0x98 48) (sha384 obj)

/-! ## OTP (R401, R402) -/

/-- First byte of field group `g`: 1 IDENT, 2 TRIM, 3 ROOT, 4 LIMP_MAP. -/
def otpBase : Nat → Nat
  | 1 => 0
  | 2 => 0x800
  | 3 => 0x3000
  | _ => 0x3200

/-- Bytes of a slot of field group `g`. -/
def otpSlotBytes : Nat → Nat
  | 1 => 0x100
  | 2 => 0x800
  | 3 => 0x40
  | _ => 0x100

/-- First byte of the slot of generation `gen`. -/
def otpSlotAt (g gen : Nat) : Nat := otpBase g + gen * otpSlotBytes g

/-- The header and payload of a slot are valid for group `g` and generation `gen` (R402). -/
def slotValid (g gen : Nat) (head payload : List Byte) : Bool :=
  leAt head 2 2 == g && leAt head 1 1 == gen && decide (leAt head 4 4 ≤ otpSlotBytes g - 16) &&
    payload.length == leAt head 4 4 && decide (leAt head 12 4 = (crc32 (head.take 12 ++ [0, 0, 0, 0] ++ payload)).toNat)

/-- The payload of the slot of generation `gen`, if it is valid. -/
def otpSlot (m : List Host.Cell) (g gen : Nat) : Option (List Byte) :=
  let a := otpSlotAt g gen
  let head := otpBytes m a 16
  if leAt head 2 2 = g ∧ leAt head 4 4 ≤ otpSlotBytes g - 16 then
    let payload := otpBytes m (a + 16) (leAt head 4 4)
    if slotValid g gen head payload then some payload else none
  else none

/-- The highest valid slot of group `g`: its generation and payload (R397). -/
def otpTop (m : List Host.Cell) (g : Nat) : Option (Nat × List Byte) :=
  [4, 3, 2, 1, 0].findSome? fun n => (otpSlot m g n).map fun p => (n, p)

/-- The signature root hash in force (R367). -/
def otpRoot (m : List Host.Cell) : Option (List Byte) := (otpTop m 3).map fun x => sliceAt x.2 0 48

/-! ## Update packages (R404, R405) -/

/-- An entry of a manifest (R404). -/
structure PartEntry where
  type   : Nat
  index  : Nat
  ver    : Nat
  off    : Nat
  len    : Nat
  pad    : Nat
  digest : List Byte
deriving DecidableEq, Repr

/-- Parts that a manifest names. -/
def partCount (l : List Byte) : Nat := leAt l 2 2

/-- Entry `k` of a manifest. -/
def partEntry (l : List Byte) (k : Nat) : PartEntry :=
  let e := sliceAt l (64 + 64 * k) 64
  ⟨leAt e 0 1, leAt e 1 1, leAt e 2 2, leAt e 4 4, leAt e 8 4, leAt e 12 4, sliceAt e 0x10 48⟩

/-- The entries of a manifest. -/
def partEntries (l : List Byte) : List PartEntry := (List.range (partCount l)).map (partEntry l)

/-- SEQ and CFG_VER of a manifest. -/
def manifestSeq (l : List Byte) : Nat := leAt l 4 4
def manifestCfgVer (l : List Byte) : Nat := leAt l 0xE 2

/-- Bytes of the header and the entries. -/
def manifestBytes (l : List Byte) : Nat := 64 + 64 * partCount l

/-- The signed bytes of a manifest, and its signature block. -/
def manifestBody (l : List Byte) : List Byte := l.take (manifestBytes l)
def manifestSig (l : List Byte) : List Byte := sliceAt l (manifestBytes l) 256

/-- The indexes that a part type may have (R405). -/
def partIndexOk (e : PartEntry) : Bool :=
  match e.type with
  | 5 => decide (e.index < 8)
  | 7 => decide (e.index < 12)
  | 1 | 2 | 3 | 4 | 6 | 8 => e.index == 0
  | _ => false

/-- Part types of which a package holds exactly one (R405). -/
def oneTypes : List Nat := [1, 2, 3, 4, 6, 8]

/-- The part set of a package (R405): the entry that breaks it, or 0xFF for a missing part. -/
def partSetFault (es : List PartEntry) : Option Nat :=
  let bad := (List.range es.length).find? fun k =>
    match es[k]? with
    | some e =>
      !partIndexOk e || (e.type == 8 && decide (0x1000000 < e.len)) ||
        (es.take k).any fun f => f.type == e.type && f.index == e.index
    | none => false
  match bad with
  | some k => some k
  | none =>
    if oneTypes.any fun t => !es.any fun e => e.type == t then some 0xFF
    else
      let image := es.foldl (fun acc e => if e.type = 8 then acc else acc + e.len) (64 + 64 * es.length + 256)
      if 96 * 2 ^ 20 < image then some 0xFF else none

/-- A part of a package. -/
def partOf (pkg : List Byte) (e : PartEntry) : List Byte := (pkg.drop e.off).take e.len

/-- Some entry breaks the form of R404: its place in the package, or a reserved word. -/
def entryFault (len : Nat) (es : List PartEntry) : Option Nat :=
  (List.range es.length).find? fun k =>
    match es[k]? with
    | some e => e.pad != 0 || e.off % 64 != 0 || decide (e.off < 64 + 64 * es.length + 256) || decide (len < e.off + e.len)
    | none => false

/-- The header and part set of a package of `len` bytes on a module of the given SYS_ID and SYS_STEP (R404 to R406): the
reason and the part of the first failure. `floor` is the SEQ that SEQ must exceed, where it must. -/
def packageFault (sysId step : Word) (floor : Option Nat) (len : Nat) (pkg : List Byte) : Option (Nat × Nat) :=
  let n := partCount pkg
  let es := partEntries pkg
  if leAt pkg 0 2 ≠ 1 ∨ n = 0 ∨ 64 < n ∨ leAt pkg 0x10 0x30 ≠ 0 ∨ len < 64 + 64 * n + 256 ∨ 112 * 2 ^ 20 < len then
    some (3, 0xFF)
  else if leAt pkg 8 4 ≠ sysId.toNat ∨ leAt pkg 0xC 2 ≠ step.toNat % 2 ^ 16 then some (5, 0xFF)
  else
    match entryFault len es with
    | some k => some (3, k)
    | none =>
      match partSetFault es with
      | some k => some (4, k)
      | none =>
        match es.findIdx? fun e => e.type == 8 && leAt (partOf pkg e) 0 2 != manifestCfgVer pkg with
        | some k => some (3, k)
        | none =>
          match floor with
          | some s => if manifestSeq pkg ≤ s then some (6, 0xFF) else none
          | none => none

/-- Signature and digests of a manifest with its parts (R367, R397, R406): the reason and part of the first failure. -/
def verifyFault (root : Option (List Byte)) (manifest : List Byte) (parts : List (List Byte)) : Option (Nat × Nat) :=
  let ok := match root with
    | some r => signatureOk r (manifestBody manifest) (manifestSig manifest)
    | none => false
  if !ok then some (1, 0xFF)
  else
    (List.range (partCount manifest)).findSome? fun k =>
      if sha384 (parts.getD k []) = (partEntry manifest k).digest then none else some (2, k)

/-- The set that a package gives. -/
def setOfPackage (pkg : List Byte) : StoreSet :=
  ⟨pkg.take (manifestBytes pkg + 256), (partEntries pkg).map (partOf pkg)⟩

/-- The part of type `t` and index `i` in a set, if it holds one. -/
def StoreSet.part (s : StoreSet) (t i : Nat) : Option (List Byte) :=
  (partEntries s.manifest).findIdx? (fun e => e.type == t && e.index == i) |>.map fun k => s.parts.getD k []

/-! ## The boot record (R396) -/

/-- The boot record in force: the valid copy with the higher counter. -/
def BootSt.bootRec (x : BootSt) : BootRec :=
  match x.copy0, x.copy1 with
  | some p, some q => if p.counter < q.counter then q else p
  | some p, none => p
  | none, some q => q
  | none, none => BootRec.zero

/-- The boot record is written to the other copy. -/
def BootSt.writeRec (x : BootSt) (r : BootRec) : BootSt :=
  let old := x.bootRec
  let r := { r with counter := old.counter + 1 }
  let first := match x.copy0, x.copy1 with
    | some p, some q => decide (p.counter < q.counter)
    | some _, none => false
    | none, _ => true
  if first then { x with copy0 := some r } else { x with copy1 := some r }

/-- Set A (false) or B (true) of a boot record. -/
def BootRec.set (r : BootRec) (k : Bool) : SetRec := if k then r.b else r.a

/-- The boot record with set `k` at `x`. -/
def BootRec.setSet (r : BootRec) (k : Bool) (x : SetRec) : BootRec := if k then { r with b := x } else { r with a := x }

/-- The boot record with the STATE of set `k` at `s`. -/
def BootRec.mark (r : BootRec) (k : Bool) (s : Nat) : BootRec := r.setSet k { r.set k with state := s }

/-- The SEQ that every GOOD set stays at or below, where there is one. -/
def BootRec.topGood (r : BootRec) : Option Nat :=
  match r.a.state, r.b.state with
  | 3, 3 => some (max r.a.seq r.b.seq)
  | 3, _ => some r.a.seq
  | _, 3 => some r.b.seq
  | _, _ => none

/-- The GOOD set with the highest SEQ. -/
def BootRec.best (r : BootRec) : Option Bool :=
  match r.a.state, r.b.state with
  | 3, 3 => some (decide (r.a.seq < r.b.seq))
  | 3, _ => some false
  | _, 3 => some true
  | _, _ => none

/-- What the store holds of set `k`. -/
def BootSt.stored? (x : BootSt) (k : Bool) : StoreSet := if k then x.setB else x.setA

/-- Set `k` of the store holds `s`. -/
def BootSt.putSet (x : BootSt) (k : Bool) (s : StoreSet) : BootSt := if k then { x with setB := s } else { x with setA := s }

/-- DATA of an UPDATE record (R416). -/
def updData (part : Nat) (k : Bool) (reason item : Nat) : Nat :=
  part % 256 * 2 ^ 24 + k.toNat * 2 ^ 23 + reason * 2 ^ 8 + item

end Sys2Proof.Machine
end

