-- ==== Sys2Proof/Machine/Stage.lean ====
section
/-!
DEFINITION. Staging of an update (R406, R407).
Readings and choices: logs 46 of notes/assumptions.
-/

namespace Sys2Proof.Machine

/-- The running set: false is A. -/
def Blk.runSet (b : Blk) : Bool := b.flag F.BOOT_STATUS_SET 0

/-- STATE of staging. -/
def Blk.updState (b : Blk) : Nat := b.fld F.BOOT_UPD_STATUS_STATE 0

/-- The boot record becomes `r`. -/
def Blk.writeBootRec (b : Blk) (r : BootRec) : Blk := { b with boot := b.boot.writeRec r }

/-- The update agent runs: its power domains are not in retention (R370). -/
def Blk.agentRuns (b : Blk) : Bool := b.computeRuns && b.configDone && b.supply != 2

/-- Staging into set `k` ends with a failure (R406, R416). -/
def Blk.stageFail (b : Blk) (k : Bool) (reason part : Nat) : Blk :=
  let b := ((b.setFld F.BOOT_UPD_STATUS_STATE 0 4).setFld F.BOOT_UPD_STATUS_REASON 0 reason).setFld
    F.BOOT_UPD_STATUS_PART 0 part
  { b with boot := { b.boot with staging := [] } }.raise 561 0x12 0x01 (updData part k reason 0)

/-- UPDATE_STAGE (R406, R407): a write of 1 to STAGE. -/
def Blk.updateStage (b : Blk) : Blk :=
  b.when b.agentRuns fun b =>
    if b.updState = 1 ∨ b.updState = 2 then b.setFld F.BOOT_UPD_STATUS_CMD_IGNORED 0 1
    else
      let a := b.fld F.BOOT_UPD_HI_ADDR 0 * 2 ^ 32 + (b.reg .BOOT_UPD_LO 0).toNat / 64 * 64
      { b with boot := { b.boot with pkgAt := a, pkgLen := (b.reg .BOOT_UPD_LEN 0).toNat } }.setFld F.BOOT_UPD_STATUS_STATE 0 1

/-- The 16-byte units read of the package that staging was told of. -/
def Blk.packageUnits (b : Blk) : Nat := (min b.boot.pkgLen (112 * 2 ^ 20) + 15) / 16

/-- The package that staging was told of, read by master 561. -/
def Blk.readPackage (b : Blk) : Blk × List Byte :=
  let (b', l, _) := b.xdRead 561 b.boot.pkgAt b.packageUnits
  (b', (l.map fun v => leBytes 16 v.toNat).flatten.take b.boot.pkgLen)

/-- A package is checked and verified (steps 1 and 2 of R406); the security engine must be powered (R380). -/
def Blk.packageCheck (b : Blk) (floor : Option Nat) (len : Nat) (pkg : List Byte) : Option (Nat × Nat) :=
  match packageFault (b.reg .SYS_ID 0) (b.reg .SYS_STEP 0) floor len pkg with
  | some x => some x
  | none =>
    let s := setOfPackage pkg
    if b.pdState 62 ≠ 4 then some (1, 0xFF) else verifyFault (otpRoot b.otp) s.manifest s.parts

/-- FALLBACK_V and BOOT_FB_SEQ show the set that does not run, as the boot record has it. -/
def Blk.showOther (b : Blk) : Blk :=
  let o := b.boot.bootRec.set (!b.runSet)
  (b.setFlag F.BOOT_STATUS_FALLBACK_V 0 (o.state == 3)).setReg .BOOT_FB_SEQ 0 (BitVec.ofNat 32 o.seq)

/-- Set `k` is marked EMPTY, and holds nothing usable from then on. -/
def Blk.emptySet (b : Blk) (k : Bool) : Blk :=
  (b.writeBootRec (b.boot.bootRec.setSet k ⟨0, 0, 0⟩)).showOther.setReg .BOOT_UPD_SEQ 0 0

/-- Set `k` is written and STAGED with the SEQ of its manifest (steps 4 and 5 of R406). -/
def Blk.stageSet (b : Blk) (k : Bool) (pkg : List Byte) : Blk :=
  let q := manifestSeq pkg
  ({ b with boot := b.boot.putSet k (setOfPackage pkg) }.writeBootRec (b.boot.bootRec.setSet k ⟨q, 1, 0⟩)).showOther

/-- STAGE_COMPLETE (R406): in VERIFYING the checks end, and the set is marked EMPTY; in WRITING the write ends, `nand` being
the entry that does not read back. A package that lies in a stalled DRAM channel is awaited (R388). -/
def Blk.stageComplete (b : Blk) (nand : Option Nat) : Blk :=
  b.when (b.agentRuns && !(b.updState == 1 && b.readsWait 561 b.boot.pkgAt b.packageUnits)) fun b =>
    let k := !b.runSet
    match b.updState with
    | 1 =>
      let (b, pkg) := b.readPackage
      match b.packageCheck b.boot.bootRec.topGood b.boot.pkgLen pkg with
      | some (reason, part) => b.stageFail k reason part
      | none =>
        let b := b.emptySet k
        { b with boot := { b.boot with staging := pkg } }.setFld F.BOOT_UPD_STATUS_STATE 0 2
    | 2 =>
      match nand with
      | some part => b.stageFail k 7 part
      | none =>
        let pkg := b.boot.staging
        let b := b.stageSet k pkg
        let b := { b with boot := { b.boot with staging := [] } }
        (b.setFld F.BOOT_UPD_STATUS_STATE 0 3).setReg .BOOT_UPD_SEQ 0 (BitVec.ofNat 32 (manifestSeq pkg))
    | _ => b

/-- STAGE_ABORT (R407): a write of 1 to ABORT. -/
def Blk.stageAbort (b : Blk) : Blk :=
  b.when (b.agentRuns && (b.updState == 1 || b.updState == 2)) fun b =>
    { b with boot := { b.boot with staging := [] } }.setFld F.BOOT_UPD_STATUS_STATE 0 0

/-- STAGE_DISCARD (R407): a write of 1 to DISCARD. -/
def Blk.stageDiscard (b : Blk) : Blk :=
  b.when b.agentRuns fun b =>
    let k := !b.runSet
    if (b.boot.bootRec.set k).state = 1 then
      let b := b.emptySet k
      if b.updState = 3 then b.setFld F.BOOT_UPD_STATUS_STATE 0 0 else b
    else b

end Sys2Proof.Machine
end

