-- ==== Sys2Proof/Machine/Domain.lean ====
section
/-!
DEFINITION. The power domains and the wake sequencer (R374 to R380).
Readings and choices: logs 46, 48 of notes/assumptions.
-/

namespace Sys2Proof.Machine

/-- Domain `d` beyond its registers. -/
def Blk.dom (b : Blk) (d : Nat) : DomSt := SMap.get b.pwr.doms d DomSt.zero

/-- The block with domain `d` at `x`. -/
def Blk.setDom (b : Blk) (d : Nat) (x : DomSt) : Blk :=
  { b with pwr := { b.pwr with doms := NMap.set b.pwr.doms d x DomSt.zero } }

/-- Domain `d` enters state `s` now. -/
def Blk.pdEnter (b : Blk) (d s : Nat) : Blk :=
  (b.setFld F.PD_STATUS_STATE d s).setDom d { b.dom d with at_ := b.tb1 }

/-- Hold time of domain `d` in ns (R375). -/
def holdTime (d : Nat) : Nat :=
  if d ≤ 43 then 20000 else if d ≤ 47 then 60000 else if d = 48 then 20000 else if d = 49 then 50000
  else if d ≤ 57 then 10000 else if d ≤ 59 then 40000 else if d = 60 then 20000 else if d = 61 then 10000
  else if d = 62 then 20000 else 40000

/-- Ready time of domain `d` in ns (R375). -/
def readyTime (d : Nat) : Nat :=
  if d ≤ 43 then 5000 else if d ≤ 47 then 20000 else if d = 48 then 100000 else if d = 49 then 200000
  else if d ≤ 57 then 5000 else if d ≤ 59 then 600000 else if d = 60 then 10000 else if d = 61 then 5000
  else if d = 62 then 50000 else 5000

/-! ## Switching on (R374 to R376) -/

/-- DOMAIN_REQUEST (R374, R379): ON is written 1. -/
def Blk.domainRequest (b : Blk) (d : Nat) : Blk :=
  b.when b.aonRuns fun b =>
    let b := b.setFld F.PD_CTRL_ON d 1
    match b.pdState d with
    | 0 =>
      let n := b.pwr.reqNo
      let b := { b with pwr := { b.pwr with reqNo := n + 1 } }
      (b.pdEnter d 1).setDom d { DomSt.zero with reqNo := n, at_ := b.tb1 }
    | 5 => b.setDom d { b.dom d with again := true }
    | 2 | 3 => b.setDom d { b.dom d with offReq := false, force := false }
    | _ => b

/-- Domain `x` stands before domain `y` in the queue (R376). -/
def Blk.pdBefore (b : Blk) (x y : Nat) : Bool :=
  let px := b.fld F.PD_CTRL_PRIO x
  let py := b.fld F.PD_CTRL_PRIO y
  let nx := (b.dom x).reqNo
  let ny := (b.dom y).reqNo
  decide (py < px) || (px == py && (decide (nx < ny) || (nx == ny && decide (x < y))))

/-- The head of the queue (R376). -/
def Blk.pdHead (b : Blk) : Option Nat :=
  ((List.range 64).filter fun d => b.pdState d == 1).foldl (fun acc d =>
    match acc with
    | none => some d
    | some h => if b.pdBefore d h then some d else some h) none

/-- The head is admitted while it fits in the 16 credits, at most `n` times. -/
def Blk.wakeHeads (b : Blk) : Nat → Blk
  | 0 => b
  | n + 1 =>
    match b.pdHead with
    | some d => if b.creditsHeld + wakeCredits d ≤ 16 then (b.pdEnter d 2).wakeHeads n else b
    | none => b

/-- OFF domains whose ON reads 1 are requested together, as all are on the first edge after reset (R378). -/
def Blk.firstRequests (b : Blk) : Blk :=
  let l := (List.range 64).filter fun d => b.pdState d == 0 && b.flag F.PD_CTRL_ON d
  if l.isEmpty then b
  else
    let n := b.pwr.reqNo
    l.foldl (fun b d => (b.pdEnter d 1).setDom d { DomSt.zero with reqNo := n, at_ := b.tb1 })
      { b with pwr := { b.pwr with reqNo := n + 1 } }

/-- DOMAIN_ADMIT (R370, R376, R378): a LECLK edge in supply state NORMAL. -/
def Blk.domainAdmit (b : Blk) : Blk :=
  b.when (b.aonRuns && b.supplyNormal && decide (b.mod.phase ≠ .thermalHold)) fun b => b.firstRequests.wakeHeads 64

/-- RAMP_END (R374): the hold time has passed. -/
def Blk.rampEnd (b : Blk) (d : Nat) : Blk :=
  b.when (b.aonRuns && b.pdState d == 2 && decide ((b.dom d).at_ + holdTime d ≤ b.tb1)) fun b => b.pdEnter d 3

/-! ## Switching off (R379, R380) -/

/-- Every task of tile `t` becomes DISABLED; an instance that has begun is aborted without a record (R380). -/
def Blk.forceTile (b : Blk) (t : Nat) : Blk :=
  (List.range 128).foldl (fun b i =>
    let k := t * 128 + i
    let b := b.missNow k
    match b.taskState k with
    | 0 => b
    | 3 | 4 | 5 => (b.countAbort k).disableByEn k
    | _ => b.disableByEn k) b

/-- Fusion quadrant `q` (R380): frames of its slots are dropped, a pending load of a slot that names it is refused, and an
epoch that waits for a model of such a slot is abandoned. -/
def Blk.forceQuad (b : Blk) (q : Nat) : Blk :=
  let slots := (List.range 8).filter fun m => (b.fld F.MODEL_CFG_QUADS m).testBit q
  let frames := b.fus.frames.map fun f => { f with dropped := (f.dropped ++ slots).eraseDups }
  let b : Blk := { b with fus := { b.fus with frames := frames } }
  let b : Blk := slots.foldl (fun b m =>
    if b.flag F.MODEL_STATUS_PEND m then
      ((b.setModel m { b.model_ m with copy := none, ready := false }).setFld F.MODEL_STATUS_PEND m 0).setFld
        F.MODEL_STATUS_LOAD_REFUSED m 1
    else b) b
  let heads := slots.any fun m => b.fld F.MODEL_CFG_KIND m == 1 && b.flag F.MODEL_STATUS_LOADED m
  if heads ∧ b.gridNode ∧ b.fusState ≠ 0 ∧ b.fus.epoch < b.epochNow then
    let b : Blk := { b with fus := { b.fus with epoch := b.epochNow } }.setFld F.FUS_STATUS_OVR 0 1
    if b.fusState = 2 then b.setFld F.FUS_STATUS_STATE 0 0 else b
  else b

/-- What a forced write does about pending work of domain `d` (R380); `err` is the error in ns with which a locked TB0
enters HOLDOVER. -/
def Blk.forceWork (b : Blk) (d err : Nat) : Blk :=
  if d ≤ 31 then b.forceTile d
  else if d ≤ 43 then if b.camState (d - 32) = 0 then b else b.camAbort (d - 32)
  else if d ≤ 47 then b.forceQuad (d - 44)
  else if d ≤ 49 then if b.flag F.GNSS_CTRL_EN 0 then b.gnssDisable err else b
  else if d ≤ 57 then b.portDisable (d - 50)
  else if d = 60 then (List.range 6).foldl Blk.ethDisable b
  else if d = 61 then (List.range 8).foldl (fun b k => b.canDisable k none) b
  else if d = 62 ∧ b.verifying then b.stageFail (!b.runSet) 1 0xFF
  else b

/-- Domain `d` stops (R379). -/
def Blk.stopDomain (b : Blk) (d : Nat) : Blk :=
  let b := (b.pdEnter d 5).setFld F.PD_CTRL_ON d 0
  b.setDom d { b.dom d with offReq := false, force := false, again := false }

/-- An ON domain is told to stop (R379). -/
def Blk.offOn (b : Blk) (d : Nat) (force : Bool) (err : Nat) : Blk :=
  if force then ((b.forceWork d err).setFld F.PD_STATUS_FORCED d 1).stopDomain d
  else if b.pdPending d then
    ((b.setFld F.PD_STATUS_REFUSED d 1).setFld F.PD_CTRL_ON d 1).setDom d { b.dom d with offReq := false }
  else b.stopDomain d

/-- ON is written 0 (R379). -/
def Blk.domainOff (b : Blk) (d : Nat) (force : Bool) (err : Nat) : Blk :=
  b.when b.aonRuns fun b =>
    match b.pdState d with
    | 1 => (b.pdEnter d 0).setFld F.PD_CTRL_ON d 0
    | 2 | 3 => (b.setDom d { b.dom d with offReq := true, force := force }).setFld F.PD_CTRL_ON d 0
    | 4 => b.offOn d force err
    | 5 => (b.setDom d { b.dom d with again := false }).setFld F.PD_CTRL_ON d 0
    | _ => b.setFld F.PD_CTRL_ON d 0

/-- DOMAIN_OFF_REQUEST (R379): ON = 0 and FORCE = 0. -/
def Blk.domainOffRequest (b : Blk) (d : Nat) : Blk := b.domainOff d false 0

/-- DOMAIN_FORCE_OFF (R380): ON = 0 and FORCE = 1. -/
def Blk.domainForceOff (b : Blk) (d err : Nat) : Blk := b.domainOff d true err

/-- SETTLE_END (R374, R379): the ready time has passed; a request to switch off takes effect. -/
def Blk.settleEnd (b : Blk) (d err : Nat) : Blk :=
  b.when (b.aonRuns && b.pdState d == 3 && decide ((b.dom d).at_ + readyTime d ≤ b.tb1)) fun b =>
    let x := b.dom d
    let b := b.pdEnter d 4
    if x.offReq then b.offOn d x.force err else b

/-- DOMAIN_STOPPED (R379): the last admitted access has completed; a request made meanwhile queues the domain. -/
def Blk.domainStopped (b : Blk) (d : Nat) : Blk :=
  b.when (b.aonRuns && b.pdState d == 5 && !b.pdWaiting d) fun b =>
    let x := b.dom d
    let b := b.pdEnter d 0
    if x.again then b.domainRequest d else b

end Sys2Proof.Machine
end

