-- ==== Sys2Proof/Machine/Fleet.lean ====
section
/-!
DEFINITION. The fleet link (spec chapter 14): datagrams, leader and follower, coordination, corrections, ledger upload.
Readings and choices: logs 57 of notes/assumptions.
-/

namespace Sys2Proof.Machine

/-! ## Datagrams (R347, R348) -/

/-- The fleet link runs: on the HPC host, enabled. -/
def Blk.fleetRuns (b : Blk) : Bool :=
  b.computeRuns && b.supply != 2 && b.flag F.HPC_CTRL_HOST 0 && b.flag F.FLEET_CTRL_EN 0

/-- This machine's ID. -/
def Blk.fleetId (b : Blk) : Nat := (b.reg .FLEET_ID 0).toNat

/-- The gateway as a receiver. -/
def gatewayId : Nat := 0xFFFFFFFF

/-- A fleet datagram leaves for the gateway. -/
def Blk.fleetSend (b : Blk) (type dst : Nat) (payload : List Byte) : Blk :=
  let body := leBytes 4 (1 + type * 2 ^ 8 + payload.length * 2 ^ 16) ++ leBytes 4 b.fleetId ++ leBytes 4 dst ++
    leBytes 4 b.net.seq ++ payload
  let gw := b.reg .FLEET_GW 3 ++ b.reg .FLEET_GW 2 ++ b.reg .FLEET_GW 1 ++ b.reg .FLEET_GW 0
  let port := b.fld F.FLEET_CFG_FLEET_PORT 0
  let b := { b with net := { b.net with seq := (b.net.seq + 1) % 2 ^ 32 } }
  (b.ethSend (b.fld F.FLEET_CFG_ETH 0) (.udp ⟨gw, port, port, body ++ leBytes 4 (crc32 body).toNat⟩)).incFld
    F.FLEET_CNT_SENT 0

/-- The 32-bit word at byte `i` of a datagram. -/
def wordAt (l : List Byte) (i : Nat) : Nat := ofLeBytes ((l.drop i).take 4)

/-- The TYPE of a datagram and its payload. -/
def fleetType (l : List Byte) : Nat := (l.getD 1 0).toNat
def fleetPayload (l : List Byte) : List Byte := (l.drop 16).take (wordAt l 0 / 2 ^ 16)

/-- LEN fits a type that comes in (R348). -/
def fleetLenOk (type n : Nat) : Bool :=
  match type with
  | 2 => n == 8
  | 3 => n == 24
  | 4 => decide (1 ≤ n) && decide (n ≤ 1200)
  | 6 => n == 4
  | _ => false

/-- A datagram passes the checks of R347. -/
def Blk.fleetOk (b : Blk) (l : List Byte) : Bool :=
  let n := wordAt l 0 / 2 ^ 16
  let dst := wordAt l 8
  wordAt l 0 % 256 == 1 && l.length == n + 20 && wordAt l (l.length - 4) == (crc32 (l.take (l.length - 4))).toNat &&
    (dst == b.fleetId || dst == gatewayId) && wordAt l 4 != b.fleetId && fleetLenOk (fleetType l) n

/-- A datagram of type `type` arrives at the port of FLEET_CFG.ETH: `f` of its sender and payload, or it is discarded and counted (R347). -/
def Blk.fleetIn (b : Blk) (l : List Byte) (type : Nat) (f : Blk → Nat → List Byte → Blk) : Blk :=
  b.when (b.fleetRuns && b.ethUp (b.fld F.FLEET_CFG_ETH 0)) fun b =>
    if !b.fleetOk l then b.addSat F.FLEET_CNT_DISCARD 0 1
    else if fleetType l = type then f b (wordAt l 4) (fleetPayload l)
    else b

/-! ## Leader and follower (R349, R350) -/

/-- No ROLE goes to a peer after a collision that this node lost (R350). -/
def Blk.heldOff (b : Blk) (peer : Nat) : Bool := decide (b.tb1 < SMap.get b.net.holdoff peer 0)

/-- A ROLE message to a peer. -/
def Blk.fleetRole (b : Blk) (kind peer reason : Nat) : Blk :=
  b.fleetSend 2 peer (leBytes 4 (kind + reason * 16) ++ leBytes 4 0)

/-- This node is paired with `peer` in a role: 1 leader, 2 follower. -/
def Blk.fleetPair (b : Blk) (peer role : Nat) : Blk :=
  let b := (b.setFld F.FLEET_ROLE_ROLE 0 role).setFld F.FLEET_STATUS_STATE 0 0
  { b with net := { b.net with peer := some peer, unloadAt := b.tb1, tolAt := none, sentAt := none } }

/-- FLEET_ROLE_REQUEST (R349, R350): a write of FLEET_ROLE. -/
def Blk.fleetRoleRequest (b : Blk) (v : Word) : Blk :=
  let req := F.FLEET_ROLE_REQ.get v
  let w1c := BitVec.ofNat 32 RegName.FLEET_ROLE.masks.w1c
  let b := b.setReg .FLEET_ROLE 0 (b.reg .FLEET_ROLE 0 &&& ~~~ (v &&& w1c))
  let peer := (b.reg .FLEET_PEER 0).toNat
  b.when (b.fleetRuns && (req == 1 || req == 2) && b.net.role.isNone && !b.heldOff peer) fun b =>
    let b := { b.setFld F.FLEET_ROLE_PEND 0 1 with net := { b.net with role := some ⟨req - 1, peer, b.tb1⟩ } }
    b.fleetRole (req - 1) peer 0

/-- The pairing ends. -/
def Blk.fleetIdle (b : Blk) : Blk :=
  ({ b with net := { b.net with peer := none, tolAt := none } }.setFld F.FLEET_ROLE_ROLE 0 0).setFld F.FLEET_STATUS_STATE 0 0

/-- A ROLE exchange has ended without a grant: where the peer was LOST, IDLE follows (R351). -/
def Blk.lostEnds (b : Blk) : Blk := if b.fld F.FLEET_STATUS_STATE 0 = 3 then b.fleetIdle else b

/-- The answer to a TAKE (kind 0) or a GIVE (kind 1): refused without LEAD_OK, else granted, with the role taken on
sending (R349); none while the peer is held off (R350, log 57). -/
def Blk.fleetAnswer (b : Blk) (kind peer : Nat) : Blk :=
  if b.heldOff peer then b
  else if !b.flag F.FLEET_CFG_LEAD_OK 0 then (b.fleetRole 3 peer 3).lostEnds
  else (b.fleetRole 2 peer 0).fleetPair peer (if kind = 0 then 2 else 1)

/-- A TAKE or a GIVE arrives (R349, R350). -/
def Blk.fleetAsked (b : Blk) (kind peer : Nat) : Blk :=
  match b.net.role with
  | some r =>
    if r.peer = peer then
      let stands := decide (b.fleetId < peer)
      let b := (b.raise 596 0x14 0x02 (r.kind * 2 ^ 30 + kind * 2 ^ 28 + stands.toNat * 2 ^ 27 + peer % 2 ^ 24)).setFld
        F.FLEET_ROLE_COLLIDED 0 1
      if stands then (if b.heldOff peer then b else b.fleetRole 3 peer 1)
      else
        let b := b.fleetAnswer kind peer
        { b with net := { b.net with holdoff := NMap.set b.net.holdoff peer (b.tb1 + 500000000) 0 } }
    else b.fleetAnswer kind peer
  | none => b.fleetAnswer kind peer

/-- A request ends (R349): the requester takes its role on a GRANT. -/
def Blk.fleetEnd (b : Blk) (r : RoleReq) (grant : Bool) : Blk :=
  let b := { b with net := { b.net with role := none } }.setFld F.FLEET_ROLE_PEND 0 0
  if grant then (b.setFld F.FLEET_ROLE_GRANTED 0 1).fleetPair r.peer (if r.kind = 0 then 1 else 2)
  else (b.setFld F.FLEET_ROLE_REFUSED 0 1).lostEnds

/-- A ROLE datagram of kind `kind`. -/
def Blk.fleetRoleIn (b : Blk) (l : List Byte) (kind : Nat) (f : Blk → Nat → Blk) : Blk :=
  b.fleetIn l 2 fun b src p => if (p.getD 0 0).toNat % 4 = kind then f b src else b

/-- FLEET_TAKE, FLEET_GIVE, FLEET_GRANT, FLEET_REFUSE (R349, R350). -/
def Blk.fleetTake (b : Blk) (l : List Byte) : Blk := b.fleetRoleIn l 0 fun b src => b.fleetAsked 0 src
def Blk.fleetGive (b : Blk) (l : List Byte) : Blk := b.fleetRoleIn l 1 fun b src => b.fleetAsked 1 src
def Blk.fleetGrant (b : Blk) (l : List Byte) : Blk :=
  b.fleetRoleIn l 2 fun b src =>
    match b.net.role.filter (·.peer == src) with
    | some r => b.fleetEnd r true
    | none => b
def Blk.fleetRefuse (b : Blk) (l : List Byte) : Blk :=
  b.fleetRoleIn l 3 fun b src =>
    match b.net.role.filter (·.peer == src) with
    | some r => b.fleetEnd r false
    | none => b

/-- FLEET_ROLE_TIMEOUT (R349): no answer within 1 s counts as refused. -/
def Blk.fleetRoleTimeout (b : Blk) : Blk :=
  match b.net.role with
  | some r => b.when (b.fleetRuns && decide (r.at_ + 1000000000 ≤ b.tb1)) fun b => b.fleetEnd r false
  | none => b

/-- FLEET_HOLDOFF_END (R350). -/
def Blk.fleetHoldoffEnd (b : Blk) (peer : Nat) : Blk :=
  b.when (b.aonRuns && decide (SMap.get b.net.holdoff peer 0 ≤ b.tb1)) fun b =>
    { b with net := { b.net with holdoff := NMap.set b.net.holdoff peer 0 0 } }

/-! ## Coordination (R351) -/

/-- This node's state moves with a follower's errors, told or received: out of tolerance READY falls to TRACKING. -/
def Blk.followerErrors (b : Blk) (along across : Int) : Blk :=
  let fits := decide (along.natAbs ≤ b.fld F.FLEET_TOL_ALONG_TOL 0) && decide (across.natAbs ≤ b.fld F.FLEET_TOL_ACROSS_TOL 0)
  if fits then { b with net := { b.net with tolAt := some (b.net.tolAt.getD b.tb1) } }
  else
    let b := { b with net := { b.net with tolAt := none } }
    if b.fld F.FLEET_STATUS_STATE 0 = 2 then b.setFld F.FLEET_STATUS_STATE 0 1 else b

/-- UNLOAD (R351): a message from the peer. -/
def Blk.unloadIn (b : Blk) (l : List Byte) : Blk :=
  b.fleetIn l 3 fun b src p =>
    b.when (b.net.peer == some src && b.fld F.FLEET_STATUS_STATE 0 != 3) fun b =>
      let b := { b with net := { b.net with unloadAt := b.tb1 } }
      let b := if b.fld F.FLEET_STATUS_STATE 0 = 0 then b.setFld F.FLEET_STATUS_STATE 0 1 else b
      let e := wordAt p 16
      if (p.getD 0 0).toNat = 2 then
        b.followerErrors ((BitVec.ofNat 16 e).toInt) ((BitVec.ofNat 16 (e / 2 ^ 16)).toInt)
      else b

/-- UNLOAD_SEND (R348, R351): every 100 ms while paired; the spout target or receiving point, the fill, and a follower's
errors are measured; speed and heading are those of the latest navigation record (log 57). -/
def Blk.unloadSend (b : Blk) (lat lon : BitVec 32) (fill : BitVec 16) (along across : Int) : Blk :=
  match b.net.peer with
  | none => b
  | some peer =>
    b.when (b.fleetRuns && b.every b.net.sentAt 100000000) fun b =>
      let role := b.fld F.FLEET_ROLE_ROLE 0
      let b := { b with net := { b.net with sentAt := some b.tb1 } }
      let speed := min 65535 (b.navRec.getD 15 0).toNat
      let hdg := (b.navRec.getD 12 0).toNat % 2 ^ 16
      let err := if role = 2 then (BitVec.ofInt 16 across).toNat * 2 ^ 16 + (BitVec.ofInt 16 along).toNat else 0
      let b := b.fleetSend 3 peer
        (leBytes 4 (role + b.fld F.FLEET_STATUS_STATE 0 * 2 ^ 8 + fill.toNat * 2 ^ 16) ++ leBytes 4 lat.toNat ++
          leBytes 4 lon.toNat ++ leBytes 4 (speed * 2 ^ 16 + hdg) ++ leBytes 4 err ++ leBytes 4 0)
      if role = 2 then b.followerErrors along across else b

/-- UNLOAD_READY (R351): 1 s within tolerance. -/
def Blk.unloadReady (b : Blk) : Blk :=
  match b.net.tolAt with
  | some t =>
    b.when (b.fleetRuns && b.fld F.FLEET_STATUS_STATE 0 == 1 && decide (t + 1000000000 ≤ b.tb1)) fun b =>
      b.setFld F.FLEET_STATUS_STATE 0 2
  | none => b

/-- UNLOAD_LOST (R351): no message from the peer for 500 ms. -/
def Blk.unloadLost (b : Blk) : Blk :=
  b.when (b.fleetRuns && b.net.peer.isSome && decide (b.net.unloadAt + 500000000 ≤ b.tb1)) fun b =>
    { b with net := { b.net with tolAt := none } }.setFld F.FLEET_STATUS_STATE 0 3

/-- FLEET_UNPAIR (R351): a write of FLEET_CTRL.UNPAIR. -/
def Blk.fleetUnpair (b : Blk) : Blk := b.fleetIdle

/-- FLEET_DISABLE (R353): sending stops and the state becomes IDLE at once. -/
def Blk.fleetDisable (b : Blk) : Blk :=
  let was := b.flag F.FLEET_CTRL_EN 0
  let b := b.setFld F.FLEET_CTRL_EN 0 0
  if was then ({ b with net := { b.net with role := none } }.setFld F.FLEET_ROLE_PEND 0 0).fleetIdle else b

/-! ## STATE, RTK, ledger (R348, R352, R353) -/

/-- STATE_SEND (R348): every STATE_S seconds, with the latest navigation record; `fill` is the tank fill. -/
def Blk.stateSend (b : Blk) (fill : BitVec 16) : Blk :=
  b.when (b.fleetRuns && b.every b.net.stateAt (max 1 (b.fld F.FLEET_CFG_STATE_S 0) * 1000000000)) fun b =>
    let b := { b with net := { b.net with stateAt := some b.tb1 } }
    let rec_ := b.navRec
    let acts := (List.range 31).foldl (fun acc n => if n = 0 then acc else acc + b.fld F.FN_MODE_ACT n * 4 ^ (n - 1)) 0
    b.fleetSend 1 gatewayId
      (((List.range 16).map fun k => leBytes 4 (rec_.getD k 0).toNat).flatten ++ leBytes 8 acts ++
        leBytes 4 b.yld.job.toNat ++ leBytes 2 fill.toNat ++ leBytes 1 (b.fld F.YLD_STATUS_JOB_STATE 0) ++
        leBytes 1 (b.fld F.FLEET_ROLE_ROLE 0))

/-- The whole RTCM frames in a byte string (R270, R348). -/
def rtcmFrames : Nat → List Byte → List (List Byte)
  | 0, _ => []
  | n + 1, l =>
    if l.length < 6 then []
    else
      let len := (l.getD 1 0).toNat % 4 * 256 + (l.getD 2 0).toNat + 6
      l.take len :: rtcmFrames n (l.drop len)

/-- RTK (R352): the frames go to the GNSS host, and a leader with RELAY_OUT sends them on to its follower. -/
def Blk.rtkIn (b : Blk) (l : List Byte) : Blk :=
  b.fleetIn l 4 fun b _ p =>
    let frames := rtcmFrames 1200 p
    let b := if b.flag F.GNSS_CTRL_HOST 0 then frames.foldl Blk.rtcmFrame b
      else { b with net := { b.net with rtk := b.net.rtk ++ frames } }
    match b.net.peer with
    | some peer => if b.flag F.FLEET_CFG_RELAY_OUT 0 ∧ b.fld F.FLEET_ROLE_ROLE 0 = 1 then b.fleetSend 4 peer p else b
    | none => b

/-- The ledger records from SEQ `n` on, at most `k`: those of the journal, then those that AON holds (R297). -/
def Blk.ledgerFrom (b : Blk) (n k : Nat) : List JEntry :=
  ((b.jrn.ledger.all ++ b.yld.held).filter fun e => decide (n ≤ ledgerSeq e)).take k

/-- LEDGER_SEND (R353): the next records, up to 16, with at most 4 datagrams unacknowledged. -/
def Blk.ledgerSend (b : Blk) : Blk :=
  let ack := (b.reg .YLD_ACK 0).toNat
  let seq := (b.reg .YLD_SEQ 0).toNat
  let out := b.net.upOut.filter fun n => decide (ack < n)
  b.when (b.fleetRuns && decide (ack + 1 < seq) && decide (out.length < 4)) fun b =>
    let l := b.ledgerFrom (max b.net.upNext (ack + 1)) 16
    match l.getLast? with
    | none => b
    | some e =>
      let last := ledgerSeq e
      let b := { b with net := { b.net with
        upNext := last + 1, upOut := out ++ [last], upAt := if out.isEmpty then b.tb1 else b.net.upAt } }
      b.fleetSend 5 gatewayId l.flatten

/-- LEDGER_ACK (R353): an acknowledgement goes before a record that was appended on the same tick. -/
def Blk.ledgerAck (b : Blk) (l : List Byte) : Blk :=
  b.fleetIn l 6 fun b _ p =>
    let v := wordAt p 0
    if (b.reg .YLD_ACK 0).toNat < v ∧ v < b.seqBefore then
      let b := { b with net := { b.net with upAt := b.tb1, upOut := b.net.upOut.filter fun n => decide (v < n) } }
      b.setAck (BitVec.ofNat 32 v)
    else b.addSat F.FLEET_CNT_DISCARD 0 1

/-- LEDGER_RESEND_TIMEOUT (R353): YLD_ACK has not risen for 5 s. -/
def Blk.ledgerResend (b : Blk) : Blk :=
  b.when (b.fleetRuns && !b.net.upOut.isEmpty && decide (b.net.upAt + 5000000000 ≤ b.tb1)) fun b =>
    { b with net := { b.net with upNext := (b.reg .YLD_ACK 0).toNat + 1, upOut := [], upAt := b.tb1 } }

/-! ## Any datagram (R347) -/

/-- A fleet datagram goes by its TYPE, and a ROLE by its kind; one of no type that comes in is discarded (R347, R348). -/
def Blk.fleetDatagram (b : Blk) (l : List Byte) : Blk :=
  match fleetType l, ((fleetPayload l).getD 0 0).toNat % 4 with
  | 2, 0 => b.fleetTake l
  | 2, 1 => b.fleetGive l
  | 2, 2 => b.fleetGrant l
  | 2, _ => b.fleetRefuse l
  | 3, _ => b.unloadIn l
  | 4, _ => b.rtkIn l
  | 6, _ => b.ledgerAck l
  | t, _ => b.fleetIn l t fun b _ _ => b

end Sys2Proof.Machine
end

