-- ==== Sys2Proof/Machine/Cond.lean ====
section
/-!
DEFINITION. The conductor of the fabric (spec chapter 13): discovery, the role and its handover, routes, fabric time and the
TB0 pairs.
Readings and choices: logs 56 of notes/assumptions.
-/

namespace Sys2Proof.Machine

/-! ## Beacons (R320 to R322) -/

/-- Payload of a BEACON of port `p` (R320). -/
def Blk.beaconBits (b : Blk) (p : Nat) : BitVec 128 :=
  let x := b.best.getD ⟨b.node, 0, 0, 15, none⟩
  let parent := b.parentPort
  let parentNode := match parent with
    | some q => b.fld F.PORT_STATUS_PARTNER q
    | none => 0
  BitVec.ofNat 128 (b.node * 2 ^ 119 + p * 2 ^ 116 + parentNode * 2 ^ 107 + parent.isSome.toNat * 2 ^ 106 +
    x.node * 2 ^ 97 + x.prio * 2 ^ 93 + x.seq * 2 ^ 61 + min 15 x.links * 2 ^ 57 + b.fld F.FAB_STATUS_EPOCH 0 * 2 ^ 41)

/-- What a BEACON says (R320). -/
def heardOf (v : BitVec 128) : Heard :=
  let w := v.toNat
  { sender := bitsOf w 119 9, port := bitsOf w 116 3, parent := if w.testBit 106 then some (bitsOf w 107 9) else none,
    best := bitsOf w 97 9, prio := bitsOf w 93 4, seq := bitsOf w 61 32, links := bitsOf w 57 4, epoch := bitsOf w 41 16 }

/-- A packet that ends at port `p` of this node is taken from the ingress buffer: `f` if its payload is sound (R307). -/
def Blk.takeIn (b : Blk) (p : Nat) (k : Packet) (type : BitVec 4) (mine pcrc : Bool) (f : Blk → Blk) : Blk :=
  b.when (b.fabRuns && b.portUp p && k.type == type && lenOk k && mine) fun b =>
    let b := (b.badPayload p (!pcrc)).consume p k
    if pcrc then f b else b.discard p

/-- The packet is for this node. -/
def Blk.forMe (b : Blk) (k : Packet) : Bool := k.dest.toNat == b.node

/-- BEACON (R320, R321). -/
def Blk.beaconIn (b : Blk) (p : Nat) (k : Packet) (pcrc : Bool) : Blk :=
  b.takeIn p k 7 true pcrc fun b =>
    let h := heardOf (k.payload.getD 0 0)
    let b := b.setPort p { b.port p with heard := some h }
    let lost := if h.seq = 0 then b.fab.lost.filter (·.1 != h.best) else b.fab.lost
    { b with fab := { b.fab with lost := lost } }.updateBest

/-- BEACON_SEND (R320, R321): every 100 µs an UP port sends one; a holder's sequence rises with every beacon. -/
def Blk.beaconSend (b : Blk) (p : Nat) : Blk :=
  let due := match (b.port p).beaconAt with
    | none => true
    | some t => decide (t + 100000 ≤ b.tb1)
  b.when (b.fabRuns && b.portUp p && due) fun b =>
    let b := b.setPort p { b.port p with beaconAt := some b.tb1 }
    let b := if b.fab.holds then { b with fab := { b.fab with live := b.fab.live % (2 ^ 32 - 1) + 1 } } else b
    let b := b.updateBest
    b.emitAt p (b.newPacket 7 3 (b.fld F.PORT_STATUS_PARTNER p) 595 0 0 2 [b.beaconBits p])

/-- CONDUCTOR_LOST (R322): the best conductor's sequence has not advanced for 5 ms. -/
def Blk.conductorLost (b : Blk) : Blk :=
  b.when (b.fabRuns && b.flag F.FAB_STATUS_COND_V 0 && !b.fab.holds && decide (b.fab.seqAt + 5000000 ≤ b.tb1)) fun b =>
    let n := b.fld F.FAB_STATUS_CONDUCTOR 0
    let lost := b.fab.lost.filter (·.1 != n) ++ [(n, b.fab.seq)]
    { b with fab := { b.fab with lost := lost, was := some n } }.updateBest

/-- This node takes the role (R322, R323, R335): the first conductor begins fabric time from its TB1; routes are due. -/
def Blk.takeRole (b : Blk) : Blk :=
  let b := { b with fab := { b.fab with holds := true, live := b.fab.live % (2 ^ 32 - 1) + 1, routeDue := true } }
  let b := if b.flag F.FAB_TIME_FT_V 0 then b
    else (b.setReg64 .FAB_FT_LO .FAB_FT_HI 0 b.tb1).setFld F.FAB_TIME_FT_V 0 1
  let b := { b with fab := { b.fab with ftErr := 0 } }.updateBest
  match b.fab.was with
  | some n => { b with fab := { b.fab with was := none } }.raise 595 0x0D 0x02 (n * 2 ^ 23)
  | none => b

/-- ROLE_ELECTION (R322): a candidate that has been its own best conductor for 20 ms. -/
def Blk.roleElection (b : Blk) : Blk :=
  let due := match b.fab.candAt with
    | some t => decide (t + 20000000 ≤ b.tb1)
    | none => false
  b.when (b.fabRuns && b.flag F.FAB_CFG_CAND 0 && !b.fab.holds && due) Blk.takeRole

/-! ## Handover (R323, R324) -/

/-- A ROLE packet of kind `kind` to `peer` (R323). -/
def Blk.sendRole (b : Blk) (kind peer reason : Nat) : Blk :=
  b.emit (b.newPacket 11 3 peer 595 0 kind 2 [BitVec.ofNat 128 (b.node * 2 ^ 119 + reason * 2 ^ 116)])

/-- The node holds the role no longer. -/
def Blk.releaseRole (b : Blk) : Blk := { b with fab := { b.fab with holds := false } }.updateBest

/-- ROLE_REQUEST (R323, R324): a write of FAB_ROLE. PEER is stored, W1C bits are cleared, and REQ sends a TAKE, or a GIVE with
which a holder releases the role. -/
def Blk.roleRequest (b : Blk) (v : Word) : Blk :=
  let peer := F.FAB_ROLE_PEER.get v
  let req := F.FAB_ROLE_REQ.get v
  let w1c := BitVec.ofNat 32 RegName.FAB_ROLE.masks.w1c
  let b := b.setReg .FAB_ROLE 0 (b.reg .FAB_ROLE 0 &&& ~~~ (v &&& w1c))
  let b := b.setFld F.FAB_ROLE_PEER 0 peer
  b.when (b.fabRuns && (req == 1 || (req == 2 && b.fab.holds)) && b.fab.role.isNone &&
      decide (SMap.get b.fab.holdoff peer 0 ≤ b.tb1)) fun b =>
    let b := b.setFld F.FAB_ROLE_PEND 0 1
    let b := { b with fab := { b.fab with role := some ⟨req - 1, peer, b.tb1⟩ } }
    let b := b.sendRole (req - 1) peer 0
    if req = 2 then { b with fab := { b.fab with granted := false } }.releaseRole else b

/-- The answer to a TAKE (kind 0) or GIVE (kind 1) of `peer`; `holder` says whether this node may grant the role. -/
def Blk.answerRole (b : Blk) (kind peer : Nat) (holder : Bool) : Blk :=
  if kind = 0 then
    if holder then ({ b with fab := { b.fab with granted := true } }.sendRole 2 peer 0).releaseRole
    else b.sendRole 3 peer 2
  else if b.flag F.FAB_CFG_CAND 0 then (b.sendRole 2 peer 0).takeRole
  else b.sendRole 3 peer 3

/-- A TAKE or GIVE arrives (R323, R324). -/
def Blk.roleAsked (b : Blk) (kind peer : Nat) : Blk :=
  match b.fab.role with
  | some r =>
    if r.peer = peer then
      let stands := decide (b.node < peer)
      let b := (b.raise 595 0x14 0x01 (peer * 2 ^ 23 + r.kind * 2 ^ 21 + kind * 2 ^ 19 + stands.toNat * 2 ^ 18)).setFld
        F.FAB_ROLE_COLLIDED 0 1
      if stands then b.sendRole 3 peer 1
      else
        let b := { b with fab := { b.fab with holdoff := NMap.set b.fab.holdoff peer (b.tb1 + 500000000) 0 } }
        b.answerRole kind peer (b.fab.holds || r.kind == 1)
    else b.answerRole kind peer b.fab.holds
  | none => b.answerRole kind peer b.fab.holds

/-- The sender of a ROLE packet (R323). -/
def roleSender (k : Packet) : Nat := bitsOf (k.payload.getD 0 0).toNat 119 9

/-- A ROLE packet of kind `kind`. -/
def Blk.takeRolePacket (b : Blk) (p : Nat) (k : Packet) (pcrc : Bool) (kind : Nat) (f : Blk → Blk) : Blk :=
  b.takeIn p k 11 (b.forMe k && bitsOf k.addr.toNat 0 2 == kind) pcrc f

/-- ROLE_TAKE and ROLE_GIVE (R323, R324). -/
def Blk.roleTake (b : Blk) (p : Nat) (k : Packet) (pcrc : Bool) : Blk :=
  b.takeRolePacket p k pcrc 0 fun b => b.roleAsked 0 (roleSender k)
def Blk.roleGive (b : Blk) (p : Nat) (k : Packet) (pcrc : Bool) : Blk :=
  b.takeRolePacket p k pcrc 1 fun b => b.roleAsked 1 (roleSender k)

/-- A request ends: GRANTED or REFUSED is set; a holder whose GIVE was not taken takes the role back (R323). -/
def Blk.roleEnd (b : Blk) (r : RoleReq) (grant : Bool) : Blk :=
  let b := { b with fab := { b.fab with role := none } }.setFld F.FAB_ROLE_PEND 0 0
  if grant then
    let b := b.setFld F.FAB_ROLE_GRANTED 0 1
    if r.kind = 0 then b.takeRole else b
  else
    let b := b.setFld F.FAB_ROLE_REFUSED 0 1
    if r.kind = 1 ∧ !b.fab.granted then b.takeRole else b

/-- The outstanding request to `peer`. -/
def Blk.roleTo (b : Blk) (peer : Nat) : Option RoleReq := b.fab.role.filter (·.peer == peer)

/-- ROLE_GRANT and ROLE_REFUSE (R323). -/
def Blk.roleGrant (b : Blk) (p : Nat) (k : Packet) (pcrc : Bool) : Blk :=
  b.takeRolePacket p k pcrc 2 fun b =>
    match b.roleTo (roleSender k) with
    | some r => b.roleEnd r true
    | none => b
def Blk.roleRefuse (b : Blk) (p : Nat) (k : Packet) (pcrc : Bool) : Blk :=
  b.takeRolePacket p k pcrc 3 fun b =>
    match b.roleTo (roleSender k) with
    | some r => b.roleEnd r false
    | none => b

/-- GIVE_TIMEOUT (R323): a GIVE, or a TAKE, has had no answer for 10 ms (log 56). -/
def Blk.giveTimeout (b : Blk) : Blk :=
  match b.fab.role with
  | some r => b.when (b.fabRuns && decide (r.at_ + 10000000 ≤ b.tb1)) fun b => b.roleEnd r false
  | none => b

/-- ROLE_HOLDOFF_END (R324): 500 ms have passed. -/
def Blk.roleHoldoffEnd (b : Blk) (peer : Nat) : Blk :=
  b.when (b.aonRuns && decide (SMap.get b.fab.holdoff peer 0 ≤ b.tb1)) fun b =>
    { b with fab := { b.fab with holdoff := NMap.set b.fab.holdoff peer 0 0 } }

/-! ## Topology and routes (R326, R327) -/

/-- The port states of this node as a TOPO payload (R326). -/
def Blk.topoBits (b : Blk) : BitVec 128 :=
  BitVec.ofNat 128 ((List.range 8).foldl (fun acc p =>
    acc + ((b.portUp p).toNat * 2 ^ 12 + b.fld F.PORT_STATUS_PARTNER p * 2 ^ 3 + b.fld F.PORT_STATUS_PARTNER_PORT p) *
      2 ^ (106 - 13 * p)) (b.node * 2 ^ 119))

/-- Node `n` has told its port states. -/
def Blk.setTopo (b : Blk) (n : Nat) (v : BitVec 128) : Blk :=
  if SMap.get b.fab.topo n none = some v then b
  else { b with fab := { b.fab with topo := NMap.set b.fab.topo n (some v) none, routeDue := true } }

/-- TOPO (R326): a TOPO packet reaches the conductor. -/
def Blk.topoIn (b : Blk) (p : Nat) (k : Packet) (pcrc : Bool) : Blk :=
  b.takeIn p k 8 (b.forMe k) pcrc fun b =>
    let v := k.payload.getD 0 0
    b.setTopo (bitsOf v.toNat 119 9) v

/-- TOPO_SEND (R326): after a change of a port state or of the conductor. -/
def Blk.topoSend (b : Blk) : Blk :=
  b.when (b.fabRuns && b.fab.topoDue.isSome && b.flag F.FAB_STATUS_COND_V 0) fun b =>
    let b := { b with fab := { b.fab with topoDue := none } }
    if b.fab.holds then b.setTopo b.node b.topoBits
    else b.emit (b.newPacket 8 3 (b.fld F.FAB_STATUS_CONDUCTOR 0) 595 0 0 2 [b.topoBits])

/-- A link as one of its ends sees it: node and port, partner and its port. -/
structure Link where
  a : Nat
  p : Nat
  b : Nat
  q : Nat
deriving DecidableEq, Repr

/-- The UP ports that a TOPO payload tells (R326). -/
def linksOf (n : Nat) (v : BitVec 128) : List Link :=
  (List.range 8).filterMap fun p =>
    let e := bitsOf v.toNat (106 - 13 * p) 13
    if e.testBit 12 then some ⟨n, p, bitsOf e 3 9, bitsOf e 0 3⟩ else none

/-- The links over UP ports, each from both ends; an end that has told otherwise takes its link away. -/
def linksIn (topo : NMap (Option (BitVec 128))) : List Link :=
  let told := (topo.filterMap fun x => x.2.map fun v => linksOf x.1 v).flatten
  let known := topo.map (·.1)
  let both := told.filter fun l => !known.contains l.b || told.contains ⟨l.b, l.q, l.a, l.p⟩
  (both ++ both.map fun l => Link.mk l.b l.q l.a l.p).eraseDups

/-- Distances by levels: each round adds what `step` finds for its level. -/
def grow (step : Nat → List (Nat × Nat) → List Nat) : Nat → Nat → List (Nat × Nat) → List (Nat × Nat)
  | 0, _, acc => acc
  | fuel + 1, k, acc =>
    let new := (step k acc).eraseDups.filter fun n => !acc.any (·.1 == n)
    grow step fuel (k + 1) (acc ++ new.map fun n => (n, k))

/-- The distance of `n`, if it has one. -/
def distOf (l : List (Nat × Nat)) (n : Nat) : Option Nat := (l.find? (·.1 == n)).map (·.2)

/-- The depth of every node that the conductor `c` reaches (R326). -/
def depths (links : List Link) (c : Nat) : List (Nat × Nat) :=
  grow (fun k acc => (links.filter fun l => acc.contains (l.a, k - 1)).map (·.b)) (links.length + 1) 1 [(c, 0)]

/-- The link is an up link from its end `a` (R326). -/
def Link.up (depth : List (Nat × Nat)) (l : Link) : Bool :=
  match distOf depth l.a, distOf depth l.b with
  | some x, some y => decide (y < x) || (y == x && decide (l.b < l.a))
  | _, _ => false

/-- Links on the shortest path to `d` that takes down links only, by node, up to 15. -/
def downDist (links : List Link) (depth : List (Nat × Nat)) (d : Nat) : List (Nat × Nat) :=
  grow (fun k acc => (links.filter fun l => !l.up depth && acc.contains (l.b, k - 1)).map (·.a)) 15 1 [(d, 0)]

/-- Links on the shortest legal path to `d`, by node, up to 15 (R327). -/
def legalDist (links : List Link) (depth down : List (Nat × Nat)) (d : Nat) : List (Nat × Nat) :=
  grow (fun k acc => (down.filter (·.2 == k)).map (·.1) ++
    (links.filter fun l => l.up depth && acc.contains (l.b, k - 1)).map (·.a)) 15 1 [(d, 0)]

/-- The route entry of node `n` for destination `d` (R327): the lowest egress port of a shortest legal path. -/
def routeOf (links : List Link) (depth : List (Nat × Nat)) (n d : Nat) : Nat :=
  if n = d then 0x8080
  else
    let down := downDist links depth d
    let legal := legalDist links depth down d
    match distOf legal n with
    | none => 0
    | some h =>
      let fits := fun (p : Nat) => links.any fun l => l.a == n && l.p == p &&
        (if l.up depth then distOf legal l.b == some (h - 1) else distOf down l.b == some (h - 1))
      match (List.range 8).find? fits with
      | some p => 0x8000 + p * 2 ^ 12 + h * 2 ^ 8
      | none => 0

/-- The payload of chunk `c` of a route table (R327). -/
def routeChunk (entry : Nat → Nat) (c : Nat) : List (BitVec 128) :=
  (List.range 8).map fun f =>
    BitVec.ofNat 128 ((List.range 8).foldl (fun acc k => acc + entry (64 * c + 8 * f + k) * 2 ^ (16 * k)) 0)

/-- A new epoch of the route table is in use: TIMEOUT episodes end (R333). -/
def Blk.setEpoch (b : Blk) (e : Nat) : Blk :=
  if b.fld F.FAB_STATUS_EPOCH 0 = e % 2 ^ 16 then b
  else { b.setFld F.FAB_STATUS_EPOCH 0 e with fab := { b.fab with dead := endDead (fun _ => true) b.fab.dead } }

/-- ROUTE_COMPUTE (R327): the conductor computes every node's table, uses its own at once and sends the others'. -/
def Blk.routeCompute (b : Blk) : Blk :=
  b.when (b.fabRuns && b.fab.holds && b.fab.routeDue) fun b =>
    let b := b.setTopo b.node b.topoBits
    let links := linksIn b.fab.topo
    let depth := depths links b.node
    let reach := (depth.map (·.1)).filter (· != b.node)
    let known := ((b.fab.topo.map (·.1)) ++ links.map (·.b)).eraseDups
    let entry := fun (n d : Nat) => if known.contains d then routeOf links depth n d else 0
    let epoch := (b.fld F.FAB_STATUS_EPOCH 0 + 1) % 2 ^ 16
    let b := b.setEpoch epoch
    let b := (List.range 512).foldl (fun b d => b.setFld F.FAB_ROUTE_ENTRY d (entry b.node d)) b
    let b := reach.foldl (fun b n => (List.range 8).foldl (fun b c =>
      b.emit (b.newPacket 9 3 n 595 0 (c * 2 ^ 16 + epoch) 3 (routeChunk (entry n) c))) b) b
    let gone := known.filter fun d => (b.node :: reach).any fun n => entry n d == 0
    let b := (gone.filter fun d => !b.fab.unreach.contains d).foldl (fun b d => b.raise 595 0x0D 0x03 (d * 2 ^ 23)) b
    { b with fab := { b.fab with unreach := gone, routeDue := false } }

/-- ROUTE (R327): a chunk is used as soon as it has been received. -/
def Blk.routeIn (b : Blk) (p : Nat) (k : Packet) (pcrc : Bool) : Blk :=
  b.takeIn p k 9 (b.forMe k) pcrc fun b =>
    let c := bitsOf k.addr.toNat 16 3
    let b := b.setEpoch (bitsOf k.addr.toNat 0 16)
    k.payload.zipIdx.foldl (fun b x => (List.range 8).foldl (fun b j =>
      b.setFld F.FAB_ROUTE_ENTRY (64 * c + 8 * x.2 + j) (bitsOf x.1.toNat (16 * j) 16)) b) b

/-! ## Fabric time (R335, R336) -/

/-- FT goes to `target` (R335): it is taken by a node that has none, stepped forward where it lies more than 10 µs behind,
and else slewed. -/
def Blk.ftSet (b : Blk) (target : Nat) : Blk :=
  let err : Int := (b.ft : Int) - target
  let b := b.setFld F.FAB_TIME_FT_ERR 0 (min 65535 err.natAbs)
  let take := !b.flag F.FAB_TIME_FT_V 0 || decide (err < -10000)
  if take then
    let b := (b.setReg64 .FAB_FT_LO .FAB_FT_HI 0 target).setFld F.FAB_TIME_FT_V 0 1
    { b with fab := { b.fab with ftErr := 0 } }
  else { b with fab := { b.fab with ftErr := err * 1000 } }

/-- A TIME packet of kind `kind` on port `p`. -/
def Blk.sendTime (b : Blk) (p kind hi lo : Nat) : Blk :=
  b.emitAt p (b.newPacket 10 3 (b.fld F.PORT_STATUS_PARTNER p) 595 0 kind 2 [BitVec.ofNat 128 (hi * 2 ^ 64 + lo)])

/-- A SYNC to every child (R336); its FT is stamped at its departure. -/
def Blk.syncChildren (b : Blk) : Blk := b.childPorts.foldl (fun b p => b.sendTime p 0 0 0) b

/-- A TIME packet of kind `kind`. -/
def Blk.takeTime (b : Blk) (p : Nat) (k : Packet) (pcrc mine : Bool) (kind : Nat) (f : Blk → Blk) : Blk :=
  b.takeIn p k 10 (mine && bitsOf k.addr.toNat 0 2 == kind) pcrc f

/-- The two halves of a TIME payload. -/
def timeHi (k : Packet) : Nat := bitsOf (k.payload.getD 0 0).toNat 64 64
def timeLo (k : Packet) : Nat := bitsOf (k.payload.getD 0 0).toNat 0 64

/-- TIME_SYNC (R336): a SYNC from the parent. -/
def Blk.timeSync (b : Blk) (p : Nat) (k : Packet) (pcrc : Bool) : Blk :=
  b.takeTime p k pcrc (b.flag F.PORT_STATUS_PARENT p) 0 fun b =>
    (b.ftSet ((timeHi k + b.fld F.PORT_DELAY_DELAY p) % 2 ^ 64)).syncChildren

/-- SYNC_SEND (R336): every 1 ms by the conductor. -/
def Blk.syncSend (b : Blk) : Blk :=
  b.when (b.fabRuns && b.fab.holds && b.flag F.FAB_TIME_FT_V 0 && b.every b.fab.syncAt 1000000) fun b =>
    { b with fab := { b.fab with syncAt := some b.tb1 } }.syncChildren

/-- DELAY_MEASURE (R336): every 10 ms, on the parent link; `t1` is the stamp of the departure, ns. -/
def Blk.delayMeasure (b : Blk) (t1 : Nat) : Blk :=
  match b.parentPort with
  | none => b
  | some p =>
    b.when (b.fabRuns && b.portUp p && b.every (b.port p).delayAt 10000000) fun b =>
      (b.setPort p { b.port p with delayT1 := some t1, delayAt := some b.tb1 }).sendTime p 1 0 0

/-- DELAY_REQ (R336): stamped `t2` at arrival, answered with a DELAY_RSP that leaves at `t3`. -/
def Blk.delayReq (b : Blk) (p : Nat) (k : Packet) (pcrc : Bool) (t2 t3 : Nat) : Blk :=
  b.takeTime p k pcrc true 1 fun b => b.sendTime p 2 (t2 % 2 ^ 64) (t3 % 2 ^ 64)

/-- DELAY_RSP (R336): stamped `t4` on receipt. -/
def Blk.delayRsp (b : Blk) (p : Nat) (k : Packet) (pcrc : Bool) (t4 : Nat) : Blk :=
  b.takeTime p k pcrc true 2 fun b =>
    match (b.port p).delayT1 with
    | none => b
    | some t1 =>
      let d : Int := (((t4 : Int) - t1) - ((timeLo k : Int) - timeHi k)) / 2
      (b.setPort p { b.port p with delayT1 := none }).setFld F.PORT_DELAY_DELAY p (min 65535 d.toNat)

/-! ## TB0 pairs (R337) -/

/-- TB0_PAIR (R337): TB0 of a node other than the host is moved to the newest pair. -/
def Blk.tb0Pair (b : Blk) (p : Nat) (k : Packet) (pcrc : Bool) : Blk :=
  b.takeTime p k pcrc (b.forMe k && !b.flag F.GNSS_CTRL_HOST 0) 3 fun b =>
    b.when (b.flag F.FAB_TIME_FT_V 0) fun b =>
      let target : Nat := (timeHi k + b.ft + 2 ^ 64 - timeLo k) % 2 ^ 64
      let off : Int := (b.tb 0 : Int) - target
      let b := { b with fab := { b.fab with pairAt := some b.tb1 } }
      if b.tbValid 0 ∧ off.natAbs ≤ 1000000 then { b with tbu := { b.tbu with tb0Err := off * 1000 } }
      else b.tb0Invalid.tb0Reach target

/-- TB0_PAIR_SEND (R337): every 10 ms by the GNSS host, to every node. -/
def Blk.tb0PairSend (b : Blk) : Blk :=
  b.when (b.fabRuns && b.flag F.GNSS_CTRL_HOST 0 && b.tbValid 0 && b.flag F.FAB_TIME_FT_V 0 &&
      b.every b.fab.pairSent 10000000) fun b =>
    let b := { b with fab := { b.fab with pairSent := some b.tb1 } }
    let v := BitVec.ofNat 128 (b.tb 0 * 2 ^ 64 + b.ft)
    ((List.range 512).filter fun n => (b.routeEntry n).testBit 15 && !(b.routeEntry n).testBit 7).foldl
      (fun b n => b.emit (b.newPacket 10 3 n 595 0 3 2 [v])) b

/-- TB0_PAIR_TIMEOUT (R337): no pair for 100 ms. -/
def Blk.tb0PairTimeout (b : Blk) : Blk :=
  match b.fab.pairAt with
  | none => b
  | some t =>
    b.when (b.aonRuns && !b.flag F.GNSS_CTRL_HOST 0 && decide (t + 100000000 ≤ b.tb1)) fun b =>
      let b := { b with tbu := { b.tbu with tb0Hold := none, tb0Jump := none } }
      { b with fab := { b.fab with pairAt := none } }.tb0Invalid

end Sys2Proof.Machine
end

