-- ==== Sys2Proof/Machine/House.lean ====
section
/-!
DEFINITION. The housekeeping round and what acts on its temperatures (R92, R210, R211, R302, spec chapter 16): throttle,
reduction, shutdown, DRAM bands, cooling.
Readings and choices: logs 59 of notes/assumptions.
-/

namespace Sys2Proof.Machine

/-! ## The readings (R210, R211) -/

/-- Reading `h` of a round, and whether its sensor reads open or shorted; channels without a reading read 0. -/
abbrev Readings := List (Int × Bool)

/-- The value of channel `h` if it is valid: only temperature sensors fault. -/
def hkValid (x : Readings) (h : Nat) : Option Int :=
  let r := x.getD h (0, false)
  if h < 60 ∧ r.2 then none else some r.1

/-- The temperature sensor `h` is faulted. -/
def hkFault (x : Readings) (h : Nat) : Bool := (hkValid x h).isNone

/-- The word of channel `h` in round `r` (R196, R197, R210). -/
def hkWord (x : Readings) (r h : Nat) : Word :=
  let v := (x.getD h (0, false)).1
  if h < 104 then reasonWord (if hkFault x h then [0xC] else []) r v else reasonWord [1] r 0

/-- The words of a round, and the registers that show one of its readings. -/
def Blk.hkWords (b : Blk) (x : Readings) (r : Nat) : Blk :=
  let b := (List.range 128).foldl (fun b h => b.setReg .HK_WORD h (hkWord x r h)) b
  let b := (List.range 8).foldl (fun b k =>
    let b := match hkValid x (40 + k) with
      | some v => b.setCompTemp k v
      | none => b
    let b := match hkValid x (48 + k) with
      | some v => b.setSFld F.LSW_BANK_TEMP_TEMP k v
      | none => b
    (b.setFld F.LSW_BANK_FEED_FEED_V k (x.getD (62 + k) (0, false)).1.toNat).setFld F.LSW_BANK_FEED_FEED_I k
      (x.getD (70 + k) (0, false)).1.toNat) b
  (List.range 10).foldl (fun b f => b.setFld F.COOL_STATUS_RPM f (min 65535 (x.getD (82 + f) (0, false)).1.toNat)) b

/-- SENSOR_FAULT records (R382, R389): one for each sensor until it has read valid. -/
def Blk.hkFaults (b : Blk) (x : Readings) : Blk :=
  let bad := (List.range 60).filter (hkFault x)
  let b' := (bad.filter fun h => !b.pwr.faulted.contains h).foldl (fun b h => b.raise 594 0x0F 0x05 (h * 2 ^ 25)) b
  { b' with pwr := { b'.pwr with faulted := bad } }

/-! ## Protection of the die (R92 to R94, R383 to R386) -/

/-- The hottest valid reading among channels, with its channel, the lowest among equals. -/
def hottest (x : Readings) : List Nat → Option (Nat × Int)
  | [] => none
  | h :: l =>
    match hkValid x h, hottest x l with
    | some v, some (g, w) => if w > v then some (g, w) else some (h, v)
    | some v, none => some (h, v)
    | none, r => r

/-- The hottest valid die reading (R383). -/
def dieHottest (x : Readings) : Option (Nat × Int) := hottest x (List.range 40)

/-- K as the hottest die reading, in 0.1 °C, gives it (R383). -/
def factorOf (t : Int) : Nat := (max 250 (min 1000 (1000 - (15 * (t - 1450)) / 2))).toNat

/-- The clock step n (R384). -/
def leclkStep (k : Nat) (crank : Bool) : Nat :=
  let n := max 12 ((48 * k + 999) / 1000)
  if crank then min n 16 else n

/-- LECLK takes the step that K and the supply state give (R384). -/
def Blk.setClock (b : Blk) : Blk :=
  b.keepCycles.setFld F.PWR_STATUS_LECLK_N 0 (leclkStep (b.fld F.PWR_STATUS_K 0) (b.supply == 1))

/-- Module reduction (R382, R383, R385). -/
def Blk.reduce (b : Blk) (x : Readings) : Blk :=
  let bad4 := decide (4 ≤ ((List.range 40).filter (hkFault x)).length)
  let b := b.setFlag F.PWR_THERM_DIE_FAULT4 0 bad4
  let b := match dieHottest x with
    | some (h, t) => (b.setFld F.PWR_THERM_HOT_CH 0 h).setSFld F.PWR_THERM_HOT_T 0 t
    | none => b
  let old := b.fld F.PWR_STATUS_K 0
  let asked := match dieHottest x with
    | some (_, t) => factorOf t
    | none => old
  let asked := if bad4 then min asked 700 else asked
  let k := min asked (old + 50)
  let b := (b.setFld F.PWR_STATUS_K 0 k).setClock
  let b := { b with pwr := { b.pwr with k1000At := if k = 1000 then some (b.pwr.k1000At.getD b.tb1) else none } }
  if k < 1000 ∧ !b.pwr.reducing then
    let b := { b with pwr := { b.pwr with reducing := true } }.setFld F.PWR_EVT_REDUCED 0 1
    b.raise 594 0x0F 0x03 (b.fld F.PWR_THERM_HOT_CH 0 % 64 * 2 ^ 26 + k * 2 ^ 16 + b.fld F.PWR_THERM_HOT_T 0)
  else b

/-- REDUCTION_END (R385). -/
def Blk.reductionEnd (b : Blk) : Blk :=
  match b.pwr.k1000At with
  | some t =>
    b.when (b.aonRuns && b.pwr.reducing && decide (t + 10000000000 ≤ b.tb1)) fun b =>
      { b with pwr := { b.pwr with reducing := false } }
  | none => b

/-- Tile throttle of tile `t` (R92, R382, R389): a faulted sensor counts as 140 °C. THR_SEEN is 1 wherever THR_REQ is. -/
def Blk.throttle (b : Blk) (x : Readings) (t : Nat) : Blk :=
  let v := (hkValid x t).getD 1400
  let on := b.flag F.TILE_STATUS_THR_REQ t
  let b := b.when (decide (1400 ≤ v) || (on && decide (1350 ≤ v))) fun b => b.setFld F.TILE_TEMP_SEEN_THR_SEEN t 1
  if 1400 ≤ v ∧ !on then
    let b := b.setFld F.TILE_STATUS_THR_REQ t 1
    let b := { b with le := { b.le with grace := NMap.set b.le.grace t (some b.tb1) none } }
    b.raise 594 0x0F 0x01 (t * 2 ^ 27 + (BitVec.ofInt 16 v).toNat)
  else if v < 1350 ∧ on then
    let b := (b.setFld F.TILE_STATUS_THR_REQ t 0).setFld F.TILE_STATUS_GATED t 0
    { b with le := { b.le with grace := NMap.set b.le.grace t none none } }
  else b

/-- All cooling outputs run at 100 % (R386). -/
def Blk.fullCooling (b : Blk) : Blk := (List.range 10).foldl (fun b f => b.setFld F.COOL_STATUS_DUTY f 1000) b

/-- Thermal shutdown (R386): its record is held in AON, the compute side is held in reset, every domain is off. -/
def Blk.shutdown (b : Blk) (h : Nat) (t : Int) : Blk :=
  let r := b.mkRec 594 0x0F 0x04 (h % 64 * 2 ^ 26 + (BitVec.ofInt 16 t).toNat)
  let b := { b with mod := { b.mod with heldRecs := b.mod.heldRecs ++ [r] } }.hold .thermalHold
  let b := (List.range 64).foldl (fun b d => (b.setFld F.PD_STATUS_STATE d 0).setFld F.PD_CTRL_ON d 0) b
  { b with pwr := { b.pwr with doms := [], coldAt := none } }.fullCooling

/-- A round looks for the shutdown temperature, and in a shutdown for its end (R386). -/
def Blk.checkShutdown (b : Blk) (x : Readings) : Blk :=
  match dieHottest x with
  | none => b
  | some (h, t) =>
    if b.mod.phase = .thermalHold then
      { b with pwr := { b.pwr with coldAt := if t < 1200 then some (b.pwr.coldAt.getD b.tb1) else none } }
    else if 1580 ≤ t then b.shutdown h t
    else b

/-- SHUTDOWN_RESTART (R386): every die reading has been below 120 °C for 10 s. -/
def Blk.shutdownRestart (b : Blk) : Blk :=
  match b.pwr.coldAt with
  | some t =>
    b.when (b.aonRuns && decide (b.mod.phase = .thermalHold) && decide (t + 10000000000 ≤ b.tb1)) fun b => b.restart
  | none => b

/-! ## DRAM and fabric presets (R302, R388) -/

/-- A level that rises as `v` crosses its thresholds and falls where `v` lies 3 °C below the one it crossed; `over` is what
must be exceeded to reach each level, in 0.1 °C. -/
def hystLevel (excess : List Int) (cur : Nat) (v : Int) : Nat :=
  let up := (excess.filter fun t => decide (t ≤ v)).length
  let low := (excess.filter fun t => decide (t - 30 < v)).length
  max up (min cur low)

/-- The band of a DRAM channel (R388). -/
def dramBand (cur : Nat) (v : Int) : Nat :=
  let up := (if 850 ≤ v then 1 else 0) + (if 1050 ≤ v then 1 else 0) + (if 1250 < v then 1 else 0)
  let low := (if 820 < v then 1 else 0) + (if 1020 < v then 1 else 0) + (if 1220 < v then 1 else 0)
  max up (min cur low)

/-- DRAM channel `c` (R382, R388): a faulted case sensor puts it in band 2. -/
def Blk.dramRound (b : Blk) (x : Readings) (c : Nat) : Blk :=
  let f := if c = 0 then F.PWR_DRAM_BAND0 else F.PWR_DRAM_BAND1
  let band := match hkValid x (58 + c) with
    | some v => dramBand (b.fld f 0) v
    | none => 2
  let b := b.setFld f 0 band
  if band = 3 ∧ !b.pwr.stalled.contains c then
    let v := (hkValid x (58 + c)).getD 0
    { b with pwr := { b.pwr with stalled := b.pwr.stalled ++ [c] } }.raise 594 0x0F 0x06
      (c * 2 ^ 31 + (BitVec.ofInt 16 v).toNat)
  else if band = 3 then b
  else { b with pwr := { b.pwr with stalled := b.pwr.stalled.erase c } }

/-- The equalisation presets of the ports (R302). -/
def Blk.eqRound (b : Blk) (x : Readings) : Blk :=
  match hkValid x 37 with
  | none => b
  | some v =>
    let th : List Int := [(b.fld F.FAB_EQ_EQ_TH1 0 : Int) * 10, (b.fld F.FAB_EQ_EQ_TH2 0 : Int) * 10]
    (List.range 8).foldl (fun b p => b.setFld F.PORT_STATUS_PRESET p (hystLevel th (b.fld F.PORT_STATUS_PRESET p) v)) b

/-! ## Cooling (R381, R382, R390 to R392) -/

/-- The sensors of zone `z` (R381). -/
def zoneSensors (z : Nat) : List Nat :=
  if z < 8 then (List.range 4).map (4 * z + ·)
  else if z = 8 then (List.range 8).map (32 + ·)
  else if z = 9 then (List.range 8).map (40 + ·)
  else if z = 10 then (List.range 8).map (48 + ·)
  else (List.range 4).map (56 + ·)

/-- The demand that a temperature gives between T_LO and T_HI in °C, 0.1 % (R390). -/
def demandOf (lo hi : Nat) (t : Int) : Nat :=
  if t ≤ lo * 10 then 0
  else if (hi : Int) * 10 ≤ t then 1000
  else ((t - lo * 10) * 1000 / ((hi - lo : Nat) * 10)).toNat

/-- Zone `z` (R381, R382, R390). -/
def Blk.zoneRound (b : Blk) (x : Readings) (z : Nat) : Blk :=
  let s := zoneSensors z
  let b := match hottest x s with
    | some (_, t) =>
      (b.setSFld F.TZ_STAT_TEMP z t).setFld F.TZ_STAT_DEMAND z (demandOf (b.fld F.TZ_CFG_T_LO z) (b.fld F.TZ_CFG_T_HI z) t)
    | none => b
  if s.any (hkFault x) then b.setFld F.TZ_STAT_DEMAND z 1000 else b

/-- Output `f` (R386, R390): released, which is 100 %, in reset (R434). -/
def Blk.outputDuty (b : Blk) (f : Nat) : Nat :=
  let zone := (List.range 12).foldl (fun acc z =>
    if (b.fld F.COOL_CFG_ZONE_MASK f).testBit z then max acc (b.fld F.TZ_STAT_DEMAND z) else acc) 0
  let want := max (min 1000 (b.fld F.COOL_CFG_MIN_DUTY f * 10)) (max zone (min 1000 (b.fld F.COOL_HOST_HOST f)))
  if !b.outOfReset then 1000 else max want (b.fld F.COOL_STATUS_DUTY f - 20)

/-- The duty at the pin COOL_PWMf, 0.1 % (R434). -/
def Blk.coolPwm (b : Blk) (f : Nat) : Nat := if b.outOfReset then b.fld F.COOL_STATUS_DUTY f else 1000

/-- Output `f` beyond its registers. -/
def Blk.coolOut (b : Blk) (f : Nat) : CoolSt := SMap.get b.pwr.cool f CoolSt.zero

/-- Output `f` in a round (R390, R392). -/
def Blk.coolRound (b : Blk) (f : Nat) : Blk :=
  let b := b.setFld F.COOL_STATUS_DUTY f (b.outputDuty f)
  let x := b.coolOut f
  let slow := decide (b.fld F.COOL_STATUS_RPM f < b.fld F.COOL_MIN_MIN_RPM f)
  let keep := fun (c : Bool) (t : Option Nat) => if c then some (t.getD b.tb1) else none
  let x : CoolSt := ⟨keep (slow && decide (300 ≤ b.fld F.COOL_STATUS_DUTY f)) x.lowAt, keep (!slow) x.okAt⟩
  { b with pwr := { b.pwr with cool := NMap.set b.pwr.cool f x CoolSt.zero } }

/-- COOL_FAULT (R392, R389): 3 s below MIN_RPM at 30 % duty or more. -/
def Blk.coolFault (b : Blk) (f : Nat) : Blk :=
  match (b.coolOut f).lowAt with
  | some t =>
    b.when (b.aonRuns && !b.flag F.COOL_STATUS_FAULT f && decide (t + 3000000000 ≤ b.tb1)) fun b =>
      (b.setFld F.COOL_STATUS_FAULT f 1).raise 594 0x0F 0x07 (f * 2 ^ 28 + b.fld F.COOL_STATUS_RPM f)
  | none => b

/-- COOL_FAULT_CLEAR (R392). -/
def Blk.coolFaultClear (b : Blk) (f : Nat) : Blk :=
  match (b.coolOut f).okAt with
  | some t => b.when (b.aonRuns && decide (t + 3000000000 ≤ b.tb1)) fun b => b.setFld F.COOL_STATUS_FAULT f 0
  | none => b

/-- COOL_HOST_WRITE (R391): a host demand. -/
def Blk.coolHostWrite (b : Blk) (f v : Nat) : Blk :=
  let b := (b.setFld F.COOL_HOST_HOST f v).setFld F.COOL_WD_HOST_SILENT 0 0
  { b with pwr := { b.pwr with hostAt := b.tb1 } }

/-- HOST_SILENT (R391, R389). -/
def Blk.hostSilent (b : Blk) : Blk :=
  let ms := b.fld F.COOL_WD_HOST_WD_MS 0
  b.when (b.aonRuns && ms != 0 && !b.flag F.COOL_WD_HOST_SILENT 0 && decide (b.pwr.hostAt + ms * 1000000 ≤ b.tb1)) fun b =>
    (b.setFld F.COOL_WD_HOST_SILENT 0 1).raise 594 0x0F 0x08 0

/-! ## The round -/

/-- Outside NORMAL the module supply of the round (channel 60) may be the lowest so far (R373). -/
def Blk.supplySeen (b : Blk) (x : Readings) : Blk :=
  match hkValid x 60 with
  | some v => b.when (b.supply != 0) fun b => { b with mod := { b.mod with vbatLow := min b.mod.vbatLow v.toNat } }
  | none => b

/-- HOUSEKEEPING_ROUND (R210): round r at TB1 = r × 10 ms; `energy` is the usable energy of the hold-up store in 0.01 J. -/
def Blk.housekeeping (b : Blk) (x : Readings) (energy : Nat) : Blk :=
  let r := b.tb1 / 10000000
  b.when (b.aonRuns && decide (b.pwr.round < r)) fun b =>
    let b := { b with pwr := { b.pwr with round := r } }
    let b := ((b.hkWords x (b.fld F.HK_ROUND_ROUND 0 + 1)).hkFaults x).supplySeen x
    let b := b.setFld F.PWR_HOLDUP_ENERGY 0 energy
    let b := (List.range 32).foldl (fun b t => b.throttle x t) (b.reduce x)
    let b := ((b.dramRound x 0).dramRound x 1).eqRound x
    let b := (List.range 12).foldl (fun b z => b.zoneRound x z) b
    let b := b.checkShutdown x
    let b := (List.range 10).foldl Blk.coolRound b
    b.incFld F.HK_ROUND_ROUND 0

end Sys2Proof.Machine
end

