-- ==== Sys2Proof/Machine/Supply.lean ====
section
/-!
DEFINITION. The supply states and the hold-up store (R368 to R373).
Readings and choices: logs 59 of notes/assumptions.
-/

namespace Sys2Proof.Machine

/-- The supply has been told: its level, the lowest so far, and when it last stood outside the ranges of R368 and R372. -/
def Blk.told (b : Blk) (mv : Nat) : Blk :=
  let p := b.pwr
  { b with
    mod := { b.mod with vbat := mv, vbatLow := min b.mod.vbatLow mv }
    pwr := { p with
      lowAt := if mv < 6500 then b.tb1 else p.lowAt
      aboveAt := if 31000 < mv then b.tb1 else p.aboveAt
      calmAt := if mv ≤ 32000 then b.tb1 else p.calmAt } }

/-- The companions show crank hold (R172, R189). -/
def Blk.showCrank (b : Blk) (on : Bool) : Blk :=
  (List.range 8).foldl (fun b k => (b.setFlag F.SOL_COMP_STATUS_CRANK k on).setFlag F.LSW_BANK_STATUS_CRANK k on) b

/-- CRANK_ENTRY (R368, R373, R394): the supply stands at `mv`, below 6.0 V. -/
def Blk.crankEntry (b : Blk) (mv : Nat) : Blk :=
  b.when (b.powered && decide (b.mod.phase ≠ .rising) && b.supplyNormal && decide (mv < 6000)) fun b =>
    let b := b.told mv
    let b := { b with mod := { b.mod with vbatLow := mv }, pwr := { b.pwr with crankAt := b.tb1 } }
    let b := ((b.setFld F.PWR_STATUS_SUPPLY 0 1).setFld F.PWR_EVT_CRANK 0 1).setClock
    let b := (List.range 128).foldl Blk.lswKeep b
    ((b.showCrank true).raise 594 0x10 0x01 mv).journalFlushAll

/-- The least time in ns that `e` × 0.01 J last at 40 W (R368, R369). -/
def storeNs (e : Nat) : Nat := e * 250000

/-- STORE_EXHAUSTED (R368 to R370, R373): the supply still stands below 6.5 V, and the energy of the last round may have been drawn at
40 W (log 59); the fabric ports drop their links. -/
def Blk.storeExhausted (b : Blk) (mv : Nat) : Blk :=
  b.when (b.powered && b.supply == 1 && decide (mv < 6500) &&
      b.elapsed (b.pwr.round * 10000000) (storeNs (b.fld F.PWR_HOLDUP_ENERGY 0))) fun b =>
    let b := b.told mv
    let b := ((b.setFld F.PWR_STATUS_SUPPLY 0 2).setFld F.PWR_HOLDUP_ENERGY 0 0).setClock
    let b := (List.range 8).foldl (fun b p =>
      if 2 ≤ b.portState p then (b.setPortState p 1).linkGone p else b) b
    b.raise 594 0x10 0x02 b.mod.vbatLow

/-- NORMAL_RETURN (R368, R370, R371, R172, R189): the supply has stood at 6.5 V or more since TB1 `since`; the keep-alive of the crank
hold has reached every companion to the end, and the latest stored commands apply. -/
def Blk.normalReturn (b : Blk) (mv since : Nat) : Blk :=
  b.when (b.powered && b.supply != 0 && decide (6500 ≤ mv) && decide (b.pwr.lowAt ≤ since) &&
      b.elapsed since 10000000) fun b =>
    let b := (List.range 16).foldl Blk.linkFrame b
    let b := ((b.told mv).setFld F.PWR_STATUS_SUPPLY 0 0).setClock.showCrank false
    let b := (List.range 64).foldl Blk.solReturn b
    (List.range 128).foldl (fun b c => b.lswReturn c b.pwr.crankAt) b

/-- SUPPLY_OFF (R190, R368): the supply stands at `mv`, below 3.0 V. -/
def Blk.supplyOff (b : Blk) (mv : Nat) : Blk :=
  b.when (b.powered && decide (mv < 3000)) fun b => (b.told mv).powerOff

/-- SUPPLY_HIGH (R372, R373): the supply has stood above 32.0 V since TB1 `since`. -/
def Blk.supplyHigh (b : Blk) (mv since : Nat) : Blk :=
  b.when (b.aonRuns && !b.flag F.PWR_STATUS_HIGH 0 && decide (32000 < mv) &&
      decide (b.pwr.calmAt ≤ since) && decide (since + 1000000 ≤ b.tb1)) fun b =>
    (((b.told mv).setFld F.PWR_STATUS_HIGH 0 1).setFld F.PWR_EVT_HIGH_SEEN 0 1).raise 594 0x10 0x03 mv

/-- HIGH_CLEAR (R372): at or below 31.0 V since TB1 `since`. -/
def Blk.highClear (b : Blk) (mv since : Nat) : Blk :=
  b.when (b.aonRuns && decide (mv ≤ 31000) && decide (b.pwr.aboveAt ≤ since) &&
      decide (since + 1000000000 ≤ b.tb1)) fun b =>
    (b.told mv).setFld F.PWR_STATUS_HIGH 0 0

/-- HOLDUP_CHECK (R369, R373): 5 s after the start the store is not fully charged, as PWR_HOLDUP shows it. -/
def Blk.holdupCheck (b : Blk) : Blk :=
  b.when (b.aonRuns && !b.pwr.holdSeen && decide (5000000000 ≤ b.tb1)) fun b =>
    let energy := b.fld F.PWR_HOLDUP_ENERGY 0
    let b := { b with pwr := { b.pwr with holdSeen := true } }
    if energy < 1200 then b.raise 594 0x10 0x04 energy else b

end Sys2Proof.Machine
end

