-- ==== Sys2Proof/Machine/RegWrite.lean ====
section
/-!
DEFINITION. What a write of a register does: each register whose write has a row of its own calls that row's operation; every
other write follows the access types of its fields (R9).
Readings and choices: logs 6, 50 of notes/assumptions.
-/

namespace Sys2Proof.Machine

/-- The word `v` with field `f` as it stands in `old`. -/
def Fld.keep (f : Fld) (old v : Word) : Word := f.put v (f.get old)

/-- `v` has field `f` other than 0. -/
def Fld.on (f : Fld) (v : Word) : Bool := f.get v != 0

/-- The block changed by `f` where field `x` of the written word is other than 0. -/
def Blk.onBit (b : Blk) (x : Fld) (v : Word) (f : Blk → Blk) : Blk := b.when (x.on v) f

/-- A write of register `r` in which field `f` keeps its value. -/
def Blk.plainBut (b : Blk) (r : RegName) (i : Nat) (f : Fld) (v : Word) : Blk := b.plainWrite r i (f.keep (b.reg r i) v)

/-- ENC_CFG_WRITE (R35): the validity of the timebases that use the channel follows at the next tick. -/
def Blk.encCfgWrite (b : Blk) (e : Nat) (v : Word) : Blk := b.plainWrite .ENC_CFG e v

/-- TB_CFG: KIND of TB0 to TB3 is fixed (R35). -/
def Blk.tbCfgWrite (b : Blk) (n : Nat) (v : Word) : Blk :=
  if n ≤ 3 then b.plainBut .TB_CFG n F.TB_CFG_KIND v else b.plainWrite .TB_CFG n v

/-- TASK_CTRL of task `t` (R71, R72, R79 to R82, R88). -/
def Blk.taskCtrlWrite (b : Blk) (t : Nat) (v : Word) : Blk :=
  let was := b.flag F.TASK_CTRL_EN t
  let man := b.flag F.TASK_CTRL_MAN t
  let old := b.reg .TASK_CTRL t
  let b := b.plainWrite .TASK_CTRL t (F.TASK_CTRL_EN.keep old (F.TASK_CTRL_MAN.keep old v))
  let b := b.when (F.TASK_CTRL_MAN.on v != man) fun b => b.taskMan t (F.TASK_CTRL_MAN.on v)
  let b := (b.onBit F.TASK_CTRL_PL_CLR v fun b => b.taskPlClr t).onBit F.TASK_CTRL_SWAP v fun b => b.taskSwap t
  if F.TASK_CTRL_EN.on v then b.taskEnable t else b.when was fun b => b.taskDisable t

/-- SOL_CTRL of valve channel `c` (R167). -/
def Blk.solCtrlWrite (b : Blk) (c : Nat) (v : Word) : Blk :=
  let was := b.flag F.SOL_CTRL_EN c
  let b := (b.onBit F.SOL_CTRL_TRIP_CLR v fun b => b.solTripClear c).onBit F.SOL_CTRL_FLT_CLR v fun b => b.solFaultClear c
  if F.SOL_CTRL_EN.on v then b.when (!was) fun b => b.solEnable c else b.when was fun b => b.solDisable c

/-- LSW_CTRL of switch channel `c` (R178). -/
def Blk.lswCtrlWrite (b : Blk) (c : Nat) (v : Word) : Blk :=
  let was := b.flag F.LSW_CTRL_EN c
  let b := (b.onBit F.LSW_CTRL_TRIP_CLR v fun b => b.lswTripClear c).onBit F.LSW_CTRL_FLT_CLR v fun b => b.lswFaultClear c
  if F.LSW_CTRL_EN.on v then b.when (!was) fun b => b.lswEnable c else b.when was fun b => b.lswDisable c

/-- LSW_CFG of switch channel `c` (R185). -/
def Blk.lswCfgWrite (b : Blk) (c : Nat) (v : Word) : Blk :=
  let was := b.flag F.LSW_CFG_OL_EN c
  (b.plainWrite .LSW_CFG c v).when (was && !F.LSW_CFG_OL_EN.on v) fun b => b.openLoadDisable c

/-- CAM_CTRL of pipeline `p` (R228). -/
def Blk.camCtrlWrite (b : Blk) (p : Nat) (v : Word) : Blk :=
  let was := b.flag F.CAM_CTRL_EN p
  let b := b.plainBut .CAM_CTRL p F.CAM_CTRL_EN v
  if F.CAM_CTRL_EN.on v then b.camEnable p else b.when was fun b => b.camDisable p

/-- FUS_CTRL (R250). -/
def Blk.fusCtrlWrite (b : Blk) (v : Word) : Blk :=
  let was := b.flag F.FUS_CTRL_EN 0
  let b := b.plainBut .FUS_CTRL 0 F.FUS_CTRL_EN v
  if F.FUS_CTRL_EN.on v then b.fusionEnable else b.when was fun b => b.fusionDisable

/-- GNSS_CTRL (R281). -/
def Blk.gnssCtrlWrite (b : Blk) (v : Word) (err : Nat) : Blk :=
  let was := b.flag F.GNSS_CTRL_EN 0
  let b := b.plainBut .GNSS_CTRL 0 F.GNSS_CTRL_EN v
  if F.GNSS_CTRL_EN.on v then b.when (!was) fun b => b.gnssEnable else b.when was fun b => b.gnssDisable err

/-- FN_MODE of function `n`: the request is taken in the next round (R127). -/
def Blk.fnModeWrite (b : Blk) (n : Nat) (v : Word) : Blk :=
  let b := b.plainWrite .FN_MODE n v
  b.setFn n { b.fn n with req := true }

/-- YLD_CTRL (R290). -/
def Blk.yldCtrlWrite (b : Blk) (v : Word) : Blk :=
  ((b.plainWrite .YLD_CTRL 0 v).onBit F.YLD_CTRL_JOB_OPEN v Blk.jobOpen).onBit F.YLD_CTRL_JOB_CLOSE v Blk.jobClose

/-- PORT_CTRL of port `p` (R334). -/
def Blk.portCtrlWrite (b : Blk) (p : Nat) (v : Word) : Blk :=
  if F.PORT_CTRL_EN.on v then b.portEnable p else b.portDisable p

/-- PD_CTRL of domain `d` (R374, R379, R380). -/
def Blk.pdCtrlWrite (b : Blk) (d : Nat) (v : Word) (err : Nat) : Blk :=
  let b := b.plainBut .PD_CTRL d F.PD_CTRL_ON v
  if F.PD_CTRL_ON.on v then b.domainRequest d
  else if F.PD_CTRL_FORCE.on v then b.domainForceOff d err
  else b.domainOffRequest d

/-- ETH_CTRL of port `e` (R341). -/
def Blk.ethCtrlWrite (b : Blk) (e : Nat) (v : Word) : Blk :=
  let b := b.plainBut .ETH_CTRL e F.ETH_CTRL_EN v
  if F.ETH_CTRL_EN.on v then b.setFld F.ETH_CTRL_EN e 1 else b.ethDisable e

/-- CAN_CTRL of controller `k` (R342, R344). -/
def Blk.canCtrlWrite (b : Blk) (k : Nat) (v : Word) (bus : Option Bool) : Blk :=
  let was := b.flag F.CAN_CTRL_EN k
  let b := b.plainBut .CAN_CTRL k F.CAN_CTRL_EN v
  let b := if F.CAN_CTRL_EN.on v then b.canEnable k else b.when was fun b => b.canDisable k bus
  b.onBit F.CAN_CTRL_RESTART v fun b => b.canRestart k

/-- FLEET_CTRL (R351, R353). -/
def Blk.fleetCtrlWrite (b : Blk) (v : Word) : Blk :=
  let b := b.onBit F.FLEET_CTRL_UNPAIR v Blk.fleetUnpair
  if F.FLEET_CTRL_EN.on v then b.setFld F.FLEET_CTRL_EN 0 1 else b.fleetDisable

/-- BOOT_UPD_CMD (R406, R407). -/
def Blk.updCmdWrite (b : Blk) (v : Word) : Blk :=
  ((b.onBit F.BOOT_UPD_CMD_ABORT v Blk.stageAbort).onBit F.BOOT_UPD_CMD_DISCARD v Blk.stageDiscard).onBit
    F.BOOT_UPD_CMD_STAGE v Blk.updateStage

/-- DBG_CTRL (R445, R447). -/
def Blk.dbgCtrlWrite (b : Blk) (mid : Nat) (v : Word) : Blk :=
  (b.onBit F.DBG_CTRL_FREEZE v fun b => b.freezeRegister mid).onBit F.DBG_CTRL_RESTART v Blk.dbgRestart

/-- The effect of a write of `v` to register `r`, index `i`, by master `mid`. -/
def Blk.regWrite (b : Blk) (mid : Nat) (r : RegName) (i : Nat) (v : Word) (x : WriteEnv) : Blk :=
  match r with
  | .SYS_FAULT_LATCH => b.classSeenClear v
  | .TBU_SNAP => b.onBit F.TBU_SNAP_SNAP v Blk.tbuSnap
  | .TB2_SET_LO => b.tb2SetLow v
  | .TB2_SET_HI => b.tb2LoadWrite v none
  | .TB_CFG => b.tbCfgWrite i v
  | .ENC_CFG => b.encCfgWrite i v
  | .SLOT_CTRL => b.slotCtrlWrite i v
  | .SLOT_COUNT_LO => b.slotCountLow i v
  | .SLOT_COUNT_HI => b.slotCountHigh i v none
  | .SLOT_PERIOD_LO => b.slotPeriodWrite i (some v) none
  | .SLOT_PERIOD_HI => b.slotPeriodWrite i none (some v)
  | .TASK_CTRL => b.taskCtrlWrite i v
  | .SOL_CTRL => b.solCtrlWrite i v
  | .LSW_CTRL => b.lswCtrlWrite i v
  | .LSW_CFG => b.lswCfgWrite i v
  | .LSW_LIMP_REL =>
    b.limpRelease (BitVec.ofNat 8 (F.LSW_LIMP_REL_ZS8_REL.get v)) (BitVec.ofNat 8 (F.LSW_LIMP_REL_ZP16_REL.get v))
  | .AIN_CFG => b.ainCfgWrite i v
  | .CAM_CTRL => b.camCtrlWrite i v
  | .CCI_CMD => if F.CCI_CMD_START.on v then b.cciStart i v else b.plainWrite .CCI_CMD i v
  | .PS_COMMIT => b.onBit F.PS_COMMIT_COMMIT v fun b => b.paramCommit i (F.PS_COMMIT_DELAY.get v) x.late
  | .ST_COMMIT => b.onBit F.ST_COMMIT_COMMIT v fun b => b.addressCommit (i / 4) (i % 4) x.late
  | .FUS_CTRL => b.fusCtrlWrite v
  | .MODEL_CMD => b.onBit F.MODEL_CMD_LOAD v fun b => b.modelLoad i
  | .GNSS_CTRL => b.gnssCtrlWrite v x.err
  | .GNSS_NAV_SNAP => b.onBit F.GNSS_NAV_SNAP_SNAP v Blk.navSnap
  | .HPC_FIELD => b.fieldLoadRow (F.HPC_FIELD_SLOT.get v)
  | .FN_MODE => b.fnModeWrite i v
  | .YLD_CTRL => b.yldCtrlWrite v
  | .YLD_ACK => b.setAck v
  | .YLD_EXPORT => b.onBit F.YLD_EXPORT_START v Blk.exportStart
  | .FAB_ROLE => b.roleRequest v
  | .PORT_CTRL => b.portCtrlWrite i v
  | .XD_CTRL => b.onBit F.XD_CTRL_GO v fun b => b.transferStart i true
  | .ACC_LOG_RD => b.logReadAdvance v
  | .PD_CTRL => b.pdCtrlWrite i v x.err
  | .COOL_HOST => b.coolHostWrite i (F.COOL_HOST_HOST.get v)
  | .BOOT_UPD_CMD => b.updCmdWrite v
  | .ETH_CTRL => b.ethCtrlWrite i v
  | .CAN_CTRL => b.canCtrlWrite i v x.bus
  | .FLEET_CTRL => b.fleetCtrlWrite v
  | .FLEET_ROLE => b.fleetRoleRequest v
  | .DBG_CTRL => b.dbgCtrlWrite mid v
  | _ => b.plainWrite r i v

/-- A write of the register starts something that uses other registers, which the same access may cover. -/
def RegName.starts : RegName → Bool
  | .TBU_SNAP | .TB2_SET_HI | .SLOT_CTRL | .TASK_CTRL | .SOL_CTRL | .LSW_CTRL | .LSW_LIMP_REL | .CAM_CTRL | .CCI_CMD
  | .PS_COMMIT | .ST_COMMIT | .FUS_CTRL | .MODEL_CMD | .GNSS_CTRL | .GNSS_NAV_SNAP | .HPC_FIELD | .FN_MODE | .YLD_CTRL
  | .YLD_EXPORT | .FAB_ROLE | .PORT_CTRL | .XD_CTRL | .PD_CTRL | .COOL_HOST | .BOOT_UPD_CMD | .ETH_CTRL | .CAN_CTRL
  | .FLEET_CTRL | .FLEET_ROLE | .DBG_CTRL => true
  | _ => false

/-- The register words that an access of `n` words at local address `a` covers, each with its data. -/
def writtenWords (a : Nat) (data : BitVec 128) (n : Nat) : List (RegName × Nat × Word) :=
  (List.range n).filterMap fun k =>
    (regAt (a - regBase + 4 * k)).map fun r => (r.1, r.2, data.extractLsb' (32 * k) 32)

/-- An access of `n` register words takes effect on one edge (R7): every register that only holds a value has the written one
before a write that starts something acts; otherwise the lowest word is first (log 50). -/
def Blk.regWrites (b : Blk) (mid a : Nat) (data : BitVec 128) (x : WriteEnv) (n : Nat) : Blk :=
  let l := writtenWords a data n
  (l.filter (fun w => !w.1.starts) ++ l.filter (fun w => w.1.starts)).foldl (fun b w => b.regWrite mid w.1 w.2.1 w.2.2 x) b

/-- A write of `width` bits at local address `a` takes effect: in a register block, or in memory (R6). -/
def Blk.writeAddr (b : Blk) (mid a width : Nat) (data : BitVec 128) (x : WriteEnv) : Blk :=
  if regionOf a = some .regs then b.regWrites mid a data x (width / 32)
  else b.writeMem a (width / 8) (data.toNat % 2 ^ width)

/-- REGISTER_WRITE (R9): a write to register words by master `mid` takes effect. -/
def Blk.registerWrite (b : Blk) (mid addr width : Nat) (data : BitVec 128) (x : WriteEnv) : Blk :=
  b.when (decide (b.mod.phase ≠ .off) && !b.frozen && formOk addr width && regionOf addr == some .regs) fun b =>
    b.regWrites mid addr data x (width / 32)

/-! ## Acceptance (R19, R361) -/

/-- An access waits for target `t` and has arrived by edge `e`; the queue of a DRAM channel in band 3 stalls (R388), and a unit's own
access does not overtake an earlier one of that unit (log 6). -/
def Blk.mayAccept (b : Blk) (t e : Nat) (a : Access) : Bool :=
  targetNo a.addr == some t && decide (a.edge ≤ e) && !b.stalled a.addr &&
    (a.who != .unit || (b.bus.waiting.find? fun x => x.who == .unit && x.mid == a.mid) == some a)

/-- The access that target `t` accepts on edge `e`. -/
def Blk.nextAccess (b : Blk) (t e : Nat) : Option Access :=
  (b.bus.waiting.filter (b.mayAccept t e)).foldl (fun acc a =>
    match acc with
    | none => some a
    | some y => if a.first y then some a else some y) none

/-- An accepted access completes (R19). -/
def Blk.complete (b : Blk) (a : Access) (x : WriteEnv) : Blk :=
  match a.op with
  | .read =>
    let v := BitVec.ofNat 128 (b.readAddr a.addr (a.width / 8))
    (b.answer ⟨a.who, .read, .ok, v⟩).respond
  | .write => ((b.writeAddr a.mid a.addr a.width a.data x).answer ⟨a.who, .write, .ok, 0⟩).respond

/-- ACCESS_ACCEPT (R19): target `t` accepts an access on LECLK edge `e`, later than that of its last acceptance. -/
def Blk.accessAccept (b : Blk) (t e : Nat) (x : WriteEnv) : Blk :=
  b.when (b.computeRuns && b.supply != 2 && decide (SMap.get b.bus.lastEdge t 0 ≤ e)) fun b =>
    match b.nextAccess t e with
    | none => b
    | some a =>
      { b with bus := { b.bus with
        waiting := b.bus.waiting.erase a, lastEdge := NMap.set b.bus.lastEdge t (e + 1) 0 } }.complete a x

end Sys2Proof.Machine
end

