-- ==== Sys2Proof/Machine/ConfigRead.lean ====
section
/-!
DEFINITION. The configuration read (R399) and the checks that the chapters assign to it.
Readings and choices: logs 45, 60, 64 of notes/assumptions.
-/

namespace Sys2Proof.Machine

/-! ## The checks after END -/

/-- Some two elements of a list are equal. -/
def repeated {α : Type} [DecidableEq α] : List α → Bool
  | [] => false
  | x :: l => l.contains x || repeated l

/-- Timebases (R35) and windows (R52). -/
def Blk.checkTbu (b : Blk) : Bool :=
  ((List.range 13).all fun k =>
    let n := k + 3
    (n == 3 || b.fld F.TB_CFG_KIND n != 3) && !(b.flag F.TB_CFG_QUAD n && b.fld F.TB_CFG_SRC_A n % 2 == 1)) &&
    (List.range 128).all fun w => b.fld F.WIN_CFG_GATE_KIND w != 3

/-- Ownership (R66) and reserved tiles (R124, and R254 for the GNSS host). -/
def Blk.checkTasks (b : Blk) : Bool :=
  !repeated (b.claims.map (·.1)) &&
    b.descTasks.all fun t =>
      !(b.flag F.HPC_CTRL_HOST 0 && decide (28 ≤ taskTile t)) &&
        !(b.flag F.GNSS_CTRL_HOST 0 && decide (24 ≤ taskTile t) && decide (taskTile t ≤ 27))

/-- The HPC (R129, R140, R144) and the coil temperature bands (R160). -/
def Blk.checkHpc (b : Blk) : Bool :=
  ((List.range 30).all fun k => k + 1 == 30 || !b.flag F.FN_CFG0_DEST (k + 1)) &&
    (([RegName.HPC_REF0, .HPC_REF1, .HPC_REF2, .HPC_REF3].all fun r => b.reg r 0 != 0) &&
      (((List.range 512).all fun i => decide (i % 32 = 0) || decide (30 < i % 32) ||
          decide ((b.reg .LIM_MIN i).toInt ≤ (b.reg .LIM_MAX i).toInt)) &&
        (decide (b.fld F.SOL_BAND_TH1 0 < b.fld F.SOL_BAND_TH2 0) &&
          decide (b.fld F.SOL_BAND_TH2 0 < b.fld F.SOL_BAND_TH3 0))))

/-- Camera streams (R213, R214). -/
def Blk.checkCam (b : Blk) : Bool :=
  ((List.range 48).all fun i => [0x12, 0x1E, 0x2A, 0x2B, 0x2C, 0x2D, 0x2E].contains (b.fld F.ST_CFG_DT i)) &&
    (List.range 12).all fun p => !repeated (((List.range 4).filter fun s => b.flag F.ST_CFG_EN (p * 4 + s)).map fun s =>
      (b.fld F.ST_CFG_VC (p * 4 + s), b.fld F.ST_CFG_DT (p * 4 + s)))

/-- Element (r, c) of R_s × R_sᵀ of sensor `s`, in 2^-60 (R241). -/
def Blk.calProduct (b : Blk) (s r c : Nat) : Int :=
  (List.range 3).foldl (fun acc k => acc + (b.reg .CAL_R (s * 9 + r * 3 + k)).toInt * (b.reg .CAL_R (s * 9 + c * 3 + k)).toInt) 0

/-- The calibration block of sensor `s` is a rotation within 0.001 (R241). -/
def Blk.calOk (b : Blk) (s : Nat) : Bool :=
  (List.range 9).all fun k =>
    let r := k / 3
    let c := k % 3
    let one : Int := if r = c then 2 ^ 60 else 0
    decide ((b.calProduct s r c - one).natAbs * 1000 ≤ 2 ^ 60)

/-- No integrator model in slot 7 of the HPC host (R244). -/
def Blk.slotSevenFree (b : Blk) : Bool :=
  !b.flag F.HPC_CTRL_HOST 0 ||
    (b.reg .MODEL_CFG 7 == 0 && !b.flag F.MODEL_STATUS_LOADED 7 && !b.flag F.MODEL_STATUS_PEND 7)

/-- The fusion array (R231, R232, R241, R244, MODEL_CFG). -/
def Blk.checkFus (b : Blk) : Bool :=
  let xMin := b.sfld F.FUS_GRID_CFG_X_MIN_CM 0
  let cut := b.sfld F.FUS_HEADER_CUT_X_CM 0
  let addr := b.fld F.FUS_GRID_HI_ADDR 0 * 2 ^ 32 + (b.reg .FUS_GRID_LO 0).toNat
  let nbuf := max 3 (b.fld F.FUS_GRID_CFG_NBUF 0)
  b.slotSevenFree && decide (xMin ≤ cut) && (decide (cut + 800 ≤ xMin + 2560) && (addr % 2 ^ 20 == 0 &&
    (decide (0x1000000000 ≤ addr) && (decide (addr + nbuf * 0x1100000 ≤ 0x1400000000) &&
      (((List.range 20).all fun s => b.calOk s) &&
        (List.range 8).all fun m => decide (b.fld F.MODEL_CFG_CH_FIRST m + b.fld F.MODEL_CFG_CH_N m ≤ 64))))))

/-- The streams of enabled entries of a stream table. -/
def Blk.streamsIn (b : Blk) (en num : Fld) (n : Nat) : List Nat :=
  ((List.range n).filter fun e => b.flag en e).map fun e => b.fld num e

/-- The fabric: streams (R316), presets (R302), transfer descriptors in use, that is with a word other than its reset value. -/
def Blk.checkFab (b : Blk) : Bool :=
  let tx := b.streamsIn F.STX_CFG_EN F.STX_CFG_STREAM 512
  !repeated tx && (!repeated (b.streamsIn F.SRX_CFG_EN F.SRX_CFG_STREAM 1024) &&
    ((b.descTasks.all fun t => (b.outEntries t (b.desc t)).all fun x => x.2.kind != 4 || tx.contains (x.2.id % 65536)) &&
      (decide (b.fld F.FAB_EQ_EQ_TH1 0 < b.fld F.FAB_EQ_EQ_TH2 0) &&
        (List.range 64).all fun d => b.fld F.XD_CFG_LEN d != 0 ||
          [RegName.XD_SRC_LO, .XD_SRC_HI, .XD_DST_LO, .XD_DST_HI, .XD_CFG].all fun r => b.reg r d == 0)))

/-- Units of a target (R354). -/
def targetUnits (t : Nat) : Nat :=
  if t < 32 then 65536 else if t < 34 then 0x1000000 / 64 else if t = 34 then 0x400000000 / 64
  else if t = 37 then 0x20000 / 4 else 0x10000 / 4

/-- Access-table entry `i` is sound, where it is in use (R355). -/
def Blk.entrySound (b : Blk) (i : Nat) : Bool :=
  let w := (b.reg .ACC_ENT0 i).toNat
  !w.testBit 31 || (decide (bitsOf w 0 10 ≤ bitsOf w 10 10) &&
    decide ((b.reg .ACC_ENT1 i).toNat ≤ (b.reg .ACC_ENT2 i).toNat) &&
    decide ((b.reg .ACC_ENT2 i).toNat < targetUnits (i / 64)))

/-- The valid entries of the tenant maps: port, pair and proxy ID (R358). -/
def Blk.tenants (b : Blk) : List (Nat × (Nat × Nat) × Nat) :=
  (List.range 512).filterMap fun i =>
    let w := (b.reg .ACC_TMAP i).toNat
    if w.testBit 31 then some (i / 64, (bitsOf w 22 9, bitsOf w 12 10), bitsOf w 0 10) else none

/-- The tenant maps (R358). -/
def Blk.checkTenants (b : Blk) : Bool :=
  let l := b.tenants
  (l.all fun x => decide (768 ≤ x.2.2) && decide (x.2.2 ≤ 1022)) && (!repeated (l.map fun x => (x.1, x.2.1)) &&
    l.all fun x => l.all fun y => (x.2.1 == y.2.1) == (x.2.2 == y.2.2))

/-- The access tables and the refusal ring (R355, R358, R364). -/
def Blk.checkAcc (b : Blk) : Bool :=
  ((List.range 3328).all fun i => b.entrySound i) && (b.checkTenants &&
    (b.logAddr % 64 == 0 && (decide (0x10000000 ≤ b.logAddr) && decide (b.logAddr + b.logN * 16 ≤ 0x11000000))))

/-- The yield map, the fleet link and the cooling zones. -/
def Blk.checkRest (b : Blk) : Bool :=
  b.flag F.YLD_ACC_MASS_MASK 0 && (b.flag F.YLD_ACC_AREA_MASK 0 && (b.reg .FLEET_ID 0 != 0 &&
    (b.reg .FLEET_ID 0 != 0xFFFFFFFF &&
      (List.range 12).all fun z => decide (b.fld F.TZ_CFG_T_LO z < b.fld F.TZ_CFG_T_HI z))))

/-- Every check that a chapter assigns to the configuration read holds (R399). -/
def Blk.configOk (b : Blk) : Bool :=
  b.checkTbu && (b.checkTasks && (b.checkHpc && (b.checkCam && (b.checkFus && (b.checkFab && (b.checkAcc && b.checkRest))))))

/-! ## Records (R399) -/

/-- A model image that stands in memory is loaded into slot `m`; false where the load is refused (R245, R399). -/
def Blk.bootModel (b : Blk) (m : Nat) : Blk × Bool :=
  let b := (b.setFld F.MODEL_STATUS_LOAD_REFUSED m 0).modelLoad m
  let b := if b.flag F.MODEL_STATUS_LOAD_REFUSED m then b else b.modelLoadComplete m
  (b, !b.flag F.MODEL_STATUS_LOAD_REFUSED m)

/-- The boot ROM writes word `v` at `a`; false where the write is refused, or a model load that it starts is (R399). -/
def Blk.bootWord (b : Blk) (a : Nat) (v : Word) : Blk × Bool :=
  match b.gate 560 .write a 32 with
  | some _ => (b, false)
  | none =>
    match if regionOf a = some .regs then regAt (a - regBase) else none with
    | some (.MODEL_CMD, m) => if F.MODEL_CMD_LOAD.get v = 1 then b.bootModel m else (b.writeAddr 560 a 32 (v.setWidth 128) .quiet, true)
    | _ => (b.writeAddr 560 a 32 (v.setWidth 128) .quiet, true)

/-- Words `l` go to consecutive addresses from `a`; false where one is refused, which ends them. -/
def Blk.bootWords (b : Blk) (a : Nat) : List Word → Blk × Bool
  | [] => (b, true)
  | v :: l =>
    match b.bootWord a v with
    | (b, false) => (b, false)
    | (b, true) => b.bootWords (a + 4) l

/-- The words of a byte string, the last one filled with zeros. -/
def wordsOf (l : List Byte) : List Word := (List.range ((l.length + 3) / 4)).map fun k => BitVec.ofNat 32 (leAt l (4 * k) 4)

/-- A PLACE record: the part of type `t` and index `i` of set `s` goes to `a`. -/
def Blk.bootPlace (b : Blk) (s : StoreSet) (t i a : Nat) : Blk × Bool :=
  match s.part t i with
  | none => (b, false)
  | some p =>
    match b.bootWords a (wordsOf p) with
    | (b, false) => (b, false)
    | (b, true) => if t = 5 then b.bootModel i else (b, true)

/-- The records of a configuration part from `l` on are applied in order, at most `n` of them, up to END; false where one is
malformed or refused, or END is missing. -/
def Blk.bootRecords (b : Blk) (s : StoreSet) (l : List Byte) : Nat → Blk × Bool
  | 0 => (b, false)
  | n + 1 =>
    let w0 := leAt l 0 4
    let a := leAt l 8 1 * 2 ^ 32 + leAt l 4 4
    let k := bitsOf w0 0 24
    let v := BitVec.ofNat 32 (leAt l 12 4)
    let kind := bitsOf w0 28 4
    let size := if kind = 0 then (4 * k + 15) / 16 * 16 else 0
    if kind = 3 ∧ 16 ≤ l.length then (b, true)
    else if l.length < 16 + size ∨ 3 ≤ kind ∨ a % 4 ≠ 0 then (b, false)
    else
      let done :=
        if kind = 0 then b.bootWords a (wordsOf ((l.drop 16).take (4 * k)))
        else if kind = 1 then b.bootWords a (List.replicate k v)
        else b.bootPlace s (bitsOf w0 8 8) (bitsOf w0 0 8) a
      if done.2 then done.1.bootRecords s (l.drop (16 + size)) n else done

/-- The configuration read of part `cfg` of set `s` (R399): the block as far as it came, and whether it was accepted. -/
def Blk.configRead (b : Blk) (s : StoreSet) (cfg : List Byte) : Blk × Bool :=
  if leAt cfg 4 4 ≠ cfg.length ∨ cfg.length < 64 then (b, false)
  else
    let r := b.bootRecords s (cfg.drop 64) (cfg.length / 16)
    (r.1, r.2 && r.1.configOk)

end Sys2Proof.Machine
end

