-- ==== Sys2Proof/Machine/Boot.lean ====
section
/-!
DEFINITION. The full start (R397, R398, R400, R408 to R412): OTP, the boot record, verification, Molt, the configuration read,
the self-test, the commit, revert and fallback.
Readings and choices: logs 34, 35, 43 to 45 of notes/assumptions.
-/

namespace Sys2Proof.Machine

/-- How steps 4 to 8 of a start fail: DETAIL, part, reason and self-test item of the record (R416). -/
structure StartFail where
  detail : Nat
  part   : Nat
  reason : Nat
  item   : Nat
deriving DecidableEq, Repr

/-! ## What a start finds (steps 1 and 2 of R397) -/

/-- The number that BOOT_OTP_GEN shows for field group `g`. -/
def otpGen (m : List Host.Cell) (g : Nat) : Nat := ((otpTop m g).map (·.1)).getD 7

/-- The registers that show OTP, and the companions' limp map (R191, R340, R401). IDENT holds the serial number in bytes 0 to 3
and the base MAC address in bytes 4 to 9. -/
def Blk.takeOtp (b : Blk) : Blk :=
  let b := ((b.setFld F.BOOT_OTP_GEN_IDENT 0 (otpGen b.otp 1)).setFld F.BOOT_OTP_GEN_TRIM 0 (otpGen b.otp 2)).setFld
    F.BOOT_OTP_GEN_ROOT 0 (otpGen b.otp 3) |>.setFld F.BOOT_OTP_GEN_LIMP_MAP 0 (otpGen b.otp 4)
  let id := ((otpTop b.otp 1).map (·.2)).getD []
  let b := (b.setReg .BOOT_SERIAL 0 (BitVec.ofNat 32 (leAt id 0 4))).setReg64 .BOOT_MAC_LO .BOOT_MAC_HI 0 (leAt id 4 6)
  let map := match otpTop b.otp 4 with
    | some (_, p) => (List.range 64).map fun k => leAt p (2 * k) 2
    | none => []
  { b with out := { b.out with limp := map } }

/-- A region whose pages with the numbers in `bad` fail their CRC. -/
def JRegion.tear (j : JRegion) (bad : List Nat) : JRegion :=
  { j with pages := j.pages.map fun p =>
    { p with torn := (p.torn ++ bad.filter fun n => decide (p.num ≤ n) && decide (n < p.num + p.count)).eraseDups } }

/-- Pages of a region that the start discards (R394). -/
def JRegion.torn (j : JRegion) : Nat := j.pages.foldl (fun acc p => acc + p.torn.length) 0

/-- The journal as the start finds it (R394). -/
def Blk.takeJournal (b : Blk) (torn : List (Fin 5 × Nat)) : Blk :=
  let of_ := fun (r : Nat) => (torn.filter fun x => x.1.val == r).map (·.2)
  let j := b.jrn
  let j : Journal :=
    ⟨j.ledger.tear (of_ 0), j.faults.tear (of_ 1), j.tiles.tear (of_ 2), j.fields.tear (of_ 3), j.checks.tear (of_ 4)⟩
  let n := j.ledger.torn + j.faults.torn + j.tiles.torn + j.fields.torn + j.checks.torn
  { b with jrn := j }.setFld F.BOOT_JRN_TORN 0 (min 65535 n)

/-- Every requested domain is ON (R377, R378). -/
def Blk.domainsUp (b : Blk) : Blk :=
  let b := (List.range 64).foldl (fun b d => if b.flag F.PD_CTRL_ON d then b.setFld F.PD_STATUS_STATE d 4 else b) b
  { b with pwr := { b.pwr with doms := [] } }

/-- What the loss of supply, or the wait for a NORMAL supply, leaves when reset is released (R11, R450). -/
def Blk.begin_ (b : Blk) : Blk :=
  match b.mod.phase with
  | .off => b.powerOff
  | .rising => b.restart
  | _ => b

/-- The supply has risen to `mv`, 3.0 V or more, and is not NORMAL yet (R14, R368, R434): AON and the companions have power, and
the compute side is in reset. -/
def Blk.rise (b : Blk) (mv : Nat) : Blk :=
  let b := b.powerOff
  { b with mod := { b.mod with phase := .rising, vbat := mv, vbatLow := mv } }.limpHomeEntry

/-- Reset is released, and what it finds is taken (steps 1 and 2); every companion is in limp-home until the compute side runs
(R192, R413). -/
def Blk.prepare (b : Blk) (x : StartIn) : Blk :=
  let b := b.begin_
  let b := { b with mod := { b.mod with phase := .released, vbat := x.mv, vbatLow := x.mv, recoverN := x.recoverN,
                                        holdStrap := x.hold } }
  let b := (b.setFld F.SYS_NODE_NODE 0 x.node.toNat).setFlag F.DBG_STATUS_HOLD_STRAP 0 x.hold
  (b.domainsUp.takeOtp.limpHomeEntry).takeJournal x.torn

/-! ## Chrysalis and failed starts (R398, R413) -/

/-- The module enters Chrysalis (R413): ETH5 runs as SLAVE. -/
def Blk.chrysalis (b : Blk) : Blk :=
  let b := (b.raise 560 0x12 0x08 (updData 0xFF false 0 0)).hold .chrysalis
  (b.setFld F.ETH_CTRL_EN 5 1).setFld F.ETH_CTRL_ROLE 5 0

/-- `n` ticks pass during a start (R33, R42, log 43); a companion that no link frame has reached for 50 ms finds its watchdog expired
(R192, R397). -/
def Blk.pass (b : Blk) (n : Nat) : Blk :=
  let b := [0, 1, 2].foldl (fun b k => b.setReg64 .TB_VALUE_LO .TB_VALUE_HI k ((b.tb k + 10 * n) % 2 ^ 64)) b
  (List.range 16).foldl Blk.watchdogExpiry b

/-- A failed start (R398), `n` ticks after its beginning: the compute side is held in reset. -/
def Blk.failedStart (b : Blk) (n : Nat) : Blk :=
  let b := b.pass n
  { b.hold .failedHold with boot := { b.boot with heldAt := b.tb1 } }

/-- FAILED_START_RESTART (R398): the hold of 1 s is over. -/
def Blk.failedStartRestart (b : Blk) : Blk :=
  b.when (b.aonRuns && decide (b.mod.phase = .failedHold) && decide (b.boot.heldAt + 1000000000 ≤ b.tb1)) Blk.restart

/-! ## A set is tried (steps 4 to 8) -/

/-- The entry of the configuration part in a manifest. -/
def StoreSet.cfgIndex (s : StoreSet) : Nat := ((partEntries s.manifest).findIdx? fun e => e.type == 8).getD 0xFF

/-- The journal entries of a region that Molt makes for an image (R411). -/
def JRegion.molted (j : JRegion) (img : List Byte) : List JEntry := j.all.filterMap (Config.moltEntry img)

/-- Molt of the journal (R411, R412): new entries under the trial SEQ; older ones stay. -/
def Blk.moltJournal (b : Blk) (img : List Byte) (seq : Nat) : Blk :=
  let put := fun (j : JRegion) => ((j.molted img).foldl (fun j e => j.append seq b.tb1 e) (j.flush b.runSeq)).flush seq
  { b with jrn := { b.jrn with fields := put b.jrn.fields, checks := put b.jrn.checks } }

/-- Molt of an Eclosion start (R411): the block and the configuration part in force; none where a version is too old. -/
def Blk.molt (b : Blk) (s : StoreSet) (img cfg : List Byte) : Option (Blk × List Byte) :=
  let v := Config.imageVersions img
  let ver := manifestCfgVer s.manifest
  if ver < v.1 ∨ (b.jrn.fields.all ++ b.jrn.checks.all).any (Config.entryTooOld img) then none
  else
    some (b.moltJournal img (manifestSeq s.manifest) |>.setFld F.BOOT_STATUS_MOLTED 0 1,
      if ver < v.2 then Config.moltConfig img cfg else cfg)

/-- The configuration version in use after a start (R411). -/
def cfgInUse (s : StoreSet) (img : List Byte) (ecl : Bool) : Nat :=
  let ver := manifestCfgVer s.manifest
  if ecl then max ver (Config.imageVersions img).2 else ver

/-- Steps 6 to 8 for the set `s` in the block `b`. -/
def Blk.tryConfig (b : Blk) (s : StoreSet) (ecl : Bool) (item : Option (Fin 6)) : Blk × Option StartFail :=
  let img := (s.part 1 0).getD []
  let cfg := (s.part 8 0).getD []
  let v := Config.imageVersions img
  let ver := manifestCfgVer s.manifest
  let m := if ecl then b.molt s img cfg else some (b, cfg)
  match m with
  | none => (b, some ⟨4, s.cfgIndex, 8, 0⟩)
  | some (b, cfg) =>
    if v.2 < ver ∨ (!ecl ∧ ver < v.1) then (b, some ⟨3, s.cfgIndex, 8, 0⟩)
    else
      match b.configRead s cfg with
      | (b, false) => (b, some ⟨3, s.cfgIndex, 3, 0⟩)
      | (b, true) =>
        let b := (b.setFld F.BOOT_CFG_VER_CURRENT 0 (cfgInUse s img ecl)).setFld F.BOOT_CFG_VER_LOWEST 0 v.1
        match ecl, item with
        | true, some i => (b, some ⟨5, 0xFF, 0x0A, i.val + 1⟩)
        | _, _ => (b, none)

/-- Steps 4 to 8 of R397 on set `k`; `ecl` is an Eclosion start. -/
def Blk.trySet (b : Blk) (k ecl : Bool) (item : Option (Fin 6)) : Blk × Option StartFail :=
  let s := b.boot.stored? k
  match verifyFault (otpRoot b.otp) s.manifest s.parts with
  | some (reason, part) => (b, some ⟨2, part, reason, 0⟩)
  | none => { b with boot := { b.boot with loaded := true } }.tryConfig s ecl item

/-! ## The commit (step 9, R400, R408) -/

/-- The running set and what the BOOT registers show of it; `kind` is START_KIND. -/
def Blk.showStart (b : Blk) (k : Bool) (kind : Nat) (r : BootRec) : Blk :=
  let b := ((b.setFlag F.BOOT_STATUS_SET 0 k).setFlag F.SYS_STATUS_IMAGE_SLOT 0 k).setFld F.BOOT_STATUS_START_KIND 0 kind
  let b := (b.setFld F.BOOT_STATUS_FAILS 0 r.fails).setFlag F.BOOT_STATUS_FALLBACK_V 0 ((r.set (!k)).state == 3)
  let b := (b.setReg .BOOT_SEQ 0 (BitVec.ofNat 32 (r.set k).seq)).setReg .BOOT_FB_SEQ 0 (BitVec.ofNat 32 (r.set (!k)).seq)
  let b := if (r.set (!k)).state = 1 then b.setReg .BOOT_UPD_SEQ 0 (BitVec.ofNat 32 (r.set (!k)).seq) else b
  b.setFld F.BOOT_START_MS_MS 0 (min 65535 (b.tb1 / 1000000))

/-- The channels have the owners that the configuration read fixed (R66). -/
def Blk.fixOwners (b : Blk) : Blk :=
  let l := b.claims.foldl (fun m c => NMap.set m c.1 (some c.2) none) ([] : NMap (Option Nat))
  { b with le := { b.le with owner := l } }

/-- Records held in AON act now (R386, R416). -/
def Blk.releaseRecs (b : Blk) : Blk :=
  let l := b.mod.heldRecs
  l.foldl Blk.raiseRec { b with mod := { b.mod with heldRecs := [] } }

/-- What happens on the tick on which CONFIG_DONE becomes 1 (R168, R400): slots arm, the companions take a link frame, asserted
trip inputs act, the ledger resumes, and a candidate knows itself as the best conductor (R322). -/
def Blk.goLive (b : Blk) : Blk :=
  let b := b.setFld F.TBU_STATUS_TB_VALID 0 b.validBits
  let b := b.enabledSlots.foldl Blk.armSlot b
  let b := (List.range 16).foldl Blk.linkFrame b
  let b := [(F.SOL_TRIP_IN_SEEN, F.SOL_TRIP_IN_LEVEL), (F.LSW_TRIP_IN_SEEN, F.LSW_TRIP_IN_LEVEL)].foldl
    (fun b f => b.setFld f.1 0 (b.fld f.1 0 ||| b.fld f.2 0)) b
  let b := (List.range 4).foldl (fun b t => if (b.fld F.SOL_TRIP_IN_LEVEL 0).testBit t then b.tripAct t else b) b
  let b := if b.flag F.HPC_CTRL_HOST 0 then b.seqKept else b
  (if b.yldRuns then b.ledgerBegin else b).updateBest

/-- Bytes of the manifest package of a set (R398, R404). -/
def StoreSet.bytes (s : StoreSet) : Nat :=
  (partEntries s.manifest).foldl (fun n e => max n (e.off + e.len)) (manifestBytes s.manifest + 256)

/-- The ticks that a start of kind `kind` into set `k` takes: as the operand gives, in a normal and an Eclosion start within R398. -/
def Blk.startTicks (b : Blk) (k : Bool) (kind n : Nat) : Nat :=
  let ns := 200000000 + 5 * (b.boot.stored? k).bytes + if kind = 1 then 3000000000 else 0
  if kind ≤ 1 then min n ((ns - b.tb1) / 10) else n

/-- Set `k` is GOOD and runs (R397, R400), `n` ticks after the beginning of the start. -/
def Blk.commitStart (b : Blk) (k : Bool) (kind n : Nat) : Blk :=
  let b := b.pass (b.startTicks k kind n)
  let r := b.boot.bootRec
  let b := b.showStart k kind r
  let b := b.fixOwners.writeBootRec { r.mark k 3 with fails := 0 }
  let b := { b with mod := { b.mod with phase := .running } }.setFld F.SYS_STATUS_CONFIG_DONE 0 1
  b.releaseRecs.goLive

/-! ## The procedure of R397 -/

/-- Pages of a region written under a SEQ are ignored (R410). -/
def JRegion.void (j : JRegion) (seq : Nat) : JRegion :=
  { j with pages := j.pages.map fun p => if p.setSeq = seq then { p with void := true } else p }

/-- Set `k` is BAD (R396, R410). -/
def Blk.markBad (b : Blk) (k : Bool) : Blk :=
  let r := b.boot.bootRec
  { b.writeBootRec (r.mark k 4) with jrn := b.jrn.each fun j => j.void (r.set k).seq }

/-- After a try on `b` that led to `t` and failed, everything is at its reset value again (R410), but AON keeps what the try put into
lower shared SRAM and the records and entries that it raised (R450), and the journal the pages that it wrote. -/
def Blk.undo (b t : Blk) : Blk :=
  { b with
    jrn := t.jrn
    mod := { b.mod with heldRecs := t.mod.heldRecs }
    yld := { b.yld with held := t.yld.held }
    free := t.free
    mem := b.mem.filter (fun c => decide (c.1 < 0x10000000)) ++ t.mem.filter (fun c => inAon c.1) ++
      b.mem.filter (fun c => decide (0x11000000 ≤ c.1)) }

/-- After a failed try of set `k` the next one begins with its record raised and `k` BAD, its journal pages set aside. -/
def Blk.failed (b t : Blk) (k : Bool) (f : StartFail) : Blk :=
  ((b.undo t).markBad k).raise 560 0x12 f.detail (updData f.part k f.reason f.item)

/-- The set that an Eclosion start tries: STAGED or TRIAL with TRIAL_N below 2, and newer than every GOOD set. -/
def BootRec.trial (r : BootRec) : Option Bool :=
  let fit := fun (k : Bool) =>
    let s := r.set k
    (s.state == 1 || (s.state == 2 && decide (s.trialN < 2))) && r.topGood.all fun g => decide (g < s.seq)
  match fit false, fit true with
  | true, true => some (decide (r.a.seq < r.b.seq))
  | true, false => some false
  | false, true => some true
  | false, false => none

/-- The start on GOOD sets: the one with the highest SEQ, then the other; `kind` is START_KIND of the first. -/
def Blk.startGood (b : Blk) (kind n : Nat) : Blk :=
  match b.boot.bootRec.best with
  | none => b.failedStart n
  | some k =>
    match b.trySet k false none with
    | (t, none) => t.commitStart k kind n
    | (t, some f) =>
      let b := (b.failed t k f).raise 560 0x12 0x07 (updData 0xFF k f.reason 0)
      if (b.boot.bootRec.set (!k)).state ≠ 3 then b.failedStart n
      else
        match b.trySet (!k) false none with
        | (t, none) => t.commitStart (!k) 3 n
        | (t, some f) =>
          ((b.undo t).raise 560 0x12 f.detail (updData f.part (!k) f.reason f.item)).failedStart n

/-- A TRIAL set that a power loss has cut short twice is BAD (R397). -/
def Blk.interrupted (b : Blk) (k : Bool) : Blk :=
  let s := b.boot.bootRec.set k
  b.when (s.state == 2 && decide (2 ≤ s.trialN)) fun b => (b.markBad k).raise 560 0x12 0x06 (updData 0xFF k 9 0)

/-- The procedure of R397 from step 3 on, in Eclosion or not. -/
def Blk.startSets (b : Blk) (item : Option (Fin 6)) (n : Nat) : Blk :=
  let b := (b.interrupted false).interrupted true
  let r := b.boot.bootRec
  match r.trial with
  | none => b.startGood 0 n
  | some k =>
    let s := r.set k
    let b := b.writeBootRec (r.setSet k { s with state := 2, trialN := s.trialN + 1 })
    match b.trySet k true item with
    | (t, none) => t.commitStart k 1 n
    | (t, some f) => ((b.failed t k f).raise 560 0x12 0x06 (updData 0xFF k f.reason f.item)).startGood 2 n

/-- A full start may begin: there is no supply, it is not NORMAL yet, or reset is released. -/
def Blk.inReset (b : Blk) : Bool :=
  decide (b.mod.phase = .off) || (decide (b.mod.phase = .rising) || decide (b.mod.phase = .released))

/-- FULL_START (R397): the boot procedure, from the release of reset with the supply NORMAL, in as many ticks as the operand gives; a
supply that has risen to less than that powers AON and the companions only (R368). -/
def Blk.fullStart (b : Blk) (x : StartIn) : Blk :=
  b.when (b.inReset && !b.frozen && decide (3000 ≤ x.mv)) fun b =>
    if x.mv < 6500 then (if b.mod.phase = .off then b.rise x.mv else b)
    else
      let b := b.prepare x
      let r := b.boot.bootRec
      if (otpTop b.otp 3).isNone ∨ !x.recoverN ∨ 3 ≤ r.fails then (b.pass x.ticks).chrysalis
      else (b.writeBootRec { r with fails := r.fails + 1 }).startSets x.item x.ticks

end Sys2Proof.Machine
end

