-- ==== Sys2Proof/Machine/BootRows.lean ====
section
/-!
DEFINITION. The meanings of the commands whose operations stand in Machine/Boot.lean, one for each row.
-/

namespace Sys2Proof.Machine

/-- FULL_START: Reset release runs the boot procedure through verification, load, configuration read and commit.
  (R397) -/
def execFullStart (x : StartIn) (s : State) : Host.Outcome State Fault Refusal :=
  s.run fun b => b.fullStart x

/-- FAILED_START_RESTART: After a failed start holds reset for 1 s a new full start begins. (R398) -/
def execFailedStartRestart (s : State) : Host.Outcome State Fault Refusal :=
  s.run fun b => b.failedStartRestart

end Sys2Proof.Machine
end

