-- ==== Sys2Proof/Machine/CamRows.lean ====
section
/-!
DEFINITION. The meanings of the commands whose operations stand in Machine/Cam.lean, one for each row.
-/

namespace Sys2Proof.Machine

/-- FRAME_START: A decoded Frame Start latches a pending address, applies parameters, matches a trigger capture and
  opens the frame. (R221) -/
def execFrameStart (p : Fin 12) (vc : BitVec 2) (fnum : BitVec 16) (h : Header) (s : State) :
    Host.Outcome State Fault Refusal :=
  s.run fun b => b.frameStart p.val vc.toNat fnum.toNat h

/-- FRAME_END: A Frame End closes the frame and writes its frame record. (R224) -/
def execFrameEnd (p : Fin 12) (vc : BitVec 2) (h : Header) (s : State) : Host.Outcome State Fault Refusal :=
  s.run fun b => b.frameEnd p.val vc.toNat h

/-- LONG_PACKET: A long packet is checked, corrected and written to its stream buffer or discarded. (R213) -/
def execLongPacket (p : Fin 12) (vc : BitVec 2) (dt : BitVec 6) (h : Header) (vals : List Nat) (crcOk : Bool) (lost : Bool) (s : State) :
    Host.Outcome State Fault Refusal :=
  s.run fun b => b.longPacket p.val vc.toNat dt.toNat h vals crcOk lost

/-- LINE_PACKET: A Line Start or Line End packet is accepted and ignored. (R213) -/
def execLinePacket (p : Fin 12) (vc : BitVec 2) (h : Header) (s : State) : Host.Outcome State Fault Refusal :=
  s.run fun b => b.linePacket p.val vc.toNat h

/-- STREAM_ADDRESS_COMMIT: A write of ST_COMMIT makes the shadow address pending, or late if too close to Frame Start.
  (R221) -/
def execStreamAddressCommit (p : Fin 12) (str : Fin 4) (late : Bool) (s : State) : Host.Outcome State Fault Refusal :=
  s.run fun b => b.live fun b => b.addressCommit p.val str.val late

/-- PARAMETER_COMMIT: A write of PS_COMMIT queues the shadow parameter set for frame n + 1 + DELAY, or is refused.
  (R218) -/
def execParameterCommit (p : Fin 12) (delay : Fin 4) (late : Bool) (s : State) : Host.Outcome State Fault Refusal :=
  s.run fun b => b.live fun b => b.paramCommit p.val delay.val late

/-- PIPELINE_ENABLE: A write of CAM_CTRL.EN = 1 enables the pipeline, or is refused while DRAINING. (R228) -/
def execPipelineEnable (p : Fin 12) (s : State) : Host.Outcome State Fault Refusal :=
  s.run fun b => b.live fun b => b.camEnable p.val

/-- PIPELINE_DISABLE: A write of CAM_CTRL.EN = 0 disables, drains or aborts the pipeline per DIS_MODE. (R228) -/
def execPipelineDisable (p : Fin 12) (s : State) : Host.Outcome State Fault Refusal :=
  s.run fun b => b.live fun b => b.camDisable p.val

/-- EXPOSURE_TRIGGER: An exposure trigger asserts CAM_TRIGp and captures the selected timebase. (R223) -/
def execExposureTrigger (p : Fin 12) (s : State) : Host.Outcome State Fault Refusal :=
  s.run fun b => b.live fun b => b.exposureTrigger p.val

/-- TRIGGER_PULSE_END: After WIDTH_US the CAM_TRIGp pulse ends. (R223) -/
def execTriggerPulseEnd (p : Fin 12) (s : State) : Host.Outcome State Fault Refusal :=
  s.run fun b => b.live fun b => b.pulseEnd p.val

/-- NO_FRAME: No primary Frame Start within TIMEOUT_MS of a trigger drops the capture and raises CAM_LATE. (R227) -/
def execNoFrame (p : Fin 12) (s : State) : Host.Outcome State Fault Refusal :=
  s.run fun b => b.noFrame p.val

/-- NO_END: No Frame End within TIMEOUT_MS closes the frame with LINE_COUNT and raises CAM_LATE. (R227) -/
def execNoEnd (p : Fin 12) (str : Fin 4) (s : State) : Host.Outcome State Fault Refusal :=
  s.run fun b => b.noEnd p.val str.val

/-- NO_START: No Frame Start for 4 × TIMEOUT_MS on an enabled stream raises CAM_LATE once. (R227) -/
def execNoStart (p : Fin 12) (str : Fin 4) (s : State) : Host.Outcome State Fault Refusal :=
  s.run fun b => b.noStart p.val str.val

/-- CCI_START: A write of CCI_CMD.START begins an I2C transfer unless BUSY. (R229) -/
def execCciStart (p : Fin 12) (cmd : Word) (s : State) : Host.Outcome State Fault Refusal :=
  s.run fun b => b.live fun b => b.cciStart p.val cmd

/-- CCI_DONE: An I2C transfer completes or ends on NACK, setting DONE and DONE_FCNT. (R229) -/
def execCciDone (p : Fin 12) (nack : Bool) (rx : List Byte) (s : State) : Host.Outcome State Fault Refusal :=
  s.run fun b => b.live fun b => b.cciDone p.val nack rx

/-- PHY_LOCK_CHANGE: The D-PHY clock lane of a pipeline enters or leaves high-speed state, including ultra-low-power
  entry and exit, and PHY_LOCK follows it. (R212) -/
def execPhyLockChange (p : Fin 12) (hs : Bool) (s : State) : Host.Outcome State Fault Refusal :=
  s.run fun b => b.live fun b => b.phyLock p.val hs

/-- SOT_SYNC_ERROR: A start-of-transmission sync error on a pipeline's data lanes is counted in SOT_ERR. (R225) -/
def execSotSyncError (p : Fin 12) (s : State) : Host.Outcome State Fault Refusal :=
  s.run fun b => b.sotError p.val

end Sys2Proof.Machine
end

