-- ==== Sys2Proof/Machine/CondRows.lean ====
section
/-!
DEFINITION. The meanings of the commands whose operations stand in Machine/Cond.lean, one for each row.
-/

namespace Sys2Proof.Machine

/-- BEACON: A BEACON updates the best conductor and parent. (R321) -/
def execBeaconPacket (p : Fin 8) (k : Packet) (pcrc : BitVec 16) (s : State) : Host.Outcome State Fault Refusal :=
  s.run fun b => b.beaconIn p.val k (pcrc == payloadCrc k)

/-- BEACON_SEND: Every 100 µs each UP port sends a BEACON. (R320) -/
def execBeaconSend (p : Fin 8) (s : State) : Host.Outcome State Fault Refusal :=
  s.run fun b => b.beaconSend p.val

/-- TOPO: A TOPO packet reaches the conductor with a node's port states. (R326) -/
def execTopoPacket (p : Fin 8) (k : Packet) (pcrc : BitVec 16) (s : State) : Host.Outcome State Fault Refusal :=
  s.run fun b => b.topoIn p.val k (pcrc == payloadCrc k)

/-- TOPO_SEND: A node sends TOPO to the conductor after a port state change or a change of conductor. (R326) -/
def execTopoSend (s : State) : Host.Outcome State Fault Refusal :=
  s.run fun b => b.topoSend

/-- ROUTE_COMPUTE: The conductor computes legal routes and sends ROUTE packets with a new epoch. (R327) -/
def execRouteCompute (s : State) : Host.Outcome State Fault Refusal :=
  s.run fun b => b.routeCompute

/-- ROUTE: A ROUTE chunk is received and used at once. (R327) -/
def execRoutePacket (p : Fin 8) (k : Packet) (pcrc : BitVec 16) (s : State) : Host.Outcome State Fault Refusal :=
  s.run fun b => b.routeIn p.val k (pcrc == payloadCrc k)

/-- TIME_SYNC: A SYNC sets the child's FT from the carried value plus link delay and is repeated downwards. (R336) -/
def execTimeSync (p : Fin 8) (k : Packet) (pcrc : BitVec 16) (s : State) : Host.Outcome State Fault Refusal :=
  s.run fun b => b.timeSync p.val k (pcrc == payloadCrc k)

/-- SYNC_SEND: Every 1 ms the conductor sends a SYNC to its children. (R336) -/
def execSyncSend (s : State) : Host.Outcome State Fault Refusal :=
  s.run fun b => b.syncSend

/-- DELAY_MEASURE: Every 10 ms a node sends a DELAY_REQ on its parent link. (R336) -/
def execDelayMeasure (t1 : Nat) (s : State) : Host.Outcome State Fault Refusal :=
  s.run fun b => b.delayMeasure t1

/-- DELAY_REQ: A DELAY_REQ is stamped and answered with a DELAY_RSP. (R336) -/
def execDelayReq (p : Fin 8) (k : Packet) (pcrc : BitVec 16) (t2 : Nat) (t3 : Nat) (s : State) :
    Host.Outcome State Fault Refusal :=
  s.run fun b => b.delayReq p.val k (pcrc == payloadCrc k) t2 t3

/-- DELAY_RSP: A DELAY_RSP yields the parent link delay. (R336) -/
def execDelayRsp (p : Fin 8) (k : Packet) (pcrc : BitVec 16) (t4 : Nat) (s : State) :
    Host.Outcome State Fault Refusal :=
  s.run fun b => b.delayRsp p.val k (pcrc == payloadCrc k) t4

/-- TB0_PAIR: A TB0 and FT pair from the GNSS host sets the node's TB0. (R337) -/
def execTb0Pair (p : Fin 8) (k : Packet) (pcrc : BitVec 16) (s : State) : Host.Outcome State Fault Refusal :=
  s.run fun b => b.tb0Pair p.val k (pcrc == payloadCrc k)

/-- TB0_PAIR_SEND: Every 10 ms the GNSS host sends a TB0 pair to every node. (R337) -/
def execTb0PairSend (s : State) : Host.Outcome State Fault Refusal :=
  s.run fun b => b.tb0PairSend

/-- TB0_PAIR_TIMEOUT: No pair within 100 ms makes a non-host node's TB0 not valid. (R337) -/
def execTb0PairTimeout (s : State) : Host.Outcome State Fault Refusal :=
  s.run fun b => b.tb0PairTimeout

/-- ROLE_TAKE: A TAKE asks the holder for the conductor role, answered with GRANT or REFUSE. (R323) -/
def execRoleTake (p : Fin 8) (k : Packet) (pcrc : BitVec 16) (s : State) : Host.Outcome State Fault Refusal :=
  s.run fun b => b.roleTake p.val k (pcrc == payloadCrc k)

/-- ROLE_GIVE: A GIVE offers a candidate the conductor role, answered with GRANT or REFUSE. (R323) -/
def execRoleGive (p : Fin 8) (k : Packet) (pcrc : BitVec 16) (s : State) : Host.Outcome State Fault Refusal :=
  s.run fun b => b.roleGive p.val k (pcrc == payloadCrc k)

/-- ROLE_GRANT: A GRANT transfers the conductor role. (R323) -/
def execRoleGrant (p : Fin 8) (k : Packet) (pcrc : BitVec 16) (s : State) : Host.Outcome State Fault Refusal :=
  s.run fun b => b.roleGrant p.val k (pcrc == payloadCrc k)

/-- ROLE_REFUSE: A REFUSE ends a role request with a reason. (R323) -/
def execRoleRefuse (p : Fin 8) (k : Packet) (pcrc : BitVec 16) (s : State) : Host.Outcome State Fault Refusal :=
  s.run fun b => b.roleRefuse p.val k (pcrc == payloadCrc k)

/-- ROLE_REQUEST: A write of FAB_ROLE.REQ sends a TAKE or GIVE to PEER. (R323) -/
def execRoleRequest (v : Word) (s : State) : Host.Outcome State Fault Refusal :=
  s.run fun b => b.live fun b => b.roleRequest v

/-- GIVE_TIMEOUT: No answer to a GIVE within 10 ms returns the role to the holder. (R323) -/
def execGiveTimeout (s : State) : Host.Outcome State Fault Refusal :=
  s.run fun b => b.giveTimeout

/-- ROLE_HOLDOFF_END: 500 ms after a collision the higher node may send role requests again. (R324) -/
def execRoleHoldoffEnd (peer : BitVec 9) (s : State) : Host.Outcome State Fault Refusal :=
  s.run fun b => b.roleHoldoffEnd peer.toNat

/-- ROLE_ELECTION: A candidate that has been its own best conductor for 20 ms takes the role. (R322) -/
def execRoleElection (s : State) : Host.Outcome State Fault Refusal :=
  s.run fun b => b.roleElection

/-- CONDUCTOR_LOST: A conductor sequence not advancing for 5 ms is treated as lost. (R322) -/
def execConductorLost (s : State) : Host.Outcome State Fault Refusal :=
  s.run fun b => b.conductorLost

end Sys2Proof.Machine
end

