-- ==== Sys2Proof/Machine/DbgRows.lean ====
section
/-!
DEFINITION. The meanings of the commands whose operations stand in Machine/Dbg.lean, one for each row.
-/

namespace Sys2Proof.Machine

/-- FREEZE_FLIT: A FREEZE flit with an unseen pair is forwarded on other UP ports and freezes the node. (R338) -/
def execFreezeFlit (p : Fin 8) (id : BitVec 16) (origin : BitVec 9) (crc : BitVec 16) (s : State) :
    Host.Outcome State Fault Refusal :=
  s.run fun b => b.freezeFlit p.val id.toNat origin.toNat (crc == controlCrc 3 (freezeBits id.toNat origin.toNat))

/-- TAP_RESET: TRST_N low resets every TAP to Test-Logic-Reset. (R441) -/
def execTapReset (s : State) : Host.Outcome State Fault Refusal :=
  s.run fun b => b.tapReset

/-- BYPASS: The TAP selects its 1-bit bypass register. (R442) -/
def execBypass (k : Fin 17) (ir : BitVec 88) (x : ScanIn) (s : State) : Host.Outcome State Fault Refusal :=
  s.run fun b => b.tapScan .bypass k.val ir x

/-- IDCODE: The TAP returns its 32-bit identification code. (R443) -/
def execIdcode (k : Fin 17) (ir : BitVec 88) (x : ScanIn) (s : State) : Host.Outcome State Fault Refusal :=
  s.run fun b => b.tapScan .idcode k.val ir x

/-- SAMPLE_PRELOAD: The boundary register samples pins or is preloaded without disturbing them. (R442) -/
def execSamplePreload (k : Fin 17) (ir : BitVec 88) (x : ScanIn) (s : State) : Host.Outcome State Fault Refusal :=
  s.run fun b => b.tapScan .samplePreload k.val ir x

/-- EXTEST: With FREEZE_HOLD the boundary register drives the pins. (R444) -/
def execExtest (k : Fin 17) (ir : BitVec 88) (x : ScanIn) (s : State) : Host.Outcome State Fault Refusal :=
  s.run fun b => b.tapScan .extest k.val ir x

/-- CLAMP: With FREEZE_HOLD pins hold preloaded values with bypass selected. (R444) -/
def execClamp (k : Fin 17) (ir : BitVec 88) (x : ScanIn) (s : State) : Host.Outcome State Fault Refusal :=
  s.run fun b => b.tapScan .clamp k.val ir x

/-- HIGHZ: With FREEZE_HOLD outputs go to high impedance. (R444) -/
def execHighz (k : Fin 17) (ir : BitVec 88) (x : ScanIn) (s : State) : Host.Outcome State Fault Refusal :=
  s.run fun b => b.tapScan .highz k.val ir x

/-- EXTEST_PULSE: AC-coupled pins are tested with pulses under IEEE 1149.6. (R442) -/
def execExtestPulse (k : Fin 17) (ir : BitVec 88) (x : ScanIn) (s : State) : Host.Outcome State Fault Refusal :=
  s.run fun b => b.tapScan .extestPulse k.val ir x

/-- EXTEST_TRAIN: AC-coupled pins are tested with pulse trains under IEEE 1149.6. (R442) -/
def execExtestTrain (k : Fin 17) (ir : BitVec 88) (x : ScanIn) (s : State) : Host.Outcome State Fault Refusal :=
  s.run fun b => b.tapScan .extestTrain k.val ir x

/-- DBG_ACCESS: Update-DR issues one 32-bit access as master 1023 and Capture-DR returns the previous result. (R448)
  -/
def execDbgAccess (ir : BitVec 88) (x : ScanIn) (s : State) : Host.Outcome State Fault Refusal :=
  s.run fun b => b.tapScan .dbgAccess 0 ir x

/-- FREEZE_PIN: FREEZE_N low for 5 ns starts a freeze as origin and sends a FREEZE flit. (R445) -/
def execFreezePin (high : Bool) (s : State) : Host.Outcome State Fault Refusal :=
  s.run fun b => b.freezePin high

/-- FREEZE_REGISTER: A write of DBG_CTRL.FREEZE by master 1023 starts a freeze as origin. (R445) -/
def execFreezeRegister (mid : BitVec 10) (s : State) : Host.Outcome State Fault Refusal :=
  s.run fun b => b.freezeRegister mid.toNat

/-- DBG_RESTART: A write of DBG_CTRL.RESTART while frozen starts a full start. (R447) -/
def execDbgRestart (s : State) : Host.Outcome State Fault Refusal :=
  s.run fun b => b.dbgRestart

end Sys2Proof.Machine
end

