-- ==== Sys2Proof/Machine/DomainRows.lean ====
section
/-!
DEFINITION. The meanings of the commands whose operations stand in Machine/Domain.lean, one for each row.
-/

namespace Sys2Proof.Machine

/-- DOMAIN_REQUEST: A write of PD_CTRL.ON = 1 queues an OFF domain. (R374) -/
def execDomainRequest (d : Fin 64) (s : State) : Host.Outcome State Fault Refusal :=
  s.run fun b => b.domainRequest d.val

/-- DOMAIN_OFF_REQUEST: A write of PD_CTRL.ON = 0 withdraws, stops or refuses the domain per pending work. (R379) -/
def execDomainOffRequest (d : Fin 64) (s : State) : Host.Outcome State Fault Refusal :=
  s.run fun b => b.domainOffRequest d.val

/-- DOMAIN_FORCE_OFF: A write of ON = 0 with FORCE = 1 ends pending work and stops the domain. (R380) -/
def execDomainForceOff (d : Fin 64) (err : Nat) (s : State) : Host.Outcome State Fault Refusal :=
  s.run fun b => b.domainForceOff d.val err

/-- DOMAIN_ADMIT: The wake sequencer admits the queue head when enough credits are free. (R376) -/
def execDomainAdmit (s : State) : Host.Outcome State Fault Refusal :=
  s.run fun b => b.domainAdmit

/-- RAMP_END: After the hold time the domain releases its credits and enters SETTLE. (R374) -/
def execRampEnd (d : Fin 64) (s : State) : Host.Outcome State Fault Refusal :=
  s.run fun b => b.rampEnd d.val

/-- SETTLE_END: After the ready time the domain is ON. (R374) -/
def execSettleEnd (d : Fin 64) (err : Nat) (s : State) : Host.Outcome State Fault Refusal :=
  s.run fun b => b.settleEnd d.val err

/-- DOMAIN_STOPPED: A STOPPING domain reaches OFF when its last admitted access completes. (R379) -/
def execDomainStopped (d : Fin 64) (s : State) : Host.Outcome State Fault Refusal :=
  s.run fun b => b.domainStopped d.val

end Sys2Proof.Machine
end

