-- ==== Sys2Proof/Machine/FabRows.lean ====
section
/-!
DEFINITION. The meanings of the commands whose operations stand in Machine/Fab.lean, one for each row.
-/

namespace Sys2Proof.Machine

/-- FAULT_RECORD_SEND: A held fault record is sent on VC3 to the conductor once a conductor is known and the supply
  state is NORMAL. (R26) -/
def execFaultRecordSend (s : State) : Host.Outcome State Fault Refusal :=
  s.run fun b => b.faultRecordSend

/-- TRAINING_ATTEMPT: Every 1 ms a DOWN port attempts training. (R301) -/
def execTrainingAttempt (p : Fin 8) (s : State) : Host.Outcome State Fault Refusal :=
  s.run fun b => b.trainingAttempt p.val

/-- LINK_UP: Block lock, deskew and 10 µs of TRAIN flits bring the port UP. (R301) -/
def execLinkUp (p : Fin 8) (s : State) : Host.Outcome State Fault Refusal :=
  s.run fun b => b.linkUp p.val

/-- LINK_DOWN: Loss of signal or sync errors take an UP port DOWN with a LINK_DOWN record. (R301) -/
def execLinkDown (p : Fin 8) (sync : Nat) (s : State) : Host.Outcome State Fault Refusal :=
  s.run fun b => b.linkDown p.val sync

/-- TRAIN_FLIT: A TRAIN control flit is received, detecting a duplicate node address. (R301) -/
def execTrainFlit (p : Fin 8) (sport : Fin 8) (snode : BitVec 9) (marker : BitVec 4) (preset : BitVec 2) (crc : BitVec 16) (s : State) :
    Host.Outcome State Fault Refusal :=
  s.run fun b => b.trainFlit p.val sport.val snode.toNat (crc == controlCrc 2 (trainBits sport.val snode.toNat marker.toNat preset.toNat))

/-- CREDIT_FLIT: A CREDIT control flit returns credits per class to the egress port. (R311) -/
def execCreditFlit (p : Fin 8) (n : List Nat) (crc : BitVec 16) (s : State) : Host.Outcome State Fault Refusal :=
  s.run fun b => b.creditFlit p.val n (crc == controlCrc 1 (creditBits n))

/-- CREDIT_SEND: A CREDIT flit is sent once 8 credits of a class are pending or the oldest has waited 26 ns. (R311) -/
def execCreditSend (p : Fin 8) (s : State) : Host.Outcome State Fault Refusal :=
  s.run fun b => b.creditSend p.val

/-- IDLE_FLIT: An IDLE control flit is received and has no effect. (R308) -/
def execIdleFlit (p : Fin 8) (sync : BitVec 2) (s : State) : Host.Outcome State Fault Refusal :=
  s.run fun b => b.idleFlit p.val sync

/-- PACKET_FORWARD: A router checks a header and forwards it with credit, or discards it. (R313) -/
def execPacketForward (e : Fin 8) (arr : Option (Fin 8 × Packet × BitVec 16 × BitVec 16)) (s : State) :
    Host.Outcome State Fault Refusal :=
  s.run fun b => b.packetForward e.val (arr.map fun x => (x.1, x.2.1, x.2.2.1 == headerCrc x.2.1 x.2.2.2, x.2.2.2))

/-- RD_REQ: A read request reaches its destination and is issued under a proxy master ID. (R315) -/
def execRdReq (p : Fin 8) (k : Packet) (pcrc : BitVec 16) (edge : Nat) (s : State) :
    Host.Outcome State Fault Refusal :=
  s.run fun b => b.rdReq p.val k (pcrc == payloadCrc k) edge

/-- RD_RSP: A read response returns to its requesting master. (R306) -/
def execRdRsp (p : Fin 8) (k : Packet) (pcrc : BitVec 16) (s : State) : Host.Outcome State Fault Refusal :=
  s.run fun b => b.rdRsp p.val k (pcrc == payloadCrc k)

/-- WR_REQ: A write request reaches its destination and is issued under a proxy master ID. (R315) -/
def execWrReq (p : Fin 8) (k : Packet) (pcrc : BitVec 16) (edge : Nat) (s : State) :
    Host.Outcome State Fault Refusal :=
  s.run fun b => b.wrReq p.val k (pcrc == payloadCrc k) edge

/-- WR_RSP: A write response returns to its requesting master. (R306) -/
def execWrRsp (p : Fin 8) (k : Packet) (pcrc : BitVec 16) (s : State) : Host.Outcome State Fault Refusal :=
  s.run fun b => b.wrRsp p.val k (pcrc == payloadCrc k)

/-- STREAM: A STREAM packet is delivered through its receive entry or discarded. (R317) -/
def execStreamPacket (p : Fin 8) (k : Packet) (pcrc : BitVec 16) (s : State) : Host.Outcome State Fault Refusal :=
  s.run fun b => b.streamIn p.val k (pcrc == payloadCrc k)

/-- FAULT: A FAULT packet is coalesced on its way and appended to the conductor's log. (R330) -/
def execFaultPacket (p : Fin 8) (k : Packet) (pcrc : BitVec 16) (s : State) : Host.Outcome State Fault Refusal :=
  s.run fun b => b.faultIn p.val k (pcrc == payloadCrc k)

/-- CONTRIB: A CONTRIB packet at the grid node becomes an observation of a remote sensor. (R319) -/
def execContribPacket (p : Fin 8) (k : Packet) (pcrc : BitVec 16) (s : State) : Host.Outcome State Fault Refusal :=
  s.run fun b => b.contribIn p.val k (pcrc == payloadCrc k)

/-- REMOTE_REQUEST_SEND: A remote request leaves once one of the master's 64 tags is free. (R314) -/
def execRemoteRequestSend (x : Option (Fin 64)) (s : State) : Host.Outcome State Fault Refusal :=
  s.run fun b => b.remoteRequestSend (x.map (·.val))

/-- RESPONSE_TIMEOUT: A remote request without response after RSP_TO_US completes with NAK_TIMEOUT. (R314) -/
def execResponseTimeout (mid : BitVec 10) (tag : BitVec 6) (s : State) : Host.Outcome State Fault Refusal :=
  s.run fun b => b.responseTimeout mid.toNat tag.toNat

/-- COALESCE_WINDOW_END: At the end of a 1 ms window a summary record is emitted if records were counted. (R331) -/
def execCoalesceWindowEnd (p : Fin 9) (s : State) : Host.Outcome State Fault Refusal :=
  s.run fun b => b.live fun b => b.coalesceEnd p.val

/-- CRC_EPISODE_END: A CRC error episode ends after 100 ms without errors. (R307) -/
def execCrcEpisodeEnd (p : Fin 8) (s : State) : Host.Outcome State Fault Refusal :=
  s.run fun b => b.live fun b => b.crcEpisodeEnd p.val

/-- TRANSFER_START: A KIND 5 trigger or XD_CTRL.GO starts a transfer descriptor, or is dropped while BUSY. (R318) -/
def execTransferStart (x : Fin 64) (go : Bool) (s : State) : Host.Outcome State Fault Refusal :=
  s.run fun b => b.transferStart x.val go

/-- TRANSFER_DONE: All responses of a transfer have returned and DONE and LAST_STATUS are set. (R318) -/
def execTransferDone (x : Fin 64) (s : State) : Host.Outcome State Fault Refusal :=
  s.run fun b => b.live fun b => b.transferDone x.val

/-- PORT_ENABLE: A write of PORT_CTRL.EN = 1 starts training. (R334) -/
def execPortEnable (p : Fin 8) (s : State) : Host.Outcome State Fault Refusal :=
  s.run fun b => b.live fun b => b.portEnable p.val

/-- PORT_DISABLE: A write of PORT_CTRL.EN = 0 cuts the port and answers its requests with NAK_PORT_DOWN. (R334) -/
def execPortDisable (p : Fin 8) (s : State) : Host.Outcome State Fault Refusal :=
  s.run fun b => b.live fun b => b.portDisable p.val

end Sys2Proof.Machine
end

