-- ==== Sys2Proof/Machine/FleetRows.lean ====
section
/-!
DEFINITION. The meanings of the commands whose operations stand in Machine/Fleet.lean, one for each row.
-/

namespace Sys2Proof.Machine

/-- FLEET_TAKE: A fleet ROLE TAKE asks the receiver to become follower. (R349) -/
def execFleetTake (d : List Byte) (s : State) : Host.Outcome State Fault Refusal :=
  s.run fun b => b.fleetTake d

/-- FLEET_GIVE: A fleet ROLE GIVE offers the receiver the leader role. (R349) -/
def execFleetGive (d : List Byte) (s : State) : Host.Outcome State Fault Refusal :=
  s.run fun b => b.fleetGive d

/-- FLEET_GRANT: A fleet ROLE GRANT sets the requester's role on receipt. (R349) -/
def execFleetGrant (d : List Byte) (s : State) : Host.Outcome State Fault Refusal :=
  s.run fun b => b.fleetGrant d

/-- FLEET_REFUSE: A fleet ROLE REFUSE ends the request. (R349) -/
def execFleetRefuse (d : List Byte) (s : State) : Host.Outcome State Fault Refusal :=
  s.run fun b => b.fleetRefuse d

/-- FLEET_ROLE_REQUEST: A write of FLEET_ROLE.REQ sends a TAKE or GIVE to FLEET_PEER. (R349) -/
def execFleetRoleRequest (v : Word) (s : State) : Host.Outcome State Fault Refusal :=
  s.run fun b => b.live fun b => b.fleetRoleRequest v

/-- FLEET_ROLE_TIMEOUT: A fleet role request without answer within 1 s counts as refused. (R349) -/
def execFleetRoleTimeout (s : State) : Host.Outcome State Fault Refusal :=
  s.run fun b => b.fleetRoleTimeout

/-- FLEET_HOLDOFF_END: 500 ms after a fleet collision the higher-ID node may send ROLE again. (R350) -/
def execFleetHoldoffEnd (peer : BitVec 32) (s : State) : Host.Outcome State Fault Refusal :=
  s.run fun b => b.fleetHoldoffEnd peer.toNat

/-- STATE_SEND: Every STATE_S seconds a STATE datagram is sent. (R348) -/
def execStateSend (fill : BitVec 16) (s : State) : Host.Outcome State Fault Refusal :=
  s.run fun b => b.stateSend fill

/-- UNLOAD: An UNLOAD message from the peer updates the coordination state. (R351) -/
def execUnloadMessage (d : List Byte) (s : State) : Host.Outcome State Fault Refusal :=
  s.run fun b => b.unloadIn d

/-- UNLOAD_SEND: Every 100 ms while paired an UNLOAD message is sent. (R348) -/
def execUnloadSend (lat : Word) (lon : Word) (fill : BitVec 16) (along : Int) (across : Int) (s : State) :
    Host.Outcome State Fault Refusal :=
  s.run fun b => b.unloadSend lat lon fill along across

/-- UNLOAD_READY: Follower errors within tolerance for 1 s move the state to READY. (R351) -/
def execUnloadReady (s : State) : Host.Outcome State Fault Refusal :=
  s.run fun b => b.unloadReady

/-- UNLOAD_LOST: No UNLOAD message for 500 ms moves the state to LOST. (R351) -/
def execUnloadLost (s : State) : Host.Outcome State Fault Refusal :=
  s.run fun b => b.unloadLost

/-- FLEET_UNPAIR: A write of FLEET_CTRL.UNPAIR returns the state to IDLE. (R351) -/
def execFleetUnpair (s : State) : Host.Outcome State Fault Refusal :=
  s.run fun b => b.live fun b => b.fleetUnpair

/-- RTK: An RTK datagram is handed to the GNSS host and relayed to the follower. (R352) -/
def execRtkDatagram (d : List Byte) (s : State) : Host.Outcome State Fault Refusal :=
  s.run fun b => b.rtkIn d

/-- LEDGER_SEND: LEDGER datagrams are sent from YLD_ACK + 1 with up to 4 unacknowledged. (R353) -/
def execLedgerSend (s : State) : Host.Outcome State Fault Refusal :=
  s.run fun b => b.ledgerSend

/-- LEDGER_ACK: A LEDGER_ACK raises YLD_ACK if within range, otherwise is discarded. (R353) -/
def execLedgerAck (d : List Byte) (s : State) : Host.Outcome State Fault Refusal :=
  s.run fun b => b.ledgerAck d

/-- LEDGER_RESEND_TIMEOUT: No ACK raising YLD_ACK for 5 s restarts sending from YLD_ACK + 1. (R353) -/
def execLedgerResendTimeout (s : State) : Host.Outcome State Fault Refusal :=
  s.run fun b => b.ledgerResend

/-- FLEET_DISABLE: A write of FLEET_CTRL.EN = 0 stops sending and sets the state to IDLE. (R353) -/
def execFleetDisable (s : State) : Host.Outcome State Fault Refusal :=
  s.run fun b => b.live fun b => b.fleetDisable

end Sys2Proof.Machine
end

