-- ==== Sys2Proof/Machine/FusRows.lean ====
section
/-!
DEFINITION. The meanings of the commands whose operations stand in Machine/Fus.lean, one for each row.
-/

namespace Sys2Proof.Machine

/-- POSE_UPDATE: Every 250 µs the fusion array integrates its sources into a new pose. (R236) -/
def execPoseUpdate (pose : Pose) (fed : BitVec 3) (s : State) : Host.Outcome State Fault Refusal :=
  s.run fun b => b.poseUpdate pose fed

/-- EPOCH: At each epoch the grid node moves, decays, fuses, checks, bins and publishes the grid. (R238) -/
def execEpoch (head : List HeadOut) (s : State) : Host.Outcome State Fault Refusal :=
  s.run fun b => b.runEpoch head

/-- SENSOR_DROPPED: An enabled sensor without accepted input for DROP_MS counts as dropped. (R247) -/
def execSensorDropped (sen : Fin 31) (s : State) : Host.Outcome State Fault Refusal :=
  s.run fun b => b.sensorDropped sen.val

/-- EPOCH_ABANDON: An epoch not published by T_EPOCH + EPOCH_MS is abandoned and OVR set. (R240) -/
def execEpochAbandon (s : State) : Host.Outcome State Fault Refusal :=
  s.run fun b => b.epochAbandon

/-- MODEL_LOAD: A write of MODEL_CMD.LOAD copies a model image into the spare weight area or is refused. (R245) -/
def execModelLoad (m : Fin 8) (s : State) : Host.Outcome State Fault Refusal :=
  s.run fun b => b.live fun b => b.modelLoad m.val

/-- FRAME_INFERENCE: An ENCODER or IMAGE_RESULT slot runs on a DONE unmarked primary frame and writes its output.
  (R244) -/
def execFrameInference (m : Fin 8) (p : Fin 12) (feats : List Feature) (words : List Int) (s : State) :
    Host.Outcome State Fault Refusal :=
  s.run fun b => b.frameInference m.val p.val feats words

/-- POINT_PACKET: A range-sensor point packet arrives and is accepted as observations or discarded. (R246) -/
def execPointPacket (e : Fin 6) (port : BitVec 16) (data : List Byte) (s : State) :
    Host.Outcome State Fault Refusal :=
  s.run fun b => b.pointPacket e.val port.toNat data

/-- FUSION_ENABLE: A write of FUS_CTRL.EN = 1 starts from an empty grid, or is refused while DRAINING. (R250) -/
def execFusionEnable (s : State) : Host.Outcome State Fault Refusal :=
  s.run fun b => b.live fun b => b.fusionEnable

/-- FUSION_DISABLE: A write of FUS_CTRL.EN = 0 drains the epoch in progress and then disables the fusion array. (R250)
  -/
def execFusionDisable (s : State) : Host.Outcome State Fault Refusal :=
  s.run fun b => b.live fun b => b.fusionDisable

/-- MODEL_LOAD_COMPLETE: The copy of a model image into the spare weight area finishes, and the digest and header
  checks either refuse the load or leave it awaiting the switch at the next epoch. (R245) -/
def execModelLoadComplete (m : Fin 8) (s : State) : Host.Outcome State Fault Refusal :=
  s.run fun b => b.modelLoadComplete m.val

end Sys2Proof.Machine
end

