-- ==== Sys2Proof/Machine/GnssRows.lean ====
section
/-!
DEFINITION. The meanings of the commands whose operations stand in Machine/Gnss.lean, one for each row.
-/

namespace Sys2Proof.Machine

/-- CHANNEL_ASSIGN: A tracking channel is assigned to an antenna, signal and satellite and enters ACQ. (R257) -/
def execChannelAssign (ch : Fin 384) (cands : List Candidate) (s : State) : Host.Outcome State Fault Refusal :=
  s.run fun b => b.channelAssign ch.val cands

/-- CHANNEL_RELEASE: A channel whose satellite has set 2° below the mask returns to IDLE. (R257) -/
def execChannelRelease (ch : Fin 384) (elev : Int) (s : State) : Host.Outcome State Fault Refusal :=
  s.run fun b => b.channelRelease ch.val elev

/-- CORRELATOR_DUMP: Every 1 ms a channel delivers I and Q of its taps, triggering its tracking task. (R258) -/
def execCorrelatorDump (ch : Fin 384) (iq : List (Int × Int)) (cn0 : BitVec 8) (doppler : Int) (aid : Int) (osc : Option (Nat × Int)) (s : State) :
    Host.Outcome State Fault Refusal :=
  s.run fun b => b.correlatorDump ch.val iq cn0.toNat doppler aid osc

/-- SIGNAL_FOUND: Acquisition finds the signal and the channel enters PULL_IN. (R260) -/
def execSignalFound (ch : Fin 384) (code : Nat) (doppler : Int) (pred : Int) (s : State) :
    Host.Outcome State Fault Refusal :=
  s.run fun b => b.signalFound ch.val code doppler pred

/-- PULL_IN_LOCK: Phase lock held 100 ms moves the channel to TRACK. (R260) -/
def execPullInLock (ch : Fin 384) (since : Nat) (s : State) : Host.Outcome State Fault Refusal :=
  s.run fun b => b.pullInLock ch.val since

/-- PULL_IN_TIMEOUT: No lock within 2 s returns the channel to ACQ. (R260) -/
def execPullInTimeout (ch : Fin 384) (s : State) : Host.Outcome State Fault Refusal :=
  s.run fun b => b.pullInTimeout ch.val

/-- COAST_ENTRY: C/N0 below CN0_LOSS for 20 ms moves the channel to COAST. (R260) -/
def execCoastEntry (ch : Fin 384) (since : Nat) (sigV : Nat) (sigA : Nat) (s : State) :
    Host.Outcome State Fault Refusal :=
  s.run fun b => b.coastEntry ch.val since sigV sigA

/-- COAST_EXIT: C/N0 recovered for 20 ms returns the channel to TRACK with the predicted phase-error check. (R261) -/
def execCoastExit (ch : Fin 384) (since : Nat) (s : State) : Host.Outcome State Fault Refusal :=
  s.run fun b => b.coastExit ch.val since

/-- COAST_TIMEOUT: A coast beyond its limit returns the channel to ACQ and increments SLIPS. (R260) -/
def execCoastTimeout (ch : Fin 384) (s : State) : Host.Outcome State Fault Refusal :=
  s.run fun b => b.coastTimeout ch.val

/-- SPECTRUM_SCAN: Every 100 ms each band's spectrum engages notches and detects a full notch episode. (R263) -/
def execSpectrumScan (ant : Bool) (band : Fin 3) (lines : List SpecLine) (s : State) :
    Host.Outcome State Fault Refusal :=
  s.run fun b => b.spectrumScan ant band.val lines

/-- NOTCH_RELEASE: A notch releases when its line has stood low for 1 s. (R263) -/
def execNotchRelease (ant : Bool) (band : Fin 3) (k : Fin 8) (s : State) : Host.Outcome State Fault Refusal :=
  s.run fun b => b.notchRelease ant band.val k.val

/-- JAM_EVALUATION: Every 100 ms AGC and flatness are evaluated and jamming episodes start or end. (R264) -/
def execJamEvaluation (ant : Bool) (band : Fin 3) (agc : Int) (sf : BitVec 8) (s : State) :
    Host.Outcome State Fault Refusal :=
  s.run fun b => b.jamEvaluation ant band.val agc sf.toNat

/-- NAV_SOLUTION: Every 10 ms the solver computes and publishes a navigation record. (R266) -/
def execNavSolution (x : Solution) (s : State) : Host.Outcome State Fault Refusal :=
  s.run fun b => b.navSolution x

/-- NAV_SNAP: A write to GNSS_NAV_SNAP copies the latest navigation record into GNSS_NAV0–15. (R266) -/
def execNavSnap (s : State) : Host.Outcome State Fault Refusal :=
  s.run fun b => b.live fun b => b.navSnap

/-- RTCM_FRAME: An RTCM frame arrives and is accepted or discarded. (R270) -/
def execRtcmFrame (frame : List Byte) (s : State) : Host.Outcome State Fault Refusal :=
  s.run fun b => b.rtcmFrame frame

/-- CORRECTION_EPOCH_CLOSE: A correction epoch closes on a final MSM or 200 ms after its first message. (R271) -/
def execCorrectionEpochClose (s : State) : Host.Outcome State Fault Refusal :=
  s.run fun b => b.correctionClose

/-- TIME_LOCK: A timing error of 50 ns or less held 10 s moves TIME_STATE to LOCKED and TB0 takes GNSS time. (R273) -/
def execTimeLock (since : Nat) (gnss : Nat) (s : State) : Host.Outcome State Fault Refusal :=
  s.run fun b => b.timeLock since gnss

/-- HOLDOVER_ENTRY: Loss of the timing solution moves TB0 into HOLDOVER with a GNSS_HOLDOVER ENTERED record. (R274) -/
def execHoldoverEntry (err : Nat) (s : State) : Host.Outcome State Fault Refusal :=
  s.run fun b => b.holdoverEntry err

/-- HOLDOVER_LIMIT: Holdover error or duration beyond its limit makes TB0 not valid and raises LIMIT. (R274) -/
def execHoldoverLimit (err : Nat) (s : State) : Host.Outcome State Fault Refusal :=
  s.run fun b => b.holdoverLimit err

/-- LOCK_RETURN: Lock returns in holdover and TB0 is slewed, stepped forward or held with a TIME_RESET. (R275) -/
def execLockReturn (gnss : Nat) (s : State) : Host.Outcome State Fault Refusal :=
  s.run fun b => b.lockReturn gnss

/-- PPS_SECOND: At each whole second of TB0 PPS_OUT is released when driven. (R277) -/
def execPpsSecond (s : State) : Host.Outcome State Fault Refusal :=
  s.run fun b => b.ppsSecond

/-- PPS_WIDTH_END: WIDTH_MS after the second PPS_OUT is held low. (R277) -/
def execPpsWidthEnd (s : State) : Host.Outcome State Fault Refusal :=
  s.run fun b => b.ppsWidthEnd

/-- NMEA_OUTPUT: At each output epoch the host sends one NMEA datagram. (R279) -/
def execNmeaOutput (s : State) : Host.Outcome State Fault Refusal :=
  s.run fun b => b.nmeaOutput

/-- GNSS_ENABLE: A write of GNSS_CTRL.EN = 1 starts every channel in ACQ. (R281) -/
def execGnssEnable (s : State) : Host.Outcome State Fault Refusal :=
  s.run fun b => b.live fun b => b.gnssEnable

/-- GNSS_DISABLE: A write of GNSS_CTRL.EN = 0 stops channels, solution and NMEA and puts TB0 in holdover. (R281) -/
def execGnssDisable (err : Nat) (s : State) : Host.Outcome State Fault Refusal :=
  s.run fun b => b.live fun b => b.gnssDisable err

/-- ANTENNA_BIAS_FAULT: An antenna bias current moves below 5 mA or above 100 mA, or back within that range, and
  ANT_A_FLT or ANT_B_FLT follows it. (R432) -/
def execAntennaBiasFault (ant : Bool) (ua : Nat) (s : State) : Host.Outcome State Fault Refusal :=
  s.run fun b => b.antennaBias ant ua

end Sys2Proof.Machine
end

