-- ==== Sys2Proof/Machine/HouseRows.lean ====
section
/-!
DEFINITION. The meanings of the commands whose operations stand in Machine/House.lean, one for each row.
-/

namespace Sys2Proof.Machine

/-- HOUSEKEEPING_ROUND: Every 10 ms of TB1 the housekeeping controller reads channels 0–127 and thermal protection,
  throttle and cooling act. (R210) -/
def execHousekeepingRound (x : List (Int × Bool)) (energy : BitVec 16) (s : State) :
    Host.Outcome State Fault Refusal :=
  s.run fun b => b.housekeeping x energy.toNat

/-- REDUCTION_END: A reduction episode ends when K has stood at 1000 for 10 s. (R385) -/
def execReductionEnd (s : State) : Host.Outcome State Fault Refusal :=
  s.run fun b => b.reductionEnd

/-- SHUTDOWN_RESTART: After every die reading has been below 120 °C for 10 s the housekeeping controller starts a full
  start. (R386) -/
def execShutdownRestart (s : State) : Host.Outcome State Fault Refusal :=
  s.run fun b => b.shutdownRestart

/-- COOL_HOST_WRITE: A write of COOL_HOST sets a host demand and clears HOST_SILENT. (R391) -/
def execCoolHostWrite (f : Fin 10) (v : BitVec 10) (s : State) : Host.Outcome State Fault Refusal :=
  s.run fun b => b.live fun b => b.coolHostWrite f.val v.toNat

/-- HOST_SILENT: No COOL_HOST write for HOST_WD_MS holds host demands and raises HOST_SILENT. (R391) -/
def execHostSilent (s : State) : Host.Outcome State Fault Refusal :=
  s.run fun b => b.hostSilent

/-- COOL_FAULT: An output at 30 % duty or more below MIN_RPM for 3 s sets FAULT and raises COOL_FAULT. (R392) -/
def execCoolFault (f : Fin 10) (s : State) : Host.Outcome State Fault Refusal :=
  s.run fun b => b.coolFault f.val

/-- COOL_FAULT_CLEAR: FAULT clears after the speed has been at or above MIN_RPM for 3 s. (R392) -/
def execCoolFaultClear (f : Fin 10) (s : State) : Host.Outcome State Fault Refusal :=
  s.run fun b => b.coolFaultClear f.val

end Sys2Proof.Machine
end

