-- ==== Sys2Proof/Machine/HpcRows.lean ====
section
/-!
DEFINITION. The meanings of the commands whose operations stand in Machine/Hpc.lean, one for each row.
-/

namespace Sys2Proof.Machine

/-- CONTROL_ROUND: Every 20 ms the HPC snapshots inputs, applies modes, anticipates, arbitrates and writes changed
  targets. (R126) -/
def execControlRound (x : RoundInputs) (late : Option Nat) (s : State) : Host.Outcome State Fault Refusal :=
  s.run fun b => b.controlRound x late

/-- ROUND_OVERRUN: A round missing its 5 ms deadline drops its unissued writes and sets ROUND_OVR. (R127) -/
def execRoundOverrun (s : State) : Host.Outcome State Fault Refusal :=
  s.run fun b => b.live fun b => b.roundOverrun

/-- HPC_WRITE_DENIED: A refusal of an HPC target write returns and sets WRITE_DENIED. (R125) -/
def execHpcWriteDenied (fn : Fin 31) (s : State) : Host.Outcome State Fault Refusal :=
  s.run fun b => b.live fun b => b.hpcWriteDenied fn.val

/-- OPTIMISER_PROPOSAL: Every PROPOSE_S seconds the optimiser issues a new proposal or exploration step. (R141) -/
def execOptimiserProposal (s : State) : Host.Outcome State Fault Refusal :=
  s.run fun b => b.optimiserProposal

/-- FIELD_LOAD_DONE: Loading of a field slot completes and FIELD_LOADING clears. (R142) -/
def execFieldLoadDone (s : State) : Host.Outcome State Fault Refusal :=
  s.run fun b => b.fieldLoadDone

/-- SURFACE_SAVE: Every 10 min of TB1 the surfaces of the current slot are written to the journal. (R142) -/
def execSurfaceSave (s : State) : Host.Outcome State Fault Refusal :=
  s.run fun b => b.surfaceSave

end Sys2Proof.Machine
end

