-- ==== Sys2Proof/Machine/LeRows.lean ====
section
/-!
DEFINITION. The meanings of the commands whose operations stand in Machine/Le.lean, one for each row.
-/

namespace Sys2Proof.Machine

/-- TRIGGER_ARRIVAL: A slot trigger reaches a task, making an IDLE task READY or being discarded otherwise. (R67) -/
def execTriggerArrival (task : Fin 4096) (s : State) : Host.Outcome State Fault Refusal :=
  s.run fun b => b.live fun b => b.triggerArrival task.val

/-- DEADLINE_REACHED: A running instance reaches its deadline D, raising one TASK_DEADLINE record and applying
  MISS_ACTION. (R56) -/
def execDeadlineReached (task : Fin 4096) (s : State) : Host.Outcome State Fault Refusal :=
  s.run fun b => b.live fun b => b.deadlineReached task.val

/-- BACKSTOP_REACHED: A running instance reaches its TB1 backstop, raising one TASK_BACKSTOP record and applying
  MISS_ACTION. (R56) -/
def execBackstopReached (task : Fin 4096) (s : State) : Host.Outcome State Fault Refusal :=
  s.run fun b => b.live fun b => b.backstopReached task.val

/-- TASK_ENABLE: A write of TASK_CTRL.EN = 1 enables a valid task to IDLE or is refused with EN_REFUSED. (R63) -/
def execTaskEnable (task : Fin 4096) (s : State) : Host.Outcome State Fault Refusal :=
  s.run fun b => b.live fun b => b.taskEnable task.val

/-- TASK_DISABLE: A write of TASK_CTRL.EN = 0 disables an idle task or puts a running one into DRAINING. (R78) -/
def execTaskDisable (task : Fin 4096) (s : State) : Host.Outcome State Fault Refusal :=
  s.run fun b => b.live fun b => b.taskDisable task.val

/-- TASK_SWAP: A write of TASK_CTRL.SWAP requests a coefficient bank swap or is refused with BANK_LOCKED. (R81) -/
def execTaskSwap (task : Fin 4096) (s : State) : Host.Outcome State Fault Refusal :=
  s.run fun b => b.live fun b => b.taskSwap task.val

/-- TASK_PL_CLR: A write of TASK_CTRL.PL_CLR ends the plausibility episode and realigns the plant model. (R89) -/
def execTaskPlClr (task : Fin 4096) (s : State) : Host.Outcome State Fault Refusal :=
  s.run fun b => b.live fun b => b.taskPlClr task.val

/-- TASK_MAN_WRITE: A write of TASK_CTRL.MAN requests MANUAL or AUTO from the next sample boundary. (R84) -/
def execTaskManWrite (task : Fin 4096) (man : Bool) (s : State) : Host.Outcome State Fault Refusal :=
  s.run fun b => b.live fun b => b.taskMan task.val man

/-- SAMPLE_BOUNDARY: An engine selects a READY instance and on the boundary edge copies the mailbox, swaps banks,
  changes mode, checks the model and issues. (R72) -/
def execSampleBoundary (eng : Fin 512) (s : State) : Host.Outcome State Fault Refusal :=
  s.run fun b => b.sampleBoundary eng.val

/-- PREEMPT: A READY task of higher priority preempts the running instance at its next instruction boundary. (R69) -/
def execPreempt (eng : Fin 512) (s : State) : Host.Outcome State Fault Refusal :=
  s.run fun b => b.preempt eng.val

/-- RESUME: A preempted instance resumes when no higher-priority task is READY. (R69) -/
def execResume (eng : Fin 512) (s : State) : Host.Outcome State Fault Refusal :=
  s.run fun b => b.resume eng.val

/-- COMMIT: On the edge after END retires all staged outputs of the instance are released together. (R74) -/
def execCommit (eng : Fin 512) (s : State) : Host.Outcome State Fault Refusal :=
  s.run fun b => b.commit eng.val

/-- INSTANCE_ABORT: An instance marked for abort stops at its next instruction boundary, discarding staged values and
  committing safe values as set. (R77) -/
def execInstanceAbort (task : Fin 4096) (s : State) : Host.Outcome State Fault Refusal :=
  s.run fun b => b.live fun b => b.instanceAbort task.val

/-- DRAIN_LIMIT: A draining instance without deadline or backstop is aborted after 1 ms of TB1 without a record. (R78)
  -/
def execDrainLimit (task : Fin 4096) (s : State) : Host.Outcome State Fault Refusal :=
  s.run fun b => b.live fun b => b.drainLimit task.val

/-- OCC_WINDOW: Every 1 ms of TB1 a tile's occupancy over the window is measured. (R93) -/
def execOccWindow (tile : Fin 32) (s : State) : Host.Outcome State Fault Refusal :=
  s.run fun b => b.occWindow tile.val

/-- GRACE_END: At the end of the 20 ms grace time a still-hot tile with high occupancy is GATED. (R94) -/
def execGraceEnd (tile : Fin 32) (s : State) : Host.Outcome State Fault Refusal :=
  s.run fun b => b.graceEnd tile.val

end Sys2Proof.Machine
end

