-- ==== Sys2Proof/Machine/LswRows.lean ====
section
/-!
DEFINITION. The meanings of the commands whose operations stand in Machine/Lsw.lean, one for each row.
-/

namespace Sys2Proof.Machine

/-- TRIP_ASSERT: An accepted trip assertion switches off all mapped channels within 2 µs, latches them and raises TRIP
  records. (R168) -/
def execTripAssert (t : Fin 4) (s : State) : Host.Outcome State Fault Refusal :=
  s.run fun b => b.tripAssert t.val

/-- TRIP_RELEASE: An accepted trip release changes the filtered level. (R168) -/
def execTripRelease (t : Fin 4) (s : State) : Host.Outcome State Fault Refusal :=
  s.run fun b => b.tripRelease t.val

/-- LINK_FRAME: An actuator-link frame reaches a companion, refreshing its watchdog and ending watchdog expiry after
  CONFIG_DONE. (R172) -/
def execLinkFrame (k : Fin 16) (s : State) : Host.Outcome State Fault Refusal :=
  s.run fun b => b.linkFrame k.val

/-- WATCHDOG_EXPIRY: No link frame for 50 ms sets WD_EXPIRED and puts the companion into limp-home. (R172) -/
def execWatchdogExpiry (k : Fin 16) (s : State) : Host.Outcome State Fault Refusal :=
  s.run fun b => b.watchdogExpiry k.val

/-- LIMP_HOME_ENTRY: Within 10 µs of the compute side losing power or entering reset, each companion enters limp-home.
  (R192) -/
def execLimpHomeEntry (s : State) : Host.Outcome State Fault Refusal :=
  s.run fun b => b.limpHomeEntry

/-- LIMP_PIN_CHANGE: A LIMP pin level stable for 1 ms is accepted and mapped channels follow it. (R193) -/
def execLimpPinChange (p : Fin 8) (high : Bool) (s : State) : Host.Outcome State Fault Refusal :=
  s.run fun b => b.limpPinChange p.val high

/-- LIMP_RELEASE: A write of 1 to LSW_LIMP_REL releases a companion's channels from their limp pins. (R194) -/
def execLimpRelease (zs8 : BitVec 8) (zp16 : BitVec 8) (s : State) : Host.Outcome State Fault Refusal :=
  s.run fun b => b.live fun b => b.limpRelease zs8 zp16

/-- FEED_UNDERVOLTAGE: A feed below 3.0 V switches off its bank's switch channels and its ZS8's valve channels and
  sets FEED_UV. (R190) -/
def execFeedUndervoltage (k : Fin 8) (mv : Nat) (s : State) : Host.Outcome State Fault Refusal :=
  s.run fun b => b.feedUndervoltage k.val mv

/-- FEED_RECOVERY: A feed at or above 3.5 V for 10 ms returns its channels to the command or setpoint in force. (R190)
  -/
def execFeedRecovery (k : Fin 8) (mv : Nat) (since : Nat) (s : State) : Host.Outcome State Fault Refusal :=
  s.run fun b => b.feedRecovery k.val mv since

/-- LSW_COMMAND: An LSW command reaches its channel and is applied or stored. (R177) -/
def execLswCommand (c : Fin 128) (s : State) : Host.Outcome State Fault Refusal :=
  s.run fun b => b.lswCommand c.val

/-- SENSE_SAMPLE: Every 10 µs a channel digitises its current into a sense code. (R179) -/
def execSenseSample (c : Fin 128) (ua : Nat) (s : State) : Host.Outcome State Fault Refusal :=
  s.run fun b => b.senseSample c.val ua

/-- LSW_SHORT: The active limit acting 50 µs without a break switches the channel off with SHORT and FLT. (R181) -/
def execLswShort (c : Fin 128) (since : Nat) (peak : Nat) (s : State) : Host.Outcome State Fault Refusal :=
  s.run fun b => b.lswShort c.val since peak

/-- LSW_OVERLOAD: Current above OC_THRESH beyond the blank or 1 ms switches the channel off with OVERLOAD and FLT.
  (R181) -/
def execLswOverload (c : Fin 128) (since : Nat) (peak : Nat) (s : State) : Host.Outcome State Fault Refusal :=
  s.run fun b => b.lswOverload c.val since peak

/-- LAMP_LIMIT_OFF: A lamp channel switches off on 1 ms of active limit or overload and retries or latches RETRY_EXH.
  (R182) -/
def execLampLimitOff (c : Fin 128) (limit : Bool) (since : Nat) (peak : Nat) (s : State) :
    Host.Outcome State Fault Refusal :=
  s.run fun b => b.lampLimitOff c.val limit since peak

/-- LSW_RETRY: 2 ms after a lamp off edge the channel switches on again and RETRY_CNT increments. (R182) -/
def execLswRetry (c : Fin 128) (s : State) : Host.Outcome State Fault Refusal :=
  s.run fun b => b.lswRetry c.val

/-- RETRY_EPISODE_END: After 100 ms on without an event RETRY_CNT returns to 0. (R183) -/
def execRetryEpisodeEnd (c : Fin 128) (s : State) : Host.Outcome State Fault Refusal :=
  s.run fun b => b.retryEpisodeEnd c.val

/-- FEED_SHED: With feed current over a limit the companion sheds its highest-ranked on channel, once per 1 ms. (R175)
  -/
def execFeedShed (k : Fin 8) (feed : Nat) (since : Nat) (s : State) : Host.Outcome State Fault Refusal :=
  s.run fun b => b.feedOver k.val feed since

/-- SHED_EPISODE_END: A shed episode ends after the feed current has stayed within limits for 100 ms. (R175) -/
def execShedEpisodeEnd (k : Fin 8) (feed : Nat) (since : Nat) (s : State) : Host.Outcome State Fault Refusal :=
  s.run fun b => b.shedEnd k.val feed since

/-- LSW_JUNCTION_OVERTEMP: A channel junction above 175 °C switches the channel off with OTEMP, FLT and a record.
  (R184) -/
def execLswJunctionOvertemp (c : Fin 128) (temp : Int) (s : State) : Host.Outcome State Fault Refusal :=
  s.run fun b => b.lswJunction c.val temp

/-- LSW_FAULT_CLEAR: A write of LSW_CTRL.FLT_CLR clears FLT and its causes unless the junction is 165 °C or above.
  (R184) -/
def execLswFaultClear (c : Fin 128) (s : State) : Host.Outcome State Fault Refusal :=
  s.run fun b => b.live fun b => b.lswFaultClear c.val

/-- LSW_TRIP_CLEAR: A write of LSW_CTRL.TRIP_CLR clears the trip latch or is refused as for valve channels. (R187) -/
def execLswTripClear (c : Fin 128) (s : State) : Host.Outcome State Fault Refusal :=
  s.run fun b => b.live fun b => b.lswTripClear c.val

/-- LSW_ENABLE: A write of LSW_CTRL.EN = 1 lets the channel follow the next command that arrives. (R178) -/
def execLswEnable (c : Fin 128) (s : State) : Host.Outcome State Fault Refusal :=
  s.run fun b => b.live fun b => b.lswEnable c.val

/-- LSW_DISABLE: A write of LSW_CTRL.EN = 0 switches the channel off at once and cancels retries. (R178) -/
def execLswDisable (c : Fin 128) (s : State) : Host.Outcome State Fault Refusal :=
  s.run fun b => b.live fun b => b.lswDisable c.val

/-- OPEN_LOAD_CHECK: Every 1 ms an off channel compares its output voltage and starts or ends an open-load episode.
  (R185) -/
def execOpenLoadCheck (c : Fin 128) (mv : Nat) (s : State) : Host.Outcome State Fault Refusal :=
  s.run fun b => b.openLoadCheck c.val mv

/-- OPEN_LOAD_DISABLE: A write of OL_EN = 0 ends any open-load episode. (R185) -/
def execOpenLoadDisable (c : Fin 128) (s : State) : Host.Outcome State Fault Refusal :=
  s.run fun b => b.live fun b => b.openLoadDisable c.val

end Sys2Proof.Machine
end

