-- ==== Sys2Proof/Machine/NetRows.lean ====
section
/-!
DEFINITION. The meanings of the commands whose operations stand in Machine/Net.lean, one for each row.
-/

namespace Sys2Proof.Machine

/-- ETH_DISABLE: A write of ETH_CTRL.EN = 0 drops the link and discards queued frames. (R341) -/
def execEthDisable (e : Fin 6) (s : State) : Host.Outcome State Fault Refusal :=
  s.run fun b => b.live fun b => b.ethDisable e.val

/-- CAN_FRAME_RECEIVE: A CAN frame is filtered and stored in the receive ring. (R343) -/
def execCanFrameReceive (k : Fin 8) (f : CanFrame) (full : Bool) (te : BitVec 16) (re : BitVec 16) (s : State) :
    Host.Outcome State Fault Refusal :=
  s.run fun b => b.canReceive k.val f full te.toNat re.toNat

/-- CAN_TRANSMIT: A CAN frame from the transmit ring completes on the bus. (R343) -/
def execCanTransmit (k : Fin 8) (own : Bool) (te : BitVec 16) (re : BitVec 16) (s : State) :
    Host.Outcome State Fault Refusal :=
  s.run fun b => b.canTransmit k.val own te.toNat re.toNat

/-- CAN_RESTART: A write of CAN_CTRL.RESTART rejoins a bus-off controller. (R342) -/
def execCanRestart (k : Fin 8) (s : State) : Host.Outcome State Fault Refusal :=
  s.run fun b => b.live fun b => b.canRestart k.val

/-- BUS_OFF_RECOVERY: With AUTO_REC a bus-off controller rejoins after 128 × 11 recessive bits. (R342) -/
def execBusOffRecovery (k : Fin 8) (s : State) : Host.Outcome State Fault Refusal :=
  s.run fun b => b.live fun b => b.busOffRecovery k.val

/-- CAN_DISABLE: A write of CAN_CTRL.EN = 0 lets the frame on the bus finish and the controller then leaves the bus.
  (R344) -/
def execCanDisable (k : Fin 8) (bus : Option Bool) (s : State) : Host.Outcome State Fault Refusal :=
  s.run fun b => b.live fun b => b.canDisable k.val bus

/-- ISOBUS_MESSAGE: An ISO 11783 message is handled for address claim, transport or task controller. (R345) -/
def execIsobusMessage (k : Fin 2) (f : CanFrame) (s : State) : Host.Outcome State Fault Refusal :=
  s.run fun b => b.isobusMessage k.val f

/-- ENGINE_REQUEST_SEND: Every 100 ms the HF30 target is sent to ENG_ADDR in Proprietary A. (R346) -/
def execEngineRequestSend (s : State) : Host.Outcome State Fault Refusal :=
  s.run fun b => b.engineSend

/-- PGN_TIMEOUT: A received J1939 value becomes invalid after 500 ms without its PGN. (R346) -/
def execPgnTimeout (group : Fin 3) (s : State) : Host.Outcome State Fault Refusal :=
  s.run fun b => b.pgnTimeout group.val

/-- ETH_LINK_CHANGE: The T1 link of an enabled Ethernet port comes up or goes down on the wire, and ETH_STATUS.LINK
  follows it. (R339) -/
def execEthLinkChange (e : Fin 6) (up : Bool) (s : State) : Host.Outcome State Fault Refusal :=
  s.run fun b => b.ethLink e.val up

/-- BUS_OFF: Accumulated bus errors take a CAN controller into the bus-off state, from which it leaves only by
  automatic recovery or by RESTART. (R342) -/
def execBusOff (k : Fin 8) (s : State) : Host.Outcome State Fault Refusal :=
  s.run fun b => b.busOff k.val

end Sys2Proof.Machine
end

