-- ==== Sys2Proof/Machine/Recovery.lean ====
section
/-!
DEFINITION. Chrysalis: the recovery protocol (R403, R413 to R415).
Readings and choices: logs 21, 47 of notes/assumptions.
-/

namespace Sys2Proof.Machine

/-- The UDP port of the recovery protocol (R413). -/
def recoveryPort : Nat := 47500

/-- A recovery datagram that has been read (R414). -/
structure RecMsg where
  version : Nat
  op      : Nat
  seq     : BitVec 32
  body    : List Byte
deriving DecidableEq, Repr

/-- The datagram in the bytes `d`; none where its length or CRC does not hold. -/
def recParse (d : List Byte) : Option RecMsg :=
  let n := leAt d 2 2
  if d.length = 12 + n ∧ n ≤ 1024 ∧ leAt d (8 + n) 4 = (crc32 (d.take (8 + n))).toNat then
    some ⟨leAt d 0 1, leAt d 1 1, BitVec.ofNat 32 (leAt d 4 4), (d.drop 8).take n⟩
  else none

/-- The reply to operation `op` of `seq` (R414). -/
def recReply (op : Nat) (seq : BitVec 32) (body : List Byte) : List Byte :=
  let l := leBytes 1 1 ++ leBytes 1 (op % 128 + 128) ++ leBytes 2 body.length ++ leBytes 4 seq.toNat ++ body
  l ++ leBytes 4 (crc32 l).toNat

/-- A reply leaves ETH5. -/
def Blk.recSend (b : Blk) (src : BitVec 128) (port : Nat) (l : List Byte) : Blk :=
  b.ethSend 5 (.udp ⟨src, port, recoveryPort, l⟩)

/-- The tool is answered, and the answer kept for a repetition (R415). -/
def Blk.recAnswer (b : Blk) (src : BitVec 128) (port : Nat) (m : RecMsg) (body : List Byte) : Blk :=
  let l := recReply m.op m.seq body
  let b := { b with boot := { b.boot with tool := some ⟨src, port, b.tb1, some (m.seq, l)⟩ } }
  b.recSend src port l

/-- The tool has sent a datagram. -/
def Blk.recSeen (b : Blk) (t : Tool) (port : Nat) : Blk :=
  { b with boot := { b.boot with tool := some { t with port := port, at_ := b.tb1 } } }

/-- A datagram of operation `op` comes from `src` to ETH5 (R413 to R415): `act` is what the operation does, and gives the body of the
reply, or none where the reply comes later. -/
def Blk.recover (b : Blk) (op : Nat) (src : BitVec 128) (port : Nat) (d : List Byte)
    (act : Blk → RecMsg → Blk × Option (List Byte)) : Blk :=
  b.when (decide (b.mod.phase = .chrysalis) && !b.frozen && b.flag F.ETH_CTRL_EN 5 && b.flag F.ETH_STATUS_LINK 5) fun b =>
    match recParse d with
    | none => b
    | some m =>
      if m.op ≠ op then b
      else
        let late := fun (b : Blk) =>
          if m.version ≠ 1 then b.recAnswer src port m [1]
          else
            match act b m with
            | (b, some body) => b.recAnswer src port m body
            | (b, none) => b
        match b.boot.tool.filter fun t => decide (b.tb1 < t.at_ + 60000000000) with
        | none => if op = 1 then late b else b.recSend src port (recReply m.op m.seq [6])
        | some t =>
          if t.addr ≠ src then b.recSend src port (recReply m.op m.seq [6])
          else if b.boot.commit.isSome then (b.recSeen t port).recSend src port (recReply m.op m.seq [5])
          else
            match t.last with
            | some (q, l) => if q = m.seq then (b.recSeen t port).recSend src port l else late (b.recSeen t port)
            | none => late (b.recSeen t port)

/-- What HELLO tells (R414): SYS_ID, SYS_STEP, serial, FAILS, SEQ and STATE of A and B, the generations in force of IDENT, TRIM,
ROOT and LIMP_MAP. -/
def Blk.helloBody (b : Blk) : List Byte :=
  let r := b.boot.bootRec
  [0] ++ leBytes 4 (b.reg .SYS_ID 0).toNat ++ leBytes 4 (b.reg .SYS_STEP 0).toNat ++ leBytes 4 (b.reg .BOOT_SERIAL 0).toNat ++
    leBytes 1 r.fails ++ leBytes 4 r.a.seq ++ leBytes 1 r.a.state ++ leBytes 4 r.b.seq ++ leBytes 1 r.b.state ++
    leBytes 1 (otpGen b.otp 1) ++ leBytes 1 (otpGen b.otp 2) ++ leBytes 1 (otpGen b.otp 3) ++ leBytes 1 (otpGen b.otp 4)

/-- HELLO: the first binds its source address (R415). -/
def Blk.recHello (b : Blk) (src : BitVec 128) (port : Nat) (d : List Byte) : Blk :=
  b.recover 1 src port d fun b _ => (b, some b.helloBody)

/-- BEGIN (R414): the receive buffer is cleared for a package of the given length. -/
def Blk.recBegin (b : Blk) (src : BitVec 128) (port : Nat) (d : List Byte) : Blk :=
  b.recover 2 src port d fun b m =>
    if m.body.length ≠ 4 ∨ 112 * 2 ^ 20 < leAt m.body 0 4 then (b, some [1])
    else ({ b with boot := { b.boot with want := some (leAt m.body 0 4), got := [] } }, some [0])

/-- DATA (R414): bytes at the next expected offset. -/
def Blk.recData (b : Blk) (src : BitVec 128) (port : Nat) (d : List Byte) : Blk :=
  b.recover 3 src port d fun b m =>
    let off := leAt m.body 0 4
    let part := m.body.drop 4
    let have_ := b.boot.got.length
    match b.boot.want with
    | none => (b, some [2])
    | some n =>
      if m.body.length < 4 then (b, some [1])
      else if off < have_ then (b, some [0])
      else if off ≠ have_ ∨ n < have_ + part.length then (b, some [2])
      else ({ b with boot := { b.boot with got := b.boot.got ++ part } }, some [0])

/-- RECOVERY_COMMIT (R414): staging of the received package begins; FAILS becomes 0. -/
def Blk.recCommit (b : Blk) (src : BitVec 128) (port : Nat) (d : List Byte) : Blk :=
  b.recover 4 src port d fun b m =>
    let b := b.writeBootRec { b.boot.bootRec with fails := 0 }
    ({ b with boot := { b.boot with commit := some m.seq } }, none)

/-- The set that a recovery COMMIT writes: the one that is not GOOD with the highest SEQ (R414). -/
def BootRec.spare (r : BootRec) : Bool :=
  match r.best with
  | some k => !k
  | none => false

/-- The package that was received is staged, without the SEQ check: the reply's body (R414). `nand` is an entry that does not
read back. -/
def Blk.stageReceived (b : Blk) (nand : Option Nat) : Blk × List Byte :=
  let k := b.boot.bootRec.spare
  let pkg := b.boot.got
  let bad := if b.boot.want ≠ some pkg.length then some (3, 0xFF) else b.packageCheck none pkg.length pkg
  match bad with
  | some (reason, part) => (b.stageFail k reason part, [3, BitVec.ofNat 8 reason])
  | none =>
    let b := b.emptySet k
    match nand with
    | some part => (b.stageFail k 7 part, [3, 7])
    | none => (b.stageSet k pkg, [0])

/-- RECOVERY_COMMIT_DONE (R414, R415): staging ends, and the COMMIT is answered. -/
def Blk.recCommitDone (b : Blk) (nand : Option Nat) : Blk :=
  b.when (decide (b.mod.phase = .chrysalis) && !b.frozen) fun b =>
    match b.boot.commit with
    | none => b
    | some q =>
      let (b, body) := { b with boot := { b.boot with commit := none } }.stageReceived nand
      match b.boot.tool with
      | some t => b.recAnswer t.addr t.port ⟨1, 4, q, []⟩ body
      | none => b

/-- OTP bytes from `a` take the bits of `l`: a programmed bit stays (R401). -/
def otpProgram (m : List Host.Cell) (a : Nat) : List Byte → List Host.Cell
  | [] => m
  | x :: l => otpProgram (SMap.put natLt m a (otpByte m a ||| x) 0) (a + 1) l

/-- The generation that OTP_WRITE writes for group `g` (R403): none where all slots are used. -/
def nextGen (m : List Host.Cell) (g : Nat) : Option Nat :=
  match otpTop m g with
  | none => some 0
  | some (n, _) => if n < 4 then some (n + 1) else none

/-- OTP_WRITE of group `g` with header, payload and signature block (R403): the block, and the body of the reply. -/
def Blk.otpWrite (b : Blk) (g : Nat) (head payload sig : List Byte) : Blk × List Byte :=
  if g ≠ 3 ∧ g ≠ 4 then (b, [4])
  else
    match nextGen b.otp g with
    | none => (b, [4])
    | some n =>
      let signed := match otpRoot b.otp with
        | some root => signatureOk root (head ++ payload) sig
        | none => g == 3
      if !signed then (b, [3, 1])
      else if otpSlotBytes g < 16 + payload.length then (b, [4])
      else
        let otp := otpProgram b.otp (otpSlotAt g n) (head ++ payload)
        ({ b with otp := otp }, if (otpSlot otp g n).isSome then [0] else [4])

/-- OTP_WRITE (R403, R414): group in 4 bytes, the 16-byte header, the payload, and the signature block where one is due. -/
def Blk.recOtpWrite (b : Blk) (src : BitVec 128) (port : Nat) (d : List Byte) : Blk :=
  b.recover 5 src port d fun b m =>
    let head := (m.body.drop 4).take 16
    let n := leAt head 4 4
    let rest := (m.body.drop 20).drop n
    if m.body.length < 20 + n ∨ (rest ≠ [] ∧ rest.length ≠ 256) then (b, some [1])
    else
      let (b, body) := b.otpWrite (leAt m.body 0 4) head ((m.body.drop 20).take n) rest
      (b, some body)

/-- READ_LOG (R414): up to 63 records of the fault log from an index on. -/
def Blk.recReadLog (b : Blk) (src : BitVec 128) (port : Nat) (d : List Byte) : Blk :=
  b.recover 6 src port d fun b m =>
    if m.body.length ≠ 4 then (b, some [1])
    else (b, some ([0] ++ ((b.jrn.faults.all.drop (leAt m.body 0 4)).take 63).flatten))

/-- RESTART (R414): a full start, once RECOVER_N is high. -/
def Blk.recRestart (b : Blk) (src : BitVec 128) (port : Nat) (d : List Byte) : Blk :=
  let b := b.recover 7 src port d fun b _ => ({ b with boot := { b.boot with restart := true } }, some [0])
  if b.boot.restart ∧ b.mod.recoverN then b.restart else b

/-- Any recovery datagram goes by its OP; one of no operation is answered BAD_FORMAT (R414). -/
def Blk.recDatagram (b : Blk) (src : BitVec 128) (port : Nat) (d : List Byte) : Blk :=
  match leAt d 1 1 with
  | 1 => b.recHello src port d
  | 2 => b.recBegin src port d
  | 3 => b.recData src port d
  | 4 => b.recCommit src port d
  | 5 => b.recOtpWrite src port d
  | 6 => b.recReadLog src port d
  | 7 => b.recRestart src port d
  | op => b.recover op src port d fun b _ => (b, some [1])

/-- ETH_FRAME (R339, R340): UDP for an address of the port reaches the unit whose port it names: the range sensors (R246) and, on the
port of FLEET_CFG.ETH, the fleet link (R347); in Chrysalis the recovery protocol alone, on ETH5 (R413). -/
def Blk.ethFrame (b : Blk) (e : Nat) (f : EthIn) : Blk :=
  match f with
  | .udp src dst sport port l =>
    if b.mod.phase = .chrysalis then
      if e = 5 ∧ dst = linkLocal (b.mac 5) ∧ port.toNat = recoveryPort then b.recDatagram src sport.toNat l else b
    else
      b.when (b.ethUp e && b.hearsIp e dst) fun b =>
        let b := b.pointPacket e port.toNat l
        if port.toNat = b.fld F.FLEET_CFG_FLEET_PORT 0 ∧ e = b.fld F.FLEET_CFG_ETH 0 then b.fleetDatagram l else b
  | f => b.ethAnswer e f

/-- RECOVER_N_RELEASE (R414): RECOVER_N goes high. -/
def Blk.recoverRelease (b : Blk) : Blk :=
  let b := { b with mod := { b.mod with recoverN := true } }
  b.when (decide (b.mod.phase = .chrysalis) && !b.frozen && b.boot.restart) Blk.restart

/-- BINDING_TIMEOUT (R415): 60 s without a datagram. -/
def Blk.bindingTimeout (b : Blk) : Blk :=
  match b.boot.tool with
  | some t =>
    b.when (decide (b.mod.phase = .chrysalis) && !b.frozen && decide (t.at_ + 60000000000 ≤ b.tb1)) fun b =>
      { b with boot := { b.boot with tool := none } }
  | none => b

end Sys2Proof.Machine
end

