-- ==== Sys2Proof/Machine/RecoveryRows.lean ====
section
/-!
DEFINITION. The meanings of the commands whose operations stand in Machine/Recovery.lean, one for each row.
-/

namespace Sys2Proof.Machine

/-- ETH_FRAME: An Ethernet frame arrives and is answered, carried or discarded. (R340) -/
def execEthFrame (e : Fin 6) (f : EthIn) (s : State) : Host.Outcome State Fault Refusal :=
  s.run fun b => b.ethFrame e.val f

/-- HELLO: A recovery HELLO binds the tool and returns module and set state. (R415) -/
def execRecoveryHello (src : BitVec 128) (port : BitVec 16) (d : List Byte) (s : State) :
    Host.Outcome State Fault Refusal :=
  s.run fun b => b.recHello src port.toNat d

/-- BEGIN: A recovery BEGIN clears the DRAM receive buffer. (R414) -/
def execRecoveryBegin (src : BitVec 128) (port : BitVec 16) (d : List Byte) (s : State) :
    Host.Outcome State Fault Refusal :=
  s.run fun b => b.recBegin src port.toNat d

/-- DATA: A recovery DATA block is accepted at the next expected offset. (R414) -/
def execRecoveryData (src : BitVec 128) (port : BitVec 16) (d : List Byte) (s : State) :
    Host.Outcome State Fault Refusal :=
  s.run fun b => b.recData src port.toNat d

/-- RECOVERY_COMMIT: A recovery COMMIT stages the received package and sets FAILS to 0. (R414) -/
def execRecoveryCommit (src : BitVec 128) (port : BitVec 16) (d : List Byte) (s : State) :
    Host.Outcome State Fault Refusal :=
  s.run fun b => b.recCommit src port.toNat d

/-- RECOVERY_COMMIT_DONE: Staging of a recovery COMMIT completes and the reply is sent. (R415) -/
def execRecoveryCommitDone (nand : Option (Fin 64)) (s : State) : Host.Outcome State Fault Refusal :=
  s.run fun b => b.recCommitDone (nand.map (·.val))

/-- OTP_WRITE: A recovery OTP_WRITE programs the next generation of a field group or is refused. (R403) -/
def execOtpWrite (src : BitVec 128) (port : BitVec 16) (d : List Byte) (s : State) :
    Host.Outcome State Fault Refusal :=
  s.run fun b => b.recOtpWrite src port.toNat d

/-- READ_LOG: A recovery READ_LOG returns up to 63 fault-log records. (R414) -/
def execReadLog (src : BitVec 128) (port : BitVec 16) (d : List Byte) (s : State) :
    Host.Outcome State Fault Refusal :=
  s.run fun b => b.recReadLog src port.toNat d

/-- RESTART: A recovery RESTART begins a full start once RECOVER_N is high. (R414) -/
def execRecoveryRestart (src : BitVec 128) (port : BitVec 16) (d : List Byte) (s : State) :
    Host.Outcome State Fault Refusal :=
  s.run fun b => b.recRestart src port.toNat d

/-- BINDING_TIMEOUT: A tool binding ends after 60 s without a datagram. (R415) -/
def execBindingTimeout (s : State) : Host.Outcome State Fault Refusal :=
  s.run fun b => b.bindingTimeout

/-- RECOVER_N_RELEASE: RECOVER_N goes high after a RESTART was accepted in Chrysalis, and the module then begins the
  full start it had been holding back. (R414) -/
def execRecoverNRelease (s : State) : Host.Outcome State Fault Refusal :=
  s.run fun b => b.recoverRelease

end Sys2Proof.Machine
end

