-- ==== Sys2Proof/Machine/RegWriteRows.lean ====
section
/-!
DEFINITION. The meanings of the commands whose operations stand in Machine/RegWrite.lean, one for each row.
-/

namespace Sys2Proof.Machine

/-- REGISTER_WRITE: A write to a register field that has no row of its own takes effect according to the field's
  access type. (R9) -/
def execRegisterWrite (mid : BitVec 10) (addr : BitVec 40) (width : Nat) (data : BitVec 128) (env : WriteEnv) (s : State) :
    Host.Outcome State Fault Refusal :=
  s.run fun b => b.registerWrite mid.toNat addr.toNat width data env

/-- ACCESS_ACCEPT: A target accepts a waiting access on a free LECLK edge, lower master ID first, and later completes
  it in order. (R19) -/
def execAccessAccept (target : Fin 52) (edge : Nat) (env : WriteEnv) (s : State) : Host.Outcome State Fault Refusal :=
  s.run fun b => b.accessAccept target.val edge env

/-- ENC_CFG_WRITE: A write of ENC_CFG.EN changes the validity of the built timebases that use that channel from the
  next tick. (R35) -/
def execEncCfgWrite (ch : Fin 32) (v : Word) (s : State) : Host.Outcome State Fault Refusal :=
  s.run fun b => b.live fun b => b.encCfgWrite ch.val v

end Sys2Proof.Machine
end

