-- ==== Sys2Proof/Machine/SolRows.lean ====
section
/-!
DEFINITION. The meanings of the commands whose operations stand in Machine/Sol.lean, one for each row.
-/

namespace Sys2Proof.Machine

/-- SETPOINT_ARRIVAL: A SOL setpoint arrives at its slice, is clamped and is used from the next sample instant. (R154)
  -/
def execSetpointArrival (c : Fin 64) (s : State) : Host.Outcome State Fault Refusal :=
  s.run fun b => b.setpointArrival c.val

/-- CURRENT_SAMPLE: At a sample instant the slice converts current and computes the new duty. (R152) -/
def execCurrentSample (c : Fin 64) (code : BitVec 16) (cnt : Nat) (s : State) : Host.Outcome State Fault Refusal :=
  s.run fun b => b.currentSample c.val code.toNat cnt

/-- PWM_EDGE: The period counter reaches an edge and the half-bridge passes between ON, DEAD and RECIRC. (R155) -/
def execPwmEdge (c : Fin 64) (s : State) : Host.Outcome State Fault Refusal :=
  s.run fun b => b.pwmEdge c.val

/-- PWM_PHASE_TRIGGER: A PWM-phase trigger loads the channel's period counter with SOL_PHASE.OFFSET. (R158) -/
def execPwmPhaseTrigger (c : Fin 64) (s : State) : Host.Outcome State Fault Refusal :=
  s.run fun b => b.phaseTrigger c.val

/-- COIL_BAND_UPDATE: Every 10 ms the slice estimates coil resistance and updates the temperature band. (R160) -/
def execCoilBandUpdate (c : Fin 64) (s : State) : Host.Outcome State Fault Refusal :=
  s.run fun b => b.coilUpdate c.val

/-- PULLIN_TIMEOUT: No dip within WIN_MS ends pull-in with ARM_FAIL and an ARMATURE_NO_MOVE record. (R163) -/
def execPullinTimeout (c : Fin 64) (s : State) : Host.Outcome State Fault Refusal :=
  s.run fun b => b.pullinTimeout c.val

/-- SOL_TRIP_CLEAR: A write of SOL_CTRL.TRIP_CLR clears the trip latch or is refused while a mapped input is asserted.
  (R169) -/
def execSolTripClear (c : Fin 64) (s : State) : Host.Outcome State Fault Refusal :=
  s.run fun b => b.live fun b => b.solTripClear c.val

/-- SOL_FAULT_CLEAR: A write of SOL_CTRL.FLT_CLR clears FLT and its causes unless over-temperature persists. (R171) -/
def execSolFaultClear (c : Fin 64) (s : State) : Host.Outcome State Fault Refusal :=
  s.run fun b => b.live fun b => b.solFaultClear c.val

/-- SOL_ENABLE: A write of SOL_CTRL.EN = 1 allows the channel to drive the next setpoint that arrives. (R167) -/
def execSolEnable (c : Fin 64) (s : State) : Host.Outcome State Fault Refusal :=
  s.run fun b => b.live fun b => b.solEnable c.val

/-- SOL_DISABLE: A write of SOL_CTRL.EN = 0 ends the period at once and takes the channel through FAST to OFF. (R167)
  -/
def execSolDisable (c : Fin 64) (s : State) : Host.Outcome State Fault Refusal :=
  s.run fun b => b.live fun b => b.solDisable c.val

/-- COMPANION_OVERTEMP: A companion junction above 175 °C sets OTEMP and FLT on every channel of the companion. (R171)
  -/
def execCompanionOvertemp (k : Fin 8) (temp : Int) (s : State) : Host.Outcome State Fault Refusal :=
  s.run fun b => b.companionOvertemp k.val temp

end Sys2Proof.Machine
end

