-- ==== Sys2Proof/Machine/StageRows.lean ====
section
/-!
DEFINITION. The meanings of the commands whose operations stand in Machine/Stage.lean, one for each row.
-/

namespace Sys2Proof.Machine

/-- UPDATE_STAGE: A write of BOOT_UPD_CMD.STAGE starts verifying and writing a package into the other set. (R406) -/
def execUpdateStage (s : State) : Host.Outcome State Fault Refusal :=
  s.run fun b => b.updateStage

/-- STAGE_COMPLETE: Staging ends with the set STAGED or FAILED with STAGE_FAIL. (R406) -/
def execStageComplete (nand : Option (Fin 64)) (s : State) : Host.Outcome State Fault Refusal :=
  s.run fun b => b.stageComplete (nand.map (·.val))

/-- STAGE_ABORT: A write of ABORT stops staging at the next NAND page and leaves the set EMPTY. (R407) -/
def execStageAbort (s : State) : Host.Outcome State Fault Refusal :=
  s.run fun b => b.stageAbort

/-- STAGE_DISCARD: A write of DISCARD marks a STAGED set EMPTY. (R407) -/
def execStageDiscard (s : State) : Host.Outcome State Fault Refusal :=
  s.run fun b => b.stageDiscard

end Sys2Proof.Machine
end

