-- ==== Sys2Proof/Machine/StepCodeRows.lean ====
section
/-!
DEFINITION. The meanings of the commands whose operations stand in Machine/StepCode.lean, one for each row.
-/

namespace Sys2Proof.Machine

/-- ILL: An illegal instruction aborts the instance, commits safe values and disables the task. (R102) -/
def execIll (eng : Fin 512) (s : State) : Host.Outcome State Fault Refusal :=
  s.run fun b => b.opIll eng.val

/-- NOP: The instruction does nothing. (R103) -/
def execNop (eng : Fin 512) (s : State) : Host.Outcome State Fault Refusal :=
  s.run fun b => b.opNop eng.val

/-- END: END retires once all earlier loads and stores have completed, ending the instance. (R118) -/
def execEndInstr (eng : Fin 512) (s : State) : Host.Outcome State Fault Refusal :=
  s.run fun b => b.opEnd eng.val

/-- BR: A branch is taken according to COND applied to the predicate. (R119) -/
def execBranch (eng : Fin 512) (s : State) : Host.Outcome State Fault Refusal :=
  s.run fun b => b.opBr eng.val

/-- ADD: Saturating lane addition. (R103) -/
def execAdd (eng : Fin 512) (s : State) : Host.Outcome State Fault Refusal :=
  s.run fun b => b.opAdd eng.val

/-- SUB: Saturating lane subtraction. (R103) -/
def execSub (eng : Fin 512) (s : State) : Host.Outcome State Fault Refusal :=
  s.run fun b => b.opSub eng.val

/-- ADDW: Wrapping lane addition. (R103) -/
def execAddw (eng : Fin 512) (s : State) : Host.Outcome State Fault Refusal :=
  s.run fun b => b.opAddw eng.val

/-- SUBW: Wrapping lane subtraction. (R103) -/
def execSubw (eng : Fin 512) (s : State) : Host.Outcome State Fault Refusal :=
  s.run fun b => b.opSubw eng.val

/-- MIN: Signed lane minimum. (R103) -/
def execMinLane (eng : Fin 512) (s : State) : Host.Outcome State Fault Refusal :=
  s.run fun b => b.opMin eng.val

/-- MAX: Signed lane maximum. (R103) -/
def execMaxLane (eng : Fin 512) (s : State) : Host.Outcome State Fault Refusal :=
  s.run fun b => b.opMax eng.val

/-- ABS: Saturating absolute value per lane. (R103) -/
def execAbsLane (eng : Fin 512) (s : State) : Host.Outcome State Fault Refusal :=
  s.run fun b => b.opAbs eng.val

/-- NEG: Saturating negation per lane. (R103) -/
def execNeg (eng : Fin 512) (s : State) : Host.Outcome State Fault Refusal :=
  s.run fun b => b.opNeg eng.val

/-- AND: Bitwise AND per lane. (R103) -/
def execAndLane (eng : Fin 512) (s : State) : Host.Outcome State Fault Refusal :=
  s.run fun b => b.opAnd eng.val

/-- OR: Bitwise OR per lane. (R103) -/
def execOrLane (eng : Fin 512) (s : State) : Host.Outcome State Fault Refusal :=
  s.run fun b => b.opOr eng.val

/-- XOR: Bitwise XOR per lane. (R103) -/
def execXorLane (eng : Fin 512) (s : State) : Host.Outcome State Fault Refusal :=
  s.run fun b => b.opXor eng.val

/-- SHL: Saturating left shift per lane. (R103) -/
def execShl (eng : Fin 512) (s : State) : Host.Outcome State Fault Refusal :=
  s.run fun b => b.opShl eng.val

/-- SHR: Arithmetic right shift per lane. (R103) -/
def execShr (eng : Fin 512) (s : State) : Host.Outcome State Fault Refusal :=
  s.run fun b => b.opShr eng.val

/-- SHRR: Rounding right shift per lane. (R105) -/
def execShrr (eng : Fin 512) (s : State) : Host.Outcome State Fault Refusal :=
  s.run fun b => b.opShrr eng.val

/-- MUL: Saturating multiply with rounding shift per lane. (R103) -/
def execMul (eng : Fin 512) (s : State) : Host.Outcome State Fault Refusal :=
  s.run fun b => b.opMul eng.val

/-- DIV: Pre-shifted saturating division per lane, with divide-by-zero handling. (R110) -/
def execDiv (eng : Fin 512) (s : State) : Host.Outcome State Fault Refusal :=
  s.run fun b => b.opDiv eng.val

/-- MOV: Lane copy. (R103) -/
def execMov (eng : Fin 512) (s : State) : Host.Outcome State Fault Refusal :=
  s.run fun b => b.opMov eng.val

/-- BCST: Broadcast one lane of VA to all enabled lanes. (R103) -/
def execBcst (eng : Fin 512) (s : State) : Host.Outcome State Fault Refusal :=
  s.run fun b => b.opBcst eng.val

/-- MOVL: Copy one lane of VA into one lane of VD. (R103) -/
def execMovl (eng : Fin 512) (s : State) : Host.Outcome State Fault Refusal :=
  s.run fun b => b.opMovl eng.val

/-- HSUM: Saturating sum of enabled lanes into lane 0. (R103) -/
def execHsum (eng : Fin 512) (s : State) : Host.Outcome State Fault Refusal :=
  s.run fun b => b.opHsum eng.val

/-- CMPEQ: Lane equality compare into a predicate. (R103) -/
def execCmpeq (eng : Fin 512) (s : State) : Host.Outcome State Fault Refusal :=
  s.run fun b => b.opCmpeq eng.val

/-- CMPNE: Lane inequality compare into a predicate. (R103) -/
def execCmpne (eng : Fin 512) (s : State) : Host.Outcome State Fault Refusal :=
  s.run fun b => b.opCmpne eng.val

/-- CMPLT: Signed less-than compare into a predicate. (R103) -/
def execCmplt (eng : Fin 512) (s : State) : Host.Outcome State Fault Refusal :=
  s.run fun b => b.opCmplt eng.val

/-- CMPLE: Signed less-or-equal compare into a predicate. (R103) -/
def execCmple (eng : Fin 512) (s : State) : Host.Outcome State Fault Refusal :=
  s.run fun b => b.opCmple eng.val

/-- CMPLTU: Unsigned less-than compare into a predicate. (R103) -/
def execCmpltu (eng : Fin 512) (s : State) : Host.Outcome State Fault Refusal :=
  s.run fun b => b.opCmpltu eng.val

/-- PAND: Predicate AND. (R103) -/
def execPand (eng : Fin 512) (s : State) : Host.Outcome State Fault Refusal :=
  s.run fun b => b.opPand eng.val

/-- POR: Predicate OR. (R103) -/
def execPor (eng : Fin 512) (s : State) : Host.Outcome State Fault Refusal :=
  s.run fun b => b.opPor eng.val

/-- PNOT: Predicate NOT. (R103) -/
def execPnot (eng : Fin 512) (s : State) : Host.Outcome State Fault Refusal :=
  s.run fun b => b.opPnot eng.val

/-- PSET: Set a predicate to an immediate mask. (R103) -/
def execPset (eng : Fin 512) (s : State) : Host.Outcome State Fault Refusal :=
  s.run fun b => b.opPset eng.val

/-- LDI: Load a sign-extended 16-bit immediate. (R103) -/
def execLdi (eng : Fin 512) (s : State) : Host.Outcome State Fault Refusal :=
  s.run fun b => b.opLdi eng.val

/-- LDIH: Load an immediate into the upper 16 bits. (R103) -/
def execLdih (eng : Fin 512) (s : State) : Host.Outcome State Fault Refusal :=
  s.run fun b => b.opLdih eng.val

/-- ADDI: Saturating addition of a signed 15-bit immediate. (R103) -/
def execAddi (eng : Fin 512) (s : State) : Host.Outcome State Fault Refusal :=
  s.run fun b => b.opAddi eng.val

/-- CMUL: Coefficient product with rounding and saturation. (R107) -/
def execCmul (eng : Fin 512) (s : State) : Host.Outcome State Fault Refusal :=
  s.run fun b => b.opCmul eng.val

/-- CLD: Load a raw coefficient word. (R103) -/
def execCld (eng : Fin 512) (s : State) : Host.Outcome State Fault Refusal :=
  s.run fun b => b.opCld eng.val

/-- CMAC: Add an aligned coefficient product to the accumulator. (R108) -/
def execCmac (eng : Fin 512) (s : State) : Host.Outcome State Fault Refusal :=
  s.run fun b => b.opCmac eng.val

/-- CMSU: Subtract an aligned coefficient product from the accumulator. (R108) -/
def execCmsu (eng : Fin 512) (s : State) : Host.Outcome State Fault Refusal :=
  s.run fun b => b.opCmsu eng.val

/-- CLRA: Clear accumulator lanes. (R103) -/
def execClra (eng : Fin 512) (s : State) : Host.Outcome State Fault Refusal :=
  s.run fun b => b.opClra eng.val

/-- ADDA: Add a lane value into the accumulator. (R103) -/
def execAdda (eng : Fin 512) (s : State) : Host.Outcome State Fault Refusal :=
  s.run fun b => b.opAdda eng.val

/-- ACCR: Read the accumulator with rounding shift and saturation. (R109) -/
def execAccr (eng : Fin 512) (s : State) : Host.Outcome State Fault Refusal :=
  s.run fun b => b.opAccr eng.val

/-- ACCL: Load a lane value into the accumulator. (R103) -/
def execAccl (eng : Fin 512) (s : State) : Host.Outcome State Fault Refusal :=
  s.run fun b => b.opAccl eng.val

/-- LD: Load from the task's tile memory, checked against tables and locks. (R113) -/
def execLdTile (eng : Fin 512) (s : State) : Host.Outcome State Fault Refusal :=
  s.run fun b => b.opLd eng.val

/-- ST: Store to the task's tile memory, checked against tables and locks. (R113) -/
def execStTile (eng : Fin 512) (s : State) : Host.Outcome State Fault Refusal :=
  s.run fun b => b.opSt eng.val

/-- LDX: Gather load of tile memory words indexed per lane. (R113) -/
def execLdx (eng : Fin 512) (s : State) : Host.Outcome State Fault Refusal :=
  s.run fun b => b.opLdx eng.val

/-- GLD: Issue a global load from a 49-bit address. (R114) -/
def execGld (eng : Fin 512) (s : State) : Host.Outcome State Fault Refusal :=
  s.run fun b => b.opGld eng.val

/-- GLD_RESPONSE: The result or refusal of an outstanding global load arrives and is written or discarded. (R114) -/
def execGldResponse (task : Fin 4096) (num : Nat) (s : State) : Host.Outcome State Fault Refusal :=
  s.run fun b => b.live fun b => b.gldResponse task.val num

/-- GST: Issue a posted global store. (R114) -/
def execGst (eng : Fin 512) (s : State) : Host.Outcome State Fault Refusal :=
  s.run fun b => b.opGst eng.val

/-- GST_COMPLETE: An outstanding global store completes or is refused, possibly releasing a waiting END. (R118) -/
def execGstComplete (task : Fin 4096) (num : Nat) (s : State) : Host.Outcome State Fault Refusal :=
  s.run fun b => b.live fun b => b.gstComplete task.val num

/-- SMP: Read the latest sample word of a sensor channel with its validity. (R115) -/
def execSmp (eng : Fin 512) (s : State) : Host.Outcome State Fault Refusal :=
  s.run fun b => b.opSmp eng.val

/-- TBR: Read a timebase, trigger time, deadline or backstop value. (R116) -/
def execTbr (eng : Fin 512) (s : State) : Host.Outcome State Fault Refusal :=
  s.run fun b => b.opTbr eng.val

/-- OUT: Stage a value for an output entry. (R117) -/
def execOutStage (eng : Fin 512) (s : State) : Host.Outcome State Fault Refusal :=
  s.run fun b => b.opOut eng.val

/-- FLG: Copy FLAGS into a lane once earlier flag-setting instructions completed. (R103) -/
def execFlg (eng : Fin 512) (s : State) : Host.Outcome State Fault Refusal :=
  s.run fun b => b.opFlg eng.val

end Sys2Proof.Machine
end

