-- ==== Sys2Proof/Machine/SupplyRows.lean ====
section
/-!
DEFINITION. The meanings of the commands whose operations stand in Machine/Supply.lean, one for each row.
-/

namespace Sys2Proof.Machine

/-- CRANK_ENTRY: A supply below 6.0 V enters CRANK_HOLD with reduced LECLK and frozen outputs. (R368) -/
def execCrankEntry (mv : Nat) (s : State) : Host.Outcome State Fault Refusal :=
  s.run fun b => b.crankEntry mv

/-- STORE_EXHAUSTED: An exhausted hold-up store enters CRANK_SLEEP with domains in retention. (R368) -/
def execStoreExhausted (mv : Nat) (s : State) : Host.Outcome State Fault Refusal :=
  s.run fun b => b.storeExhausted mv

/-- NORMAL_RETURN: A supply at or above 6.5 V for 10 ms returns to NORMAL and applies stored commands. (R370) -/
def execNormalReturn (mv : Nat) (since : Nat) (s : State) : Host.Outcome State Fault Refusal :=
  s.run fun b => b.normalReturn mv since

/-- SUPPLY_OFF: A supply below 3.0 V switches every output off and resets the module. (R368) -/
def execSupplyOff (mv : Nat) (s : State) : Host.Outcome State Fault Refusal :=
  s.run fun b => b.supplyOff mv

/-- SUPPLY_HIGH: A supply above 32.0 V for 1 ms sets HIGH and raises a SUPPLY record. (R372) -/
def execSupplyHigh (mv : Nat) (since : Nat) (s : State) : Host.Outcome State Fault Refusal :=
  s.run fun b => b.supplyHigh mv since

/-- HIGH_CLEAR: HIGH clears after the supply has been at or below 31.0 V for 1 s. (R372) -/
def execHighClear (mv : Nat) (since : Nat) (s : State) : Host.Outcome State Fault Refusal :=
  s.run fun b => b.highClear mv since

/-- HOLDUP_CHECK: 5 s after the start an uncharged store raises HOLDUP_LOW. (R369) -/
def execHoldupCheck (s : State) : Host.Outcome State Fault Refusal :=
  s.run fun b => b.holdupCheck

end Sys2Proof.Machine
end

