-- ==== Sys2Proof/Machine/TbuRows.lean ====
section
/-!
DEFINITION. The meanings of the commands whose operations stand in Machine/Tbu.lean, one for each row.
-/

namespace Sys2Proof.Machine

/-- SOURCE_PULSE: A filtered encoder edge adds or subtracts TB_SCALE on a built timebase, stepping forward if
  interpolation lagged. (R36) -/
def execSourcePulse (tb : Fin 16) (s : State) : Host.Outcome State Fault Refusal :=
  s.run fun b => b.sourcePulse tb.val

/-- INDEX_PULSE: An index pulse corrects the angle of an angular timebase to TB_INDEX.OFFSET in the direction of
  movement, or holds it. (R40) -/
def execIndexPulse (tb : Fin 16) (s : State) : Host.Outcome State Fault Refusal :=
  s.run fun b => b.indexPulse tb.val

/-- TB_STALL_EXPIRY: No pulse for TB_STALL ms sets the interpolation rate to 0 and STALLED to 1. (R39) -/
def execTbStallExpiry (tb : Fin 16) (s : State) : Host.Outcome State Fault Refusal :=
  s.run fun b => b.tbStallExpiry tb.val

/-- TB3_SLIP_UPDATE: Every 100 ms with valid GNSS ground speed above 0.5 m/s, SLIP moves by at most 0.5 % toward
  matching wheel speed. (R41) -/
def execTb3SlipUpdate (s : State) : Host.Outcome State Fault Refusal :=
  s.run fun b => b.live fun b => b.slipUpdate

/-- TB2_SET_LOW_WRITE: A write to TB2_SET_LO stores the low word without loading TB2. (R42) -/
def execTb2SetLowWrite (v : Word) (s : State) : Host.Outcome State Fault Refusal :=
  s.run fun b => b.live fun b => b.tb2SetLow v

/-- TB2_LOAD: A write covering TB2_SET_HI loads TB2 on the next tick and flags a step when TB2 was already valid.
  (R42) -/
def execTb2Load (hi : Word) (lo : Option Word) (s : State) : Host.Outcome State Fault Refusal :=
  s.run fun b => b.live fun b => b.tb2LoadWrite hi lo

/-- TBU_SNAP: A write of 1 to TBU_SNAP copies the next tick's snapshot of all timebases into the snapshot registers.
  (R32) -/
def execTbuSnap (s : State) : Host.Outcome State Fault Refusal :=
  s.run fun b => b.live fun b => b.tbuSnap

/-- SLOT_ARM: A slot is armed on EN 0 to 1 or a change of its settings, checked under R451 and fired late if COUNT
  already passed. (R46) -/
def execSlotArm (slot : Fin 1024) (ctrl : Word) (s : State) : Host.Outcome State Fault Refusal :=
  s.run fun b => b.live fun b => b.slotCtrlWrite slot.val ctrl

/-- SLOT_COUNT_LOW_WRITE: While EN is 1 a write to SLOT_COUNT_LO is held without changing COUNT or re-arming. (R452)
  -/
def execSlotCountLowWrite (slot : Fin 1024) (v : Word) (s : State) : Host.Outcome State Fault Refusal :=
  s.run fun b => b.live fun b => b.slotCountLow slot.val v

/-- SLOT_COUNT_HIGH_WRITE: A write covering SLOT_COUNT_HI sets COUNT from the high and chosen low word and re-arms the
  slot. (R452) -/
def execSlotCountHighWrite (slot : Fin 1024) (hi : Word) (lo : Option Word) (s : State) :
    Host.Outcome State Fault Refusal :=
  s.run fun b => b.live fun b => b.slotCountHigh slot.val hi lo

/-- SLOT_PERIOD_WRITE: A write of SLOT_PERIOD words sets PERIOD for use at the next advance, without re-arming. (R452)
  -/
def execSlotPeriodWrite (slot : Fin 1024) (lo : Option Word) (hi : Option Word) (s : State) :
    Host.Outcome State Fault Refusal :=
  s.run fun b => b.live fun b => b.slotPeriodWrite slot.val lo hi

/-- SLOT_FIRE: A timebase reaches or passes a slot's COUNT in its direction and the slot fires its target and applies
  its mode. (R44) -/
def execSlotFire (slot : Fin 1024) (s : State) : Host.Outcome State Fault Refusal :=
  s.run fun b => b.live fun b => b.slotFire slot.val

end Sys2Proof.Machine
end

