-- ==== Sys2Proof/Machine/TickRows.lean ====
section
/-!
DEFINITION. The meanings of the commands whose operations stand in Machine/Tick.lean, one for each row.
-/

namespace Sys2Proof.Machine

/-- TBU_TICK: On each 10 ns tick the TBU snapshots all sixteen timebases, interpolates, evaluates slots, windows and
  deadlines. (R32) -/
def execTbuTick (s : State) : Host.Outcome State Fault Refusal :=
  s.run fun b => b.tbuTick

end Sys2Proof.Machine
end

