-- ==== Sys2Proof/Machine/YldRows.lean ====
section
/-!
DEFINITION. The meanings of the commands whose operations stand in Machine/Yld.lean, one for each row.
-/

namespace Sys2Proof.Machine

/-- FIELD_LOAD: A write of HPC_FIELD.SLOT starts loading that slot's surfaces from the journal. (R142) -/
def execFieldLoad (slot : Fin 64) (s : State) : Host.Outcome State Fault Refusal :=
  s.run fun b => b.live fun b => b.fieldLoadRow slot.val

/-- MASS_FLOW_READ: Every 10 ms mass flow and moisture are read, substituted if invalid and attributed to the cutting
  instant. (R283) -/
def execMassFlowRead (s : State) : Host.Outcome State Fault Refusal :=
  s.run fun b => b.massFlowRead

/-- CELL_CLOSE: A map cell closes DELAY_MS + 100 ms after its last cutting instant and joins the open tile. (R286) -/
def execCellClose (s : State) : Host.Outcome State Fault Refusal :=
  s.run fun b => b.cellClose

/-- EXPORT_START: A write of YLD_EXPORT.START begins the ISO 11783-10 export of a job. (R289) -/
def execExportStart (s : State) : Host.Outcome State Fault Refusal :=
  s.run fun b => b.live fun b => b.exportStart

/-- EXPORT_DONE: The export completes or overflows and sets EXPORT_DONE with EXP_LEN. (R289) -/
def execExportDone (s : State) : Host.Outcome State Fault Refusal :=
  s.run fun b => b.exportDone

/-- JOB_OPEN: A write of JOB_OPEN opens a job with hour and day periods, or is refused. (R290) -/
def execJobOpen (s : State) : Host.Outcome State Fault Refusal :=
  s.run fun b => b.live fun b => b.jobOpen

/-- JOB_CLOSE: A write of JOB_CLOSE puts the job in CLOSING. (R290) -/
def execJobClose (s : State) : Host.Outcome State Fault Refusal :=
  s.run fun b => b.live fun b => b.jobClose

/-- JOB_CLOSE_COMPLETE: DELAY_MS + 2 s after closing began the hour, day and job periods close and JOB_CLOSE is
  written. (R290) -/
def execJobCloseComplete (s : State) : Host.Outcome State Fault Refusal :=
  s.run fun b => b.jobCloseComplete

/-- HOUR_CLOSE: Every 3600 s of TB1 the hour period closes and its successor opens. (R293) -/
def execHourClose (s : State) : Host.Outcome State Fault Refusal :=
  s.run fun b => b.hourClose

/-- DAY_CLOSE: At the day boundary on TB1 the day period closes and its successor opens. (R293) -/
def execDayClose (s : State) : Host.Outcome State Fault Refusal :=
  s.run fun b => b.dayClose

/-- CHECKPOINT: Every 1 s of TB1 the open periods are checkpointed to the journal. (R295) -/
def execCheckpoint (s : State) : Host.Outcome State Fault Refusal :=
  s.run fun b => b.checkpoint

/-- ACCRUAL_ACCEPT: An accrual input level held 100 ms is accepted and dated back to its change. (R296) -/
def execAccrualAccept (input : Fin 8) (s : State) : Host.Outcome State Fault Refusal :=
  s.run fun b => b.accrAccept input.val

/-- JOURNAL_FLUSH: A journal page is written when full, 1 s after its first entry or on crank entry. (R394) -/
def execJournalFlush (s : State) : Host.Outcome State Fault Refusal :=
  s.run fun b => b.journalFlush

end Sys2Proof.Machine
end

