-- ==== Sys2Proof/Machine/Dispatch.lean ====
section
/-!
DEFINITION. One arm for each command: each calls its meaning.
-/

namespace Sys2Proof.Machine

/-- The effect of a command on everything but the queue. -/
def exec (i : Instr) (s : State) : Host.Outcome State Fault Refusal :=
  match i with
  | .registerWrite mid addr width data env => Sys2Proof.Machine.execRegisterWrite mid addr width data env s
  | .targetAccess origin write addr width data edge => Sys2Proof.Machine.execTargetAccess origin write addr width data edge s
  | .accessAccept target edge env => Sys2Proof.Machine.execAccessAccept target edge env s
  | .faultRecordSend => Sys2Proof.Machine.execFaultRecordSend s
  | .classSeenClear bits => Sys2Proof.Machine.execClassSeenClear bits s
  | .tbuTick => Sys2Proof.Machine.execTbuTick s
  | .sourcePulse tb => Sys2Proof.Machine.execSourcePulse tb s
  | .indexPulse tb => Sys2Proof.Machine.execIndexPulse tb s
  | .tbStallExpiry tb => Sys2Proof.Machine.execTbStallExpiry tb s
  | .tb3SlipUpdate => Sys2Proof.Machine.execTb3SlipUpdate s
  | .tb2SetLowWrite v => Sys2Proof.Machine.execTb2SetLowWrite v s
  | .tb2Load hi lo => Sys2Proof.Machine.execTb2Load hi lo s
  | .tbuSnap => Sys2Proof.Machine.execTbuSnap s
  | .encCfgWrite ch v => Sys2Proof.Machine.execEncCfgWrite ch v s
  | .slotArm slot ctrl => Sys2Proof.Machine.execSlotArm slot ctrl s
  | .slotCountLowWrite slot v => Sys2Proof.Machine.execSlotCountLowWrite slot v s
  | .slotCountHighWrite slot hi lo => Sys2Proof.Machine.execSlotCountHighWrite slot hi lo s
  | .slotPeriodWrite slot lo hi => Sys2Proof.Machine.execSlotPeriodWrite slot lo hi s
  | .slotFire slot => Sys2Proof.Machine.execSlotFire slot s
  | .triggerArrival task => Sys2Proof.Machine.execTriggerArrival task s
  | .deadlineReached task => Sys2Proof.Machine.execDeadlineReached task s
  | .backstopReached task => Sys2Proof.Machine.execBackstopReached task s
  | .taskEnable task => Sys2Proof.Machine.execTaskEnable task s
  | .taskDisable task => Sys2Proof.Machine.execTaskDisable task s
  | .taskSwap task => Sys2Proof.Machine.execTaskSwap task s
  | .taskPlClr task => Sys2Proof.Machine.execTaskPlClr task s
  | .taskManWrite task man => Sys2Proof.Machine.execTaskManWrite task man s
  | .sampleBoundary eng => Sys2Proof.Machine.execSampleBoundary eng s
  | .preempt eng => Sys2Proof.Machine.execPreempt eng s
  | .resume eng => Sys2Proof.Machine.execResume eng s
  | .commit eng => Sys2Proof.Machine.execCommit eng s
  | .instanceAbort task => Sys2Proof.Machine.execInstanceAbort task s
  | .drainLimit task => Sys2Proof.Machine.execDrainLimit task s
  | .occWindow tile => Sys2Proof.Machine.execOccWindow tile s
  | .graceEnd tile => Sys2Proof.Machine.execGraceEnd tile s
  | .ill eng => Sys2Proof.Machine.execIll eng s
  | .nop eng => Sys2Proof.Machine.execNop eng s
  | .endInstr eng => Sys2Proof.Machine.execEndInstr eng s
  | .branch eng => Sys2Proof.Machine.execBranch eng s
  | .add eng => Sys2Proof.Machine.execAdd eng s
  | .sub eng => Sys2Proof.Machine.execSub eng s
  | .addw eng => Sys2Proof.Machine.execAddw eng s
  | .subw eng => Sys2Proof.Machine.execSubw eng s
  | .minLane eng => Sys2Proof.Machine.execMinLane eng s
  | .maxLane eng => Sys2Proof.Machine.execMaxLane eng s
  | .absLane eng => Sys2Proof.Machine.execAbsLane eng s
  | .neg eng => Sys2Proof.Machine.execNeg eng s
  | .andLane eng => Sys2Proof.Machine.execAndLane eng s
  | .orLane eng => Sys2Proof.Machine.execOrLane eng s
  | .xorLane eng => Sys2Proof.Machine.execXorLane eng s
  | .shl eng => Sys2Proof.Machine.execShl eng s
  | .shr eng => Sys2Proof.Machine.execShr eng s
  | .shrr eng => Sys2Proof.Machine.execShrr eng s
  | .mul eng => Sys2Proof.Machine.execMul eng s
  | .div eng => Sys2Proof.Machine.execDiv eng s
  | .mov eng => Sys2Proof.Machine.execMov eng s
  | .bcst eng => Sys2Proof.Machine.execBcst eng s
  | .movl eng => Sys2Proof.Machine.execMovl eng s
  | .hsum eng => Sys2Proof.Machine.execHsum eng s
  | .cmpeq eng => Sys2Proof.Machine.execCmpeq eng s
  | .cmpne eng => Sys2Proof.Machine.execCmpne eng s
  | .cmplt eng => Sys2Proof.Machine.execCmplt eng s
  | .cmple eng => Sys2Proof.Machine.execCmple eng s
  | .cmpltu eng => Sys2Proof.Machine.execCmpltu eng s
  | .pand eng => Sys2Proof.Machine.execPand eng s
  | .por eng => Sys2Proof.Machine.execPor eng s
  | .pnot eng => Sys2Proof.Machine.execPnot eng s
  | .pset eng => Sys2Proof.Machine.execPset eng s
  | .ldi eng => Sys2Proof.Machine.execLdi eng s
  | .ldih eng => Sys2Proof.Machine.execLdih eng s
  | .addi eng => Sys2Proof.Machine.execAddi eng s
  | .cmul eng => Sys2Proof.Machine.execCmul eng s
  | .cld eng => Sys2Proof.Machine.execCld eng s
  | .cmac eng => Sys2Proof.Machine.execCmac eng s
  | .cmsu eng => Sys2Proof.Machine.execCmsu eng s
  | .clra eng => Sys2Proof.Machine.execClra eng s
  | .adda eng => Sys2Proof.Machine.execAdda eng s
  | .accr eng => Sys2Proof.Machine.execAccr eng s
  | .accl eng => Sys2Proof.Machine.execAccl eng s
  | .ldTile eng => Sys2Proof.Machine.execLdTile eng s
  | .stTile eng => Sys2Proof.Machine.execStTile eng s
  | .ldx eng => Sys2Proof.Machine.execLdx eng s
  | .gld eng => Sys2Proof.Machine.execGld eng s
  | .gldResponse task num => Sys2Proof.Machine.execGldResponse task num s
  | .gst eng => Sys2Proof.Machine.execGst eng s
  | .gstComplete task num => Sys2Proof.Machine.execGstComplete task num s
  | .smp eng => Sys2Proof.Machine.execSmp eng s
  | .tbr eng => Sys2Proof.Machine.execTbr eng s
  | .outStage eng => Sys2Proof.Machine.execOutStage eng s
  | .flg eng => Sys2Proof.Machine.execFlg eng s
  | .controlRound x late => Sys2Proof.Machine.execControlRound x late s
  | .roundOverrun => Sys2Proof.Machine.execRoundOverrun s
  | .hpcWriteDenied fn => Sys2Proof.Machine.execHpcWriteDenied fn s
  | .optimiserProposal => Sys2Proof.Machine.execOptimiserProposal s
  | .fieldLoad slot => Sys2Proof.Machine.execFieldLoad slot s
  | .fieldLoadDone => Sys2Proof.Machine.execFieldLoadDone s
  | .surfaceSave => Sys2Proof.Machine.execSurfaceSave s
  | .setpointArrival c => Sys2Proof.Machine.execSetpointArrival c s
  | .currentSample c code cnt => Sys2Proof.Machine.execCurrentSample c code cnt s
  | .pwmEdge c => Sys2Proof.Machine.execPwmEdge c s
  | .pwmPhaseTrigger c => Sys2Proof.Machine.execPwmPhaseTrigger c s
  | .coilBandUpdate c => Sys2Proof.Machine.execCoilBandUpdate c s
  | .pullinTimeout c => Sys2Proof.Machine.execPullinTimeout c s
  | .tripAssert t => Sys2Proof.Machine.execTripAssert t s
  | .tripRelease t => Sys2Proof.Machine.execTripRelease t s
  | .solTripClear c => Sys2Proof.Machine.execSolTripClear c s
  | .solFaultClear c => Sys2Proof.Machine.execSolFaultClear c s
  | .solEnable c => Sys2Proof.Machine.execSolEnable c s
  | .solDisable c => Sys2Proof.Machine.execSolDisable c s
  | .companionOvertemp k temp => Sys2Proof.Machine.execCompanionOvertemp k temp s
  | .linkFrame k => Sys2Proof.Machine.execLinkFrame k s
  | .watchdogExpiry k => Sys2Proof.Machine.execWatchdogExpiry k s
  | .limpHomeEntry => Sys2Proof.Machine.execLimpHomeEntry s
  | .limpPinChange p high => Sys2Proof.Machine.execLimpPinChange p high s
  | .limpRelease zs8 zp16 => Sys2Proof.Machine.execLimpRelease zs8 zp16 s
  | .feedUndervoltage k mv => Sys2Proof.Machine.execFeedUndervoltage k mv s
  | .feedRecovery k mv since => Sys2Proof.Machine.execFeedRecovery k mv since s
  | .lswCommand c => Sys2Proof.Machine.execLswCommand c s
  | .senseSample c ua => Sys2Proof.Machine.execSenseSample c ua s
  | .lswShort c since peak => Sys2Proof.Machine.execLswShort c since peak s
  | .lswOverload c since peak => Sys2Proof.Machine.execLswOverload c since peak s
  | .lampLimitOff c limit since peak => Sys2Proof.Machine.execLampLimitOff c limit since peak s
  | .lswRetry c => Sys2Proof.Machine.execLswRetry c s
  | .retryEpisodeEnd c => Sys2Proof.Machine.execRetryEpisodeEnd c s
  | .feedShed k feed since => Sys2Proof.Machine.execFeedShed k feed since s
  | .shedEpisodeEnd k feed since => Sys2Proof.Machine.execShedEpisodeEnd k feed since s
  | .lswJunctionOvertemp c temp => Sys2Proof.Machine.execLswJunctionOvertemp c temp s
  | .lswFaultClear c => Sys2Proof.Machine.execLswFaultClear c s
  | .lswTripClear c => Sys2Proof.Machine.execLswTripClear c s
  | .lswEnable c => Sys2Proof.Machine.execLswEnable c s
  | .lswDisable c => Sys2Proof.Machine.execLswDisable c s
  | .openLoadCheck c mv => Sys2Proof.Machine.execOpenLoadCheck c mv s
  | .openLoadDisable c => Sys2Proof.Machine.execOpenLoadDisable c s
  | .ainWord a pins exc => Sys2Proof.Machine.execAinWord a pins exc s
  | .ainCfgWrite a v => Sys2Proof.Machine.execAinCfgWrite a v s
  | .excitationFault g mv limited => Sys2Proof.Machine.execExcitationFault g mv limited s
  | .impSample input mv => Sys2Proof.Machine.execImpSample input mv s
  | .sensorSampleTrigger ch => Sys2Proof.Machine.execSensorSampleTrigger ch s
  | .encEdge e level since partner => Sys2Proof.Machine.execEncEdge e level since partner s
  | .housekeepingRound x energy => Sys2Proof.Machine.execHousekeepingRound x energy s
  | .reductionEnd => Sys2Proof.Machine.execReductionEnd s
  | .shutdownRestart => Sys2Proof.Machine.execShutdownRestart s
  | .coolHostWrite f v => Sys2Proof.Machine.execCoolHostWrite f v s
  | .hostSilent => Sys2Proof.Machine.execHostSilent s
  | .coolFault f => Sys2Proof.Machine.execCoolFault f s
  | .coolFaultClear f => Sys2Proof.Machine.execCoolFaultClear f s
  | .frameStart p vc fnum h => Sys2Proof.Machine.execFrameStart p vc fnum h s
  | .frameEnd p vc h => Sys2Proof.Machine.execFrameEnd p vc h s
  | .longPacket p vc dt h vals crcOk lost => Sys2Proof.Machine.execLongPacket p vc dt h vals crcOk lost s
  | .linePacket p vc h => Sys2Proof.Machine.execLinePacket p vc h s
  | .streamAddressCommit p str late => Sys2Proof.Machine.execStreamAddressCommit p str late s
  | .parameterCommit p delay late => Sys2Proof.Machine.execParameterCommit p delay late s
  | .pipelineEnable p => Sys2Proof.Machine.execPipelineEnable p s
  | .pipelineDisable p => Sys2Proof.Machine.execPipelineDisable p s
  | .exposureTrigger p => Sys2Proof.Machine.execExposureTrigger p s
  | .triggerPulseEnd p => Sys2Proof.Machine.execTriggerPulseEnd p s
  | .noFrame p => Sys2Proof.Machine.execNoFrame p s
  | .noEnd p str => Sys2Proof.Machine.execNoEnd p str s
  | .noStart p str => Sys2Proof.Machine.execNoStart p str s
  | .cciStart p cmd => Sys2Proof.Machine.execCciStart p cmd s
  | .cciDone p nack rx => Sys2Proof.Machine.execCciDone p nack rx s
  | .poseUpdate pose fed => Sys2Proof.Machine.execPoseUpdate pose fed s
  | .epoch head => Sys2Proof.Machine.execEpoch head s
  | .sensorDropped sen => Sys2Proof.Machine.execSensorDropped sen s
  | .epochAbandon => Sys2Proof.Machine.execEpochAbandon s
  | .modelLoad m => Sys2Proof.Machine.execModelLoad m s
  | .frameInference m p feats words => Sys2Proof.Machine.execFrameInference m p feats words s
  | .pointPacket e port data => Sys2Proof.Machine.execPointPacket e port data s
  | .fusionEnable => Sys2Proof.Machine.execFusionEnable s
  | .fusionDisable => Sys2Proof.Machine.execFusionDisable s
  | .channelAssign ch cands => Sys2Proof.Machine.execChannelAssign ch cands s
  | .channelRelease ch elev => Sys2Proof.Machine.execChannelRelease ch elev s
  | .correlatorDump ch iq cn0 doppler aid osc => Sys2Proof.Machine.execCorrelatorDump ch iq cn0 doppler aid osc s
  | .signalFound ch code doppler pred => Sys2Proof.Machine.execSignalFound ch code doppler pred s
  | .pullInLock ch since => Sys2Proof.Machine.execPullInLock ch since s
  | .pullInTimeout ch => Sys2Proof.Machine.execPullInTimeout ch s
  | .coastEntry ch since sigV sigA => Sys2Proof.Machine.execCoastEntry ch since sigV sigA s
  | .coastExit ch since => Sys2Proof.Machine.execCoastExit ch since s
  | .coastTimeout ch => Sys2Proof.Machine.execCoastTimeout ch s
  | .spectrumScan ant band lines => Sys2Proof.Machine.execSpectrumScan ant band lines s
  | .notchRelease ant band k => Sys2Proof.Machine.execNotchRelease ant band k s
  | .jamEvaluation ant band agc sf => Sys2Proof.Machine.execJamEvaluation ant band agc sf s
  | .navSolution x => Sys2Proof.Machine.execNavSolution x s
  | .navSnap => Sys2Proof.Machine.execNavSnap s
  | .rtcmFrame frame => Sys2Proof.Machine.execRtcmFrame frame s
  | .correctionEpochClose => Sys2Proof.Machine.execCorrectionEpochClose s
  | .timeLock since gnss => Sys2Proof.Machine.execTimeLock since gnss s
  | .holdoverEntry err => Sys2Proof.Machine.execHoldoverEntry err s
  | .holdoverLimit err => Sys2Proof.Machine.execHoldoverLimit err s
  | .lockReturn gnss => Sys2Proof.Machine.execLockReturn gnss s
  | .ppsSecond => Sys2Proof.Machine.execPpsSecond s
  | .ppsWidthEnd => Sys2Proof.Machine.execPpsWidthEnd s
  | .nmeaOutput => Sys2Proof.Machine.execNmeaOutput s
  | .gnssEnable => Sys2Proof.Machine.execGnssEnable s
  | .gnssDisable err => Sys2Proof.Machine.execGnssDisable err s
  | .massFlowRead => Sys2Proof.Machine.execMassFlowRead s
  | .cellClose => Sys2Proof.Machine.execCellClose s
  | .exportStart => Sys2Proof.Machine.execExportStart s
  | .exportDone => Sys2Proof.Machine.execExportDone s
  | .jobOpen => Sys2Proof.Machine.execJobOpen s
  | .jobClose => Sys2Proof.Machine.execJobClose s
  | .jobCloseComplete => Sys2Proof.Machine.execJobCloseComplete s
  | .hourClose => Sys2Proof.Machine.execHourClose s
  | .dayClose => Sys2Proof.Machine.execDayClose s
  | .checkpoint => Sys2Proof.Machine.execCheckpoint s
  | .accrualAccept input => Sys2Proof.Machine.execAccrualAccept input s
  | .journalFlush => Sys2Proof.Machine.execJournalFlush s
  | .trainingAttempt p => Sys2Proof.Machine.execTrainingAttempt p s
  | .linkUp p => Sys2Proof.Machine.execLinkUp p s
  | .linkDown p sync => Sys2Proof.Machine.execLinkDown p sync s
  | .trainFlit p sport snode marker preset crc => Sys2Proof.Machine.execTrainFlit p sport snode marker preset crc s
  | .creditFlit p n crc => Sys2Proof.Machine.execCreditFlit p n crc s
  | .creditSend p => Sys2Proof.Machine.execCreditSend p s
  | .idleFlit p sync => Sys2Proof.Machine.execIdleFlit p sync s
  | .freezeFlit p id origin crc => Sys2Proof.Machine.execFreezeFlit p id origin crc s
  | .packetForward e arr => Sys2Proof.Machine.execPacketForward e arr s
  | .rdReq p k pcrc edge => Sys2Proof.Machine.execRdReq p k pcrc edge s
  | .rdRsp p k pcrc => Sys2Proof.Machine.execRdRsp p k pcrc s
  | .wrReq p k pcrc edge => Sys2Proof.Machine.execWrReq p k pcrc edge s
  | .wrRsp p k pcrc => Sys2Proof.Machine.execWrRsp p k pcrc s
  | .streamPacket p k pcrc => Sys2Proof.Machine.execStreamPacket p k pcrc s
  | .faultPacket p k pcrc => Sys2Proof.Machine.execFaultPacket p k pcrc s
  | .beaconPacket p k pcrc => Sys2Proof.Machine.execBeaconPacket p k pcrc s
  | .beaconSend p => Sys2Proof.Machine.execBeaconSend p s
  | .topoPacket p k pcrc => Sys2Proof.Machine.execTopoPacket p k pcrc s
  | .topoSend => Sys2Proof.Machine.execTopoSend s
  | .routeCompute => Sys2Proof.Machine.execRouteCompute s
  | .routePacket p k pcrc => Sys2Proof.Machine.execRoutePacket p k pcrc s
  | .timeSync p k pcrc => Sys2Proof.Machine.execTimeSync p k pcrc s
  | .syncSend => Sys2Proof.Machine.execSyncSend s
  | .delayMeasure t1 => Sys2Proof.Machine.execDelayMeasure t1 s
  | .delayReq p k pcrc t2 t3 => Sys2Proof.Machine.execDelayReq p k pcrc t2 t3 s
  | .delayRsp p k pcrc t4 => Sys2Proof.Machine.execDelayRsp p k pcrc t4 s
  | .tb0Pair p k pcrc => Sys2Proof.Machine.execTb0Pair p k pcrc s
  | .tb0PairSend => Sys2Proof.Machine.execTb0PairSend s
  | .tb0PairTimeout => Sys2Proof.Machine.execTb0PairTimeout s
  | .roleTake p k pcrc => Sys2Proof.Machine.execRoleTake p k pcrc s
  | .roleGive p k pcrc => Sys2Proof.Machine.execRoleGive p k pcrc s
  | .roleGrant p k pcrc => Sys2Proof.Machine.execRoleGrant p k pcrc s
  | .roleRefuse p k pcrc => Sys2Proof.Machine.execRoleRefuse p k pcrc s
  | .roleRequest v => Sys2Proof.Machine.execRoleRequest v s
  | .giveTimeout => Sys2Proof.Machine.execGiveTimeout s
  | .roleHoldoffEnd peer => Sys2Proof.Machine.execRoleHoldoffEnd peer s
  | .roleElection => Sys2Proof.Machine.execRoleElection s
  | .conductorLost => Sys2Proof.Machine.execConductorLost s
  | .contribPacket p k pcrc => Sys2Proof.Machine.execContribPacket p k pcrc s
  | .remoteRequestSend x => Sys2Proof.Machine.execRemoteRequestSend x s
  | .responseTimeout mid tag => Sys2Proof.Machine.execResponseTimeout mid tag s
  | .coalesceWindowEnd p => Sys2Proof.Machine.execCoalesceWindowEnd p s
  | .crcEpisodeEnd p => Sys2Proof.Machine.execCrcEpisodeEnd p s
  | .transferStart x go => Sys2Proof.Machine.execTransferStart x go s
  | .transferDone x => Sys2Proof.Machine.execTransferDone x s
  | .portEnable p => Sys2Proof.Machine.execPortEnable p s
  | .portDisable p => Sys2Proof.Machine.execPortDisable p s
  | .ethFrame e f => Sys2Proof.Machine.execEthFrame e f s
  | .ethDisable e => Sys2Proof.Machine.execEthDisable e s
  | .canFrameReceive k f full te re => Sys2Proof.Machine.execCanFrameReceive k f full te re s
  | .canTransmit k own te re => Sys2Proof.Machine.execCanTransmit k own te re s
  | .canRestart k => Sys2Proof.Machine.execCanRestart k s
  | .busOffRecovery k => Sys2Proof.Machine.execBusOffRecovery k s
  | .canDisable k bus => Sys2Proof.Machine.execCanDisable k bus s
  | .isobusMessage k f => Sys2Proof.Machine.execIsobusMessage k f s
  | .engineRequestSend => Sys2Proof.Machine.execEngineRequestSend s
  | .pgnTimeout group => Sys2Proof.Machine.execPgnTimeout group s
  | .fleetTake d => Sys2Proof.Machine.execFleetTake d s
  | .fleetGive d => Sys2Proof.Machine.execFleetGive d s
  | .fleetGrant d => Sys2Proof.Machine.execFleetGrant d s
  | .fleetRefuse d => Sys2Proof.Machine.execFleetRefuse d s
  | .fleetRoleRequest v => Sys2Proof.Machine.execFleetRoleRequest v s
  | .fleetRoleTimeout => Sys2Proof.Machine.execFleetRoleTimeout s
  | .fleetHoldoffEnd peer => Sys2Proof.Machine.execFleetHoldoffEnd peer s
  | .stateSend fill => Sys2Proof.Machine.execStateSend fill s
  | .unloadMessage d => Sys2Proof.Machine.execUnloadMessage d s
  | .unloadSend lat lon fill along across => Sys2Proof.Machine.execUnloadSend lat lon fill along across s
  | .unloadReady => Sys2Proof.Machine.execUnloadReady s
  | .unloadLost => Sys2Proof.Machine.execUnloadLost s
  | .fleetUnpair => Sys2Proof.Machine.execFleetUnpair s
  | .rtkDatagram d => Sys2Proof.Machine.execRtkDatagram d s
  | .ledgerSend => Sys2Proof.Machine.execLedgerSend s
  | .ledgerAck d => Sys2Proof.Machine.execLedgerAck d s
  | .ledgerResendTimeout => Sys2Proof.Machine.execLedgerResendTimeout s
  | .fleetDisable => Sys2Proof.Machine.execFleetDisable s
  | .logReadAdvance v => Sys2Proof.Machine.execLogReadAdvance v s
  | .crankEntry mv => Sys2Proof.Machine.execCrankEntry mv s
  | .storeExhausted mv => Sys2Proof.Machine.execStoreExhausted mv s
  | .normalReturn mv since => Sys2Proof.Machine.execNormalReturn mv since s
  | .supplyOff mv => Sys2Proof.Machine.execSupplyOff mv s
  | .supplyHigh mv since => Sys2Proof.Machine.execSupplyHigh mv since s
  | .highClear mv since => Sys2Proof.Machine.execHighClear mv since s
  | .holdupCheck => Sys2Proof.Machine.execHoldupCheck s
  | .domainRequest d => Sys2Proof.Machine.execDomainRequest d s
  | .domainOffRequest d => Sys2Proof.Machine.execDomainOffRequest d s
  | .domainForceOff d err => Sys2Proof.Machine.execDomainForceOff d err s
  | .domainAdmit => Sys2Proof.Machine.execDomainAdmit s
  | .rampEnd d => Sys2Proof.Machine.execRampEnd d s
  | .settleEnd d err => Sys2Proof.Machine.execSettleEnd d err s
  | .domainStopped d => Sys2Proof.Machine.execDomainStopped d s
  | .fullStart x => Sys2Proof.Machine.execFullStart x s
  | .failedStartRestart => Sys2Proof.Machine.execFailedStartRestart s
  | .updateStage => Sys2Proof.Machine.execUpdateStage s
  | .stageComplete nand => Sys2Proof.Machine.execStageComplete nand s
  | .stageAbort => Sys2Proof.Machine.execStageAbort s
  | .stageDiscard => Sys2Proof.Machine.execStageDiscard s
  | .recoveryHello src port d => Sys2Proof.Machine.execRecoveryHello src port d s
  | .recoveryBegin src port d => Sys2Proof.Machine.execRecoveryBegin src port d s
  | .recoveryData src port d => Sys2Proof.Machine.execRecoveryData src port d s
  | .recoveryCommit src port d => Sys2Proof.Machine.execRecoveryCommit src port d s
  | .recoveryCommitDone nand => Sys2Proof.Machine.execRecoveryCommitDone nand s
  | .otpWrite src port d => Sys2Proof.Machine.execOtpWrite src port d s
  | .readLog src port d => Sys2Proof.Machine.execReadLog src port d s
  | .recoveryRestart src port d => Sys2Proof.Machine.execRecoveryRestart src port d s
  | .bindingTimeout => Sys2Proof.Machine.execBindingTimeout s
  | .tapReset => Sys2Proof.Machine.execTapReset s
  | .bypass k ir x => Sys2Proof.Machine.execBypass k ir x s
  | .idcode k ir x => Sys2Proof.Machine.execIdcode k ir x s
  | .samplePreload k ir x => Sys2Proof.Machine.execSamplePreload k ir x s
  | .extest k ir x => Sys2Proof.Machine.execExtest k ir x s
  | .clamp k ir x => Sys2Proof.Machine.execClamp k ir x s
  | .highz k ir x => Sys2Proof.Machine.execHighz k ir x s
  | .extestPulse k ir x => Sys2Proof.Machine.execExtestPulse k ir x s
  | .extestTrain k ir x => Sys2Proof.Machine.execExtestTrain k ir x s
  | .dbgAccess ir x => Sys2Proof.Machine.execDbgAccess ir x s
  | .freezePin high => Sys2Proof.Machine.execFreezePin high s
  | .freezeRegister mid => Sys2Proof.Machine.execFreezeRegister mid s
  | .dbgRestart => Sys2Proof.Machine.execDbgRestart s
  | .modelLoadComplete m => Sys2Proof.Machine.execModelLoadComplete m s
  | .antennaBiasFault ant ua => Sys2Proof.Machine.execAntennaBiasFault ant ua s
  | .ethLinkChange e up => Sys2Proof.Machine.execEthLinkChange e up s
  | .busOff k => Sys2Proof.Machine.execBusOff k s
  | .recoverNRelease => Sys2Proof.Machine.execRecoverNRelease s
  | .phyLockChange p hs => Sys2Proof.Machine.execPhyLockChange p hs s
  | .sotSyncError p => Sys2Proof.Machine.execSotSyncError p s

end Sys2Proof.Machine
end

