-- ==== Sys2Proof/Safety.lean ====
section
/-!
DEFINITION. What claims about runs are stated in: the canonical form of registers, memory and OTP, and safe runs.
-/

namespace Sys2Proof.Machine

/-- The register map is in canonical form: keys rise strictly, and no word equals its reset value. -/
def Blk.regsWf (b : Blk) : Bool := SMap.wf regLt (fun k => k.1.resetWord k.2) b.regs

/-- A byte memory is in canonical form: addresses rise strictly, and no byte equals what an unlisted address reads as. -/
def Memory.wf (d : Byte) (m : List Host.Cell) : Bool := SMap.wf natLt (fun _ => d) m

/-- Registers, memory and OTP are in canonical form. -/
def Blk.wf (b : Blk) : Bool := b.regsWf && (Memory.wf freshByte b.mem && Memory.wf 0 b.otp)

/-- The state's block is in canonical form. -/
def State.wf (s : State) : Bool := s.blk.wf

/-- Command `c` has its effect on `s`: it answers a next state in which the queue is as it was and the block meets `P`. -/
def Completes (c : Instr) (s : State) (P : Blk → Prop) : Prop := ∃ b, exec c s = .next { s with blk := b } ∧ P b

/-- Every register word but those in `R` reads in `b` as in `a`. -/
def RegsKeptBut (R : RegName → Nat → Prop) (a b : Blk) : Prop := ∀ r i, ¬ R r i → b.reg r i = a.reg r i

/-- Every register word reads in `b` as in `a`. -/
def RegsKept (a b : Blk) : Prop := ∀ r i, b.reg r i = a.reg r i

/-- Every byte of memory reads in `b` as in `a`, and so does every byte of OTP. -/
def MemKept (a b : Blk) : Prop := (∀ x, b.byte x = a.byte x) ∧ ∀ x, otpByte b.otp x = otpByte a.otp x

/-- The block but for its registers, its memory and its counter of free values is as it was in `a`. -/
def UnitsKept (a b : Blk) : Prop := { a with regs := b.regs, mem := b.mem, free := b.free } = b

/-- A run of `n` steps from `s` neither faults nor is refused. -/
def runsSafely (n : Nat) (s : State) : Prop := ∃ t, Sys2Proof.core.run n s = .next t

end Sys2Proof.Machine
end

