-- ==== Sys2Proof/WellFormed.lean ====
section
/-!
DEFINITION. What a well-formed command is: its operands agree with each other where the spec ties them together.
-/

namespace Sys2Proof

/-- A packet has the payload flits that its LEN says, a RD_REQ none (R304, R305). -/
def Packet.wellFormed (k : Packet) : Bool := k.payload.length == if k.type = 1 then 0 else k.len.toNat

/-- A CAN frame has the data bytes that its length code says, and an 11-bit identifier unless IDE is 1 (R342, R343). -/
def CanFrame.wellFormed (f : CanFrame) : Bool :=
  f.data.length == Machine.dlcBytes f.fdf f.dlc.toNat && (f.ide || decide (f.id.toNat < 2 ^ 11))

/-- The payload of a UDP datagram fits the MTU of 1500 bytes behind the IPv6 and UDP headers (R339, R340). -/
def datagramWellFormed (d : List Byte) : Bool := decide (d.length ≤ 1452)

/-- A write or read of 32, 64 or 128 bits, as R8 has them. -/
def widthWellFormed (w : Nat) : Bool := w == 32 || w == 64 || w == 128

/-- A command is well-formed. -/
def Instr.wellFormed (i : Instr) : Bool :=
  match i with
  | .registerWrite _ _ w _ _ => widthWellFormed w
  | .packetForward _ (some (_, k, _, _)) => k.wellFormed
  | .rdReq _ k _ _ | .wrReq _ k _ _ => k.wellFormed
  | .rdRsp _ k _ | .wrRsp _ k _ | .streamPacket _ k _ | .faultPacket _ k _ | .beaconPacket _ k _ | .topoPacket _ k _ |
    .routePacket _ k _ | .timeSync _ k _ | .tb0Pair _ k _ | .roleTake _ k _ | .roleGive _ k _ | .roleGrant _ k _ |
    .roleRefuse _ k _ | .contribPacket _ k _ => k.wellFormed
  | .delayReq _ k _ _ _ | .delayRsp _ k _ _ => k.wellFormed
  | .creditFlit _ n _ => n.length == 6
  | .correlatorDump _ iq _ _ _ _ => iq.length == 7
  | .canFrameReceive _ f _ _ _ | .isobusMessage _ f => f.wellFormed
  | .housekeepingRound x _ => x.length == 104
  | .hpcWriteDenied f => f.val != 0
  | .pointPacket _ _ d | .ethFrame _ (.udp _ _ _ _ d) | .fleetTake d | .fleetGive d | .fleetGrant d | .fleetRefuse d | .unloadMessage d | .rtkDatagram d |
    .ledgerAck d => datagramWellFormed d
  | .recoveryHello _ _ d | .recoveryBegin _ _ d | .recoveryData _ _ d | .recoveryCommit _ _ d | .otpWrite _ _ d |
    .readLog _ _ d | .recoveryRestart _ _ d => datagramWellFormed d
  | _ => true

end Sys2Proof
end

