-- ==== Sys2Proof/Certificates/Slice0/Obligations.lean ====
section
/-!
DEFINITION. The statements about the model, for the provers: what the commands do, where they complete, what they leave as it is.
-/

open Sys2Proof Sys2Proof.Machine

namespace Sys2Proof.Claims

/-! ## What statements are made of -/

/-- The number limited to the signed numbers of `n` bits, and whether a limit was applied. -/
def limited (n : Nat) (v : Int) : Int × Bool :=
  if v < -(2 ^ (n - 1)) then (-(2 ^ (n - 1)), true) else if 2 ^ (n - 1) - 1 < v then (2 ^ (n - 1) - 1, true) else (v, false)

/-- The number as it is, no limit applied. -/
def plain (v : Int) : Int × Bool := (v, false)

/-- What an instruction of task `t` on engine `e` in `n` issue cycles leaves alone: every other task, every register but the
engine's count of issue cycles, which takes `n` more, and memory, which is as `f` has it. -/
def IssuedOn (f : Blk) (e t n : Nat) (a b : Blk) : Prop :=
  b.fld F.ENG_ISSUE_ISSUED e = (a.fld F.ENG_ISSUE_ISSUED e + n) % 2 ^ 32 ∧ (∀ u, u ≠ t → b.task u = a.task u) ∧
    RegsKeptBut (fun r i => r = .ENG_ISSUE ∧ i = e) a b ∧ MemKept f b

/-- As `IssuedOn`, memory being as it was. -/
def Issued (e t n : Nat) (a b : Blk) : Prop := IssuedOn a e t n a b

/-- PC of task `t` moves on by 4. -/
def PcMoves (t : Nat) (a b : Blk) : Prop := (b.task t).pc = (a.task t).pc + 4

/-- What a lane takes on the edge of the global load that it awaits, in place of the loaded word. -/
def lateLane (x : TaskSt) (r j : Nat) : Option Word := (x.awaited r j).bind fun g => SMap.get g.late j none

/-- From `x` to `y`, the lanes of register `vd` that `m` enables take `v`: at once, or where the lane awaits a global load on the
edge of that one (R121). No other lane changes, now or then. -/
def LanesGo (vd : Nat) (m : BitVec 4) (v : Nat → Word) (x y : TaskSt) : Prop := ∀ r j, j < 4 →
  let mine := r = vd ∧ m.getLsbD j = true
  y.lane r j = (if mine ∧ x.awaited r j = none then v j else x.lane r j) ∧
    lateLane y r j = if mine ∧ x.awaited r j ≠ none then some (v j) else lateLane x r j

/-- As `LanesGo`, of task `t`. -/
def LanesTake (t vd : Nat) (m : BitVec 4) (v : Nat → Word) (a b : Blk) : Prop := LanesGo vd m v (a.task t) (b.task t)

/-- An outstanding global load whatever waits for its edge. -/
def bareLoad (g : GldRec) : GldRec := { g with late := [] }

/-- In task `t`, the lanes of accumulator `n` that `m` enables take `v`, and no other lane changes. -/
def AccTakes (t n : Nat) (m : BitVec 4) (v : Nat → Int) (a b : Blk) : Prop :=
  ∀ r j, j < 4 → (b.task t).acc r j = if r = n ∧ m.getLsbD j = true then v j else (a.task t).acc r j

/-- Predicate `pd` of task `t` takes `v` (P0 ignores it), and no other predicate changes. -/
def PredTakes (t pd : Nat) (v : BitVec 4) (a b : Blk) : Prop :=
  ∀ n, (b.task t).pred n = if n = pd ∧ n ≠ 0 then v else (a.task t).pred n

/-- FLAGS of task `t` takes the bits `bits` where `on` holds, and loses none. -/
def FlagsTake (t bits : Nat) (on : Prop) (a b : Blk) : Prop :=
  (on → (b.task t).flags = (a.task t).flags ||| bits) ∧ (¬ on → (b.task t).flags = (a.task t).flags)

/-- Of task `t`, nothing but V, FLAGS and PC changes, and what waits for the edges of its outstanding global loads. -/
def OnlyLanes (t : Nat) (a b : Blk) : Prop :=
  b.task t = { a.task t with
    v := (b.task t).v, flags := (b.task t).flags, pc := (b.task t).pc, gld := (b.task t).gld } ∧
    (b.task t).gld.map bareLoad = (a.task t).gld.map bareLoad

/-- Of task `t`, nothing but the predicates and PC changes. -/
def OnlyPreds (t : Nat) (a b : Blk) : Prop := b.task t = { a.task t with p := (b.task t).p, pc := (b.task t).pc }

/-- Of task `t`, nothing but the accumulators, FLAGS and PC changes. -/
def OnlyAccs (t : Nat) (a b : Blk) : Prop :=
  b.task t = { a.task t with ac := (b.task t).ac, flags := (b.task t).flags, pc := (b.task t).pc }

/-- Of task `t`, nothing but PC changes. -/
def OnlyPc (t : Nat) (a b : Blk) : Prop := b.task t = { a.task t with pc := (b.task t).pc }

/-- Lane `j` of VA of the word at PC, signed. -/
def laneA (a : Blk) (t j : Nat) : Int := ((a.task t).lane (vaOf (a.fetch t)) j).toInt

/-- Lane `j` of VB of the word at PC, signed. -/
def laneB (a : Blk) (t j : Nat) : Int := ((a.task t).lane (vbOf (a.fetch t)) j).toInt

/-- The predicate that the word at PC names. -/
def maskOf (a : Blk) (t : Nat) : BitVec 4 := (a.task t).pred (pnOf (a.fetch t))

/-- Wherever the word at PC of the task that runs on an engine is a legal instruction of opcode `op` whose sources are ready, the
command `c` of that engine completes in `n` issue cycles: every enabled lane of VD takes `f` of the block, the task and
the lane, FLAGS.SAT is set exactly where a limit was applied in an enabled lane, PC moves on, and nothing else changes. -/
def LaneInstruction (c : Fin 512 → Instr) (op n : Nat) (f : Blk → Nat → Nat → Int × Bool) : Prop :=
  ∀ (s : State) (e : Fin 512) (t : Nat), s.blk.issues e op = some t → Completes (c e) s fun b =>
    LanesTake t (vdOf (s.blk.fetch t)) (maskOf s.blk t) (fun j => BitVec.ofInt 32 (f s.blk t j).1) s.blk b ∧
      FlagsTake t 1 (∃ j, j < 4 ∧ (maskOf s.blk t).getLsbD j = true ∧ (f s.blk t j).2 = true) s.blk b ∧
      PcMoves t s.blk b ∧ OnlyLanes t s.blk b ∧ Issued e t n s.blk b

/-- As `LaneInstruction`, for a compare: the enabled bits of PD take `f` of the lanes of VA and VB. -/
def CompareInstruction (c : Fin 512 → Instr) (op : Nat) (f : Word → Word → Prop) : Prop :=
  ∀ (s : State) (e : Fin 512) (t : Nat), s.blk.issues e op = some t → Completes (c e) s fun b =>
    let w := s.blk.fetch t
    let x := s.blk.task t
    (∀ n, n ≠ pdOf w ∨ n = 0 → (b.task t).pred n = x.pred n) ∧
      (pdOf w ≠ 0 → ∀ j, j < 4 → (maskOf s.blk t).getLsbD j = true →
        (((b.task t).pred (pdOf w)).getLsbD j = true ↔ f (x.lane (vaOf w) j) (x.lane (vbOf w) j))) ∧
      (pdOf w ≠ 0 → ∀ j, j < 4 → (maskOf s.blk t).getLsbD j = false →
        ((b.task t).pred (pdOf w)).getLsbD j = (x.pred (pdOf w)).getLsbD j) ∧
      PcMoves t s.blk b ∧ OnlyPreds t s.blk b ∧ Issued e t 1 s.blk b

/-- As `LaneInstruction`, for predicate logic: PD takes `f` of the task's predicates and the word. -/
def PredicateInstruction (c : Fin 512 → Instr) (op : Nat) (f : TaskSt → Nat → BitVec 4) : Prop :=
  ∀ (s : State) (e : Fin 512) (t : Nat), s.blk.issues e op = some t → Completes (c e) s fun b =>
    PredTakes t (pdOf (s.blk.fetch t)) (f (s.blk.task t) (s.blk.fetch t)) s.blk b ∧
      PcMoves t s.blk b ∧ OnlyPreds t s.blk b ∧ Issued e t 1 s.blk b

/-- As `LaneInstruction`, for an accumulator instruction: the enabled lanes of the accumulator that `ac` reads from the word
take `f` limited to 64 bits. -/
def AccInstruction (c : Fin 512 → Instr) (op : Nat) (ac : Nat → Nat) (f : Blk → Nat → Nat → Int) : Prop :=
  ∀ (s : State) (e : Fin 512) (t : Nat), s.blk.issues e op = some t → Completes (c e) s fun b =>
    AccTakes t (ac (s.blk.fetch t)) (maskOf s.blk t) (fun j => (limited 64 (f s.blk t j)).1) s.blk b ∧
      FlagsTake t 1 (∃ j, j < 4 ∧ (maskOf s.blk t).getLsbD j = true ∧ (limited 64 (f s.blk t j)).2 = true) s.blk b ∧
      PcMoves t s.blk b ∧ OnlyAccs t s.blk b ∧ Issued e t 1 s.blk b

/-- A packet of a type, sound in its header, arrives at an UP port of a node whose routers run. -/
def Arrives (b : Blk) (p : Nat) (k : Packet) (type : BitVec 4) : Prop :=
  b.fabRuns = true ∧ b.portUp p = true ∧ k.type = type ∧ lenOk k = true

/-- From `a` to `b` an access is refused: its requester `who` gets a refusal and zeros, nothing waits, ACC_REFUSED counts one, and
nothing changes but that count, the indices of the refusal log and its one record. After CONFIG_DONE a record of source `source`, class
0x0E, `detail` and `data` stands at index WR of the ring and WR counts up, where the security domain is ON and the ring is not full,
after what waited at its target (`f`, log 6); else LOST counts one. Before CONFIG_DONE nothing is logged. -/
def Refused (who : Requester) (op : AccOp) (source detail data : Nat) (a b : Blk) : Prop :=
  let at_ := a.logAddr + (a.reg .ACC_LOG_WR 0).toNat % a.logN * 16
  let logs := a.configDone = true ∧ a.logRuns = true ∧ a.logFill ≠ a.logN
  let f := if logs then a.settleMem at_ else a
  b.bus = { f.bus with results := f.bus.results ++ [⟨who, op, .deny, 0⟩] } ∧
    b.fld F.ACC_REFUSED_REFUSED 0 = (a.fld F.ACC_REFUSED_REFUSED 0 + 1) % 2 ^ 32 ∧
    RegsKeptBut (fun r i => i = 0 ∧ r ∈ [.ACC_REFUSED, .ACC_LOG_WR, .ACC_LOG_LOST]) f b ∧
    (∀ x, x < at_ ∨ at_ + 16 ≤ x → b.byte x = f.byte x) ∧ { f with regs := b.regs, mem := b.mem, bus := b.bus } = b ∧
    (logs → b.readMem at_ 16 = (a.mkRec source 0x0E detail data).bits.toNat ∧
      b.reg .ACC_LOG_WR 0 = a.reg .ACC_LOG_WR 0 + 1 ∧ b.reg .ACC_LOG_LOST 0 = a.reg .ACC_LOG_LOST 0) ∧
    (a.configDone = true → ¬ logs →
      MemKept a b ∧ b.reg .ACC_LOG_WR 0 = a.reg .ACC_LOG_WR 0 ∧
        b.fld F.ACC_LOG_LOST_LOST 0 = min (a.fld F.ACC_LOG_LOST_LOST 0 + 1) (2 ^ 32 - 1)) ∧
    (a.configDone = false →
      MemKept a b ∧ b.reg .ACC_LOG_WR 0 = a.reg .ACC_LOG_WR 0 ∧ b.reg .ACC_LOG_LOST 0 = a.reg .ACC_LOG_LOST 0)

/-- From `a` to `b`, the block in which task `t` has issued its instruction on engine `e` in one cycle, the one access of the
instruction is refused. -/
def RefusedIssue (e t : Nat) (who : Requester) (op : AccOp) (source detail data : Nat) (a b : Blk) : Prop :=
  ∃ r, Refused who op source detail data a r ∧ b.bus = r.bus ∧ IssuedOn r e t 1 r b

/-- The refusal ring lies in lower shared SRAM, as R364 has it, and nothing waits there. -/
def RingPlaced (b : Blk) : Prop :=
  0x10000000 ≤ b.logAddr ∧ b.logAddr + 16 * b.logN ≤ 0x11000000 ∧ ∀ a ∈ b.bus.waiting, targetNo a.addr ≠ some 32

/-- From `a` to `b` one fault record is raised and no other, as FaultRecordsAndTheirBits states of raising. -/
def OneRecord (source cls detail data : Nat) (a b : Blk) : Prop :=
  let c := a.raise source cls detail data
  b.mod = c.mod ∧ b.jrn = c.jrn ∧ b.reg .SYS_FAULT_LATCH 0 = c.reg .SYS_FAULT_LATCH 0 ∧ b.reg .FAB_FLTQ 0 = c.reg .FAB_FLTQ 0

/-- From `a` to `b` no fault record is raised. -/
def NoRecord (a b : Blk) : Prop := b.mod = a.mod ∧ b.jrn = a.jrn

/-- The registers that raising a fault record writes. -/
def RecReg (r : RegName) (i : Nat) : Prop := i = 0 ∧ (r = .SYS_FAULT_LATCH ∨ r = .FAB_FLTQ)

/-- What task `t` sends to the companions, in order of output entries `l`: to each of KIND 1 or 2 whose channel it owns
(every one while no owner is fixed before CONFIG_DONE, log 66) the value that `v` gives for its number and entry, if any. -/
def entryMsgs (b : Blk) (t : Nat) (l : List (Nat × OutEntry)) (v : Nat → OutEntry → Option (BitVec 128)) : List LinkMsg :=
  l.filterMap fun x =>
    (v x.1 x.2).bind fun w =>
      let lane : Word := w.extractLsb' 0 32
      if x.2.kind = 1 ∧ (b.configDone = false ∨ SMap.get b.le.owner x.2.id none = some t) then some (.sol x.2.id lane)
      else if x.2.kind = 2 ∧ (b.configDone = false ∨ SMap.get b.le.owner (64 + x.2.id) none = some t) then some (.lsw x.2.id lane)
      else none

/-- As `entryMsgs`, for the task's own output table. -/
def linkMsgs (b : Blk) (t : Nat) (v : Nat → OutEntry → Option (BitVec 128)) : List LinkMsg :=
  entryMsgs b t (b.outEntries t (b.desc t)) v

/-- The writes that task `t` makes to its entries of KIND 3 that have a value, under its engine's master: 32 bits, or 128 for LANE 4. -/
def entryWrites (b : Blk) (t : Nat) (l : List (Nat × OutEntry)) (v : Nat → Option (BitVec 128)) : List Access :=
  l.filterMap fun x =>
    if x.2.kind = 3 then
      (v x.1).map fun w => ⟨.out t x.1, b.unitMaster (taskEng t), .write, x.2.addr, if x.2.lane = 4 then 128 else 32, w, 0⟩
    else none

/-- An access whatever the edge on which it arrives. -/
def unedged (a : Access) : Access := { a with edge := 0 }

/-- The STREAM packets in which a unit with master `sm` sends `pay` as a sample of a stream: one to every enabled destination of the
first enabled stream entry that names it. -/
def streamOut (b : Blk) (stream sm : Nat) (pay : List (BitVec 128)) : List Packet :=
  match (List.range 512).find? fun e => b.flag F.STX_CFG_EN e && b.fld F.STX_CFG_STREAM e == stream with
  | none => []
  | some e => (b.streamDests e).map fun d => b.newPacket 5 1 d sm 0 stream 3 pay

/-- The packets of task `t` for its entries of KIND 4 that have a value: lane 0 of it, TASK_SEQ and fabric time. -/
def entryPackets (b : Blk) (t : Nat) (l : List (Nat × OutEntry)) (v : Nat → Option (BitVec 128)) : List Packet :=
  l.flatMap fun x =>
    match x.2.kind, v x.1 with
    | 4, some w =>
      streamOut b (x.2.id % 65536) (taskEng t) [BitVec.ofNat 64 b.ft ++ b.reg .TASK_SEQ t ++ (w.extractLsb' 0 32 : Word)]
    | _, _ => []

/-- Every entry of task `t` of KIND 1 or 2 names a channel that the task may drive, and the gate admits every write to one of KIND 3. -/
def EntriesAdmitted (b : Blk) (t : Nat) (l : List (Nat × OutEntry)) : Prop := ∀ x ∈ l,
  (x.2.kind = 1 → b.configDone = false ∨ SMap.get b.le.owner x.2.id none = some t) ∧
    (x.2.kind = 2 → b.configDone = false ∨ SMap.get b.le.owner (64 + x.2.id) none = some t) ∧
    (x.2.kind = 3 → b.gate (b.unitMaster (taskEng t)) .write x.2.addr (if x.2.lane = 4 then 128 else 32) = none)

/-- The SAFE values of task `t` on their way to the companions. -/
def safeMsgs (b : Blk) (t : Nat) : List LinkMsg := linkMsgs b t fun _ x => some (x.safe.setWidth 128)

/-- The other tasks are as they were. -/
def OtherTasksKept (t : Nat) (a b : Blk) : Prop := ∀ u, u ≠ t → b.task u = a.task u

/-- `n` writes of 16 bytes that unit `m` makes from `addr` go into memory at once: the gate admits each, at its target no access
waits and no hot DRAM channel stalls it, and none that the unit made before waits (log 6). -/
def Writable (b : Blk) (m addr n : Nat) : Prop := b.ownWaiting m = false ∧ ∀ o, o < n →
  b.gate (b.unitMaster m) .write (addr + 16 * o) 128 = none ∧ b.stalled (addr + 16 * o) = false ∧
    regionOf (addr + 16 * o) ≠ some .regs ∧ ∀ a ∈ b.bus.waiting, targetNo a.addr ≠ targetNo (addr + 16 * o)

/-- `n` reads of 16 bytes that unit `m` makes from `addr` are admitted, no hot DRAM channel stalls them, and at their targets no access
waits. -/
def Readable (b : Blk) (m addr n : Nat) : Prop := ∀ o, o < n →
  b.gate (b.unitMaster m) .read (addr + 16 * o) 128 = none ∧ b.stalled (addr + 16 * o) = false ∧ regionOf (addr + 16 * o) ≠ some .regs ∧
    ∀ a ∈ b.bus.waiting, targetNo a.addr ≠ targetNo (addr + 16 * o)

/-- From `a` to `b` the bytes from `addr` take `l`, and no other byte of memory or OTP changes. -/
def Stored (addr : Nat) (l : List Byte) (a b : Blk) : Prop :=
  b.bytes addr l.length = l ∧ (∀ x, x < addr ∨ addr + l.length ≤ x → b.byte x = a.byte x) ∧
    ∀ x, otpByte b.otp x = otpByte a.otp x

/-- The first payload flit of a packet. -/
def flit0 (k : Packet) : BitVec 128 := k.payload.getD 0 0

/-- A packet waits for a port: it is not stuck, it does not go to this node, and it is not one without a route that goes to every
child. -/
def Waits (b : Blk) (k : Packet) : Prop := b.stuck k = .no ∧ b.routeTo k ≠ .here ∧ ∀ l, b.routeTo k ≠ .flood l

/-- Every packet that waits here waits for a port, and one that must leave through a port may. -/
def NothingStuck (b : Blk) : Prop :=
  (∀ p w, p < 8 → w ∈ (b.port p).rx → Waits b w.pkt) ∧ (∀ k ∈ b.bus.egress, Waits b k) ∧
    ∀ p k, p < 8 → k ∈ (b.port p).own → b.legal p k = true

end Sys2Proof.Claims

open Sys2Proof.Claims

/-- A step at a state whose queue begins with command c is exec of c at the same state with the queue's rest. On an empty queue the
block idles: the step answers the state as it is (the model's choice, log 7). -/
def Obligations.StepRunsFrontCommand : Prop :=
  (∀ (c : Instr) (l : List Instr) (b : Blk), step ⟨c :: l, b⟩ = exec c ⟨l, b⟩) ∧ ∀ b : Blk, step ⟨[], b⟩ = .next ⟨[], b⟩

/-- For every command and every state, exec answers a next state whose queue is the queue as it was. So no run of the machine
stops, however many commands wait. -/
def Obligations.EveryCommandAnswersANextState : Prop :=
  (∀ (c : Instr) (s : State), ∃ b, exec c s = .next { s with blk := b }) ∧ ∀ (n : Nat) (s : State), runsSafely n s

/-- Right after reset the queue is empty, CONFIG_DONE is 0, every register word is its Reset column's, registers, memory and
OTP are in canonical form, and no access waits. As examples of that column: ACC_CFG.SEC_TENANT is 1023, LOG_N is 256, no
entry of an access table or tenant map is valid, every slot, task, valve and switch channel is disabled, TB1 is 0. What a byte
of memory that nothing has written reads as is the model's choice (log 2), and so are the blank OTP and the empty queues and bus
(log 22). -/
def Obligations.ResetLeavesTheResetColumn : Prop :=
  let b := State.reset.blk
  State.reset.pending = [] ∧ b.configDone = false ∧ State.reset.wf = true ∧ b.bus = ⟨[], [], [], [], []⟩ ∧
    (∀ r i, b.reg r i = r.resetWord i) ∧ (∀ x, b.byte x = freshByte ∧ otpByte b.otp x = 0) ∧
    b.fld F.ACC_CFG_SEC_TENANT 0 = 1023 ∧ b.fld F.ACC_LOG_N_LOG_N 0 = 256 ∧
    (∀ i, b.reg .ACC_ENT0 i = 0 ∧ b.reg .ACC_TMAP i = 0) ∧
    (∀ i, b.flag F.SLOT_CTRL_EN i = false ∧ b.flag F.TASK_CTRL_EN i = false ∧ b.flag F.SOL_CTRL_EN i = false ∧
      b.flag F.LSW_CTRL_EN i = false ∧ b.flag F.CAM_CTRL_EN i = false) ∧
    b.tb1 = 0

/-- For every state whose register map, memory and OTP are in canonical form (keys rising, no entry equal to what an unlisted key
reads as), a step that answers a next state leaves them in canonical form. So two states hold the same registers, memory and
OTP exactly where the data are equal. -/
def Obligations.EveryStepKeepsCanonicalForm : Prop :=
  ∀ (s t : State), s.wf = true → step s = .next t → t.wf = true

/-- For every state and every step that answers a next state: where a byte of OTP differs after the step, the module was in Chrysalis
and the command at the front of the queue was an OTP_WRITE, or a UDP frame on ETH5 to its link-local address and port 47500
whose datagram is of that operation; and a bit of OTP that is 1 before the step is 1 after it (that programming only
sets bits is the model's choice, log 21). -/
def Obligations.OtpIsWrittenOnlyInChrysalis : Prop :=
  ∀ (s t : State), step s = .next t →
    (∀ a, otpByte t.blk.otp a ≠ otpByte s.blk.otp a →
      s.blk.mod.phase = .chrysalis ∧
        ((∃ src port d l, s.pending = .otpWrite src port d :: l) ∨
          ∃ src sport d l, leAt d 1 1 = 5 ∧
            s.pending = .ethFrame 5 (.udp src (linkLocal (s.blk.mac 5)) sport (BitVec.ofNat 16 47500) d) :: l)) ∧
    ∀ a k, (otpByte s.blk.otp a).getLsbD k = true → (otpByte t.blk.otp a).getLsbD k = true

/-- REGISTER_WRITE of 32 bits at the offset of a register whose write has no row of its own (a channel calibration, a plan
word, a status word) completes where AON runs: RW bits take the written bits, LCK bits only while CONFIG_DONE is 0, a bit of type
W1C is cleared where 1 is written, every other bit stays, and no other register and no memory changes. ENC_CFG_WRITE does the
same to ENC_CFG of its channel. An access of more words takes effect word by word on one edge: of two words, the one that only holds a
value before the one whose write starts something, else the lower first (log 50). -/
def Obligations.RegisterWritesFollowAccessTypes : Prop :=
  (∀ (b : Blk) (r : RegName) (i : Nat) (v : Word) (k : Nat), k < 32 →
    ((b.plainWrite r i v).reg r i).getLsbD k =
      if r.masks.rw.testBit k = true ∨ (b.configDone = false ∧ r.masks.lck.testBit k = true) then v.getLsbD k
      else if r.masks.w1c.testBit k = true ∧ v.getLsbD k = true then false else (b.reg r i).getLsbD k) ∧
  (∀ (s : State) (mid : BitVec 10) (r : RegName) (i : Nat) (v : BitVec 32) (x : WriteEnv), s.blk.aonRuns = true →
    r ∈ [.SYS_FAULT_MASK, .TBU_CTRL, .TBU_STATUS, .AIN_OFFSET, .AIN_SCALE, .IMP_CFG, .ST_CFG, .ST_SIZE, .ST_PITCH, .ACC_CFG,
      .ACC_ENT0, .ACC_ENT1, .ACC_ENT2, .ACC_TMAP] →
    regAt (r.offset i) = some (r, i) →
    Completes (.registerWrite mid (BitVec.ofNat 40 (regBase + r.offset i)) 32 (v.setWidth 128) x) s fun b =>
      b.reg r i = (s.blk.plainWrite r i v).reg r i ∧ RegsKeptBut (fun q j => q = r ∧ j = i) s.blk b ∧ MemKept s.blk b ∧
        UnitsKept s.blk b) ∧
  (∀ (s : State) (e : Fin 32) (v : Word), s.blk.aonRuns = true →
    Completes (.encCfgWrite e v) s fun b =>
      b.reg .ENC_CFG e = (s.blk.plainWrite .ENC_CFG e v).reg .ENC_CFG e ∧
        RegsKeptBut (fun q j => q = .ENC_CFG ∧ j = e.val) s.blk b ∧ MemKept s.blk b ∧ UnitsKept s.blk b) ∧
  (∀ (s : State) (mid : BitVec 10) (a : BitVec 40) (width : Nat) (data : BitVec 128) (x : WriteEnv), s.blk.aonRuns = true →
    formOk a.toNat width = true → regionOf a.toNat = some .regs →
    Completes (.registerWrite mid a width data x) s fun b => b = s.blk.regWrites mid.toNat a.toNat data x (width / 32)) ∧
  ∀ (b : Blk) (mid a i j : Nat) (r q : RegName) (data : BitVec 128) (x : WriteEnv),
    regAt (a - regBase) = some (r, i) → regAt (a - regBase + 4) = some (q, j) →
    let lo := data.extractLsb' 0 32
    let hi := data.extractLsb' 32 32
    b.regWrites mid a data x 1 = b.regWrite mid r i lo x ∧
      b.regWrites mid a data x 2 =
        if r.starts = true ∧ q.starts = false then (b.regWrite mid q j hi x).regWrite mid r i lo x
        else (b.regWrite mid r i lo x).regWrite mid q j hi x

/-- A write of n bytes at address a puts byte k of the value, counted from the least significant, at a + k, and leaves every
other byte, every register and all of OTP as they were; a read of n bytes is the number whose byte k stands at a + k, so a
read after a write of the same bytes gives the value modulo 256^n. -/
def Obligations.MemoryIsLittleEndian : Prop :=
  ∀ (b : Blk) (a n v : Nat),
    (∀ k, k < n → (b.writeMem a n v).byte (a + k) = BitVec.ofNat 8 (v / 256 ^ k)) ∧
    (∀ x, x < a ∨ a + n ≤ x → (b.writeMem a n v).byte x = b.byte x) ∧
    (b.writeMem a n v).readMem a n = v % 256 ^ n ∧ b.readMem a n < 256 ^ n ∧
    (∀ k, k < n → b.readMem a n / 256 ^ k % 256 = (b.byte (a + k)).toNat) ∧
    RegsKept b (b.writeMem a n v) ∧ (b.writeMem a n v).otp = b.otp

/-- TARGET_ACCESS completes while AON runs. A local access that the gate admits waits at its target and nothing else changes; one
that fails a check is refused with the DETAIL of the first check it fails. A request of another node through port p that is
sound in form and address needs an entry of the port's tenant map: without one it is refused with DETAIL 3 and the
ID 540 + p, with one it is gated under the proxy ID of the entry; where its form or address is wrong it is refused with DETAIL 1 or 2. The
checks in order: form, mapped, the access table and the log registers of the security tenant, the domain, the locks and the
owner (writes). Before CONFIG_DONE only masters 560 to 562 pass. A refusal changes only the refusal count and log (Refused). -/
def Obligations.AccessesAtTheGate : Prop :=
  (∀ (s : State) (mid : BitVec 10) (tag : Nat) (write : Bool) (addr : BitVec 40) (width : Nat) (data : BitVec 128) (edge : Nat),
    s.blk.aonRuns = true →
    let op := if write then AccOp.write else AccOp.read
    (s.blk.gate mid.toNat op addr.toNat width = none →
      Completes (.targetAccess (.here mid tag) write addr width data edge) s fun b =>
        b = { s.blk with bus := { s.blk.bus with
          waiting := s.blk.bus.waiting ++ [⟨.master tag, mid.toNat, op, addr.toNat, width, data, edge⟩] } }) ∧
    (∀ d, s.blk.gate mid.toNat op addr.toNat width = some d →
      Completes (.targetAccess (.here mid tag) write addr width data edge) s
        (Refused (.master tag) op mid.toNat d (denyData op addr.toNat) s.blk))) ∧
  (∀ (s : State) (p : Fin 8) (src : BitVec 9) (sm : BitVec 10) (tag : Nat) (write : Bool) (addr : BitVec 40) (width : Nat)
    (data : BitVec 128) (edge : Nat), s.blk.aonRuns = true →
    let op := if write then AccOp.write else AccOp.read
    let who := Requester.remote p src.toNat sm.toNat tag
    let px := s.blk.tenant p src.toNat sm.toNat
    let run := Completes (.targetAccess (.remote p src sm tag) write addr width data edge) s
    (∀ d, formCheck addr.toNat width = some d →
      run (Refused who op (px.getD (540 + p)) d (denyData op addr.toNat) s.blk)) ∧
    (formCheck addr.toNat width = none → px = none →
      run (Refused who op (540 + p) 3
        (op.bit * 2 ^ 31 + p.val * 2 ^ 28 + src.toNat * 2 ^ 19 + sm.toNat * 2 ^ 9) s.blk)) ∧
    (∀ m, px = some m →
      (∀ d, s.blk.gate m op addr.toNat width = some d → run (Refused who op m d (denyData op addr.toNat) s.blk)) ∧
      (s.blk.gate m op addr.toNat width = none → run fun b =>
        b = { s.blk with bus := { s.blk.bus with
          waiting := s.blk.bus.waiting ++ [⟨who, m, op, addr.toNat, width, data, edge⟩] } }))) ∧
  ∀ (b : Blk) (mid : Nat) (op : AccOp) (addr width : Nat),
    ((width ≠ 32 ∧ width ≠ 64 ∧ width ≠ 128) ∨ addr % (width / 8) ≠ 0 → b.gate mid op addr width = some 1) ∧
    (formOk addr width = true → regionOf addr = none → b.gate mid op addr width = some 2) ∧
    (formOk addr width = true → mappedOk addr width = true →
      (b.tablePermits mid op addr width = false ∨
          (coversLog addr width = true ∧ mid ≠ b.fld F.ACC_CFG_SEC_TENANT 0) → b.gate mid op addr width = some 4) ∧
      (b.tablePermits mid op addr width = true →
          (coversLog addr width = true → mid = b.fld F.ACC_CFG_SEC_TENANT 0) →
        (b.domainOk addr = false → b.gate mid op addr width = some 5) ∧
        (b.domainOk addr = true → op = .read → b.gate mid op addr width = none) ∧
        (b.domainOk addr = true → op = .write → b.meetsLock addr width = true → b.gate mid op addr width = some 6) ∧
        (b.domainOk addr = true → op = .write → b.meetsLock addr width = false → b.configDone = true →
          b.notOwner mid addr width = true → b.gate mid op addr width = some 7))) ∧
    (b.configDone = false → b.gate mid op addr width = none → 560 ≤ mid ∧ mid ≤ 562)

/-- ACCESS_ACCEPT completes where the compute side runs, the node is not in CRANK_SLEEP, the target has accepted nothing on this
edge or a later one and an access has arrived. The access taken is one that arrived, none that arrived was issued on an
earlier edge or on the same edge by a lower master, it waits no longer, and the target accepts nothing more on that edge. A read
of memory by a local master ends with the bytes there and changes no register and no memory; a write of memory by one puts its
bytes, and ends. -/
def Obligations.TargetsAcceptInOrder : Prop :=
  ∀ (s : State) (t : Fin 52) (edge : Nat) (x : WriteEnv) (a : Access),
    s.blk.computeRuns = true → s.blk.supply ≠ 2 → SMap.get s.blk.bus.lastEdge t.val 0 ≤ edge →
    s.blk.nextAccess t edge = some a →
    (a ∈ s.blk.bus.waiting ∧ s.blk.mayAccept t edge a = true ∧
      ∀ y ∈ s.blk.bus.waiting, s.blk.mayAccept t edge y = true → y.first a = false) ∧
    (∀ tag, a.who = .master tag → regionOf a.addr ≠ some .regs →
      (a.op = .read → Completes (.accessAccept t edge x) s fun b =>
        b.bus.waiting = s.blk.bus.waiting.erase a ∧ SMap.get b.bus.lastEdge t.val 0 = edge + 1 ∧
          ⟨a.who, .read, .ok, BitVec.ofNat 128 (s.blk.readMem a.addr (a.width / 8))⟩ ∈ b.bus.results ∧
          RegsKept s.blk b ∧ MemKept s.blk b) ∧
      (a.op = .write → Completes (.accessAccept t edge x) s fun b =>
        b.bus.waiting = s.blk.bus.waiting.erase a ∧ SMap.get b.bus.lastEdge t.val 0 = edge + 1 ∧
          ⟨a.who, .write, .ok, 0⟩ ∈ b.bus.results ∧
          b.readMem a.addr (a.width / 8) = a.data.toNat % 2 ^ a.width % 256 ^ (a.width / 8) ∧
          (∀ y, y < a.addr ∨ a.addr + a.width / 8 ≤ y → b.byte y = s.blk.byte y) ∧ RegsKept s.blk b ∧ b.otp = s.blk.otp))

/-- A fault raised after CONFIG_DONE sets the bit of its class, enters the fault log and waits for VC3, but is dropped and counted where
no conductor is known and 64 records wait; before CONFIG_DONE it is held and nothing else changes, its bit too (log 35); on a frozen
node, whose clocks stand, none is raised (log 49). FAULT_RECORD_SEND completes
in NORMAL while the compute side runs and a conductor is known: the oldest waiting record leaves in a FAULT packet on VC3 to
the conductor and nothing else changes; on the conductor its own record, which its log has, just goes, and a record of another
node passes the conductor's table into its log. CLASS_SEEN_CLEAR clears exactly the bits of classes 1 to 21 written 1, and FAULT_N
of a running node is asserted after it only where a class it masks in is left. LOG_READ_ADVANCE sets ACC_LOG_RD to a value from it up to ACC_LOG_WR,
modulo 2^32, and ignores any other. -/
def Obligations.FaultRecordsAndTheirBits : Prop :=
  (∀ (b : Blk) (source cls detail data : Nat), cls < 22 →
    let c := b.raise source cls detail data
    let r := b.mkRec source cls detail data
    (b.frozen = true → c = b) ∧
    (b.frozen = false → b.configDone = true →
      (c.reg .SYS_FAULT_LATCH 0).getLsbD cls = true ∧
        c.jrn = { b.jrn with faults := b.jrn.faults.append b.runSeq b.tb1 (leBytes 16 r.bits.toNat) } ∧
        (b.condKnown = true ∨ b.mod.vc3.length < 64 →
          c.mod.vc3 = b.mod.vc3 ++ [r] ∧ RegsKeptBut (fun r i => r = .SYS_FAULT_LATCH ∧ i = 0) b c) ∧
        (b.condKnown = false → 64 ≤ b.mod.vc3.length →
          c.mod.vc3 = b.mod.vc3 ∧
            c.fld F.FAB_FLTQ_DROPPED 0 = min (b.fld F.FAB_FLTQ_DROPPED 0 + 1) (2 ^ 16 - 1) ∧
            RegsKeptBut (fun r i => (r = .SYS_FAULT_LATCH ∨ r = .FAB_FLTQ) ∧ i = 0) b c) ∧
        { b with regs := c.regs, jrn := c.jrn, mod := { b.mod with vc3 := c.mod.vc3 } } = c) ∧
    (b.frozen = false → b.configDone = false → c = { b with mod := { b.mod with heldRecs := b.mod.heldRecs ++ [r] } })) ∧
  (∀ (s : State) (r : FaultRec) (l : List FaultRec), s.blk.mod.vc3 = r :: l → s.blk.supplyNormal = true →
    s.blk.computeRuns = true →
    let sent := { s.blk with mod := { s.blk.mod with vc3 := l } }
    (s.blk.fab.holds = false → s.blk.flag F.FAB_STATUS_COND_V 0 = true → Completes .faultRecordSend s fun b =>
      b = { sent with bus := { sent.bus with
        egress := sent.bus.egress ++ [s.blk.newPacket 6 3 (s.blk.fld F.FAB_STATUS_CONDUCTOR 0) 595 0 0 2 [r.bits]] } }) ∧
    (s.blk.fab.holds = true → r.node.toNat = s.blk.node → Completes .faultRecordSend s fun b => b = sent) ∧
    (s.blk.fab.holds = true → r.node.toNat ≠ s.blk.node → Completes .faultRecordSend s fun b => b = sent.deliverRec r)) ∧
  (∀ (b : Blk) (r : FaultRec), r.count = 1 →
    (∀ w ∈ b.fab.coal, sameKey w.first r = false) → (b.fab.coal.filter fun w => !w.excess b.tb1).length < 64 →
    b.deliverRec r =
      { b with
        fab := { b.fab with coal := b.fab.coal ++ [⟨r, b.tb1, 0, r.time⟩] }
        jrn := (b.logFault r).jrn }) ∧
  (∀ (s : State) (bits : Word), s.blk.aonRuns = true →
    Completes (.classSeenClear bits) s fun b =>
      (∀ k, k < 32 → (b.reg .SYS_FAULT_LATCH 0).getLsbD k =
        ((s.blk.reg .SYS_FAULT_LATCH 0).getLsbD k && !(bits.getLsbD k && decide (1 ≤ k ∧ k ≤ 21)))) ∧
      (s.blk.mod.phase = .running → (b.faultN = true ↔
        ∃ k, (b.reg .SYS_FAULT_LATCH 0).getLsbD k = true ∧ (b.reg .SYS_FAULT_MASK 0).getLsbD k = true)) ∧
      RegsKeptBut (fun r i => r = .SYS_FAULT_LATCH ∧ i = 0) s.blk b ∧ MemKept s.blk b ∧ UnitsKept s.blk b) ∧
  ∀ (s : State) (v : Word), s.blk.aonRuns = true →
    Completes (.logReadAdvance v) s fun b =>
      (((v - s.blk.reg .ACC_LOG_RD 0).toNat ≤ (s.blk.reg .ACC_LOG_WR 0 - s.blk.reg .ACC_LOG_RD 0).toNat →
        b.reg .ACC_LOG_RD 0 = v) ∧
      ((s.blk.reg .ACC_LOG_WR 0 - s.blk.reg .ACC_LOG_RD 0).toNat < (v - s.blk.reg .ACC_LOG_RD 0).toNat →
        b = s.blk)) ∧
      RegsKeptBut (fun r i => r = .ACC_LOG_RD ∧ i = 0) s.blk b ∧ MemKept s.blk b ∧ UnitsKept s.blk b

/-- SLOT_COUNT_LOW_WRITE, SLOT_COUNT_HIGH_WRITE and SLOT_PERIOD_WRITE complete wherever AON runs. While EN is 1 a low word is
held and no register changes; a write of the high word sets COUNT (PERIOD) to that word and to the first low word that exists of
the one written with it, the held one and the one in use, clears the held one, and for COUNT arms the slot again. While EN is 0
each word takes effect at once. Nothing else in the registers changes, and no memory. The slots that are due on the last tick fire
first (log 9), so all this is said of the block after that firing. -/
def Obligations.SlotCountAndPeriodWords : Prop :=
  ∀ (s : State) (slot : Fin 1024), s.blk.aonRuns = true →
    let f := s.blk.fireDue
    (f.flag F.SLOT_CTRL_EN slot = true →
      (∀ v, Completes (.slotCountLowWrite slot v) s fun b =>
        SMap.get b.tbu.cntHeld slot.val none = some v ∧ RegsKept f b ∧ MemKept f b ∧
          ∀ j, j ≠ slot.val → SMap.get b.tbu.cntHeld j none = SMap.get f.tbu.cntHeld j none) ∧
      (∀ hi lo, Completes (.slotCountHighWrite slot hi lo) s fun b =>
        b.reg .SLOT_COUNT_HI slot = hi ∧
          b.reg .SLOT_COUNT_LO slot =
            (match lo, SMap.get f.tbu.cntHeld slot.val none with
              | some v, _ => v
              | none, some v => v
              | none, none => f.reg .SLOT_COUNT_LO slot) ∧
          SMap.get b.tbu.cntHeld slot.val none = none ∧
          (f.configDone = true → f.slotOk slot = true → f.tbValid (f.fld F.SLOT_CTRL_TB slot) = true →
            b.flag F.SLOT_STATUS_ARMED slot = true) ∧
          RegsKeptBut (fun r i => i = slot.val ∧ r ∈ [.SLOT_COUNT_LO, .SLOT_COUNT_HI, .SLOT_CTRL, .SLOT_STATUS]) f b ∧
          MemKept f b) ∧
      (∀ v, Completes (.slotPeriodWrite slot (some v) none) s fun b =>
        SMap.get b.tbu.perHeld slot.val none = some v ∧ RegsKept f b ∧ MemKept f b) ∧
      (∀ hi lo, Completes (.slotPeriodWrite slot lo (some hi)) s fun b =>
        b.reg .SLOT_PERIOD_HI slot = hi ∧
          b.reg .SLOT_PERIOD_LO slot =
            (match lo, SMap.get f.tbu.perHeld slot.val none with
              | some v, _ => v
              | none, some v => v
              | none, none => f.reg .SLOT_PERIOD_LO slot) ∧
          SMap.get b.tbu.perHeld slot.val none = none ∧
          RegsKeptBut (fun r i => i = slot.val ∧ r ∈ [.SLOT_PERIOD_LO, .SLOT_PERIOD_HI]) f b ∧ MemKept f b)) ∧
    (f.flag F.SLOT_CTRL_EN slot = false →
      (∀ v, Completes (.slotCountLowWrite slot v) s fun b =>
        b.reg .SLOT_COUNT_LO slot = v ∧ RegsKeptBut (fun r i => i = slot.val ∧ r = .SLOT_COUNT_LO) f b ∧
          MemKept f b) ∧
      (∀ hi lo, Completes (.slotCountHighWrite slot hi lo) s fun b =>
        b.reg .SLOT_COUNT_HI slot = hi ∧ b.reg .SLOT_COUNT_LO slot = lo.getD (f.reg .SLOT_COUNT_LO slot) ∧
          RegsKeptBut (fun r i => i = slot.val ∧ r ∈ [.SLOT_COUNT_LO, .SLOT_COUNT_HI]) f b ∧ MemKept f b) ∧
      (∀ lo hi, Completes (.slotPeriodWrite slot lo hi) s fun b =>
        b.reg .SLOT_PERIOD_HI slot = hi.getD (f.reg .SLOT_PERIOD_HI slot) ∧
          b.reg .SLOT_PERIOD_LO slot = lo.getD (f.reg .SLOT_PERIOD_LO slot) ∧
          RegsKeptBut (fun r i => i = slot.val ∧ r ∈ [.SLOT_PERIOD_LO, .SLOT_PERIOD_HI]) f b ∧ MemKept f b))

/-- SLOT_ARM completes wherever AON runs. A word with EN 0 disarms the slot; the word that stands already changes nothing; any
other word with EN 1 after CONFIG_DONE arms: the slot is refused (EN returns to 0) where a check of R451 fails, is held while its
timebase is not valid, and else is armed, to fire on the next tick where COUNT is at or past the last snapshot. SLOT_CTRL takes
the fields of the word, and only SLOT_CTRL and SLOT_STATUS of the slot change. The slots that are due fire first, and arming compares with the snapshot of
the latest tick (log 9). The checks are exactly those of R451. -/
def Obligations.SlotArmingChecks : Prop :=
  (∀ (s : State) (slot : Fin 1024) (ctrl : Word), s.blk.aonRuns = true →
    Completes (.slotArm slot ctrl) s fun b =>
      let f := s.blk.fireDue
      let set := f.setReg .SLOT_CTRL slot (ctrl &&& 0x1FFFF)
      let armed := f.configDone = true ∧ ctrl.getLsbD 0 = true ∧ f.reg .SLOT_CTRL slot ≠ ctrl &&& 0x1FFFF
      (ctrl.getLsbD 0 = false → b.reg .SLOT_CTRL slot = ctrl &&& 0x1FFFF ∧ b.flag F.SLOT_STATUS_ARMED slot = false ∧
        b.flag F.SLOT_STATUS_HELD_INVALID slot = false) ∧
      (f.reg .SLOT_CTRL slot = ctrl &&& 0x1FFFF → ctrl.getLsbD 0 = true → RegsKept f b) ∧
      (armed → set.slotOk slot = false → b.flag F.SLOT_CTRL_EN slot = false ∧ b.flag F.SLOT_STATUS_ARMED slot = false) ∧
      (armed → set.slotOk slot = true → f.tbValid (set.fld F.SLOT_CTRL_TB slot) = false →
        b.reg .SLOT_CTRL slot = ctrl &&& 0x1FFFF ∧ b.flag F.SLOT_STATUS_ARMED slot = false ∧
          b.flag F.SLOT_STATUS_HELD_INVALID slot = true) ∧
      (armed → set.slotOk slot = true → f.tbValid (set.fld F.SLOT_CTRL_TB slot) = true →
        b.reg .SLOT_CTRL slot = ctrl &&& 0x1FFFF ∧ b.flag F.SLOT_STATUS_ARMED slot = true ∧
          b.flag F.SLOT_STATUS_HELD_INVALID slot = false ∧
          (slot.val ∈ b.tbu.lateArm ↔
            atOrPast (set.slotWidth slot) (set.fld F.SLOT_CTRL_DIR slot) (f.slotCount slot)
              (f.tb (set.fld F.SLOT_CTRL_TB slot)) = true)) ∧
      RegsKeptBut (fun r i => i = slot.val ∧ r ∈ [.SLOT_CTRL, .SLOT_STATUS]) f b ∧ MemKept f b) ∧
  ∀ (b : Blk) (slot : Nat), b.slotOk slot = false ↔
    (b.flag F.SLOT_CTRL_LOW16 slot = true ∧ b.tbAngular (b.fld F.SLOT_CTRL_TB slot) = false) ∨
      b.fld F.SLOT_CTRL_DIR slot = 3 ∨ (b.fld F.SLOT_CTRL_MODE slot = 1 ∧ b.fld F.SLOT_CTRL_DIR slot = 2) ∨
      (b.fld F.SLOT_CTRL_MODE slot = 1 ∧
        (b.slotPeriod slot = 0 ∨ 2 ^ (b.slotWidth slot - 1) ≤ b.slotPeriod slot)) ∨
      targetOk (b.fld F.SLOT_TARGET_KIND slot) (b.fld F.SLOT_TARGET_ID slot) = false

/-- With differences taken modulo 2^W as signed W-bit numbers and M = S(k) − S(k−1): a slot with DIR UP meets its comparison
exactly when M > 0 and 0 < COUNT − S(k−1) ≤ M, with DIR DOWN exactly when M < 0 and M ≤ COUNT − S(k−1) < 0, with DIR BOTH exactly
on either. A tick with M = 0 meets none; and where M is positive, having passed COUNT is COUNT − S(k−1) > 0 and
COUNT − S(k) ≤ 0, for movements of less than half the range. -/
def Obligations.SlotComparison : Prop :=
  ∀ (w count s0 s1 : Nat),
    (slotMet w 0 count s0 s1 = true ↔
      0 < sdiff w s1 s0 ∧ 0 < sdiff w count s0 ∧ sdiff w count s0 ≤ sdiff w s1 s0) ∧
    (slotMet w 1 count s0 s1 = true ↔
      sdiff w s1 s0 < 0 ∧ sdiff w s1 s0 ≤ sdiff w count s0 ∧ sdiff w count s0 < 0) ∧
    (slotMet w 2 count s0 s1 = true ↔ slotMet w 0 count s0 s1 = true ∨ slotMet w 1 count s0 s1 = true) ∧
    (sdiff w s1 s0 = 0 → ∀ dir, slotMet w dir count s0 s1 = false) ∧
    (2 ≤ w → 0 < sdiff w s1 s0 → sdiff w s1 s0 < 2 ^ (w - 2) → 0 < sdiff w count s0 → sdiff w count s0 < 2 ^ (w - 2) →
      (slotMet w 0 count s0 s1 = true ↔ sdiff w count s1 ≤ 0))

/-- SLOT_FIRE of the lowest slot that is due completes wherever AON runs: FIRES counts one, the slot is due no longer, a target other than
none gets one trigger with the tick's snapshot; after a ONCE slot EN is 0; a PERIODIC slot, UP or DOWN, stays enabled and moves its
COUNT, modulo 2^64, by one PERIOD in its direction and by the fewest further periods after which COUNT lies ahead of
the snapshot: where none was needed nothing is recorded, else one SLOT_LATE record carries their number, at most 0xFFFF (so also
after a late firing on arming). A window slot stays as it is. A late firing sets ARM_LATE. No memory changes. -/
def Obligations.SlotFiring : Prop :=
  ∀ (s : State) (slot : Fin 1024) (x : DueSlot), s.blk.aonRuns = true →
    s.blk.tbu.due.head? = some x → x.slot = slot.val →
    Completes (.slotFire slot) s fun b =>
      b.fld F.SLOT_FIRES_FIRES slot = (s.blk.fld F.SLOT_FIRES_FIRES slot + 1) % 2 ^ 32 ∧
      (∀ d ∈ b.tbu.due, d.slot ≠ slot.val) ∧
      b.tbu.trig = s.blk.tbu.trig ++
        (if s.blk.fld F.SLOT_TARGET_KIND slot = 0 then []
         else [⟨slot, s.blk.fld F.SLOT_TARGET_KIND slot, s.blk.fld F.SLOT_TARGET_ID slot, s.blk.snapshot,
           s.blk.fld F.TBU_STATUS_TB_VALID 0⟩]) ∧
      (x.late = true → b.flag F.SLOT_STATUS_ARM_LATE slot = true) ∧
      (s.blk.fld F.SLOT_CTRL_MODE slot = 0 → b.flag F.SLOT_CTRL_EN slot = false ∧ b.slotCount slot = s.blk.slotCount slot) ∧
      (s.blk.fld F.SLOT_CTRL_MODE slot = 1 → s.blk.fld F.SLOT_CTRL_DIR slot ≤ 1 → s.blk.slotPeriod slot ≠ 0 →
        s.blk.slotPeriod slot < 2 ^ (s.blk.slotWidth slot - 1) →
        let up := s.blk.fld F.SLOT_CTRL_DIR slot = 0
        let moved := fun n : Nat =>
          (((s.blk.slotCount slot : Int) + (if up then (n : Int) else -n) * s.blk.slotPeriod slot) % 2 ^ 64).toNat
        let off := fun n => sdiff (s.blk.slotWidth slot) (moved n) (s.blk.tb (s.blk.fld F.SLOT_CTRL_TB slot))
        let ahead := fun n => if up then 0 < off n else off n < 0
        b.reg .SLOT_CTRL slot = s.blk.reg .SLOT_CTRL slot ∧
          ∃ skipped, b.slotCount slot = moved (skipped + 1) ∧ ahead (skipped + 1) ∧
            (∀ n, 1 ≤ n → n ≤ skipped → ¬ ahead n) ∧
            (skipped = 0 → NoRecord s.blk b) ∧
            (skipped ≠ 0 → OneRecord 592 0x01 0x04 (slot * 2 ^ 22 + min skipped 0xFFFF) s.blk b)) ∧
      (2 ≤ s.blk.fld F.SLOT_CTRL_MODE slot →
        b.reg .SLOT_CTRL slot = s.blk.reg .SLOT_CTRL slot ∧ b.slotCount slot = s.blk.slotCount slot) ∧
      RegsKeptBut (fun r i => (i = slot.val ∧ r ∈ [.SLOT_CTRL, .SLOT_STATUS, .SLOT_COUNT_LO, .SLOT_COUNT_HI, .SLOT_FIRES]) ∨
        r = .SYS_FAULT_LATCH ∨ r = .FAB_FLTQ) s.blk b ∧ MemKept s.blk b

/-- SOURCE_PULSE, INDEX_PULSE, TB_STALL_EXPIRY and TB3_SLIP_UPDATE complete where AON runs. A source pulse of a valid timebase moves
the position by the worth of one pulse, up but for a reverse pulse of a quadrature pair (a pulse of SRC_B takes the
direction of the pair's latest), which sets REVERSE; it clears STALLED, sets STEP_FWD where interpolation lagged in the direction of
the pulse (also where a stall had stopped it short, log 10), and moves no value
against its direction. An index pulse whose OFFSET lies 0 ahead changes nothing; up to 32 767 ahead the value steps to OFFSET
and STEP_FWD is set; else the value holds where it is and the pulse count stands at OFFSET behind it (log 60). A stall sets STALLED
and no value moves. SLIP, every 100 ms, moves by at most 0.5 % toward the goal, within 15 %, and not without valid speed above 0.5 m/s
and FUSE, nor where no wheel speed is measured (log 60); TB3 does not step. Only TB_STAT of the timebase (TB3_SLIP) changes among the registers, and no memory. -/
def Obligations.BuiltTimebasePulses : Prop :=
  ∀ (s : State) (n : Fin 16), s.blk.aonRuns = true →
    let x := s.blk.built n
    let now := s.blk.tb1
    let step := s.blk.pulseStep n
    let cur := counts (s.blk.course n now).1
    let kept := fun (b : Blk) =>
      (∀ m, m ≠ n.val → b.built m = s.blk.built m) ∧ RegsKeptBut (fun r i => r = .TB_STAT ∧ i = n.val) s.blk b ∧
        MemKept s.blk b ∧ b.tb1 = now
    (∀ p, s.blk.tbu.pulses.find? (fun q => q.tb = n.val) = some p → p.index = false → 3 ≤ n.val →
      s.blk.builtValid n = true →
      Completes (.sourcePulse n) s fun b =>
        let dir := if s.blk.flag F.TB_CFG_QUAD n = true then (if p.srcB = true then x.fwd else p.fwd) else true
        let pos := if dir = true then x.pos + step else x.pos - step
        let raw := (s.blk.rawCourse n now).1
        (b.built n).pos = pos ∧ (b.built n).last = some now ∧ (b.built n).up = dir ∧
          (b.built n).base = (if dir = x.up then (if dir = true then max pos raw else min pos raw) else pos) ∧
          b.flag F.TB_STAT_STALLED n = false ∧ b.flag F.TB_STAT_REVERSE n = !dir ∧
          b.flag F.TB_STAT_STEP_FWD n = (s.blk.flag F.TB_STAT_STEP_FWD n ||
            (s.blk.flag F.TB_CFG_INTERP n && dir == x.up && !s.blk.reached n)) ∧
          b.tbu.pulses = s.blk.tbu.pulses.erase p ∧ kept b) ∧
    (∀ p, s.blk.tbu.pulses.find? (fun q => q.tb = n.val) = some p → p.index = true → s.blk.tbAngular n = true →
      s.blk.builtValid n = true →
      Completes (.indexPulse n) s fun b =>
        let off : Int := s.blk.fld F.TB_INDEX_OFFSET n
        let d := if x.up = true then (off - cur) % 65536 else (cur - off) % 65536
        let shown := counts (b.course n now).1
        (d = 0 → b = { s.blk with tbu := { s.blk.tbu with pulses := s.blk.tbu.pulses.erase p } }) ∧
        (1 ≤ d → d ≤ 32767 → b.flag F.TB_STAT_STEP_FWD n = true ∧ shown = (if x.up = true then cur + d else cur - d)) ∧
        (32768 ≤ d → (b.built n).hold = some cur ∧ shown = cur ∧ RegsKept s.blk b) ∧
        (counts (b.rawCourse n now).1 - off) % 65536 = (if d = 0 then (counts (s.blk.rawCourse n now).1 - off) % 65536 else 0) ∧
        b.tbu.pulses = s.blk.tbu.pulses.erase p ∧ kept b) ∧
    (3 ≤ n.val → (s.blk.fld F.TB_CFG_KIND n = 1 ∨ s.blk.fld F.TB_CFG_KIND n = 2) → s.blk.flag F.TB_STAT_STALLED n = false →
      x.quiet + s.blk.fld F.TB_STALL_STALL_MS n * 1000000 ≤ now →
      Completes (.tbStallExpiry n) s fun b =>
        b.flag F.TB_STAT_STALLED n = true ∧ (b.built n).pos = x.pos ∧ (b.course n now).1 = (s.blk.course n now).1 ∧ kept b) ∧
    ((s.blk.sfld F.TB3_SLIP_SLIP 0).natAbs ≤ 15000 → s.blk.tbu.slipAt + 100000000 ≤ now →
      Completes .tb3SlipUpdate s fun b =>
        let v : Int := s.blk.solution.2
        let slip := s.blk.sfld F.TB3_SLIP_SLIP 0
        let new := b.sfld F.TB3_SLIP_SLIP 0
        let raw : Int := (s.blk.fld F.TB_SCALE_SCALE 3 : Int) * (if s.blk.flag F.TB_CFG_SRC_B_EN 3 = true then 1 else 2)
        new.natAbs ≤ 15000 ∧ (new - slip).natAbs ≤ 500 ∧ b.tbu.slipAt = now ∧
          (s.blk.speedValid = false ∨ v ≤ 500 ∨ s.blk.flag F.TB_CFG_FUSE 3 = false ∨ (s.blk.built 3).ival = none ∨
            s.blk.flag F.TB_STAT_STALLED 3 = true →
            new = slip ∧ b.flag F.TB3_SLIP_AIDING 0 = false) ∧
          (∀ iv : Nat, (s.blk.built 3).ival = some iv → raw ≠ 0 →
            let goal := v * iv * 131072 * 100000 / (raw * 1000000) - 100000
            (slip ≤ goal → slip ≤ new ∧ new ≤ goal) ∧ (goal ≤ slip → goal ≤ new ∧ new ≤ slip)) ∧
          (b.course 3 now).1 = (s.blk.course 3 now).1 ∧ RegsKeptBut (fun r i => r = .TB3_SLIP ∧ i = 0) s.blk b ∧
          MemKept s.blk b)

/-- TBU_TICK, TB2_SET_LOW_WRITE, TB2_LOAD and TBU_SNAP complete wherever AON runs. A tick adds 10 to TB1 modulo 2^64; a snapshot that waited is taken on it, all sixteen values from the same tick. A write of TB2_SET_LO stores the
low word and changes nothing else; a write that covers TB2_SET_HI makes a load of that word and of the low word last written
wait for the next tick; a write of 1 to TBU_SNAP makes a snapshot wait for it. On the next tick TB2 takes the loaded value where
TB2_AUTO is 0, and is valid. -/
def Obligations.TickAdvancesTimebases : Prop :=
  ∀ (s : State), s.blk.aonRuns = true →
    Completes .tbuTick s (fun b =>
      b.tb1 = (s.blk.tb1 + 10) % 2 ^ 64 ∧ b.tbu.snap = false ∧
      (s.blk.tbu.snap = true → ∀ n, n < 16 → b.reg64 .TBU_SNAPVAL_LO .TBU_SNAPVAL_HI n = b.tb n) ∧
      (∀ v, s.blk.tbu.tb2Load = some v → s.blk.flag F.TBU_CTRL_TB2_AUTO 0 = false →
        b.tb 2 = v.toNat ∧ b.tbValid 2 = true) ∧
      b.tbu.tb2Load = none) ∧
    (∀ v, Completes (.tb2SetLowWrite v) s fun b => b = { s.blk with tbu := { s.blk.tbu with tb2Lo := v } }) ∧
    (∀ hi, Completes (.tb2Load hi none) s fun b =>
      b = { s.blk with tbu := { s.blk.tbu with tb2Load := some (hi ++ s.blk.tbu.tb2Lo) } }) ∧
    (∀ hi lo, Completes (.tb2Load hi (some lo)) s fun b =>
      b = { s.blk with tbu := { s.blk.tbu with tb2Lo := lo, tb2Load := some (hi ++ lo) } }) ∧
    Completes .tbuSnap s fun b => b = { s.blk with tbu := { s.blk.tbu with snap := true } }

/-- TASK_ENABLE, TASK_DISABLE, TASK_SWAP, TASK_PL_CLR and TASK_MAN_WRITE complete wherever AON runs. A DISABLED task with valid
settings becomes IDLE with V and AC at 0; one with settings that are not valid stays DISABLED with EN 0 and EN_REFUSED 1; a DRAINING task
refuses. With a model, its history starts at the primary value in force, at once or, where the feedback word has to be waited for, at
the next boundary. Writing EN 0, behind what the last tick found due for the task, makes an IDLE or READY task DISABLED, its
outputs holding under DISABLE_ACTION 0 and its SAFE values sent under 1, and a RUNNING or PREEMPTED one DRAINING. A swap request sets SWAP_PEND, or BANK_LOCKED alone where one is pending or the task drains. PL_CLR ends the
episode and restarts the counts of boundaries (log 63). MAN takes the value written. Other tasks' registers do not change, and no memory does but for a model block. -/
def Obligations.TaskControlWrites : Prop :=
  ∀ (s : State) (t : Fin 4096), s.blk.aonRuns = true →
    let mine := fun (r : RegName) (i : Nat) => i = t.val ∧ (r = .TASK_CTRL ∨ r = .TASK_STATUS)
    (s.blk.taskState t = 0 → s.blk.taskValid t = true → (s.blk.desc t).modelEn = false →
      Completes (.taskEnable t) s fun b =>
        b.taskState t = 1 ∧ b.flag F.TASK_CTRL_EN t = true ∧ (∀ n j, (b.task t).lane n j = 0) ∧
          (∀ n j, (b.task t).acc n j = 0) ∧ (b.task t).staged = [] ∧ RegsKeptBut mine s.blk b ∧ MemKept s.blk b) ∧
    (s.blk.taskState t = 0 → s.blk.taskValid t = true → Completes (.taskEnable t) s fun b =>
      b.taskState t = 1 ∧ b.flag F.TASK_CTRL_EN t = true ∧ (∀ n j, (b.task t).lane n j = 0) ∧
        (∀ n j, (b.task t).acc n j = 0) ∧ (b.task t).prim = (s.blk.task t).prim ∧ OtherTasksKept t s.blk b ∧
        ((s.blk.desc t).modelEn = true → s.blk.feedbackWaits t = true → (b.task t).align = true) ∧
        ((s.blk.desc t).modelEn = true → s.blk.feedbackWaits t = false →
          ∀ j, j < 16 → b.word (taskAddr t ((s.blk.desc t).model + 0x24 + 4 * j)) = (s.blk.task t).prim)) ∧
    (s.blk.taskState t = 0 → s.blk.taskValid t = false → Completes (.taskEnable t) s fun b =>
      b.taskState t = 0 ∧ b.flag F.TASK_CTRL_EN t = false ∧ b.flag F.TASK_STATUS_EN_REFUSED t = true ∧
        b.le = s.blk.le ∧ RegsKeptBut mine s.blk b ∧ MemKept s.blk b) ∧
    (s.blk.taskState t = 5 → Completes (.taskEnable t) s fun b =>
      b.taskState t = 5 ∧ b.flag F.TASK_STATUS_EN_REFUSED t = true ∧ b.le = s.blk.le ∧
        RegsKeptBut mine s.blk b ∧ MemKept s.blk b) ∧
    (Completes (.taskDisable t) s fun b =>
      let m := s.blk.missNow t
      let off := m.fld F.TASK_CTRL_DISABLE_ACTION t
      (m.taskState t = 1 ∨ m.taskState t = 2 →
        b.taskState t = 0 ∧ b.flag F.TASK_CTRL_EN t = false ∧ OtherTasksKept t s.blk b ∧
          (off = 0 → b.le.link = m.le.link ∧ b.bus = m.bus ∧ RegsKeptBut mine m b ∧ MemKept m b) ∧
          (off = 1 → b.le.link = m.le.link ++ safeMsgs m t)) ∧
      (m.taskState t = 3 ∨ m.taskState t = 4 →
        b.taskState t = 5 ∧ b.flag F.TASK_CTRL_EN t = false ∧ (b.task t).drainAt = s.blk.tb1 ∧
          (b.task t).staged = (m.task t).staged ∧ RegsKeptBut mine m b ∧ MemKept m b) ∧
      (m.taskState t = 0 ∨ m.taskState t = 5 → b = m) ∧
      ((s.blk.task t).due = .none → m = s.blk)) ∧
    (Completes (.taskSwap t) s fun b =>
      (s.blk.flag F.TASK_STATUS_SWAP_PEND t = true ∨ s.blk.taskState t = 5 →
        b.flag F.TASK_STATUS_BANK_LOCKED t = true ∧
          b.flag F.TASK_STATUS_SWAP_PEND t = s.blk.flag F.TASK_STATUS_SWAP_PEND t) ∧
      (s.blk.flag F.TASK_STATUS_SWAP_PEND t = false → s.blk.taskState t ≠ 5 →
        b.flag F.TASK_STATUS_SWAP_PEND t = true ∧
          b.flag F.TASK_STATUS_BANK_LOCKED t = s.blk.flag F.TASK_STATUS_BANK_LOCKED t) ∧
      b.flag F.TASK_STATUS_BANK t = s.blk.flag F.TASK_STATUS_BANK t ∧ b.taskState t = s.blk.taskState t ∧
        RegsKeptBut mine s.blk b ∧ MemKept s.blk b) ∧
    (Completes (.taskPlClr t) s fun b => b.flag F.TASK_STATUS_PL_FLAG t = false ∧ (b.task t).resN = 0 ∧ (b.task t).rngN = 0 ∧
      ((s.blk.desc t).modelEn = false → RegsKeptBut mine s.blk b ∧ MemKept s.blk b)) ∧
    ∀ man, Completes (.taskManWrite t man) s fun b =>
      b.flag F.TASK_CTRL_MAN t = man ∧ b.flag F.TASK_CTRL_EN t = s.blk.flag F.TASK_CTRL_EN t ∧
        RegsKeptBut mine s.blk b ∧ MemKept s.blk b ∧ b.le = s.blk.le

/-- Where AON runs, TRIGGER_ARRIVAL of a trigger on its way makes an IDLE task READY, with the deadline (where DL_EN is 1 and DL_TB was
valid) and the backstop of its tick; a READY, RUNNING or PREEMPTED task counts it in DROPPED with a TASK_OVERRUN record; a DISABLED or
DRAINING one discards it. DEADLINE_REACHED and BACKSTOP_REACHED, where the last tick found the deadline or first the backstop
reached, raise one record of detail 1 or 2. A running instance is then marked by MISS_ACTION, a draining one for its end; a READY one
stays under ABORT_NONE, returns to IDLE under HOLD or SAFE and is DISABLED under SAFE_DISABLE, ABORTED, its SAFE values sent
in the last two. A backstop behind a recorded deadline marks a draining instance without a record. INSTANCE_ABORT of a marked
instance, behind what the last tick found due for it, counts it, sets ABORTED and acts by its mark; DRAIN_LIMIT ends a draining
instance without a record. HOLD of a plausibility episode does not keep SAFE values from being sent (log 63). -/
def Obligations.TriggersAndMissedDeadlines : Prop :=
  ∀ (s : State) (t : Fin 4096), s.blk.aonRuns = true →
    let x := s.blk.task t
    let d := s.blk.desc t
    let safe := s.blk.le.link ++ safeMsgs s.blk t
    (∀ g b0, s.blk.takeTrig 1 t = some (g, b0) → Completes (.triggerArrival t) s fun b =>
      (s.blk.taskState t = 1 → b.taskState t = 2 ∧
        b.task t = { x.clear with
          arrival := s.blk.tb1, trigTb1 := g.vals.getD 1 0
          dl := if d.dlEn = true ∧ g.valid.testBit d.dlTb = true
            then some ((g.vals.getD d.dlTb 0 + d.dlOffset) % 2 ^ s.blk.tbWidth d.dlTb) else none
          bs := if d.backstop = 0 then none else some (g.vals.getD 1 0 + d.backstop * 1000) } ∧
        NoRecord s.blk b ∧ RegsKeptBut (fun r i => r = .TASK_STATUS ∧ i = t.val) s.blk b) ∧
      (s.blk.taskState t = 2 ∨ s.blk.taskState t = 3 ∨ s.blk.taskState t = 4 →
        b.task t = x ∧ b.fld F.TASK_CNT_DROPPED t = min (s.blk.fld F.TASK_CNT_DROPPED t + 1) 65535 ∧
        OneRecord (taskEng t) 0x01 0x03 (s.blk.missData t) s.blk b ∧
        RegsKeptBut (fun r i => (r = .TASK_CNT ∧ i = t.val) ∨ RecReg r i) s.blk b) ∧
      (s.blk.taskState t = 0 ∨ s.blk.taskState t = 5 → b = b0) ∧
      b.tbu.trig = s.blk.tbu.trig.erase g ∧ OtherTasksKept t s.blk b ∧ MemKept s.blk b) ∧
    (∀ detail : Nat, (detail = 1 ∧ x.due = .deadline ∨ detail = 2 ∧ x.due = .backstop) →
      Completes (if detail = 1 then .deadlineReached t else .backstopReached t) s fun b =>
        let act := s.blk.fld F.TASK_CTRL_MISS_ACTION t
        OneRecord (taskEng t) 0x01 detail (s.blk.missData t) s.blk b ∧ OtherTasksKept t s.blk b ∧
        (x.ended = true → b.task t = { x with missed := true, due := .none } ∧ RegsKeptBut RecReg s.blk b ∧ MemKept s.blk b) ∧
        (x.ended = false → s.blk.taskState t ≠ 2 →
          b.task t = { x with
            missed := true, due := .none
            mark := if s.blk.taskState t = 5 then AbortMark.drain else
              match act with
              | 1 => AbortMark.hold
              | 2 => .safe
              | 3 => .safeDisable
              | _ => x.mark } ∧ RegsKeptBut RecReg s.blk b ∧ MemKept s.blk b) ∧
        (x.ended = false → s.blk.taskState t = 2 →
          (act = 0 → b.task t = { x with missed := true, due := .none } ∧ RegsKeptBut RecReg s.blk b ∧ MemKept s.blk b) ∧
          (act ≠ 0 → b.taskState t = (if act = 3 then 0 else 1) ∧ b.flag F.TASK_STATUS_ABORTED t = true ∧
            b.fld F.TASK_CNT_ABORTS t = min (s.blk.fld F.TASK_CNT_ABORTS t + 1) 65535 ∧
            b.reg .TASK_SEQ t = s.blk.reg .TASK_SEQ t ∧ (b.task t).dl = none ∧ (b.task t).bs = none) ∧
          (act = 1 → b.le.link = s.blk.le.link ∧ MemKept s.blk b) ∧ (2 ≤ act → act ≤ 3 → b.le.link = safe))) ∧
    (x.due = .drain → Completes (.backstopReached t) s fun b =>
      b.task t = { x with due := .none, mark := if x.ended = true then x.mark else .drain } ∧ OtherTasksKept t s.blk b ∧
        NoRecord s.blk b ∧ RegsKept s.blk b ∧ MemKept s.blk b) ∧
    (x.started = true → x.ended = false → x.mark ≠ .none → Completes (.instanceAbort t) s fun b =>
      let m := s.blk.missNow t
      let mark := (m.task t).mark
      let safe := m.le.link ++ safeMsgs m t
      let off := m.fld F.TASK_CTRL_DISABLE_ACTION t
      (x.due = .none → m = s.blk) ∧
      b.fld F.TASK_CNT_ABORTS t = min (m.fld F.TASK_CNT_ABORTS t + 1) 65535 ∧
        b.flag F.TASK_STATUS_ABORTED t = true ∧ (b.task t).staged = [] ∧ (b.task t).started = false ∧ NoRecord m b ∧
        OtherTasksKept t s.blk b ∧
        (m.taskState t ≠ 5 →
          (mark = .hold → b.taskState t = 1 ∧ b.le.link = m.le.link ∧ MemKept m b) ∧
          (mark = .safe → b.taskState t = 1 ∧ b.le.link = safe) ∧
          (mark = .safeDisable → b.taskState t = 0 ∧ b.le.link = safe)) ∧
        (m.taskState t = 5 → b.taskState t = 0 ∧
          b.le.link = (if off = 1 ∨ mark = .safe ∨ mark = .safeDisable then safe else m.le.link))) ∧
    (s.blk.taskState t = 5 → d.dlEn = false → d.backstop = 0 → x.ended = false → x.drainAt + 1000000 ≤ s.blk.tb1 →
      Completes (.drainLimit t) s fun b =>
        b.taskState t = 0 ∧ b.flag F.TASK_STATUS_ABORTED t = true ∧ NoRecord s.blk b ∧ OtherTasksKept t s.blk b ∧
          b.fld F.TASK_CNT_ABORTS t = min (s.blk.fld F.TASK_CNT_ABORTS t + 1) 65535 ∧
          b.le.link = (if s.blk.fld F.TASK_CTRL_DISABLE_ACTION t = 1 then safe else s.blk.le.link))

/-- SAMPLE_BOUNDARY of an engine that selects a task completes wherever the engine runs: what the last tick found due for the task
acts first; then, unless that ended it or its feedback word has to be waited for, a pending bank swap and the mode requested
take effect, a mailbox is copied, TASK_SEQ counts one, the task is RUNNING with predicates and FLAGS 0 and PC at PROG_OFF; SAFE_DISABLE
may stop it instead, with TASK_SEQ unchanged. PREEMPT takes the engine from a task of lower PRIO and RESUME gives it back, the context
unchanged. COMMIT of an ended instance makes the task IDLE (DISABLED where it drained) with nothing staged. Unless HOLD of an episode
suppresses it, every entry with a value is sent, SAFE values after them where a draining task has DISABLE_ACTION 1: KIND 1 and 2 to
the channels it owns, KIND 3 as writes of its engine, KIND 4 as samples. The value is the staged one, for the
primary entry in MANUAL the manual one, and for the first automatic instance with INTEG_EN the primary value in force, the integral
state moving by the difference with saturation. The primary value in force and, in AUTO, TASK_MAN follow. -/
def Obligations.BoundaryPreemptionAndCommit : Prop :=
  ∀ (s : State) (e : Fin 512), s.blk.engineRuns e = true →
    (∀ t, s.blk.selected e = some t → Completes (.sampleBoundary e) s fun b =>
      let m := s.blk.missNow t
      let d := m.desc t
      (s.blk.taskState t = 2 ∧ taskEng t = e.val) ∧ ((s.blk.task t).due = .none → m = s.blk) ∧
      (m.taskState t ≠ 2 ∨ m.feedbackWaits t = true → b = m) ∧
      (m.taskState t = 2 → m.feedbackWaits t = false →
        (m.flag F.TASK_CTRL_PL_EN t = false ∨ d.modelEn = false →
          b.taskState t = 3 ∧ b.fld F.TASK_SEQ_SEQ t = (m.fld F.TASK_SEQ_SEQ t + 1) % 2 ^ 32 ∧ b.cur e = some t ∧
            (b.task t).pc = d.progOff ∧ (b.task t).flags = 0 ∧ (∀ n, n ≠ 0 → (b.task t).pred n = 0) ∧
            (b.task t).v = (m.task t).v ∧ (b.task t).ac = (m.task t).ac ∧
            (b.task t).manVal = m.reg .TASK_MAN t ∧
            b.flag F.TASK_STATUS_MODE_ACT t = m.flag F.TASK_CTRL_MAN t ∧
            b.flag F.TASK_STATUS_SWAP_PEND t = false ∧
            b.flag F.TASK_STATUS_BANK t = (m.flag F.TASK_STATUS_BANK t ^^ m.flag F.TASK_STATUS_SWAP_PEND t)) ∧
        (d.modelEn = false → RegsKeptBut (fun r i => i = t ∧ (r = .TASK_STATUS ∨ r = .TASK_SEQ)) m b ∧
          (d.mboxEn = false → MemKept m b) ∧
          (d.mboxEn = true →
            b.readMem (taskAddr t d.mbox) 32 = m.readMem (taskAddr t (d.mbox + 32)) 32 ∧
              ∀ y, y < taskAddr t d.mbox ∨ taskAddr t d.mbox + 32 ≤ y → b.byte y = m.byte y)) ∧
        (b.taskState t = 3 ∧ b.fld F.TASK_SEQ_SEQ t = (m.fld F.TASK_SEQ_SEQ t + 1) % 2 ^ 32 ∨
          b.taskState t = 0 ∧ b.fld F.TASK_SEQ_SEQ t = m.fld F.TASK_SEQ_SEQ t ∧
            m.fld F.TASK_CTRL_PL_ACTION t = 3))) ∧
    (∀ t, s.blk.cur e = some t → (s.blk.task t).ended = false →
      (∃ u ∈ s.blk.readyTasks e, s.blk.prio t < s.blk.prio u) → Completes (.preempt e) s fun b =>
        b.cur e = none ∧ b.task t = s.blk.task t ∧ (s.blk.taskState t = 3 → b.taskState t = 4) ∧
          RegsKeptBut (fun r i => r = .TASK_STATUS ∧ i = t) s.blk b ∧ MemKept s.blk b) ∧
    (∀ t, s.blk.cur e = none → s.blk.firstOf (s.blk.preempted e) = some t → (s.blk.task t).mark = .none →
      (∀ u ∈ s.blk.readyTasks e, s.blk.prio u ≤ s.blk.prio t) → Completes (.resume e) s fun b =>
        b.cur e = some t ∧ b.task t = s.blk.task t ∧ (s.blk.taskState t = 4 → b.taskState t = 3) ∧
          RegsKeptBut (fun r i => r = .TASK_STATUS ∧ i = t) s.blk b ∧ MemKept s.blk b) ∧
    ∀ t, s.blk.cur e = some t → (s.blk.task t).ended = true → Completes (.commit e) s fun b =>
      let m := s.blk.missNow t
      let x := m.task t
      let d := m.desc t
      let man := m.flag F.TASK_STATUS_MODE_ACT t
      let held := m.flag F.TASK_STATUS_PL_FLAG t = true ∧ m.fld F.TASK_CTRL_PL_ACTION t = 1
      let drains := m.taskState t = 5
      let off := m.fld F.TASK_CTRL_DISABLE_ACTION t
      let preset := man = false ∧ x.toAuto = true ∧ d.integEn = true
      let value := fun n => if n = d.primary ∧ man = true then some (x.manVal.setWidth 128)
        else if n = d.primary ∧ preset then (x.stagedAt n).map fun _ => x.prim.setWidth 128 else x.stagedAt n
      let i := taskAddr t d.integ
      let c := match x.stagedAt d.primary with
        | some u => if preset then m.setWord i (BitVec.ofInt 32
            (limited 32 ((m.word i).toInt + (limited 32 (x.prim.toInt - (u.extractLsb' 0 32 : Word).toInt)).1)).1) else m
        | none => m
      let l := c.outEntries t d
      let prim : Word := match value d.primary with
        | some v => v.extractLsb' 0 32
        | none => x.prim
      ((s.blk.task t).due = .none → m = s.blk) ∧
      b.taskState t = (if drains then 0 else 1) ∧ (b.task t).staged = [] ∧ (b.task t).started = false ∧
        OtherTasksKept t s.blk b ∧
        (¬ drains → held →
          b.le.link = m.le.link ∧ b.bus = m.bus ∧ (b.task t).prim = x.prim ∧
            RegsKeptBut (fun r i => r = .TASK_STATUS ∧ i = t) m b ∧ MemKept m b) ∧
        (drains → held → b.le.link = m.le.link ++ if off = 1 then safeMsgs m t else []) ∧
        (¬ held →
          b.reg .TASK_MAN t = (if man = true ∨ value d.primary = none then m.reg .TASK_MAN t else prim) ∧
          (b.task t).toAuto = (x.toAuto && (man || (x.stagedAt d.primary).isNone)) ∧
          (¬ drains ∨ off = 0 → (b.task t).prim = prim) ∧
          (¬ drains → b.le.link = m.le.link ++ entryMsgs c t l fun n _ => value n) ∧
          (EntriesAdmitted c t l →
            b.le.link = m.le.link ++ (entryMsgs c t l fun n _ => value n) ++ (if drains ∧ off = 1 then safeMsgs c t else []) ∧
            b.bus.waiting.map unedged = m.bus.waiting.map unedged ++ entryWrites c t l value ∧
            b.bus.egress = m.bus.egress ++ entryPackets c t l value ∧ MemKept c b))

/-- OCC_WINDOW completes where AON runs and 1 ms has passed: OCC is the issue cycles of the tile per mille of 16 engines' LECLK
cycles in the window, counted in fortieths (a step of 25 MHz gives one fortieth of a cycle per ns) at the clock step in force at every instant, and
the counts start anew; no other register changes. GRACE_END completes where the grace time of 20 ms has passed: a
tile whose THR_REQ is 1 and whose OCC exceeds TARGET_PCT × 10 is GATED, with one record; any other stays as it is. -/
def Obligations.TileOccupancyAndGate : Prop :=
  ∀ (s : State) (tile : Fin 32), s.blk.aonRuns = true →
    (SMap.get s.blk.le.occAt tile.val 0 + 1000000 ≤ s.blk.tb1 → Completes (.occWindow tile) s fun b =>
      let cycles := s.blk.le.cycles + s.blk.fld F.PWR_STATUS_LECLK_N 0 * (s.blk.tb1 - s.blk.le.cycAt)
      b.fld F.TILE_OCC_OCC tile = min 1000 (SMap.get s.blk.le.issues tile.val 0 * 1000 * 40 /
        (16 * (cycles - SMap.get s.blk.le.occCyc tile.val 0))) ∧
      SMap.get b.le.issues tile.val 0 = 0 ∧ SMap.get b.le.occAt tile.val 0 = s.blk.tb1 ∧
      SMap.get b.le.occCyc tile.val 0 = cycles ∧
      RegsKeptBut (fun r i => r = .TILE_OCC ∧ i = tile.val) s.blk b ∧ MemKept s.blk b) ∧
    ∀ t, SMap.get s.blk.le.grace tile.val none = some t → t + 20000000 ≤ s.blk.tb1 →
      let busy := s.blk.flag F.TILE_STATUS_THR_REQ tile = true ∧
        max 25 (min 90 (s.blk.fld F.TILE_THR_TARGET_PCT tile)) * 10 < s.blk.fld F.TILE_OCC_OCC tile
      Completes (.graceEnd tile) s fun b =>
        SMap.get b.le.grace tile.val none = none ∧ MemKept s.blk b ∧
        (busy → b.flag F.TILE_STATUS_GATED tile = true ∧
          OneRecord 594 0x0F 0x02 (tile * 2 ^ 27 + s.blk.fld F.TILE_OCC_OCC tile) s.blk b ∧
          RegsKeptBut (fun r i => (r = .TILE_STATUS ∧ i = tile.val) ∨ RecReg r i) s.blk b) ∧
        (¬ busy → RegsKept s.blk b ∧ NoRecord s.blk b)

/-- ADD, SUB, ADDW, SUBW, MIN, MAX, ABS, NEG, AND, OR and XOR complete wherever their word is the next of an engine and may
issue. Each enabled lane of VD takes the result of R103, which ADD, SUB, ABS and NEG limit to 32 bits with FLAGS.SAT set where a
limit was applied; ADDW and SUBW wrap. The lanes read are those before the instruction. No other lane, predicate, accumulator,
register or byte of memory changes. -/
def Obligations.LaneArithmeticInstructions : Prop :=
  LaneInstruction .add 0x08 1 (fun a t j => limited 32 (laneA a t j + laneB a t j)) ∧
  LaneInstruction .sub 0x09 1 (fun a t j => limited 32 (laneA a t j - laneB a t j)) ∧
  LaneInstruction .addw 0x0A 1 (fun a t j => plain (laneA a t j + laneB a t j)) ∧
  LaneInstruction .subw 0x0B 1 (fun a t j => plain (laneA a t j - laneB a t j)) ∧
  LaneInstruction .minLane 0x0C 1 (fun a t j => plain (if laneA a t j ≤ laneB a t j then laneA a t j else laneB a t j)) ∧
  LaneInstruction .maxLane 0x0D 1 (fun a t j => plain (if laneA a t j ≤ laneB a t j then laneB a t j else laneA a t j)) ∧
  LaneInstruction .absLane 0x0E 1 (fun a t j => limited 32 (laneA a t j).natAbs) ∧
  LaneInstruction .neg 0x0F 1 (fun a t j => limited 32 (-laneA a t j)) ∧
  LaneInstruction .andLane 0x10 1 (fun a t j => plain (BitVec.ofInt 32 (laneA a t j) &&& BitVec.ofInt 32 (laneB a t j)).toInt) ∧
  LaneInstruction .orLane 0x11 1 (fun a t j => plain (BitVec.ofInt 32 (laneA a t j) ||| BitVec.ofInt 32 (laneB a t j)).toInt) ∧
  LaneInstruction .xorLane 0x12 1 (fun a t j => plain (BitVec.ofInt 32 (laneA a t j) ^^^ BitVec.ofInt 32 (laneB a t j)).toInt)

/-- SHL, SHR, SHRR, MUL, MOV, BCST, LDI, LDIH, ADDI, CMUL, CLD and ACCR complete wherever their word is the next of an engine and
may issue, with the results of R103, R107 and R109: SHL, MUL, ADDI, CMUL and ACCR limit to 32 bits, MUL, SHRR, CMUL and ACCR
round by R105, CMUL and CLD read the coefficient of the lane from the active bank. CLD is a load of the tile, behind what waits there (log 6): where
the gate refuses it, the lane takes 0 and FLAGS.DENY is set; that CLD is checked as 32-bit loads and CMUL's coefficient is not
checked is the model's reading (log 62). Nothing else changes. -/
def Obligations.LaneMoveAndProductInstructions : Prop :=
  let bits := fun (a : Blk) (t lo n : Nat) => a.fetch t / 2 ^ lo % 2 ^ n
  let at_ := fun (a : Blk) (t j : Nat) => taskAddr t (a.activeBank t (a.desc t) +
    4 * (bits a t 5 10 + if bits a t 4 1 = 1 then j else 0))
  let coef := fun (a : Blk) (t j : Nat) => a.word (at_ a t j)
  LaneInstruction .shl 0x13 1 (fun a t j => limited 32 (laneA a t j * 2 ^ bits a t 5 5)) ∧
  LaneInstruction .shr 0x14 1 (fun a t j => plain (laneA a t j / 2 ^ bits a t 5 5)) ∧
  LaneInstruction .shrr 0x15 1 (fun a t j => plain (rshift (laneA a t j) (bits a t 5 5))) ∧
  LaneInstruction .mul 0x16 1 (fun a t j => limited 32 (rshift (laneA a t j * laneB a t j) (bits a t 5 6))) ∧
  LaneInstruction .mov 0x18 1 (fun a t j => plain (laneA a t j)) ∧
  LaneInstruction .bcst 0x19 1 (fun a t _ => plain (laneA a t (bits a t 5 2))) ∧
  LaneInstruction .ldi 0x24 1 (fun a t _ => plain (BitVec.ofNat 16 (bits a t 0 16)).toInt) ∧
  LaneInstruction .ldih 0x25 1 (fun a t j =>
    plain (bits a t 0 16 * 2 ^ 16 + ((a.task t).lane (vdOf (a.fetch t)) j).toNat % 2 ^ 16 : Nat)) ∧
  LaneInstruction .addi 0x26 1 (fun a t j => limited 32 (laneA a t j + (BitVec.ofNat 15 (bits a t 0 15)).toInt)) ∧
  LaneInstruction .cmul 0x28 1 (fun a t j =>
    limited 32 (rshift (laneA a t j * (coef a t j).toInt.fdiv 32) ((coef a t j).toNat % 32))) ∧
  LaneInstruction .accr 0x2E 1 (fun a t j => limited 32 (rshift ((a.task t).acc (bits a t 17 2) j) (16 + bits a t 12 5))) ∧
  ∀ (s : State) (e : Fin 512) (t : Nat), s.blk.issues e 0x29 = some t → taskEng t = e.val →
    s.blk.activeBank t (s.blk.desc t) + 4 * (s.blk.desc t).coefN ≤ tileBytes →
    let f := s.blk.settleMem (taskAddr t 0)
    let no := fun (j : Nat) => s.blk.gate (s.blk.unitMaster (taskEng t)) .read (at_ s.blk t j) 32 ≠ none
    let on := fun (j : Nat) => j < 4 ∧ (maskOf s.blk t).getLsbD j = true
    Completes (.cld e) s fun b =>
      PcMoves t s.blk b ∧ OnlyLanes t s.blk b ∧ FlagsTake t 2 (∃ j, on j ∧ no j) s.blk b ∧
        (∃ v, LanesTake t (vdOf (s.blk.fetch t)) (maskOf s.blk t) v s.blk b ∧ (∀ j, on j → no j → v j = 0) ∧
          ((∀ j, on j → ¬ no j) → ∀ j, on j → v j = f.word (at_ s.blk t j))) ∧
        ((∃ j, on j) → (∀ j, on j → ¬ no j) → IssuedOn f e t 1 s.blk b) ∧
        ((∀ j, ¬ on j) → Issued e t 1 s.blk b)

/-- rs(p, 0) is p. For s > 0, rs(p, s) is the one number q with q × 2^s ≤ p + 2^(s−1) < (q + 1) × 2^s, so a value exactly
halfway rounds toward plus infinity; the four values of the table of R105 are as it gives them. -/
def Obligations.RoundingShiftRoundsToNearest : Prop :=
  (∀ p, rshift p 0 = p) ∧
  (∀ (p q : Int) (s : Nat), 0 < s →
    (rshift p s = q ↔ q * 2 ^ s ≤ p + 2 ^ (s - 1) ∧ p + 2 ^ (s - 1) < (q + 1) * 2 ^ s)) ∧
  (∀ (q : Int) (s : Nat), 0 < s → rshift (q * 2 ^ s + 2 ^ (s - 1)) s = q + 1) ∧
  rshift 98304 16 = 2 ∧ rshift (-98304) 16 = -1 ∧ rshift 56620800 16 = 864 ∧ rshift (-56620800) 16 = -864

/-- DIV completes wherever its word is the next of an engine and may issue, in 20 issue cycles. Each enabled lane of VD takes the
quotient of a × 2^M[4:0] by b truncated toward zero and limited to 32 bits; by 0 it takes 0, 2^31 − 1 or −2^31 as a is 0,
positive or negative. FLAGS.DIV0 is set where an enabled lane divided by 0, FLAGS.SAT where a limit was applied or a number
other than 0 was divided by 0. Nothing else changes. -/
def Obligations.DivisionInstruction : Prop :=
  let quot := fun (a : Blk) (t j : Nat) =>
    if laneB a t j = 0 then
      if laneA a t j = 0 then plain 0 else if 0 < laneA a t j then (2 ^ 31 - 1, true) else (-(2 ^ 31), true)
    else limited 32 ((laneA a t j * 2 ^ (a.fetch t / 32 % 32)).tdiv (laneB a t j))
  ∀ (s : State) (e : Fin 512) (t : Nat), s.blk.issues e 0x17 = some t → Completes (.div e) s fun b =>
    let on := fun (p : Nat → Prop) => ∃ j, j < 4 ∧ (maskOf s.blk t).getLsbD j = true ∧ p j
    LanesTake t (vdOf (s.blk.fetch t)) (maskOf s.blk t) (fun j => BitVec.ofInt 32 (quot s.blk t j).1) s.blk b ∧
      ((b.task t).flags.testBit 0 = true ↔
        (s.blk.task t).flags.testBit 0 = true ∨ on fun j => (quot s.blk t j).2 = true) ∧
      ((b.task t).flags.testBit 3 = true ↔ (s.blk.task t).flags.testBit 3 = true ∨ on fun j => laneB s.blk t j = 0) ∧
      (∀ k, k ≠ 0 → k ≠ 3 → (b.task t).flags.testBit k = (s.blk.task t).flags.testBit k) ∧
      PcMoves t s.blk b ∧ OnlyLanes t s.blk b ∧ Issued e t 20 s.blk b

/-- HSUM, MOVL and FLG complete wherever their word is the next of an engine and may issue. HSUM puts the limited sum of the enabled
lanes of VA into lane 0 of VD, whatever the predicate holds at bit 0; MOVL puts lane M[1:0] of VA into lane M[3:2] of VD, and FLG
FLAGS into lane M[1:0], where the predicate bit of that lane is 1. Nothing else changes. -/
def Obligations.SingleLaneInstructions : Prop :=
  ∀ (s : State) (e : Fin 512) (t : Nat),
    let w := s.blk.fetch t
    let m := maskOf s.blk t
    let vd := vdOf w
    let only := fun (j : Nat) => if m.getLsbD j then BitVec.ofNat 4 (2 ^ j) else 0
    let sum := (if m.getLsbD 0 then laneA s.blk t 0 else 0) + (if m.getLsbD 1 then laneA s.blk t 1 else 0) +
      (if m.getLsbD 2 then laneA s.blk t 2 else 0) + (if m.getLsbD 3 then laneA s.blk t 3 else 0)
    (s.blk.issues e 0x1B = some t → Completes (.hsum e) s fun b =>
      LanesTake t vd 1 (fun _ => BitVec.ofInt 32 (limited 32 sum).1) s.blk b ∧
        FlagsTake t 1 ((limited 32 sum).2 = true) s.blk b ∧ PcMoves t s.blk b ∧ OnlyLanes t s.blk b ∧
        Issued e t 1 s.blk b) ∧
    (s.blk.issues e 0x1A = some t → Completes (.movl e) s fun b =>
      LanesTake t vd (only (w / 2 ^ 7 % 4)) (fun _ => (s.blk.task t).lane (vaOf w) (w / 2 ^ 5 % 4)) s.blk b ∧
        (b.task t).flags = (s.blk.task t).flags ∧ PcMoves t s.blk b ∧ OnlyLanes t s.blk b ∧ Issued e t 1 s.blk b) ∧
    (s.blk.issues e 0x3B = some t → Completes (.flg e) s fun b =>
      LanesTake t vd (only (w / 2 ^ 5 % 4)) (fun _ => BitVec.ofNat 32 (s.blk.task t).flags) s.blk b ∧
        (b.task t).flags = (s.blk.task t).flags ∧ PcMoves t s.blk b ∧ OnlyLanes t s.blk b ∧ Issued e t 1 s.blk b)

/-- CMPEQ, CMPNE, CMPLT, CMPLE and CMPLTU put their comparison of VA and VB into the enabled bits of PD, and PAND, POR, PNOT and
PSET put theirs into all of PD, wherever their word is the next of an engine and may issue; P0 reads all ones before and after. Nothing
else changes. -/
def Obligations.CompareAndPredicateInstructions : Prop :=
  CompareInstruction .cmpeq 0x1C (fun x y => x = y) ∧ CompareInstruction .cmpne 0x1D (fun x y => x ≠ y) ∧
  CompareInstruction .cmplt 0x1E (fun x y => x.toInt < y.toInt) ∧
  CompareInstruction .cmple 0x1F (fun x y => x.toInt ≤ y.toInt) ∧
  CompareInstruction .cmpltu 0x27 (fun x y => x.toNat < y.toNat) ∧
  PredicateInstruction .pand 0x20 (fun x w => x.pred (w / 2 ^ 16 % 8) &&& x.pred (w / 2 ^ 12 % 8)) ∧
  PredicateInstruction .por 0x21 (fun x w => x.pred (w / 2 ^ 16 % 8) ||| x.pred (w / 2 ^ 12 % 8)) ∧
  PredicateInstruction .pnot 0x22 (fun x w => ~~~ x.pred (w / 2 ^ 16 % 8)) ∧
  PredicateInstruction .pset 0x23 (fun _ w => BitVec.ofNat 4 (w % 16)) ∧
  ∀ x : TaskSt, x.pred 0 = 15

/-- CMAC, CMSU, CLRA, ADDA and ACCL complete wherever their word is the next of an engine and may issue: the enabled lanes of the
accumulator take the sum or difference with the exact product aligned to 16 fraction bits (x × MANT × 2^(16 − SHIFT), or its
floor over 2^(SHIFT − 16)), 0, the sum with v × 2^16, or v × 2^16, limited to 64 bits with FLAGS.SAT. That the coefficient is read without a check is
the model's reading (log 62). Nothing else changes. -/
def Obligations.AccumulatorInstructions : Prop :=
  let bits := fun (a : Blk) (t lo n : Nat) => a.fetch t / 2 ^ lo % 2 ^ n
  let aligned := fun (a : Blk) (t j : Nat) =>
    let c := a.word (taskAddr t (a.activeBank t (a.desc t) + 4 * (bits a t 5 10 + if bits a t 4 1 = 1 then j else 0)))
    let p := laneA a t j * c.toInt.fdiv 32
    let sh := c.toNat % 32
    if sh ≤ 16 then p * 2 ^ (16 - sh) else p.fdiv (2 ^ (sh - 16))
  let v := fun (a : Blk) (t j : Nat) => ((a.task t).lane (bits a t 19 4) j).toInt
  AccInstruction .cmac 0x2A (fun w => w / 2 ^ 19 % 4) (fun a t j => (a.task t).acc (bits a t 19 2) j + aligned a t j) ∧
  AccInstruction .cmsu 0x2B (fun w => w / 2 ^ 19 % 4) (fun a t j => (a.task t).acc (bits a t 19 2) j - aligned a t j) ∧
  AccInstruction .clra 0x2C (fun w => w / 2 ^ 17 % 4) (fun _ _ _ => 0) ∧
  AccInstruction .adda 0x2D (fun w => w / 2 ^ 17 % 4) (fun a t j => (a.task t).acc (bits a t 17 2) j + v a t j * 2 ^ 16) ∧
  AccInstruction .accl 0x2F (fun w => w / 2 ^ 17 % 4) (fun a t j => v a t j * 2 ^ 16)

/-- LD, ST and LDX complete wherever their word is the next of an engine and may issue. They act on memory as what waits at the tile
leaves it (log 6), which is as it was where nothing waits there. A load that the gate admits puts the word at 4 × WORD (of a
wide load, each lane's own of the four) into the enabled lanes; LDX, for each enabled lane, the word at the index in bits [15:0] of
the lane of VA; where the gate refuses, the lane takes 0 and FLAGS.DENY is set. A store that is one access writes its words where the
gate admits it, and else sets FLAGS.DENY; a wide one of some lanes, where no access of it is refused, leaves each enabled lane at
its own word. No byte outside the words of the enabled lanes changes where nothing is refused. Where no lane takes part nothing is accessed. -/
def Obligations.TileMemoryInstructions : Prop :=
  ∀ (s : State) (e : Fin 512) (t : Nat), taskEng t = e.val →
    let w := s.blk.fetch t
    let f := s.blk.settleMem (taskAddr t 0)
    let mid := s.blk.unitMaster (taskEng t)
    let m := memMask (maskOf s.blk t) (w.testBit 16) (w / 2 ^ 17 % 4)
    let off := fun (j : Nat) => 4 * (w % 2 ^ 16) + if w.testBit 16 then 4 * j else 0
    let idx := fun (j : Nat) => 4 * ((laneA s.blk t j % 65536).toNat)
    let bytes := if w.testBit 16 then 128 else 32
    let stored := fun (b : Blk) =>
      (∀ j, j < 4 → m.getLsbD j = true → b.word (taskAddr t (off j)) = (s.blk.task t).lane (vdOf w) j) ∧
        (∀ x, (∀ j, j < 4 → m.getLsbD j = true → x < taskAddr t (off j) ∨ taskAddr t (off j) + 4 ≤ x) →
          b.byte x = f.byte x) ∧
        RegsKeptBut (fun r i => r = .ENG_ISSUE ∧ i = e.val) s.blk b
    ((∀ a ∈ s.blk.bus.waiting, targetNo a.addr ≠ targetNo (taskAddr t 0)) → MemKept s.blk f) ∧
    (s.blk.issues e 0x30 = some t → Completes (.ldTile e) s fun b =>
      PcMoves t s.blk b ∧ OnlyLanes t s.blk b ∧
      (m = 0 → b.task t = { s.blk.task t with pc := (s.blk.task t).pc + 4 } ∧ Issued e t 1 s.blk b) ∧
      (m ≠ 0 → s.blk.gate mid .read (taskAddr t (off 0)) bytes = none →
        LanesTake t (vdOf w) m (fun j => f.word (taskAddr t (off j))) s.blk b ∧
          (b.task t).flags = (s.blk.task t).flags ∧ IssuedOn f e t 1 s.blk b) ∧
      (∀ d, m ≠ 0 → s.blk.gate mid .read (taskAddr t (off 0)) bytes = some d →
        LanesTake t (vdOf w) m (fun _ => 0) s.blk b ∧ FlagsTake t 2 True s.blk b ∧
          b.fld F.ACC_REFUSED_REFUSED 0 = (s.blk.fld F.ACC_REFUSED_REFUSED 0 + 1) % 2 ^ 32)) ∧
    (s.blk.issues e 0x31 = some t → Completes (.stTile e) s fun b =>
      PcMoves t s.blk b ∧ OnlyLanes t s.blk b ∧ (b.task t).v = (s.blk.task t).v ∧
      FlagsTake t 2 (b.reg .ACC_REFUSED 0 ≠ s.blk.reg .ACC_REFUSED 0) s.blk b ∧
      (m ≠ 0 → m = 15 ∨ w.testBit 16 = false →
        (s.blk.gate mid .write (taskAddr t (off 0)) bytes = none → stored b ∧ (b.task t).flags = (s.blk.task t).flags) ∧
        (∀ d, s.blk.gate mid .write (taskAddr t (off 0)) bytes = some d →
          b.fld F.ACC_REFUSED_REFUSED 0 = (s.blk.fld F.ACC_REFUSED_REFUSED 0 + 1) % 2 ^ 32 ∧ FlagsTake t 2 True s.blk b)) ∧
      (m ≠ 0 → b.reg .ACC_REFUSED 0 = s.blk.reg .ACC_REFUSED 0 → stored b) ∧
      (m = 0 → Issued e t 1 s.blk b ∧ OnlyPc t s.blk b)) ∧
    (s.blk.issues e 0x32 = some t →
      let on := fun (j : Nat) => j < 4 ∧ (maskOf s.blk t).getLsbD j = true
      let no := fun (j : Nat) => s.blk.gate mid .read (taskAddr t (idx j)) 32 ≠ none
      Completes (.ldx e) s fun b =>
        PcMoves t s.blk b ∧ OnlyLanes t s.blk b ∧ FlagsTake t 2 (∃ j, on j ∧ no j) s.blk b ∧
        (∃ v, LanesTake t (vdOf w) (maskOf s.blk t) v s.blk b ∧ (∀ j, on j → no j → v j = 0) ∧
          ((∀ j, on j → ¬ no j) → ∀ j, on j → v j = f.word (taskAddr t (idx j)))) ∧
        ((∃ j, on j) → (∀ j, on j → ¬ no j) → IssuedOn f e t 1 s.blk b) ∧
        ((∀ j, ¬ on j) → Issued e t 1 s.blk b))

/-- GLD and GST complete wherever their word is the next of an engine and may issue. A load in which a lane takes part is
outstanding from then on, with its lanes. Its access goes to the address in lanes 0 and 1 of VA: on this node it waits at the target,
behind what waits there (log 6), or is refused, with a refusal for its result; for another node a request with the engine's
master ID waits for the fabric, one that breaks R8 being refused before it leaves. A store is posted likewise: a single
word or all four lanes of a wide one as one write, a wide one of some lanes as one write of 32 bits for each lane, each refused or
posted on its own, a misaligned wide one refused whole. A refusal changes only the refusal count, its log and its result; for a wide
store of some lanes the log is taken to lie in lower shared SRAM (R364) with nothing waiting there. Where AON runs, GLD_RESPONSE of an outstanding load
whose result has come puts into each of its lanes what a later instruction has written there, or else the word, or 0 where it was
refused, at once or where an earlier load is awaited on that one's edge; FLAGS.DENY is set for a refusal. A load of an instance
that is gone is discarded. GST_COMPLETE ends the store, with FLAGS.DENY where it was refused. -/
def Obligations.GlobalAccessInstructions : Prop :=
  (∀ (s : State) (e : Fin 512) (t : Nat),
    let w := s.blk.fetch t
    let x := s.blk.task t
    let wide := w.testBit 14
    let m := memMask (maskOf s.blk t) wide (w / 2 ^ 12 % 4)
    let lanes := (List.range 4).filter fun j => m.getLsbD j
    let g := (x.lane (vaOf w) 0).toNat + (x.lane (vaOf w) 1).toNat % 2 ^ 17 * 2 ^ 32
    let a := g % 2 ^ 40
    let here := g / 2 ^ 40 = s.blk.node
    let width := if wide then 128 else 32
    let mid := s.blk.unitMaster (taskEng t)
    (s.blk.issues e 0x33 = some t →
      Completes (.gld e) s fun b =>
        let who := Requester.gld t x.next
        PcMoves t s.blk b ∧
        (m = 0 → OnlyPc t s.blk b ∧ b.bus = s.blk.bus ∧ Issued e t 1 s.blk b) ∧
        (m ≠ 0 → b.task t = { x with
          gld := x.gld ++ [⟨x.next, vdOf w, m, wide, w / 2 ^ 12 % 4, []⟩], next := x.next + 1, pc := (b.task t).pc }) ∧
        (m ≠ 0 → here → s.blk.gate mid .read a width = none →
          b.bus = { s.blk.bus with
            waiting := s.blk.bus.waiting ++ [⟨who, mid, .read, a, width, 0, s.blk.edgeNow a⟩] } ∧ Issued e t 1 s.blk b) ∧
        (∀ d, m ≠ 0 → here → s.blk.gate mid .read a width = some d →
          RefusedIssue e t who .read mid d (denyData .read a) s.blk b) ∧
        (m ≠ 0 → ¬ here → a % (width / 8) = 0 →
          b.bus = { s.blk.bus with
            remote := s.blk.bus.remote ++ [⟨who, taskEng t, .read, g / 2 ^ 40, a, width, 0⟩] } ∧ Issued e t 1 s.blk b) ∧
        (m ≠ 0 → ¬ here → a % (width / 8) ≠ 0 →
          RefusedIssue e t who .read (taskEng t) 1 (denyData .read a) s.blk b)) ∧
    (s.blk.issues e 0x34 = some t →
      Completes (.gst e) s fun b =>
        let whole := wide = true ∧ (m = 15 ∨ g % 16 ≠ 0)
        let writes : List (Nat × Nat × BitVec 128) :=
          if whole then [(a, 128, BitVec.ofNat 128 (x.quad (vdOf w)))]
          else lanes.map fun j => (if wide then a + 4 * j else a, 32, (x.lane (vdOf w) j).setWidth 128)
        let posted := writes.zipIdx.map fun y : (Nat × Nat × BitVec 128) × Nat =>
          (⟨.gst t (x.next + y.2), mid, .write, y.1.1, y.1.2.1, y.1.2.2, 0⟩ : Access)
        let free := fun p : Access => s.blk.gate mid .write p.addr p.width = none
        PcMoves t s.blk b ∧
        (m = 0 → OnlyPc t s.blk b ∧ b.bus = s.blk.bus ∧ Issued e t 1 s.blk b) ∧
        (m ≠ 0 → b.task t = { x with
          gst := x.gst ++ (List.range writes.length).map (x.next + ·), next := x.next + writes.length, pc := (b.task t).pc }) ∧
        (m ≠ 0 → here → (∀ p ∈ posted, free p) →
          b.bus = { s.blk.bus with waiting := b.bus.waiting } ∧
            b.bus.waiting.map unedged = s.blk.bus.waiting.map unedged ++ posted ∧ Issued e t 1 s.blk b) ∧
        (∀ d p, m ≠ 0 → here → posted = [p] → s.blk.gate mid .write p.addr p.width = some d →
          RefusedIssue e t p.who .write mid d (denyData .write p.addr) s.blk b) ∧
        (m ≠ 0 → here → whole → a % 16 ≠ 0 → RefusedIssue e t (.gst t x.next) .write mid 1 (denyData .write a) s.blk b) ∧
        (m ≠ 0 → here → RingPlaced s.blk →
          (∀ p ∈ posted, ¬ free p → ⟨p.who, .write, .deny, 0⟩ ∈ b.bus.results) ∧
          (∀ p ∈ posted, free p → p ∈ b.bus.waiting.map unedged ∨ ⟨p.who, .write, .ok, 0⟩ ∈ b.bus.results) ∧
          b.fld F.ACC_REFUSED_REFUSED 0 = (s.blk.fld F.ACC_REFUSED_REFUSED 0 +
            (posted.filter fun p => (s.blk.gate mid .write p.addr p.width).isSome).length) % 2 ^ 32) ∧
        (m ≠ 0 → ¬ here → a % (if whole then 16 else 4) = 0 →
          b.bus = { s.blk.bus with
            remote := s.blk.bus.remote ++ posted.map fun p =>
              ⟨p.who, taskEng t, .write, g / 2 ^ 40, p.addr, p.width, p.data⟩ } ∧ Issued e t 1 s.blk b) ∧
        (∀ p, m ≠ 0 → ¬ here → posted = [p] → a % (if whole then 16 else 4) ≠ 0 →
          RefusedIssue e t p.who .write (taskEng t) 1 (denyData .write p.addr) s.blk b))) ∧
  (∀ (s : State) (t : Fin 4096) (num : Nat) (c : Completion),
    s.blk.aonRuns = true → s.blk.bus.results.find? (fun c => c.who == .gld t num) = some c →
    Completes (.gldResponse t num) s fun b =>
      let x := s.blk.task t
      let before := fun y : TaskSt => { y with gld := y.gld.filter fun h => decide (h.num < num) }
      b.bus = { s.blk.bus with results := s.blk.bus.results.erase c } ∧ RegsKept s.blk b ∧ MemKept s.blk b ∧
      OtherTasksKept t s.blk b ∧
      (x.gld.find? (fun g => g.num == num) = none → b.task t = x) ∧
      ∀ g, x.gld.find? (fun g => g.num == num) = some g →
        LanesGo g.vd g.lanes (fun j =>
          match SMap.get g.late j none with
          | some v => v
          | none => if c.status = .ok then c.data.extractLsb' (if g.wide then 32 * j else 0) 32 else 0)
          (before x) (before (b.task t)) ∧
        FlagsTake t 2 (c.status ≠ .ok) s.blk b ∧
        ((b.task t).gld.filter fun h => decide (num ≤ h.num)) = (x.gld.filter fun h => decide (num < h.num)) ∧
        (before (b.task t)).gld.map bareLoad = (before x).gld.map bareLoad ∧
        b.task t = { x with v := (b.task t).v, flags := (b.task t).flags, gld := (b.task t).gld }) ∧
  ∀ (s : State) (t : Fin 4096) (num : Nat) (c : Completion),
    s.blk.aonRuns = true → s.blk.bus.results.find? (fun c => c.who == .gst t num) = some c →
    Completes (.gstComplete t num) s fun b =>
      b.bus = { s.blk.bus with results := s.blk.bus.results.erase c } ∧ RegsKept s.blk b ∧ MemKept s.blk b ∧
        OtherTasksKept t s.blk b ∧ (num ∉ (s.blk.task t).gst → b.task t = s.blk.task t) ∧
        (num ∈ (s.blk.task t).gst → FlagsTake t 2 (c.status ≠ .ok) s.blk b ∧
          b.task t = { s.blk.task t with gst := (s.blk.task t).gst.erase num, flags := (b.task t).flags })

/-- SMP, TBR and OUT complete wherever their word is the next of an engine and may issue, and act only where the predicate bit
named by the rule is 1. SMP puts the value or, with RAW, the word of the channel into one lane, V into bit LANE of PD and no other
bit, and sets INVALID where V is 0. TBR puts the 64-bit value of its source into two lanes. OUT stages the lane, or the whole register for a
KIND 3 entry of LANE 4, for its entry, replacing what was staged; for an entry of KIND 0 it does nothing. Nothing else changes. -/
def Obligations.SampleTimebaseAndOutputInstructions : Prop :=
  ∀ (s : State) (e : Fin 512) (t : Nat),
    let w := s.blk.fetch t
    let x := s.blk.task t
    let bits := fun (lo n : Nat) => w / 2 ^ lo % 2 ^ n
    (s.blk.issues e 0x38 = some t → Completes (.smp e) s fun b =>
      let lane := bits 17 2
      let word := s.blk.sample (bits 7 7)
      PcMoves t s.blk b ∧ Issued e t 1 s.blk b ∧
      ((maskOf s.blk t).getLsbD lane = false → OnlyPc t s.blk b) ∧
      ((maskOf s.blk t).getLsbD lane = true →
        LanesTake t (vdOf w) (BitVec.ofNat 4 (2 ^ lane))
          (fun _ => if w.testBit 6 then word else (word.extractLsb' 0 24).signExtend 32) s.blk b ∧
        PredTakes t (bits 14 3) (if word.getLsbD 31 then x.pred (bits 14 3) ||| BitVec.ofNat 4 (2 ^ lane)
          else x.pred (bits 14 3) &&& ~~~ BitVec.ofNat 4 (2 ^ lane)) s.blk b ∧
        FlagsTake t 4 (word.getLsbD 31 = false) s.blk b ∧ (b.task t).gld.map bareLoad = x.gld.map bareLoad ∧
        b.task t = { x with
          v := (b.task t).v, p := (b.task t).p, flags := (b.task t).flags, pc := (b.task t).pc, gld := (b.task t).gld })) ∧
    (s.blk.issues e 0x39 = some t → Completes (.tbr e) s fun b =>
      let pair := bits 18 1
      let v := match bits 16 2 with
        | 0 => s.blk.tb (bits 12 4)
        | 1 => x.trigTb1
        | 2 => x.dl.getD 0
        | _ => x.bs.getD 0
      PcMoves t s.blk b ∧ Issued e t 1 s.blk b ∧ OnlyLanes t s.blk b ∧ (b.task t).flags = x.flags ∧
      LanesTake t (vdOf w) (if (maskOf s.blk t).getLsbD (2 * pair) then BitVec.ofNat 4 (3 * 4 ^ pair) else 0)
        (fun j => BitVec.ofNat 32 (if j = 2 * pair then v else v / 2 ^ 32)) s.blk b) ∧
    (s.blk.issues e 0x3A = some t → Completes (.outStage e) s fun b =>
      let n := bits 15 4
      let y := s.blk.outEntry t (s.blk.desc t) n
      let acts := y.kind ≠ 0 ∧ (maskOf s.blk t).getLsbD (if y.lane = 4 then 0 else y.lane) = true
      PcMoves t s.blk b ∧ Issued e t 1 s.blk b ∧
      (¬ acts → OnlyPc t s.blk b) ∧
      (acts → (b.task t).stagedAt n =
          some (if y.lane = 4 then BitVec.ofNat 128 (x.quad (vdOf w)) else ((x.lane (vdOf w) y.lane).setWidth 128)) ∧
        (∀ k, k ≠ n → (b.task t).stagedAt k = x.stagedAt k) ∧
        b.task t = { x with staged := (b.task t).staged, pc := (b.task t).pc }))

/-- NOP, END and BR complete wherever their word is the next of an engine and may issue: NOP only moves PC on, END ends the
instance, and BR goes to its own offset plus 4 × OFFSET where COND holds of its predicate, in 3 issue cycles, and else to
the next word in 1. ILL of an engine whose task has reached an illegal instruction aborts the instance: ABORTS counts it, ABORTED is
set, its SAFE values are sent, and the task is DISABLED with EN at 0 (log 13), whatever MISS_ACTION holds, without a fault
record. A deadline that the last tick reached acts first, and where it marks the instance the abort is that of the mark. -/
def Obligations.ControlFlowInstructions : Prop :=
  ∀ (s : State) (e : Fin 512) (t : Nat),
    let w := s.blk.fetch t
    let p := maskOf s.blk t
    let off : Int := if w % 2 ^ 17 < 2 ^ 16 then (w % 2 ^ 17 : Nat) else (w % 2 ^ 17 : Nat) - 2 ^ 17
    let taken := (w / 2 ^ 21 % 4 = 0 ∧ p ≠ 0) ∨ (w / 2 ^ 21 % 4 = 1 ∧ p = 15) ∨ (w / 2 ^ 21 % 4 = 2 ∧ p = 0) ∨
      (w / 2 ^ 21 % 4 = 3 ∧ p ≠ 15)
    (s.blk.issues e 0x01 = some t → Completes (.nop e) s fun b =>
      PcMoves t s.blk b ∧ OnlyPc t s.blk b ∧ Issued e t 1 s.blk b) ∧
    (s.blk.issues e 0x02 = some t → Completes (.endInstr e) s fun b =>
      b.task t = { s.blk.task t with ended := true, pc := (s.blk.task t).pc + 4 } ∧ Issued e t 1 s.blk b) ∧
    (s.blk.issues e 0x03 = some t → Completes (.branch e) s fun b =>
      OnlyPc t s.blk b ∧
      (taken → ((b.task t).pc : Int) = (s.blk.task t).pc + 4 * off ∧ Issued e t 3 s.blk b) ∧
      (¬ taken → PcMoves t s.blk b ∧ Issued e t 1 s.blk b)) ∧
    (s.blk.issuer e = some t → s.blk.legalAt t = false → taskEng t = e.val → Completes (.ill e) s fun b =>
      let m := s.blk.missNow t
      ((s.blk.task t).due = .none → m = s.blk) ∧ ((m.task t).mark ≠ .none → b = m) ∧
      ((m.task t).mark = .none →
        b.taskState t = 0 ∧ b.flag F.TASK_CTRL_EN t = false ∧ b.flag F.TASK_STATUS_ABORTED t = true ∧
          b.fld F.TASK_CNT_ABORTS t = min (m.fld F.TASK_CNT_ABORTS t + 1) 65535 ∧ b.cur e = none ∧
          b.le.link = m.le.link ++ safeMsgs m t ∧ OtherTasksKept t s.blk b ∧ NoRecord m b))

/-- From target p toward goal v at rates up and dn per second, one round leaves a target that is at its goal where it is; else it
moves toward the goal, never past it, by at most the greater of floor(rate × 0.020) and 1 LSB, by at least 1 LSB where
the rate in that direction is above 0, and not at all where it is 0. The functions that move one value at a time (HF16, HF30)
move by one value or not at all, and only after the stated time (log 3); those that can be off (HF25, HF26) never stand between off
and their least value (log 64). The arbiter's write of a function is such a move from its target toward the candidate of its mode, rounded and
within its limits (half-way values of a discrete function up, log 64), and there is none where an interlock refuses the change. -/
def Obligations.TargetsMoveWithinTheirRates : Prop :=
  (∀ (p v : Int) (up dn : Nat),
    (v = p → moveBy p v up dn = p) ∧
    (p < v → 0 < up → p + 1 ≤ moveBy p v up dn ∧ moveBy p v up dn ≤ v ∧ moveBy p v up dn ≤ p + max 1 (up / 50 : Nat)) ∧
    (v < p → 0 < dn → moveBy p v up dn ≤ p - 1 ∧ v ≤ moveBy p v up dn ∧ p - max 1 (dn / 50 : Nat) ≤ moveBy p v up dn) ∧
    (p < v → up = 0 → moveBy p v up dn = p) ∧ (v < p → dn = 0 → moveBy p v up dn = p)) ∧
  (∀ (b : Blk) (n : Nat) (p v : Int), n ≠ 16 → n ≠ 25 → n ≠ 26 → n ≠ 30 →
    b.rateStep n p v = (moveBy p v (b.rate n true) (b.rate n false), false)) ∧
  (∀ (b : Blk) (n : Nat) (p v : Int), n = 16 ∨ n = 30 →
    (b.rateStep n p v).1 = p ∨ ((b.rateStep n p v).1 = p + 1 ∧ p < v ∧ b.stepDue n true = true) ∨
      ((b.rateStep n p v).1 = p - 1 ∧ v < p ∧ b.stepDue n false = true)) ∧
  (∀ (b : Blk) (n : Nat) (p v : Int), n = 25 ∨ n = 26 →
    let fits := fun (x : Int) => x = 0 ∨ ((if n = 25 then 1000 else 10000) ≤ x ∧ x ≤ (fnRange n).max)
    fits p → fits v → fits (b.rateStep n p v).1) ∧
  ∀ (b s : Blk) (x : RoundInputs) (n : Nat) (goal : Int),
    let p := s.target n
    let cmd := (b.reg .FN_OPCMD n).toInt
    let band : Int := (b.reg .FN_BAND n).toNat
    let src := if b.fnMode n = 0 then cmd else if b.fnMode n = 1 then cmd + max (-band) (min band (goal - cmd)) else goal
    let r := b.arbitrate s x n goal
    (r.1.flag F.FN_STATUS_ILK_ACTIVE n = true → r.2 = []) ∧
      (r.1.flag F.FN_STATUS_ILK_ACTIVE n = false →
        let m := b.rateStep n p (b.clampFn n (fnRound n src))
        (m.1 = p → r.2 = []) ∧
        (m.1 ≠ p → ∃ w, r.2 = [w] ∧ w.fn = n ∧ w.data = BitVec.ofInt 32 m.1 ∧ w.effect = .target m.1 m.2))

/-- CONTROL_ROUND completes where rounds run, 20 ms have passed since the last and none is in progress but one past its deadline:
HPC_FEED.F takes the feed target of the snapshot, HPC_ROUND counts a round that met its deadline (logs 39, 64), and no function that is not
fitted has its target changed. Where AON runs, ROUND_OVERRUN drops the writes left 5 ms after the trigger, sets ROUND_OVR and raises one
record (its DATA: log 37); before that it changes nothing. HPC_WRITE_DENIED of a refused write sets WRITE_DENIED. An OPTIMISER_PROPOSAL that is due changes no target: below 12
observations it explores, stepping the first variable up; from 12 on it proposes settings within the box, and of
all settings within it none predicts a lesser J. FIELD_LOAD takes the slot and shows FIELD_LOADING until FIELD_LOAD_DONE, which takes
the slot's surfaces and count. SURFACE_SAVE, every 10 min, changes only the journal's field region. -/
def Obligations.HarvestControlRounds : Prop :=
  (∀ (s : State),
    (∀ x late, s.blk.hpcRuns = true → s.blk.hpc.todo = none ∨ s.blk.roundLate = true → s.blk.roundDue = true →
      Completes (.controlRound x late) s fun b =>
        b.fld F.HPC_FEED_F 0 = s.blk.feedTarget ∧ b.hpc.roundAt = some s.blk.tb1 ∧
        (late = none → b.hpc.todo = none ∧ b.reg .HPC_ROUND 0 = s.blk.reg .HPC_ROUND 0 + 1) ∧
        (late ≠ none → b.hpc.todo.isSome = true ∧ b.reg .HPC_ROUND 0 = s.blk.reg .HPC_ROUND 0) ∧
        ∀ n, 1 ≤ n → n ≤ 30 → s.blk.flag F.FN_CFG0_FITTED n = false → b.target n = s.blk.target n) ∧
    (∀ t, s.blk.aonRuns = true → s.blk.hpc.todo.isSome = true → s.blk.hpc.roundAt = some t →
      Completes .roundOverrun s fun b =>
        (s.blk.tb1 < t + 5000000 → b = s.blk) ∧
        (t + 5000000 ≤ s.blk.tb1 → b.hpc = { s.blk.hpc with todo := none } ∧ b.flag F.HPC_STATUS_ROUND_OVR 0 = true ∧
          b.bus = s.blk.bus ∧ MemKept s.blk b ∧
          RegsKeptBut (fun r i => (i = 0 ∧ r = .HPC_STATUS) ∨ RecReg r i) s.blk b ∧
          OneRecord 511 0x01 0x01 (2 ^ 25 + (s.blk.reg .HPC_ROUND 0).toNat % 65536) s.blk b)) ∧
    (∀ (fn : Fin 31) c, s.blk.aonRuns = true → s.blk.bus.results.find? (fun c => c.who == .hpc fn) = some c →
      Completes (.hpcWriteDenied fn) s fun b =>
        b.flag F.FN_STATUS_WRITE_DENIED fn = true ∧ b.bus.results = s.blk.bus.results.erase c ∧
          RegsKeptBut (fun r i => r = .FN_STATUS ∧ i = fn.val) s.blk b ∧ MemKept s.blk b) ∧
    (s.blk.hpcRuns = true → (∀ t, s.blk.hpc.propAt = some t → t + s.blk.proposeS * 1000000000 ≤ s.blk.tb1) →
      s.blk.reg .HPC_WEIGHTS 0 ≠ 0 → s.blk.flag F.HPC_STATUS_FIELD_LOADING 0 = false →
      Completes .optimiserProposal s fun b =>
        b.hpc.propAt = some s.blk.tb1 ∧
          b.flag F.HPC_STATUS_EXPLORING 0 = decide (s.blk.fld F.HPC_OBS_OBS 0 < 12) ∧
          (s.blk.fld F.HPC_OBS_OBS 0 < 12 → s.blk.hpc.explored = 0 →
            (b.fn 12).prop = some (s.blk.clampFn 12 (s.blk.target 12 + s.blk.boxOf 12))) ∧
          (12 ≤ s.blk.fld F.HPC_OBS_OBS 0 → ∀ n ∈ fnSet, ∃ v, (b.fn n).prop = some v ∧
            (s.blk.box n).1 ≤ v ∧ v ≤ (s.blk.box n).2) ∧
          RegsKeptBut (fun r i => r = .HPC_STATUS ∧ i = 0) s.blk b ∧ MemKept s.blk b ∧ b.bus = s.blk.bus) ∧
    (∀ slot : Fin 64, s.blk.aonRuns = true → Completes (.fieldLoad slot) s fun b =>
      b.fld F.HPC_FIELD_SLOT 0 = slot.val ∧ b.flag F.HPC_STATUS_FIELD_LOADING 0 = true ∧ b.bus = s.blk.bus ∧
        RegsKeptBut (fun r i => i = 0 ∧ (r = .HPC_STATUS ∨ r = .HPC_FIELD)) s.blk b ∧ MemKept s.blk b) ∧
    (s.blk.flag F.HPC_STATUS_FIELD_LOADING 0 = true → s.blk.computeRuns = true →
      s.blk.supply ≠ 2 → Completes .fieldLoadDone s fun b =>
        let f := fieldOf (s.blk.fld F.HPC_FIELD_SLOT 0) s.blk.jrn.fields.all
        b.flag F.HPC_STATUS_FIELD_LOADING 0 = false ∧ b.hpc.surf = f.2 ∧ b.hpc.obs = f.1 ∧
          b.fld F.HPC_OBS_OBS 0 = min f.1 65535 ∧ b.flag F.HPC_STATUS_SURF_READY 0 = decide (12 ≤ f.1) ∧
          RegsKeptBut (fun r i => i = 0 ∧ (r = .HPC_STATUS ∨ r = .HPC_OBS)) s.blk b ∧ MemKept s.blk b) ∧
    (s.blk.computeRuns = true → s.blk.supply ≠ 2 → s.blk.flag F.HPC_CTRL_HOST 0 = true → s.blk.flag F.HPC_STATUS_FIELD_LOADING 0 = false →
      s.blk.hpc.savedAt + 600000000000 ≤ s.blk.tb1 → Completes .surfaceSave s fun b =>
        b = { s.blk with
          jrn := { s.blk.jrn with fields := b.jrn.fields }
          hpc := { s.blk.hpc with savedAt := s.blk.tb1 } })) ∧
  ∀ (b : Blk) (l : List Int), l.length = b.boxes.length →
    (∀ x ∈ l.zip b.boxes, x.2.1 ≤ x.1 ∧ x.1 ≤ x.2.2) → b.objective b.optimum ≤ b.objective l

/-- SETPOINT_ARRIVAL of a setpoint on the link stores it limited to 0 to 4 A in SOL_SP, with SP_CLAMPED above 4 A. Outside
limp-home it waits for the next sample instant where the channel may drive it, and is only stored where a latch, FLT or EN = 0 bars it;
in crank hold it waits for its end; in limp-home it is only stored; in a freeze no frame arrives. SOL_ENABLE and SOL_DISABLE write EN, and only a setpoint
that arrives later is driven; disabling a channel that follows no limp pin brings its duty down at once. SOL_FAULT_CLEAR clears FLT and its
causes, unless the over-temperature stands at 165 °C or more. SOL_TRIP_CLEAR clears the latch only when no mapped input is asserted, and
else sets TRIP_PERSIST with one record the first time. Other channels do not change, and no memory. -/
def Obligations.ValveSetpointsAndClears : Prop :=
  ∀ (s : State) (c : Fin 64),
    let x := s.blk.valve c
    let others := fun (b : Blk) => (∀ d, d ≠ c.val → b.valve d = s.blk.valve d) ∧ MemKept s.blk b
    let forgets := fun (b : Blk) =>
      (b.valve c).fresh = false ∧ (b.valve c).arr = none ∧ (b.valve c).stored = false ∧ (b.valve c).hold = none
    let status := fun (r : RegName) (i : Nat) => i = c.val ∧ r = .SOL_STATUS
    (s.blk.frozen = true → Completes (.setpointArrival c) s fun b => b = s.blk) ∧
    (∀ ch v b0, s.blk.powered = true → s.blk.frozen = false →
      s.blk.takeLink (fun m => match m with | .sol ch _ => ch == c.val | .lsw _ _ => false) = some (.sol ch v, b0) →
      Completes (.setpointArrival c) s fun b =>
        let sp := if v.toInt < 0 then 0 else if 4000000 < v.toInt then 4000000 else v.toInt.toNat
        (b.reg .SOL_SP c).toNat = sp ∧ (4000000 < v.toInt → b.flag F.SOL_STATUS_SP_CLAMPED c = true) ∧
          b.le.link = s.blk.le.link.erase (.sol ch v) ∧
          b.valve c =
            (if (s.blk.comp (c / 8)).limp = true then x
            else if s.blk.cranking = true then { x with stored := true }
            else { x with follow := false, arr := if s.blk.solTakes c = true then some sp else none }) ∧
          RegsKeptBut (fun r i => i = c.val ∧ (r = .SOL_SP ∨ r = .SOL_STATUS)) s.blk b ∧ others b) ∧
    (s.blk.aonRuns = true → Completes (.solEnable c) s fun b =>
      b.flag F.SOL_CTRL_EN c = true ∧ (s.blk.flag F.SOL_CTRL_EN c = true → b = s.blk) ∧
        (s.blk.flag F.SOL_CTRL_EN c = false → forgets b ∧ (b.valve c).half = x.half ∧ (b.valve c).follow = x.follow) ∧
        RegsKeptBut (fun r i => i = c.val ∧ r = .SOL_CTRL) s.blk b ∧ others b) ∧
    (s.blk.aonRuns = true → Completes (.solDisable c) s fun b =>
      b.flag F.SOL_CTRL_EN c = false ∧ forgets b ∧
        (x.follow = true → (b.valve c).half = x.half ∧ b.solState c = s.blk.solState c) ∧
        (x.follow = false → b.fld F.SOL_DUTY_DUTY c = 0 ∧ ((b.valve c).half = .off ∨ (b.valve c).half = .fast) ∧
          b.solState c = (if s.blk.solState c = 0 then 0 else 3)) ∧
        RegsKeptBut (fun r i => i = c.val ∧ r ∈ [.SOL_CTRL, .SOL_DUTY, .SOL_STATUS]) s.blk b ∧ others b) ∧
    (s.blk.aonRuns = true → Completes (.solFaultClear c) s fun b =>
      let stays := s.blk.flag F.SOL_STATUS_OTEMP c = true ∧ 1650 ≤ s.blk.sfld F.SOL_COMP_TEMP_TEMP (c / 8)
      (s.blk.flag F.SOL_STATUS_FLT c = false ∨ stays → b = s.blk) ∧
        (s.blk.flag F.SOL_STATUS_FLT c = true → ¬ stays →
          b.flag F.SOL_STATUS_FLT c = false ∧ b.flag F.SOL_STATUS_OPEN c = false ∧
          b.flag F.SOL_STATUS_SHORT c = false ∧ b.flag F.SOL_STATUS_OTEMP c = false ∧ forgets b) ∧
        RegsKeptBut status s.blk b ∧ others b) ∧
    (s.blk.aonRuns = true → Completes (.solTripClear c) s fun b =>
      let latched := s.blk.flag F.SOL_STATUS_TRIP_LATCH c = true
      (¬ latched → b = s.blk) ∧
      (latched → s.blk.tripLevel (s.blk.valveTrips c) = none →
        b.flag F.SOL_STATUS_TRIP_LATCH c = false ∧ b.flag F.SOL_STATUS_TRIP_PERSIST c = false ∧ NoRecord s.blk b ∧
          forgets b) ∧
      (∀ t, latched → s.blk.tripLevel (s.blk.valveTrips c) = some t →
        b.flag F.SOL_STATUS_TRIP_LATCH c = true ∧ b.flag F.SOL_STATUS_TRIP_PERSIST c = true ∧ b.valve c = x ∧
        (s.blk.flag F.SOL_STATUS_TRIP_PERSIST c = true → NoRecord s.blk b) ∧
        (s.blk.flag F.SOL_STATUS_TRIP_PERSIST c = false →
          OneRecord (576 + c / 8) 0x03 0x02 (t * 2 ^ 30 + 2 ^ (c.val % 8)) s.blk b)) ∧
      RegsKeptBut (fun r i => status r i ∨ RecReg r i) s.blk b ∧ others b)

/-- CURRENT_SAMPLE of a powered companion shows the current in SOL_MEAS (its scaling: log 16). A barred channel ends with duty 0, in FAST or OFF; two
samples at full scale in a row are a SHORT, four of an open coil in PULLIN, REG or LIMP an OPEN, each with FLT and one record. A channel in REG
at its setpoint, without dither and pull-in, takes the duty of the PI law, whose integrator stands still at a limit. PWM_EDGE takes ON to DEAD, the low side to
DEAD, or to itself at duty 0, and DEAD to the low side, or to ON before the off-point; PWM_PHASE_TRIGGER loads the counter and takes ON and the
low side to each other only through DEAD, of
which a whole one then runs (log 19). COIL_BAND_UPDATE, every 10 ms, takes RCOIL from the sums, and band 0
without RCOLD. PULLIN_TIMEOUT sets ARM_FAIL and ARMTIME 0xFFFF with one record and ends pull-in. COMPANION_OVERTEMP above 175 °C sets OTEMP and FLT on
all eight channels with one record, once until below 165 °C (log 32). No memory changes. -/
def Obligations.ValveCurrentLoop : Prop :=
  ∀ (s : State) (c : Fin 64), s.blk.powered = true →
    let x := s.blk.valve c
    let mine := fun (r : RegName) (i : Nat) =>
      (i = c.val ∧ r ∈ [.SOL_MEAS, .SOL_STATUS, .SOL_DUTY, .SOL_ARMTIME]) ∨ RecReg r i
    let low := fun (h : Half) => h = .recirc ∨ h = .fast
    let dead := fun (h : Half) => h = .deadToOn ∨ h = .deadToLow
    (∀ (code : BitVec 16) (cnt : Nat), Completes (.currentSample c code cnt) s fun b =>
      let i := code.toNat * 5000000 / 65536
      let short := code.toNat = 65535 ∧ 1 ≤ x.fullN ∧ s.blk.flag F.SOL_STATUS_SHORT c = false
      let sp := if s.blk.solState c = 4 then x.lastT else x.use
      let isOpen := (s.blk.solState c = 1 ∨ s.blk.solState c = 2 ∨ s.blk.solState c = 4) ∧ x.arr = none ∧ 200000 ≤ sp ∧ s.blk.fld F.SOL_DUTY_DUTY c = 65535 ∧ i < 50000 ∧
        3 ≤ x.openN ∧ s.blk.flag F.SOL_STATUS_OPEN c = false
      let plain := s.blk.solBarred c = false ∧ x.follow = false ∧ (s.blk.comp (c / 8)).limp = false ∧ x.hold = none ∧
        x.arr = none ∧ x.fresh = true ∧ s.blk.flag F.SOL_CTRL_EN c = true ∧ s.blk.solState c = 2 ∧ 0 < x.use ∧ x.use ≤ 4500000 ∧
        s.blk.fld F.SOL_DITHER_AMP c = 0 ∧ s.blk.flag F.SOL_CFG_ARM_EN c = false ∧ code.toNat < 65535 ∧ x.openN < 3
      (b.reg .SOL_MEAS c).toNat = i ∧
        (s.blk.solBarred c = true →
          b.fld F.SOL_DUTY_DUTY c = 0 ∧ (b.solState c = 0 ∨ b.solState c = 3) ∧
          ((b.valve c).half = .off ∨ (b.valve c).half = .fast)) ∧
        (short → b.flag F.SOL_STATUS_SHORT c = true ∧ b.flag F.SOL_STATUS_FLT c = true ∧ b.fld F.SOL_DUTY_DUTY c = 0 ∧
          OneRecord (576 + c / 8) 0x05 0x01 (c * 2 ^ 25 + 500) s.blk b) ∧
        (isOpen → b.flag F.SOL_STATUS_OPEN c = true ∧ b.flag F.SOL_STATUS_FLT c = true ∧ b.fld F.SOL_DUTY_DUTY c = 0 ∧
          OneRecord (576 + c / 8) 0x04 0x02 (c * 2 ^ 25 + sp / 1000 % 65536) s.blk b) ∧
        (plain →
          let e : Int := (x.use : Int) - i
          let raw := (s.blk.fld F.SOL_GAIN_KP c : Int) * e * 16 + x.integ
          let top : Int := 65535 * 4096000
          let clamped := raw < 0 ∨ top < raw
          b.solState c = 2 ∧ (b.fld F.SOL_DUTY_DUTY c : Int) = max 0 (min top raw) / 4096000 ∧
            (clamped → (b.valve c).integ = x.integ) ∧
            (¬ clamped → (b.valve c).integ = x.integ + (s.blk.fld F.SOL_GAIN_KI c : Int) * e) ∧ NoRecord s.blk b) ∧
        RegsKeptBut mine s.blk b ∧ MemKept s.blk b) ∧
    (s.blk.solState c = 1 ∨ s.blk.solState c = 2 ∨ s.blk.solState c = 4 → Completes (.pwmEdge c) s fun b =>
      let y := b.valve c
      let per := s.blk.pwmPeriod c
      let dt := s.blk.deadT c
      let on := s.blk.onTicks c
      (x.half = .on →
        y.cnt = on ∧ (per < on + 2 * dt → y.half = .deadToOn) ∧ (on + 2 * dt ≤ per → y.half = .deadToLow)) ∧
        (low x.half → (on = 0 → low y.half ∧ y.cnt = 0) ∧ (on ≠ 0 → y.half = .deadToOn ∧ y.cnt = max x.cnt (per - dt))) ∧
        (dead x.half → y.cnt = (if per ≤ x.cnt + dt then x.cnt + dt - per
            else if x.half = .deadToOn ∧ per < on + 2 * dt ∧ on ≤ x.cnt then 0 else x.cnt + dt) ∧
          (y.half = .on ∨ low y.half) ∧ (y.half = .on → y.cnt < on) ∧
          (y.cnt < on → x.half = .deadToOn ∨ per ≤ x.cnt + dt → y.half = .on)) ∧
        (∀ d, d ≠ c.val → b.valve d = s.blk.valve d) ∧ RegsKept s.blk b ∧ MemKept s.blk b) ∧
    (∀ g b0, s.blk.takeTrig 4 c = some (g, b0) → Completes (.pwmPhaseTrigger c) s fun b =>
      let y := b.valve c
      let on := y.cnt < s.blk.onTicks c
      y.cnt = s.blk.fld F.SOL_PHASE_OFFSET c % s.blk.pwmPeriod c ∧
        (x.half = .on → y.half = if on then .on else .deadToLow) ∧
        (low x.half → y.half = if on ∧ s.blk.solState c ≠ 3 then .deadToOn else x.half) ∧
        (dead x.half → y.half = if on then .deadToOn else .deadToLow) ∧ (x.half = .off → y.half = .off) ∧
        b.tbu.trig = s.blk.tbu.trig.erase g ∧ RegsKept s.blk b ∧ MemKept s.blk b) ∧
    (s.blk.elapsed x.coilAt 10000000 = true → Completes (.coilBandUpdate c) s fun b =>
      let r := s.blk.fld F.LSW_BANK_FEED_FEED_V (c / 8) * x.sumD * 1000000 / (65536 * x.sumI)
      (s.blk.fld F.SOL_RCOLD_RCOLD c = 0 → b.fld F.SOL_RCOIL_BAND c = 0) ∧
        (s.blk.fld F.SOL_RCOLD_RCOLD c ≠ 0 → x.sumN ≠ 0 → 200000 * x.sumN ≤ x.sumI →
          b.fld F.SOL_RCOIL_RCOIL c = min r 65535 ∧
            b.fld F.SOL_RCOIL_BAND c = coilBand r (s.blk.fld F.SOL_RCOLD_RCOLD c) (s.blk.fld F.SOL_RCOIL_BAND c)
              (s.blk.fld F.SOL_BAND_TH1 0) (s.blk.fld F.SOL_BAND_TH2 0) (s.blk.fld F.SOL_BAND_TH3 0)) ∧
        (s.blk.fld F.SOL_RCOLD_RCOLD c ≠ 0 → x.sumN = 0 ∨ x.sumI < 200000 * x.sumN → RegsKept s.blk b) ∧
        b.valve c = { x with sumD := 0, sumI := 0, sumN := 0, coilAt := s.blk.tb1 } ∧
        RegsKeptBut (fun r i => i = c.val ∧ r = .SOL_RCOIL) s.blk b ∧ MemKept s.blk b) ∧
    (s.blk.solState c = 1 → max 1 (s.blk.fld F.SOL_ARM_WIN_MS c) * 1000 ≤ x.pullN →
      Completes (.pullinTimeout c) s fun b =>
        b.flag F.SOL_STATUS_ARM_FAIL c = true ∧ b.fld F.SOL_ARMTIME_ARMTIME c = 0xFFFF ∧
          (s.blk.fld F.SOL_CFG_ARM_ACTION c = 1 → b.flag F.SOL_STATUS_FLT c = true ∧ b.solState c = 3 ∧
            b.fld F.SOL_DUTY_DUTY c = 0) ∧
          (s.blk.fld F.SOL_CFG_ARM_ACTION c ≠ 1 → b.solState c = 2 ∧
            b.fld F.SOL_DUTY_DUTY c = s.blk.fld F.SOL_DUTY_DUTY c) ∧
          OneRecord (576 + c / 8) 0x07 0x01 (c * 2 ^ 26 + x.peak / 1000 % 65536) s.blk b ∧
          RegsKeptBut mine s.blk b ∧ MemKept s.blk b) ∧
    ∀ (k : Fin 8) (temp : Int), -32768 ≤ temp → temp < 32768 → Completes (.companionOvertemp k temp) s fun b =>
      b.sfld F.SOL_COMP_TEMP_TEMP k = temp ∧ MemKept s.blk b ∧
        (1750 < temp → (s.blk.comp k).hot = false →
          (∀ j, j < 8 → b.flag F.SOL_STATUS_OTEMP (8 * k + j) = true ∧ b.flag F.SOL_STATUS_FLT (8 * k + j) = true ∧
            b.fld F.SOL_DUTY_DUTY (8 * k + j) = 0) ∧ (b.comp k).hot = true ∧
          OneRecord (576 + k) 0x06 0x02 (8 * k * 2 ^ 25 + temp.toNat) s.blk b ∧
          RegsKeptBut (fun r i => (i = k.val ∧ r = .SOL_COMP_TEMP) ∨ (i / 8 = k.val ∧ (r = .SOL_STATUS ∨ r = .SOL_DUTY)) ∨
            RecReg r i) s.blk b) ∧
        (temp ≤ 1750 ∨ (s.blk.comp k).hot = true →
          RegsKeptBut (fun r i => i = k.val ∧ r = .SOL_COMP_TEMP) s.blk b ∧ NoRecord s.blk b ∧
            (b.comp k).hot = ((s.blk.comp k).hot && decide (1650 ≤ temp)))

/-- LSW_COMMAND of a command on the link stores it with CMD_NEW and, outside limp-home and crank hold, switches the channel to it where
nothing of higher rank decides; a latch, FLT or EN = 0 keeps it off; in crank hold it waits (that it stays in force while only the
feed is low: log 33); in a freeze none arrives. LSW_ENABLE of a channel with EN 0 sets EN, clears CMD_NEW and
forgets earlier commands; LSW_DISABLE clears EN and switches a channel that follows no limp pin off at once, its
retries cancelled. LSW_FAULT_CLEAR of a channel with FLT clears it and all its causes, unless the junction is 165 °C or above. LSW_TRIP_CLEAR clears the latch
only when no mapped input is asserted, and else sets TRIP_PERSIST with one record the first time. SENSE_SAMPLE puts out the highest code
whose condition holds, else the current of a channel that is on or 0. Other channels' registers do not change, and no memory. -/
def Obligations.SwitchCommandsAndSense : Prop :=
  ∀ (s : State) (c : Fin 128),
    let x := s.blk.switch c
    let fl := fun (f : Fld) => s.blk.flag f c = true
    let uv := s.blk.flag F.LSW_BANK_STATUS_FEED_UV (c / 16)
    let free := (s.blk.comp (lswComp c)).limp = false ∧ s.blk.cranking = false
    let mine := fun (r : RegName) (i : Nat) => i = c.val ∧ r ∈ [.LSW_CTRL, .LSW_STATUS, .LSW_CMD]
    let others := fun (b : Blk) => (∀ d, d ≠ c.val → b.switch d = s.blk.switch d) ∧ MemKept s.blk b
    let forgets := fun (b : Blk) => (b.switch c).cmd = false ∧ (b.switch c).stored = false ∧ (b.switch c).retryAt = none
    (s.blk.frozen = true → Completes (.lswCommand c) s fun b => b = s.blk) ∧
    (∀ ch v b0, s.blk.powered = true → s.blk.frozen = false →
      s.blk.takeLink (fun m => match m with | .lsw ch _ => ch == c.val | .sol _ _ => false) = some (.lsw ch v, b0) →
      Completes (.lswCommand c) s fun b =>
        b.flag F.LSW_CMD_ON c = v.getLsbD 0 ∧ b.flag F.LSW_CMD_CMD_NEW c = true ∧
          b.le.link = s.blk.le.link.erase (.lsw ch v) ∧
          ((s.blk.comp (lswComp c)).limp = true → b.switch c = x ∧ b.lswOut c = s.blk.lswOut c) ∧
          ((s.blk.comp (lswComp c)).limp = false → s.blk.cranking = true →
            b.switch c = { x with stored := true } ∧ b.lswOut c = s.blk.lswOut c) ∧
          (free → b.flag F.LSW_STATUS_LIMP c = false) ∧
          (free → s.blk.lswTakes c = true → (b.switch c).cmd = v.getLsbD 0 ∧
            (uv = false → x.retryAt = none → b.lswOut c = v.getLsbD 0) ∧ (uv = true → b.lswOut c = false) ∧
            (v.getLsbD 0 = true → x.cmd = false → b.fld F.LSW_STATUS_RETRY_CNT c = 0)) ∧
          (free → s.blk.lswTakes c = false → (b.switch c).cmd = x.cmd ∧ b.lswOut c = false) ∧
          RegsKeptBut mine s.blk b ∧ others b) ∧
    (s.blk.aonRuns = true → Completes (.lswEnable c) s fun b =>
      b.flag F.LSW_CTRL_EN c = true ∧ b.lswOut c = s.blk.lswOut c ∧ (s.blk.flag F.LSW_CTRL_EN c = true → b = s.blk) ∧
        (s.blk.flag F.LSW_CTRL_EN c = false → b.flag F.LSW_CMD_CMD_NEW c = false ∧ forgets b) ∧
        RegsKeptBut mine s.blk b ∧ others b) ∧
    (s.blk.aonRuns = true → Completes (.lswDisable c) s fun b =>
      b.flag F.LSW_CTRL_EN c = false ∧ b.flag F.LSW_CMD_CMD_NEW c = false ∧ forgets b ∧
        (s.blk.lswFollows c = false → b.lswOut c = false) ∧ RegsKeptBut mine s.blk b ∧ others b) ∧
    (s.blk.aonRuns = true → Completes (.lswFaultClear c) s fun b =>
      (s.blk.flag F.LSW_STATUS_FLT c = false ∨ 1650 ≤ s.blk.sfld F.LSW_TEMP_TEMP c → b = s.blk) ∧
        (s.blk.flag F.LSW_STATUS_FLT c = true → s.blk.sfld F.LSW_TEMP_TEMP c < 1650 →
          (∀ f ∈ [F.LSW_STATUS_FLT, F.LSW_STATUS_SHORT, F.LSW_STATUS_OVERLOAD, F.LSW_STATUS_RETRY_EXH, F.LSW_STATUS_OTEMP,
            F.LSW_STATUS_SHED], b.flag f c = false) ∧ b.flag F.LSW_CMD_CMD_NEW c = false ∧
          b.fld F.LSW_STATUS_RETRY_CNT c = 0 ∧ forgets b ∧ (s.blk.lswFollows c = false → b.lswOut c = false)) ∧
        RegsKeptBut mine s.blk b ∧ others b) ∧
    (s.blk.aonRuns = true → Completes (.lswTripClear c) s fun b =>
      let latched := s.blk.flag F.LSW_STATUS_TRIP_LATCH c = true
      (¬ latched → b = s.blk) ∧
      (latched → s.blk.tripLevel (s.blk.switchTrips c) = none → b.flag F.LSW_CMD_CMD_NEW c = false ∧ b.flag F.LSW_STATUS_TRIP_LATCH c = false ∧
        b.flag F.LSW_STATUS_TRIP_PERSIST c = false ∧ forgets b ∧ NoRecord s.blk b ∧
        (s.blk.lswFollows c = false → b.lswOut c = false)) ∧
      (∀ t, latched → s.blk.tripLevel (s.blk.switchTrips c) = some t →
        b.flag F.LSW_STATUS_TRIP_LATCH c = true ∧ b.flag F.LSW_STATUS_TRIP_PERSIST c = true ∧
          b.lswOut c = s.blk.lswOut c ∧ b.switch c = x ∧ b.reg .LSW_CMD c = s.blk.reg .LSW_CMD c ∧
          (s.blk.flag F.LSW_STATUS_TRIP_PERSIST c = true → NoRecord s.blk b) ∧
          (s.blk.flag F.LSW_STATUS_TRIP_PERSIST c = false →
            OneRecord (584 + c / 16) 0x03 0x02 (t * 2 ^ 30 + 2 ^ (c.val % 16)) s.blk b)) ∧
      RegsKeptBut (fun r i => mine r i ∨ RecReg r i) s.blk b ∧ others b) ∧
    ∀ ua, s.blk.powered = true → Completes (.senseSample c ua) s fun b =>
      b.fld F.LSW_SENSE_CODE c =
        (if fl F.LSW_STATUS_TRIP_LATCH then 0xFFF7 else if uv = true then 0xFFF6 else if fl F.LSW_STATUS_OTEMP then 0xFFF5
        else if fl F.LSW_STATUS_SHORT then 0xFFF4 else if fl F.LSW_STATUS_RETRY_EXH then 0xFFF3
        else if fl F.LSW_STATUS_OVERLOAD ∨ fl F.LSW_STATUS_RETRYING then 0xFFF2 else if fl F.LSW_STATUS_SHED then 0xFFF1
        else if fl F.LSW_STATUS_OPEN_OFF then 0xFFF0
        else if s.blk.lswOut c = true then min 0xFFEF (ua / (if c.val < 96 then 500 else 2000)) else 0) ∧
        RegsKeptBut (fun r i => i = c.val ∧ r = .LSW_SENSE) s.blk b ∧ b.out = s.blk.out ∧ MemKept s.blk b

/-- LSW_SHORT, LSW_OVERLOAD and LSW_JUNCTION_OVERTEMP whose condition holds switch the channel off with FLT, the cause bit and
one record; a junction that is not above 175 °C, or whose episode stands (OTEMP, log 32), only shows its temperature. LAMP_LIMIT_OFF sets RETRYING:
with retries left it sets a pause of 2 ms and raises nothing, else RETRY_EXH and FLT with one record. LSW_RETRY at the end of the
pause switches a channel on that nothing else keeps off, which counts as a retry; a freeze under the hold strap holds the output. RETRY_EPISODE_END after 100 ms on without an event returns RETRY_CNT to 0.
OPEN_LOAD_CHECK, 2 ms after the off edge and every 1 ms from then, sets OPEN_OFF with one record at the eighth check above the threshold and
clears it at the eighth below, without FLT. OPEN_LOAD_DISABLE ends the episode. No other channel's registers change, and no memory. -/
def Obligations.SwitchProtection : Prop :=
  ∀ (s : State) (c : Fin 128), s.blk.powered = true →
    let x := s.blk.switch c
    let mine := fun (r : RegName) (i : Nat) => i = c.val ∧ r = .LSW_STATUS ∨ RecReg r i
    let raised := fun (b : Blk) (cls detail data : Nat) => OneRecord (584 + c / 16) cls detail (c * 2 ^ 25 + data) s.blk b
    let tripped := fun (b : Blk) (cause : Fld) =>
      b.flag cause c = true ∧ b.flag F.LSW_STATUS_FLT c = true ∧ b.lswOut c = false ∧ (b.switch c).retryAt = none ∧
        (b.switch c).cmd = false ∧ MemKept s.blk b
    (∀ since peak, s.blk.lswOut c = true → s.blk.flag F.LSW_CFG_LAMP c = false → s.blk.elapsed since 50000 = true →
      Completes (.lswShort c since peak) s fun b =>
        tripped b F.LSW_STATUS_SHORT ∧ raised b 0x05 0x01 (min 65535 peak) ∧ RegsKeptBut mine s.blk b) ∧
    (∀ since peak, s.blk.lswOut c = true → s.blk.flag F.LSW_CFG_LAMP c = false → s.blk.overload c since peak = true →
      Completes (.lswOverload c since peak) s fun b =>
        tripped b F.LSW_STATUS_OVERLOAD ∧ raised b 0x05 0x02 (min 65535 peak) ∧ RegsKeptBut mine s.blk b) ∧
    (∀ limit since peak, s.blk.lswOut c = true → s.blk.flag F.LSW_CFG_LAMP c = true →
      (if limit = true then s.blk.elapsed since 1000000 else s.blk.overload c since peak) = true →
      Completes (.lampLimitOff c limit since peak) s fun b =>
        b.flag F.LSW_STATUS_RETRYING c = true ∧ (b.switch c).evAt = some s.blk.tb1 ∧ RegsKeptBut mine s.blk b ∧
        MemKept s.blk b ∧
        (s.blk.fld F.LSW_STATUS_RETRY_CNT c < s.blk.fld F.LSW_CFG_RETRIES c →
          (b.switch c).retryAt = some (s.blk.tb1 + 2000000) ∧ NoRecord s.blk b ∧
            b.flag F.LSW_STATUS_FLT c = s.blk.flag F.LSW_STATUS_FLT c ∧
            (s.blk.lswFollows c = false → b.lswOut c = false)) ∧
        (s.blk.fld F.LSW_CFG_RETRIES c ≤ s.blk.fld F.LSW_STATUS_RETRY_CNT c →
          tripped b F.LSW_STATUS_RETRY_EXH ∧
            raised b 0x05 0x03 (s.blk.fld F.LSW_STATUS_RETRY_CNT c * 2 ^ 16 + min 65535 peak))) ∧
    (s.blk.frozen = true → s.blk.flag F.DBG_STATUS_HOLD_STRAP 0 = true → Completes (.lswRetry c) s fun b => b = s.blk) ∧
    (∀ t, x.retryAt = some t → s.blk.cranking = false → s.blk.elapsed t 0 = true →
      (s.blk.frozen = true → s.blk.flag F.DBG_STATUS_HOLD_STRAP 0 = false) → Completes (.lswRetry c) s fun b =>
        (b.switch c).retryAt = none ∧ b.flag F.LSW_STATUS_RETRYING c = false ∧
          b.fld F.LSW_STATUS_RETRY_CNT c =
            (if b.lswOut c = true then (s.blk.fld F.LSW_STATUS_RETRY_CNT c + 1) % 16 else s.blk.fld F.LSW_STATUS_RETRY_CNT c) ∧
          (s.blk.lswTakes c = true → x.cmd = true → s.blk.flag F.LSW_BANK_STATUS_FEED_UV (c / 16) = false →
            s.blk.lswFollows c = false → (s.blk.comp (lswComp c)).limp = false → b.lswOut c = true) ∧
          (s.blk.flag F.LSW_BANK_STATUS_FEED_UV (c / 16) = true → b.lswOut c = false) ∧ NoRecord s.blk b ∧
          RegsKeptBut mine s.blk b ∧ MemKept s.blk b) ∧
    (s.blk.lswOut c = true → s.blk.elapsed (max x.onAt (x.evAt.getD 0)) 100000000 = true →
      Completes (.retryEpisodeEnd c) s fun b =>
        b.fld F.LSW_STATUS_RETRY_CNT c = 0 ∧ b.lswOut c = true ∧ NoRecord s.blk b ∧ RegsKeptBut mine s.blk b ∧
          MemKept s.blk b) ∧
    (∀ temp, -32768 ≤ temp → temp < 32768 → Completes (.lswJunctionOvertemp c temp) s fun b =>
      b.sfld F.LSW_TEMP_TEMP c = temp ∧ MemKept s.blk b ∧
        (s.blk.flag F.LSW_STATUS_OTEMP c = false → 1750 < temp →
          tripped b F.LSW_STATUS_OTEMP ∧ raised b 0x06 0x01 temp.toNat ∧
            RegsKeptBut (fun r i => mine r i ∨ i = c.val ∧ r = .LSW_TEMP) s.blk b) ∧
        (s.blk.flag F.LSW_STATUS_OTEMP c = true ∨ temp ≤ 1750 →
          NoRecord s.blk b ∧ RegsKeptBut (fun r i => i = c.val ∧ r = .LSW_TEMP) s.blk b)) ∧
    (∀ mv, s.blk.flag F.LSW_CFG_OL_EN c = true → s.blk.lswOut c = false → s.blk.cranking = false →
      (∀ t, x.olAt = some t → s.blk.elapsed t 1000000 = true) → (x.olAt = none → s.blk.elapsed x.offAt 2000000 = true) →
      s.blk.flag F.LSW_BANK_STATUS_FEED_UV (c / 16) = false → Completes (.openLoadCheck c mv) s fun b =>
        let high := 1000 + 250 * s.blk.fld F.LSW_CFG_OL_THRESH c < mv
        (high → 7 ≤ x.highN → s.blk.flag F.LSW_STATUS_OPEN_OFF c = false →
          b.flag F.LSW_STATUS_OPEN_OFF c = true ∧ raised b 0x04 0x01 (min 65535 mv)) ∧
        (high → x.highN < 7 ∨ s.blk.flag F.LSW_STATUS_OPEN_OFF c = true → RegsKept s.blk b ∧ NoRecord s.blk b) ∧
        (high → (b.switch c).highN = x.highN + 1 ∧ (b.switch c).lowN = 0) ∧
        (¬ high → (b.switch c).lowN = x.lowN + 1 ∧ (b.switch c).highN = 0 ∧ NoRecord s.blk b) ∧
        (¬ high → 7 ≤ x.lowN → b.flag F.LSW_STATUS_OPEN_OFF c = false) ∧ (¬ high → x.lowN < 7 → RegsKept s.blk b) ∧
        (b.switch c).olAt = some s.blk.tb1 ∧
        b.flag F.LSW_STATUS_FLT c = s.blk.flag F.LSW_STATUS_FLT c ∧ b.lswOut c = false ∧
          RegsKeptBut mine s.blk b ∧ MemKept s.blk b) ∧
    (s.blk.aonRuns = true → Completes (.openLoadDisable c) s fun b =>
      b.flag F.LSW_CFG_OL_EN c = false ∧ b.flag F.LSW_STATUS_OPEN_OFF c = false ∧ (b.switch c).highN = 0 ∧
        (b.switch c).lowN = 0 ∧ RegsKeptBut (fun r i => i = c.val ∧ (r = .LSW_CFG ∨ r = .LSW_STATUS)) s.blk b ∧
        MemKept s.blk b)

/-- TRIP_ASSERT of an input that is released, on powered companions: LEVEL and SEEN of the input read 1 on both kinds of companion,
every valve channel mapped to it is latched with duty 0 and drives no setpoint that arrived before, every switch channel mapped to it
is latched and off, no other channel changes, and each companion with such a channel raises one record with the channels' mask, the valve
companions first (none in a freeze). One already asserted changes nothing. TRIP_RELEASE clears the level of its input alone. No memory changes. -/
def Obligations.TripInputs : Prop :=
  ∀ (s : State) (t : Fin 4), s.blk.powered = true →
    let valves := fun (k : Nat) => ((List.range 8).map (8 * k + ·)).filter fun c => (s.blk.valveTrips c).contains t.val
    let switches := fun (k : Nat) => ((List.range 16).map (16 * k + ·)).filter fun c => (s.blk.switchTrips c).contains t.val
    let dead := fun (c : Nat) => (s.blk.valve c).half == .deadToOn || (s.blk.valve c).half == .deadToLow
    let recs := ((List.range 8).filter fun k => !(valves k).isEmpty).map (fun k =>
        s.blk.mkRec (576 + k) 0x03 0x01 (t * 2 ^ 30 + ((valves k).any dead).toNat * 2 ^ 29 + chanMask (valves k) 8)) ++
      ((List.range 8).filter fun k => !(switches k).isEmpty).map fun k =>
        s.blk.mkRec (584 + k) 0x03 0x01 (t * 2 ^ 30 + chanMask (switches k) 16)
    Completes (.tripAssert t) s (fun b =>
      ((s.blk.fld F.SOL_TRIP_IN_LEVEL 0).testBit t = true → b = s.blk) ∧
      ((s.blk.fld F.SOL_TRIP_IN_LEVEL 0).testBit t = false →
        (∀ f ∈ [F.SOL_TRIP_IN_LEVEL, F.SOL_TRIP_IN_SEEN, F.LSW_TRIP_IN_LEVEL, F.LSW_TRIP_IN_SEEN],
          b.fld f 0 = s.blk.fld f 0 ||| 2 ^ t.val) ∧
        (∀ c, c < 64 → (s.blk.valveTrips c).contains t.val = true →
          b.flag F.SOL_STATUS_TRIP_LATCH c = true ∧ b.fld F.SOL_DUTY_DUTY c = 0 ∧ (b.valve c).fresh = false ∧
            (b.valve c).arr = none ∧ (b.valve c).stored = false ∧ (b.valve c).hold = none) ∧
        (∀ c, c < 128 → (s.blk.switchTrips c).contains t.val = true →
          b.flag F.LSW_STATUS_TRIP_LATCH c = true ∧ b.lswOut c = false ∧ (b.switch c).retryAt = none ∧
            (b.switch c).cmd = false) ∧
        (∀ c, (s.blk.valveTrips c).contains t.val = false →
          b.reg .SOL_STATUS c = s.blk.reg .SOL_STATUS c ∧ b.reg .SOL_DUTY c = s.blk.reg .SOL_DUTY c ∧
            b.valve c = s.blk.valve c) ∧
        (∀ c, (s.blk.switchTrips c).contains t.val = false →
          b.reg .LSW_STATUS c = s.blk.reg .LSW_STATUS c ∧ b.switch c = s.blk.switch c) ∧
        (s.blk.frozen = false → s.blk.configDone = true → s.blk.condKnown = true → b.mod.vc3 = s.blk.mod.vc3 ++ recs) ∧
        (s.blk.frozen = false → s.blk.configDone = false → b.mod.heldRecs = s.blk.mod.heldRecs ++ recs) ∧
        (s.blk.frozen = true → NoRecord s.blk b) ∧
        RegsKeptBut (fun r i => r ∈ [.SOL_TRIP_IN, .LSW_TRIP_IN, .SOL_STATUS, .SOL_DUTY, .LSW_STATUS] ∨ RecReg r i) s.blk b ∧
        MemKept s.blk b)) ∧
    Completes (.tripRelease t) s fun b =>
      (∀ u, u < 4 → ∀ f ∈ [F.SOL_TRIP_IN_LEVEL, F.LSW_TRIP_IN_LEVEL],
        (b.fld f 0).testBit u = ((s.blk.fld f 0).testBit u && decide (u ≠ t.val))) ∧
        b.fld F.SOL_TRIP_IN_SEEN 0 = s.blk.fld F.SOL_TRIP_IN_SEEN 0 ∧
        b.fld F.LSW_TRIP_IN_SEEN 0 = s.blk.fld F.LSW_TRIP_IN_SEEN 0 ∧ b.out = s.blk.out ∧
        RegsKeptBut (fun r i => i = 0 ∧ (r = .SOL_TRIP_IN ∨ r = .LSW_TRIP_IN)) s.blk b ∧ MemKept s.blk b

/-- FEED_UNDERVOLTAGE of a feed below 3.0 V sets FEED_UV of the bank and of its sixteen channels and switches all of them off,
with duty 0 on the eight valve channels and one record; while FEED_UV stands it only shows the voltage. FEED_RECOVERY after 10 ms at 3.5 V clears FEED_UV and every
switch channel of the bank takes what the precedence of R188 gives it; the valve channels keep their setpoints, and one that no other
row of R166 bars drives its own again from its next sample. FEED_SHED of a feed above 150 A, or above 50 A for more than 100 ms,
switches off the channel of highest rank, then number, that is on, with SHED and FLT, 1 ms apart, and shows SHEDDING, the first of the episode
with one record; with none left on it raises FEED_VALVES once, naming the channel shed last. SHED_EPISODE_END clears SHEDDING. No memory changes. -/
def Obligations.FeedsShedAndRecover : Prop :=
  ∀ (s : State) (k : Fin 8), s.blk.powered = true →
    let y := s.blk.comp (8 + k)
    let bank := fun (r : RegName) (i : Nat) => (i = k.val ∧ (r = .LSW_BANK_STATUS ∨ r = .LSW_BANK_FEED)) ∨ RecReg r i
    (∀ mv, mv < 3000 → Completes (.feedUndervoltage k mv) s fun b =>
      b.fld F.LSW_BANK_FEED_FEED_V k = mv ∧ b.flag F.LSW_BANK_STATUS_FEED_UV k = true ∧ MemKept s.blk b ∧
        (s.blk.flag F.LSW_BANK_STATUS_FEED_UV k = true → NoRecord s.blk b ∧ b.out = s.blk.out ∧
          RegsKeptBut (fun r i => i = k.val ∧ r = .LSW_BANK_FEED) s.blk b) ∧
        (s.blk.flag F.LSW_BANK_STATUS_FEED_UV k = false →
          (∀ j, j < 16 → b.flag F.LSW_STATUS_FEED_UV (16 * k + j) = true ∧ b.lswOut (16 * k + j) = false) ∧
          (∀ j, j < 8 → b.fld F.SOL_DUTY_DUTY (8 * k + j) = 0) ∧
          OneRecord (584 + k) 0x10 0x05 (k * 2 ^ 29 + mv) s.blk b ∧
          RegsKeptBut (fun r i => bank r i ∨ (i / 16 = k.val ∧ r = .LSW_STATUS) ∨
            (i / 8 = k.val ∧ (r = .SOL_STATUS ∨ r = .SOL_DUTY))) s.blk b)) ∧
    (∀ mv since, 3500 ≤ mv → mv < 65536 → s.blk.elapsed since 10000000 = true →
      Completes (.feedRecovery k mv since) s fun b =>
        b.flag F.LSW_BANK_STATUS_FEED_UV k = false ∧ b.fld F.LSW_BANK_FEED_FEED_V k = mv ∧
          (∀ j, j < 16 → b.flag F.LSW_STATUS_FEED_UV (16 * k + j) = false ∧
            b.lswOut (16 * k + j) = b.lswWant (16 * k + j)) ∧ NoRecord s.blk b ∧ MemKept s.blk b ∧
          (∀ c : Fin 64, c.val / 8 = k.val →
            let x := s.blk.valve c
            b.valve c = x ∧ b.solBarred c = (s.blk.flag F.SOL_STATUS_TRIP_LATCH c || s.blk.flag F.SOL_STATUS_FLT c) ∧
            ∀ (code : BitVec 16) (cnt : Nat), b.solBarred c = false → s.blk.solState c = 0 ∨ s.blk.solState c = 3 →
              x.follow = false → (s.blk.comp (c / 8)).limp = false → s.blk.flag F.SOL_CTRL_EN c = true → x.hold = none →
              x.arr = none → x.fresh = true → 0 < x.use → code.toNat < 65535 →
              Completes (.currentSample c code cnt) { s with blk := b } fun d =>
                (d.solState c = 1 ∨ d.solState c = 2) ∧ (d.valve c).use = x.use) ∧
          RegsKeptBut (fun r i => bank r i ∨ (i / 16 = k.val ∧ r = .LSW_STATUS)) s.blk b) ∧
    (∀ c feed since, s.blk.shedFirst k = some c → (∀ t, y.shedAt = some t → s.blk.elapsed t 1000000 = true) →
      15000 < feed ∨ (5000 < feed ∧ s.blk.exceeded since 100000000 = true) →
      (c / 16 = k.val ∧ s.blk.lswOut c = true ∧ ∀ d, d / 16 = k.val → s.blk.lswOut d = true →
        s.blk.fld F.LSW_CFG_SHED d < s.blk.fld F.LSW_CFG_SHED c ∨
          (s.blk.fld F.LSW_CFG_SHED d = s.blk.fld F.LSW_CFG_SHED c ∧ d ≤ c)) ∧
      Completes (.feedShed k feed since) s fun b =>
        b.flag F.LSW_STATUS_SHED c = true ∧ b.flag F.LSW_STATUS_FLT c = true ∧ b.lswOut c = false ∧
          b.flag F.LSW_BANK_STATUS_SHEDDING k = true ∧ b.fld F.LSW_BANK_FEED_FEED_I k = min feed 65535 ∧
          b.comp (8 + k) = { y with shedAt := some s.blk.tb1, shedCh := c } ∧
          (s.blk.flag F.LSW_BANK_STATUS_SHEDDING k = false →
            OneRecord (584 + k) 0x05 0x04 (c * 2 ^ 25 + min 65535 feed) s.blk b) ∧
          (s.blk.flag F.LSW_BANK_STATUS_SHEDDING k = true → NoRecord s.blk b) ∧
          RegsKeptBut (fun r i => bank r i ∨ (i = c ∧ r = .LSW_STATUS)) s.blk b ∧ MemKept s.blk b) ∧
    (∀ feed since, s.blk.shedFirst k = none → s.blk.flag F.LSW_BANK_STATUS_SHEDDING k = true → y.valves = false →
      15000 < feed ∨ (5000 < feed ∧ s.blk.exceeded since 100000000 = true) →
      Completes (.feedShed k feed since) s fun b =>
        OneRecord (584 + k) 0x05 0x05 (y.shedCh * 2 ^ 25 + min 65535 feed) s.blk b ∧ b.comp (8 + k) = { y with valves := true } ∧
          RegsKeptBut bank s.blk b ∧ MemKept s.blk b) ∧
    ∀ feed since, feed ≤ 5000 → s.blk.elapsed since 100000000 = true → Completes (.shedEpisodeEnd k feed since) s fun b =>
      b.flag F.LSW_BANK_STATUS_SHEDDING k = false ∧ b.fld F.LSW_BANK_FEED_FEED_I k = feed ∧
        b.comp (8 + k) = { y with valves := false, shedAt := none } ∧
        RegsKeptBut (fun r i => i = k.val ∧ (r = .LSW_BANK_STATUS ∨ r = .LSW_BANK_FEED)) s.blk b ∧ MemKept s.blk b

/-- LINK_FRAME of a powered companion shows LINK_UP and, after CONFIG_DONE, ends limp-home. WATCHDOG_EXPIRY, 50 ms after the last frame
outside crank hold, or in a freeze without the hold strap, sets WD_EXPIRED, clears LINK_UP and puts the companion into limp-home: a
valve channel with a limp entry follows its pins and one without ends with duty 0, a switch channel shows in LIMP whether it has one. LIMP_HOME_ENTRY without a running
compute side puts all sixteen companions into limp-home. LIMP_PIN_CHANGE shows the level of its pin and of no other, and the switch
channels that follow pins follow it. LIMP_RELEASE of a companion that is out of limp-home ends the following of pins: its switch
channels show LIMP 0 and keep their output, its valve channels hold their limp current (log 33; the link frames and pins: log 42). No
memory changes. -/
def Obligations.LimpHome : Prop :=
  ∀ (s : State), s.blk.powered = true →
    let shows := fun (r : RegName) => r ∈ [.SOL_STATUS, .SOL_DUTY, .LSW_STATUS]
    let limped := fun (b : Blk) (k : Nat) => (s.blk.comp k).limp = false →
      (k < 8 → ∀ j, j < 8 →
        (s.blk.limpOf 1 (8 * k + j) = [] → b.fld F.SOL_DUTY_DUTY (8 * k + j) = 0 ∧ (b.valve (8 * k + j)).fresh = false) ∧
        (s.blk.limpOf 1 (8 * k + j) ≠ [] → (b.valve (8 * k + j)).follow = true)) ∧
      (8 ≤ k → ∀ j, j < 16 →
        b.lswFollows (16 * (k - 8) + j) = !(s.blk.limpOf 0 (16 * (k - 8) + j)).isEmpty)
    let own := fun (k : Nat) (r : RegName) (i : Nat) =>
      (k < 8 ∧ r = .SOL_COMP_STATUS ∧ i = k) ∨ (8 ≤ k ∧ r = .LSW_BANK_STATUS ∧ i = k - 8)
    (∀ k : Fin 16, s.blk.frozen = false → Completes (.linkFrame k) s fun b =>
      (b.comp k).frameAt = s.blk.tb1 ∧
        (b.comp k).limp = ((s.blk.comp k).limp && !s.blk.configDone) ∧
        (b.comp k).expired = ((s.blk.comp k).expired && !s.blk.configDone) ∧
        (if k.val < 8 then b.flag F.SOL_COMP_STATUS_LINK_UP k else b.flag F.LSW_BANK_STATUS_LINK_UP (k - 8 : Nat)) = true ∧
        RegsKeptBut (fun r i => own k r i ∨ r = .LSW_STATUS) s.blk b ∧ MemKept s.blk b) ∧
    (∀ k : Fin 16, (s.blk.comp k).expired = false →
      ((s.blk.frozen = false ∧ s.blk.cranking = false ∧ (s.blk.comp k).frameAt + 50000000 ≤ s.blk.tb1) ∨
        (s.blk.frozen = true ∧ s.blk.flag F.DBG_STATUS_HOLD_STRAP 0 = false)) →
      Completes (.watchdogExpiry k) s fun b =>
        (b.comp k).expired = true ∧ (b.comp k).limp = true ∧ limped b k ∧ MemKept s.blk b ∧
          RegsKeptBut (fun r i => own k r i ∨ shows r) s.blk b ∧
          (if k.val < 8 then b.flag F.SOL_COMP_STATUS_WD_EXPIRED k
            else b.flag F.LSW_BANK_STATUS_WD_EXPIRED (k - 8 : Nat)) = true ∧
          (if k.val < 8 then b.flag F.SOL_COMP_STATUS_LINK_UP k
            else b.flag F.LSW_BANK_STATUS_LINK_UP (k - 8 : Nat)) = false) ∧
    (s.blk.mod.phase ≠ .running ∨ (s.blk.frozen = true ∧ s.blk.flag F.DBG_STATUS_HOLD_STRAP 0 = false) →
      Completes .limpHomeEntry s fun b =>
        (∀ k, k < 16 → (b.comp k).limp = true ∧ limped b k) ∧ RegsKeptBut (fun r _ => shows r) s.blk b ∧ MemKept s.blk b) ∧
    (∀ (p : Fin 8) (high : Bool), Completes (.limpPinChange p high) s fun b =>
      (b.fld F.LSW_LIMP_LEVEL 0).testBit p = high ∧
        (∀ q, q ≠ p.val → (b.fld F.LSW_LIMP_LEVEL 0).testBit q = (s.blk.fld F.LSW_LIMP_LEVEL 0).testBit q) ∧
        (∀ c, s.blk.lswFollows c = false → b.reg .LSW_STATUS c = s.blk.reg .LSW_STATUS c) ∧
        (∀ c, c < 128 → s.blk.lswFollows c = true → b.lswOut c = b.lswWant c) ∧
        RegsKeptBut (fun r i => r = .LSW_LIMP ∧ i = 0 ∨ r = .LSW_STATUS) s.blk b ∧ MemKept s.blk b) ∧
    ∀ (zs8 zp16 : BitVec 8), s.blk.aonRuns = true → Completes (.limpRelease zs8 zp16) s fun b =>
      (∀ c, c < 64 → zs8.getLsbD (c / 8) = true → (s.blk.comp (c / 8)).limp = false →
        (b.valve c).follow = false ∧ ((s.blk.valve c).follow = true → (b.valve c).hold = s.blk.limpCurrent c)) ∧
      (∀ c, c < 128 → zp16.getLsbD (c / 16) = true → (s.blk.comp (lswComp c)).limp = false →
        b.lswFollows c = false ∧
          (s.blk.lswFollows c = true → s.blk.lswTakes c = true → (s.blk.switch c).retryAt = none →
            s.blk.flag F.LSW_BANK_STATUS_FEED_UV (c / 16) = false → b.lswOut c = s.blk.lswOut c)) ∧
      RegsKeptBut (fun r _ => r = .LSW_STATUS) s.blk b ∧ MemKept s.blk b

/-- AIN_WORD of a channel, D / 10.24 MHz after its last word, AIN_CFG_WRITE, EXCITATION_FAULT and SENSOR_SAMPLE_TRIGGER of an AIN
channel complete. A word counts SEQ up modulo 8; of an enabled channel it carries sat24(rs((raw − OFFSET) × SCALE, 16)), raw being what
the channel's filter gives for the raw codes of the word's samples, each clipped to ±(2^23 − 1), of a disabled one 0; it carries the lowest of the reasons that apply, and is valid where none does.
The written AIN_CFG is in force after the word, the invalid words that remain being the
larger of those left and the new N: a change of GAIN alone brings the filter order, of MUX alone or of EN to 1 one more, of FILT or
DEC the new order and one, FILTER_CHANGE, with an empty filter; a setting equal to the old one brings none (log 40). AIN_CFG_WRITE changes the register only; EXC_FAULT of a group follows its
voltage and limit; a trigger copies the word and TB1. No other register changes and no memory. How a raw code between two numbers is
rounded is the model's choice, log 61. -/
def Obligations.AnalogInputs : Prop :=
  (∀ (s : State) (a : Fin 64) (pins : List Int) (exc : Nat), s.blk.aonRuns = true →
    (s.blk.ain a).at_ + wordTime (s.blk.ain a).cfg ≤ s.blk.tb1 →
    (s.blk.ain a).remain = 0 ∨ (2 ≤ (s.blk.ain a).reason ∧ (s.blk.ain a).reason ≤ 4) →
    Completes (.ainWord a pins exc) s fun b =>
      let w := b.reg .AIN_WORD a
      let x := s.blk.ain a
      let codes := (wordSamples x.cfg pins).map fun p => rawCode x.cfg p exc
      let raw := (x.filter codes).2
      let y := rshift ((raw - s.blk.sfld F.AIN_OFFSET_OFFSET a) * s.blk.sfld F.AIN_SCALE_SCALE a) 16
      let new := ainChange x.cfg (s.blk.ainCfg a)
      let reason :=
        if x.cfg.en = false then 1 else if 0 < x.remain then x.reason
        else if x.cfg.mux = 2 ∧ (s.blk.fld F.AFE_EXC_EXC_FAULT 0).testBit (a.val / 16) = true then 5
        else if x.cfg.mux = 1 ∧ raw * 256 < 36 * 2 ^ 23 then 6
        else if x.cfg.mux = 1 ∧ 210 * 2 ^ 23 < raw * 256 then 7
        else if (∃ v ∈ codes, v < -8388607 ∨ 8388607 < v) ∨ (limited 24 y).2 = true then 8 else 0
      sampleSeq w = (sampleSeq (s.blk.reg .AIN_WORD a) + 1) % 8 ∧
      sampleValue w = (if x.cfg.en then (limited 24 y).1 else 0) ∧
      (w.extractLsb' 27 4).toNat = reason ∧ (sampleValid w = true ↔ reason = 0) ∧
      (b.ain a).cfg = s.blk.ainCfg a ∧ (b.ain a).at_ = s.blk.tb1 ∧
      (b.ain a).remain = max (x.remain - 1) new.1 ∧
      (b.ain a).reason = (if new.1 = 0 ∨ new.1 < x.remain - 1 then x.reason else new.2) ∧
      ((b.ain a).remain = 0 ∨ (2 ≤ (b.ain a).reason ∧ (b.ain a).reason ≤ 4)) ∧
      ((s.blk.ainCfg a).filt = x.cfg.filt ∧ (s.blk.ainCfg a).dec = x.cfg.dec →
        (b.ain a).sums = (x.filter codes).1.sums ∧ (b.ain a).diffs = (x.filter codes).1.diffs) ∧
      ((s.blk.ainCfg a).filt ≠ x.cfg.filt ∨ (s.blk.ainCfg a).dec ≠ x.cfg.dec →
        (b.ain a).sums = List.replicate (s.blk.ainCfg a).order 0 ∧ (b.ain a).diffs = List.replicate (s.blk.ainCfg a).order 0) ∧
      (∀ k, k ≠ a.val → b.ain k = s.blk.ain k) ∧
      RegsKeptBut (fun r i => r = .AIN_WORD ∧ i = a.val) s.blk b ∧ MemKept s.blk b) ∧
  (∀ (old new : AinCfg),
    (old = { new with gain := old.gain } → old.gain ≠ new.gain → ainChange old new = (new.filt + 3, 4)) ∧
    (old = { new with mux := old.mux } → old.mux ≠ new.mux → ainChange old new = (new.filt + 4, 3)) ∧
    (old = { new with en := false } → new.en = true → ainChange old new = (new.filt + 4, 3)) ∧
    (old.filt ≠ new.filt ∨ old.dec ≠ new.dec → ainChange old new = (new.filt + 4, 2)) ∧
    (old = new → ainChange old new = (0, 0))) ∧
  (∀ (s : State) (a : Fin 64) (v : Word), s.blk.aonRuns = true →
    Completes (.ainCfgWrite a v) s fun b =>
      b.reg .AIN_CFG a = v &&& BitVec.ofNat 32 RegName.AIN_CFG.masks.rw ∧
        RegsKeptBut (fun r i => r = .AIN_CFG ∧ i = a.val) s.blk b ∧ MemKept s.blk b ∧ UnitsKept s.blk b) ∧
  (∀ (s : State) (g : Fin 4) (mv : Nat) (lim : Bool), s.blk.aonRuns = true →
    Completes (.excitationFault g mv lim) s fun b =>
      ((b.fld F.AFE_EXC_EXC_FAULT 0).testBit g = true ↔ lim = true ∨ mv < 4750 ∨ 5250 < mv) ∧
        (∀ k, k < 4 → k ≠ g.val →
          (b.fld F.AFE_EXC_EXC_FAULT 0).testBit k = (s.blk.fld F.AFE_EXC_EXC_FAULT 0).testBit k) ∧
        RegsKeptBut (fun r i => r = .AFE_EXC ∧ i = 0) s.blk b ∧ MemKept s.blk b ∧ UnitsKept s.blk b) ∧
  ∀ (s : State) (ch : Fin 112) (t : Trigger) (b0 : Blk), s.blk.aonRuns = true → ch.val < 64 →
    s.blk.takeTrig 2 ch = some (t, b0) →
    Completes (.sensorSampleTrigger ch) s fun b =>
      b.reg .AIN_CAP ch = s.blk.reg .AIN_WORD ch ∧ b.reg .AIN_CAP_T ch = BitVec.ofNat 32 (t.vals.getD 1 0) ∧
        b.tbu.trig = s.blk.tbu.trig.erase t ∧ b.afe = s.blk.afe ∧
        RegsKeptBut (fun r i => i = ch.val ∧ r ∈ [.AIN_CAP, .AIN_CAP_T]) s.blk b ∧ MemKept s.blk b

/-- IMP_SAMPLE, SENSOR_SAMPLE_TRIGGER of an IMP or ENC channel, and ENC_EDGE complete. Of an enabled IMP channel a sample is a hit
exactly where the rectified signal rises through THRESH and HOLDOFF has passed since the previous hit. A trigger closes the
interval: CNT and DIST take the accumulators, which are cleared, and the word carries min(floor(C × 256 000 000 / d), 2^23 − 1), or
C and NO_TRAVEL where d is below MIN_MM. A trigger copies the word of an ENC channel. An edge is taken where the
input has stood at its new level for FILT + 2 ticks, since after its last change. A rising edge of an enabled channel, or either edge with BOTH_EDGES, counts
one up, but on the even channel of a pair; a pair counts each edge of either input on its even channel, up where that channel leads, and none
where both changed on one tick. A counted edge sets ENC_PERIOD to the ticks since the one before. A linear timebase that
takes source pulses from the channel alone gets one for each counted edge. No other register changes and no memory. -/
def Obligations.ImpactAndPulseInputs : Prop :=
  (∀ (s : State) (i : Fin 16) (mv : Int), s.blk.aonRuns = true → Completes (.impSample i mv) s fun b =>
      let x := s.blk.imp i
      let hit := x.rect < s.blk.fld F.IMP_CFG_THRESH i ∧ s.blk.fld F.IMP_CFG_THRESH i ≤ mv.natAbs ∧
        ∀ t, x.lastHit = some t → t + max 1 (s.blk.fld F.IMP_CFG_HOLDOFF i) * 1000 ≤ s.blk.tb1
      (s.blk.flag F.IMP_CFG_EN i = false → b = s.blk) ∧
      (s.blk.flag F.IMP_CFG_EN i = true → (b.imp i).rect = mv.natAbs ∧
        (hit → (b.imp i).fresh = x.fresh + 1 ∧ (b.imp i).lastHit = some s.blk.tb1) ∧
        (¬ hit → (b.imp i).fresh = x.fresh ∧ (b.imp i).lastHit = x.lastHit) ∧ (b.imp i).dist = x.dist ∧
        (∀ j, j ≠ i.val → b.imp j = s.blk.imp j)) ∧ RegsKept s.blk b ∧ MemKept s.blk b) ∧
  (∀ (s : State) (i : Fin 16) (ch : Fin 112) (t : Trigger) (b0 : Blk), s.blk.aonRuns = true → ch.val = 64 + i.val →
    s.blk.takeTrig 2 ch = some (t, b0) →
    Completes (.sensorSampleTrigger ch) s fun b =>
      let w := b.reg .IMP_WORD i
      let c := s.blk.fld F.IMP_LIVE_LIVE i
      let d := (s.blk.imp i).dist
      let en := s.blk.flag F.IMP_CFG_EN i
      let short := d < max 1 (s.blk.fld F.IMP_CFG_MIN_MM i) * 1000
      let full := c * 256000000 / d
      let reason := if en = false then 1 else if ¬ short ∧ 2 ^ 23 - 1 < full then 8
        else if (s.blk.imp i).tbLost = true then 9 else if short then 0xA else 0
      b.fld F.IMP_CAP_CNT_CNT i = c ∧ b.fld F.IMP_CAP_DIST_DIST i = d % 2 ^ 32 ∧ b.fld F.IMP_LIVE_LIVE i = 0 ∧
        (b.imp i).dist = 0 ∧ (b.imp i).tbLost = false ∧ (b.imp i).fresh = (s.blk.imp i).fresh ∧
        (∀ j, j ≠ i.val → b.imp j = s.blk.imp j) ∧
        sampleSeq w = (sampleSeq (s.blk.reg .IMP_WORD i) + 1) % 8 ∧
        (w.extractLsb' 0 24).toNat = (if en = false then 0 else if short then c else min full (2 ^ 23 - 1)) ∧
        (w.extractLsb' 27 4).toNat = reason ∧ (sampleValid w = true ↔ reason = 0) ∧
        b.tbu.trig = s.blk.tbu.trig.erase t ∧
        RegsKeptBut (fun r j => j = i.val ∧ r ∈ [.IMP_WORD, .IMP_CAP_CNT, .IMP_CAP_DIST, .IMP_LIVE]) s.blk b ∧
        MemKept s.blk b) ∧
  (∀ (s : State) (e : Fin 32) (ch : Fin 112) (t : Trigger) (b0 : Blk), s.blk.aonRuns = true → ch.val = 80 + e.val →
    s.blk.takeTrig 2 ch = some (t, b0) →
    Completes (.sensorSampleTrigger ch) s fun b =>
      b.reg .ENC_CAP e = s.blk.reg .ENC_WORD e ∧ b.tbu.trig = s.blk.tbu.trig.erase t ∧ b.afe = s.blk.afe ∧
        RegsKeptBut (fun r j => r = .ENC_CAP ∧ j = e.val) s.blk b ∧ MemKept s.blk b) ∧
  ∀ (s : State) (e : Fin 32) (l : Bool) (since : Nat), s.blk.aonRuns = true →
    let even := e.val - e.val % 2
    let other := if e.val % 2 = 0 then e.val + 1 else even
    let pair := s.blk.flag F.ENC_CFG_QUAD even = true ∧ s.blk.flag F.ENC_CFG_EN even = true
    let stood := fun (k : Nat) (l : Bool) (since : Nat) =>
      (s.blk.enc k).level = !l ∧ (∀ t, (s.blk.enc k).moved = some t → t < since) ∧
        since + (s.blk.fld F.ENC_CFG_FILT k + 2) * 10 ≤ s.blk.tb1
    let own := fun (k : Nat) (l : Bool) => s.blk.flag F.ENC_CFG_EN k = true ∧ (l = true ∨ s.blk.flag F.ENC_CFG_BOTH_EDGES k = true)
    let counts := fun (b : Blk) (k : Nat) (d : Int) =>
      (b.enc k).count = (s.blk.enc k).count + d ∧ (b.enc k).lastAt = some s.blk.tb1 ∧
        ∀ t, (s.blk.enc k).lastAt = some t → b.fld F.ENC_PERIOD_PERIOD k = min ((s.blk.tb1 - t) / 10) (2 ^ 32 - 1)
    let quiet := fun (b : Blk) (k : Nat) => (b.enc k).count = (s.blk.enc k).count ∧ (b.enc k).lastAt = (s.blk.enc k).lastAt ∧
      b.reg .ENC_PERIOD k = s.blk.reg .ENC_PERIOD k
    let frame := fun (b : Blk) =>
      (∀ k, k ≠ e.val → k ≠ other → b.enc k = s.blk.enc k) ∧
        RegsKeptBut (fun r j => r = .ENC_PERIOD ∧ (j = e.val ∨ j = other)) s.blk b ∧
        { s.blk with
          regs := b.regs
          afe := { s.blk.afe with enc := b.afe.enc }
          tbu := { s.blk.tbu with pulses := b.tbu.pulses } } = b
    (s.blk.enc other).moved ≠ some s.blk.tb1 → stood e l since →
    (Completes (.encEdge e l since none) s fun b =>
      (b.enc e).level = l ∧ (b.enc other).level = (s.blk.enc other).level ∧
        (¬ (pair ∧ e.val = even) → (own e l → counts b e 1) ∧ (¬ own e l → quiet b e)) ∧
        (pair → counts b even (if l = (s.blk.enc other).level then (if e.val = even then -1 else 1)
          else (if e.val = even then 1 else -1))) ∧
        (¬ (pair ∧ e.val ≠ even) → b.enc other = s.blk.enc other ∧ b.reg .ENC_PERIOD other = s.blk.reg .ENC_PERIOD other) ∧
        (∀ n, 3 ≤ n → n < 16 → s.blk.builtValid n = true → s.blk.fld F.TB_CFG_SRC_A n = e.val →
          s.blk.flag F.TB_CFG_QUAD n = false → s.blk.flag F.TB_CFG_SRC_B_EN n = false →
          b.tbu.pulses.filter (fun p => p.tb == n) = s.blk.tbu.pulses.filter (fun p => p.tb == n) ++
            (if own e l then [⟨n, false, false, true⟩] else [])) ∧
        frame b) ∧
    ∀ since', stood other (!(s.blk.enc other).level) since' → Completes (.encEdge e l since (some since')) s fun b =>
      (b.enc e).level = l ∧ (b.enc other).level = (!(s.blk.enc other).level) ∧
        (∀ k, k = e.val ∨ k = other → ¬ (pair ∧ k = even) →
          (own k (b.enc k).level → counts b k 1) ∧ (¬ own k (b.enc k).level → quiet b k)) ∧
        (pair → quiet b even ∧ (b.enc even).quadErr = true ∧ sampleValid (b.encWord even) = false) ∧ frame b

/-- FRAME_START, LONG_PACKET, LINE_PACKET and FRAME_END complete where the pipeline receives. A Frame Start counts FCNT of every enabled stream
of its channel, latches a pending address, and opens a frame at the active address, or none without one; a primary one applies the
parameter set of its frame and takes a capture within the time limit; other streams stay, and a
DRAINING pipeline takes none, and counts one that no stream takes. A line stands from record + 64 + y × PITCH, at most WIDTH, where its writes go through; a pixel
of a raw type is corrected by BLACK, GAIN and the defect threshold; lines that are lost or past HEIGHT are not stored. Buffers stand above tile memory, as
R216 says. A Frame End closes every open frame of its channel, and disables a DRAINING pipeline without another once its writes
are done; with one stream
and writes that go through, record and zeros stand at the buffer, and a marked frame raises one CAM_CHECK record
unless the one before was marked. A corrected header counts ECC_CORR; one past correction counts ECC_UNCORR and marks; packets no stream takes count DT_DROP; a line
packet with a good header changes nothing. That FCNT counts frames without an active address and DPC works on corrected values is
log 40; NO_TRIG in a frame that is not primary, log 41. -/
def Obligations.CameraFrames : Prop :=
  (∀ (s : State) (p : Fin 12) (vc : BitVec 2), s.blk.camRuns p = true →
    let on := s.blk.streamsOf p vc.toNat
    let y := s.blk.pipe p
    let counted := fun (f : Fld) (b : Blk) => b.fld f p = min (s.blk.fld f p + 1) 65535
    let only := fun (r : RegName) (b : Blk) => RegsKeptBut (fun q i => q = r ∧ i = p.val) s.blk b ∧ MemKept s.blk b ∧ UnitsKept s.blk b
    (∀ fnum, s.blk.camState p = 1 → (∀ k ∈ on, ∀ a, (s.blk.strm p k).pend = some a → a < 2 ^ 40) →
      Completes (.frameStart p vc fnum .good) s fun b =>
        let first := 0 ∈ on
        let cap := if first then y.capture.filter (fun c => s.blk.tb1 ≤ c.at_ + s.blk.camTimeout p) else none
        let set := if first then ((y.queue.find? fun e => e.1 = y.frames + 1).map (·.2)).getD y.set else y.set
        (∀ k ∈ on,
          let i := p * 4 + k
          let x := s.blk.strm p k
          let active := match x.pend with
            | some a => some a
            | none => if s.blk.flag F.ST_ACTIVE_HI_VALID i then
                some (s.blk.fld F.ST_ACTIVE_HI_ACTIVE i * 2 ^ 32 + (s.blk.reg .ST_ACTIVE_LO i).toNat) else none
          b.reg .ST_FCNT i = s.blk.reg .ST_FCNT i + 1 ∧
          b.strm p k = { x with
            pend := x.late, late := none, lastFs := s.blk.tb1, noStart := false, marked := (b.strm p k).marked
            frame := active.map fun a =>
              { addr := a, seen := 0, lines := 0,
                marks := ⟨false, false, false, false, false, false, false, !(k == 0 && cap.isSome)⟩
                pset := set.seq % 65536, fnum := fnum.toNat, fcnt := (b.reg .ST_FCNT i).toNat, eccN := 0, crcN := 0,
                tFs := s.blk.tb1, tTrig := if k = 0 then (cap.map (·.value)).getD 0 else 0 } } ∧
          (∀ a, x.pend = some a → b.flag F.ST_ACTIVE_HI_VALID i = true ∧
            b.fld F.ST_ACTIVE_HI_ACTIVE i * 2 ^ 32 + (b.reg .ST_ACTIVE_LO i).toNat = a)) ∧
        (∀ k, k ∉ on → b.strm p k = s.blk.strm p k) ∧ (∀ q, q ≠ p.val → b.pipe q = s.blk.pipe q) ∧
        (first → (b.pipe p).set = set ∧ (b.pipe p).frames = y.frames + 1 ∧
          (b.pipe p).queue = y.queue.filter (fun e => y.frames + 1 < e.1) ∧
          (b.pipe p).capture = (if cap.isSome then none else y.capture) ∧ b.fld F.PS_STATUS_SEQ p = set.seq % 65536) ∧
        (¬ first → b.pipe p = { y with streams := (b.pipe p).streams }) ∧
        (on = [] → counted F.CAM_ERR2_DT_DROP b ∧ only .CAM_ERR2 b) ∧
        ((∀ k ∈ on, (s.blk.strm p k).frame = none) → MemKept s.blk b ∧ NoRecord s.blk b ∧
          RegsKeptBut (fun r i => (i = p.val ∧ (r = .PS_STATUS ∨ r = .CAM_ERR2)) ∨
            (i / 4 = p.val ∧ r ∈ [.ST_FCNT, .ST_ACTIVE_LO, .ST_ACTIVE_HI, .ST_STATUS])) s.blk b)) ∧
    (∀ fnum, s.blk.camState p = 2 → Completes (.frameStart p vc fnum .good) s fun b =>
      (on = [] → counted F.CAM_ERR2_DT_DROP b ∧ only .CAM_ERR2 b) ∧ (on ≠ [] → b = s.blk)) ∧
    (Completes (.frameEnd p vc .good) s fun b =>
      (∀ k ∈ on, (b.strm p k).frame = none) ∧ (∀ k, k ∉ on → b.strm p k = s.blk.strm p k) ∧
      (on = [] → counted F.CAM_ERR2_DT_DROP b ∧ only .CAM_ERR2 b) ∧
      (s.blk.camState p = 2 → (∃ k ∈ on, (s.blk.strm p k).frame ≠ none) → (∀ k, k < 4 → (b.strm p k).frame = none) →
        b.camState p = if b.ownWaiting (512 + p) then 2 else 0) ∧
      ∀ k f, on = [k] → (s.blk.strm p k).frame = some f → 0x10000000 ≤ f.addr → Writable s.blk (512 + p) f.addr 4 →
        let m := { f.marks with
          lineCount := f.marks.lineCount || f.seen != s.blk.fld F.ST_SIZE_HEIGHT (p * 4 + k), discarded := false }
        let g := { f with marks := m }
        Stored f.addr (g.low ++ g.high ++ List.replicate 32 0) s.blk b ∧ (b.strm p k).marked = m.any ∧
          (m.any = false ∨ (s.blk.strm p k).marked = true → NoRecord s.blk b) ∧
          (m.any = true → (s.blk.strm p k).marked = false →
            OneRecord (512 + p) 0x08 g.check.1 (p * 2 ^ 28 + k * 2 ^ 26 + g.check.2) s.blk b) ∧
          RegsKeptBut (fun r i => (r = .ST_STATUS ∧ i = p * 4 + k) ∨ (r = .CAM_STATUS ∧ i = p.val) ∨ RecReg r i) s.blk b) ∧
    (∀ dt vals crcOk lost k, on.find? (fun k => s.blk.fld F.ST_CFG_DT (p * 4 + k) == BitVec.toNat dt) = some k →
      Completes (.longPacket p vc dt .good vals crcOk lost) s fun b =>
        let i := p * 4 + k
        let full := s.blk.fld F.ST_SIZE_WIDTH i * perPixel dt.toNat
        b.fld F.CAM_ERR0_CRC_CNT p = min (s.blk.fld F.CAM_ERR0_CRC_CNT p + (!crcOk).toNat) 65535 ∧
        ((s.blk.strm p k).frame = none → only .CAM_ERR0 b) ∧
        ∀ f, (s.blk.strm p k).frame = some f →
          let past := s.blk.fld F.ST_SIZE_HEIGHT i ≤ f.seen
          let at_ := f.addr + 64 + f.seen * s.blk.fld F.ST_PITCH_PITCH i
          let l := storeLine y.set dt.toNat f.seen (vals.take full)
          (∃ g, b.strm p k = { s.blk.strm p k with frame := some g } ∧
            g = { f with
              seen := f.seen + 1, lines := if lost ∨ past then f.lines else f.lines + 1
              crcN := if crcOk then f.crcN else min 65535 (f.crcN + 1)
              marks := { f.marks with
                crc := f.marks.crc || !crcOk, lineLen := f.marks.lineLen || vals.length != full
                overflow := f.marks.overflow || lost, lineCount := f.marks.lineCount || decide past
                deny := g.marks.deny } }) ∧
          (lost = true ∨ past → MemKept s.blk b ∧ (∃ g, (b.strm p k).frame = some g ∧ g.marks.deny = f.marks.deny)) ∧
          (lost = false → ¬ past → 0x10000000 ≤ f.addr → Writable s.blk (512 + p) at_ ((l.length + 15) / 16) →
            Stored at_ l s.blk b ∧ (∃ g, (b.strm p k).frame = some g ∧ g.marks.deny = f.marks.deny) ∧
              RegsKeptBut (fun r j => (r = .CAM_ERR0 ∧ j = p.val) ∨ (r = .ST_STATUS ∧ j = i)) s.blk b)) ∧
    (∀ dt vals crcOk lost, on.find? (fun k => s.blk.fld F.ST_CFG_DT (p * 4 + k) == BitVec.toNat dt) = none →
      Completes (.longPacket p vc dt .good vals crcOk lost) s fun b => counted F.CAM_ERR2_DT_DROP b ∧ only .CAM_ERR2 b) ∧
    (Completes (.linePacket p vc .good) s fun b => b = s.blk) ∧
    (Completes (.linePacket p vc .fixed) s fun b => counted F.CAM_ERR0_ECC_CORR b ∧ only .CAM_ERR0 b) ∧
    ∀ c fnum dt vals crcOk lost, c ∈ [Instr.frameStart p vc fnum .bad, .frameEnd p vc .bad, .linePacket p vc .bad,
        .longPacket p vc dt .bad vals crcOk lost] → Completes c s fun b =>
      counted F.CAM_ERR1_ECC_UNCORR b ∧ MemKept s.blk b ∧ NoRecord s.blk b ∧
        (∀ k f, k ∈ on → (s.blk.strm p k).frame = some f → b.strm p k = { s.blk.strm p k with
          frame := some { f with marks := { f.marks with ecc := true }, eccN := min 65535 (f.eccN + 1) } }) ∧
        (∀ k, k ∉ on ∨ (s.blk.strm p k).frame = none → b.strm p k = s.blk.strm p k) ∧
        RegsKeptBut (fun r i => (r = .CAM_ERR1 ∧ i = p.val) ∨ (i / 4 = p.val ∧ r = .ST_STATUS)) s.blk b) ∧
  (∀ (ps : ParamSet) (dt y : Nat) (l : List Nat), rawBits dt = 0 → storeLine ps dt y l = l.map fun v => BitVec.ofNat 8 v) ∧
  (∀ (ps : ParamSet) (dt y : Nat) (l : List Nat), rawBits dt ≠ 0 →
    let c := l.zipIdx.map fun v => correct ps (rawBits dt) v.2 y v.1
    storeLine ps dt y l =
      ((List.range c.length).map fun x => leBytes (if rawBits dt = 8 then 1 else 2) (replacePixel ps.dpc c x)).flatten) ∧
  (∀ (ps : ParamSet) (bits x y v : Nat),
    let q := y % 2 * 2 + x % 2
    (correct ps bits x y v : Int) =
      min (rshift (max 0 ((v : Int) - ps.black.getD q 0) * ps.gain.getD q 0) 12) (2 ^ bits - 1)) ∧
  ∀ (thresh : Nat) (l : List Nat) (x : Nat),
    let v := l.getD x 0
    let u := l.getD (x - 2) 0
    let w := l.getD (x + 2) 0
    replacePixel thresh l x =
      (if 0 < thresh ∧ 2 ≤ x ∧ x + 2 < l.length ∧ ((u + thresh < v ∧ w + thresh < v) ∨ (v + thresh < u ∧ v + thresh < w))
        then (u + w) / 2 else v)

/-- STREAM_ADDRESS_COMMIT, PARAMETER_COMMIT, PIPELINE_ENABLE and PIPELINE_DISABLE complete where AON runs. A buffer that breaks R216 sets
ADDR_REFUSED and nothing becomes pending; any other becomes pending, or late with COMMIT_LATE. A parameter set applies to frame
n + 1 + DELAY, one more where it comes late, replaces a queued one of the same frame, and is refused with PARAM_FULL where four
are queued. Enabling a DISABLED pipeline makes it ENABLED, a DRAINING one sets EN_REFUSED. Disabling without an open frame
disables at once; with one open it drains under DIS_MODE 0, and under DIS_MODE 1 closes every frame and is DISABLED, the record of a single open
frame carrying DISCARDED and LINE_COUNT where its writes go through. Addresses, parameter sets and captures are kept. While
writes of the pipeline wait, it stays DRAINING in place of DISABLED. -/
def Obligations.CameraCommitsAndEnabling : Prop :=
  ∀ (s : State) (p : Fin 12), s.blk.aonRuns = true →
    let only := fun (b : Blk) => MemKept s.blk b ∧ { s.blk with regs := b.regs, cam := b.cam } = b
    (∀ (k : Fin 4) late,
      let i := p * 4 + k.val
      let addr := s.blk.fld F.ST_ADDR_HI_ADDR i * 2 ^ 32 + (s.blk.reg .ST_ADDR_LO i).toNat
      let dt := s.blk.fld F.ST_CFG_DT i
      let pitch := s.blk.fld F.ST_PITCH_PITCH i
      let past := addr + 64 + s.blk.fld F.ST_SIZE_HEIGHT i * pitch
      let ok := addr % 64 = 0 ∧ pitch % 64 = 0 ∧ s.blk.fld F.ST_SIZE_WIDTH i * perPixel dt * storedBytes dt ≤ pitch ∧
        ((0x10000000 ≤ addr ∧ past ≤ 0x12000000) ∨ (0x1000000000 ≤ addr ∧ past ≤ 0x1400000000))
      Completes (.streamAddressCommit p k late) s fun b =>
        (¬ ok → b.flag F.ST_STATUS_ADDR_REFUSED i = true ∧ b.cam = s.blk.cam) ∧
        (ok → late = false →
          b.strm p k = { s.blk.strm p k with pend := some addr, late := none } ∧ b.flag F.ST_STATUS_PENDING i = true) ∧
        (ok → late = true →
          b.strm p k = { s.blk.strm p k with late := some addr } ∧ b.flag F.ST_STATUS_LATE_PEND i = true ∧
            b.flag F.ST_STATUS_COMMIT_LATE i = true) ∧
        RegsKeptBut (fun r j => r = .ST_STATUS ∧ j = i) s.blk b ∧ only b ∧
        ∀ q j, (q ≠ p.val ∨ j ≠ k.val) → b.strm q j = s.blk.strm q j) ∧
    (∀ (delay : Fin 4) late, Completes (.parameterCommit p delay late) s fun b =>
      let x := s.blk.pipe p
      let n := x.frames + 1 + delay.val + late.toNat
      (4 ≤ x.queue.length → b.flag F.PS_STATUS_PARAM_FULL p = true ∧ b.cam = s.blk.cam) ∧
      (x.queue.length < 4 →
        (n, s.blk.shadowSet p x.nextSeq) ∈ (b.pipe p).queue ∧ (b.pipe p).nextSeq = x.nextSeq + 1 ∧
          (∀ e, e ∈ (b.pipe p).queue → e.1 = n → e = (n, s.blk.shadowSet p x.nextSeq)) ∧
          (∀ e, e.1 ≠ n → (e ∈ (b.pipe p).queue ↔ e ∈ x.queue)) ∧
          b.pipe p = { x with queue := (b.pipe p).queue, nextSeq := x.nextSeq + 1 } ∧
          b.fld F.PS_STATUS_QUEUED p = (b.pipe p).queue.length ∧ (late = true → b.flag F.PS_STATUS_COMMIT_LATE p = true)) ∧
      (∀ q, q ≠ p.val → b.pipe q = s.blk.pipe q) ∧
      RegsKeptBut (fun r j => r = .PS_STATUS ∧ j = p.val) s.blk b ∧ only b) ∧
    (Completes (.pipelineEnable p) s fun b =>
      (s.blk.camState p = 0 → b.camState p = 1 ∧ b.flag F.CAM_CTRL_EN p = true ∧
        b.pipe p = { s.blk.pipe p with streams := (b.pipe p).streams, ending := false } ∧
        ∀ k, k < 4 → b.strm p k = { s.blk.strm p k with lastFs := s.blk.tb1 }) ∧
      (s.blk.camState p = 1 → b = s.blk) ∧
      (s.blk.camState p = 2 → b.flag F.CAM_STATUS_EN_REFUSED p = true ∧ b.camState p = 2 ∧ b.cam = s.blk.cam) ∧
      RegsKeptBut (fun r i => (i = p.val ∧ (r = .CAM_CTRL ∨ r = .CAM_STATUS)) ∨ (i / 4 = p.val ∧ r = .ST_STATUS)) s.blk b ∧
      only b) ∧
    (Completes (.pipelineDisable p) s fun b =>
      b.flag F.CAM_CTRL_EN p = false ∧
      (s.blk.camState p ≠ 1 → RegsKeptBut (fun r i => r = .CAM_CTRL ∧ i = p.val) s.blk b ∧ MemKept s.blk b ∧ UnitsKept s.blk b) ∧
      (s.blk.camState p = 1 →
        let quietly := only b ∧ RegsKeptBut (fun r i => i = p.val ∧ (r = .CAM_CTRL ∨ r = .CAM_STATUS)) s.blk b
        ((∀ k, k < 4 → (s.blk.strm p k).frame = none) → quietly ∧ (∀ q, q ≠ p.val → b.pipe q = s.blk.pipe q) ∧
          b.pipe p = { s.blk.pipe p with ending := s.blk.ownWaiting (512 + p) } ∧
          b.camState p = if s.blk.ownWaiting (512 + p) then 2 else 0) ∧
        (s.blk.flag F.CAM_CTRL_DIS_MODE p = false → (∃ k, k < 4 ∧ (s.blk.strm p k).frame ≠ none) →
          b.camState p = 2 ∧ quietly ∧ b.cam = s.blk.cam) ∧
        (s.blk.flag F.CAM_CTRL_DIS_MODE p = true →
          b.camState p = (if b.ownWaiting (512 + p) then 2 else 0) ∧
          b.pipe p = { s.blk.pipe p with streams := (b.pipe p).streams, ending := b.ownWaiting (512 + p) } ∧
          (∀ k, k < 4 → b.strm p k = { s.blk.strm p k with frame := none, marked := (b.strm p k).marked }) ∧
          ∀ k f, k < 4 → (s.blk.strm p k).frame = some f → (∀ j, j < 4 → j ≠ k → (s.blk.strm p j).frame = none) →
            0x10000000 ≤ f.addr → Writable s.blk (512 + p) f.addr 4 →
            let g := { f with marks := { f.marks with lineCount := true, discarded := true } }
            Stored f.addr (g.low ++ g.high ++ List.replicate 32 0) s.blk b ∧
              RegsKeptBut (fun r i => (i = p.val ∧ (r = .CAM_CTRL ∨ r = .CAM_STATUS)) ∨
                (i = p * 4 + k ∧ r = .ST_STATUS) ∨ RecReg r i) s.blk b)))

/-- EXPOSURE_TRIGGER, TRIGGER_PULSE_END, NO_FRAME, NO_END, NO_START, CCI_START, CCI_DONE, PHY_LOCK_CHANGE and SOT_SYNC_ERROR
complete where AON runs and their condition holds. A trigger asserts the pin and replaces an unmatched capture, which counts TRIG_LOST;
the pulse ends after its width. Each time limit raises one CAM_LATE record of its detail: NO_FRAME drops the capture,
NO_END closes the frame, with LINE_COUNT set, after the CAM_CHECK record of a new check episode, NO_START is not raised again. A transfer that starts sets BUSY, with
the bytes of CCI_TX where it writes, and none starts while one runs; done, it clears
BUSY, sets DONE with the frame count, NACK where it ended so, and CCI_RX where it read (one that ended in NACK leaves it,
log 41). The lock shows the clock lane, and a sync error counts. -/
def Obligations.CameraTriggersAndLimits : Prop :=
  ∀ (s : State) (p : Fin 12), s.blk.aonRuns = true →
    let x := s.blk.pipe p
    let others := fun (b : Blk) => ∀ q, q ≠ p.val → b.pipe q = s.blk.pipe q
    let data := fun (k : Nat) => p * 2 ^ 28 + k * 2 ^ 26 + (s.blk.reg .ST_FCNT (p * 4 + k)).toNat % 65536
    (∀ t b0, s.blk.takeTrig 3 p = some (t, b0) → Completes (.exposureTrigger p) s fun b =>
        b.tbu.trig = s.blk.tbu.trig.erase t ∧
        (s.blk.camRuns p = false → b.cam = s.blk.cam ∧ RegsKept s.blk b) ∧
        (s.blk.camRuns p = true →
          b.pipe p = { x with
            pulse := some s.blk.tb1
            capture := some ⟨t.vals.getD 1 0, t.vals.getD (s.blk.fld F.CAM_TRIG_TB_SEL p) 0⟩ } ∧
          b.fld F.CAM_ERR2_TRIG_LOST p =
            (if x.capture = none then s.blk.fld F.CAM_ERR2_TRIG_LOST p else min (s.blk.fld F.CAM_ERR2_TRIG_LOST p + 1) 65535)) ∧
        others b ∧ RegsKeptBut (fun r i => r = .CAM_ERR2 ∧ i = p.val) s.blk b ∧ MemKept s.blk b) ∧
    (∀ t, x.pulse = some t → t + max 1 (min 1000 (s.blk.fld F.CAM_TRIG_WIDTH_US p)) * 1000 ≤ s.blk.tb1 →
      Completes (.triggerPulseEnd p) s fun b =>
        b.pipe p = { x with pulse := none } ∧ others b ∧ RegsKept s.blk b ∧ MemKept s.blk b) ∧
    (s.blk.camRuns p = true →
      (∀ c, x.capture = some c → c.at_ + s.blk.camTimeout p < s.blk.tb1 → Completes (.noFrame p) s fun b =>
        b.pipe p = { x with capture := none } ∧ others b ∧ OneRecord (512 + p) 0x09 1 (data 0) s.blk b ∧
          RegsKeptBut RecReg s.blk b ∧ MemKept s.blk b) ∧
      (∀ (k : Fin 4) f, (s.blk.strm p k).frame = some f → f.tFs + s.blk.camTimeout p < s.blk.tb1 →
        Completes (.noEnd p k) s fun b =>
          let g := { f with marks := { f.marks with lineCount := true, discarded := false } }
          let c := if (s.blk.strm p k).marked then s.blk
            else s.blk.raise (512 + p) 0x08 g.check.1 (p * 2 ^ 28 + k * 2 ^ 26 + g.check.2)
          b.strm p k = { s.blk.strm p k with frame := none, marked := true } ∧ others b ∧
            OneRecord (512 + p) 0x09 2 (data k) c b ∧
            (0x10000000 ≤ f.addr → Writable s.blk (512 + p) f.addr 4 →
              Stored f.addr (g.low ++ g.high ++ List.replicate 32 0) s.blk b ∧
              RegsKeptBut (fun r i => (r = .ST_STATUS ∧ i = p * 4 + k) ∨ (r = .CAM_STATUS ∧ i = p.val) ∨ RecReg r i) s.blk b)) ∧
      ∀ (k : Fin 4), s.blk.camState p = 1 → s.blk.flag F.ST_CFG_EN (p * 4 + k) = true → (s.blk.strm p k).noStart = false →
        (s.blk.strm p k).lastFs + 4 * s.blk.camTimeout p ≤ s.blk.tb1 →
        Completes (.noStart p k) s fun b =>
          b.strm p k = { s.blk.strm p k with noStart := true } ∧ others b ∧ OneRecord (512 + p) 0x09 3 (data k) s.blk b ∧
            RegsKeptBut (fun r i => (r = .ST_STATUS ∧ i = p * 4 + k) ∨ RecReg r i) s.blk b ∧ MemKept s.blk b) ∧
    (∀ cmd, Completes (.cciStart p cmd) s fun b =>
      let rd := cmd.getLsbD 13
      let len := max 1 (min 8 (cmd.extractLsb' 14 4).toNat)
      let tx := (leBytes 4 (s.blk.reg .CCI_TX (p * 2)).toNat ++ leBytes 4 (s.blk.reg .CCI_TX (p * 2 + 1)).toNat).take len
      (s.blk.flag F.CCI_STATUS_BUSY p = true → b.cam = s.blk.cam) ∧
      (s.blk.flag F.CCI_STATUS_BUSY p = false → b.flag F.CCI_STATUS_BUSY p = true ∧
        b.pipe p = { x with cci := some (rd, len, (cmd.extractLsb' 1 7).toNat, if rd then [] else tx) } ∧ others b) ∧
      RegsKeptBut (fun r i => i = p.val ∧ r ∈ [.CCI_CMD, .CCI_STATUS]) s.blk b ∧ MemKept s.blk b) ∧
    (∀ nack rx rd len addr tx, x.cci = some (rd, len, addr, tx) → Completes (.cciDone p nack rx) s fun b =>
      b.pipe p = { x with cci := none } ∧ others b ∧
        b.flag F.CCI_STATUS_BUSY p = false ∧ b.flag F.CCI_STATUS_DONE p = true ∧
        b.fld F.CCI_STATUS_DONE_FCNT p = (s.blk.reg .ST_FCNT (p * 4)).toNat % 65536 ∧
        b.flag F.CCI_STATUS_NACK p = (nack || s.blk.flag F.CCI_STATUS_NACK p) ∧
        (rd = true → nack = false →
          b.reg .CCI_RX (p * 2) = BitVec.ofNat 32 (ofLeBytes ((rx.take len).take 4)) ∧
          b.reg .CCI_RX (p * 2 + 1) = BitVec.ofNat 32 (ofLeBytes ((rx.take len).drop 4))) ∧
        RegsKeptBut (fun r i => (r = .CCI_STATUS ∧ i = p.val) ∨
          (rd = true ∧ nack = false ∧ r = .CCI_RX ∧ i / 2 = p.val)) s.blk b ∧ MemKept s.blk b) ∧
    (∀ hs, Completes (.phyLockChange p hs) s fun b =>
      b.flag F.CAM_STATUS_PHY_LOCK p = hs ∧ b.camState p = s.blk.camState p ∧
        RegsKeptBut (fun r i => r = .CAM_STATUS ∧ i = p.val) s.blk b ∧ MemKept s.blk b ∧ UnitsKept s.blk b) ∧
    (s.blk.camRuns p = true → Completes (.sotSyncError p) s fun b =>
      b.fld F.CAM_ERR1_SOT_ERR p = min (s.blk.fld F.CAM_ERR1_SOT_ERR p + 1) 65535 ∧
        RegsKeptBut (fun r i => r = .CAM_ERR1 ∧ i = p.val) s.blk b ∧ MemKept s.blk b ∧ UnitsKept s.blk b)

/-- EPOCH, EPOCH_ABANDON, SENSOR_DROPPED, POSE_UPDATE, FUSION_ENABLE and FUSION_DISABLE complete where their condition holds. An epoch whose
time has come switches every slot whose load has completed; on the grid node it moves and decays the grid, fuses the observations up to its time
that are not masked, runs the heads, counts FUS_EPOCH and publishes the next buffer: planes and header stand there where the writes go through. An
epoch late by one period is abandoned with OVR. A draining array publishes the epoch in progress and no other. An enabled sensor without input
for DROP_MS is masked with one record. A pose becomes the newest, and EGO_OK is 0 exactly where both yaw or both
distance sources are masked, with one record when it falls. Enabling starts from an empty grid, or sets EN_REFUSED while draining; disabling lets a due epoch
complete. Every cell's centre lies in that cell; without movement the grid keeps its features and its confidence decays by
floor(conf × (256 − DECAY) / 256), or goes to 0 without ego-motion; a fused value is the rounded weighted mean, and lies
between old and observed. Where a cell of a turned grid comes from is exact but for ties, log 25. That of several due epochs the latest is
built, TB3 is that of its own tick, and the drop timer starts anew at enabling is log 51. -/
def Obligations.FusionEpochs : Prop :=
  (∀ (s : State) (head : List HeadOut), s.blk.fusRuns = true → s.blk.fusState ≠ 0 → s.blk.fus.epoch < s.blk.epochNow →
    Completes (.epoch head) s fun b =>
      let e := s.blk.epochNow
      let t := e * s.blk.epochNs
      let grid := s.blk.gridNode = true
      let draining := s.blk.fusState = 2
      let past := draining ∧ s.blk.fus.last ≠ e
      b.fus.epoch = e ∧ b.fusState = (if draining then 0 else s.blk.fusState) ∧
      b.flag F.FUS_STATUS_OVR 0 =
        (s.blk.flag F.FUS_STATUS_OVR 0 || decide (grid ∧ (s.blk.fus.epoch + 1 < e ∨ past))) ∧
      (past → b.fus = { s.blk.fus with epoch := e } ∧ RegsKeptBut (fun r i => r = .FUS_STATUS ∧ i = 0) s.blk b ∧
        MemKept s.blk b ∧ NoRecord s.blk b) ∧
      (¬ past → ∀ m, m < 8 →
        ((s.blk.model_ m).ready = true →
          let area := !s.blk.flag F.MODEL_STATUS_AREA m
          b.model_ m = { s.blk.model_ m with ready := false } ∧ b.flag F.MODEL_STATUS_AREA m = area ∧
            b.flag F.MODEL_STATUS_LOADED m = true ∧ b.flag F.MODEL_STATUS_PEND m = false) ∧
        ((s.blk.model_ m).ready = false → b.model_ m = s.blk.model_ m ∧ b.reg .MODEL_STATUS m = s.blk.reg .MODEL_STATUS m)) ∧
      (¬ grid → b.fus = { s.blk.fus with epoch := e, models := b.fus.models } ∧ NoRecord s.blk b ∧
        RegsKeptBut (fun r _ => r = .MODEL_STATUS ∨ r = .FUS_STATUS) s.blk b ∧ MemKept s.blk b) ∧
      (grid → ¬ past →
        let pose := (poseAt t s.blk.fus.poses).getD s.blk.fus.gridPose
        let obs := s.blk.fus.obs.filter fun o => decide (o.at_ ≤ t) && (poseAt o.at_ s.blk.fus.poses).isSome
        let placed := (sortObs (obs.filter fun o => s.blk.sensorOn o.sensor)).filterMap fun o =>
          (s.blk.placeObs pose o).map fun k => (k.1, s.blk.fld F.CAL_CFG_W o.sensor, { o with vals := k.2 })
        let used := placed.filter fun x => !s.blk.masked x.2.2.sensor
        let moved := moveGrid s.blk.free s.blk.fus.grid s.blk.xMin s.blk.fus.gridPose pose s.blk.fus.ego
          (s.blk.fld F.FUS_GRID_CFG_DECAY 0)
        let nbuf := max 3 (s.blk.fld F.FUS_GRID_CFG_NBUF 0)
        let buf := if s.blk.fus.published = false then 0 else (s.blk.fld F.FUS_PUB_BUF 0 + 1) % nbuf
        let a := s.blk.gridAddr buf
        b.fus.grid = b.runHeads (fuseAll moved used) head ∧ b.fus.gridPose = pose ∧ b.fus.pubAt = t ∧ b.fus.published = true ∧
        b.fus.poses = s.blk.fus.poses ∧ b.fus.obs = s.blk.fus.obs.filter (fun o => decide (t < o.at_)) ∧
        b.fus.inputs = s.blk.fus.inputs.filter (fun x => decide (t < x.at_)) ∧
        b.fld F.FUS_EPOCH_EPOCH 0 = (s.blk.fld F.FUS_EPOCH_EPOCH 0 + 1) % 2 ^ 32 ∧ b.fld F.FUS_PUB_BUF 0 = buf % 4 ∧
        (0x1000000000 ≤ a → s.blk.gate (s.blk.unitMaster 528) .write a 32 = none → Writable s.blk 528 a 4 →
          Writable s.blk 528 (a + 0x10000) 16384 → Writable s.blk 528 (a + 0x100000) 1048576 →
          let used32 := ((used.map fun x => x.2.2.sensor).eraseDups).foldl (fun acc k => acc + 2 ^ k) 0
          let w := fun (v : Int) => leBytes 4 (BitVec.ofInt 32 v).toNat
          b.bytes a 64 = leBytes 4 (2 ^ 31 + s.blk.fus.ego.toNat * 2 ^ 30 + (decide draining).toNat * 2 ^ 29) ++ leBytes 4 e ++
            leBytes 8 t ++ leBytes 8 s.blk.fus.tb3At ++ leBytes 4 used32 ++ leBytes 4 (b.reg .FUS_SWATH 0).toNat ++ w pose.x ++
            w pose.y ++ w pose.yaw ++ List.replicate 20 0 ∧
          b.bytes (a + 0x10000) 262144 = confPlane b.fus.grid ∧ b.bytes (a + 0x100000) 16777216 = featPlane b.fus.grid ∧
          (∀ x, x < a ∨ (a + 64 ≤ x ∧ x < a + 0x10000) ∨ (a + 0x50000 ≤ x ∧ x < a + 0x100000) ∨ a + 0x1100000 ≤ x →
            b.byte x = s.blk.byte x) ∧
          RegsKeptBut (fun r i => (i = 0 ∧ r ∈ [.FUS_STATUS, .FUS_EPOCH, .FUS_PUB, .FUS_MASK, .FUS_SWATH]) ∨ r = .FUS_BIN ∨
            r = .MODEL_STATUS ∨ RecReg r i) s.blk b))) ∧
  (∀ (s : State), s.blk.fusRuns = true → s.blk.gridNode = true → s.blk.fusState ≠ 0 → s.blk.fus.epoch + 1 < s.blk.epochNow →
    Completes .epochAbandon s fun b =>
      b.flag F.FUS_STATUS_OVR 0 = true ∧ b.fus = { s.blk.fus with epoch := s.blk.epochNow - 1 } ∧
        b.fusState = (if s.blk.fusState = 2 then 0 else s.blk.fusState) ∧
        RegsKeptBut (fun r i => r = .FUS_STATUS ∧ i = 0) s.blk b ∧ MemKept s.blk b ∧ NoRecord s.blk b) ∧
  (∀ (s : State) (k : Fin 31), s.blk.fusRuns = true → s.blk.gridNode = true → s.blk.fusState ≠ 0 → s.blk.sensorOn k = true →
    (s.blk.sensor k).silent = false → s.blk.fld F.FUS_DROP_DROP_MS 0 ≤ s.blk.silentMs k →
    Completes (.sensorDropped k) s fun b =>
      let c := s.blk.raise 528 0x11 0x01 (k * 2 ^ 27 + 0 * 2 ^ 16 + min 65535 (s.blk.silentMs k))
      let gone := fun (j : Nat) => b.masked (20 + j) = true
      let fell := s.blk.flag F.FUS_STATUS_EGO_OK 0 = true ∧ (gone 0 ∨ gone 1) ∧ gone 2
      b.masked k = true ∧ (b.sensor k).silent = true ∧ (∀ j, j ≠ k.val → b.sensor j = s.blk.sensor j) ∧
        (∀ j, j ≠ k.val → b.masked j = s.blk.masked j) ∧
        (s.blk.masked k = true → NoRecord s.blk b ∧ RegsKept s.blk b) ∧
        (s.blk.masked k = false → ¬ fell → OneRecord 528 0x11 0x01 (k * 2 ^ 27 + 0 * 2 ^ 16 + min 65535 (s.blk.silentMs k)) s.blk b) ∧
        (s.blk.masked k = false → fell → OneRecord 528 0x11 0x03
          (31 * 2 ^ 27 + (b.masked 20).toNat + 2 * (b.masked 21).toNat + 4 * (b.masked 22).toNat) c b) ∧
        RegsKeptBut (fun r i => (i = 0 ∧ (r = .FUS_MASK ∨ r = .FUS_STATUS)) ∨ RecReg r i) s.blk b ∧ MemKept s.blk b) ∧
  (∀ (s : State) (pose : Pose) (fed : BitVec 3), s.blk.fusRuns = true →
    (∀ p ∈ s.blk.fus.poses.head?, p.at_ + 250000 ≤ s.blk.tb1) →
    Completes (.poseUpdate pose fed) s fun b =>
      let gone := fun (j : Nat) => s.blk.masked (20 + j) = true
      let lost := (gone 0 ∨ gone 1) ∧ gone 2
      let live := fun (j : Nat) => fed.getLsbD j = true ∧ (j = 1 → s.blk.tbValid 3 = true) ∧
        (j = 2 → 1 ≤ s.blk.navStatus ∧ s.blk.navStatus ≤ 5)
      b.fus.poses = ({ pose with at_ := s.blk.tb1, yaw := wrapMicro pose.yaw } :: s.blk.fus.poses).take 4096 ∧
        (∀ j, j < 3 → live j →
          b.sensor (20 + j) = { s.blk.sensor (20 + j) with lastIn := s.blk.tb1, fed := true, silent := false }) ∧
        (∀ j, j < 3 → ¬ live j → b.sensor (20 + j) = s.blk.sensor (20 + j)) ∧
        (∀ j, j < 20 ∨ 23 ≤ j → b.sensor j = s.blk.sensor j) ∧
        (b.flag F.FUS_STATUS_EGO_OK 0 = false ↔ lost) ∧
        (s.blk.flag F.FUS_STATUS_EGO_OK 0 = true → lost → OneRecord 528 0x11 0x03
          (31 * 2 ^ 27 + (s.blk.masked 20).toNat + 2 * (s.blk.masked 21).toNat + 4 * (s.blk.masked 22).toNat) s.blk b) ∧
        (s.blk.flag F.FUS_STATUS_EGO_OK 0 = false ∨ ¬ lost → NoRecord s.blk b) ∧
        RegsKeptBut (fun r i => (i = 0 ∧ r = .FUS_STATUS) ∨ RecReg r i) s.blk b ∧ MemKept s.blk b) ∧
  (∀ (s : State), s.blk.aonRuns = true →
    (s.blk.fusState = 0 → Completes .fusionEnable s fun b =>
      b.fusState = 1 ∧ b.flag F.FUS_CTRL_EN 0 = true ∧
        b.fus = { s.blk.fus with grid := [], epoch := s.blk.epochNow, sensors := b.fus.sensors } ∧
        (∀ k, k < 31 → b.sensor k = { s.blk.sensor k with lastIn := s.blk.tb1 }) ∧
        RegsKeptBut (fun r i => i = 0 ∧ r ∈ [.FUS_CTRL, .FUS_STATUS]) s.blk b ∧ MemKept s.blk b) ∧
    (s.blk.fusState = 1 → Completes .fusionEnable s fun b => b = s.blk) ∧
    (s.blk.fusState = 2 → Completes .fusionEnable s fun b =>
      b.flag F.FUS_STATUS_EN_REFUSED 0 = true ∧ b.fusState = 2 ∧ b.fus = s.blk.fus ∧
        RegsKeptBut (fun r i => r = .FUS_STATUS ∧ i = 0) s.blk b ∧ MemKept s.blk b) ∧
    Completes .fusionDisable s fun b =>
      b.flag F.FUS_CTRL_EN 0 = false ∧
        (s.blk.fusState = 1 → b.fus = { s.blk.fus with last := s.blk.epochNow } ∧
          b.fusState = if s.blk.gridNode = true ∧ s.blk.fus.epoch < s.blk.epochNow then 2 else 0) ∧
        (s.blk.fusState ≠ 1 → b.fus = s.blk.fus ∧ b.fusState = s.blk.fusState) ∧
        RegsKeptBut (fun r i => i = 0 ∧ r ∈ [.FUS_CTRL, .FUS_STATUS]) s.blk b ∧ MemKept s.blk b) ∧
  (∀ (xMin : Int) (k : Nat), k < 262144 → cellAt xMin (cellPos xMin k).1 (cellPos xMin k).2 = some k) ∧
  (∀ (free : Nat) (g : NMap Cell) (xMin : Int) (p : Pose) (ego : Bool) (decay k : Nat), k < 262144 →
    gridCell (moveGrid free g xMin p p ego decay) k =
      { gridCell g k with conf := if ego then (gridCell g k).conf * (256 - decay) / 256 else 0 }) ∧
  ∀ (old obs : Int) (conf w : Nat),
    (0 < conf + w →
      fuseValue old conf obs w = (2 * (old * conf + obs * w) + (conf + w)) / (2 * (conf + w)) ∧
      min old obs ≤ fuseValue old conf obs w ∧ fuseValue old conf obs w ≤ max old obs) ∧
    (conf + w = 0 → fuseValue old conf obs w = old)

/-- MODEL_LOAD, MODEL_LOAD_COMPLETE, FRAME_INFERENCE and POINT_PACKET complete where their condition holds. A load is refused while PEND is 1 or
a quadrant is off; else PEND is set. When the copy finishes whose reads the gate admits, an image that passes waits in the spare area, any other clears PEND and
sets LOAD_REFUSED. A slot takes a frame once. One of KIND 0 adds the features it projects to the observations of the grid node, and
elsewhere sends them to GRID_NODE in CONTRIB packets on VC2, each a head with the frame's fabric time and FCNT and up to 31 cell flits; one of KIND 2 whose writes go through leaves FCNT, T_FS and its thirteen words at MODEL_OUT. A packet that
comes to FUS_RS_PORT at an Ethernet port that is up and passes the checks counts ACCEPT, and GAP where its SEQ does not follow; on the grid node
its usable points become observations, kept while fusion is DISABLED for its first epoch (log 51), and while it is not its sensor has an
input. One that does not pass counts DISCARD of the sensor it names, and has no other effect. -/
def Obligations.FusionModelsAndPoints : Prop :=
  ∀ (s : State),
    (∀ (m : Fin 8), s.blk.aonRuns = true → Completes (.modelLoad m) s fun b =>
      (s.blk.flag F.MODEL_STATUS_PEND m = true ∨ s.blk.quadsOn m = false →
        b.flag F.MODEL_STATUS_LOAD_REFUSED m = true ∧ b.fus = s.blk.fus) ∧
      (s.blk.flag F.MODEL_STATUS_PEND m = false → s.blk.quadsOn m = true →
        b.flag F.MODEL_STATUS_PEND m = true ∧ b.model_ m = { s.blk.model_ m with
          copy := some (s.blk.fld F.MODEL_ADDR_HI_ADDR m * 2 ^ 32 + (s.blk.reg .MODEL_ADDR_LO m).toNat) }) ∧
      (∀ k, k ≠ m.val → b.model_ k = s.blk.model_ k) ∧
      RegsKeptBut (fun r i => r = .MODEL_STATUS ∧ i = m.val) s.blk b ∧ MemKept s.blk b) ∧
    (∀ (m : Fin 8) (a : Nat), s.blk.fusRuns = true → (s.blk.model_ m).copy = some a →
      let len := ofLeBytes (s.blk.bytes (a + 4) 4)
      let img := s.blk.bytes a (64 + len)
      Readable s.blk 528 a (4 + (len + 15) / 16) →
      Completes (.modelLoadComplete m) s fun b =>
        let x := s.blk.model_ m
        let spare := s.blk.flag F.MODEL_STATUS_AREA m
        (s.blk.imageOk m img = true → RegsKept s.blk b ∧ b.model_ m = { x with
          copy := none, ready := true
          area0 := if spare then img else x.area0, area1 := if spare then x.area1 else img }) ∧
        (s.blk.imageOk m img = false → b.flag F.MODEL_STATUS_LOAD_REFUSED m = true ∧ b.flag F.MODEL_STATUS_PEND m = false ∧
          b.model_ m = { x with copy := none }) ∧
        (∀ k, k ≠ m.val → b.model_ k = s.blk.model_ k) ∧
        RegsKeptBut (fun r i => r = .MODEL_STATUS ∧ i = m.val) s.blk b ∧ MemKept s.blk b ∧ NoRecord s.blk b) ∧
    (∀ (m : Fin 8) (p : Fin 12) feats words f, s.blk.fusRuns = true → s.blk.fusState = 1 →
      s.blk.fus.frames.find? (fun f => f.pipe == p.val) = some f → f.marked = false → m.val ∉ f.taken → m.val ∉ f.dropped →
      s.blk.ownWaiting (512 + p) = false →
      (s.blk.fld F.MODEL_CFG_SRC m).testBit p = true → s.blk.flag F.MODEL_STATUS_LOADED m = true →
      s.blk.fld F.MODEL_CFG_QUADS m ≠ 0 → s.blk.quadsOn m = true →
      let taken := fun (b : Blk) => b.fus.frames = s.blk.fus.frames.map fun (g : ReadyFrame) =>
        if g.pipe = p then { g with taken := m.val :: g.taken } else g
      (s.blk.fld F.MODEL_CFG_KIND m = 0 → Completes (.frameInference m p feats words) s fun b =>
        let at_ := f.tFs - s.blk.fld F.CAL_CFG_LAT_US p * 1000
        let l := feats.filterMap (s.blk.featureObs m p at_)
        let d := Blk.writeDepth { s.blk with fus := { s.blk.fus with frames := b.fus.frames } } m p
          (f.taken.all fun k => s.blk.fld F.MODEL_CFG_KIND k != 0)
        let cells := (l.filterMap fun o => match o.spot with
          | .point v => (cellAt s.blk.xMin v.x v.y).map fun k => contribFlits (k / 512) (k % 512) 6 o.vals
          | .cell r c => some (contribFlits r c 6 o.vals)).flatten
        let head := BitVec.ofNat 128 ((s.blk.ft + at_ - s.blk.tb1) % 2 ^ 64 * 2 ^ 64 + f.fcnt % 2 ^ 32 * 2 ^ 32)
        taken b ∧
        (s.blk.gridNode = true → b = { d with fus := { d.fus with obs := s.blk.fus.obs ++ l } }) ∧
        (s.blk.gridNode = false → b = { d with bus := { d.bus with
          egress := d.bus.egress ++ (List.range ((cells.length + 30) / 31)).map fun k =>
            s.blk.newPacket 12 2 (s.blk.fld F.FUS_CTRL_GRID_NODE 0) (s.blk.slotMaster m) 0 p 3
              (head :: (cells.drop (31 * k)).take 31) } }) ∧
        d.fus.obs = s.blk.fus.obs ∧
        ((∀ r, r < 8 → s.blk.flag F.CAL_PROJ_PROJ_EN (12 + r) = true → s.blk.fld F.CAL_PROJ_PROJ_CAM (12 + r) ≠ p) →
          d = { s.blk with fus := { s.blk.fus with frames := b.fus.frames } })) ∧
      (s.blk.fld F.MODEL_CFG_KIND m = 2 →
        let a := s.blk.fld F.MODEL_OUT_HI_OUT m * 2 ^ 32 + (s.blk.reg .MODEL_OUT_LO m).toNat
        let gate := fun o w => s.blk.gate (s.blk.unitMaster (s.blk.slotMaster m)) .write (a + o) w
        0x10000000 ≤ a → Writable s.blk (s.blk.slotMaster m) a 4 → gate 0 32 = none → gate 4 32 = none → gate 8 64 = none →
        Completes (.frameInference m p feats words) s fun b =>
          taken b ∧ Stored a (leBytes 4 f.fcnt ++ leBytes 8 f.tFs ++
            ((List.range 13).map fun k => leBytes 4 (BitVec.ofInt 32 (words.getD k 0)).toNat).flatten) s.blk b ∧
          RegsKept s.blk b ∧ b.fus.obs = s.blk.fus.obs)) ∧
    ∀ (e : Fin 6) (port : BitVec 16) (l : List Byte), s.blk.fusRuns = true → s.blk.ethUp e = true →
      port.toNat = s.blk.fld F.FUS_RS_PORT_PORT 0 →
      let w := fun (k n : Nat) => ofLeBytes ((l.drop k).take n)
      let r := w 1 1
      let n := w 4 2
      let ok := 32 ≤ l.length ∧ w 0 1 = 1 ∧ l.length = 32 + 16 * n ∧ 1 ≤ n ∧ n ≤ 88 ∧ w 6 2 / 2 = 0 ∧ w 16 16 = 0 ∧
        (∀ k, k < n → w (32 + 16 * k + 12) 4 / 2 ^ 25 = 0) ∧ (w 6 2 % 2 = 1 ∨ s.blk.tbValid 0 = true) ∧ r < 8 ∧
        s.blk.sensorOn (12 + r) = true
      Completes (.pointPacket e port l) s fun b =>
        (ok →
          let time : Int := if w 6 2 % 2 = 1 then s.blk.tb1 else (w 8 8 : Int) - (s.blk.tb 0 : Int) + (s.blk.tb1 : Int)
          let obs := (List.range n).filterMap fun k => s.blk.pointObs (12 + r) time ((l.drop (32 + 16 * k)).take 16)
          b.fld F.FUS_RS_CNT_ACCEPT r = (s.blk.fld F.FUS_RS_CNT_ACCEPT r + 1) % 65536 ∧
          b.fld F.FUS_RS_GAP_GAP r = (match SMap.get s.blk.fus.rsSeq r none with
            | some q => if (q + 1) % 65536 = w 2 2 then s.blk.fld F.FUS_RS_GAP_GAP r else min (s.blk.fld F.FUS_RS_GAP_GAP r + 1) 65535
            | none => s.blk.fld F.FUS_RS_GAP_GAP r) ∧ SMap.get b.fus.rsSeq r none = some (w 2 2) ∧
          obs.length = ((List.range n).filter fun k => (w (32 + 16 * k + 12) 4).testBit 24).length ∧
          (∀ o ∈ obs, o.sensor = 12 + r) ∧
          b.fus.obs = (if s.blk.gridNode then s.blk.fus.obs ++ obs else s.blk.fus.obs) ∧
          b.fus.inputs = (if s.blk.gridNode = true ∧ s.blk.fusState ≠ 0
            then s.blk.fus.inputs ++ [⟨12 + r, time.toNat, s.blk.tb1, .good⟩] else s.blk.fus.inputs) ∧
          RegsKeptBut (fun q i => i = r ∧ q ∈ [.FUS_RS_CNT, .FUS_RS_GAP]) s.blk b) ∧
        (¬ ok → b.fus = s.blk.fus ∧
          (2 ≤ l.length → r < 8 → b.fld F.FUS_RS_CNT_DISCARD r = min (s.blk.fld F.FUS_RS_CNT_DISCARD r + 1) 65535) ∧
          RegsKeptBut (fun q i => q = .FUS_RS_CNT ∧ i = r ∧ 2 ≤ l.length ∧ r < 8) s.blk b) ∧
        MemKept s.blk b ∧ NoRecord s.blk b

/-- CHANNEL_ASSIGN, CHANNEL_RELEASE, CORRELATOR_DUMP, SIGNAL_FOUND, PULL_IN_LOCK, PULL_IN_TIMEOUT, COAST_ENTRY, COAST_EXIT and COAST_TIMEOUT
complete where correlators and, but for a dump, the baseband run and their condition of R260 holds, each with the next state of R260. C/N0 is counted
low or high from the first dump of a run of such dumps. A free channel takes the first candidate, ANT_A
and the higher elevation first, of those enabled, above the mask and untracked. A dump takes the oscillator values
that waited, delivers seven taps at multiples of TAP_SP, and stops a channel that is to stop; without an answer the deadline is missed. A signal
is found within the Doppler range of R262. On return from COAST PRED_ERR is shown and SLIPS counts exactly where it
exceeds SLIP_LIM. SPECTRUM_SCAN, every 100 ms, engages free notches on the lines that stand NOTCH_DB high, strongest first, lets engaged ones
follow theirs, and raises NOTCHES_FULL once an episode where none is
free; NOTCH_RELEASE frees one low for 1 s. JAM_EVALUATION, every 100 ms, starts an episode, with one record, on 5 evaluations in a row and ends it on 10 clear ones. A channel changes
only its own registers; no memory changes. That a dump may come 20 ns early, that a channel R281 has started in ACQ takes a satellite, and that
a coast without aiding, or a dump without an answer, goes on at the last rate is log 52. -/
def Obligations.GnssChannels : Prop :=
  (∀ (s : State) (c : Fin 384),
    let x := s.blk.chan c
    let aiding := s.blk.flag F.GNSS_STATUS_AIDING 0
    let mine := fun (b : Blk) =>
      RegsKeptBut (fun r i => i = c.val ∧ r ∈ [.CH_STATUS, .CH_DOPPLER, .CH_PHASE]) s.blk b ∧ MemKept s.blk b ∧
        (∀ j, j ≠ c.val → b.chan j = s.blk.chan j) ∧
        { s.blk with regs := b.regs, gnss := { s.blk.gnss with chans := b.gnss.chans } } = b
    let enters := fun (k : Nat) (y : ChanSt) (b : Blk) => b.chState c = k ∧ b.chan c = { y with since := s.blk.tb1 } ∧ mine b
    s.blk.corrOn = true →
    (∀ iq (cn0 : BitVec 8) dop aid osc, s.blk.chState c ≠ 0 → iq.length = 7 → (∀ t, x.dumpAt = some t → t + 999980 ≤ s.blk.tb1) →
      Completes (.correlatorDump c iq cn0 dop aid osc) s fun b =>
        let y := b.chan c
        let sp := max 1 (min 16 (s.blk.fld F.GNSS_MASK_TAP_SP 0))
        mine b ∧
        (x.stop = true → b.chState c = 0 ∧ y = ChanSt.zero) ∧
        (x.stop = false → b.chState c = s.blk.chState c ∧ b.fld F.CH_STATUS_CN0 c = cn0.toNat ∧
          b.reg .CH_DOPPLER c = BitVec.ofInt 32 dop ∧ (y.code, y.carrier) = x.next.getD (x.code, x.carrier) ∧ y.next = (if s.blk.gnssOn then osc else none) ∧
          y.dumpAt = some s.blk.tb1 ∧ y.missAt = (if osc = none ∧ s.blk.gnssOn = true then some (s.blk.tb1 + 800000) else x.missAt) ∧
          y.rate = (match x.next with
            | none => x.rate
            | some v => if s.blk.chState c = 4 then (if aiding = true then aid else x.rate)
              else if aiding = true then v.2 + aid else v.2) ∧
          (let loss := s.blk.fld F.GNSS_MASK_CN0_LOSS 0
           y.lowAt = (if cn0.toNat < loss then some (x.lowAt.getD s.blk.tb1) else none) ∧
             y.highAt = (if loss + 3 ≤ cn0.toNat then some (x.highAt.getD s.blk.tb1) else none)) ∧
          y.dump.length = 7 ∧
          ∀ k, k < 7 → y.dump.getD k (0, 0, 0) = (((k : Int) - 3) * sp, iq.getD k (0, 0)))) ∧
    (s.blk.gnssRuns = true →
    (∀ cands k, bestSat (cands.filter s.blk.qualifies) = some k →
      s.blk.chState c = 0 ∨ (s.blk.chState c = 1 ∧ x.assigned = false) → Completes (.channelAssign c cands) s fun b =>
        enters 1 { ChanSt.zero with assigned := true } b ∧ b.flag F.CH_STATUS_ANT c = k.ant ∧
          b.fld F.CH_STATUS_SIG c = k.sig.val ∧ b.fld F.CH_STATUS_SV c = k.sv.toNat ∧ b.fld F.CH_STATUS_CN0 c = 0) ∧
    (∀ elev : Int, s.blk.chState c ≠ 0 → elev + 2 ≤ s.blk.elevMask →
      Completes (.channelRelease c elev) s (enters 0 { x with assigned := false })) ∧
    (∀ code dop pred, s.blk.chState c = 1 → x.assigned = true → code < codeChips (s.blk.fld F.CH_STATUS_SIG c) * 2 ^ 32 →
      let known := s.blk.navStatus ≠ 0 ∧ s.blk.tbValid 0 = true ∧
        (sigSystem (s.blk.fld F.CH_STATUS_SIG c), s.blk.fld F.CH_STATUS_SV c) ∈ s.blk.gnss.eph
      (known ∧ (dop - pred).natAbs ≤ 50000) ∨ (¬ known ∧ dop.natAbs ≤ 500000) →
      Completes (.signalFound c code dop pred) s fun b =>
        enters 2 { x with code := code, carrier := dop, rate := dop, next := none } b ∧
          b.reg .CH_DOPPLER c = BitVec.ofInt 32 dop) ∧
    (∀ since, s.blk.chState c = 2 → x.since ≤ since → since + 100000000 ≤ s.blk.tb1 →
      Completes (.pullInLock c since) s (enters 3 { x with lockAt := s.blk.tb1 })) ∧
    (s.blk.chState c = 2 → x.since + 2000000000 ≤ s.blk.tb1 → Completes (.pullInTimeout c) s (enters 1 x)) ∧
    (∀ since v a t, s.blk.chState c = 3 → x.lowAt = some t → t ≤ since → x.since ≤ since → since + 20000000 ≤ s.blk.tb1 →
      Completes (.coastEntry c since v a) s (enters 4 { x with sigV := v, sigA := a })) ∧
    (∀ since t, s.blk.chState c = 4 → x.highAt = some t → t ≤ since → x.since ≤ since → since + 20000000 ≤ s.blk.tb1 → Completes (.coastExit c since) s fun b =>
        let e := b.fld F.CH_PHASE_PRED_ERR c
        let slip := 10 * s.blk.fld F.GNSS_COAST_SLIP_LIM 0 < e
        e = min 65535 (predErr x.sigV x.sigA (s.blk.tb1 - x.since)
          (sigKhz (s.blk.fld F.CH_STATUS_SIG c) (s.blk.fld F.CH_STATUS_SV c))) ∧
        (¬ slip → enters 3 { x with lockAt := s.blk.tb1 } b ∧ b.fld F.CH_PHASE_SLIPS c = s.blk.fld F.CH_PHASE_SLIPS c) ∧
        (slip → enters 3 { x with newAmb := true } b ∧
          b.fld F.CH_PHASE_SLIPS c = min (s.blk.fld F.CH_PHASE_SLIPS c + 1) 65535)) ∧
    (s.blk.chState c = 4 →
      x.since + (if aiding = true then max 100 (min 10000 (s.blk.fld F.GNSS_COAST_COAST_MS 0)) else 100) * 1000000 ≤ s.blk.tb1 →
      Completes (.coastTimeout c) s fun b =>
        enters 1 x b ∧ b.fld F.CH_PHASE_SLIPS c = min (s.blk.fld F.CH_PHASE_SLIPS c + 1) 65535))) ∧
  (∀ (b : Blk) (x : Candidate), b.qualifies x = true ↔
    (b.fld F.GNSS_SIG_EN_SIG 0).testBit x.sig.val = true ∧ (b.elevMask : Int) < x.elev ∧
      (x.ant = true → b.flag F.GNSS_CTRL_ANT_B_EN 0 = true) ∧ b.tracked x = false) ∧
  (∀ (l : List Candidate) (x : Candidate), bestSat l = some x →
    x ∈ l ∧ ∀ y ∈ l, (y.ant = false → x.ant = false) ∧ (y.ant = x.ant → y.elev ≤ x.elev)) ∧
  ∀ (s : State) (ant : Bool) (band : Fin 3),
    let i := bandIdx ant band
    let x := s.blk.band i
    let where_ := i / 3 * 2 ^ 31 + i % 3 * 2 ^ 29
    let on := fun (b : Blk) (k : Nat) => b.flag F.NOTCH_ACTIVE (i * 8 + k) = true
    let mine := fun (b : Blk) =>
      RegsKeptBut (fun r j => (r = .NOTCH ∧ j / 8 = i) ∨ (r = .JAM_STAT ∧ j = i) ∨ (r = .GNSS_STATUS ∧ j = 0) ∨ RecReg r j) s.blk b ∧
        MemKept s.blk b ∧ ∀ j, j ≠ i → b.band j = s.blk.band j
    s.blk.frontRuns = true →
    (∀ lines, (∀ t, x.scanAt = some t → t + 100000000 ≤ s.blk.tb1) →
      Completes (.spectrumScan ant band lines) s fun b =>
        let high := 10 * s.blk.fld F.GNSS_JAM_CFG_NOTCH_DB 0
        let new : List SpecLine := (lines.filter fun l => l.notch.isNone && decide (high ≤ l.level)).foldl (fun acc l => insertLine l acc) []
        let free := (List.range 8).filter fun k => !s.blk.flag F.NOTCH_ACTIVE (i * 8 + k)
        (new.map (·.level)).Pairwise (· ≥ ·) ∧ (b.band i).scanAt = some s.blk.tb1 ∧
        (∀ k, k < 8 → on s.blk k → on b k ∧
          (∀ l : SpecLine, (lines.find? fun l => (l.notch.map (·.val)) == some k) = some l →
            b.fld F.NOTCH_FREQ (i * 8 + k) = (BitVec.ofInt 24 l.freq).toNat ∧
            SMap.get (b.band i).low k none =
              (if l.level + 30 < high then some ((SMap.get x.low k none).getD s.blk.tb1) else none)) ∧
          ((lines.find? fun l => (l.notch.map (·.val)) == some k) = none →
            b.reg .NOTCH (i * 8 + k) = s.blk.reg .NOTCH (i * 8 + k) ∧
            SMap.get (b.band i).low k none = some ((SMap.get x.low k none).getD s.blk.tb1))) ∧
        (∀ (j k : Nat) (l : SpecLine), free[j]? = some k → new[j]? = some l →
          on b k ∧ b.fld F.NOTCH_FREQ (i * 8 + k) = (BitVec.ofInt 24 l.freq).toNat ∧ SMap.get (b.band i).low k none = none) ∧
        (∀ j k, free[j]? = some k → new.length ≤ j → ¬ on b k) ∧
        (∀ l : SpecLine, new[free.length]? = some l → x.full = false →
          (b.band i).full = true ∧ OneRecord 536 0x0A 0x02 (where_ + min l.level 0xFFFF) s.blk b) ∧
        (new.length ≤ free.length ∨ x.full = true → (b.band i).full = x.full ∧ NoRecord s.blk b) ∧
        b.fld F.JAM_STAT_NOTCHES i = ((List.range 8).filter fun k => b.flag F.NOTCH_ACTIVE (i * 8 + k)).length ∧ mine b) ∧
    (∀ (k : Fin 8) t, SMap.get x.low k.val none = some t → on s.blk k → t + 1000000000 ≤ s.blk.tb1 →
      Completes (.notchRelease ant band k) s fun b =>
        ¬ on b k ∧ (b.band i).full = false ∧ SMap.get (b.band i).low k.val none = none ∧ NoRecord s.blk b ∧
          RegsKeptBut (fun r j => (r = .NOTCH ∧ j = i * 8 + k.val) ∨ (r = .JAM_STAT ∧ j = i)) s.blk b ∧ MemKept s.blk b) ∧
    ∀ (agc : Int) (sf : BitVec 8), (∀ t, x.evalAt = some t → t + 100000000 ≤ s.blk.tb1) →
      Completes (.jamEvaluation ant band agc sf) s fun b =>
        let bad := (s.blk.fld F.GNSS_JAM_CFG_AGC_JAM 0 : Int) ≤ agc ∨ sf.toNat ≤ s.blk.fld F.GNSS_JAM_CFG_SF_JAM 0
        let jam := fun (b : Blk) (j : Nat) => b.flag F.JAM_STAT_JAMMING j = true
        let y := b.band i
        b.fld F.JAM_STAT_AGC_DB i = (BitVec.ofInt 16 agc).toNat ∧ b.fld F.JAM_STAT_SF i = sf.toNat ∧ y.evalAt = some s.blk.tb1 ∧
        (bad → y.jamN = x.jamN + 1 ∧ y.clearN = 0) ∧ (¬ bad → y.jamN = 0 ∧ y.clearN = x.clearN + 1) ∧
        (jam s.blk i → (jam b i ↔ y.clearN < 10) ∧ NoRecord s.blk b) ∧
        (¬ jam s.blk i → (jam b i ↔ 5 ≤ y.jamN)) ∧
        (¬ jam s.blk i → 5 ≤ y.jamN → b.flag F.GNSS_STATUS_JAMMING 0 = true ∧
          OneRecord 536 0x0A 0x01 (where_ + min sf.toNat 255 * 2 ^ 16 + (BitVec.ofInt 16 agc).toNat) s.blk b) ∧
        (¬ jam s.blk i → y.jamN < 5 → NoRecord s.blk b) ∧
        (jam s.blk i → ¬ jam b i → (b.flag F.GNSS_STATUS_JAMMING 0 = true ↔ ∃ j, j < 6 ∧ jam b j)) ∧ mine b

/-- NAV_SOLUTION, NAV_SNAP, RTCM_FRAME, CORRECTION_EPOCH_CLOSE, TIME_LOCK, HOLDOVER_ENTRY, HOLDOVER_LIMIT, LOCK_RETURN, PPS_SECOND,
PPS_WIDTH_END, NMEA_OUTPUT, GNSS_ENABLE, GNSS_DISABLE and ANTENNA_BIAS_FAULT complete where their condition holds. A solution that is due
and not over 5 ms old becomes the record, its word 0 with V exactly where STATUS is not 0 and HPE at most 500 mm, counts, and
leaves on its stream; a snap copies the record. A frame that is not accepted counts DISCARD; one that is counts ACCEPT, and a multiple-signal message of a station joins
the epoch, once the station's position is known. A lock of 10 s makes TIME_STATE LOCKED and steps or holds TB0; loss gives HOLDOVER with one record; beyond a limit TB0 is not
valid, its slots held, with one record; on return an offset up to 1 ms is slewed away, a larger one makes TB0 not valid with one record. The pulse
starts at a whole second and ends, a datagram leaves per output epoch, a disable stops every channel and loses the lock, and a bias outside 5 to 100 mA sets the
fault bit. The step or hold at a lock, a return withdrawn when the lock is lost again, and seconds and epochs that a step skips are log 52. -/
def Obligations.PositionAndTime : Prop :=
  ∀ (s : State),
    let state := fun (b : Blk) => b.fld F.GNSS_STATUS_TIME_STATE 0
    let only := fun (l : List RegName) (b : Blk) => RegsKeptBut (fun r i => i = 0 ∧ r ∈ l) s.blk b ∧ MemKept s.blk b
    let tb0Lost := fun (b : Blk) => b.tbValid 0 = false ∧ (∀ n, 0 < n → b.tbValid n = s.blk.tbValid n) ∧
      (s.blk.tbValid 0 = true → ∀ k ∈ s.blk.enabledSlots, s.blk.fld F.SLOT_CTRL_TB k = 0 →
        b.flag F.SLOT_STATUS_ARMED k = false ∧ b.flag F.SLOT_STATUS_HELD_INVALID k = true) ∧
      RegsKeptBut (fun r i => (i = 0 ∧ r ∈ [.GNSS_STATUS, .GNSS_HOLD_STAT, .TBU_STATUS]) ∨ r = .SLOT_STATUS ∨ RecReg r i) s.blk b ∧
      MemKept s.blk b
    let toHoldover := fun (err : Nat) (b : Blk) => state b = 2 ∧ b.fld F.GNSS_HOLD_STAT_HOLD_ERR 0 = min err 65535 ∧
      b.fld F.GNSS_HOLD_STAT_HOLD_S 0 = 0 ∧ b.gnss.holdAt = s.blk.tb1 ∧ b.tbu.tb0Hold = none ∧ b.tbu.tb0Jump = none ∧
      b.gnss.timeAt = none ∧ b.tbValid 0 = s.blk.tbValid 0 ∧
      OneRecord 536 0x0B 0x01 (min ((s.blk.tb1 - s.blk.gnss.lockAt) / 1000000000) 0xFFFFFFFF) s.blk b
    let released := fun (b : Blk) => state b = state s.blk ∧ NoRecord s.blk b ∧
      (state s.blk = 2 → b.tbu = { s.blk.tbu with tb0Hold := none, tb0Jump := none }) ∧ (state s.blk ≠ 2 → b.tbu = s.blk.tbu)
    let reaches := fun (g : Nat) (b : Blk) => (s.blk.tb 0 ≤ g → b.tbu.tb0Jump = some g ∧ b.tbu.tb0Hold = none) ∧
      (g < s.blk.tb 0 → b.tbu.tb0Hold = some g ∧ b.tbu.tb0Jump = none)
    let epoch := fun (t : Nat) => t * nmeaRate (s.blk.fld F.GNSS_NMEA_RATE 0) / 1000000000
    (∀ x, s.blk.gnssOn = true → (∀ t, s.blk.gnss.solAt = some t → t + 10000000 ≤ s.blk.tb1) → x.ago ≤ 5000000 →
      Completes (.navSolution x) s fun b =>
        let w := b.gnss.nav.getD 0 0
        let st := s.blk.solStatus x
        let stream := s.blk.fld F.GNSS_NAV_STREAM_STREAM 0
        let entry := (List.range 512).find? fun e => s.blk.flag F.STX_CFG_EN e && s.blk.fld F.STX_CFG_STREAM e == stream
        b.gnss.solAt = some s.blk.tb1 ∧ b.gnss.seq = (s.blk.gnss.seq + 1) % 65536 ∧ b.gnss.nav.length = 16 ∧
          b.gnss.nav = navRecord st (w.getLsbD 27) s.blk.gnss.seq s.blk.corrAge (s.blk.tb 0 - x.ago) (s.blk.atReference x) ∧
          (w.extractLsb' 28 3).toNat = st ∧ (w.extractLsb' 0 16).toNat = s.blk.gnss.seq % 65536 ∧
          (w.extractLsb' 16 8).toNat = min x.nsv 255 ∧ (w.getLsbD 31 = true ↔ 1 ≤ st ∧ x.hpe ≤ 500) ∧
          (w.getLsbD 27 = true ↔ s.blk.flag F.GNSS_CTRL_HEAD_EN 0 = true ∧
            (s.blk.baseOk x = true ∨ ∃ t, s.blk.gnss.headAt = some t ∧ s.blk.tb1 < t + 200000000)) ∧
          (b.flag F.GNSS_STATUS_AIDING 0 = true ↔ x.ins = true ∧ 1 ≤ st) ∧
          (∀ l, x.leap = some l → b.fld F.GNSS_LEAP_LEAP 0 = l % 256 ∧ b.flag F.GNSS_LEAP_LEAP_V 0 = true) ∧
          (∀ e, x.timing = some e → state s.blk ≠ 2 → b.tbu.tb0Err = e) ∧
          b.gnss.fixAt = (if 1 ≤ st ∧ st ≤ 4 then some s.blk.tb1 else s.blk.gnss.fixAt) ∧
          b.gnss.timeAt = (if s.blk.flag F.GNSS_CTRL_EN 0 = true ∧ x.timing ≠ none then some (s.blk.gnss.timeAt.getD s.blk.tb1) else none) ∧
          (entry = none → b.bus = s.blk.bus) ∧
          (∀ e, entry = some e → b.bus.egress = s.blk.bus.egress ++ (s.blk.streamDests e).map (fun d =>
            s.blk.newPacket 5 1 d 536 0 stream 3 ((List.range 4).map (flitOf b.gnss.nav)))) ∧
          RegsKeptBut (fun r i => (i = 0 ∧ (r = .GNSS_STATUS ∨ r = .GNSS_LEAP)) ∨ (r = .STX_SENT ∧ entry = some i)) s.blk b ∧
          MemKept s.blk b) ∧
    (s.blk.aonRuns = true → Completes .navSnap s fun b =>
      (∀ k w, s.blk.gnss.nav[k]? = some w → b.reg .GNSS_NAV k = w) ∧
        RegsKeptBut (fun r i => r = .GNSS_NAV ∧ i < s.blk.gnss.nav.length) s.blk b ∧ MemKept s.blk b ∧ UnitsKept s.blk b) ∧
    (∀ f, s.blk.gnssOn = true → Completes (.rtcmFrame f) s fun b =>
      let discards := b.fld F.GNSS_RTCM_CNT_DISCARD 0 = min (s.blk.fld F.GNSS_RTCM_CNT_DISCARD 0 + 1) 65535 ∧
        b.gnss = s.blk.gnss ∧ only [.GNSS_RTCM_CNT] b
      let ended := ∃ t, s.blk.gnss.epochAt = some t ∧ (s.blk.gnss.final = true ∨ t + 200000000 ≤ s.blk.tb1)
      (rtcmMessage f = none → discards) ∧
      (∀ m, rtcmMessage f = some m →
        let n := rtcmBits m 0 12
        let id := rtcmBits m 12 12
        let known := SMap.get s.blk.gnss.stations id none ≠ none
        let changes := (∃ e ∈ s.blk.gnss.stations, e.2 ≠ none) ∧ s.blk.fld F.GNSS_RTCM_STAT_STATION 0 ≠ id
        (rtcmAccepted n = false → discards) ∧
        (rtcmAccepted n = true →
          b.fld F.GNSS_RTCM_CNT_ACCEPT 0 = (s.blk.fld F.GNSS_RTCM_CNT_ACCEPT 0 + 1) % 65536 ∧
          only [.GNSS_RTCM_CNT, .GNSS_RTCM_STAT] b ∧
          (isMsm n = true → known →
            b.gnss.epoch = (if ended then [] else s.blk.gnss.epoch) ++ [m] ∧
            b.gnss.epochAt = some (if ended then s.blk.tb1 else s.blk.gnss.epochAt.getD s.blk.tb1) ∧
            b.gnss.final = (rtcmBits m 54 1 == 0) ∧ b.gnss.corrAt = (if ended then s.blk.gnss.epochAt else s.blk.gnss.corrAt) ∧
            b.fld F.GNSS_RTCM_STAT_STATION 0 = id ∧ (changes → b.gnss.refix = true) ∧
            (¬ changes → b.gnss.refix = s.blk.gnss.refix ∧ b.gnss.chans = s.blk.gnss.chans)) ∧
          (isMsm n = true → ¬ known →
            b.gnss = { s.blk.gnss with held := s.blk.gnss.held ++ [(id, s.blk.tb1, m)] }) ∧
          (n = 1005 ∨ n = 1006 → SMap.get b.gnss.stations id none = some m ∧ b.fld F.GNSS_RTCM_STAT_STATION 0 = id ∧
            (∀ h ∈ b.gnss.held, h.1 ≠ id) ∧ (∀ h, h.1 ≠ id → (h ∈ b.gnss.held ↔ h ∈ s.blk.gnss.held)) ∧
            (changes → b.gnss.refix = true)) ∧
          (n = 1033 ∨ n = 1230 → b.gnss = s.blk.gnss ∧ only [.GNSS_RTCM_CNT] b)))) ∧
    (∀ t, s.blk.gnss.epochAt = some t → s.blk.gnssOn = true → s.blk.gnss.final = true ∨ t + 200000000 ≤ s.blk.tb1 →
      Completes .correctionEpochClose s fun b =>
        b.gnss = { s.blk.gnss with epoch := [], epochAt := none, final := false, corrAt := some t } ∧ RegsKept s.blk b ∧
          MemKept s.blk b) ∧
    (∀ since g t, s.blk.gnssRuns = true → state s.blk = 0 → s.blk.gnss.timeAt = some t → t ≤ since →
      since + 10000000000 ≤ s.blk.tb1 →
      Completes (.timeLock since g) s fun b =>
        state b = 1 ∧ b.gnss = { s.blk.gnss with lockAt := s.blk.tb1 } ∧ reaches g b ∧ NoRecord s.blk b ∧ only [.GNSS_STATUS] b) ∧
    (∀ err, s.blk.gnssOn = true → Completes (.holdoverEntry err) s fun b =>
      (state s.blk = 1 → toHoldover err b ∧
        RegsKeptBut (fun r i => (i = 0 ∧ r ∈ [.GNSS_STATUS, .GNSS_HOLD_STAT]) ∨ RecReg r i) s.blk b) ∧
      (state s.blk ≠ 1 → released b ∧ RegsKept s.blk b) ∧ MemKept s.blk b) ∧
    (∀ err, s.blk.aonRuns = true → state s.blk = 2 → s.blk.returning = false → Completes (.holdoverLimit err) s fun b =>
        let past := s.blk.fld F.GNSS_HOLD_HOLD_LIM 0 < err ∨ s.blk.fld F.GNSS_HOLD_HOLD_MAX_S 0 < s.blk.holdS
        b.fld F.GNSS_HOLD_STAT_HOLD_ERR 0 = min err 65535 ∧ b.fld F.GNSS_HOLD_STAT_HOLD_S 0 = s.blk.holdS ∧
        (¬ past → state b = 2 ∧ b.tbValid 0 = s.blk.tbValid 0 ∧ NoRecord s.blk b ∧ only [.GNSS_HOLD_STAT] b) ∧
        (past → state b = 0 ∧ tb0Lost b ∧ OneRecord 536 0x0B 0x02 (s.blk.holdS * 65536 + min err 65535) s.blk b)) ∧
    (∀ g, s.blk.gnssRuns = true → state s.blk = 2 → s.blk.returning = false → Completes (.lockReturn g) s fun b =>
        let off : Int := (s.blk.tb 0 : Int) - g
        (off.natAbs ≤ 1000000 → state b = 1 ∧ b.tbu.tb0Err = off * 1000 ∧ b.gnss.lockAt = s.blk.tb1 ∧
          b.tbValid 0 = s.blk.tbValid 0 ∧ NoRecord s.blk b ∧ only [.GNSS_STATUS, .GNSS_HOLD_STAT] b ∧
          (s.blk.tbValid 0 = false → reaches g b) ∧
          (s.blk.tbValid 0 = true → b.tbu.tb0Jump = s.blk.tbu.tb0Jump ∧ b.tbu.tb0Hold = s.blk.tbu.tb0Hold)) ∧
        (1000000 < off.natAbs → state b = 2 ∧ tb0Lost b ∧ reaches g b ∧
          OneRecord 536 0x0B 0x03 (BitVec.ofInt 32 (limited 32 (off.tdiv 1000)).1).toNat s.blk b)) ∧
    (s.blk.aonRuns = true → s.blk.ppsDriven = true → s.blk.gnss.ppsSec < s.blk.tb 0 / 1000000000 →
      s.blk.tbu.tb0Was / 1000000000 < s.blk.tb 0 / 1000000000 → Completes .ppsSecond s fun b =>
        b.ppsOut = true ∧ b.gnss = { s.blk.gnss with pps := true, ppsSec := s.blk.tb 0 / 1000000000 } ∧ RegsKept s.blk b ∧
          MemKept s.blk b) ∧
    (s.blk.aonRuns = true → s.blk.ppsDriven = true →
      s.blk.gnss.ppsSec * 1000000000 + max 1 (min 500 (s.blk.fld F.GNSS_PPS_WIDTH_MS 0)) * 1000000 ≤ s.blk.tb 0 →
      Completes .ppsWidthEnd s fun b => b.ppsOut = false ∧ b.gnss = { s.blk.gnss with pps := false } ∧ RegsKept s.blk b ∧
        MemKept s.blk b) ∧
    (s.blk.gnssRuns = true → s.blk.fld F.GNSS_NMEA_SENT 0 ≠ 0 → epoch s.blk.tbu.tb0Was < epoch (s.blk.tb 0) →
      epoch (s.blk.tb 0) ≠ s.blk.gnss.nmea → Completes .nmeaOutput s fun b =>
        let e := s.blk.fld F.GNSS_NMEA_ETH 0
        let port := s.blk.fld F.GNSS_NMEA_PORT 0
        let utc := if s.blk.tbValid 0 then some s.blk.utcNs.toNat else none
        let out := EthOut.udp ⟨allNodes, port, port, nmeaDatagram ⟨s.blk.gnss.nav, utc, s.blk.fld F.GNSS_RTCM_STAT_STATION 0⟩
          (s.blk.fld F.GNSS_NMEA_SENT 0)⟩
        let open_ := s.blk.flag F.ETH_CTRL_EN e = true ∧ s.blk.ethRuns = true
        b.gnss = { s.blk.gnss with nmea := epoch (s.blk.tb 0) } ∧ RegsKept s.blk b ∧ MemKept s.blk b ∧
          (open_ → s.blk.flag F.ETH_STATUS_LINK e = true → SMap.get b.net.wire e [] = SMap.get s.blk.net.wire e [] ++ [out]) ∧
          (open_ → s.blk.flag F.ETH_STATUS_LINK e = false → SMap.get b.net.ethQ e [] = SMap.get s.blk.net.ethQ e [] ++ [out]) ∧
          (¬ open_ → b.net = s.blk.net)) ∧
    (s.blk.aonRuns = true → Completes .gnssEnable s fun b =>
      let starts := s.blk.flag F.GNSS_CTRL_EN 0 = false ∧ s.blk.flag F.GNSS_CTRL_HOST 0 = true
      b.flag F.GNSS_CTRL_EN 0 = true ∧
        (starts → (∀ c, c < 384 → b.chState c = 1 ∧ b.chan c = { s.blk.chan c with since := s.blk.tb1, stop := false }) ∧
          RegsKeptBut (fun r i => (r = .GNSS_CTRL ∧ i = 0) ∨ r = .CH_STATUS) s.blk b) ∧
        (¬ starts → b.gnss = s.blk.gnss ∧ only [.GNSS_CTRL] b) ∧ MemKept s.blk b) ∧
    (∀ err, s.blk.aonRuns = true → Completes (.gnssDisable err) s fun b =>
      let stops := s.blk.flag F.GNSS_CTRL_EN 0 = true ∧ s.blk.flag F.GNSS_CTRL_HOST 0 = true
      b.flag F.GNSS_CTRL_EN 0 = false ∧
        (stops → (∀ c, c < 384 → s.blk.chState c ≠ 0 → b.chan c = { s.blk.chan c with stop := true }) ∧
          (∀ c, c < 384 → s.blk.chState c = 0 → b.chan c = s.blk.chan c) ∧
          (state s.blk = 1 → toHoldover err b ∧
            RegsKeptBut (fun r i => (i = 0 ∧ r ∈ [.GNSS_CTRL, .GNSS_STATUS, .GNSS_HOLD_STAT]) ∨ RecReg r i) s.blk b) ∧
          (state s.blk ≠ 1 → released b ∧ only [.GNSS_CTRL] b)) ∧
        (¬ stops → b.gnss = s.blk.gnss ∧ only [.GNSS_CTRL] b) ∧ MemKept s.blk b) ∧
    ∀ ant ua, s.blk.aonRuns = true → Completes (.antennaBiasFault ant ua) s fun b =>
      (b.flag (if ant then F.GNSS_STATUS_ANT_B_FLT else F.GNSS_STATUS_ANT_A_FLT) 0 = true ↔ ua < 5000 ∨ 100000 < ua) ∧
        b.flag (if ant then F.GNSS_STATUS_ANT_A_FLT else F.GNSS_STATUS_ANT_B_FLT) 0 =
          s.blk.flag (if ant then F.GNSS_STATUS_ANT_A_FLT else F.GNSS_STATUS_ANT_B_FLT) 0 ∧
        RegsKeptBut (fun r i => r = .GNSS_STATUS ∧ i = 0) s.blk b ∧ MemKept s.blk b ∧ UnitsKept s.blk b

namespace Sys2Proof.Claims

/-- The stretches of time that settling goes through, with the levels of the accrual inputs in each: to every accepted change in turn,
then to the first change that still waits, or to `y`. -/
def stretches (levels : Nat) (x : Pot) : List AccChange → Pot → List (Nat × Pot × Pot)
  | [], y => [(levels, x, y)]
  | c :: l, y => (levels, x, c.pot) :: if c.ok then stretches (putBit levels c.input c.level) c.pot l y else []

/-- From `a` to `b` accrual is settled: with no job nothing changes. With a job every open period takes what lies in the stretches on which
all inputs of its masks are open, accepted changes are gone, a change that waits stays, readings up to there have gone to the cells,
and, where no change waits, AREA and HARV show the total of the job. -/
def Settled (a b : Blk) : Prop :=
  let u := a.yld
  let am := a.fld F.YLD_ACC_AREA_MASK 0
  let mm := a.fld F.YLD_ACC_MASS_MASK 0
  let st := stretches u.levels u.settled u.changes u.pot
  let sum := fun (p : Period) => st.foldl (fun p g => p.add (g.1 &&& am == am) (g.1 &&& mm == mm) g.2.1 g.2.2) p
  (a.jobState = 0 → b = a) ∧
  (a.jobState ≠ 0 →
    b.yld.hour = sum u.hour ∧ b.yld.day = sum u.day ∧ b.yld.total = sum u.total ∧
    b.yld.changes = u.changes.dropWhile (·.ok) ∧
    b.yld.levels = (u.changes.takeWhile (·.ok)).foldl (fun v c => putBit v c.input c.level) u.levels ∧
    b.yld.settled = ((u.changes.dropWhile (·.ok)).head?.map (·.pot)).getD u.pot ∧
    b.yld.massQ = u.massQ.filter (fun x => decide (b.yld.settled.at_ ≤ x.at_)) ∧
    b.yld.moistQ = u.moistQ.filter (fun x => decide (b.yld.settled.at_ ≤ x.at_)) ∧
    ((∀ c ∈ u.changes, c.ok = true) → b.reg .YLD_AREA 0 = BitVec.ofNat 32 b.yld.total.area10 ∧
      b.reg .YLD_HARV 0 = BitVec.ofNat 32 b.yld.total.harv10 ∧
      b.reg .YLD_DRY 0 = BitVec.ofInt 32 (b.dry10 b.yld.total)) ∧
    RegsKeptBut (fun r i => i = 0 ∧ r ∈ [.YLD_AREA, .YLD_DRY, .YLD_HARV]) a b ∧
    { a with regs := b.regs, yld := { u with
        hour := b.yld.hour, day := b.yld.day, total := b.yld.total, settled := b.yld.settled, levels := b.yld.levels,
        changes := b.yld.changes, cells := b.yld.cells, nextCell := b.yld.nextCell, massQ := b.yld.massQ,
        moistQ := b.yld.moistQ } } = b)

/-- The ledger, its held records, SEQ, FULL and LOST stand in `b` as in `c`. -/
def LedgerAs (c b : Blk) : Prop :=
  b.jrn.ledger = c.jrn.ledger ∧ b.yld.held = c.yld.held ∧ b.reg .YLD_SEQ 0 = c.reg .YLD_SEQ 0 ∧
    b.flag F.YLD_STATUS_FULL 0 = c.flag F.YLD_STATUS_FULL 0 ∧ b.reg .YLD_CNT 0 = c.reg .YLD_CNT 0

/-- From `a` to `b` a checkpoint enters the journal, with the job, its state and SEQ as `b` has them. -/
def Checkpointed (a b : Blk) : Prop :=
  b.yld.checkAt = a.tb1 ∧ ∃ e, b.jrn.checks = a.jrn.checks.append a.runSeq a.tb1 e ∧ e.length = 184 ∧
    (checkOf e).1.job = b.yld.job.toNat ∧ (checkOf e).1.state = b.jobState ∧ (checkOf e).1.at1 = a.tb1 ∧
    (checkOf e).2 = (b.reg .YLD_SEQ 0).toNat

/-- The records of the module, its faults log and the registers of a record stand in `b` as in `c`. -/
def RecordsAs (c b : Blk) : Prop :=
  b.mod = c.mod ∧ b.jrn.faults = c.jrn.faults ∧ b.reg .SYS_FAULT_LATCH 0 = c.reg .SYS_FAULT_LATCH 0 ∧
    b.reg .FAB_FLTQ 0 = c.reg .FAB_FLTQ 0

/-- A day period opens from `a` to `b`: with TB2 valid DAYEND is TB1 at the next local midnight; else the period has no clock, DAYEND lies
86 400 s off, and one record is raised. -/
def DayOpens (a b : Blk) : Prop :=
  let ofs : Int := a.sfld F.YLD_DAY_UTC_OFS_MIN 0 * 60000000000
  b.yld.day.open1 = a.tb1 ∧ b.yld.day.open2 = a.tb 2 ∧ b.yld.day.noClock = !a.tbValid 2 ∧ b.yld.day.disc = false ∧
    (a.tbValid 2 = true → RecordsAs a b ∧ ∃ k : Int,
      (a.tb 2 : Int) < k * 86400000000000 - ofs ∧ k * 86400000000000 - ofs ≤ a.tb 2 + 86400000000000 ∧
        b.reg64 .YLD_DAYEND_LO .YLD_DAYEND_HI 0 = ((a.tb1 : Int) + (k * 86400000000000 - ofs - a.tb 2)).toNat % 2 ^ 64) ∧
    (a.tbValid 2 = false → RecordsAs (a.raise 510 0x13 0x04 b.yld.job.toNat) b ∧
      b.reg64 .YLD_DAYEND_LO .YLD_DAYEND_HI 0 = (a.tb1 + 86400000000000) % 2 ^ 64)

end Sys2Proof.Claims

/-- MASS_FLOW_READ, CELL_CLOSE, EXPORT_START, EXPORT_DONE, ACCRUAL_ACCEPT and JOURNAL_FLUSH complete where their condition holds. A reading
enters the history with travel, swath and navigation record. It is queued for the ground cut a delay ago, and during a job mass × (10 000 − moisture)
accrues; an invalid word is replaced by the last valid one for 1 s (mass) or 60 s (moisture), then by 0 or M_STD; then accrual is settled: each
period takes what lies between accepted changes where its inputs are open. A cell that is due leaves the cells as a record of 32
bytes in the open tile, whose slot is taken as it begins, or closes the tile with CRC-32 where it makes it full. An export takes the job, is ignored while one runs, and ends
with DONE and its length, or length 0 where it does not fit; its files, each behind 64 bytes with name and length, stand in the buffer as far as it goes where the writes are
admitted. A level that has held 100 ms is accepted, its changes with it. A region of the journal whose page has waited 1 s writes it, but for one of the ledger
that would overwrite records not acknowledged. No memory changes but the export buffer. Texts that ISO 11783-10 leaves open are free, log 27; that an export
stops at EXP_SIZE is log 53. -/
def Obligations.YieldMap : Prop :=
  (∀ b : Blk, Settled b b.settleAll) ∧
  (∀ (s : State),
    let u := s.blk.yld
    let now := s.blk.tb1
    let job := s.blk.jobState ≠ 0
    (s.blk.yldRuns = true → (∀ t, u.readAt = some t → t + 10000000 ≤ now) →
      Completes .massFlowRead s fun b =>
        let mf := heldValue (s.blk.sample (s.blk.fld F.YLD_SRC_MF_CH 0)) now 1000000000 u.mass
        let mo := if s.blk.flag F.YLD_SRC_MO_EN 0 = true
          then heldValue (s.blk.sample (s.blk.fld F.YLD_SRC_MO_CH 0)) now 60000000000 u.moist else (none, true, u.moist)
        let wet := mf.1.getD 0
        let moist := mo.1.getD (s.blk.fld F.YLD_MOIST_M_STD 0 : Int)
        let swath := if s.blk.flag F.FUS_SWATH_V 0 = true ∧ s.blk.gridOld = false then some (s.blk.fld F.FUS_SWATH_WIDTH_MM 0) else none
        let h : Hist := ⟨now, s.blk.tb 0, s.blk.tbValid 0, s.blk.tb 3, u.pot.travel, swath, s.blk.navRec⟩
        let c := { s.blk with yld := { u with
          readAt := some now, mass := mf.2.2, moist := mo.2.2,
          hist := u.hist.filter (fun x => decide (now < x.at_ + 32000000000)) ++ [h],
          massQ := if job ∧ s.blk.delayNs ≤ now then u.massQ ++ [⟨now - s.blk.delayNs, wet, mf.2.1⟩] else u.massQ,
          moistQ := if job ∧ s.blk.moistDelayNs ≤ now then u.moistQ ++ [⟨now - s.blk.moistDelayNs, mo.1⟩] else u.moistQ,
          pot := if job then { u.pot with dry := u.pot.dry + wet * (10000 - moist) } else u.pot } }
        Settled c b ∧ MemKept s.blk b) ∧
    (∀ c, s.blk.yldRuns = true → s.blk.cellDue = some c → Completes .cellClose s fun b =>
      let tile := u.tile ++ [s.blk.cellRecord c]
      let slot := if u.tile = [] then s.blk.fld F.HPC_FIELD_SLOT 0 else u.tileSlot
      let cells := u.cells.filter (fun x => x.seq != c.seq)
      (tile.length < 1022 → b = { s.blk with yld := { u with tile := tile, tileSlot := slot, cells := cells } }) ∧
      (1022 ≤ tile.length → ∃ h : List Byte, h.length = 60 ∧ (h.drop 4).take 4 = leBytes 4 u.job.toNat ∧ (h.drop 16).take 8 = leBytes 8 now ∧
        let e := h ++ leBytes 4 (crc32 (h ++ leBytes 4 0 ++ tile.flatten)).toNat ++ tile.flatten
        b.jrn = { s.blk.jrn with tiles := s.blk.jrn.tiles.append s.blk.runSeq now e } ∧
        b = { s.blk with yld := { u with tile := [], tileSlot := slot, cells := cells }, jrn := b.jrn })) ∧
    (s.blk.yldRuns = true → Completes .exportStart s fun b =>
      (s.blk.flag F.YLD_STATUS_EXPORT_BUSY 0 = false → b.flag F.YLD_STATUS_EXPORT_BUSY 0 = true ∧
        { s.blk with regs := b.regs, yld := { u with exporting := s.blk.reg .YLD_JOB 0 } } = b ∧
        RegsKeptBut (fun r i => r = .YLD_STATUS ∧ i = 0) s.blk b) ∧
      (s.blk.flag F.YLD_STATUS_EXPORT_BUSY 0 = true → b = s.blk)) ∧
    (s.blk.yldRuns = true → s.blk.flag F.YLD_STATUS_EXPORT_BUSY 0 = true → Completes .exportDone s fun b =>
      let tiles := s.blk.jrn.tiles.all.filter fun e => ofLeBytes ((e.drop 4).take 4) == u.exporting.toNat
      let files := taskFiles u.exporting (s.blk.jrn.ledger.all ++ u.held) tiles
      let out := (files.map exportFile).flatten
      let size := (s.blk.reg .YLD_EXP_SIZE 0).toNat
      let part := out.take size
      let at_ := s.blk.fld F.YLD_EXP_HI_EXP_ADDR 0 * 2 ^ 32 + (s.blk.reg .YLD_EXP_LO 0).toNat
      b.flag F.YLD_STATUS_EXPORT_BUSY 0 = false ∧ b.flag F.YLD_STATUS_EXPORT_DONE 0 = true ∧
        b.reg .YLD_EXP_LEN 0 = (if out.length ≤ size then BitVec.ofNat 32 out.length else 0) ∧
        files.map (·.1) = [ascii "TASKDATA.XML", ascii "TLG00001.XML", ascii "TLG00001.BIN"] ∧
        (0x10000000 ≤ at_ → Writable s.blk 510 at_ ((part.length + 15) / 16) →
          Stored at_ part s.blk b ∧ NoRecord s.blk b ∧ b.yld = u ∧
            RegsKeptBut (fun r i => i = 0 ∧ r ∈ [.YLD_STATUS, .YLD_EXP_LEN]) s.blk b)) ∧
    (∀ (i : Fin 8) t, SMap.get u.since i.val none = some t → s.blk.yldRuns = true → t + 100000000 ≤ now →
      Completes (.accrualAccept i) s fun b =>
        ((b.fld F.YLD_ACC_STATE_ACCEPTED 0).testBit i = (s.blk.fld F.YLD_ACC_STATE_RAW 0).testBit i) ∧
        (∀ j, j ≠ i.val → (b.fld F.YLD_ACC_STATE_ACCEPTED 0).testBit j = (s.blk.fld F.YLD_ACC_STATE_ACCEPTED 0).testBit j) ∧
        SMap.get b.yld.since i.val none = none ∧
        (∃ c : Blk, Settled c b ∧ c.yld = { u with
          since := c.yld.since, changes := u.changes.map fun x => if x.input = i.val then { x with ok := true } else x } ∧
          { s.blk with regs := c.regs, yld := c.yld } = c ∧
          (∀ j, j ≠ i.val → SMap.get c.yld.since j none = SMap.get u.since j none) ∧
          RegsKeptBut (fun r k => k = 0 ∧ r = .YLD_ACC_STATE) s.blk c)) ∧
    (s.blk.aonRuns = true → Completes .journalFlush s fun b =>
      let aged := fun (x y : JRegion) =>
        (∀ t, x.bufAt = some t → t + 1000000000 ≤ now → y.buf = [] ∧ y = x.flush s.blk.runSeq) ∧
          (∀ t, x.bufAt = some t → now < t + 1000000000 → y = x) ∧ (x.bufAt = none → y = x)
      (s.blk.ledgerFull = true → b.jrn.ledger = s.blk.jrn.ledger) ∧ (s.blk.ledgerFull = false → aged s.blk.jrn.ledger b.jrn.ledger) ∧
        b.flag F.YLD_STATUS_FULL 0 = b.ledgerFull ∧ RegsKeptBut (fun r i => r = .YLD_STATUS ∧ i = 0) s.blk b ∧
        aged s.blk.jrn.faults b.jrn.faults ∧ aged s.blk.jrn.tiles b.jrn.tiles ∧
        aged s.blk.jrn.fields b.jrn.fields ∧ aged s.blk.jrn.checks b.jrn.checks ∧ { s.blk with jrn := b.jrn, regs := b.regs } = b)) ∧
  (∀ (b : Blk) (c : MapCell), (b.cellRecord c).length = 32 ∧
    ofLeBytes ((b.cellRecord c).take 4) % 2 ^ 24 = c.seq % 2 ^ 24 ∧
    ((ofLeBytes ((b.cellRecord c).take 4)).testBit 29 = c.mfInv) ∧
    ((ofLeBytes ((b.cellRecord c).take 4)).testBit 31 = true → c.mfInv = false ∧ c.moistInv = false ∧ c.moistN ≠ 0) ∧
    ofLeBytes (((b.cellRecord c).drop 4).take 2) = c.len / 1000 % 65536) ∧
  (∀ f : List Byte × List Byte, f.1.length ≤ 32 → (exportFile f).take f.1.length = f.1 ∧
    ((exportFile f).drop 32).take 4 = leBytes 4 f.2.length ∧ (exportFile f).drop 64 = f.2) ∧
  ∀ (w : Word) (now hold t : Nat) (x : Int),
    (sampleValid w = true → ∀ last, heldValue w now hold last = (some (sampleValue w), false, some (sampleValue w, now))) ∧
    (sampleValid w = false → heldValue w now hold (some (x, t)) = (if now ≤ t + hold then some x else none, true, some (x, t))) ∧
    (sampleValid w = false → heldValue w now hold none = (none, true, none))

/-- JOB_OPEN, JOB_CLOSE, JOB_CLOSE_COMPLETE, HOUR_CLOSE, DAY_CLOSE and CHECKPOINT complete where the ledger runs. A job is refused where one
is not closed or DELAY_MS is 0, once the ledger has been taken up; else it opens with a JOB_OPEN record, fresh periods and a checkpoint, and a day without a valid TB2 raises one record.
A close drains for DELAY_MS + 2 s and then writes the records of the three periods and JOB_CLOSE, and leaves no cell and no open tile. An hour closes after 3600 s, a
day at its boundary after an hour that is due, each with one record, and a new period opens, empty where no change waits. A checkpoint writes no ledger record. A
ledger record is 64 bytes, ends in the CRC-32 of the rest, counts SEQ, and enters the journal, or AON where the region is full, or counts LOST
where AON holds 64. A ledger that is taken up where a job was left open closes its hour and day at the last checkpoint and raises one record.
No command of these changes memory. That the close comes before an hour and the hour before a day on one tick is R293; that a change not accepted at a close goes with the
job, that openings and closings write a checkpoint, and what a new period owes are the model's choice, log 53. -/
def Obligations.HarvestLedgerJobs : Prop :=
  (∀ (s : State), s.blk.yldRuns = true →
    let now := s.blk.tb1
    let now2 := s.blk.tb 2
    let job := s.blk.reg .YLD_JOB 0
    (Completes .jobOpen s fun b =>
      let a := s.blk.ledgerBegin
      (a.jobState ≠ 0 ∨ a.fld F.YLD_DELAY_DELAY_MS 0 = 0 →
        b.flag F.YLD_STATUS_JOB_REFUSED 0 = true ∧ { a with regs := b.regs } = b ∧
          RegsKeptBut (fun r i => r = .YLD_STATUS ∧ i = 0) a b) ∧
      (a.jobState = 0 → a.fld F.YLD_DELAY_DELAY_MS 0 ≠ 0 →
        let r := { a with yld := { a.yld with job := job } }.ledgerRec 2 0 0 now now now2 now2 0 0 0
        b.jobState = 1 ∧ b.yld.job = job ∧ LedgerAs r b ∧ b.reg .YLD_AREA 0 = 0 ∧ b.reg .YLD_HARV 0 = 0 ∧
          b.yld.hour = .fresh now now2 false ∧ b.yld.day = .fresh now now2 (!s.blk.tbValid 2) ∧
          b.yld.total = .fresh now now2 (!s.blk.tbValid 2) ∧ b.yld.levels = a.fld F.YLD_ACC_STATE_ACCEPTED 0 ∧
          b.yld.cells = [] ∧ b.yld.tile = [] ∧ b.yld.massQ = [] ∧ b.yld.moistQ = [] ∧ b.yld.settled = a.yld.pot ∧
          DayOpens a b ∧ Checkpointed a b ∧
          RegsKeptBut (fun r i => RecReg r i ∨ i = 0 ∧ r ∈ [.YLD_STATUS, .YLD_SEQ, .YLD_CNT, .YLD_AREA, .YLD_DRY, .YLD_HARV,
            .YLD_DAYEND_LO, .YLD_DAYEND_HI]) a b ∧ MemKept a b)) ∧
    (s.blk.jobState = 1 → Completes .jobClose s fun b =>
      let c := s.blk.settleAll
      b.jobState = 2 ∧ b.yld = { c.yld with closeAt := now + s.blk.delayNs + 2000000000, checkAt := now } ∧
        LedgerAs c b ∧ RecordsAs s.blk b ∧ Checkpointed s.blk b ∧
        RegsKeptBut (fun r i => i = 0 ∧ r = .YLD_STATUS) c b ∧ MemKept s.blk b) ∧
    (s.blk.jobState = 2 → s.blk.yld.closeAt ≤ now → Completes .jobCloseComplete s fun b =>
      let c := { s.blk with yld := { s.blk.yld with changes := s.blk.yld.changes.filter (·.ok) } }.settleAll
      let h := c.yld.hour
      let d := c.yld.day
      let p := c.yld.total
      let rec1 := fun (kind : Nat) (x : Period) (r : Blk) =>
        r.ledgerRec 1 kind (ledgerFlags false x.noClock x.disc) x.open1 now x.open2 now2 x.area10 (c.dry10 x) x.harv10
      let r := (rec1 2 p (rec1 1 d (rec1 0 h c))).ledgerRec 3 2 (ledgerFlags false p.noClock p.disc) p.open1 now p.open2 now2
        p.area10 (c.dry10 p) p.harv10
      b.jobState = 0 ∧ LedgerAs r b ∧ b.reg .YLD_SEQ 0 = s.blk.reg .YLD_SEQ 0 + 4 ∧ b.yld.cells = [] ∧ b.yld.tile = [] ∧
        b.yld.changes = [] ∧ RecordsAs s.blk b ∧ Checkpointed s.blk b ∧
        RegsKeptBut (fun r i => i = 0 ∧ r ∈ [.YLD_STATUS, .YLD_SEQ, .YLD_CNT, .YLD_AREA, .YLD_DRY, .YLD_HARV]) s.blk b ∧
        MemKept s.blk b) ∧
    (s.blk.hourDue = true → Completes .hourClose s fun b =>
      let c := s.blk.settleAll
      let p := c.asAccepted.yld.hour
      LedgerAs (c.ledgerRec 1 0 (ledgerFlags false p.noClock p.disc) p.open1 now p.open2 now2 p.area10 (c.dry10 p) p.harv10) b ∧
        b.reg .YLD_SEQ 0 = s.blk.reg .YLD_SEQ 0 + 1 ∧ b.yld.hour = .owing c.yld.hour p now now2 false ∧
        ((∀ x ∈ s.blk.yld.changes, x.ok = true) → b.yld.hour = .fresh now now2 false) ∧
        b.yld.day = c.yld.day ∧ b.yld.total = c.yld.total ∧ b.yld.cells = c.yld.cells ∧
        b.jobState = s.blk.jobState ∧ RecordsAs s.blk b ∧ Checkpointed s.blk b ∧
        RegsKeptBut (fun r i => i = 0 ∧ r ∈ [.YLD_STATUS, .YLD_SEQ, .YLD_CNT, .YLD_AREA, .YLD_DRY, .YLD_HARV]) s.blk b ∧
        MemKept s.blk b) ∧
    (s.blk.dayDue = true → Completes .dayClose s fun b =>
      let c := s.blk.hourClose.settleAll
      let p := c.asAccepted.yld.day
      LedgerAs (c.ledgerRec 1 1 (ledgerFlags false p.noClock p.disc) p.open1 now p.open2 now2 p.area10 (c.dry10 p) p.harv10) b ∧
        b.reg .YLD_SEQ 0 = s.blk.reg .YLD_SEQ 0 + (if s.blk.hourDue = true then 2 else 1) ∧
        b.yld.day = .owing c.yld.day p now now2 (!s.blk.tbValid 2) ∧
        ((∀ x ∈ s.blk.yld.changes, x.ok = true) → b.yld.day = .fresh now now2 (!s.blk.tbValid 2)) ∧
        (s.blk.hourDue = false → s.blk.hourClose = s.blk) ∧
        b.yld.hour = c.yld.hour ∧ b.yld.total = c.yld.total ∧ b.yld.cells = c.yld.cells ∧ b.jobState = s.blk.jobState ∧
        DayOpens s.blk b ∧ (s.blk.hourDue = false → Checkpointed s.blk b) ∧
        RegsKeptBut (fun r i => RecReg r i ∨ i = 0 ∧ r ∈ [.YLD_STATUS, .YLD_SEQ, .YLD_CNT, .YLD_AREA, .YLD_DRY, .YLD_HARV,
          .YLD_DAYEND_LO, .YLD_DAYEND_HI]) s.blk b ∧ MemKept s.blk b) ∧
    (s.blk.jobState ≠ 0 → s.blk.yld.checkAt + 1000000000 ≤ now → Completes .checkpoint s fun b =>
      let c := s.blk.settleAll
      b.yld = { c.yld with checkAt := now } ∧ LedgerAs s.blk b ∧ RecordsAs s.blk b ∧ Checkpointed s.blk b ∧
        b.jrn.tiles = s.blk.jrn.tiles ∧ RegsKept c b ∧ MemKept s.blk b)) ∧
  (∀ b : Blk, (b.hourDue = true ↔ b.jobState ≠ 0 ∧ b.jobDue = false ∧ b.yld.hour.open1 + 3600000000000 ≤ b.tb1) ∧
    (b.dayDue = true ↔ b.jobState ≠ 0 ∧ b.jobDue = false ∧ b.reg64 .YLD_DAYEND_LO .YLD_DAYEND_HI 0 ≤ b.tb1 ∧ b.yld.dayFrom ≤ b.tb1) ∧
    (b.jobDue = true ↔ b.jobState = 2 ∧ b.yld.closeAt ≤ b.tb1)) ∧
  (∀ (b : Blk) (type kind flags o1 c1 o2 c2 area : Nat) (dry : Int) (harv : Nat),
    let body := ledgerBody type kind flags (b.reg .YLD_SEQ 0).toNat b.yld.job o1 c1 o2 c2 area dry harv
    let e := body ++ leBytes 4 (crc32 body).toNat
    let c := b.ledgerRec type kind flags o1 c1 o2 c2 area dry harv
    e.length = 64 ∧ ledgerSeq e = (b.reg .YLD_SEQ 0).toNat ∧ ledgerJob e = b.yld.job.toNat ∧
      (type < 256 → ledgerType e = type) ∧
      c.reg .YLD_SEQ 0 = b.reg .YLD_SEQ 0 + 1 ∧ c.flag F.YLD_STATUS_FULL 0 = c.ledgerFull ∧ c.yld.tickSeq = some (b.tb1, b.seqBefore) ∧
      (b.ledgerFull = false → c.jrn = { b.jrn with ledger := b.jrn.ledger.append b.runSeq b.tb1 e } ∧
        c.yld = { b.yld with tickSeq := c.yld.tickSeq } ∧ c.reg .YLD_CNT 0 = b.reg .YLD_CNT 0) ∧
      (b.ledgerFull = true → b.yld.held.length < 64 → c.jrn = b.jrn ∧
        c.yld = { b.yld with held := b.yld.held ++ [e], tickSeq := c.yld.tickSeq } ∧ c.reg .YLD_CNT 0 = b.reg .YLD_CNT 0) ∧
      (b.ledgerFull = true → 64 ≤ b.yld.held.length → c.jrn = b.jrn ∧ c.yld = { b.yld with tickSeq := c.yld.tickSeq } ∧
        c.fld F.YLD_CNT_LOST 0 = min (b.fld F.YLD_CNT_LOST 0 + 1) 65535)) ∧
  ∀ b : Blk, let k := b.jobKept.1
    (b.yld.begun = true → b.ledgerBegin = b) ∧
    (b.yld.begun = false → k.state = 0 → b.ledgerBegin = { b with yld := { b.yld with begun := true } }) ∧
    (b.yld.begun = false → k.state ≠ 0 →
      let c := b.ledgerBegin
      c.yld.begun = true ∧ c.yld.job = BitVec.ofNat 32 k.job ∧ c.yld.total = k.total ∧ c.reg .YLD_SEQ 0 = b.reg .YLD_SEQ 0 + 3 ∧
        c.yld.hour = .fresh b.tb1 (b.tb 2) false ∧ c.yld.closeAt = b.tb1 + b.delayNs + 2000000000 ∧
        c.mod = (let d := b.raise 510 0x13 0x03 k.job
          if b.tbValid 2 = true then d else d.raise 510 0x13 0x04 (BitVec.ofNat 32 k.job).toNat).mod ∧ MemKept b c)

/-- TRAINING_ATTEMPT, TRAIN_FLIT, LINK_UP, LINK_DOWN, CREDIT_FLIT, CREDIT_SEND, IDLE_FLIT, CRC_EPISODE_END, PORT_ENABLE, PORT_DISABLE and
PACKET_FORWARD complete where their condition holds. A DOWN port that is due goes to TRAINING with a TRAIN flit; a TRAIN flit whose CRC holds gives partner
and port, and one with this node's own address puts the port DOWN with one record; a port that has trained 10 µs comes UP with full credits; a
failed one goes DOWN, with a record and without credits where it was UP. Credits received are added by class; those owed are
sent, 8 of a class or 26 ns old, and owed no more. Disabling cuts the link: no packet of this node waits there, and requests sent there complete NAK_PORT_DOWN.
A header that fails its CRC is counted and not forwarded; a sound one waits, marked where its payload fails. The packet an egress starts has credit for all its flits and
the first class of R312 among the ready ones, or VC2 REQ after 16 starts, round-robin among ingresses; it leaves its queue with HOPS one up, and takes its
credits. It keeps the PCRC it came with, a SYNC takes FT and a new one, and HCRC is written anew; a sound FAULT packet leaves as its port's coalescing table
makes it. Sync errors count. No memory changes, but that packets which a disabled port has stranded may be delivered. The alignment marker is free, log 55; which
port a dropped packet counts at, and that a damaged FAULT packet passes no table, is log 54. -/
def Obligations.FabricLinksAndForwarding : Prop :=
  (∀ (s : State) (p : Fin 8),
    let x := s.blk.port p
    let regs := fun (l : List RegName) (b : Blk) => RegsKeptBut (fun r i => (r ∈ l ∧ i = p.val) ∨ RecReg r i) s.blk b ∧ MemKept s.blk b
    let others := fun (b : Blk) => ∀ q, q ≠ p.val → b.port q = s.blk.port q
    let topo := some (s.blk.fab.topoDue.getD s.blk.tb1)
    let status := fun (l : List RegName) (b : Blk) => MemKept s.blk b ∧ (∀ q, q < 8 → q ≠ p.val → b.portState q = s.blk.portState q) ∧
      RegsKeptBut (fun r i => (r ∈ l ∧ i = p.val) ∨ r = .PORT_STATUS ∨ (r = .FAB_STATUS ∧ i = 0) ∨ RecReg r i) s.blk b
    (s.blk.linkRuns p = true →
      (s.blk.portState p = 1 → (∀ t, x.trainAt = some t → t + 1000000 ≤ s.blk.tb1) →
        Completes (.trainingAttempt p) s fun b =>
          b.portState p = 2 ∧ (∃ m, m < 16 ∧ b.port p = { x with
            trainAt := some s.blk.tb1, trained := false,
            wire := x.wire ++ [.train p s.blk.node m (s.blk.fld F.PORT_STATUS_PRESET p)] }) ∧
            b.fab.topoDue = topo ∧ others b ∧ NoRecord s.blk b ∧ regs [.PORT_STATUS] b) ∧
      (∀ (sport : Fin 8) (snode : BitVec 9) (marker : BitVec 4) (preset : BitVec 2) (crc : BitVec 16),
        let good := crc = controlCrc 2 (trainBits sport.val snode.toNat marker.toNat preset.toNat)
        s.blk.portState p = 2 → Completes (.trainFlit p sport snode marker preset crc) s fun b =>
          (¬ good → b = s.blk) ∧
          (good → b.fld F.PORT_STATUS_PARTNER p = snode.toNat ∧ b.fld F.PORT_STATUS_PARTNER_PORT p = sport.val ∧
            others b ∧ regs [.PORT_STATUS] b ∧
            (snode.toNat ≠ s.blk.node → b.portState p = 2 ∧ b.port p = { x with trained := true } ∧ NoRecord s.blk b) ∧
            (snode.toNat = s.blk.node → b.portState p = 1 ∧ b.fab = { s.blk.fab with topoDue := topo } ∧
              OneRecord 595 0x0C 0x03 (p.val * 2 ^ 29 + snode.toNat * 2 ^ 20) s.blk b))) ∧
      (s.blk.portState p = 2 → x.trained = true → (∀ t, x.trainAt = some t → t + 10000 ≤ s.blk.tb1) →
        Completes (.linkUp p) s fun b =>
          b.portState p = 3 ∧ b.port p = { x with
            credits := fullCredits, owed := [0, 0, 0, 0, 0, 0], owedAt := none, skips := 0, turn := [8, 8, 8, 8, 8, 8] } ∧
          b.fab.topoDue = topo ∧ others b ∧ NoRecord s.blk b ∧ status [] b) ∧
      (∀ sync, s.blk.portState p = 3 → Completes (.linkDown p sync) s fun b =>
        b.portState p = 1 ∧ b.flag F.PORT_STATUS_PARENT p = false ∧ b.flag F.PORT_STATUS_UP_LINK p = false ∧
          b.fld F.PORT_ERR_SYNC p = min (s.blk.fld F.PORT_ERR_SYNC p + sync) 65535 ∧ b.port p = { x with
            credits := [0, 0, 0, 0, 0, 0], owed := [0, 0, 0, 0, 0, 0], owedAt := none, heard := none, trainAt := none } ∧
          b.fab.topoDue = topo ∧ others b ∧ status [.PORT_ERR] b ∧
          OneRecord 595 0x0C 0x01 (p.val * 2 ^ 29 + s.blk.fld F.PORT_STATUS_PARTNER p * 2 ^ 20) s.blk b) ∧
      (∀ sync, s.blk.portState p = 2 → Completes (.linkDown p sync) s fun b =>
        b.portState p = 1 ∧ b.fld F.PORT_ERR_SYNC p = min (s.blk.fld F.PORT_ERR_SYNC p + sync) 65535 ∧
          b.fab = { s.blk.fab with topoDue := topo } ∧ NoRecord s.blk b ∧ regs [.PORT_STATUS, .PORT_ERR] b) ∧
      (∀ (n : List Nat) crc, s.blk.frozen = false → s.blk.portUp p = true → n.length = 6 → (∀ v ∈ n, v < 256) → Completes (.creditFlit p n crc) s fun b =>
        (crc ≠ controlCrc 1 (creditBits n) → b = s.blk) ∧
        (crc = controlCrc 1 (creditBits n) →
          (b.port p).credits.length = x.credits.length ∧
          (∀ i, i < x.credits.length → (b.port p).credits.getD i 0 = x.credits.getD i 0 + n.getD i 0) ∧
          b = s.blk.setPort p { x with credits := (b.port p).credits })) ∧
      (s.blk.frozen = false → s.blk.portUp p = true → (∃ n ∈ x.owed, 0 < n) → (∃ n ∈ x.owed, 8 ≤ n) ∨ (∃ t, x.owedAt = some t ∧ t + 26 ≤ s.blk.tb1) →
        Completes (.creditSend p) s fun b =>
          b = s.blk.setPort p { x with owed := [0, 0, 0, 0, 0, 0], owedAt := none, wire := x.wire ++ [.credit x.owed] })) ∧
    (∀ sync, Completes (.idleFlit p sync) s fun b =>
      let bad := s.blk.linkRuns p = true ∧ s.blk.frozen = false ∧ 2 ≤ s.blk.portState p ∧ (sync = 0 ∨ sync = 3)
      (¬ bad → b = s.blk) ∧
      (bad → b.fld F.PORT_ERR_SYNC p = min (s.blk.fld F.PORT_ERR_SYNC p + 1) 65535 ∧ UnitsKept s.blk b ∧ MemKept s.blk b ∧
        RegsKeptBut (fun r i => r = .PORT_ERR ∧ i = p.val) s.blk b)) ∧
    (s.blk.aonRuns = true →
      (x.episode = true → x.lastErr + 100000000 ≤ s.blk.tb1 →
        Completes (.crcEpisodeEnd p) s fun b => b = s.blk.setPort p { x with episode := false, errs := [] }) ∧
      (Completes (.portEnable p) s fun b =>
        b.flag F.PORT_CTRL_EN p = true ∧ others b ∧ NoRecord s.blk b ∧
          (s.blk.flag F.PORT_CTRL_EN p = false → b.portState p = 1 ∧ b.port p = { x with trainAt := none } ∧
            b.fab.topoDue = topo ∧ regs [.PORT_CTRL, .PORT_STATUS] b) ∧
          (s.blk.flag F.PORT_CTRL_EN p = true → b.port p = x ∧ RegsKept s.blk b ∧ MemKept s.blk b)) ∧
      (s.blk.flag F.PORT_CTRL_EN p = true → Completes (.portDisable p) s fun b =>
        b.flag F.PORT_CTRL_EN p = false ∧ b.portState p = 0 ∧ (b.port p).own = [] ∧ (∀ o ∈ b.fab.outst, o.port ≠ p.val) ∧
          (b.port p).wire = x.wire ++ [.cut] ∧
          (∀ o ∈ s.blk.fab.outst, o.port = p.val → ∀ tag, o.who = .master tag → ⟨o.who, o.op, .nak 2, 0⟩ ∈ b.bus.results) ∧
          (∀ c ∈ s.blk.bus.results, c ∈ b.bus.results) ∧
          b.fab.topoDue = topo ∧
          (2 ≤ s.blk.portState p → b.flag F.PORT_STATUS_PARENT p = false ∧ b.flag F.PORT_STATUS_UP_LINK p = false ∧
            (b.port p).credits = [0, 0, 0, 0, 0, 0] ∧ (b.port p).heard = none) ∧
          ((∀ q, (s.blk.port q).rx = []) → s.blk.bus.egress = [] → NoRecord s.blk b ∧ MemKept s.blk b ∧
            (∀ q, q < 8 → q ≠ p.val → b.portState q = s.blk.portState q) ∧
            RegsKeptBut (fun r i => (r = .PORT_CTRL ∧ i = p.val) ∨ (r = .FAB_STATUS ∧ i = 0) ∨ r ∈ [.PORT_STATUS, .PORT_NAK, .PORT_ERR2])
              s.blk b)) ∧
      (s.blk.flag F.PORT_CTRL_EN p = false → Completes (.portDisable p) s fun b =>
        RegsKept s.blk b ∧ MemKept s.blk b ∧ { s.blk with regs := b.regs } = b))) ∧
  (∀ (s : State) (e : Fin 8), s.blk.fabRuns = true → NothingStuck s.blk →
    (∀ (p : Fin 8) k hcrc pcrc, s.blk.portUp p = true → s.blk.portUp e = false →
      let sent := fun (b : Blk) => (∀ q, (b.port q).wire = (s.blk.port q).wire ∧ (b.port q).own = (s.blk.port q).own) ∧ b.bus = s.blk.bus ∧
        (∀ q, q ≠ p.val → b.port q = s.blk.port q) ∧ MemKept s.blk b ∧
        RegsKeptBut (fun r i => (i = p.val ∧ (r = .PORT_ERR ∨ r = .PORT_ERR2)) ∨ RecReg r i) s.blk b
      (hcrc ≠ headerCrc k pcrc → Completes (.packetForward e (some (p, k, hcrc, pcrc))) s fun b =>
        b.fld F.PORT_ERR_HCRC p = min (s.blk.fld F.PORT_ERR_HCRC p + 1) 65535 ∧ (b.port p).rx = (s.blk.port p).rx ∧
          (b.port p).owed = addAt (s.blk.port p).owed (classOf k).idx (1 + k.payload.length) ∧ sent b) ∧
      (hcrc = headerCrc k pcrc → s.blk.endsHere k = false → lenOk k = true → Waits s.blk k →
        Completes (.packetForward e (some (p, k, hcrc, pcrc))) s fun b =>
          (b.port p).rx = (s.blk.port p).rx ++ [⟨k, pcrc⟩] ∧ (b.port p).owed = (s.blk.port p).owed ∧
            b.fld F.PORT_ERR2_PCRC p =
              min (s.blk.fld F.PORT_ERR2_PCRC p + (if pcrc = payloadCrc k then 0 else 1)) 65535 ∧ sent b)) ∧
    (∀ r, s.blk.portUp e = true → s.blk.nextStart e = some r → Completes (.packetForward e none) s fun b =>
      let x := s.blk.port e
      let y := b.port e
      let c := classOf r.pkt
      let k := if r.pkt.type = 10 ∧ r.pkt.addr.toNat % 4 = 0 then { r.pkt with payload := [BitVec.ofNat 128 (s.blk.ft * 2 ^ 64)] } else r.pkt
      let out := { k with hops := k.hops + 1, down := k.down || !s.blk.upLink e }
      let sent := fun (o : Packet) (pcrc : BitVec 16) => x.wire ++ [.packet o pcrc (headerCrc o pcrc)]
      let bulk := ∃ q ∈ s.blk.readyFor e, classOf q.pkt = .vc2Req ∧ s.blk.hasCredit e q.pkt = true ∧ q ≠ r
      MemKept s.blk b ∧ RegsKeptBut (fun r i => i = e.val ∧ (r = .PORT_FLITS ∨ r = .PORT_COAL)) s.blk b ∧ NoRecord s.blk b ∧
      (∀ q, q ≠ e.val → (b.port q).wire = (s.blk.port q).wire ∧ (b.port q).own = (s.blk.port q).own) ∧
      (r.own = true → y.own = x.own.erase r.pkt ∧ b.bus = s.blk.bus) ∧
      (r.own = false → r.ingress < 8 → b.bus = s.blk.bus ∧
        (b.port r.ingress).rx = (s.blk.port r.ingress).rx.erase ⟨r.pkt, r.pcrc⟩ ∧
        (b.port r.ingress).owed = addAt (s.blk.port r.ingress).owed c.idx (1 + r.pkt.payload.length)) ∧
      (r.own = false → 8 ≤ r.ingress → b.bus = { s.blk.bus with egress := s.blk.bus.egress.erase r.pkt }) ∧
      (c = .vc2Req → y.skips = 0) ∧ (c ≠ .vc2Req → bulk → y.skips = x.skips + 1) ∧
      (c ≠ .vc2Req → ¬ bulk → y.skips = 0) ∧
      (r.pkt.type ≠ 6 ∨ r.pcrc ≠ payloadCrc r.pkt →
        y.wire = sent out (if k = r.pkt then r.pcrc else payloadCrc out) ∧ y.credits = subAt x.credits c.idx (1 + k.payload.length) ∧
        b.fld F.PORT_FLITS_TX e = (s.blk.fld F.PORT_FLITS_TX e + (1 + k.payload.length)) % 2 ^ 32 ∧
        (r.pkt.src.toNat = s.blk.node → r.pkt.type = 1 ∨ r.pkt.type = 3 → ∀ o ∈ b.fab.outst,
          o.mid = r.pkt.smaster.toNat → o.tag = r.pkt.tag.toNat → o.port = e.val ∧ o.at_ = s.blk.tb1)) ∧
      (r.pkt.type = 6 → r.pcrc = payloadCrc r.pkt →
        let d := coalesce s.blk.tb1 x.coal (recOf (flit0 r.pkt))
        y.coal = d.1 ∧ (d.2.2 = true → b.fld F.PORT_COAL_OVF e = min (s.blk.fld F.PORT_COAL_OVF e + 1) 65535) ∧
          (d.2.1 = none → y.wire = x.wire ∧ y.credits = x.credits) ∧
          (∀ q, d.2.1 = some q → (let o := { out with payload := [q.bits] }; y.wire = sent o (payloadCrc o)) ∧
            y.credits = subAt x.credits c.idx 2)))) ∧
  ∀ (b : Blk) (e : Nat) (r : Ready), b.nextStart e = some r →
    let turn := fun (i : Nat) => (i + 8 * ((b.port e).turn.getD (classOf r.pkt).idx 8 + 1)) % 9
    1 + r.pkt.payload.length ≤ (b.port e).credits.getD (classOf r.pkt).idx 0 ∧ r ∈ b.readyFor e ∧
    ∀ q ∈ b.readyFor e, b.hasCredit e q.pkt = true →
      ((b.port e).skips < 16 ∨ classOf r.pkt ≠ .vc2Req → classOrder.idxOf (classOf r.pkt) ≤ classOrder.idxOf (classOf q.pkt)) ∧
      (16 ≤ (b.port e).skips → classOf q.pkt = .vc2Req → classOf r.pkt = .vc2Req) ∧
      (classOf q.pkt = classOf r.pkt → turn r.ingress ≤ turn q.ingress)

namespace Sys2Proof.Claims

/-- The flits of a packet that ends here leave the buffer of port `p`: their credits are owed; no other port changes. -/
def Consumed (p : Nat) (k : Packet) (a b : Blk) : Prop :=
  (b.port p).owed = addAt (a.port p).owed (classOf k).idx (1 + k.payload.length) ∧
    (b.port p).wire = (a.port p).wire ∧ (b.port p).rx = (a.port p).rx ∧ ∀ q, q ≠ p → b.port q = a.port q

/-- A packet whose payload fails its CRC is counted at port `p`. -/
def BadPayload (p : Nat) (k : Packet) (a b : Blk) : Prop :=
  b.fld F.PORT_ERR2_PCRC p = min (a.fld F.PORT_ERR2_PCRC p + 1) 65535 ∧ Consumed p k a b ∧ MemKept a b ∧
    RegsKeptBut (fun r i => (r = .PORT_ERR2 ∧ i = p) ∨ RecReg r i) a b

end Sys2Proof.Claims

/-- RD_REQ, WR_REQ, RD_RSP, WR_RSP, REMOTE_REQUEST_SEND, RESPONSE_TIMEOUT, TRANSFER_START and TRANSFER_DONE complete where their condition
holds. A request whose payload fails its CRC is answered NAK_CRC and reaches no target; one with a tenant entry whose flits all pass the
checks waits at its target under the proxy ID; one without an entry, or turned away by a check, is refused, logged and answered ACC_DENY. A response ends the request of its
master, tag and sender, or of a router that found no way, with its STATUS, or NAK_CRC; one that is OK ends the TIMEOUT episode of its sender, whose record
still comes where it is due; a late one is counted only. A waiting request leaves with a tag that its master
has free, and a transfer sends at most 32 units that it reads from memory, to another node as one packet, to this one through the gates. A request that is overdue ends with
NAK_TIMEOUT, which counts against its destination. A start, by GO or by trigger, sets BUSY and takes
LEN, or counts OVR while BUSY; a transfer of which nothing is left ends with its first STATUS other than OK. The order of the checks of a packet and what a
refused read of a transfer sends are log 54. -/
def Obligations.FabricRequests : Prop :=
  (∀ (s : State) (p : Fin 8) (k : Packet) (pcrc : BitVec 16) (edge : Nat) (write : Bool),
    let c := if write then Instr.wrReq p k pcrc edge else Instr.rdReq p k pcrc edge
    let op := if write then AccOp.write else AccOp.read
    let src := k.src.toNat
    let sm := k.smaster.toNat
    let who := Requester.remote p src sm k.tag.toNat
    let answer := fun (status : Nat) => s.blk.response op k.vc.toNat src sm k.tag.toNat status k.sz.toNat 0
    let width := if k.sz = 0 then 32 else if k.sz = 1 then 64 else 128
    let parts := if write then k.payload.zipIdx else [((0 : BitVec 128), 0)]
    let i : Inbound := ⟨p, src, sm, k.tag.toNat, op, k.vc.toNat, k.sz.toNat, parts.length, 0, 0⟩
    Arrives s.blk p k (if write then 3 else 1) → k.dest.toNat = s.blk.node →
    (pcrc ≠ payloadCrc k → Completes c s fun b =>
      b.bus = { s.blk.bus with egress := s.blk.bus.egress ++ [answer 4] } ∧ BadPayload p k s.blk b) ∧
    (pcrc = payloadCrc k → s.blk.bus.results = [] →
      (∀ m, s.blk.tenant p src sm = some m →
        (∀ v ∈ parts, formCheck (k.addr.toNat + 16 * v.2) width = none ∧ s.blk.lateCheck m op (k.addr.toNat + 16 * v.2) width = none) →
        Completes c s fun b =>
          let new : List Access := parts.map fun v => ⟨who, m, op, k.addr.toNat + 16 * v.2, width, v.1, edge⟩
          b.bus = { s.blk.bus with waiting := s.blk.bus.waiting ++ new } ∧
          b.fab.inbound = s.blk.fab.inbound ++ [i] ∧ Consumed p k s.blk b ∧ NoRecord s.blk b ∧ RegsKept s.blk b ∧ MemKept s.blk b) ∧
      (s.blk.fab.inbound = [] → parts.length = 1 →
        let q := { s.blk.consume p k with fab := { (s.blk.consume p k).fab with inbound := [i] } }
        let turned := fun (source detail data : Nat) (b : Blk) => ∃ r, Refused who op source detail data q r ∧
          b = { r with
            bus := { r.bus with results := [], egress := r.bus.egress ++ [answer 1] }, fab := { r.fab with inbound := [] } }
        (∀ d, formCheck k.addr.toNat width = some d →
          Completes c s (turned ((s.blk.tenant p src sm).getD (540 + p)) d (denyData op k.addr.toNat))) ∧
        (formCheck k.addr.toNat width = none →
          (s.blk.tenant p src sm = none →
            Completes c s (turned (540 + p) 3 (op.bit * 2 ^ 31 + p * 2 ^ 28 + src * 2 ^ 19 + sm * 2 ^ 9))) ∧
          (∀ m d, s.blk.tenant p src sm = some m → s.blk.lateCheck m op k.addr.toNat width = some d →
            Completes c s (turned m d (denyData op k.addr.toNat))))))) ∧
  (∀ (s : State) (p : Fin 8) (k : Packet) (pcrc : BitVec 16) (write : Bool),
    let c := if write then Instr.wrRsp p k pcrc else Instr.rdRsp p k pcrc
    let mine := fun (o : Outst) => o.mid == k.smaster.toNat && o.tag == k.tag.toNat &&
      (o.dest == k.src.toNat || k.status == 2 || k.status == 3)
    let status := if pcrc = payloadCrc k then k.status.toNat else 4
    let crc := fun (l : List RegName) (b : Blk) => Consumed p k s.blk b ∧ MemKept s.blk b ∧
      (pcrc = payloadCrc k → NoRecord s.blk b) ∧
      b.fld F.PORT_ERR2_PCRC p = min (s.blk.fld F.PORT_ERR2_PCRC p + (if pcrc = payloadCrc k then 0 else 1)) 65535 ∧
      RegsKeptBut (fun r i => (i = p.val ∧ r ∈ l) ∨ (pcrc ≠ payloadCrc k ∧ ((r = .PORT_ERR2 ∧ i = p) ∨ RecReg r i))) s.blk b
    Arrives s.blk p k (if write then 4 else 2) → k.dest.toNat = s.blk.node →
    (∀ o, s.blk.fab.outst.find? mine = some o → Completes c s fun b =>
      b.fab.outst = s.blk.fab.outst.erase o ∧ crc [] b ∧
        b.fab.dead = (if status = 0 then endDead (fun d => d.subject == o.dest) s.blk.fab.dead else s.blk.fab.dead) ∧
        (∀ tag, o.who = .master tag →
          let done : Completion := ⟨.master tag, o.op, if status = 0 then .ok else .nak status, if status = 0 then flit0 k else 0⟩
          b.bus = { s.blk.bus with results := s.blk.bus.results ++ [done] }) ∧
        (∀ x n t, o.who = .transfer x n → SMap.get s.blk.fab.xfers x none = some t → b.bus = s.blk.bus ∧
          SMap.get b.fab.xfers x none = some { t with
            open_ := t.open_ - 1, status := if t.status = 0 then status else t.status })) ∧
    (s.blk.fab.outst.find? mine = none → Completes c s fun b =>
      b.fld F.PORT_NAK_LATE p = min (s.blk.fld F.PORT_NAK_LATE p + 1) 65535 ∧ b.bus = s.blk.bus ∧
        b.fab.outst = s.blk.fab.outst ∧ crc [.PORT_NAK] b)) ∧
  (∀ (s : State) (r : RemoteReq) (t : Nat), s.blk.fabRuns = true →
    s.blk.bus.remote.findSome? (fun r => (s.blk.freeTag r.mid).map fun t => (r, t)) = some (r, t) →
    Completes (.remoteRequestSend none) s fun b =>
      b.fab = { s.blk.fab with outst := s.blk.fab.outst ++ [⟨r.who, r.mid, r.node, t, r.op, 0, 8, s.blk.tb1⟩] } ∧
        RegsKept s.blk b ∧ MemKept s.blk b ∧ NoRecord s.blk b ∧
        ∃ k, b.bus = { s.blk.bus with remote := s.blk.bus.remote.erase r, egress := s.blk.bus.egress ++ [k] } ∧
          k.type = (if r.op = .read then 1 else 3) ∧ k.vc = 0 ∧ k.dest = BitVec.ofNat 9 r.node ∧ k.src = BitVec.ofNat 9 s.blk.node ∧
          k.smaster = BitVec.ofNat 10 r.mid ∧ k.tag = BitVec.ofNat 6 t ∧ k.addr = BitVec.ofNat 40 r.addr ∧ k.len = 1 ∧
          k.sz = (if r.width = 32 then 0 else if r.width = 64 then 1 else 2) ∧ k.down = false ∧ k.hops = 0 ∧
          k.payload = (if r.op = .read then [] else [r.data])) ∧
  (∀ (ends : DeadNode → Bool) (l : List DeadNode) (d : DeadNode), d ∈ endDead ends l ↔
    (d ∈ l ∧ ends d = false) ∨ ∃ e ∈ l, ends e = true ∧ e.raised = false ∧ d = { e with ended := true }) ∧
  (∀ (b : Blk) (m t : Nat), b.freeTag m = some t → t < 64 ∧ ∀ o ∈ b.fab.outst, ¬ (o.mid = m ∧ o.tag = t)) ∧
  (∀ (s : State) (mid : BitVec 10) (tag : BitVec 6) (o : Outst), s.blk.aonRuns = true →
    s.blk.fab.outst.find? (fun o => o.mid == mid.toNat && o.tag == tag.toNat) = some o →
    o.at_ + max 1 (s.blk.fld F.FAB_CFG_RSP_TO_US 0) * 1000 ≤ s.blk.tb1 → Completes (.responseTimeout mid tag) s fun b =>
      b.fab.outst = s.blk.fab.outst.erase o ∧
        (∀ g, o.who = .master g → b.bus = { s.blk.bus with results := s.blk.bus.results ++ [⟨.master g, o.op, .nak 5, 0⟩] }) ∧
        ((∀ d ∈ s.blk.fab.dead, d.subject = o.dest → d.ended = true) →
          b.fab.dead = s.blk.fab.dead ++ [⟨o.dest, s.blk.tb1, 1, false, false⟩]) ∧
        ((∃ d ∈ s.blk.fab.dead, d.subject = o.dest ∧ d.ended = false) → b.fab.dead = s.blk.fab.dead.map fun d =>
          if d.subject = o.dest ∧ d.ended = false ∧ d.raised = false ∧ s.blk.tb1 < d.at_ + 1000000 then { d with n := d.n + 1 } else d) ∧
        RegsKept s.blk b ∧ MemKept s.blk b ∧ NoRecord s.blk b) ∧
  ∀ (s : State) (x : Fin 64), s.blk.fabRuns = true →
    let owner := s.blk.fld F.XD_CFG_OWNER x
    let mine := fun (b : Blk) => RegsKeptBut (fun r i => r = .XD_STATUS ∧ i = x.val) s.blk b ∧ MemKept s.blk b ∧ NoRecord s.blk b
    let starts := fun (b : Blk) =>
      (s.blk.flag F.XD_STATUS_BUSY x = false → b.flag F.XD_STATUS_BUSY x = true ∧
        b.fab = { s.blk.fab with xfers := b.fab.xfers } ∧
        SMap.get b.fab.xfers x.val none = some ⟨s.blk.fld F.XD_CFG_LEN x, 0, 0, 0⟩ ∧
        ∀ y, y ≠ x.val → SMap.get b.fab.xfers y none = SMap.get s.blk.fab.xfers y none) ∧
      (s.blk.flag F.XD_STATUS_BUSY x = true → b.flag F.XD_STATUS_BUSY x = true ∧
        b.fld F.XD_STATUS_OVR x = min (s.blk.fld F.XD_STATUS_OVR x + 1) 65535 ∧ b.fab = s.blk.fab)
    (∀ t tag, SMap.get s.blk.fab.xfers x.val none = some t → s.blk.freeTag owner = some tag → 0 < t.left →
      let n := min 32 t.left
      let from_ := s.blk.xdSrc x + 16 * t.sent
      let dst := s.blk.xdDst x + 16 * t.sent
      let node := dst / 2 ^ 40 % 512
      let data := (List.range n).map fun j => BitVec.ofNat 128 (s.blk.readMem (from_ + 16 * j) 16)
      0x10000000 ≤ from_ → Readable s.blk owner from_ n →
      (node ≠ s.blk.node → Completes (.remoteRequestSend (some x)) s fun b =>
        let k := s.blk.newPacket 3 2 node owner tag (dst % 2 ^ 40) 3 data
        b.bus = { s.blk.bus with egress := s.blk.bus.egress ++ [k], lastEdge := b.bus.lastEdge } ∧
        b.fab.outst = s.blk.fab.outst ++ [⟨.transfer x t.sent, owner, node, tag, .write, 2, 8, s.blk.tb1⟩] ∧
        SMap.get b.fab.xfers x.val none = some ⟨t.left - n, t.sent + n, t.open_ + 1, t.status⟩ ∧
        RegsKept s.blk b ∧ MemKept s.blk b ∧ NoRecord s.blk b) ∧
      (node = s.blk.node → (∀ j, j < n → s.blk.gate (s.blk.unitMaster owner) .write (dst % 2 ^ 40 + 16 * j) 128 = none) →
        Completes (.remoteRequestSend (some x)) s fun b =>
          b.bus.waiting.map (fun a => (a.who, a.mid, a.op, a.addr, a.width, a.data)) =
            s.blk.bus.waiting.map (fun a => (a.who, a.mid, a.op, a.addr, a.width, a.data)) ++
              data.zipIdx.map (fun v => (.transfer x v.2, s.blk.unitMaster owner, .write, dst % 2 ^ 40 + 16 * v.2, 128, v.1)) ∧
          b.bus.egress = s.blk.bus.egress ∧ b.fab.outst = s.blk.fab.outst ∧
          SMap.get b.fab.xfers x.val none = some ⟨t.left - n, t.sent + n, t.open_ + n, t.status⟩ ∧
          RegsKept s.blk b ∧ MemKept s.blk b ∧ NoRecord s.blk b)) ∧
    (Completes (.transferStart x true) s fun b => starts b ∧ mine b ∧ b.tbu = s.blk.tbu ∧ b.bus = s.blk.bus) ∧
    (∀ t, s.blk.tbu.trig.find? (fun t => t.kind == 5 && t.id == x.val) = some t →
      Completes (.transferStart x false) s fun b =>
        starts b ∧ mine b ∧ b.tbu = { s.blk.tbu with trig := s.blk.tbu.trig.erase t } ∧ b.bus = s.blk.bus) ∧
    (∀ t, SMap.get s.blk.fab.xfers x.val none = some t → t.left = 0 → t.open_ = 0 → s.blk.bus.results = [] →
      Completes (.transferDone x) s fun b =>
        b.flag F.XD_STATUS_BUSY x = false ∧ b.flag F.XD_STATUS_DONE x = true ∧
          b.fld F.XD_STATUS_LAST_STATUS x = t.status % 8 ∧
          (b.flag F.XD_STATUS_ERR x = true ↔ t.status ≠ 0 ∨ s.blk.flag F.XD_STATUS_ERR x = true) ∧
          SMap.get b.fab.xfers x.val none = none ∧ b.fab = { s.blk.fab with xfers := b.fab.xfers } ∧ b.bus = s.blk.bus ∧ mine b)

/-- STREAM, FAULT, CONTRIB and COALESCE_WINDOW_END complete where their condition holds. A sample without an enabled entry, or of
another length than the entry's, is counted and discarded; one whose writes the gate admits is written under
master 540 + p, flit 0 after the others, and counted; a refused write is counted as dropped. A FAULT record waits for the conductor, is dropped and counted where no conductor is
known and 64 wait, and at the conductor passes the local table. Cells of a CONTRIB packet become observations of the remote sensor that names their
source, which has had its input. A window whose time is over leaves its table, and a summary follows where it counted a record. A packet whose payload fails
its CRC is counted and discarded. Credits of a packet that ends here are owed. A record passes a table as R331 and R332 say: a window that is open counts it, a table with
64 open windows lets it through with COUNT 0, and else it opens a window. That a damaged payload is discarded whole is log 54, and that a window whose
time is over takes no place in the table log 55. -/
def Obligations.StreamsAndCoalescing : Prop :=
  (∀ (s : State) (p : Fin 8) (k : Packet) (pcrc : BitVec 16), k.dest.toNat = s.blk.node →
    let mine := fun (l : List (RegName × Nat)) (b : Blk) =>
      Consumed p k s.blk b ∧ RegsKeptBut (fun r i => (r, i) ∈ l) s.blk b ∧ MemKept s.blk b
    (∀ c ∈ [(5, Instr.streamPacket p k pcrc), (6, .faultPacket p k pcrc), (12, .contribPacket p k pcrc)],
      Arrives s.blk p k c.1 → pcrc ≠ payloadCrc k → Completes c.2 s fun b =>
        b.bus = s.blk.bus ∧ b.fus = s.blk.fus ∧ b.fld F.PORT_ERR2_DISCARD p = min (s.blk.fld F.PORT_ERR2_DISCARD p + 1) 65535 ∧
          BadPayload p k s.blk b) ∧
    (pcrc = payloadCrc k → Arrives s.blk p k 5 →
      let entry := (List.range 1024).find? fun e =>
        s.blk.flag F.SRX_CFG_EN e && s.blk.reg .SRX_CFG e &&& 0xFFFF == k.addr.setWidth 32 &&& 0xFFFF
      let miss := fun (b : Blk) => b.fld F.FAB_SRX_MISS_MISS 0 = min (s.blk.fld F.FAB_SRX_MISS_MISS 0 + 1) (2 ^ 32 - 1) ∧
        b.bus = s.blk.bus ∧ NoRecord s.blk b ∧ mine [(.FAB_SRX_MISS, 0)] b
      (entry = none → Completes (.streamPacket p k pcrc) s miss) ∧
      ∀ e, entry = some e →
        let a := s.blk.fld F.SRX_ADDR_HI_ADDR e * 2 ^ 32 + (s.blk.reg .SRX_ADDR_LO e).toNat
        let order := k.payload.zipIdx.drop 1 ++ k.payload.zipIdx.take 1
        (s.blk.fld F.SRX_CFG_LEN_M1 e + 1 ≠ k.payload.length → Completes (.streamPacket p k pcrc) s miss) ∧
        (s.blk.fld F.SRX_CFG_LEN_M1 e + 1 = k.payload.length →
          (∀ j, j < k.payload.length → s.blk.gate (540 + p) .write (a + 16 * j) 128 = none) →
          Completes (.streamPacket p k pcrc) s fun b => ∃ l : List Access,
            b.bus = { s.blk.bus with waiting := s.blk.bus.waiting ++ l } ∧
            l.map (fun x => (x.who, x.mid, x.op, x.addr, x.width, x.data)) =
              order.map (fun v => (.stream e, 540 + p.val, .write, a + 16 * v.2, 128, v.1)) ∧
            l.Pairwise (fun x y => targetNo x.addr = targetNo y.addr → targetNo x.addr ≠ none → x.edge < y.edge) ∧
            b.fld F.SRX_CNT_RECV e = (s.blk.fld F.SRX_CNT_RECV e + 1) % 65536 ∧
            b.fld F.SRX_CNT_DROP e = s.blk.fld F.SRX_CNT_DROP e ∧ NoRecord s.blk b ∧ mine [(.SRX_CNT, e)] b) ∧
        (∀ v d, k.payload = [v] → s.blk.fld F.SRX_CFG_LEN_M1 e = 0 → s.blk.gate (540 + p) .write a 128 = some d →
          Completes (.streamPacket p k pcrc) s fun b =>
            b.bus = s.blk.bus ∧ b.fld F.SRX_CNT_DROP e = min (s.blk.fld F.SRX_CNT_DROP e + 1) 65535 ∧
            b.fld F.SRX_CNT_RECV e = (s.blk.fld F.SRX_CNT_RECV e + 1) % 65536 ∧
            b.fld F.ACC_REFUSED_REFUSED 0 = (s.blk.fld F.ACC_REFUSED_REFUSED 0 + 1) % 2 ^ 32)) ∧
    (pcrc = payloadCrc k → Arrives s.blk p k 6 →
      (s.blk.fab.holds = false → s.blk.condKnown = true ∨ s.blk.mod.vc3.length < 64 → Completes (.faultPacket p k pcrc) s fun b =>
        b.mod = { s.blk.mod with vc3 := s.blk.mod.vc3 ++ [recOf (flit0 k)] } ∧ b.jrn = s.blk.jrn ∧ mine [] b) ∧
      (s.blk.fab.holds = false → s.blk.condKnown = false → 64 ≤ s.blk.mod.vc3.length → Completes (.faultPacket p k pcrc) s fun b =>
        b.fld F.FAB_FLTQ_DROPPED 0 = min (s.blk.fld F.FAB_FLTQ_DROPPED 0 + 1) 65535 ∧ NoRecord s.blk b ∧
          mine [(.FAB_FLTQ, 0)] b) ∧
      (s.blk.fab.holds = true → Completes (.faultPacket p k pcrc) s fun b =>
        let c := coalesce s.blk.tb1 s.blk.fab.coal (recOf (flit0 k))
        b.fab.coal = c.1 ∧ (c.2.1 = none → b.jrn = s.blk.jrn) ∧
          (∀ r, c.2.1 = some r → b.jrn = (s.blk.logFault r).jrn) ∧ b.mod = s.blk.mod ∧
          (c.2.2 = false → b.reg .FAB_COAL_LOCAL 0 = s.blk.reg .FAB_COAL_LOCAL 0) ∧
          (c.2.2 = true → b.fld F.FAB_COAL_LOCAL_OVF 0 = min (s.blk.fld F.FAB_COAL_LOCAL_OVF 0 + 1) 65535) ∧
          mine [(.FAB_COAL_LOCAL, 0)] b)) ∧
    (pcrc = payloadCrc k → Arrives s.blk p k 12 →
      let named := ((List.range 8).map (23 + ·)).find? fun n => s.blk.flag F.CAL_REMOTE_EN n &&
        s.blk.fld F.CAL_REMOTE_NODE n == k.src.toNat && s.blk.fld F.CAL_REMOTE_PL n == k.addr.toNat % 16
      let at_ := ((flit0 k).toNat / 2 ^ 64 + s.blk.tb1 - s.blk.ft) % 2 ^ 64
      (named = none → Completes (.contribPacket p k pcrc) s fun b => b.fus = s.blk.fus ∧ NoRecord s.blk b ∧ mine [] b) ∧
      ∀ n, named = some n → s.blk.gridNode = true → s.blk.sensorOn n = true → s.blk.fusRuns = true →
        Completes (.contribPacket p k pcrc) s fun b =>
          b.fus.obs = s.blk.fus.obs ++ (contribCells (k.payload.drop 1)).map (fun c => GridObs.mk n at_ (.cell c.1 c.2.1) c.2.2) ∧
          (s.blk.fusState ≠ 0 → b.fus.inputs = s.blk.fus.inputs ++ [⟨n, at_, s.blk.tb1, .good⟩]) ∧
          { s.blk.fus with obs := b.fus.obs, inputs := b.fus.inputs } = b.fus ∧ NoRecord s.blk b ∧ mine [] b)) ∧
  (∀ (s : State) (p : Fin 8) (w : Window), s.blk.aonRuns = true →
    ((s.blk.port p).coal.find? (fun w => w.excess s.blk.tb1) = some w → Completes (.coalesceWindowEnd ⟨p.val, by omega⟩) s fun b =>
      b = s.blk.setPort p { s.blk.port p with
        coal := (s.blk.port p).coal.erase w, own := (s.blk.port p).own ++ (w.summary.map s.blk.faultPacket).toList }) ∧
    (s.blk.fab.coal.find? (fun w => w.excess s.blk.tb1) = some w → Completes (.coalesceWindowEnd 8) s fun b =>
      b.fab = { s.blk.fab with coal := s.blk.fab.coal.erase w } ∧ (w.summary = none → b.jrn = s.blk.jrn) ∧
        (∀ r, w.summary = some r → b.jrn = (s.blk.logFault r).jrn) ∧ b.mod = s.blk.mod ∧ RegsKept s.blk b ∧ MemKept s.blk b)) ∧
  (∀ (w : Window), (w.more = 0 → w.summary = none) ∧
    (w.more ≠ 0 → w.summary = some { w.first with count := BitVec.ofNat 13 (min 8191 (1 + w.more)), time := w.last })) ∧
  (∀ (b : Blk) (r : FaultRec), let k := b.faultPacket r
    k.type = 6 ∧ k.vc = 3 ∧ k.dest = BitVec.ofNat 9 (b.fld F.FAB_STATUS_CONDUCTOR 0) ∧ recOf (flit0 k) = r) ∧
  ∀ (now : Nat) (t : List Window) (r : FaultRec),
    (r.count ≠ 1 → coalesce now t r = (t, some r, false)) ∧
    (r.count = 1 → (∃ w ∈ t, sameKey w.first r = true ∧ now < w.at_ + 1000000) →
      coalesce now t r = (t.map fun w => if sameKey w.first r = true ∧ now < w.at_ + 1000000
        then { w with more := w.more + 1, last := r.time } else w, none, false)) ∧
    (r.count = 1 → (∀ w ∈ t, sameKey w.first r = true → w.at_ + 1000000 ≤ now) →
      (64 ≤ (t.filter fun w => decide (now < w.at_ + 1000000)).length → coalesce now t r = (t, some { r with count := 0 }, true)) ∧
      ((t.filter fun w => decide (now < w.at_ + 1000000)).length < 64 → coalesce now t r = (t ++ [⟨r, now, 0, r.time⟩], some r, false)))

namespace Sys2Proof.Claims

/-- The block that has sent a ROLE packet of kind `kind` to `peer` with a reason. -/
def roleSent (kind peer reason : Nat) (a : Blk) : Blk :=
  a.emit (a.newPacket 11 3 peer 595 0 kind 2 [BitVec.ofNat 128 (a.node * 2 ^ 119 + reason * 2 ^ 116)])

/-- From `a` to `b` the node takes the role of conductor: it holds it with the next sequence, routes are due, fabric time goes on or begins
from TB1, the best conductor is shown anew, and where it replaces a lost one that is raised once. -/
def TakesRole (a b : Blk) : Prop := ∃ q : Blk,
  { a with
    regs := q.regs,
    fab := { a.fab with holds := true, live := a.fab.live % (2 ^ 32 - 1) + 1, routeDue := true, ftErr := 0 } } = q ∧
  (a.flag F.FAB_TIME_FT_V 0 = true → q.regs = a.regs) ∧
  (a.flag F.FAB_TIME_FT_V 0 = false → q.ft = a.tb1 ∧ q.flag F.FAB_TIME_FT_V 0 = true ∧
    RegsKeptBut (fun r i => i = 0 ∧ r ∈ [.FAB_FT_LO, .FAB_FT_HI, .FAB_TIME]) a q) ∧
  (q.updateBest.fab.was = none → b = q.updateBest) ∧
  (∀ n, q.updateBest.fab.was = some n → OneRecord 595 0x0D 0x02 (n * 2 ^ 23) q.updateBest b ∧
    b.fab = { q.updateBest.fab with was := none } ∧ RegsKeptBut RecReg q.updateBest b ∧ MemKept q.updateBest b)

/-- From `a` to `b` a TAKE (0) or GIVE (1) of `peer` is answered: a TAKE with a grant, and the role given up, by a node that may grant it,
else refused for reason 2; a GIVE with a grant, and the role taken, by a candidate, else refused for reason 3. -/
def AnswersRole (kind peer : Nat) (holder : Bool) (a b : Blk) : Prop :=
  let g := roleSent 2 peer 0 a
  (kind = 0 → holder = true → b = Blk.updateBest { g with fab := { g.fab with granted := true, holds := false } }) ∧
    (kind = 0 → holder = false → b = roleSent 3 peer 2 a) ∧
    (kind = 1 → a.flag F.FAB_CFG_CAND 0 = true → TakesRole g b) ∧
    (kind = 1 → a.flag F.FAB_CFG_CAND 0 = false → b = roleSent 3 peer 3 a)

/-- From `a` to `b` the role request `r` ends granted or refused: a granted TAKE takes the role, a refused GIVE of a node that has granted no
other takes it back. -/
def RequestEnds (r : RoleReq) (grant : Bool) (a b : Blk) : Prop := ∃ q : Blk,
  { a with regs := q.regs, fab := { a.fab with role := none } } = q ∧ q.flag F.FAB_ROLE_PEND 0 = false ∧
    (grant = true → q.flag F.FAB_ROLE_GRANTED 0 = true) ∧ (grant = false → q.flag F.FAB_ROLE_REFUSED 0 = true) ∧
    RegsKeptBut (fun r i => r = .FAB_ROLE ∧ i = 0) a q ∧
    let takes := if grant then r.kind = 0 else r.kind = 1 ∧ a.fab.granted = false
    (takes → TakesRole q b) ∧ (¬ takes → b = q)

/-- From `a` to `b` TB0 is not valid any more; the enabled slots on it wait; no other validity changes. -/
def Tb0Lost (a b : Blk) : Prop :=
  b.tbValid 0 = false ∧ (∀ n, 0 < n → b.tbValid n = a.tbValid n) ∧
    (a.tbValid 0 = true → ∀ k ∈ a.enabledSlots, a.fld F.SLOT_CTRL_TB k = 0 →
      b.flag F.SLOT_STATUS_ARMED k = false ∧ b.flag F.SLOT_STATUS_HELD_INVALID k = true) ∧
    RegsKeptBut (fun r i => (i = 0 ∧ r = .TBU_STATUS) ∨ r = .SLOT_STATUS) a b ∧ MemKept a b

end Sys2Proof.Claims

/-- BEACON, BEACON_SEND, TOPO, TOPO_SEND, ROUTE_COMPUTE, ROUTE, TIME_SYNC, SYNC_SEND, DELAY_MEASURE, DELAY_REQ, DELAY_RSP, TB0_PAIR, TB0_PAIR_SEND,
TB0_PAIR_TIMEOUT, ROLE_TAKE, ROLE_GIVE, ROLE_GRANT, ROLE_REFUSE, ROLE_REQUEST, GIVE_TIMEOUT, ROLE_HOLDOFF_END, ROLE_ELECTION and CONDUCTOR_LOST
complete where their condition holds; a packet whose payload fails its CRC is counted and discarded. A beacon is heard; of those that hold the role the best has the highest COND_PRIO, then the
lowest address, and is shown with the parent and the up links. New routes have the next epoch and go to every reachable node; a chunk of routes is used at once. A node without
fabric time takes it from a SYNC, one more than 10 us behind steps forward, any other slews, and a SYNC, stamped as it departs, goes to the children. A holder grants a TAKE and
holds the role no longer; other requests are refused with their reason; of colliding requests the lower node's stands and the other
node holds off 500 ms. An answer ends the request. TB0 of a node follows the newest pair by slewing, or loses validity where it is over 1 ms off or no pair comes for 100 ms. A link is an up
link from at most one of its ends. No memory changes. Who is known as a candidate, and that a TAKE without answer ends as a GIVE does, is log 56. -/
def Obligations.FabricConductorAndTime : Prop :=
  (∀ (s : State) (p : Fin 8) (k : Packet) (pcrc : BitVec 16),
    let a := s.blk.consume p k
    let v := (flit0 k).toNat
    let kind := k.addr.toNat % 4
    let mine := k.dest.toNat = s.blk.node
    let peer := v / 2 ^ 119
    let asks := fun (kind : Nat) (b : Blk) =>
      (∀ r, s.blk.fab.role = some r → r.peer = peer →
        let stands := s.blk.node < peer
        ∃ q : Blk,
          OneRecord 595 0x14 0x01
            (peer * 2 ^ 23 + r.kind * 2 ^ 21 + kind * 2 ^ 19 + (if stands then 2 ^ 18 else 0)) s.blk q ∧
          q.flag F.FAB_ROLE_COLLIDED 0 = true ∧ RegsKeptBut (fun r i => (r = .FAB_ROLE ∧ i = 0) ∨ RecReg r i) s.blk q ∧
          { a with regs := q.regs, mod := q.mod, jrn := q.jrn, fab := q.fab } = q ∧ q.fab = { a.fab with holdoff := q.fab.holdoff } ∧
          (stands → q.fab = a.fab ∧ b = roleSent 3 peer 1 q) ∧
          (¬ stands → SMap.get q.fab.holdoff peer 0 = s.blk.tb1 + 500000000 ∧
            (∀ n, n ≠ peer → SMap.get q.fab.holdoff n 0 = SMap.get s.blk.fab.holdoff n 0) ∧
            AnswersRole kind peer (s.blk.fab.holds || r.kind == 1) q b)) ∧
      ((∀ r, s.blk.fab.role = some r → r.peer ≠ peer) → AnswersRole kind peer s.blk.fab.holds a b)
    (∀ x ∈ [((7 : BitVec 4), Instr.beaconPacket p k pcrc, True), (8, .topoPacket p k pcrc, mine), (9, .routePacket p k pcrc, mine),
        (10, .timeSync p k pcrc, kind = 0 ∧ s.blk.flag F.PORT_STATUS_PARENT p = true), (10, .delayReq p k pcrc 0 0, kind = 1),
        (10, .delayRsp p k pcrc 0, kind = 2), (10, .tb0Pair p k pcrc, kind = 3 ∧ mine ∧ s.blk.flag F.GNSS_CTRL_HOST 0 = false),
        (11, .roleTake p k pcrc, kind = 0 ∧ mine), (11, .roleGive p k pcrc, kind = 1 ∧ mine),
        (11, .roleGrant p k pcrc, kind = 2 ∧ mine), (11, .roleRefuse p k pcrc, kind = 3 ∧ mine)],
      Arrives s.blk p k x.1 → x.2.2 → pcrc ≠ payloadCrc k → Completes x.2.1 s fun b =>
        b.bus = s.blk.bus ∧ b.fld F.PORT_ERR2_DISCARD p = min (s.blk.fld F.PORT_ERR2_DISCARD p + 1) 65535 ∧ BadPayload p k s.blk b) ∧
    (pcrc = payloadCrc k →
      (Arrives s.blk p k 7 → Completes (.beaconPacket p k pcrc) s fun b =>
        let h := heardOf (flit0 k)
        let c := a.setPort p { a.port p with heard := some h }
        b = Blk.updateBest { c with
          fab := { c.fab with lost := if h.seq = 0 then s.blk.fab.lost.filter (fun x => x.1 != h.best) else s.blk.fab.lost } }) ∧
      (Arrives s.blk p k 8 → mine → Completes (.topoPacket p k pcrc) s fun b =>
        (SMap.get s.blk.fab.topo peer none = some (flit0 k) → b = a) ∧
        (SMap.get s.blk.fab.topo peer none ≠ some (flit0 k) → SMap.get b.fab.topo peer none = some (flit0 k) ∧
          (∀ n, n ≠ peer → SMap.get b.fab.topo n none = SMap.get s.blk.fab.topo n none) ∧
          b = { a with fab := { a.fab with topo := b.fab.topo, routeDue := true } })) ∧
      (Arrives s.blk p k 9 → mine → Completes (.routePacket p k pcrc) s fun b =>
        let first := 64 * (k.addr.toNat / 2 ^ 16 % 8)
        (∀ (f : Nat) (w : BitVec 128) (j : Nat), k.payload[f]? = some w → f < 8 → j < 8 →
          b.routeEntry (first + 8 * f + j) = w.toNat / 2 ^ (16 * j) % 2 ^ 16) ∧
        (∀ n, n < first ∨ first + 8 * k.payload.length ≤ n → b.routeEntry n = s.blk.routeEntry n) ∧
        b.fld F.FAB_STATUS_EPOCH 0 = k.addr.toNat % 2 ^ 16 ∧
        b.fab.dead = (if s.blk.fld F.FAB_STATUS_EPOCH 0 = k.addr.toNat % 2 ^ 16 then s.blk.fab.dead else endDead (fun _ => true) s.blk.fab.dead) ∧
        { a with regs := b.regs, fab := { a.fab with dead := b.fab.dead } } = b ∧
        RegsKeptBut (fun r i => (r = .FAB_STATUS ∧ i = 0) ∨ r = .FAB_ROUTE) s.blk b) ∧
      (Arrives s.blk p k 10 →
        let hi : Nat := v / 2 ^ 64
        let lo : Nat := v % 2 ^ 64
        (kind = 0 → s.blk.flag F.PORT_STATUS_PARENT p = true → Completes (.timeSync p k pcrc) s fun b =>
          let target : Nat := (hi + s.blk.fld F.PORT_DELAY_DELAY p) % 2 ^ 64
          let err : Int := (s.blk.ft : Int) - target
          b.flag F.FAB_TIME_FT_V 0 = true ∧ b.fld F.FAB_TIME_FT_ERR 0 = min 65535 err.natAbs ∧
            (s.blk.flag F.FAB_TIME_FT_V 0 = false ∨ err < -10000 → b.ft = target ∧ b.fab.ftErr = 0) ∧
            (s.blk.flag F.FAB_TIME_FT_V 0 = true → -10000 ≤ err → b.ft = s.blk.ft ∧ b.fab.ftErr = err * 1000) ∧
            (∀ q, (b.port q).own = (s.blk.port q).own ++ if q ∈ s.blk.childPorts
              then [s.blk.newPacket 10 3 (s.blk.fld F.PORT_STATUS_PARTNER q) 595 0 0 2 [0]] else []) ∧
            (∀ q, (b.port q).owed = (a.port q).owed) ∧
            RegsKeptBut (fun r i => i = 0 ∧ r ∈ [.FAB_TIME, .FAB_FT_LO, .FAB_FT_HI]) s.blk b ∧ MemKept s.blk b ∧ NoRecord s.blk b) ∧
        (kind = 1 → ∀ t2 t3, Completes (.delayReq p k pcrc t2 t3) s fun b =>
          b = a.emitAt p (s.blk.newPacket 10 3 (s.blk.fld F.PORT_STATUS_PARTNER p) 595 0 2 2
            [BitVec.ofNat 128 (t2 % 2 ^ 64 * 2 ^ 64 + t3 % 2 ^ 64)])) ∧
        (kind = 2 → ∀ (t4 : Nat), Completes (.delayRsp p k pcrc t4) s fun b =>
          ((s.blk.port p).delayT1 = none → b = a) ∧
          (∀ t1, (s.blk.port p).delayT1 = some t1 →
            b.fld F.PORT_DELAY_DELAY p = min 65535 ((((t4 : Int) - t1) - ((lo : Int) - hi)) / 2).toNat ∧
            b.port p = { a.port p with delayT1 := none } ∧ (∀ q, q ≠ p.val → b.port q = s.blk.port q) ∧
            RegsKeptBut (fun r i => r = .PORT_DELAY ∧ i = p.val) s.blk b ∧ MemKept s.blk b)) ∧
        (kind = 3 → mine → s.blk.flag F.GNSS_CTRL_HOST 0 = false → Completes (.tb0Pair p k pcrc) s fun b =>
          let target : Nat := (hi + s.blk.ft + 2 ^ 64 - lo) % 2 ^ 64
          let off : Int := (s.blk.tb 0 : Int) - target
          (s.blk.flag F.FAB_TIME_FT_V 0 = false → b = a) ∧
          (s.blk.flag F.FAB_TIME_FT_V 0 = true → b.fab = { a.fab with pairAt := some s.blk.tb1 } ∧
            (s.blk.tbValid 0 = true → off.natAbs ≤ 1000000 → b = { a with
              fab := b.fab, tbu := { s.blk.tbu with tb0Err := off * 1000 } }) ∧
            (s.blk.tbValid 0 = false ∨ 1000000 < off.natAbs → Tb0Lost s.blk b ∧
              (s.blk.tb 0 ≤ target → b.tbu.tb0Jump = some target ∧ b.tbu.tb0Hold = none) ∧
              (target < s.blk.tb 0 → b.tbu.tb0Hold = some target ∧ b.tbu.tb0Jump = none))))) ∧
      (Arrives s.blk p k 11 → mine →
        (kind = 0 → Completes (.roleTake p k pcrc) s (asks 0)) ∧ (kind = 1 → Completes (.roleGive p k pcrc) s (asks 1)) ∧
        ∀ x ∈ [(2, Instr.roleGrant p k pcrc, true), (3, .roleRefuse p k pcrc, false)], kind = x.1 → Completes x.2.1 s fun b =>
          (∀ r, s.blk.fab.role = some r → r.peer = peer → RequestEnds r x.2.2 a b) ∧
            ((∀ r, s.blk.fab.role = some r → r.peer ≠ peer) → b = a))) ∧
    (s.blk.fabRuns = true → s.blk.portUp p = true → (∀ t, (s.blk.port p).beaconAt = some t → t + 100000 ≤ s.blk.tb1) →
      Completes (.beaconSend p) s fun b =>
        let c := s.blk.setPort p { s.blk.port p with beaconAt := some s.blk.tb1 }
        let d := Blk.updateBest { c with
          fab := { c.fab with live := if s.blk.fab.holds then s.blk.fab.live % (2 ^ 32 - 1) + 1 else s.blk.fab.live } }
        b = d.emitAt p (d.newPacket 7 3 (d.fld F.PORT_STATUS_PARTNER p) 595 0 0 2 [d.beaconBits p]))) ∧
  (∀ (s : State), s.blk.fabRuns = true →
    let still := fun (b : Blk) => RegsKept s.blk b ∧ MemKept s.blk b ∧ NoRecord s.blk b
    (s.blk.fab.topoDue ≠ none → s.blk.flag F.FAB_STATUS_COND_V 0 = true → Completes .topoSend s fun b =>
      b.fab.topoDue = none ∧ still b ∧
        (s.blk.fab.holds = true → SMap.get b.fab.topo s.blk.node none = some s.blk.topoBits ∧ b.bus = s.blk.bus) ∧
        (s.blk.fab.holds = false → b = { s.blk with fab := { s.blk.fab with topoDue := none } }.emit
          (s.blk.newPacket 8 3 (s.blk.fld F.FAB_STATUS_CONDUCTOR 0) 595 0 0 2 [s.blk.topoBits]))) ∧
    (s.blk.fab.holds = true → s.blk.fab.routeDue = true → Completes .routeCompute s fun b =>
      let topo := (s.blk.setTopo s.blk.node s.blk.topoBits).fab.topo
      let links := linksIn topo
      let depth := depths links s.blk.node
      let known := (topo.map (·.1) ++ links.map (·.b)).eraseDups
      let entry := fun (n d : Nat) => if known.contains d then routeOf links depth n d else 0
      let epoch := (s.blk.fld F.FAB_STATUS_EPOCH 0 + 1) % 2 ^ 16
      b.fld F.FAB_STATUS_EPOCH 0 = epoch ∧ b.fab.routeDue = false ∧ b.fab.topo = topo ∧
        b.fab.dead = endDead (fun _ => true) s.blk.fab.dead ∧
        b.routeEntry s.blk.node = 0x8080 ∧ (∀ d, d < 512 → b.routeEntry d = entry s.blk.node d) ∧
        (∀ n c, n ≠ s.blk.node → (∃ k, (n, k) ∈ depth) → c < 8 →
          s.blk.newPacket 9 3 n 595 0 (c * 2 ^ 16 + epoch) 3 (routeChunk (entry n) c) ∈ b.bus.egress) ∧
        (∀ d, d ∈ b.fab.unreach ↔ d ∈ known ∧ ∃ n, (∃ k, (n, k) ∈ depth) ∧ entry n d = 0) ∧
        ((∀ d ∈ b.fab.unreach, d ∈ s.blk.fab.unreach) → NoRecord s.blk b) ∧
        RegsKeptBut (fun r i => (r = .FAB_STATUS ∧ i = 0) ∨ r = .FAB_ROUTE ∨ RecReg r i) s.blk b ∧ MemKept s.blk b) ∧
    (s.blk.fab.holds = true → s.blk.flag F.FAB_TIME_FT_V 0 = true → s.blk.every s.blk.fab.syncAt 1000000 = true →
      Completes .syncSend s fun b =>
        b.fab.syncAt = some s.blk.tb1 ∧ still b ∧ b.bus = s.blk.bus ∧
          ∀ q, (b.port q).own = (s.blk.port q).own ++ if q ∈ s.blk.childPorts
            then [s.blk.newPacket 10 3 (s.blk.fld F.PORT_STATUS_PARTNER q) 595 0 0 2 [0]] else []) ∧
    (∀ p t1, s.blk.parentPort = some p → s.blk.portUp p = true → s.blk.every (s.blk.port p).delayAt 10000000 = true →
      Completes (.delayMeasure t1) s fun b =>
        b = (s.blk.setPort p { s.blk.port p with delayT1 := some t1, delayAt := some s.blk.tb1 }).emitAt p
          (s.blk.newPacket 10 3 (s.blk.fld F.PORT_STATUS_PARTNER p) 595 0 1 2 [0])) ∧
    (s.blk.flag F.GNSS_CTRL_HOST 0 = true → s.blk.tbValid 0 = true → s.blk.flag F.FAB_TIME_FT_V 0 = true →
      s.blk.every s.blk.fab.pairSent 10000000 = true → Completes .tb0PairSend s fun b =>
        let to_ := (List.range 512).filter fun n => (s.blk.routeEntry n).testBit 15 && !(s.blk.routeEntry n).testBit 7
        b.fab = { s.blk.fab with pairSent := some s.blk.tb1 } ∧ still b ∧
          b.bus.egress = s.blk.bus.egress ++ to_.map fun n =>
            s.blk.newPacket 10 3 n 595 0 3 2 [BitVec.ofNat 128 (s.blk.tb 0 * 2 ^ 64 + s.blk.ft)]) ∧
    (∀ r, s.blk.fab.role = some r → r.at_ + 10000000 ≤ s.blk.tb1 →
      Completes .giveTimeout s (RequestEnds r false s.blk)) ∧
    (∀ t, s.blk.fab.candAt = some t → s.blk.flag F.FAB_CFG_CAND 0 = true → s.blk.fab.holds = false → t + 20000000 ≤ s.blk.tb1 →
      Completes .roleElection s (TakesRole s.blk)) ∧
    (s.blk.flag F.FAB_STATUS_COND_V 0 = true → s.blk.fab.holds = false → s.blk.fab.seqAt + 5000000 ≤ s.blk.tb1 →
      Completes .conductorLost s fun b =>
        let n := s.blk.fld F.FAB_STATUS_CONDUCTOR 0
        let lost := s.blk.fab.lost.filter (fun x => x.1 != n) ++ [(n, s.blk.fab.seq)]
        b = Blk.updateBest { s.blk with fab := { s.blk.fab with lost := lost, was := some n } })) ∧
  (∀ (s : State), s.blk.aonRuns = true →
    (∀ t, s.blk.fab.pairAt = some t → s.blk.flag F.GNSS_CTRL_HOST 0 = false → t + 100000000 ≤ s.blk.tb1 →
      Completes .tb0PairTimeout s fun b =>
        b.fab = { s.blk.fab with pairAt := none } ∧ b.tbu.tb0Hold = none ∧ b.tbu.tb0Jump = none ∧ Tb0Lost s.blk b) ∧
    (∀ peer : BitVec 9, SMap.get s.blk.fab.holdoff peer.toNat 0 ≤ s.blk.tb1 → Completes (.roleHoldoffEnd peer) s fun b =>
      SMap.get b.fab.holdoff peer.toNat 0 = 0 ∧ b = { s.blk with fab := { s.blk.fab with holdoff := b.fab.holdoff } } ∧
        ∀ n, n ≠ peer.toNat → SMap.get b.fab.holdoff n 0 = SMap.get s.blk.fab.holdoff n 0) ∧
    ∀ v : Word,
      let peer := F.FAB_ROLE_PEER.get v
      let req := F.FAB_ROLE_REQ.get v
      let sends := s.blk.fabRuns = true ∧ (req = 1 ∨ (req = 2 ∧ s.blk.fab.holds = true)) ∧ s.blk.fab.role = none ∧
        SMap.get s.blk.fab.holdoff peer 0 ≤ s.blk.tb1
      Completes (.roleRequest v) s fun b => ∃ q : Blk,
        { s.blk with regs := q.regs } = q ∧ q.fld F.FAB_ROLE_PEER 0 = peer ∧
        (∀ f ∈ [F.FAB_ROLE_GRANTED, F.FAB_ROLE_REFUSED, F.FAB_ROLE_COLLIDED],
          q.flag f 0 = (s.blk.flag f 0 && f.get v == 0)) ∧ RegsKeptBut (fun r i => r = .FAB_ROLE ∧ i = 0) s.blk q ∧
        (¬ sends → b = q ∧ q.flag F.FAB_ROLE_PEND 0 = s.blk.flag F.FAB_ROLE_PEND 0) ∧
        (sends → q.flag F.FAB_ROLE_PEND 0 = true ∧
          let c := roleSent (req - 1) peer 0 { q with fab := { s.blk.fab with role := some ⟨req - 1, peer, s.blk.tb1⟩ } }
          (req = 1 → b = c) ∧ (req = 2 → b = Blk.updateBest { c with fab := { c.fab with granted := false, holds := false } }))) ∧
  (∀ (b : Blk),
    let c := b.updateBest
    let shown := fun (p : Nat) => (c.flag F.PORT_STATUS_PARENT p, c.flag F.PORT_STATUS_UP_LINK p)
    { b with regs := c.regs, fab := { b.fab with
      holds := c.fab.holds, was := c.fab.was, candAt := c.fab.candAt, seq := c.fab.seq, seqAt := c.fab.seqAt,
      topoDue := c.fab.topoDue } } = c ∧
    RegsKeptBut (fun r i => (r = .FAB_STATUS ∧ i = 0) ∨ (r = .PORT_STATUS ∧ i < 8)) b c ∧ (∀ p, c.portState p = b.portState p) ∧
    (b.best = none → c.flag F.FAB_STATUS_COND_V 0 = false ∧ (∀ p, p < 8 → shown p = (false, false)) ∧ c.fab.candAt = none) ∧
    ∀ x, b.best = some x →
      let was := b.flag F.FAB_STATUS_COND_V 0 = true ∧ b.fld F.FAB_STATUS_CONDUCTOR 0 = x.node
      (∀ y ∈ b.ownCand ++ b.heardCands, y.seq ≠ 0 → x.seq ≠ 0 ∧ y.prio ≤ x.prio ∧ (y.prio = x.prio → x.node ≤ y.node)) ∧
      (x.seq = 0 → ∀ y ∈ b.ownCand ++ b.heardCands, y.prio ≤ x.prio ∧ (y.prio = x.prio → x.node ≤ y.node)) ∧
      c.fld F.FAB_STATUS_CONDUCTOR 0 = x.node % 512 ∧ (c.flag F.FAB_STATUS_COND_V 0 = true ↔ x.seq ≠ 0) ∧
      (∀ p, p < 8 → shown p = (x.port == some p, b.leadsUp x p)) ∧
      c.fab.holds = (b.fab.holds && x.port.isNone) ∧
      c.fab.candAt = (if x.port = none ∧ x.seq = 0 then some (b.fab.candAt.getD b.tb1) else none) ∧
      (x.seq ≠ 0 → ¬ was → c.fab.seq = x.seq ∧ c.fab.seqAt = b.tb1 ∧ c.fab.topoDue = some (b.fab.topoDue.getD b.tb1)) ∧
      (x.seq ≠ 0 → was → c.fab.topoDue = b.fab.topoDue ∧
        if seqNewer x.seq b.fab.seq = true then c.fab.seq = x.seq ∧ c.fab.seqAt = b.tb1
        else c.fab.seq = b.fab.seq ∧ c.fab.seqAt = b.fab.seqAt)) ∧
  (∀ (b : Blk) (x : Cand) (p : Nat), b.leadsUp x p = true ↔ b.portUp p = true ∧ ∃ h, (b.port p).heard = some h ∧ h.best = x.node ∧
    (h.links < x.links ∨ (h.links = x.links ∧ h.sender < b.node))) ∧
  (∀ (b : Blk) (x : Cand) (p : Nat), b.best = some x → p < 8 → x.node < 512 → x.prio < 16 → x.seq < 2 ^ 32 →
    let h := heardOf (b.beaconBits p)
    h.sender = b.node ∧ h.port = p ∧ h.best = x.node ∧ h.prio = x.prio ∧ h.seq = x.seq ∧ h.links = min 15 x.links ∧
      h.epoch = b.fld F.FAB_STATUS_EPOCH 0 ∧ h.parent = b.parentPort.map fun q => b.fld F.PORT_STATUS_PARTNER q) ∧
  (∀ (links : List Link) (depth : List (Nat × Nat)) (n d : Nat), routeOf links depth n d < 2 ^ 16 ∧
    (n ≠ d → routeOf links depth n d ≠ 0 → ∃ l ∈ links, l.a = n ∧ l.p = routeOf links depth n d / 2 ^ 12 % 8)) ∧
  ∀ (depth : List (Nat × Nat)) (a p b q : Nat), Link.up depth ⟨a, p, b, q⟩ = true → Link.up depth ⟨b, q, a, p⟩ = false

namespace Sys2Proof.Claims

/-- From `a` to `b` the error counters of controller `k` come to stand at `t` and `r`: above 127 it is error passive, above 255 in the
transmit counter bus-off. -/
def Counted (k t r : Nat) (a b : Blk) : Prop :=
  b.fld F.CAN_STATUS_BUS k = (if 255 < t then 3 else if 127 < t ∨ 127 < r then 2 else 1) ∧
    RegsKeptBut (fun q i => q = .CAN_STATUS ∧ i = k) a b ∧
    { a.setCan k { a.can k with tec := t, rec_ := r } with regs := b.regs, free := b.free } = b

/-- From `a` to `b` errors on the bus have added `te` and `re` to the error counters of controller `k`. -/
def Erred (k te re : Nat) (a b : Blk) : Prop := Counted k ((a.can k).tec + te) ((a.can k).rec_ + re) a b ∧ b.free = a.free

/-- From `a` to `b` controller `k` has received a frame: its receive error counter falls by 1, or from above 127 to 119 to 127. -/
def Heard (k : Nat) (a b : Blk) : Prop := ∃ r, Counted k (a.can k).tec r a b ∧
  ((a.can k).rec_ ≤ 127 → r = (a.can k).rec_ - 1 ∧ b.free = a.free) ∧ (127 < (a.can k).rec_ → 119 ≤ r ∧ r ≤ 127)

/-- From `a` to `b` a frame of controller `k` passes the filters: one that none accepts does nothing; one that finds the ring full counts an
overrun; any other is the next 80 bytes of the receive ring. -/
def Received (k : Nat) (f : CanFrame) (full : Bool) (a b : Blk) : Prop :=
  let at_ := a.rxEntry k (a.can k).rx
  (a.canAccepts k f = false → b = a) ∧
    (a.canAccepts k f = true → full = true → b.fld F.CAN_STATUS_RX_OVR k = min (a.fld F.CAN_STATUS_RX_OVR k + 1) 65535 ∧
      RegsKeptBut (fun r i => r = .CAN_STATUS ∧ i = k) a b ∧ { a with regs := b.regs } = b) ∧
    (a.canAccepts k f = true → full = false → Stored at_ (canEntry f a.tb1) a b ∧ (canEntry f a.tb1).length = 80 ∧
      b = { a with mem := b.mem }.setCan k { a.can k with rx := ((a.can k).rx + 1) % a.ringN k })

/-- From `a` to `b` this node is paired with `peer` in a role: 1 leader, 2 follower. -/
def Paired (peer role : Nat) (a b : Blk) : Prop :=
  b.fld F.FLEET_ROLE_ROLE 0 = role ∧ b.fld F.FLEET_STATUS_STATE 0 = 0 ∧
    { a with
      regs := b.regs,
      net := { a.net with peer := some peer, unloadAt := a.tb1, tolAt := none, sentAt := none } } = b ∧
    RegsKeptBut (fun r i => i = 0 ∧ (r = .FLEET_ROLE ∨ r = .FLEET_STATUS)) a b

/-- From `a` to `b` the pairing ends: no peer, no role, IDLE. -/
def Unpaired (a b : Blk) : Prop :=
  { a with regs := b.regs, net := { a.net with peer := none, tolAt := none } } = b ∧ b.fld F.FLEET_ROLE_ROLE 0 = 0 ∧
    b.fld F.FLEET_STATUS_STATE 0 = 0 ∧ RegsKeptBut (fun r i => i = 0 ∧ (r = .FLEET_ROLE ∨ r = .FLEET_STATUS)) a b

/-- From `a` to `b` a ROLE exchange has ended without a grant: LOST becomes IDLE and the pairing ends; else nothing changes. -/
def LostEnds (a b : Blk) : Prop :=
  (a.fld F.FLEET_STATUS_STATE 0 = 3 → Unpaired a b) ∧ (a.fld F.FLEET_STATUS_STATE 0 ≠ 3 → b = a)

/-- From `a` to `b` a fleet TAKE (0) or GIVE (1) of `peer` is answered: not at all while the peer is held off, refused without LEAD_OK, else
granted with the role taken. -/
def FleetAnswers (kind peer : Nat) (a b : Blk) : Prop :=
  let off := a.tb1 < SMap.get a.net.holdoff peer 0
  (off → b = a) ∧ (¬ off → a.flag F.FLEET_CFG_LEAD_OK 0 = false → LostEnds (a.fleetRole 3 peer 3) b) ∧
    (¬ off → a.flag F.FLEET_CFG_LEAD_OK 0 = true → Paired peer (2 - kind) (a.fleetRole 2 peer 0) b)

/-- From `a` to `b` the follower's errors count: within tolerance the time since is kept; beyond it there is none, and READY falls to
TRACKING. -/
def ErrorsCount (along across : Int) (a b : Blk) : Prop :=
  let fits := along.natAbs ≤ a.fld F.FLEET_TOL_ALONG_TOL 0 ∧ across.natAbs ≤ a.fld F.FLEET_TOL_ACROSS_TOL 0
  (fits → b = { a with net := { a.net with tolAt := some (a.net.tolAt.getD a.tb1) } }) ∧
    (¬ fits → { a with regs := b.regs, net := { a.net with tolAt := none } } = b ∧
      b.fld F.FLEET_STATUS_STATE 0 = (if a.fld F.FLEET_STATUS_STATE 0 = 2 then 1 else a.fld F.FLEET_STATUS_STATE 0) ∧
      RegsKeptBut (fun r i => i = 0 ∧ r = .FLEET_STATUS) a b)

end Sys2Proof.Claims

/-- ETH_FRAME, ETH_DISABLE, ETH_LINK_CHANGE, CAN_FRAME_RECEIVE, CAN_TRANSMIT, BUS_OFF, CAN_RESTART, BUS_OFF_RECOVERY, CAN_DISABLE, ISOBUS_MESSAGE,
ENGINE_REQUEST_SEND and PGN_TIMEOUT complete where their condition holds. A tagged frame is counted; an echo request and a solicitation
of an own address, to all nodes from ::, are answered while the compute side runs; a datagram for an own address or all nodes reaches the range sensors and, on its port, the fleet link. A port that is switched off loses
its link and counts the frames that waited, and frames that waited
leave as the link comes up. A frame that a filter accepts is the next 80 bytes of the receive ring, or counts an overrun; one that
completes leaves its ring or its unit. A controller that is bus-off rejoins on RESTART, or by itself under AUTO_REC. The ISOBUS stack claims its address when asked, keeps it against a
greater NAME and else claims another, or none; it answers a transport request and a value request, which on CAN2 the J1939 stack does alike. The engine
request carries the target of HF30 every 100 ms, and a value that has not come for 500 ms is lost. Errors on a bus move the error counters, which
make a controller error passive or bus-off (log 58); with a stack on, only classical frames of its form run. The formats of ISO 11783 and J1939 and the numbers of the data dictionary
follow log 20, which is no rule of the spec. -/
def Obligations.MachineNetworks : Prop :=
  (∀ (s : State) (e : Fin 6),
    let hears := fun (dst : BitVec 128) => dst ∈ s.blk.ownIps e ∨ dst = allNodes ∨ ∃ a ∈ s.blk.ownIps e, dst = solicitedNode a
    (s.blk.ethRuns = true → s.blk.flag F.ETH_CTRL_EN e = true → s.blk.flag F.ETH_STATUS_LINK e = true →
      Completes (.ethFrame e .tagged) s (fun b =>
        b.fld F.ETH_CNT_RX_DROP e = min (s.blk.fld F.ETH_CNT_RX_DROP e + 1) 65535 ∧
          RegsKeptBut (fun r i => r = .ETH_CNT ∧ i = e.val) s.blk b ∧ { s.blk with regs := b.regs } = b) ∧
      (∀ src dst data, Completes (.ethFrame e (.echo src dst data)) s fun b =>
        let answers := s.blk.computeRuns = true ∧ hears dst
        (answers → b = s.blk.ethSend e (.echo src data)) ∧ (¬ answers → b = s.blk)) ∧
      (∀ src dst target, Completes (.ethFrame e (.solicit src dst target)) s fun b =>
        let answers := s.blk.computeRuns = true ∧ target ∈ s.blk.ownIps e ∧ (dst = target ∨ dst = solicitedNode target)
        (answers → b = s.blk.ethSend e (.advert (if src = 0 then allNodes else src) target)) ∧ (¬ answers → b = s.blk)) ∧
      Completes (.ethFrame e .other) s fun b => b = s.blk) ∧
    (∀ src dst sport port l, s.blk.mod.phase ≠ .chrysalis → s.blk.ethUp e = true →
      Completes (.ethFrame e (.udp src dst sport port l)) s fun b =>
        let mine := hears dst
        let a := s.blk.pointPacket e port.toNat l
        (¬ mine → b = s.blk) ∧
        (mine → port.toNat = a.fld F.FLEET_CFG_FLEET_PORT 0 ∧ e = a.fld F.FLEET_CFG_ETH 0 → b = a.fleetDatagram l) ∧
        (mine → ¬ (port.toNat = a.fld F.FLEET_CFG_FLEET_PORT 0 ∧ e = a.fld F.FLEET_CFG_ETH 0) → b = a)) ∧
    (s.blk.aonRuns = true → Completes (.ethDisable e) s fun b =>
      b.flag F.ETH_CTRL_EN e = false ∧
      (s.blk.flag F.ETH_CTRL_EN e = false → RegsKept s.blk b ∧ { s.blk with regs := b.regs } = b) ∧
      (s.blk.flag F.ETH_CTRL_EN e = true → b.flag F.ETH_STATUS_LINK e = false ∧ SMap.get b.net.ethQ e.val [] = [] ∧
        b.fld F.ETH_CNT_TX_DROP e = min (s.blk.fld F.ETH_CNT_TX_DROP e + (SMap.get s.blk.net.ethQ e.val []).length) 65535 ∧
        (∀ q, q ≠ e.val → SMap.get b.net.ethQ q [] = SMap.get s.blk.net.ethQ q []) ∧
        { s.blk with regs := b.regs, net := { s.blk.net with ethQ := b.net.ethQ } } = b ∧
        RegsKeptBut (fun r i => i = e.val ∧ r ∈ [.ETH_CTRL, .ETH_STATUS, .ETH_CNT]) s.blk b)) ∧
    (s.blk.ethRuns = true → s.blk.flag F.ETH_CTRL_EN e = true → ∀ up, Completes (.ethLinkChange e up) s fun b =>
      b.flag F.ETH_STATUS_LINK e = up ∧ RegsKeptBut (fun r i => r = .ETH_STATUS ∧ i = e.val) s.blk b ∧
        (up = true → SMap.get b.net.ethQ e.val [] = [] ∧
          SMap.get b.net.wire e.val [] = SMap.get s.blk.net.wire e.val [] ++ SMap.get s.blk.net.ethQ e.val [] ∧
          (∀ q, q ≠ e.val → SMap.get b.net.ethQ q [] = SMap.get s.blk.net.ethQ q [] ∧
            SMap.get b.net.wire q [] = SMap.get s.blk.net.wire q []) ∧
          { s.blk with regs := b.regs, net := { s.blk.net with ethQ := b.net.ethQ, wire := b.net.wire } } = b) ∧
        (up = false → { s.blk with regs := b.regs } = b))) ∧
  (∀ (b : Blk) (e : Nat) (o : EthOut), b.flag F.ETH_CTRL_EN e = true → b.ethRuns = true →
    let c := b.ethSend e o
    { b with net := { b.net with wire := c.net.wire, ethQ := c.net.ethQ } } = c ∧
    (b.flag F.ETH_STATUS_LINK e = true → SMap.get c.net.wire e [] = SMap.get b.net.wire e [] ++ [o] ∧ c.net.ethQ = b.net.ethQ) ∧
    (b.flag F.ETH_STATUS_LINK e = false → SMap.get c.net.ethQ e [] = SMap.get b.net.ethQ e [] ++ [o] ∧ c.net.wire = b.net.wire)) ∧
  (∀ (s : State) (k : Fin 8),
    let x := s.blk.can k
    let status := fun (b : Blk) => RegsKeptBut (fun r i => r = .CAN_STATUS ∧ i = k.val) s.blk b ∧ { s.blk with regs := b.regs } = b
    let joins := fun (b : Blk) => b.fld F.CAN_STATUS_BUS k = 1 ∧ RegsKeptBut (fun r i => r = .CAN_STATUS ∧ i = k.val) s.blk b ∧
      { s.blk.setCan k { x with tec := 0, rec_ := 0 } with regs := b.regs } = b
    (s.blk.canRuns k = true →
      (∀ f full te re, Completes (.canFrameReceive k f full te re) s fun b => ∃ e, Erred k te.toNat re.toNat s.blk e ∧
        (e.canRuns k = false ∨ e.canForm k f = false → b = e) ∧
        (e.canRuns k = true → e.canForm k f = true → ∃ h a, Heard k e h ∧ Received k f full h a ∧
          (k ≠ 2 ∨ s.blk.stackOn 2 = false → b = a) ∧
          (k = 2 → s.blk.stackOn 2 = true →
            (pgnOf f = none → b = a.stackFrame 2 f) ∧
            (∀ i v, pgnOf f = some (i, v) → SMap.get b.net.pgn i none = some (v, s.blk.tb1) ∧
              let c := a.stackFrame 2 f
              (∀ j, j ≠ i → SMap.get b.net.pgn j none = SMap.get c.net.pgn j none) ∧
                b = { c with net := { c.net with pgn := b.net.pgn } })))) ∧
      (∀ own te re, Completes (.canTransmit k own te re) s fun b => ∃ e, Erred k te.toNat re.toNat s.blk e ∧
        let y := e.can k
        let f := e.canFrameAt (e.txEntry k y.tx)
        let sent := fun (z : CanSt) => Counted k (z.tec - 1) z.rec_ (e.setCan k z) b ∧ b.free = e.free
        (e.canRuns k = false → b = e) ∧
        (e.canRuns k = true → (∀ g l, own = true → x.own = g :: l → sent { y with own := l, wire := y.wire ++ [g] }) ∧
          (own = false → sent { y with
            wire := if e.canForm k f then y.wire ++ [f] else y.wire, tx := (y.tx + 1) % s.blk.ringN k }))) ∧
      Completes (.busOff k) s fun b => b.fld F.CAN_STATUS_BUS k = 3 ∧ status b) ∧
    (s.blk.canPowered = true → s.blk.flag F.CAN_CTRL_EN k = true → s.blk.fld F.CAN_STATUS_BUS k = 3 →
      Completes (.canRestart k) s joins ∧
        (s.blk.flag F.CAN_CTRL_AUTO_REC k = true → Completes (.busOffRecovery k) s joins) ∧
        (s.blk.flag F.CAN_CTRL_AUTO_REC k = false → Completes (.busOffRecovery k) s fun b => b = s.blk)) ∧
    (s.blk.aonRuns = true → ∀ bus, Completes (.canDisable k bus) s fun b =>
      b.flag F.CAN_CTRL_EN k = false ∧ b.fld F.CAN_STATUS_BUS k = 0 ∧
        RegsKeptBut (fun r i => i = k.val ∧ (r = .CAN_CTRL ∨ r = .CAN_STATUS)) s.blk b ∧
        let rest := fun (c : Blk) => { c with regs := b.regs } = b
        (s.blk.canRuns k = false ∨ bus = none → rest s.blk) ∧
        (s.blk.canRuns k = true → bus = some true → ∀ g l, x.own = g :: l →
          rest (s.blk.setCan k { x with own := l, wire := x.wire ++ [g] })) ∧
        (s.blk.canRuns k = true → bus = some false →
          rest (s.blk.setCan k { x with
            wire := if s.blk.canForm k (s.blk.canFrameAt (s.blk.txEntry k x.tx))
              then x.wire ++ [s.blk.canFrameAt (s.blk.txEntry k x.tx)] else x.wire
            tx := (x.tx + 1) % s.blk.ringN k })))) ∧
  (∀ (b : Blk) (k : Nat) (f : CanFrame), b.canForm k f = true ↔
    b.stackOn k = false ∨ (f.fdf = false ∧ (k ≤ 1 ∨ f.ide = true))) ∧
  (∀ (s : State) (k : Fin 2), s.blk.canRuns k = true → s.blk.stackOn k = true →
    ∀ f, Completes (.isobusMessage k f) s fun b => b = s.blk.stackFrame k f) ∧
  (∀ (b : Blk) (k : Nat) (id : BitVec 29) (dlc : BitVec 4) (data : List Byte),
    let x := b.can k
    let c := b.stackFrame k ⟨false, false, true, id, dlc, data⟩
    let pf := id.toNat / 2 ^ 16 % 2 ^ 8
    let sa := id.toNat % 2 ^ 8
    let own := id.toNat / 2 ^ 8 % 2 ^ 8 = x.addr ∧ x.addr ≠ 254
    let all := id.toNat / 2 ^ 8 % 2 ^ 8 = 255
    let frame := fun (prio pf ps from_ : Nat) (d : List Byte) =>
      CanFrame.mk false false true (BitVec.ofNat 29 (prio * 2 ^ 26 + pf * 2 ^ 16 + ps * 2 ^ 8 + from_)) 8 d
    let claim := fun (a : Nat) => frame 6 0xEE 255 a (leBytes 8 b.isoName)
    let n := ofLeBytes data
    id.toNat.testBit 24 = false →
      (pf = 0xEA → own ∨ all → ofLeBytes (data.take 3) = 0xEE00 → c = b.setCan k { x with own := x.own ++ [claim x.addr] }) ∧
      (pf = 0xEE → sa = x.addr → x.addr ≠ 254 →
        (b.isoName < n → c = b.setCan k { x with own := x.own ++ [claim x.addr] }) ∧
        (n ≤ b.isoName → b.isoName.testBit 63 = true → ∃ a, a < 256 ∧
          c = (b.setCan k { x with addr := a, own := x.own ++ [claim a] }).took) ∧
        (n ≤ b.isoName → b.isoName.testBit 63 = false → c = b.setCan k { x with addr := 254, own := x.own ++ [claim 254] })) ∧
      (∀ ext : Bool,
        let mine := own ∧ (ext = true → k ≤ 1)
        let pgn := n / 2 ^ 40 % 2 ^ 24
        let asks := fun (t : TpSession) (got : Nat) =>
          let m := min t.most ((t.len + 6) / 7 - got)
          b.setCan k { x with
            tp := some { t with left := if ext then 0 else m }
            own := x.own ++ [if ext then frame 7 0xC8 t.src x.addr (leBytes 1 21 ++ leBytes 1 m ++ leBytes 3 (got + 1) ++ leBytes 3 t.pgn)
              else frame 7 0xEC t.src x.addr (leBytes 1 17 ++ leBytes 1 m ++ leBytes 1 (got + 1) ++ leBytes 2 0xFFFF ++ leBytes 3 t.pgn)] }
        (pf = (if ext then 0xC8 else 0xEC) → mine → n % 2 ^ 8 = (if ext then 20 else 16) →
          c = asks ⟨sa, pgn, n / 2 ^ 8 % 2 ^ (if ext then 32 else 16), [], true, ext, 0, 0,
            if ext then 255 else max 1 (n / 2 ^ 32 % 2 ^ 8)⟩ 0) ∧
        (pf = (if ext then 0xC7 else 0xEB) → mine ∨ (ext = false ∧ all) → ∀ t, x.tp = some t → t.src = sa → t.ext = ext →
          let got := t.data ++ (data.drop 1 ++ List.replicate 7 0xFF).take 7
          let u := { t with data := got, left := t.left - 1 }
          let next := t.left ≠ 0 ∧ 7 * (t.base + (data.getD 0 0).toNat) = t.data.length + 7
          (¬ next → c = b) ∧
          (next → got.length < t.len → t.left ≠ 1 ∨ t.own = false → c = b.setCan k { x with tp := some u }) ∧
          (next → got.length < t.len → t.left = 1 → t.own = true → c = asks u (got.length / 7)) ∧
          (next → t.len ≤ got.length → (c.can k).tp = none ∧ (c.can k).last = some { u with data := got.take t.len }))) ∧
      (pf = 0xCB → own → k ≤ 1 → (data.getD 0 0).toNat % 16 = 2 → ∀ i, loggedIndex (ofLeBytes ((data.drop 2).take 2)) = some i →
        c = b.setCan k { x with
          own := x.own ++ [frame 3 0xCB sa x.addr (leBytes 1 ((data.getD 0 0).toNat / 16 * 16 + 3) ++ (data.drop 1).take 3 ++
            leBytes 4 (b.tcValue i))] })) ∧
  ∀ (s : State),
    (s.blk.canRuns 2 = true → s.blk.stackOn 2 = true → (s.blk.can 2).addr ≠ 254 →
      (∀ t, s.blk.net.engAt = some t → t + 100000000 ≤ s.blk.tb1) → Completes .engineRequestSend s fun b =>
        let x := s.blk.can 2
        let f := CanFrame.mk false false true
          (BitVec.ofNat 29 (6 * 2 ^ 26 + 0xEF * 2 ^ 16 + s.blk.fld F.J1939_CFG_ENG_ADDR 0 * 2 ^ 8 + x.addr)) 8
          (leBytes 1 ((s.blk.reg .FN_TARGET 30).toNat % 256) ++ List.replicate 7 255)
        b = { s.blk with net := { s.blk.net with engAt := some s.blk.tb1 } }.setCan 2 { x with own := x.own ++ [f] }) ∧
    ∀ (g : Fin 3) v t, s.blk.aonRuns = true → SMap.get s.blk.net.pgn g.val none = some (v, t) → t + 500000000 ≤ s.blk.tb1 →
      Completes (.pgnTimeout g) s fun b =>
        SMap.get b.net.pgn g.val none = none ∧ (∀ j, j ≠ g.val → SMap.get b.net.pgn j none = SMap.get s.blk.net.pgn j none) ∧
          b = { s.blk with net := { s.blk.net with pgn := b.net.pgn } }

/-- FLEET_TAKE, FLEET_GIVE, FLEET_GRANT, FLEET_REFUSE, FLEET_ROLE_REQUEST, FLEET_ROLE_TIMEOUT, FLEET_HOLDOFF_END, STATE_SEND, UNLOAD, UNLOAD_SEND,
UNLOAD_READY, UNLOAD_LOST, FLEET_UNPAIR, RTK, LEDGER_SEND, LEDGER_ACK, LEDGER_RESEND_TIMEOUT and FLEET_DISABLE complete where their condition
holds. A datagram that fails a check is counted and does nothing else. A TAKE makes this node the follower and a GIVE the leader, refused
without LEAD_OK; of colliding requests the lower ID's stands, and the other node holds off 500 ms, in which it answers none (log 57). An answer ends the request and pairs on a GRANT. Messages of the peer move
IDLE to TRACKING, 1 s in tolerance makes READY, an error beyond it TRACKING again, and 500 ms of silence LOST until UNPAIR or the end of
a ROLE exchange. Corrections go to the GNSS host, and a leader relays them. At most 16
ledger records leave in a datagram, at most four of which are unacknowledged; an acknowledgement of a record sets YLD_ACK, and records held in AON move on. A datagram carries version,
type, length, sender, receiver, a sequence that rises, its payload and their CRC-32. -/
def Obligations.FleetLink : Prop :=
  (∀ (s : State) (d : List Byte), s.blk.fleetRuns = true → s.blk.ethUp (s.blk.fld F.FLEET_CFG_ETH 0) = true →
    let from_ := wordAt d 4
    let pay := (d.drop 16).take (wordAt d 0 / 2 ^ 16)
    let ok := fun (type : Nat) => s.blk.fleetOk d = true ∧ (d.getD 1 0).toNat = type
    let discards := fun (b : Blk) => b.fld F.FLEET_CNT_DISCARD 0 = min (s.blk.fld F.FLEET_CNT_DISCARD 0 + 1) 65535 ∧
      RegsKeptBut (fun r i => r = .FLEET_CNT ∧ i = 0) s.blk b ∧ { s.blk with regs := b.regs } = b
    (s.blk.fleetOk d = false →
      ∀ c ∈ [Instr.fleetTake d, .fleetGive d, .fleetGrant d, .fleetRefuse d, .unloadMessage d, .rtkDatagram d, .ledgerAck d],
        Completes c s discards) ∧
    (∀ kind : Fin 2, ok 2 → (pay.getD 0 0).toNat % 4 = kind.val →
      Completes (if kind = 0 then .fleetTake d else .fleetGive d) s fun b =>
        ((∀ r, s.blk.net.role = some r → r.peer ≠ from_) → FleetAnswers kind from_ s.blk b) ∧
        ∀ r, s.blk.net.role = some r → r.peer = from_ →
          let stands := s.blk.fleetId < from_
          let off := s.blk.tb1 < SMap.get s.blk.net.holdoff from_ 0
          ∃ q : Blk, { s.blk with regs := q.regs, mod := q.mod, jrn := q.jrn } = q ∧ q.flag F.FLEET_ROLE_COLLIDED 0 = true ∧
            OneRecord 596 0x14 0x02
              (r.kind * 2 ^ 30 + kind.val * 2 ^ 28 + (if stands then 2 ^ 27 else 0) + from_ % 2 ^ 24) s.blk q ∧
            RegsKeptBut (fun r i => (r = .FLEET_ROLE ∧ i = 0) ∨ RecReg r i) s.blk q ∧
            (stands → off → b = q) ∧ (stands → ¬ off → b = q.fleetRole 3 from_ 1) ∧
            (¬ stands → ∃ c, FleetAnswers kind from_ q c ∧ SMap.get b.net.holdoff from_ 0 = s.blk.tb1 + 500000000 ∧
              b = { c with net := { c.net with holdoff := b.net.holdoff } } ∧
              ∀ n, n ≠ from_ → SMap.get b.net.holdoff n 0 = SMap.get s.blk.net.holdoff n 0)) ∧
    (ok 2 →
      ((∀ r, s.blk.net.role = some r → r.peer ≠ from_) → ∀ x ∈ [(2, Instr.fleetGrant d), (3, .fleetRefuse d)],
        (pay.getD 0 0).toNat % 4 = x.1 → Completes x.2 s fun b => b = s.blk) ∧
      ∀ r, s.blk.net.role = some r → r.peer = from_ →
        let ends := fun (q : Blk) => { s.blk with regs := q.regs, net := { s.blk.net with role := none } } = q ∧
          q.flag F.FLEET_ROLE_PEND 0 = false ∧ RegsKeptBut (fun r i => r = .FLEET_ROLE ∧ i = 0) s.blk q
        ((pay.getD 0 0).toNat % 4 = 2 → Completes (.fleetGrant d) s fun b =>
          ∃ q, ends q ∧ q.flag F.FLEET_ROLE_GRANTED 0 = true ∧ Paired from_ (if r.kind = 0 then 1 else 2) q b) ∧
        ((pay.getD 0 0).toNat % 4 = 3 → Completes (.fleetRefuse d) s fun b =>
          ∃ q, ends q ∧ q.flag F.FLEET_ROLE_REFUSED 0 = true ∧ LostEnds q b)) ∧
    (ok 3 → Completes (.unloadMessage d) s fun b =>
      let e := wordAt pay 16
      (s.blk.net.peer ≠ some from_ ∨ s.blk.fld F.FLEET_STATUS_STATE 0 = 3 → b = s.blk) ∧
      (s.blk.net.peer = some from_ → s.blk.fld F.FLEET_STATUS_STATE 0 ≠ 3 →
        ∃ q : Blk, { s.blk with regs := q.regs, net := { s.blk.net with unloadAt := s.blk.tb1 } } = q ∧
          q.fld F.FLEET_STATUS_STATE 0 = max 1 (s.blk.fld F.FLEET_STATUS_STATE 0) ∧
          RegsKeptBut (fun r i => r = .FLEET_STATUS ∧ i = 0) s.blk q ∧
          ((pay.getD 0 0).toNat ≠ 2 → b = q) ∧
          ((pay.getD 0 0).toNat = 2 →
            ErrorsCount (BitVec.ofNat 16 e).toInt (BitVec.ofNat 16 (e / 2 ^ 16)).toInt q b))) ∧
    (ok 4 → Completes (.rtkDatagram d) s fun b =>
      let frames := rtcmFrames 1200 pay
      let c := if s.blk.flag F.GNSS_CTRL_HOST 0 = true then frames.foldl Blk.rtcmFrame s.blk
        else { s.blk with net := { s.blk.net with rtk := s.blk.net.rtk ++ frames } }
      let relays := c.flag F.FLEET_CFG_RELAY_OUT 0 = true ∧ c.fld F.FLEET_ROLE_ROLE 0 = 1
      (c.net.peer = none ∨ ¬ relays → b = c) ∧ (∀ peer, c.net.peer = some peer → relays → b = c.fleetSend 4 peer pay)) ∧
    (ok 6 →
      let v := wordAt pay 0
      let raises := (s.blk.reg .YLD_ACK 0).toNat < v ∧ v < s.blk.seqBefore
      (¬ raises → Completes (.ledgerAck d) s discards) ∧
      (raises → s.blk.yld.held.length ≤ 64 → Completes (.ledgerAck d) s fun b =>
        b.reg .YLD_ACK 0 = BitVec.ofNat 32 v ∧
          b.net = { s.blk.net with upAt := s.blk.tb1, upOut := s.blk.net.upOut.filter fun n => decide (v < n) } ∧
          (∃ n, b.yld = { s.blk.yld with held := s.blk.yld.held.drop n }) ∧
          (b.yld.held = [] ∨ b.flag F.YLD_STATUS_FULL 0 = true) ∧ b.mod = s.blk.mod ∧ MemKept s.blk b ∧
          RegsKeptBut (fun r i => i = 0 ∧ r ∈ [.YLD_ACK, .YLD_STATUS]) s.blk b))) ∧
  (∀ (s : State), s.blk.fleetRuns = true →
    (∀ r, s.blk.net.role = some r → r.at_ + 1000000000 ≤ s.blk.tb1 → Completes .fleetRoleTimeout s fun b =>
      ∃ q : Blk, { s.blk with regs := q.regs, net := { s.blk.net with role := none } } = q ∧ q.flag F.FLEET_ROLE_PEND 0 = false ∧
        q.flag F.FLEET_ROLE_REFUSED 0 = true ∧ RegsKeptBut (fun r i => r = .FLEET_ROLE ∧ i = 0) s.blk q ∧ LostEnds q b) ∧
    (∀ fill, (∀ t, s.blk.net.stateAt = some t → t + max 1 (s.blk.fld F.FLEET_CFG_STATE_S 0) * 1000000000 ≤ s.blk.tb1) →
      Completes (.stateSend fill) s fun b => ∃ pay : List Byte, pay.length = 80 ∧
        (∀ k, k < 16 → wordAt pay (4 * k) = (s.blk.navRec.getD k 0).toNat) ∧
        (∀ n, 1 ≤ n → n ≤ 30 → ofLeBytes ((pay.drop 64).take 8) / 4 ^ (n - 1) % 4 = s.blk.fld F.FN_MODE_ACT n) ∧
        wordAt pay 72 = s.blk.yld.job.toNat ∧ ofLeBytes ((pay.drop 76).take 2) = fill.toNat ∧
        (pay.getD 78 0).toNat = s.blk.fld F.YLD_STATUS_JOB_STATE 0 ∧ (pay.getD 79 0).toNat = s.blk.fld F.FLEET_ROLE_ROLE 0 ∧
        b = { s.blk with net := { s.blk.net with stateAt := some s.blk.tb1 } }.fleetSend 1 0xFFFFFFFF pay) ∧
    (∀ peer lat lon (fill : BitVec 16) along across, s.blk.net.peer = some peer →
      (∀ t, s.blk.net.sentAt = some t → t + 100000000 ≤ s.blk.tb1) →
      Completes (.unloadSend lat lon fill along across) s fun b => ∃ pay : List Byte, pay.length = 24 ∧
        let role := s.blk.fld F.FLEET_ROLE_ROLE 0
        let q := { s.blk with net := { s.blk.net with sentAt := some s.blk.tb1 } }.fleetSend 3 peer pay
        wordAt pay 0 = role + s.blk.fld F.FLEET_STATUS_STATE 0 * 2 ^ 8 + fill.toNat * 2 ^ 16 ∧ wordAt pay 4 = lat.toNat ∧
        wordAt pay 8 = lon.toNat ∧
        wordAt pay 12 = min 65535 (s.blk.navRec.getD 15 0).toNat * 2 ^ 16 + (s.blk.navRec.getD 12 0).toNat % 2 ^ 16 ∧
        wordAt pay 16 =
          (if role = 2 then (BitVec.ofInt 16 across).toNat * 2 ^ 16 + (BitVec.ofInt 16 along).toNat else 0) ∧ wordAt pay 20 = 0 ∧
        (role = 2 → ErrorsCount along across q b) ∧ (role ≠ 2 → b = q)) ∧
    (∀ t, s.blk.net.tolAt = some t → s.blk.fld F.FLEET_STATUS_STATE 0 = 1 → t + 1000000000 ≤ s.blk.tb1 →
      Completes .unloadReady s fun b =>
        b.fld F.FLEET_STATUS_STATE 0 = 2 ∧ RegsKeptBut (fun r i => r = .FLEET_STATUS ∧ i = 0) s.blk b ∧
          { s.blk with regs := b.regs } = b) ∧
    (s.blk.net.peer ≠ none → s.blk.net.unloadAt + 500000000 ≤ s.blk.tb1 → Completes .unloadLost s fun b =>
      b.fld F.FLEET_STATUS_STATE 0 = 3 ∧ RegsKeptBut (fun r i => r = .FLEET_STATUS ∧ i = 0) s.blk b ∧
        { s.blk with regs := b.regs, net := { s.blk.net with tolAt := none } } = b) ∧
    (let ack := (s.blk.reg .YLD_ACK 0).toNat
     let out := s.blk.net.upOut.filter fun n => decide (ack < n)
     let l := s.blk.ledgerFrom (max s.blk.net.upNext (ack + 1)) 16
     ∀ e, ack + 1 < (s.blk.reg .YLD_SEQ 0).toNat → out.length < 4 → l.getLast? = some e → Completes .ledgerSend s fun b =>
      let q := { s.blk with net := { s.blk.net with
        upNext := ledgerSeq e + 1, upOut := out ++ [ledgerSeq e], upAt := if out = [] then s.blk.tb1 else s.blk.net.upAt } }
      l.length ≤ 16 ∧ (∀ e ∈ l, ack < ledgerSeq e) ∧ b = q.fleetSend 5 0xFFFFFFFF l.flatten) ∧
    (s.blk.net.upOut ≠ [] → s.blk.net.upAt + 5000000000 ≤ s.blk.tb1 → Completes .ledgerResendTimeout s fun b =>
      b = { s.blk with net := { s.blk.net with
        upNext := (s.blk.reg .YLD_ACK 0).toNat + 1, upOut := [], upAt := s.blk.tb1 } })) ∧
  (∀ (s : State), s.blk.aonRuns = true →
    (∀ v : Word,
      let peer := (s.blk.reg .FLEET_PEER 0).toNat
      let req := F.FLEET_ROLE_REQ.get v
      let sends := s.blk.fleetRuns = true ∧ (req = 1 ∨ req = 2) ∧ s.blk.net.role = none ∧
        SMap.get s.blk.net.holdoff peer 0 ≤ s.blk.tb1
      Completes (.fleetRoleRequest v) s fun b => ∃ q : Blk, { s.blk with regs := q.regs } = q ∧
        (∀ f ∈ [F.FLEET_ROLE_GRANTED, F.FLEET_ROLE_REFUSED, F.FLEET_ROLE_COLLIDED],
          q.flag f 0 = (s.blk.flag f 0 && f.get v == 0)) ∧ RegsKeptBut (fun r i => r = .FLEET_ROLE ∧ i = 0) s.blk q ∧
        (¬ sends → b = q ∧ q.flag F.FLEET_ROLE_PEND 0 = s.blk.flag F.FLEET_ROLE_PEND 0) ∧
        (sends → q.flag F.FLEET_ROLE_PEND 0 = true ∧
          b = { q with net := { s.blk.net with role := some ⟨req - 1, peer, s.blk.tb1⟩ } }.fleetRole (req - 1) peer 0)) ∧
    Completes .fleetUnpair s (Unpaired s.blk) ∧
    (s.blk.flag F.FLEET_CTRL_EN 0 = true → Completes .fleetDisable s fun b =>
      ∃ q : Blk, Unpaired q b ∧ { s.blk with regs := q.regs, net := { s.blk.net with role := none } } = q ∧
        q.flag F.FLEET_CTRL_EN 0 = false ∧ q.flag F.FLEET_ROLE_PEND 0 = false ∧
        RegsKeptBut (fun r i => i = 0 ∧ (r = .FLEET_CTRL ∨ r = .FLEET_ROLE)) s.blk q) ∧
    ∀ peer : BitVec 32, SMap.get s.blk.net.holdoff peer.toNat 0 ≤ s.blk.tb1 → Completes (.fleetHoldoffEnd peer) s fun b =>
      SMap.get b.net.holdoff peer.toNat 0 = 0 ∧ b = { s.blk with net := { s.blk.net with holdoff := b.net.holdoff } } ∧
        ∀ n, n ≠ peer.toNat → SMap.get b.net.holdoff n 0 = SMap.get s.blk.net.holdoff n 0) ∧
  (∀ (b : Blk) (kind peer reason : Nat),
    b.fleetRole kind peer reason = b.fleetSend 2 peer (leBytes 4 (kind + reason * 16) ++ leBytes 4 0)) ∧
  (∀ (b : Blk) (d : List Byte), b.fleetOk d = true ↔
    wordAt d 0 % 256 = 1 ∧ d.length = wordAt d 0 / 2 ^ 16 + 20 ∧
      wordAt d (d.length - 4) = (crc32 (d.take (d.length - 4))).toNat ∧
      (wordAt d 8 = b.fleetId ∨ wordAt d 8 = 0xFFFFFFFF) ∧ wordAt d 4 ≠ b.fleetId ∧
      fleetLenOk (d.getD 1 0).toNat (wordAt d 0 / 2 ^ 16) = true) ∧
  ∀ (b : Blk) (type dst : Nat) (pay : List Byte),
    let c := b.fleetSend type dst pay
    let e := b.fld F.FLEET_CFG_ETH 0
    { b with
      regs := c.regs,
      net := { b.net with seq := (b.net.seq + 1) % 2 ^ 32, wire := c.net.wire, ethQ := c.net.ethQ } } = c ∧
    c.fld F.FLEET_CNT_SENT 0 = (b.fld F.FLEET_CNT_SENT 0 + 1) % 65536 ∧
    RegsKeptBut (fun r i => r = .FLEET_CNT ∧ i = 0) b c ∧
    (b.flag F.ETH_CTRL_EN e = true → b.ethRuns = true → type < 256 → pay.length < 65536 →
      ∃ d : Datagram, wordAt d.payload 0 = 1 + type * 2 ^ 8 + pay.length * 2 ^ 16 ∧ wordAt d.payload 4 = b.fleetId ∧
        wordAt d.payload 8 = dst % 2 ^ 32 ∧ wordAt d.payload 12 = b.net.seq % 2 ^ 32 ∧
        (d.payload.drop 16).take pay.length = pay ∧ d.payload.length = pay.length + 20 ∧
        wordAt d.payload (pay.length + 16) = (crc32 (d.payload.take (pay.length + 16))).toNat ∧
        d.port = b.fld F.FLEET_CFG_FLEET_PORT 0 ∧ d.src = b.fld F.FLEET_CFG_FLEET_PORT 0 ∧
        d.dst = b.reg .FLEET_GW 3 ++ b.reg .FLEET_GW 2 ++ b.reg .FLEET_GW 1 ++ b.reg .FLEET_GW 0 ∧
        (b.flag F.ETH_STATUS_LINK e = true → SMap.get c.net.wire e [] = SMap.get b.net.wire e [] ++ [.udp d]) ∧
        (b.flag F.ETH_STATUS_LINK e = false → SMap.get c.net.ethQ e [] = SMap.get b.net.ethQ e [] ++ [.udp d]))

namespace Sys2Proof.Claims

/-- The band of DRAM channel `c`. -/
def bandOf (b : Blk) (c : Nat) : Nat := b.fld (if c = 0 then F.PWR_DRAM_BAND0 else F.PWR_DRAM_BAND1) 0

/-- What a housekeeping round raises in class 0x0F, detail and data, in order: sensors that have faulted, the reduction, tiles that
throttle, DRAM channels that stall. -/
def roundRecs (x : Readings) (a b : Blk) : List (Nat × Nat) :=
  (((List.range 60).filter fun h => hkFault x h && !a.pwr.faulted.contains h).map fun h => (0x05, h * 2 ^ 25)) ++
    (if b.fld F.PWR_STATUS_K 0 < 1000 ∧ a.pwr.reducing = false then
      [(0x03, b.fld F.PWR_THERM_HOT_CH 0 % 64 * 2 ^ 26 + b.fld F.PWR_STATUS_K 0 * 2 ^ 16 + b.fld F.PWR_THERM_HOT_T 0)] else []) ++
    (((List.range 32).filter fun t => decide (1400 ≤ (hkValid x t).getD 1400) && !a.flag F.TILE_STATUS_THR_REQ t).map fun t =>
      (0x01, t * 2 ^ 27 + (BitVec.ofInt 16 ((hkValid x t).getD 1400)).toNat)) ++
    (((List.range 2).filter fun c => bandOf b c == 3 && !a.pwr.stalled.contains c).map fun c =>
      (0x06, c * 2 ^ 31 + (BitVec.ofInt 16 ((hkValid x (58 + c)).getD 0)).toNat))

/-- From `a` to `b` the registers that show readings take those of the round: the words, the companions, the feeds, the speeds. -/
def ReadingsShown (x : Readings) (energy : BitVec 16) (a b : Blk) : Prop :=
  b.pwr.round = a.tb1 / 10000000 ∧ b.fld F.HK_ROUND_ROUND 0 = (a.fld F.HK_ROUND_ROUND 0 + 1) % 2 ^ 32 ∧
    b.fld F.PWR_HOLDUP_ENERGY 0 = energy.toNat ∧
    (∀ h, h < 128 → b.reg .HK_WORD h = hkWord x (a.fld F.HK_ROUND_ROUND 0 + 1) h) ∧
    (∀ k, k < 8 →
      (∀ v, hkValid x (40 + k) = some v → b.fld F.SOL_COMP_TEMP_TEMP k = (BitVec.ofInt 16 v).toNat) ∧
      (∀ v, hkValid x (48 + k) = some v → b.fld F.LSW_BANK_TEMP_TEMP k = (BitVec.ofInt 16 v).toNat) ∧
      (hkValid x (40 + k) = none → b.reg .SOL_COMP_TEMP k = a.reg .SOL_COMP_TEMP k) ∧
      (hkValid x (48 + k) = none → b.reg .LSW_BANK_TEMP k = a.reg .LSW_BANK_TEMP k) ∧
      b.fld F.LSW_BANK_FEED_FEED_V k = (x.getD (62 + k) (0, false)).1.toNat % 2 ^ 16 ∧
      b.fld F.LSW_BANK_FEED_FEED_I k = (x.getD (70 + k) (0, false)).1.toNat % 2 ^ 16) ∧
    (∀ f, f < 10 → b.fld F.COOL_STATUS_RPM f = min 65535 (x.getD (82 + f) (0, false)).1.toNat) ∧
    b.out = { a.out with comp := b.out.comp } ∧
    ∀ k, b.comp k = if k < 8 ∧ (hkValid x (40 + k)).any (fun v => decide (v < 1650)) = true
      then { a.comp k with hot := false } else a.comp k

/-- From `a` to `b` the round acts on the die: hottest reading, K, clock step, throttle of the tiles. -/
def DieProtected (x : Readings) (a b : Blk) : Prop :=
  let bad4 := 4 ≤ ((List.range 40).filter (hkFault x)).length
  let asked := match dieHottest x with
    | some (_, t) => factorOf t
    | none => a.fld F.PWR_STATUS_K 0
  (b.flag F.PWR_THERM_DIE_FAULT4 0 = true ↔ bad4) ∧
    b.fld F.PWR_STATUS_K 0 = min (if bad4 then min asked 700 else asked) (a.fld F.PWR_STATUS_K 0 + 50) ∧
    b.fld F.PWR_STATUS_LECLK_N 0 = leclkStep (b.fld F.PWR_STATUS_K 0) (a.supply == 1) ∧
    (∀ h t, dieHottest x = some (h, t) → b.fld F.PWR_THERM_HOT_CH 0 = h ∧ b.fld F.PWR_THERM_HOT_T 0 = (BitVec.ofInt 16 t).toNat) ∧
    (b.flag F.PWR_EVT_REDUCED 0 = true ↔
      a.flag F.PWR_EVT_REDUCED 0 = true ∨ (b.fld F.PWR_STATUS_K 0 < 1000 ∧ a.pwr.reducing = false)) ∧
    (b.pwr.reducing = true ↔ a.pwr.reducing = true ∨ b.fld F.PWR_STATUS_K 0 < 1000) ∧
    b.pwr.k1000At = (if b.fld F.PWR_STATUS_K 0 = 1000 then some (a.pwr.k1000At.getD a.tb1) else none) ∧
    ∀ t, t < 32 →
      let v := (hkValid x t).getD 1400
      let on := a.flag F.TILE_STATUS_THR_REQ t
      (b.flag F.TILE_STATUS_THR_REQ t = true ↔ 1400 ≤ v ∨ (on = true ∧ 1350 ≤ v)) ∧
        (b.flag F.TILE_TEMP_SEEN_THR_SEEN t = true ↔
          a.flag F.TILE_TEMP_SEEN_THR_SEEN t = true ∨ b.flag F.TILE_STATUS_THR_REQ t = true) ∧
        b.flag F.TILE_STATUS_GATED t = (if v < 1350 ∧ on = true then false else a.flag F.TILE_STATUS_GATED t) ∧
        SMap.get b.le.grace t none =
          if 1400 ≤ v ∧ on = false then some a.tb1 else if v < 1350 ∧ on = true then none else SMap.get a.le.grace t none

/-- From `a` to `b` the round acts on what follows temperatures: DRAM bands, equalisation, zones, cooling outputs. -/
def BandsFollow (x : Readings) (a b : Blk) : Prop :=
  (∀ c, c < 2 → bandOf b c = match hkValid x (58 + c) with
      | some v => dramBand (bandOf a c) v
      | none => 2) ∧
    b.pwr.stalled = (List.range 2).foldl (fun l c =>
      if bandOf b c = 3 then (if l.contains c then l else l ++ [c]) else l.erase c) a.pwr.stalled ∧
    (∀ p, p < 8 → b.fld F.PORT_STATUS_PRESET p = match hkValid x 37 with
      | some v => hystLevel [(a.fld F.FAB_EQ_EQ_TH1 0 : Int) * 10, (a.fld F.FAB_EQ_EQ_TH2 0 : Int) * 10]
          (a.fld F.PORT_STATUS_PRESET p) v
      | none => a.fld F.PORT_STATUS_PRESET p) ∧
    (∀ z, z < 12 → ((∃ h ∈ zoneSensors z, hkFault x h = true) → b.fld F.TZ_STAT_DEMAND z = 1000) ∧
      (hottest x (zoneSensors z) = none → b.fld F.TZ_STAT_TEMP z = a.fld F.TZ_STAT_TEMP z) ∧
      ∀ h t, hottest x (zoneSensors z) = some (h, t) → b.fld F.TZ_STAT_TEMP z = (BitVec.ofInt 16 t).toNat ∧
        ((∀ g ∈ zoneSensors z, hkFault x g = false) →
          b.fld F.TZ_STAT_DEMAND z = demandOf (a.fld F.TZ_CFG_T_LO z) (a.fld F.TZ_CFG_T_HI z) t)) ∧
    ∀ f, f < 10 →
      let zone := (List.range 12).foldl (fun acc z =>
        if (a.fld F.COOL_CFG_ZONE_MASK f).testBit z then max acc (b.fld F.TZ_STAT_DEMAND z) else acc) 0
      let want := max (min 1000 (a.fld F.COOL_CFG_MIN_DUTY f * 10)) (max zone (min 1000 (a.fld F.COOL_HOST_HOST f)))
      let slow := b.fld F.COOL_STATUS_RPM f < a.fld F.COOL_MIN_MIN_RPM f
      b.fld F.COOL_STATUS_DUTY f = (if b.mod.phase = .released ∨ b.mod.phase = .running then max want (a.fld F.COOL_STATUS_DUTY f - 20) else 1000) ∧
        (b.coolOut f).lowAt = (if slow ∧ 300 ≤ b.fld F.COOL_STATUS_DUTY f then some ((a.coolOut f).lowAt.getD a.tb1) else none) ∧
        (b.coolOut f).okAt = if slow then none else some ((a.coolOut f).okAt.getD a.tb1)

/-- From `a` to `b` the round shuts the module down at 158.0 °C, and in a shutdown waits for its end; it raises its records. Outside
supply state NORMAL its reading of the module supply may be the lowest so far. -/
def ShutdownWatched (x : Readings) (a b : Blk) : Prop :=
  let c := (roundRecs x a b).foldl (fun c r => c.raise 594 0x0F r.1 r.2) a
  let down := ∃ h t, dieHottest x = some (h, t) ∧ 1580 ≤ t ∧ a.mod.phase ≠ .thermalHold
  let low := if a.supply = 0 then a.mod.vbatLow else min a.mod.vbatLow (x.getD 60 (0, false)).1.toNat
  b.jrn = c.jrn ∧ b.reg .SYS_FAULT_LATCH 0 = c.reg .SYS_FAULT_LATCH 0 ∧ b.reg .FAB_FLTQ 0 = c.reg .FAB_FLTQ 0 ∧
    (¬ down → b.mod = { c.mod with vbatLow := low } ∧ b.pwr.doms = a.pwr.doms ∧ b.reg .SYS_STATUS 0 = a.reg .SYS_STATUS 0 ∧
      ∀ d, d < 64 → b.reg .PD_STATUS d = a.reg .PD_STATUS d ∧ b.reg .PD_CTRL d = a.reg .PD_CTRL d) ∧
    (∀ h t, dieHottest x = some (h, t) → 1580 ≤ t → a.mod.phase ≠ .thermalHold →
      b.mod = { c.mod with
        heldRecs := c.mod.heldRecs ++ [a.mkRec 594 0x0F 0x04 (h % 64 * 2 ^ 26 + (BitVec.ofInt 16 t).toNat)],
        phase := .thermalHold, vbatLow := low } ∧
      b.configDone = false ∧ b.pwr.doms = [] ∧ b.pwr.coldAt = none ∧
      ∀ d, d < 64 → b.pdState d = 0 ∧ b.flag F.PD_CTRL_ON d = false) ∧
    (a.mod.phase ≠ .thermalHold → ¬ down → b.pwr.coldAt = a.pwr.coldAt) ∧
    (a.mod.phase = .thermalHold → b.pwr.coldAt = match dieHottest x with
      | some (_, t) => if t < 1200 then some (a.pwr.coldAt.getD a.tb1) else none
      | none => a.pwr.coldAt)

/-- The registers that a housekeeping round may write. -/
def RoundReg (r : RegName) (i : Nat) : Prop :=
  RecReg r i ∨ (i = 0 ∧ r ∈ [.HK_ROUND, .PWR_HOLDUP, .PWR_THERM, .PWR_STATUS, .PWR_EVT, .PWR_DRAM, .SYS_STATUS]) ∨
    (i < 8 ∧ r ∈ [.SOL_COMP_TEMP, .LSW_BANK_TEMP, .LSW_BANK_FEED, .PORT_STATUS]) ∨ (i < 10 ∧ r = .COOL_STATUS) ∨
    (i < 12 ∧ r = .TZ_STAT) ∨ (i < 32 ∧ r ∈ [.TILE_STATUS, .TILE_TEMP_SEEN]) ∨ (i < 64 ∧ r ∈ [.PD_STATUS, .PD_CTRL]) ∨
    (i < 128 ∧ r = .HK_WORD)

/-- From `a` to `b` a record of class 0x10 is raised as the supply stands at `mv`, the lowest so far being `low`. -/
def SupplyRecord (detail data mv low : Nat) (a b : Blk) : Prop :=
  let c := a.raise 594 0x10 detail data
  b.mod = { c.mod with vbat := mv, vbatLow := low } ∧ b.reg .SYS_FAULT_LATCH 0 = c.reg .SYS_FAULT_LATCH 0 ∧
    b.reg .FAB_FLTQ 0 = c.reg .FAB_FLTQ 0

/-- From `a` to `b` nothing but registers and the state of power changes, and of registers only PD_CTRL and PD_STATUS of domain `d`. -/
def OnlyDomain (d : Nat) (a b : Blk) : Prop :=
  RegsKeptBut (fun r i => i = d ∧ (r = .PD_CTRL ∨ r = .PD_STATUS)) a b ∧ { a with regs := b.regs, pwr := b.pwr } = b ∧
    (∀ e, e ≠ d → b.dom e = a.dom e) ∧ { b.pwr with doms := a.pwr.doms, reqNo := a.pwr.reqNo } = a.pwr

/-- From `a` to `b` domain `d` stops now. -/
def Stops (d : Nat) (a b : Blk) : Prop :=
  b.pdState d = 5 ∧ b.flag F.PD_CTRL_ON d = false ∧ b.dom d = { a.dom d with at_ := a.tb1, offReq := false, force := false, again := false } ∧
    b.pwr.reqNo = a.pwr.reqNo

/-- From `a` to `b` domain `d`, told to switch off, stops where no work is pending; else the request is refused. -/
def StopsOrRefuses (d : Nat) (a b : Blk) : Prop :=
  OnlyDomain d a b ∧ (a.pdPending d = false → Stops d a b) ∧
    (a.pdPending d = true → b.pdState d = 4 ∧ b.flag F.PD_CTRL_ON d = true ∧ b.flag F.PD_STATUS_REFUSED d = true ∧
      (b.dom d).offReq = false ∧ b.pwr.reqNo = a.pwr.reqNo)

/-- From `a` to `b` the pending work of domain `d` is ended as the operation for its kind of domain does it, and the domain stops. -/
def ForcedOff (d err : Nat) (a b : Blk) : Prop :=
  OnlyDomain d (a.forceWork d err) b ∧ Stops d (a.forceWork d err) b ∧ b.flag F.PD_STATUS_FORCED d = true ∧
    (d ≤ 31 → ∀ i, i < 128 → b.taskState (d * 128 + i) = 0) ∧ (32 ≤ d → d ≤ 43 →
      b.camState (d - 32) = if a.camState (d - 32) ≠ 0 ∧ b.ownWaiting (480 + d) = true then 2 else 0) ∧
    (44 ≤ d → d ≤ 47 → ∀ m, m < 8 → (a.fld F.MODEL_CFG_QUADS m).testBit (d - 44) = true → b.flag F.MODEL_STATUS_PEND m = false ∧
      (a.flag F.MODEL_STATUS_PEND m = true → b.flag F.MODEL_STATUS_LOAD_REFUSED m = true)) ∧
    (48 ≤ d → d ≤ 49 → b.flag F.GNSS_CTRL_EN 0 = false) ∧ (50 ≤ d → d ≤ 57 → b.flag F.PORT_CTRL_EN (d - 50) = false) ∧
    (d = 60 → ∀ e, e < 6 → b.flag F.ETH_CTRL_EN e = false) ∧ (d = 61 → ∀ k, k < 8 → b.flag F.CAN_CTRL_EN k = false) ∧
    (d = 62 → b.verifying = false) ∧ (d ∈ [58, 59, 63] → a.forceWork d err = a)

/-- From `a` to `b` domain `d`, which is OFF, is requested. -/
def Requested (d : Nat) (a b : Blk) : Prop :=
  b.pdState d = 1 ∧ b.flag F.PD_CTRL_ON d = true ∧ b.dom d = { DomSt.zero with reqNo := a.pwr.reqNo, at_ := a.tb1 } ∧
    b.pwr.reqNo = a.pwr.reqNo + 1 ∧ OnlyDomain d a b

/-- From `a` to `b` the wake sequencer admits the heads of the queue while they fit. -/
def HeadsAdmitted (a b : Blk) : Prop :=
  RegsKeptBut (fun r i => i < 64 ∧ r = .PD_STATUS) a b ∧ { a with regs := b.regs, pwr := b.pwr } = b ∧
    (a.creditsHeld ≤ 16 → b.creditsHeld ≤ 16) ∧ (∀ h, b.pdHead = some h → 16 < b.creditsHeld + wakeCredits h) ∧
    (∀ q, q < 64 → b.pdState q = a.pdState q ∨ (a.pdState q = 1 ∧ b.pdState q = 2) ∨
      (a.pdState q = 0 ∧ a.flag F.PD_CTRL_ON q = true ∧ (b.pdState q = 1 ∨ b.pdState q = 2))) ∧
    (∀ q, q < 64 → a.pdState q = 0 → a.flag F.PD_CTRL_ON q = true → b.pdState q ≠ 0) ∧
    (∀ q, q < 64 → a.pdState q ≠ 2 → b.pdState q = 2 → (b.dom q).at_ = a.tb1) ∧
    ∀ q r, q < 64 → r < 64 → a.pdState q ≠ 2 → b.pdState q = 2 → b.pdState r = 1 → b.pdBefore q r = true

end Sys2Proof.Claims

/-- HOUSEKEEPING_ROUND, REDUCTION_END, SHUTDOWN_RESTART, COOL_HOST_WRITE, HOST_SILENT, COOL_FAULT, COOL_FAULT_CLEAR, CRANK_ENTRY, STORE_EXHAUSTED,
NORMAL_RETURN, SUPPLY_OFF, SUPPLY_HIGH, HIGH_CLEAR, HOLDUP_CHECK, DOMAIN_REQUEST, DOMAIN_ADMIT, RAMP_END, SETTLE_END, DOMAIN_OFF_REQUEST,
DOMAIN_FORCE_OFF and DOMAIN_STOPPED complete where their condition holds. A round shows its readings, sets K from the hottest die reading, at most 50
up, and the clock step; 140.0 C throttles a tile until below 135.0 C; 158.0 C shuts the module down with full cooling; DRAM bands, presets, zones and
outputs follow; it raises its records in order. A supply below 6.0 V is crank hold, an
exhausted store crank sleep, 6.5 V for 10 ms NORMAL again with the stored commands applied, and below 3.0 V all state but OTP and the config store is
lost. A LECLK edge in NORMAL admits the heads of the queue until one does not fit, none before it, and never beyond 16 credits; pending work refuses an
off request, and FORCE ends it. How long a store may last and the bounds of `since` are log 59, and what a crank hold does with pauses is log 33: no rules of the spec. -/
def Obligations.PowerThermalAndCooling : Prop :=
  (∀ (s : State) (x : Readings) (energy : BitVec 16), s.blk.aonRuns = true → s.blk.pwr.round < s.blk.tb1 / 10000000 →
    Completes (.housekeepingRound x energy) s fun b =>
      ReadingsShown x energy s.blk b ∧ DieProtected x s.blk b ∧ BandsFollow x s.blk b ∧ ShutdownWatched x s.blk b ∧
        b.pwr.faulted = (List.range 60).filter (hkFault x) ∧ RegsKeptBut RoundReg s.blk b ∧
        b.le = { s.blk.le with cycles := s.blk.cycles, cycAt := s.blk.tb1, grace := b.le.grace } ∧
        { b.pwr with
          round := s.blk.pwr.round, faulted := s.blk.pwr.faulted, reducing := s.blk.pwr.reducing, k1000At := s.blk.pwr.k1000At,
          coldAt := s.blk.pwr.coldAt, stalled := s.blk.pwr.stalled, doms := s.blk.pwr.doms, cool := s.blk.pwr.cool } = s.blk.pwr ∧
        { s.blk with regs := b.regs, mod := b.mod, jrn := b.jrn, le := b.le, out := b.out, pwr := b.pwr } = b) ∧
  (∀ t : Int, (factorOf t : Int) = max 250 (min 1000 (1000 - 15 * (t - 1450) / 2))) ∧
  (∀ (x : Readings) (l : List Nat) h t, hottest x l = some (h, t) → h ∈ l ∧ hkValid x h = some t ∧
    ∀ g v, g ∈ l → hkValid x g = some v → v ≤ t) ∧
  (∀ (cur : Nat) (v : Int), (1 ≤ dramBand cur v ↔ 850 ≤ v ∨ (1 ≤ cur ∧ 820 < v)) ∧
    (2 ≤ dramBand cur v ↔ 1050 ≤ v ∨ (2 ≤ cur ∧ 1020 < v)) ∧ (3 ≤ dramBand cur v ↔ 1250 < v ∨ (3 ≤ cur ∧ 1220 < v))) ∧
  (∀ (s : State), s.blk.aonRuns = true →
    (∀ t, s.blk.pwr.k1000At = some t → s.blk.pwr.reducing = true → t + 10000000000 ≤ s.blk.tb1 → Completes .reductionEnd s fun b =>
      b = { s.blk with pwr := { s.blk.pwr with reducing := false } }) ∧
    (∀ t, s.blk.pwr.coldAt = some t → s.blk.mod.phase = .thermalHold → t + 10000000000 ≤ s.blk.tb1 →
      Completes .shutdownRestart s fun b => b = s.blk.restart ∧ b.mod.phase = .released ∧ b.configDone = false ∧ b.otp = s.blk.otp ∧
        ∀ a, b.byte a = if 0x10000000 ≤ a ∧ a < 0x11000000 then s.blk.byte a else freshByte) ∧
    (∀ (f : Fin 10) (v : BitVec 10), Completes (.coolHostWrite f v) s fun b =>
      b.fld F.COOL_HOST_HOST f = v.toNat ∧ b.flag F.COOL_WD_HOST_SILENT 0 = false ∧
        { s.blk with regs := b.regs, pwr := { s.blk.pwr with hostAt := s.blk.tb1 } } = b ∧
        RegsKeptBut (fun r i => (r = .COOL_HOST ∧ i = f.val) ∨ (r = .COOL_WD ∧ i = 0)) s.blk b) ∧
    (let ms := s.blk.fld F.COOL_WD_HOST_WD_MS 0
     ms ≠ 0 → s.blk.flag F.COOL_WD_HOST_SILENT 0 = false → s.blk.pwr.hostAt + ms * 1000000 ≤ s.blk.tb1 →
      Completes .hostSilent s fun b =>
        b.flag F.COOL_WD_HOST_SILENT 0 = true ∧ OneRecord 594 0x0F 0x08 0 s.blk b ∧
          RegsKeptBut (fun r i => RecReg r i ∨ (r = .COOL_WD ∧ i = 0)) s.blk b ∧
          { s.blk with regs := b.regs, mod := b.mod, jrn := b.jrn } = b) ∧
    (∀ (f : Fin 10) t, (s.blk.coolOut f).lowAt = some t → s.blk.flag F.COOL_STATUS_FAULT f = false → t + 3000000000 ≤ s.blk.tb1 →
      Completes (.coolFault f) s fun b =>
        b.flag F.COOL_STATUS_FAULT f = true ∧
          OneRecord 594 0x0F 0x07 (f.val * 2 ^ 28 + s.blk.fld F.COOL_STATUS_RPM f) s.blk b ∧
          RegsKeptBut (fun r i => RecReg r i ∨ (r = .COOL_STATUS ∧ i = f.val)) s.blk b ∧
          { s.blk with regs := b.regs, mod := b.mod, jrn := b.jrn } = b) ∧
    (∀ (f : Fin 10) t, (s.blk.coolOut f).okAt = some t → t + 3000000000 ≤ s.blk.tb1 → Completes (.coolFaultClear f) s fun b =>
      b.flag F.COOL_STATUS_FAULT f = false ∧ RegsKeptBut (fun r i => r = .COOL_STATUS ∧ i = f.val) s.blk b ∧
        { s.blk with regs := b.regs } = b) ∧
    (∀ mv since, s.blk.flag F.PWR_STATUS_HIGH 0 = false → 32000 < mv → s.blk.pwr.calmAt ≤ since → since + 1000000 ≤ s.blk.tb1 →
      Completes (.supplyHigh mv since) s fun b =>
        b.flag F.PWR_STATUS_HIGH 0 = true ∧ b.flag F.PWR_EVT_HIGH_SEEN 0 = true ∧
          SupplyRecord 0x03 mv mv (min s.blk.mod.vbatLow mv) s.blk b ∧ b.jrn = (s.blk.raise 594 0x10 0x03 mv).jrn ∧
          RegsKeptBut (fun r i => RecReg r i ∨ (i = 0 ∧ (r = .PWR_STATUS ∨ r = .PWR_EVT))) s.blk b ∧
          { s.blk with regs := b.regs, mod := b.mod, jrn := b.jrn, pwr := (s.blk.told mv).pwr } = b ∧ b.supply = s.blk.supply) ∧
    (∀ mv since, mv ≤ 31000 → s.blk.pwr.aboveAt ≤ since → since + 1000000000 ≤ s.blk.tb1 → Completes (.highClear mv since) s fun b =>
      b.flag F.PWR_STATUS_HIGH 0 = false ∧ RegsKeptBut (fun r i => r = .PWR_STATUS ∧ i = 0) s.blk b ∧ b.supply = s.blk.supply ∧
        { s.blk.told mv with regs := b.regs } = b) ∧
    (let energy := s.blk.fld F.PWR_HOLDUP_ENERGY 0
     s.blk.pwr.holdSeen = false → 5000000000 ≤ s.blk.tb1 → Completes .holdupCheck s fun b =>
      (energy < 1200 → OneRecord 594 0x10 0x04 energy s.blk b) ∧ (1200 ≤ energy → NoRecord s.blk b ∧ RegsKept s.blk b) ∧
        RegsKeptBut RecReg s.blk b ∧
        { s.blk with regs := b.regs, mod := b.mod, jrn := b.jrn, pwr := { s.blk.pwr with holdSeen := true } } = b)) ∧
  (∀ (s : State) (mv since : Nat), s.blk.mod.phase ≠ .off →
    (mv < 6000 → s.blk.supply = 0 → s.blk.mod.phase ≠ .rising → Completes (.crankEntry mv) s fun b =>
      b.supply = 1 ∧ b.flag F.PWR_EVT_CRANK 0 = true ∧ b.fld F.PWR_STATUS_LECLK_N 0 = leclkStep (s.blk.fld F.PWR_STATUS_K 0) true ∧
        b.fld F.PWR_STATUS_LECLK_N 0 ≤ 16 ∧ b.fld F.PWR_STATUS_K 0 = s.blk.fld F.PWR_STATUS_K 0 ∧
        SupplyRecord 0x01 mv mv mv s.blk b ∧ b.jrn = (s.blk.raise 594 0x10 0x01 mv).journalFlushAll.jrn ∧
        (s.blk.ledgerFull = false → b.jrn.ledger.buf = []) ∧ b.jrn.faults.buf = [] ∧ b.jrn.tiles.buf = [] ∧ b.jrn.fields.buf = [] ∧ b.jrn.checks.buf = [] ∧
        b.reg .YLD_STATUS 0 = (s.blk.setFlag F.YLD_STATUS_FULL 0 b.ledgerFull).reg .YLD_STATUS 0 ∧
        (∀ c, b.switch c = if c < 128 then { s.blk.switch c with kept := s.blk.lswOut c } else s.blk.switch c) ∧
        (∀ k, k < 8 → b.flag F.SOL_COMP_STATUS_CRANK k = true ∧ b.flag F.LSW_BANK_STATUS_CRANK k = true) ∧
        RegsKeptBut (fun r i => RecReg r i ∨ (i = 0 ∧ r ∈ [.PWR_STATUS, .PWR_EVT, .YLD_STATUS]) ∨
          (i < 8 ∧ (r = .SOL_COMP_STATUS ∨ r = .LSW_BANK_STATUS))) s.blk b ∧
        { s.blk with
          regs := b.regs, mod := b.mod, jrn := b.jrn, le := { s.blk.le with cycles := s.blk.cycles, cycAt := s.blk.tb1 },
          out := { s.blk.out with switch := b.out.switch }, pwr := { (s.blk.told mv).pwr with crankAt := s.blk.tb1 } } = b) ∧
    (let low := min s.blk.mod.vbatLow mv
     mv < 6500 → s.blk.supply = 1 →
      s.blk.elapsed (s.blk.pwr.round * 10000000) (s.blk.fld F.PWR_HOLDUP_ENERGY 0 * 250000) = true →
      Completes (.storeExhausted mv) s fun b =>
        b.supply = 2 ∧ b.fld F.PWR_HOLDUP_ENERGY 0 = 0 ∧ SupplyRecord 0x02 low mv low s.blk b ∧
        b.jrn = (s.blk.raise 594 0x10 0x02 low).jrn ∧
        b.fld F.PWR_STATUS_LECLK_N 0 = leclkStep (s.blk.fld F.PWR_STATUS_K 0) false ∧
        (let c := (List.range 8).foldl (fun c p => if 2 ≤ c.portState p then (c.setPortState p 1).linkGone p else c) s.blk
         b.fab = c.fab ∧ b.reg .FAB_STATUS 0 = c.reg .FAB_STATUS 0 ∧ ∀ p, p < 8 → b.reg .PORT_STATUS p = c.reg .PORT_STATUS p ∧
          b.portState p = (if 2 ≤ s.blk.portState p then 1 else s.blk.portState p) ∧
          b.port p = if 2 ≤ s.blk.portState p
            then { s.blk.port p with
              credits := [0, 0, 0, 0, 0, 0], owed := [0, 0, 0, 0, 0, 0], owedAt := none, heard := none, trainAt := none }
            else s.blk.port p) ∧
        RegsKeptBut (fun r i => RecReg r i ∨ (i = 0 ∧ r ∈ [.PWR_STATUS, .PWR_HOLDUP, .FAB_STATUS]) ∨ (i < 8 ∧ r = .PORT_STATUS)) s.blk b ∧
        { s.blk with
          regs := b.regs, mod := b.mod, jrn := b.jrn, fab := b.fab, pwr := (s.blk.told mv).pwr,
          le := { s.blk.le with cycles := s.blk.cycles, cycAt := s.blk.tb1 } } = b) ∧
    (6500 ≤ mv → s.blk.supply ≠ 0 → s.blk.pwr.lowAt ≤ since → s.blk.elapsed since 10000000 = true →
      Completes (.normalReturn mv since) s fun b =>
        b.supply = 0 ∧ b.fld F.PWR_STATUS_LECLK_N 0 = leclkStep (s.blk.fld F.PWR_STATUS_K 0) false ∧
        (∀ k, k < 8 → b.flag F.SOL_COMP_STATUS_CRANK k = false ∧ b.flag F.LSW_BANK_STATUS_CRANK k = false) ∧
        (s.blk.frozen = false → ∀ k, k < 16 → (b.comp k).frameAt = s.blk.tb1) ∧
        (∀ c, c < 64 → if (s.blk.valve c).stored = true
          then b.valve c = { s.blk.valve c with
            stored := false, follow := false, arr := if b.solTakes c then some (s.blk.reg .SOL_SP c).toNat else none }
          else b.valve c = s.blk.valve c) ∧
        (∀ c, c < 128 → (b.switch c).stored = false ∧ (b.switch c).kept = false ∧ b.lswOut c = b.lswWant c ∧
          (b.switch c).cmd = (if (s.blk.switch c).stored = true ∧ s.blk.lswTakes c = true
            then s.blk.flag F.LSW_CMD_ON c else (s.blk.switch c).cmd) ∧
          b.lswFollows c = (!(s.blk.switch c).stored && s.blk.lswFollows c)) ∧
        RegsKeptBut (fun r i => (i = 0 ∧ r = .PWR_STATUS) ∨ (i < 8 ∧ (r = .SOL_COMP_STATUS ∨ r = .LSW_BANK_STATUS)) ∨
          (i < 128 ∧ r = .LSW_STATUS)) s.blk b ∧
        { s.blk with
          regs := b.regs, mod := (s.blk.told mv).mod, pwr := (s.blk.told mv).pwr, out := b.out,
          le := { s.blk.le with cycles := s.blk.cycles, cycAt := s.blk.tb1 } } = b) ∧
    (mv < 3000 → Completes (.supplyOff mv) s fun b =>
      b = (s.blk.told mv).powerOff ∧ b.mod.phase = .off ∧ b.otp = s.blk.otp ∧ b.boot = s.blk.boot.stored ∧ (∀ a, b.byte a = freshByte) ∧
        ∀ r i, b.reg r i = r.resetWord i)) ∧
  ∀ (s : State) (d : Fin 64), s.blk.aonRuns = true →
    let st := s.blk.pdState d
    let x := s.blk.dom d
    (st = 0 → Completes (.domainRequest d) s fun b => Requested d s.blk b) ∧
    (st ≠ 0 → Completes (.domainRequest d) s fun b =>
      b.pdState d = st ∧ b.flag F.PD_CTRL_ON d = true ∧ b.pwr.reqNo = s.blk.pwr.reqNo ∧ OnlyDomain d s.blk b ∧
        b.dom d = if st = 5 then { x with again := true } else if st = 2 ∨ st = 3 then { x with offReq := false, force := false } else x) ∧
    (s.blk.supply = 0 → s.blk.mod.phase ≠ .thermalHold → Completes .domainAdmit s fun b => HeadsAdmitted s.blk b) ∧
    (s.blk.supply ≠ 0 ∨ s.blk.mod.phase = .thermalHold → Completes .domainAdmit s fun b => b = s.blk) ∧
    (st = 2 → x.at_ + holdTime d ≤ s.blk.tb1 → Completes (.rampEnd d) s fun b =>
      b.pdState d = 3 ∧ b.dom d = { x with at_ := s.blk.tb1 } ∧ b.flag F.PD_CTRL_ON d = s.blk.flag F.PD_CTRL_ON d ∧ OnlyDomain d s.blk b) ∧
    (st = 3 → x.at_ + readyTime d ≤ s.blk.tb1 →
      (∀ err, x.offReq = false → Completes (.settleEnd d err) s fun b =>
        b.pdState d = 4 ∧ b.dom d = { x with at_ := s.blk.tb1 } ∧ b.flag F.PD_CTRL_ON d = s.blk.flag F.PD_CTRL_ON d ∧
          OnlyDomain d s.blk b) ∧
      (∀ err, x.offReq = true → x.force = false → Completes (.settleEnd d err) s fun b => StopsOrRefuses d s.blk b) ∧
      (∀ err, x.offReq = true → x.force = true → Completes (.settleEnd d err) s fun b => ForcedOff d err (s.blk.pdEnter d 4) b)) ∧
    (∀ (c : Instr) (force : Bool) (err : Nat),
      (c = .domainOffRequest d ∧ force = false) ∨ (c = .domainForceOff d err ∧ force = true) →
      (st = 1 → Completes c s fun b => b.pdState d = 0 ∧ b.flag F.PD_CTRL_ON d = false ∧ OnlyDomain d s.blk b) ∧
      (st = 2 ∨ st = 3 → Completes c s fun b =>
        b.pdState d = st ∧ b.flag F.PD_CTRL_ON d = false ∧ b.dom d = { x with offReq := true, force := force } ∧ OnlyDomain d s.blk b) ∧
      (st = 5 → Completes c s fun b =>
        b.pdState d = 5 ∧ b.flag F.PD_CTRL_ON d = false ∧ b.dom d = { x with again := false } ∧ OnlyDomain d s.blk b) ∧
      (st = 0 → Completes c s fun b =>
        b.pdState d = 0 ∧ b.flag F.PD_CTRL_ON d = false ∧ b.dom d = x ∧ OnlyDomain d s.blk b)) ∧
    (st = 4 → Completes (.domainOffRequest d) s fun b => StopsOrRefuses d s.blk b) ∧
    (∀ err, st = 4 → Completes (.domainForceOff d err) s fun b => ForcedOff d err s.blk b) ∧
    (st = 5 → s.blk.pdWaiting d = false →
      (x.again = false → Completes (.domainStopped d) s fun b =>
        b.pdState d = 0 ∧ b.dom d = { x with at_ := s.blk.tb1 } ∧ b.flag F.PD_CTRL_ON d = s.blk.flag F.PD_CTRL_ON d ∧
          OnlyDomain d s.blk b) ∧
      (x.again = true → Completes (.domainStopped d) s fun b => Requested d s.blk b))

namespace Sys2Proof.Claims

/-- From `a` to `b` set `k` has been committed in a start of kind `kind` (0 normal, 1 Eclosion, 2 revert, 3 fallback). -/
def Committed (k : Bool) (kind : Nat) (b : Blk) : Prop :=
  b.mod.phase = .running ∧ b.configDone = true ∧ b.flag F.BOOT_STATUS_SET 0 = k ∧ b.fld F.BOOT_STATUS_START_KIND 0 = kind ∧
    b.boot.bootRec.fails = 0 ∧ (b.boot.bootRec.set k).state = 3

/-- A start on `a` ends without a set: the compute side is held in reset from now on. -/
def HeldInReset (b : Blk) : Prop := b.mod.phase = .failedHold ∧ b.configDone = false ∧ b.boot.heldAt = b.tb1

/-- What a full start on `a` with operand `x` leads to, ROOT being valid, RECOVER_N high and FAILS below 3. `p` is what steps 1 to 3 leave:
OTP and the journal taken, FAILS one up. -/
def StartProcedure (x : StartIn) (a b : Blk) : Prop :=
  let r := a.boot.bootRec
  let p := (a.prepare x).writeBootRec { r with fails := r.fails + 1 }
  (r.trial = none → r.best = none → HeldInReset b ∧ b.boot.bootRec.fails = r.fails + 1) ∧
  (∀ k, r.trial = none → r.best = some k →
    ((p.trySet k false none).2 = none → Committed k 0 b) ∧
    (∀ t f, p.trySet k false none = (t, some f) → (r.set (!k)).state ≠ 3 →
      HeldInReset b ∧ b.boot.bootRec.fails = r.fails + 1 ∧ (b.boot.bootRec.set k).state = 4 ∧
        b.boot.bootRec.set (!k) = r.set (!k)) ∧
    (∀ t f, p.trySet k false none = (t, some f) → (r.set (!k)).state = 3 →
      let q := (p.failed t k f).raise 560 0x12 0x07 (updData 0xFF k f.reason 0)
      ((q.trySet (!k) false none).2 = none → Committed (!k) 3 b) ∧
        ((q.trySet (!k) false none).2 ≠ none → HeldInReset b ∧ b.boot.bootRec.fails = r.fails + 1 ∧
          (b.boot.bootRec.set k).state = 4 ∧ b.boot.bootRec.set (!k) = r.set (!k)))) ∧
  ∀ k, r.trial = some k →
    let p := p.writeBootRec (p.boot.bootRec.setSet k { r.set k with state := 2, trialN := (r.set k).trialN + 1 })
    ((p.trySet k true x.item).2 = none → Committed k 1 b) ∧
    ∀ t f, p.trySet k true x.item = (t, some f) →
      let q := (p.failed t k f).raise 560 0x12 0x06 (updData 0xFF k f.reason f.item)
      ((r.set (!k)).state ≠ 3 → HeldInReset b ∧ b.boot.bootRec.fails = r.fails + 1 ∧ (b.boot.bootRec.set k).state = 4) ∧
        ((r.set (!k)).state = 3 → (q.trySet (!k) false none).2 = none → Committed (!k) 2 b)

/-- From `a` to `b` the datagram `l` leaves ETH5 for `port` of `src`, and nothing else changes. -/
def Replies (src : BitVec 128) (port : Nat) (l : List Byte) (a b : Blk) : Prop :=
  { a with net := { a.net with wire := b.net.wire } } = b ∧
    (∀ e, SMap.get b.net.wire e [] = SMap.get a.net.wire e [] ++ if e = 5 then [.udp ⟨src, port, 47500, l⟩] else [])

/-- From `a` to `b` the datagram `m` is answered with `body`: the tool at `src` is bound from now on, and the reply kept. -/
def Answers (src : BitVec 128) (port : Nat) (m : RecMsg) (body : List Byte) (a b : Blk) : Prop :=
  let l := recReply m.op m.seq body
  Replies src port l { a with boot := { a.boot with tool := some ⟨src, port, a.tb1, some (m.seq, l)⟩ } } b

/-- From `a` to `b` OTP_WRITE of group `g` acts and gives `body`: only ROOT and LIMP_MAP can be written, into the next slot, signed under the
root in force; bits are set and never cleared. -/
def OtpWritten (g : Nat) (head payload sig body : List Byte) (a b : Blk) : Prop :=
  let signed := match otpRoot a.otp with
    | some root => signatureOk root (head ++ payload) sig = true
    | none => g = 3
  (g ≠ 3 ∧ g ≠ 4 ∨ nextGen a.otp g = none → body = [4] ∧ b.otp = a.otp) ∧
    ∀ n, g = 3 ∨ g = 4 → nextGen a.otp g = some n →
      (¬ signed → body = [3, 1] ∧ b.otp = a.otp) ∧
      (signed → otpSlotBytes g < 16 + payload.length → body = [4] ∧ b.otp = a.otp) ∧
      (signed → 16 + payload.length ≤ otpSlotBytes g →
        body = (if (otpSlot b.otp g n).isSome then [0] else [4]) ∧
          ∀ y, otpByte b.otp y = otpByte a.otp y |||
            if otpSlotAt g n ≤ y then (head ++ payload).getD (y - otpSlotAt g n) 0 else 0)

/-- From `a` to `b` the registers show that the set that does not run is no fallback and has the SEQ `seq`. -/
def OtherShown (seq : Nat) (a b : Blk) : Prop :=
  b.reg .BOOT_STATUS 0 = (a.setFld F.BOOT_STATUS_FALLBACK_V 0 0).reg .BOOT_STATUS 0 ∧ b.reg .BOOT_FB_SEQ 0 = BitVec.ofNat 32 seq

/-- From `a` to `b` staging into set `k` fails: STATE, REASON and PART, one record, and the package given up. -/
def StagingFails (k : Bool) (reason part : Nat) (a b : Blk) : Prop :=
  b.updState = 4 ∧ b.fld F.BOOT_UPD_STATUS_REASON 0 = reason % 256 ∧ b.fld F.BOOT_UPD_STATUS_PART 0 = part % 256 ∧
    OneRecord 561 0x12 0x01 (updData part k reason 0) a b

end Sys2Proof.Claims

/-- FULL_START, FAILED_START_RESTART, UPDATE_STAGE, STAGE_COMPLETE, STAGE_ABORT, STAGE_DISCARD, HELLO, BEGIN, DATA, RECOVERY_COMMIT,
RECOVERY_COMMIT_DONE, OTP_WRITE, READ_LOG, RESTART, RECOVER_N_RELEASE and BINDING_TIMEOUT complete where their condition holds. A start ends
running, in Chrysalis or in a hold, with CONFIG_DONE exactly where it runs; it writes no OTP. A trial set that passes commits, one that fails is BAD and the
GOOD set runs; a GOOD set that fails is BAD and the other runs; with none the compute side is held. Without a root,
with RECOVER_N low or after three failed starts it is Chrysalis with ETH5 as SLAVE. A restart keeps OTP, the config store and lower shared SRAM. Staging goes from
verifying to writing to STAGED, or
fails with a reason and a record, and a command while it runs is ignored. The first HELLO binds its source; the bound tool's operation is done once and its
reply kept and repeated; another source is told NOT_BOUND, and any while COMMIT runs BUSY. OTP_WRITE sets bits of the next slot of ROOT or LIMP_MAP alone, and only with a
signature. A restart waits for RECOVER_N. A supply that rises to less than NORMAL powers AON and the companions alone (log 34); what a start finds, the ticks it
takes and how it goes on are logs 43 and 44, the order of staging log 46, recovery log 47: no rules of the spec. -/
def Obligations.StartUpdateAndRecovery : Prop :=
  (∀ (s : State) (x : StartIn), s.blk.mod.phase ∈ [Phase.off, .rising, .released] → s.blk.frozen = false →
    (3000 ≤ x.mv → x.mv < 6500 → Completes (.fullStart x) s fun b =>
      (s.blk.mod.phase ≠ .off → b = s.blk) ∧ (s.blk.mod.phase = .off → b = s.blk.rise x.mv ∧ b.mod.phase = .rising ∧ b.mod.vbat = x.mv ∧
        b.configDone = false ∧ b.otp = s.blk.otp ∧ b.boot = s.blk.boot.stored ∧ (∀ a, b.byte a = freshByte) ∧
        ∀ k, k < 16 → (b.comp k).limp = true)) ∧
    (6500 ≤ x.mv →
    let r := s.blk.boot.bootRec
    let recovers := otpTop s.blk.otp 3 = none ∨ x.recoverN = false ∨ 3 ≤ r.fails
    Completes (.fullStart x) s fun b =>
      (b.mod.phase = .running ∨ b.mod.phase = .chrysalis ∨ b.mod.phase = .failedHold) ∧
      (b.configDone = true ↔ b.mod.phase = .running) ∧ b.otp = s.blk.otp ∧
      (b.mod.phase = .running → Committed (b.flag F.BOOT_STATUS_SET 0) (b.fld F.BOOT_STATUS_START_KIND 0) b) ∧
      (b.mod.phase = .failedHold → HeldInReset b) ∧ (b.mod.phase ≠ .running → ∀ k, k < 16 → (b.comp k).limp = true) ∧
      (recovers →
        let p := (s.blk.prepare x).pass x.ticks
        let c := p.raise 560 0x12 0x08 (updData 0xFF false 0 0)
        b.mod = { c.mod with phase := .chrysalis } ∧ b.jrn = c.jrn ∧ b.flag F.ETH_CTRL_EN 5 = true ∧ b.flag F.ETH_CTRL_ROLE 5 = false ∧
          b.fld F.SYS_NODE_NODE 0 = x.node.toNat ∧ b.boot = s.blk.begin_.boot ∧ MemKept s.blk.begin_ b ∧
          RegsKeptBut (fun r i => RecReg r i ∨ (r = .SYS_STATUS ∧ i = 0) ∨ (r = .ETH_CTRL ∧ i = 5)) p b ∧
          { p with regs := b.regs, mod := b.mod, jrn := b.jrn } = b) ∧
      (¬ recovers → (∀ k, ¬ ((r.set k).state = 2 ∧ 2 ≤ (r.set k).trialN)) → StartProcedure x s.blk b))) ∧
  (∀ (b : Blk), let c := b.restart
    c.mod = { b.mod with phase := .released } ∧ c.otp = b.otp ∧ c.boot = b.boot.stored ∧ c.jrn = b.jrn.each JRegion.carry ∧
      c.configDone = false ∧ c.frozen = false ∧ c.tb1 = 0 ∧ c.yld.held = b.yld.held ∧ c.dbg.freezeId = b.dbg.freezeId ∧
      (∀ a, c.byte a = if 0x10000000 ≤ a ∧ a < 0x11000000 then b.byte a else freshByte) ∧
      ∀ r i, r ∉ [RegName.SOL_STATUS, .LSW_STATUS, .LSW_LIMP, .LSW_BANK_STATUS, .DBG_STATUS] → c.reg r i = r.resetWord i) ∧
  (∀ (s : State),
    (s.blk.aonRuns = true → s.blk.mod.phase = .failedHold → s.blk.boot.heldAt + 1000000000 ≤ s.blk.tb1 →
      Completes .failedStartRestart s fun b => b = s.blk.restart) ∧
    (s.blk.agentRuns = true →
      let other := !s.blk.runSet
      let r := s.blk.boot.bootRec
      let shown := [RegName.BOOT_UPD_STATUS, .BOOT_UPD_SEQ, .BOOT_STATUS, .BOOT_FB_SEQ]
      let regsBut := fun (l : List RegName) (b : Blk) => RegsKeptBut (fun r i => i = 0 ∧ r ∈ l) s.blk b ∧
        { s.blk with regs := b.regs, boot := b.boot } = b
      (s.blk.updState = 1 ∨ s.blk.updState = 2 → Completes .updateStage s fun b =>
        b.flag F.BOOT_UPD_STATUS_CMD_IGNORED 0 = true ∧ b.updState = s.blk.updState ∧ b.boot = s.blk.boot ∧ regsBut [.BOOT_UPD_STATUS] b) ∧
      (s.blk.updState ≠ 1 → s.blk.updState ≠ 2 → Completes .updateStage s fun b =>
        b.updState = 1 ∧ b.boot = { s.blk.boot with
          pkgAt := s.blk.fld F.BOOT_UPD_HI_ADDR 0 * 2 ^ 32 + (s.blk.reg .BOOT_UPD_LO 0).toNat / 64 * 64
          pkgLen := (s.blk.reg .BOOT_UPD_LEN 0).toNat } ∧ regsBut [.BOOT_UPD_STATUS] b) ∧
      (s.blk.updState = 1 →
        let n := min s.blk.boot.pkgLen (112 * 2 ^ 20)
        let wait := s.blk.readsWait 561 s.blk.boot.pkgAt ((n + 15) / 16)
        let p := s.blk.readPackage
        let fault := p.1.packageCheck p.1.boot.bootRec.topGood s.blk.boot.pkgLen p.2
        (Readable s.blk 561 s.blk.boot.pkgAt ((n + 15) / 16) → wait = false ∧ p.2 = s.blk.bytes s.blk.boot.pkgAt n ∧
          { s.blk with bus := { s.blk.bus with lastEdge := p.1.bus.lastEdge } } = p.1) ∧
        ∀ nand,
          (wait = true → Completes (.stageComplete nand) s fun b => b = s.blk) ∧
          (wait = false → fault = none → Completes (.stageComplete nand) s fun b =>
            b.updState = 2 ∧ b.reg .BOOT_UPD_SEQ 0 = 0 ∧ OtherShown 0 p.1 b ∧ b.boot.staging = p.2 ∧ b.boot.bootRec.set other = ⟨0, 0, 0⟩ ∧
              b.boot.bootRec.set s.blk.runSet = p.1.boot.bootRec.set s.blk.runSet ∧ b.boot.setA = p.1.boot.setA ∧
              b.boot.setB = p.1.boot.setB ∧
              RegsKeptBut (fun r i => i = 0 ∧ r ∈ shown) p.1 b ∧
              { p.1 with regs := b.regs, boot := b.boot } = b) ∧
          (∀ reason part, wait = false → fault = some (reason, part) → Completes (.stageComplete nand) s fun b =>
            StagingFails other reason part p.1 b ∧ b.boot = { p.1.boot with staging := [] } ∧
              RegsKeptBut (fun r i => RecReg r i ∨ (r = .BOOT_UPD_STATUS ∧ i = 0)) p.1 b ∧
              { p.1 with regs := b.regs, mod := b.mod, jrn := b.jrn, boot := b.boot } = b)) ∧
      (s.blk.updState = 2 → Completes (.stageComplete none) s fun b =>
        b.updState = 3 ∧ OtherShown (manifestSeq s.blk.boot.staging) s.blk b ∧ b.reg .BOOT_UPD_SEQ 0 = BitVec.ofNat 32 (manifestSeq s.blk.boot.staging) ∧
          b.boot.stored? other = setOfPackage s.blk.boot.staging ∧ b.boot.stored? s.blk.runSet = s.blk.boot.stored? s.blk.runSet ∧
          b.boot.bootRec.set other = ⟨manifestSeq s.blk.boot.staging, 1, 0⟩ ∧
          b.boot.bootRec.set s.blk.runSet = r.set s.blk.runSet ∧ b.boot.staging = [] ∧ regsBut shown b) ∧
      (∀ part : Fin 64, s.blk.updState = 2 → Completes (.stageComplete (some part)) s fun b =>
        StagingFails other 7 part s.blk b ∧ b.boot = { s.blk.boot with staging := [] } ∧
          RegsKeptBut (fun r i => RecReg r i ∨ (r = .BOOT_UPD_STATUS ∧ i = 0)) s.blk b ∧
          { s.blk with regs := b.regs, mod := b.mod, jrn := b.jrn, boot := b.boot } = b) ∧
      (s.blk.updState = 1 ∨ s.blk.updState = 2 → Completes .stageAbort s fun b =>
        b.updState = 0 ∧ b.boot = { s.blk.boot with staging := [] } ∧ regsBut [.BOOT_UPD_STATUS] b) ∧
      ((r.set other).state = 1 → Completes .stageDiscard s fun b =>
        b.boot.bootRec.set other = ⟨0, 0, 0⟩ ∧ b.reg .BOOT_UPD_SEQ 0 = 0 ∧ OtherShown 0 s.blk b ∧
          b.updState = (if s.blk.updState = 3 then 0 else s.blk.updState) ∧
          b.boot.bootRec.set s.blk.runSet = r.set s.blk.runSet ∧ regsBut shown b) ∧
      ((r.set other).state ≠ 1 → Completes .stageDiscard s fun b => b = s.blk))) ∧
  (∀ (s : State) (src : BitVec 128) (port : BitVec 16) (d : List Byte) (m : RecMsg),
    s.blk.mod.phase = .chrysalis → s.blk.frozen = false → s.blk.flag F.ETH_CTRL_EN 5 = true → s.blk.flag F.ETH_STATUS_LINK 5 = true →
    recParse d = some m → s.blk.boot.restart = false ∨ s.blk.mod.recoverN = false →
    let cmds := [(Instr.recoveryHello src port d, 1), (.recoveryBegin src port d, 2), (.recoveryData src port d, 3),
      (.recoveryCommit src port d, 4), (.otpWrite src port d, 5), (.readLog src port d, 6), (.recoveryRestart src port d, 7)]
    let free := ∀ t, s.blk.boot.tool = some t → t.at_ + 60000000000 ≤ s.blk.tb1
    let seen := fun (t : Tool) => { s.blk with
      boot := { s.blk.boot with tool := some { t with port := port.toNat, at_ := s.blk.tb1 } } }
    let answers := fun (body : List Byte) (b : Blk) => Answers src port.toNat m body s.blk b
    (∀ dst sport, dst = linkLocal (s.blk.mac 5) → sport = port → ∀ c op, (c, op) ∈ cmds → m.op = op →
      exec (.ethFrame 5 (.udp src dst sport 47500 d)) s = exec c s) ∧
    (∀ c op, (c, op) ∈ cmds → m.op ≠ op → Completes c s fun b => b = s.blk) ∧
    (free → m.op = 1 → Completes (.recoveryHello src port d) s fun b =>
      answers (if m.version = 1 then s.blk.helloBody else [1]) b) ∧
    (∀ c op, (c, op) ∈ cmds → m.op = op → free → op ≠ 1 → Completes c s fun b =>
      Replies src port.toNat (recReply m.op m.seq [6]) s.blk b) ∧
    ∀ t, s.blk.boot.tool = some t → s.blk.tb1 < t.at_ + 60000000000 →
      (∀ c op, (c, op) ∈ cmds → m.op = op →
        (t.addr ≠ src → Completes c s fun b => Replies src port.toNat (recReply m.op m.seq [6]) s.blk b) ∧
        (t.addr = src → s.blk.boot.commit.isSome = true → Completes c s fun b =>
          Replies src port.toNat (recReply m.op m.seq [5]) (seen t) b) ∧
        (∀ l, t.addr = src → s.blk.boot.commit = none → t.last = some (m.seq, l) → Completes c s fun b =>
          Replies src port.toNat l (seen t) b) ∧
        (t.addr = src → s.blk.boot.commit = none → (∀ q l, t.last = some (q, l) → q ≠ m.seq) → m.version ≠ 1 →
          Completes c s fun b => answers [1] b)) ∧
      (t.addr = src → s.blk.boot.commit = none → (∀ q l, t.last = some (q, l) → q ≠ m.seq) → m.version = 1 →
        let n := leAt m.body 0 4
        (m.op = 1 → Completes (.recoveryHello src port d) s fun b => answers s.blk.helloBody b) ∧
        (m.op = 2 → Completes (.recoveryBegin src port d) s fun b =>
          if m.body.length = 4 ∧ n ≤ 112 * 2 ^ 20
          then Answers src port.toNat m [0] { s.blk with boot := { s.blk.boot with want := some n, got := [] } } b else answers [1] b) ∧
        (m.op = 3 → Completes (.recoveryData src port d) s fun b =>
          (s.blk.boot.want = none → answers [2] b) ∧
          ∀ w, s.blk.boot.want = some w →
            (m.body.length < 4 → answers [1] b) ∧
            (4 ≤ m.body.length → n < s.blk.boot.got.length → answers [0] b) ∧
            (4 ≤ m.body.length → s.blk.boot.got.length < n ∨ (n = s.blk.boot.got.length ∧ w < n + (m.body.length - 4)) → answers [2] b) ∧
            (4 ≤ m.body.length → n = s.blk.boot.got.length → n + (m.body.length - 4) ≤ w → Answers src port.toNat m [0]
              { s.blk with boot := { s.blk.boot with got := s.blk.boot.got ++ m.body.drop 4 } } b)) ∧
        (m.op = 4 → Completes (.recoveryCommit src port d) s fun b =>
          b.boot.commit = some m.seq ∧ b.boot.bootRec.fails = 0 ∧ (∀ k, b.boot.bootRec.set k = s.blk.boot.bootRec.set k) ∧
            b.boot.tool = some { t with port := port.toNat, at_ := s.blk.tb1 } ∧
            { s.blk with boot := { s.blk.boot with
              commit := b.boot.commit, tool := b.boot.tool, copy0 := b.boot.copy0, copy1 := b.boot.copy1 } } = b) ∧
        (m.op = 5 → Completes (.otpWrite src port d) s fun b =>
          let head := (m.body.drop 4).take 16
          let l := leAt head 4 4
          let sig := (m.body.drop 20).drop l
          (m.body.length < 20 + l ∨ (sig ≠ [] ∧ sig.length ≠ 256) → answers [1] b) ∧
          (20 + l ≤ m.body.length → sig = [] ∨ sig.length = 256 → ∃ body,
            OtpWritten n head ((m.body.drop 20).take l) sig body s.blk b ∧ Answers src port.toNat m body { s.blk with otp := b.otp } b)) ∧
        (m.op = 6 → Completes (.readLog src port d) s fun b =>
          answers (if m.body.length = 4 then [0] ++ ((s.blk.jrn.faults.all.drop n).take 63).flatten else [1]) b) ∧
        (m.op = 7 → s.blk.mod.recoverN = false → Completes (.recoveryRestart src port d) s fun b =>
          Answers src port.toNat m [0] { s.blk with boot := { s.blk.boot with restart := true } } b) ∧
        (m.op = 7 → s.blk.mod.recoverN = true → Completes (.recoveryRestart src port d) s fun b =>
          ∃ c, Answers src port.toNat m [0] { s.blk with boot := { s.blk.boot with restart := true } } c ∧ b = c.restart) ∧
        (m.op = 0 ∨ 8 ≤ m.op → Completes (.ethFrame 5 (.udp src (linkLocal (s.blk.mac 5)) port 47500 d)) s fun b => answers [1] b))) ∧
  ∀ (s : State),
    (s.blk.boot.restart = true → s.blk.mod.phase = .chrysalis → s.blk.frozen = false → Completes .recoverNRelease s fun b =>
      b = ({ s.blk with mod := { s.blk.mod with recoverN := true } } : Blk).restart) ∧
    (s.blk.boot.restart = false ∨ s.blk.mod.phase ≠ .chrysalis ∨ s.blk.frozen = true → Completes .recoverNRelease s fun b =>
      b = { s.blk with mod := { s.blk.mod with recoverN := true } }) ∧
    (s.blk.mod.phase = .chrysalis → s.blk.frozen = false →
      (∀ nand q t, s.blk.boot.commit = some q → s.blk.boot.tool = some t → s.blk.flag F.ETH_CTRL_EN 5 = true →
        s.blk.flag F.ETH_STATUS_LINK 5 = true → Completes (.recoveryCommitDone nand) s fun b =>
        let pkg := s.blk.boot.got
        let k := s.blk.boot.bootRec.spare
        let fault := if s.blk.boot.want ≠ some pkg.length then some (3, 0xFF) else s.blk.packageCheck none pkg.length pkg
        ∃ (body : List Byte) (c : Blk), Answers t.addr t.port ⟨1, 4, q, []⟩ body c b ∧ c.boot.commit = none ∧
          (∀ reason part, fault = some (reason, part) → body = [3, BitVec.ofNat 8 reason] ∧ StagingFails k reason part s.blk c ∧
            c.boot = { s.blk.boot with commit := none, staging := [] }) ∧
          (fault = none → nand = none → body = [0] ∧ c.boot.bootRec.set k = ⟨manifestSeq pkg, 1, 0⟩ ∧
            c.boot.stored? k = setOfPackage pkg ∧ c.boot.stored? (!k) = s.blk.boot.stored? (!k) ∧ NoRecord s.blk c ∧
            c.updState = s.blk.updState) ∧
          (∀ part : Fin 64, fault = none → nand = some part → body = [3, 7] ∧ StagingFails k 7 part s.blk c ∧
            c.boot.bootRec.set k = ⟨0, 0, 0⟩ ∧ c.boot.stored? k = s.blk.boot.stored? k) ∧
          c.boot.bootRec.set (!k) = s.blk.boot.bootRec.set (!k) ∧ c.boot.bootRec.fails = s.blk.boot.bootRec.fails ∧
          (fault = none → let o := c.boot.bootRec.set (!s.blk.runSet)
            c.flag F.BOOT_STATUS_FALLBACK_V 0 = (o.state == 3) ∧ c.reg .BOOT_FB_SEQ 0 = BitVec.ofNat 32 o.seq) ∧
          RegsKeptBut (fun r i => RecReg r i ∨ (i = 0 ∧ r ∈ [.BOOT_UPD_STATUS, .BOOT_UPD_SEQ, .BOOT_STATUS, .BOOT_FB_SEQ])) s.blk c ∧
          { s.blk with regs := c.regs, mod := c.mod, jrn := c.jrn, boot := c.boot } = c) ∧
      ∀ t, s.blk.boot.tool = some t → t.at_ + 60000000000 ≤ s.blk.tb1 → Completes .bindingTimeout s fun b =>
        b = { s.blk with boot := { s.blk.boot with tool := none } })

namespace Sys2Proof.Claims

/-- From `a` to `b` the item `w` leaves on the links of the ports in `ps`, and of the fabric nothing else changes. -/
def LeavesOn (ps : List Nat) (w : WireItem) (a b : Blk) : Prop :=
  (∀ q, b.port q = { a.port q with wire := (a.port q).wire ++ if q ∈ ps then [w] else [] }) ∧
    b.fab = { a.fab with ports := b.fab.ports }

/-- From `a` to `b` the node freezes, with its cause and pair. -/
def Freezes (cause id origin : Nat) (a b : Blk) : Prop :=
  b.frozen = true ∧ b.fld F.DBG_STATUS_CAUSE 0 = cause ∧ b.fld F.DBG_FRZ_ID_ID 0 = id ∧ b.fld F.DBG_FRZ_ID_ORIGIN 0 = origin ∧
    b.reg64 .DBG_FRZ_T_LO .DBG_FRZ_T_HI 0 = a.tb1 % 2 ^ 64 ∧ b.holdStrap = a.holdStrap ∧
    RegsKeptBut (fun r i => i = 0 ∧ r ∈ [.DBG_STATUS, .DBG_FRZ_ID, .DBG_FRZ_T_LO, .DBG_FRZ_T_HI]) a b

/-- From `a` to `b` a freeze starts on this node, which is its origin under the next freeze ID. -/
def FreezesHere (cause : Nat) (a b : Blk) : Prop :=
  let id := (a.dbg.freezeId + 1) % 2 ^ 16
  Freezes cause id a.node a b ∧ b.dbg = { a.dbg with freezeId := id, seen := a.dbg.seen ++ [(a.node, id)], held := some b.heldRegs } ∧
    LeavesOn a.upPorts (.freeze id a.node) a b ∧ { a with regs := b.regs, dbg := b.dbg, fab := b.fab } = b

/-- From `a` to `b` the 88 bits of the instruction registers have gone in, the results of debug accesses have reached the data register
of DBG_ACCESS, and the data registers have been captured and `x.tdi` shifted through them, from TDI past TAP 0, the next TAPs and TDO. -/
def Shifted (ir : BitVec 88) (x : ScanIn) (a b : Blk) : Prop :=
  let caps := fun (k : Nat) => b.captureDr k (x.pins.getD k [])
  let bits := ((List.range 17).reverse.map caps).flatten ++ x.tdi
  let mine := a.bus.results.filter fun c => decide (c.who = .debug)
  (∀ k, k < 17 → SMap.get b.dbg.ir k 1 = opcodeFor ir k ∧ (b.tapDr k).length = (caps k).length) ∧
    ((List.range 17).reverse.map b.tapDr).flatten = bits.drop x.tdi.length ∧ b.dbg.tdo = bits.take x.tdi.length ∧
    (mine = [] → b.dbg.data = a.dbg.data ∧ b.dbg.deny = a.dbg.deny) ∧
    (∀ l c, mine = l ++ [c] → b.dbg.data = c.data.setWidth 32 ∧ b.dbg.deny = decide (c.status ≠ .ok)) ∧
    b.bus = { a.bus with results := a.bus.results.filter fun c => !decide (c.who = .debug) } ∧
    b = { a with bus := b.bus, dbg := { a.dbg with
      ir := b.dbg.ir, dr := b.dbg.dr, tdo := b.dbg.tdo, data := b.dbg.data, deny := b.dbg.deny } }

/-- From `a` to `b` the boundary registers of the TAPs that have one selected take what was shifted in. -/
def BoundaryTakes (a b : Blk) : Prop :=
  (∀ k, SMap.get b.dbg.boundary k [] =
    if k < 17 ∧ a.tapIr k ∈ [.samplePreload, .extest, .extestPulse, .extestTrain] then a.tapDr k else SMap.get a.dbg.boundary k []) ∧
    b = { a with dbg := { a.dbg with boundary := b.dbg.boundary } }

/-- The block as a freeze holds its registers. -/
def asHeld (b : Blk) : Blk := match b.dbg.held with
  | some r => { b with regs := r }
  | none => b

/-- From `a`, a frozen node as held, to `b` a debug access is served: refused, counted and not recorded; a read; a write of memory; or a
write of the RW and LCK bits of a register, but that ACC_LOG_RD moves as far as WR and not back. -/
def FrozenServed (write : Bool) (addr : Nat) (v : Word) (a b : Blk) : Prop :=
  let op := if write then AccOp.write else AccOp.read
  let done := { a with dbg := { a.dbg with data := 0, deny := false } }
  (a.frozenGate op addr ≠ none → b.dbg = { a.dbg with data := 0, deny := true } ∧ { a with regs := b.regs, dbg := b.dbg } = b ∧
    b.fld F.ACC_REFUSED_REFUSED 0 = (a.fld F.ACC_REFUSED_REFUSED 0 + 1) % 2 ^ 32 ∧
    b.fld F.ACC_LOG_LOST_LOST 0 = min (a.fld F.ACC_LOG_LOST_LOST 0 + 1) (2 ^ 32 - 1) ∧
    RegsKeptBut (fun r i => i = 0 ∧ (r = .ACC_REFUSED ∨ r = .ACC_LOG_LOST)) a b) ∧
  (a.frozenGate op addr = none → write = false →
    b = { a with dbg := { a.dbg with data := BitVec.ofNat 32 (a.readAddr addr 4), deny := false } }) ∧
  (a.frozenGate op addr = none → write = true → regionOf addr ≠ some .regs →
    Stored addr (leBytes 4 v.toNat) a b ∧ { done with mem := b.mem } = b) ∧
  (a.frozenGate op addr = none → write = true → regionOf addr = some .regs →
    (∀ i, regAt (addr - regBase) = some (.ACC_LOG_RD, i) →
      b = if (v - a.reg .ACC_LOG_RD 0).toNat ≤ a.logFill then done.setReg .ACC_LOG_RD 0 v else done) ∧
    ∀ r i, regAt (addr - regBase) = some (r, i) → r ≠ .ACC_LOG_RD →
      b.reg r i = (a.reg r i &&& ~~~ a.writable r ||| v &&& a.writable r) ∧ RegsKeptBut (fun q j => q = r ∧ j = i) a b ∧
        { done with regs := b.regs } = b)

/-- From `a` to `b` TAP 0 issues one 32-bit access as master 1023: while frozen it acts at once on the registers as held, of which a write of
1 to RESTART alone does more; else it goes to the gate of its target. -/
def DebugIssues (edge : Nat) (a b : Blk) : Prop :=
  let w := ofBitList (a.tapDr 0)
  let write := w.testBit 72
  let addr := w / 2 ^ 32 % 2 ^ 40
  let v := BitVec.ofNat 32 w
  let op := if write then AccOp.write else AccOp.read
  (a.frozen = true → ∃ c, FrozenServed write addr v (asHeld a) c ∧
    let d := if a.dbg.held = none then c else { c with regs := a.regs, dbg := { c.dbg with held := some c.regs } }
    let restarts := write = true ∧ regionOf addr = some .regs ∧ regAt (addr - regBase) = some (.DBG_CTRL, 0) ∧ v.getLsbD 1 = true
    b = if restarts ∧ c.dbg.deny = false then d.restart else d) ∧
  (a.frozen = false → a.gate 1023 op addr 32 = none →
    b = { a with bus := { a.bus with waiting := a.bus.waiting ++ [⟨.debug, 1023, op, addr, 32, v.setWidth 128, edge⟩] } }) ∧
  ∀ r, a.frozen = false → a.gate 1023 op addr 32 = some r → Refused .debug op 1023 r (denyData op addr) a b

/-- From `a` to `b` the whole chain is scanned: the instructions, then the data. -/
def Scanned (ir : BitVec 88) (x : ScanIn) (a b : Blk) : Prop := ∃ c d, Shifted ir x a c ∧ BoundaryTakes d b ∧
  (c.tapIr 0 ≠ .dbgAccess → d = c) ∧ (c.tapIr 0 = .dbgAccess → DebugIssues x.edge c d)

end Sys2Proof.Claims

/-- TAP_RESET, BYPASS, IDCODE, SAMPLE_PRELOAD, EXTEST, CLAMP, HIGHZ, EXTEST_PULSE, EXTEST_TRAIN, DBG_ACCESS, FREEZE_PIN, FREEZE_REGISTER,
FREEZE_FLIT and DBG_RESTART complete. A scan gives every TAP of the chain the opcode that its bits of the 88 spell, captures and shifts the data
registers, and updates the boundary registers that are selected; unlisted opcodes are BYPASS, as is what takes pins over without the FREEZE_HOLD strap; a command
whose opcode is not the one of its row does nothing. Under EXTEST and CLAMP the cells drive the pins that do not only observe. A freeze that starts here takes the next freeze
ID, records cause, origin and TB1, and leaves on every UP port; one that arrives unseen and sound goes to every other UP port and freezes the
node with its ID and origin, or is only forwarded where the node is frozen; a pair that has been seen does nothing, nor does a flit whose CRC fails. A debug access
captures the previous result and is issued as master 1023; while frozen it reads and writes at once what the freeze holds, or is refused and counted without a
record. A task context is read word by word while frozen. RESTART acts on a frozen node only. That the flit's CRC is crc-16
over its first 112 bits in the order of log 54, and which pins observe, where the cells lie and what the registers are held as (log 49), are no rules of the spec. -/
def Obligations.ScanFreezeAndReadout : Prop :=
  (∀ (s : State) (k : Fin 17) (ir : BitVec 88) (x : ScanIn), s.blk.mod.phase ≠ .off →
    Completes .tapReset s (fun b => b = { s.blk with dbg := { s.blk.dbg with ir := [], dr := [] } }) ∧
    ∀ c i, (c, i) ∈ [(Instr.bypass k ir x, TapIr.bypass), (.idcode k ir x, .idcode), (.samplePreload k ir x, .samplePreload),
        (.extest k ir x, .extest), (.clamp k ir x, .clamp), (.highz k ir x, .highz), (.extestPulse k ir x, .extestPulse),
        (.extestTrain k ir x, .extestTrain)] ++ (if k = 0 then [(.dbgAccess ir x, .dbgAccess)] else []) →
      (tapDecode k (opcodeFor ir k) = i → Completes c s fun b => Scanned ir x s.blk b) ∧
        (tapDecode k (opcodeFor ir k) ≠ i → Completes c s fun b => b = s.blk)) ∧
  (∀ (ir : BitVec 88), (ir.toNat = (List.range 17).foldl (fun n k => n * 2 ^ (if k = 0 then 8 else 5) + opcodeFor ir k) 0)) ∧
  (∀ (b : Blk) (k : Nat) (pins : List Bool),
    (let c : Blk := { b with dbg := { b.dbg with ir := [], dr := [] } }
     c.tapIr k = .idcode ∧ (c.tapDr k).length = 32 ∧ ofBitList (c.tapDr k) = if k = 0 then 0x15120A4B else 0x10580A4B) ∧
    (∀ op, SMap.get b.dbg.ir k 1 = op → b.tapIr k =
      if op = 1 then .idcode else if op = 2 then .samplePreload else if op = 3 ∧ b.holdStrap = true then .extest
      else if op = 4 ∧ b.holdStrap = true then .clamp else if op = 5 ∧ b.holdStrap = true then .highz
      else if op = 6 ∧ k = 0 ∧ b.holdStrap = true then .extestPulse else if op = 7 ∧ k = 0 ∧ b.holdStrap = true then .extestTrain
      else if op = 0x20 ∧ k = 0 then .dbgAccess else .bypass) ∧
    (b.tapIr k ∈ [.bypass, .clamp, .highz] → b.captureDr k pins = [false]) ∧
    (b.tapIr k = .idcode → (b.captureDr k pins).length = 32 ∧
      ofBitList (b.captureDr k pins) = if k = 0 then 0x15120A4B else 0x10580A4B) ∧
    (b.tapIr k = .dbgAccess → (b.captureDr k pins).length = 73 ∧ ofBitList (b.captureDr k pins) =
      (if b.frozen = false ∧ ∃ c ∈ b.bus.waiting, c.who = .debug then 2 ^ 33 else 0) + b.dbg.deny.toNat * 2 ^ 32 + b.dbg.data.toNat) ∧
    (b.tapIr k ∈ [.samplePreload, .extest, .extestPulse, .extestTrain] →
      (b.captureDr k pins).length = Config.boundaryCells k ∧
        ∀ j, j < Config.boundaryCells k → (b.captureDr k pins).getD j false = pins.getD j false) ∧
    ∀ p, b.scanPin k p =
      if pinObserves p = true then .free else if b.tapIr k ∈ [.extest, .clamp] then .level (b.cell k p)
      else if b.tapIr k = .highz then .highz
      else if b.tapIr k = .extestPulse then (if pinAcOut p then .pulse (b.cell k p) else .level (b.cell k p))
      else if b.tapIr k = .extestTrain then (if pinAcOut p then .train (b.cell k p) else .level (b.cell k p)) else .free) ∧
  (∀ (s : State),
    (s.blk.mod.phase ≠ .off → s.blk.frozen = false →
      Completes (.freezePin false) s (fun b => FreezesHere 1 { s.blk with mod := { s.blk.mod with freezeN := false } } b) ∧
      Completes (.freezeRegister 1023) s (fun b => FreezesHere 2 s.blk b)) ∧
    (s.blk.frozen = true ∨ s.blk.mod.phase = .off → Completes (.freezePin false) s (fun b =>
        b = { s.blk with mod := { s.blk.mod with freezeN := false } }) ∧
      Completes (.freezeRegister 1023) s (fun b => b = s.blk)) ∧
    Completes (.freezePin true) s (fun b => b = { s.blk with mod := { s.blk.mod with freezeN := true } }) ∧
    (∀ mid, mid ≠ 1023 → Completes (.freezeRegister mid) s fun b => b = s.blk) ∧
    (∀ (p : Fin 8) (id : BitVec 16) (origin : BitVec 9) (crc : BitVec 16), s.blk.linkRuns p = true → s.blk.portUp p = true →
      let sound := crc = controlCrc 3 (freezeBits id.toNat origin.toNat)
      let pair := (origin.toNat, id.toNat)
      let saw := { s.blk.dbg with seen := s.blk.dbg.seen ++ [pair] }
      let others := s.blk.upPorts.filter (· != p.val)
      (¬ sound ∨ pair ∈ s.blk.dbg.seen → Completes (.freezeFlit p id origin crc) s fun b => b = s.blk) ∧
      (sound → pair ∉ s.blk.dbg.seen → Completes (.freezeFlit p id origin crc) s fun b =>
        b.dbg = (if s.blk.frozen then saw else { saw with held := some b.heldRegs }) ∧ LeavesOn others (.freeze id.toNat origin.toNat) s.blk b ∧
          { s.blk with regs := b.regs, dbg := b.dbg, fab := b.fab } = b ∧
          (s.blk.frozen = false → Freezes 3 id.toNat origin.toNat s.blk b) ∧ (s.blk.frozen = true → RegsKept s.blk b))) ∧
    (s.blk.frozen = true → Completes .dbgRestart s fun b => b = s.blk.restart) ∧
    (s.blk.frozen = false → Completes .dbgRestart s fun b => b = s.blk)) ∧
  (∀ (b : Blk),
    let t := b.task (b.fld F.DBG_CTX_SEL_TASK 0)
    let k := b.fld F.DBG_CTX_SEL_INDEX 0
    let w := b.readReg .DBG_CTX_DATA 0
    (b.frozen = false → w = 0) ∧ (b.frozen = true →
      (k < 64 → w = t.lane (k / 4) (k % 4)) ∧
      (64 ≤ k → k < 96 → w = (BitVec.ofInt 64 (t.acc ((k - 64) / 8) ((k - 64) % 8 / 2))).extractLsb' (32 * (k % 2)) 32) ∧
      (k = 96 → ∀ n, n < 8 → w.extractLsb' (4 * n) 4 = t.pred n) ∧ (k = 97 → w = BitVec.ofNat 32 t.flags) ∧
      (k = 98 → w = BitVec.ofNat 32 t.pc) ∧ (99 ≤ k → w = 0)))
end

