-- ==== Sys2Proof/Laws/State.lean ====
section
/-!
SUPPORT. What the named updates of the state leave as it is: one lemma for each field and update, each true by definition.
-/

namespace Sys2Proof.Machine

@[simp] theorem State.run_eq (s : State) (f : Blk → Blk) : s.run f = .next { s with blk := f s.blk } := rfl

@[simp] theorem Blk.when_true (b : Blk) (f : Blk → Blk) : b.when true f = f b := rfl

@[simp] theorem Blk.when_false (b : Blk) (f : Blk → Blk) : b.when false f = b := rfl

theorem Blk.when_of {b : Blk} {c : Bool} (f : Blk → Blk) (h : c = true) : b.when c f = f b := by subst h; rfl

theorem Blk.live_of {b : Blk} (f : Blk → Blk) (h : b.aonRuns = true) : b.live f = f b := Blk.when_of f h

/-! ## setReg -/

@[simp] theorem Blk.setReg_mem (b : Blk) (r : RegName) (i : Nat) (v : Word) : (b.setReg r i v).mem = b.mem := rfl

@[simp] theorem Blk.setReg_otp (b : Blk) (r : RegName) (i : Nat) (v : Word) : (b.setReg r i v).otp = b.otp := rfl

@[simp] theorem Blk.setReg_mod (b : Blk) (r : RegName) (i : Nat) (v : Word) : (b.setReg r i v).mod = b.mod := rfl

@[simp] theorem Blk.setReg_bus (b : Blk) (r : RegName) (i : Nat) (v : Word) : (b.setReg r i v).bus = b.bus := rfl

@[simp] theorem Blk.setReg_jrn (b : Blk) (r : RegName) (i : Nat) (v : Word) : (b.setReg r i v).jrn = b.jrn := rfl

@[simp] theorem Blk.setReg_tbu (b : Blk) (r : RegName) (i : Nat) (v : Word) : (b.setReg r i v).tbu = b.tbu := rfl

@[simp] theorem Blk.setReg_le (b : Blk) (r : RegName) (i : Nat) (v : Word) : (b.setReg r i v).le = b.le := rfl

@[simp] theorem Blk.setReg_afe (b : Blk) (r : RegName) (i : Nat) (v : Word) : (b.setReg r i v).afe = b.afe := rfl

@[simp] theorem Blk.setReg_hpc (b : Blk) (r : RegName) (i : Nat) (v : Word) : (b.setReg r i v).hpc = b.hpc := rfl

@[simp] theorem Blk.setReg_out (b : Blk) (r : RegName) (i : Nat) (v : Word) : (b.setReg r i v).out = b.out := rfl

@[simp] theorem Blk.setReg_cam (b : Blk) (r : RegName) (i : Nat) (v : Word) : (b.setReg r i v).cam = b.cam := rfl

@[simp] theorem Blk.setReg_fus (b : Blk) (r : RegName) (i : Nat) (v : Word) : (b.setReg r i v).fus = b.fus := rfl

@[simp] theorem Blk.setReg_gnss (b : Blk) (r : RegName) (i : Nat) (v : Word) : (b.setReg r i v).gnss = b.gnss := rfl

@[simp] theorem Blk.setReg_yld (b : Blk) (r : RegName) (i : Nat) (v : Word) : (b.setReg r i v).yld = b.yld := rfl

@[simp] theorem Blk.setReg_fab (b : Blk) (r : RegName) (i : Nat) (v : Word) : (b.setReg r i v).fab = b.fab := rfl

@[simp] theorem Blk.setReg_net (b : Blk) (r : RegName) (i : Nat) (v : Word) : (b.setReg r i v).net = b.net := rfl

@[simp] theorem Blk.setReg_pwr (b : Blk) (r : RegName) (i : Nat) (v : Word) : (b.setReg r i v).pwr = b.pwr := rfl

@[simp] theorem Blk.setReg_boot (b : Blk) (r : RegName) (i : Nat) (v : Word) : (b.setReg r i v).boot = b.boot := rfl

@[simp] theorem Blk.setReg_dbg (b : Blk) (r : RegName) (i : Nat) (v : Word) : (b.setReg r i v).dbg = b.dbg := rfl

@[simp] theorem Blk.setReg_free (b : Blk) (r : RegName) (i : Nat) (v : Word) : (b.setReg r i v).free = b.free := rfl

/-! ## setReg64 -/

@[simp] theorem Blk.setReg64_mem (b : Blk) (lo hi : RegName) (i v : Nat) : (b.setReg64 lo hi i v).mem = b.mem := rfl

@[simp] theorem Blk.setReg64_otp (b : Blk) (lo hi : RegName) (i v : Nat) : (b.setReg64 lo hi i v).otp = b.otp := rfl

@[simp] theorem Blk.setReg64_mod (b : Blk) (lo hi : RegName) (i v : Nat) : (b.setReg64 lo hi i v).mod = b.mod := rfl

@[simp] theorem Blk.setReg64_bus (b : Blk) (lo hi : RegName) (i v : Nat) : (b.setReg64 lo hi i v).bus = b.bus := rfl

@[simp] theorem Blk.setReg64_jrn (b : Blk) (lo hi : RegName) (i v : Nat) : (b.setReg64 lo hi i v).jrn = b.jrn := rfl

@[simp] theorem Blk.setReg64_tbu (b : Blk) (lo hi : RegName) (i v : Nat) : (b.setReg64 lo hi i v).tbu = b.tbu := rfl

@[simp] theorem Blk.setReg64_le (b : Blk) (lo hi : RegName) (i v : Nat) : (b.setReg64 lo hi i v).le = b.le := rfl

@[simp] theorem Blk.setReg64_afe (b : Blk) (lo hi : RegName) (i v : Nat) : (b.setReg64 lo hi i v).afe = b.afe := rfl

@[simp] theorem Blk.setReg64_hpc (b : Blk) (lo hi : RegName) (i v : Nat) : (b.setReg64 lo hi i v).hpc = b.hpc := rfl

@[simp] theorem Blk.setReg64_out (b : Blk) (lo hi : RegName) (i v : Nat) : (b.setReg64 lo hi i v).out = b.out := rfl

@[simp] theorem Blk.setReg64_cam (b : Blk) (lo hi : RegName) (i v : Nat) : (b.setReg64 lo hi i v).cam = b.cam := rfl

@[simp] theorem Blk.setReg64_fus (b : Blk) (lo hi : RegName) (i v : Nat) : (b.setReg64 lo hi i v).fus = b.fus := rfl

@[simp] theorem Blk.setReg64_gnss (b : Blk) (lo hi : RegName) (i v : Nat) : (b.setReg64 lo hi i v).gnss = b.gnss := rfl

@[simp] theorem Blk.setReg64_yld (b : Blk) (lo hi : RegName) (i v : Nat) : (b.setReg64 lo hi i v).yld = b.yld := rfl

@[simp] theorem Blk.setReg64_fab (b : Blk) (lo hi : RegName) (i v : Nat) : (b.setReg64 lo hi i v).fab = b.fab := rfl

@[simp] theorem Blk.setReg64_net (b : Blk) (lo hi : RegName) (i v : Nat) : (b.setReg64 lo hi i v).net = b.net := rfl

@[simp] theorem Blk.setReg64_pwr (b : Blk) (lo hi : RegName) (i v : Nat) : (b.setReg64 lo hi i v).pwr = b.pwr := rfl

@[simp] theorem Blk.setReg64_boot (b : Blk) (lo hi : RegName) (i v : Nat) : (b.setReg64 lo hi i v).boot = b.boot := rfl

@[simp] theorem Blk.setReg64_dbg (b : Blk) (lo hi : RegName) (i v : Nat) : (b.setReg64 lo hi i v).dbg = b.dbg := rfl

@[simp] theorem Blk.setReg64_free (b : Blk) (lo hi : RegName) (i v : Nat) : (b.setReg64 lo hi i v).free = b.free := rfl

/-! ## setFld -/

@[simp] theorem Blk.setFld_mem (b : Blk) (f : Fld) (i v : Nat) : (b.setFld f i v).mem = b.mem := rfl

@[simp] theorem Blk.setFld_otp (b : Blk) (f : Fld) (i v : Nat) : (b.setFld f i v).otp = b.otp := rfl

@[simp] theorem Blk.setFld_mod (b : Blk) (f : Fld) (i v : Nat) : (b.setFld f i v).mod = b.mod := rfl

@[simp] theorem Blk.setFld_bus (b : Blk) (f : Fld) (i v : Nat) : (b.setFld f i v).bus = b.bus := rfl

@[simp] theorem Blk.setFld_jrn (b : Blk) (f : Fld) (i v : Nat) : (b.setFld f i v).jrn = b.jrn := rfl

@[simp] theorem Blk.setFld_tbu (b : Blk) (f : Fld) (i v : Nat) : (b.setFld f i v).tbu = b.tbu := rfl

@[simp] theorem Blk.setFld_le (b : Blk) (f : Fld) (i v : Nat) : (b.setFld f i v).le = b.le := rfl

@[simp] theorem Blk.setFld_afe (b : Blk) (f : Fld) (i v : Nat) : (b.setFld f i v).afe = b.afe := rfl

@[simp] theorem Blk.setFld_hpc (b : Blk) (f : Fld) (i v : Nat) : (b.setFld f i v).hpc = b.hpc := rfl

@[simp] theorem Blk.setFld_out (b : Blk) (f : Fld) (i v : Nat) : (b.setFld f i v).out = b.out := rfl

@[simp] theorem Blk.setFld_cam (b : Blk) (f : Fld) (i v : Nat) : (b.setFld f i v).cam = b.cam := rfl

@[simp] theorem Blk.setFld_fus (b : Blk) (f : Fld) (i v : Nat) : (b.setFld f i v).fus = b.fus := rfl

@[simp] theorem Blk.setFld_gnss (b : Blk) (f : Fld) (i v : Nat) : (b.setFld f i v).gnss = b.gnss := rfl

@[simp] theorem Blk.setFld_yld (b : Blk) (f : Fld) (i v : Nat) : (b.setFld f i v).yld = b.yld := rfl

@[simp] theorem Blk.setFld_fab (b : Blk) (f : Fld) (i v : Nat) : (b.setFld f i v).fab = b.fab := rfl

@[simp] theorem Blk.setFld_net (b : Blk) (f : Fld) (i v : Nat) : (b.setFld f i v).net = b.net := rfl

@[simp] theorem Blk.setFld_pwr (b : Blk) (f : Fld) (i v : Nat) : (b.setFld f i v).pwr = b.pwr := rfl

@[simp] theorem Blk.setFld_boot (b : Blk) (f : Fld) (i v : Nat) : (b.setFld f i v).boot = b.boot := rfl

@[simp] theorem Blk.setFld_dbg (b : Blk) (f : Fld) (i v : Nat) : (b.setFld f i v).dbg = b.dbg := rfl

@[simp] theorem Blk.setFld_free (b : Blk) (f : Fld) (i v : Nat) : (b.setFld f i v).free = b.free := rfl

/-! ## setFlag -/

@[simp] theorem Blk.setFlag_mem (b : Blk) (f : Fld) (i : Nat) (x : Bool) : (b.setFlag f i x).mem = b.mem := rfl

@[simp] theorem Blk.setFlag_otp (b : Blk) (f : Fld) (i : Nat) (x : Bool) : (b.setFlag f i x).otp = b.otp := rfl

@[simp] theorem Blk.setFlag_mod (b : Blk) (f : Fld) (i : Nat) (x : Bool) : (b.setFlag f i x).mod = b.mod := rfl

@[simp] theorem Blk.setFlag_bus (b : Blk) (f : Fld) (i : Nat) (x : Bool) : (b.setFlag f i x).bus = b.bus := rfl

@[simp] theorem Blk.setFlag_jrn (b : Blk) (f : Fld) (i : Nat) (x : Bool) : (b.setFlag f i x).jrn = b.jrn := rfl

@[simp] theorem Blk.setFlag_tbu (b : Blk) (f : Fld) (i : Nat) (x : Bool) : (b.setFlag f i x).tbu = b.tbu := rfl

@[simp] theorem Blk.setFlag_le (b : Blk) (f : Fld) (i : Nat) (x : Bool) : (b.setFlag f i x).le = b.le := rfl

@[simp] theorem Blk.setFlag_afe (b : Blk) (f : Fld) (i : Nat) (x : Bool) : (b.setFlag f i x).afe = b.afe := rfl

@[simp] theorem Blk.setFlag_hpc (b : Blk) (f : Fld) (i : Nat) (x : Bool) : (b.setFlag f i x).hpc = b.hpc := rfl

@[simp] theorem Blk.setFlag_out (b : Blk) (f : Fld) (i : Nat) (x : Bool) : (b.setFlag f i x).out = b.out := rfl

@[simp] theorem Blk.setFlag_cam (b : Blk) (f : Fld) (i : Nat) (x : Bool) : (b.setFlag f i x).cam = b.cam := rfl

@[simp] theorem Blk.setFlag_fus (b : Blk) (f : Fld) (i : Nat) (x : Bool) : (b.setFlag f i x).fus = b.fus := rfl

@[simp] theorem Blk.setFlag_gnss (b : Blk) (f : Fld) (i : Nat) (x : Bool) : (b.setFlag f i x).gnss = b.gnss := rfl

@[simp] theorem Blk.setFlag_yld (b : Blk) (f : Fld) (i : Nat) (x : Bool) : (b.setFlag f i x).yld = b.yld := rfl

@[simp] theorem Blk.setFlag_fab (b : Blk) (f : Fld) (i : Nat) (x : Bool) : (b.setFlag f i x).fab = b.fab := rfl

@[simp] theorem Blk.setFlag_net (b : Blk) (f : Fld) (i : Nat) (x : Bool) : (b.setFlag f i x).net = b.net := rfl

@[simp] theorem Blk.setFlag_pwr (b : Blk) (f : Fld) (i : Nat) (x : Bool) : (b.setFlag f i x).pwr = b.pwr := rfl

@[simp] theorem Blk.setFlag_boot (b : Blk) (f : Fld) (i : Nat) (x : Bool) : (b.setFlag f i x).boot = b.boot := rfl

@[simp] theorem Blk.setFlag_dbg (b : Blk) (f : Fld) (i : Nat) (x : Bool) : (b.setFlag f i x).dbg = b.dbg := rfl

@[simp] theorem Blk.setFlag_free (b : Blk) (f : Fld) (i : Nat) (x : Bool) : (b.setFlag f i x).free = b.free := rfl

/-! ## setSFld -/

@[simp] theorem Blk.setSFld_mem (b : Blk) (f : Fld) (i : Nat) (v : Int) : (b.setSFld f i v).mem = b.mem := rfl

@[simp] theorem Blk.setSFld_otp (b : Blk) (f : Fld) (i : Nat) (v : Int) : (b.setSFld f i v).otp = b.otp := rfl

@[simp] theorem Blk.setSFld_mod (b : Blk) (f : Fld) (i : Nat) (v : Int) : (b.setSFld f i v).mod = b.mod := rfl

@[simp] theorem Blk.setSFld_bus (b : Blk) (f : Fld) (i : Nat) (v : Int) : (b.setSFld f i v).bus = b.bus := rfl

@[simp] theorem Blk.setSFld_jrn (b : Blk) (f : Fld) (i : Nat) (v : Int) : (b.setSFld f i v).jrn = b.jrn := rfl

@[simp] theorem Blk.setSFld_tbu (b : Blk) (f : Fld) (i : Nat) (v : Int) : (b.setSFld f i v).tbu = b.tbu := rfl

@[simp] theorem Blk.setSFld_le (b : Blk) (f : Fld) (i : Nat) (v : Int) : (b.setSFld f i v).le = b.le := rfl

@[simp] theorem Blk.setSFld_afe (b : Blk) (f : Fld) (i : Nat) (v : Int) : (b.setSFld f i v).afe = b.afe := rfl

@[simp] theorem Blk.setSFld_hpc (b : Blk) (f : Fld) (i : Nat) (v : Int) : (b.setSFld f i v).hpc = b.hpc := rfl

@[simp] theorem Blk.setSFld_out (b : Blk) (f : Fld) (i : Nat) (v : Int) : (b.setSFld f i v).out = b.out := rfl

@[simp] theorem Blk.setSFld_cam (b : Blk) (f : Fld) (i : Nat) (v : Int) : (b.setSFld f i v).cam = b.cam := rfl

@[simp] theorem Blk.setSFld_fus (b : Blk) (f : Fld) (i : Nat) (v : Int) : (b.setSFld f i v).fus = b.fus := rfl

@[simp] theorem Blk.setSFld_gnss (b : Blk) (f : Fld) (i : Nat) (v : Int) : (b.setSFld f i v).gnss = b.gnss := rfl

@[simp] theorem Blk.setSFld_yld (b : Blk) (f : Fld) (i : Nat) (v : Int) : (b.setSFld f i v).yld = b.yld := rfl

@[simp] theorem Blk.setSFld_fab (b : Blk) (f : Fld) (i : Nat) (v : Int) : (b.setSFld f i v).fab = b.fab := rfl

@[simp] theorem Blk.setSFld_net (b : Blk) (f : Fld) (i : Nat) (v : Int) : (b.setSFld f i v).net = b.net := rfl

@[simp] theorem Blk.setSFld_pwr (b : Blk) (f : Fld) (i : Nat) (v : Int) : (b.setSFld f i v).pwr = b.pwr := rfl

@[simp] theorem Blk.setSFld_boot (b : Blk) (f : Fld) (i : Nat) (v : Int) : (b.setSFld f i v).boot = b.boot := rfl

@[simp] theorem Blk.setSFld_dbg (b : Blk) (f : Fld) (i : Nat) (v : Int) : (b.setSFld f i v).dbg = b.dbg := rfl

@[simp] theorem Blk.setSFld_free (b : Blk) (f : Fld) (i : Nat) (v : Int) : (b.setSFld f i v).free = b.free := rfl

/-! ## incFld -/

@[simp] theorem Blk.incFld_mem (b : Blk) (f : Fld) (i : Nat) : (b.incFld f i).mem = b.mem := rfl

@[simp] theorem Blk.incFld_otp (b : Blk) (f : Fld) (i : Nat) : (b.incFld f i).otp = b.otp := rfl

@[simp] theorem Blk.incFld_mod (b : Blk) (f : Fld) (i : Nat) : (b.incFld f i).mod = b.mod := rfl

@[simp] theorem Blk.incFld_bus (b : Blk) (f : Fld) (i : Nat) : (b.incFld f i).bus = b.bus := rfl

@[simp] theorem Blk.incFld_jrn (b : Blk) (f : Fld) (i : Nat) : (b.incFld f i).jrn = b.jrn := rfl

@[simp] theorem Blk.incFld_tbu (b : Blk) (f : Fld) (i : Nat) : (b.incFld f i).tbu = b.tbu := rfl

@[simp] theorem Blk.incFld_le (b : Blk) (f : Fld) (i : Nat) : (b.incFld f i).le = b.le := rfl

@[simp] theorem Blk.incFld_afe (b : Blk) (f : Fld) (i : Nat) : (b.incFld f i).afe = b.afe := rfl

@[simp] theorem Blk.incFld_hpc (b : Blk) (f : Fld) (i : Nat) : (b.incFld f i).hpc = b.hpc := rfl

@[simp] theorem Blk.incFld_out (b : Blk) (f : Fld) (i : Nat) : (b.incFld f i).out = b.out := rfl

@[simp] theorem Blk.incFld_cam (b : Blk) (f : Fld) (i : Nat) : (b.incFld f i).cam = b.cam := rfl

@[simp] theorem Blk.incFld_fus (b : Blk) (f : Fld) (i : Nat) : (b.incFld f i).fus = b.fus := rfl

@[simp] theorem Blk.incFld_gnss (b : Blk) (f : Fld) (i : Nat) : (b.incFld f i).gnss = b.gnss := rfl

@[simp] theorem Blk.incFld_yld (b : Blk) (f : Fld) (i : Nat) : (b.incFld f i).yld = b.yld := rfl

@[simp] theorem Blk.incFld_fab (b : Blk) (f : Fld) (i : Nat) : (b.incFld f i).fab = b.fab := rfl

@[simp] theorem Blk.incFld_net (b : Blk) (f : Fld) (i : Nat) : (b.incFld f i).net = b.net := rfl

@[simp] theorem Blk.incFld_pwr (b : Blk) (f : Fld) (i : Nat) : (b.incFld f i).pwr = b.pwr := rfl

@[simp] theorem Blk.incFld_boot (b : Blk) (f : Fld) (i : Nat) : (b.incFld f i).boot = b.boot := rfl

@[simp] theorem Blk.incFld_dbg (b : Blk) (f : Fld) (i : Nat) : (b.incFld f i).dbg = b.dbg := rfl

@[simp] theorem Blk.incFld_free (b : Blk) (f : Fld) (i : Nat) : (b.incFld f i).free = b.free := rfl

/-! ## addSat -/

@[simp] theorem Blk.addSat_mem (b : Blk) (f : Fld) (i n : Nat) : (b.addSat f i n).mem = b.mem := rfl

@[simp] theorem Blk.addSat_otp (b : Blk) (f : Fld) (i n : Nat) : (b.addSat f i n).otp = b.otp := rfl

@[simp] theorem Blk.addSat_mod (b : Blk) (f : Fld) (i n : Nat) : (b.addSat f i n).mod = b.mod := rfl

@[simp] theorem Blk.addSat_bus (b : Blk) (f : Fld) (i n : Nat) : (b.addSat f i n).bus = b.bus := rfl

@[simp] theorem Blk.addSat_jrn (b : Blk) (f : Fld) (i n : Nat) : (b.addSat f i n).jrn = b.jrn := rfl

@[simp] theorem Blk.addSat_tbu (b : Blk) (f : Fld) (i n : Nat) : (b.addSat f i n).tbu = b.tbu := rfl

@[simp] theorem Blk.addSat_le (b : Blk) (f : Fld) (i n : Nat) : (b.addSat f i n).le = b.le := rfl

@[simp] theorem Blk.addSat_afe (b : Blk) (f : Fld) (i n : Nat) : (b.addSat f i n).afe = b.afe := rfl

@[simp] theorem Blk.addSat_hpc (b : Blk) (f : Fld) (i n : Nat) : (b.addSat f i n).hpc = b.hpc := rfl

@[simp] theorem Blk.addSat_out (b : Blk) (f : Fld) (i n : Nat) : (b.addSat f i n).out = b.out := rfl

@[simp] theorem Blk.addSat_cam (b : Blk) (f : Fld) (i n : Nat) : (b.addSat f i n).cam = b.cam := rfl

@[simp] theorem Blk.addSat_fus (b : Blk) (f : Fld) (i n : Nat) : (b.addSat f i n).fus = b.fus := rfl

@[simp] theorem Blk.addSat_gnss (b : Blk) (f : Fld) (i n : Nat) : (b.addSat f i n).gnss = b.gnss := rfl

@[simp] theorem Blk.addSat_yld (b : Blk) (f : Fld) (i n : Nat) : (b.addSat f i n).yld = b.yld := rfl

@[simp] theorem Blk.addSat_fab (b : Blk) (f : Fld) (i n : Nat) : (b.addSat f i n).fab = b.fab := rfl

@[simp] theorem Blk.addSat_net (b : Blk) (f : Fld) (i n : Nat) : (b.addSat f i n).net = b.net := rfl

@[simp] theorem Blk.addSat_pwr (b : Blk) (f : Fld) (i n : Nat) : (b.addSat f i n).pwr = b.pwr := rfl

@[simp] theorem Blk.addSat_boot (b : Blk) (f : Fld) (i n : Nat) : (b.addSat f i n).boot = b.boot := rfl

@[simp] theorem Blk.addSat_dbg (b : Blk) (f : Fld) (i n : Nat) : (b.addSat f i n).dbg = b.dbg := rfl

@[simp] theorem Blk.addSat_free (b : Blk) (f : Fld) (i n : Nat) : (b.addSat f i n).free = b.free := rfl

/-! ## setByte -/

@[simp] theorem Blk.setByte_regs (b : Blk) (a : Nat) (v : Byte) : (b.setByte a v).regs = b.regs := rfl

@[simp] theorem Blk.setByte_otp (b : Blk) (a : Nat) (v : Byte) : (b.setByte a v).otp = b.otp := rfl

@[simp] theorem Blk.setByte_mod (b : Blk) (a : Nat) (v : Byte) : (b.setByte a v).mod = b.mod := rfl

@[simp] theorem Blk.setByte_bus (b : Blk) (a : Nat) (v : Byte) : (b.setByte a v).bus = b.bus := rfl

@[simp] theorem Blk.setByte_jrn (b : Blk) (a : Nat) (v : Byte) : (b.setByte a v).jrn = b.jrn := rfl

@[simp] theorem Blk.setByte_tbu (b : Blk) (a : Nat) (v : Byte) : (b.setByte a v).tbu = b.tbu := rfl

@[simp] theorem Blk.setByte_le (b : Blk) (a : Nat) (v : Byte) : (b.setByte a v).le = b.le := rfl

@[simp] theorem Blk.setByte_afe (b : Blk) (a : Nat) (v : Byte) : (b.setByte a v).afe = b.afe := rfl

@[simp] theorem Blk.setByte_hpc (b : Blk) (a : Nat) (v : Byte) : (b.setByte a v).hpc = b.hpc := rfl

@[simp] theorem Blk.setByte_out (b : Blk) (a : Nat) (v : Byte) : (b.setByte a v).out = b.out := rfl

@[simp] theorem Blk.setByte_cam (b : Blk) (a : Nat) (v : Byte) : (b.setByte a v).cam = b.cam := rfl

@[simp] theorem Blk.setByte_fus (b : Blk) (a : Nat) (v : Byte) : (b.setByte a v).fus = b.fus := rfl

@[simp] theorem Blk.setByte_gnss (b : Blk) (a : Nat) (v : Byte) : (b.setByte a v).gnss = b.gnss := rfl

@[simp] theorem Blk.setByte_yld (b : Blk) (a : Nat) (v : Byte) : (b.setByte a v).yld = b.yld := rfl

@[simp] theorem Blk.setByte_fab (b : Blk) (a : Nat) (v : Byte) : (b.setByte a v).fab = b.fab := rfl

@[simp] theorem Blk.setByte_net (b : Blk) (a : Nat) (v : Byte) : (b.setByte a v).net = b.net := rfl

@[simp] theorem Blk.setByte_pwr (b : Blk) (a : Nat) (v : Byte) : (b.setByte a v).pwr = b.pwr := rfl

@[simp] theorem Blk.setByte_boot (b : Blk) (a : Nat) (v : Byte) : (b.setByte a v).boot = b.boot := rfl

@[simp] theorem Blk.setByte_dbg (b : Blk) (a : Nat) (v : Byte) : (b.setByte a v).dbg = b.dbg := rfl

@[simp] theorem Blk.setByte_free (b : Blk) (a : Nat) (v : Byte) : (b.setByte a v).free = b.free := rfl

/-! ## took -/

@[simp] theorem Blk.took_regs (b : Blk) : (b.took).regs = b.regs := rfl

@[simp] theorem Blk.took_mem (b : Blk) : (b.took).mem = b.mem := rfl

@[simp] theorem Blk.took_otp (b : Blk) : (b.took).otp = b.otp := rfl

@[simp] theorem Blk.took_mod (b : Blk) : (b.took).mod = b.mod := rfl

@[simp] theorem Blk.took_bus (b : Blk) : (b.took).bus = b.bus := rfl

@[simp] theorem Blk.took_jrn (b : Blk) : (b.took).jrn = b.jrn := rfl

@[simp] theorem Blk.took_tbu (b : Blk) : (b.took).tbu = b.tbu := rfl

@[simp] theorem Blk.took_le (b : Blk) : (b.took).le = b.le := rfl

@[simp] theorem Blk.took_afe (b : Blk) : (b.took).afe = b.afe := rfl

@[simp] theorem Blk.took_hpc (b : Blk) : (b.took).hpc = b.hpc := rfl

@[simp] theorem Blk.took_out (b : Blk) : (b.took).out = b.out := rfl

@[simp] theorem Blk.took_cam (b : Blk) : (b.took).cam = b.cam := rfl

@[simp] theorem Blk.took_fus (b : Blk) : (b.took).fus = b.fus := rfl

@[simp] theorem Blk.took_gnss (b : Blk) : (b.took).gnss = b.gnss := rfl

@[simp] theorem Blk.took_yld (b : Blk) : (b.took).yld = b.yld := rfl

@[simp] theorem Blk.took_fab (b : Blk) : (b.took).fab = b.fab := rfl

@[simp] theorem Blk.took_net (b : Blk) : (b.took).net = b.net := rfl

@[simp] theorem Blk.took_pwr (b : Blk) : (b.took).pwr = b.pwr := rfl

@[simp] theorem Blk.took_boot (b : Blk) : (b.took).boot = b.boot := rfl

@[simp] theorem Blk.took_dbg (b : Blk) : (b.took).dbg = b.dbg := rfl

/-! ## logFault -/

@[simp] theorem Blk.logFault_regs (b : Blk) (r : FaultRec) : (b.logFault r).regs = b.regs := rfl

@[simp] theorem Blk.logFault_mem (b : Blk) (r : FaultRec) : (b.logFault r).mem = b.mem := rfl

@[simp] theorem Blk.logFault_otp (b : Blk) (r : FaultRec) : (b.logFault r).otp = b.otp := rfl

@[simp] theorem Blk.logFault_mod (b : Blk) (r : FaultRec) : (b.logFault r).mod = b.mod := rfl

@[simp] theorem Blk.logFault_bus (b : Blk) (r : FaultRec) : (b.logFault r).bus = b.bus := rfl

@[simp] theorem Blk.logFault_tbu (b : Blk) (r : FaultRec) : (b.logFault r).tbu = b.tbu := rfl

@[simp] theorem Blk.logFault_le (b : Blk) (r : FaultRec) : (b.logFault r).le = b.le := rfl

@[simp] theorem Blk.logFault_afe (b : Blk) (r : FaultRec) : (b.logFault r).afe = b.afe := rfl

@[simp] theorem Blk.logFault_hpc (b : Blk) (r : FaultRec) : (b.logFault r).hpc = b.hpc := rfl

@[simp] theorem Blk.logFault_out (b : Blk) (r : FaultRec) : (b.logFault r).out = b.out := rfl

@[simp] theorem Blk.logFault_cam (b : Blk) (r : FaultRec) : (b.logFault r).cam = b.cam := rfl

@[simp] theorem Blk.logFault_fus (b : Blk) (r : FaultRec) : (b.logFault r).fus = b.fus := rfl

@[simp] theorem Blk.logFault_gnss (b : Blk) (r : FaultRec) : (b.logFault r).gnss = b.gnss := rfl

@[simp] theorem Blk.logFault_yld (b : Blk) (r : FaultRec) : (b.logFault r).yld = b.yld := rfl

@[simp] theorem Blk.logFault_fab (b : Blk) (r : FaultRec) : (b.logFault r).fab = b.fab := rfl

@[simp] theorem Blk.logFault_net (b : Blk) (r : FaultRec) : (b.logFault r).net = b.net := rfl

@[simp] theorem Blk.logFault_pwr (b : Blk) (r : FaultRec) : (b.logFault r).pwr = b.pwr := rfl

@[simp] theorem Blk.logFault_boot (b : Blk) (r : FaultRec) : (b.logFault r).boot = b.boot := rfl

@[simp] theorem Blk.logFault_dbg (b : Blk) (r : FaultRec) : (b.logFault r).dbg = b.dbg := rfl

@[simp] theorem Blk.logFault_free (b : Blk) (r : FaultRec) : (b.logFault r).free = b.free := rfl

/-! ## holdRec, raiseRec -/

/-- While no conductor is known and 64 records wait, a record is dropped and counted (R332). -/
theorem Blk.holdRec_full (b : Blk) (r : FaultRec) (h : !b.condKnown ∧ 64 ≤ b.mod.vc3.length) :
    b.holdRec r = b.addSat F.FAB_FLTQ_DROPPED 0 1 := by rw [Blk.holdRec, if_pos h]

/-- Else it waits for VC3 (R26). -/
theorem Blk.holdRec_waits (b : Blk) (r : FaultRec) (h : ¬ (!b.condKnown ∧ 64 ≤ b.mod.vc3.length)) :
    b.holdRec r = { b with mod := { b.mod with vc3 := b.mod.vc3 ++ [r] } } := by rw [Blk.holdRec, if_neg h]

@[simp] theorem Blk.holdRec_mem (b : Blk) (r : FaultRec) : (b.holdRec r).mem = b.mem := by
  by_cases h : !b.condKnown ∧ 64 ≤ b.mod.vc3.length
  · exact (congrArg Blk.mem (b.holdRec_full r h)).trans (Blk.addSat_mem ..)
  · exact (congrArg Blk.mem (b.holdRec_waits r h)).trans rfl

@[simp] theorem Blk.holdRec_otp (b : Blk) (r : FaultRec) : (b.holdRec r).otp = b.otp := by
  by_cases h : !b.condKnown ∧ 64 ≤ b.mod.vc3.length
  · exact (congrArg Blk.otp (b.holdRec_full r h)).trans (Blk.addSat_otp ..)
  · exact (congrArg Blk.otp (b.holdRec_waits r h)).trans rfl

@[simp] theorem Blk.holdRec_bus (b : Blk) (r : FaultRec) : (b.holdRec r).bus = b.bus := by
  by_cases h : !b.condKnown ∧ 64 ≤ b.mod.vc3.length
  · exact (congrArg Blk.bus (b.holdRec_full r h)).trans (Blk.addSat_bus ..)
  · exact (congrArg Blk.bus (b.holdRec_waits r h)).trans rfl

@[simp] theorem Blk.holdRec_jrn (b : Blk) (r : FaultRec) : (b.holdRec r).jrn = b.jrn := by
  by_cases h : !b.condKnown ∧ 64 ≤ b.mod.vc3.length
  · exact (congrArg Blk.jrn (b.holdRec_full r h)).trans (Blk.addSat_jrn ..)
  · exact (congrArg Blk.jrn (b.holdRec_waits r h)).trans rfl

@[simp] theorem Blk.holdRec_tbu (b : Blk) (r : FaultRec) : (b.holdRec r).tbu = b.tbu := by
  by_cases h : !b.condKnown ∧ 64 ≤ b.mod.vc3.length
  · exact (congrArg Blk.tbu (b.holdRec_full r h)).trans (Blk.addSat_tbu ..)
  · exact (congrArg Blk.tbu (b.holdRec_waits r h)).trans rfl

@[simp] theorem Blk.holdRec_le (b : Blk) (r : FaultRec) : (b.holdRec r).le = b.le := by
  by_cases h : !b.condKnown ∧ 64 ≤ b.mod.vc3.length
  · exact (congrArg Blk.le (b.holdRec_full r h)).trans (Blk.addSat_le ..)
  · exact (congrArg Blk.le (b.holdRec_waits r h)).trans rfl

@[simp] theorem Blk.holdRec_afe (b : Blk) (r : FaultRec) : (b.holdRec r).afe = b.afe := by
  by_cases h : !b.condKnown ∧ 64 ≤ b.mod.vc3.length
  · exact (congrArg Blk.afe (b.holdRec_full r h)).trans (Blk.addSat_afe ..)
  · exact (congrArg Blk.afe (b.holdRec_waits r h)).trans rfl

@[simp] theorem Blk.holdRec_hpc (b : Blk) (r : FaultRec) : (b.holdRec r).hpc = b.hpc := by
  by_cases h : !b.condKnown ∧ 64 ≤ b.mod.vc3.length
  · exact (congrArg Blk.hpc (b.holdRec_full r h)).trans (Blk.addSat_hpc ..)
  · exact (congrArg Blk.hpc (b.holdRec_waits r h)).trans rfl

@[simp] theorem Blk.holdRec_out (b : Blk) (r : FaultRec) : (b.holdRec r).out = b.out := by
  by_cases h : !b.condKnown ∧ 64 ≤ b.mod.vc3.length
  · exact (congrArg Blk.out (b.holdRec_full r h)).trans (Blk.addSat_out ..)
  · exact (congrArg Blk.out (b.holdRec_waits r h)).trans rfl

@[simp] theorem Blk.holdRec_cam (b : Blk) (r : FaultRec) : (b.holdRec r).cam = b.cam := by
  by_cases h : !b.condKnown ∧ 64 ≤ b.mod.vc3.length
  · exact (congrArg Blk.cam (b.holdRec_full r h)).trans (Blk.addSat_cam ..)
  · exact (congrArg Blk.cam (b.holdRec_waits r h)).trans rfl

@[simp] theorem Blk.holdRec_fus (b : Blk) (r : FaultRec) : (b.holdRec r).fus = b.fus := by
  by_cases h : !b.condKnown ∧ 64 ≤ b.mod.vc3.length
  · exact (congrArg Blk.fus (b.holdRec_full r h)).trans (Blk.addSat_fus ..)
  · exact (congrArg Blk.fus (b.holdRec_waits r h)).trans rfl

@[simp] theorem Blk.holdRec_gnss (b : Blk) (r : FaultRec) : (b.holdRec r).gnss = b.gnss := by
  by_cases h : !b.condKnown ∧ 64 ≤ b.mod.vc3.length
  · exact (congrArg Blk.gnss (b.holdRec_full r h)).trans (Blk.addSat_gnss ..)
  · exact (congrArg Blk.gnss (b.holdRec_waits r h)).trans rfl

@[simp] theorem Blk.holdRec_yld (b : Blk) (r : FaultRec) : (b.holdRec r).yld = b.yld := by
  by_cases h : !b.condKnown ∧ 64 ≤ b.mod.vc3.length
  · exact (congrArg Blk.yld (b.holdRec_full r h)).trans (Blk.addSat_yld ..)
  · exact (congrArg Blk.yld (b.holdRec_waits r h)).trans rfl

@[simp] theorem Blk.holdRec_fab (b : Blk) (r : FaultRec) : (b.holdRec r).fab = b.fab := by
  by_cases h : !b.condKnown ∧ 64 ≤ b.mod.vc3.length
  · exact (congrArg Blk.fab (b.holdRec_full r h)).trans (Blk.addSat_fab ..)
  · exact (congrArg Blk.fab (b.holdRec_waits r h)).trans rfl

@[simp] theorem Blk.holdRec_net (b : Blk) (r : FaultRec) : (b.holdRec r).net = b.net := by
  by_cases h : !b.condKnown ∧ 64 ≤ b.mod.vc3.length
  · exact (congrArg Blk.net (b.holdRec_full r h)).trans (Blk.addSat_net ..)
  · exact (congrArg Blk.net (b.holdRec_waits r h)).trans rfl

@[simp] theorem Blk.holdRec_pwr (b : Blk) (r : FaultRec) : (b.holdRec r).pwr = b.pwr := by
  by_cases h : !b.condKnown ∧ 64 ≤ b.mod.vc3.length
  · exact (congrArg Blk.pwr (b.holdRec_full r h)).trans (Blk.addSat_pwr ..)
  · exact (congrArg Blk.pwr (b.holdRec_waits r h)).trans rfl

@[simp] theorem Blk.holdRec_boot (b : Blk) (r : FaultRec) : (b.holdRec r).boot = b.boot := by
  by_cases h : !b.condKnown ∧ 64 ≤ b.mod.vc3.length
  · exact (congrArg Blk.boot (b.holdRec_full r h)).trans (Blk.addSat_boot ..)
  · exact (congrArg Blk.boot (b.holdRec_waits r h)).trans rfl

@[simp] theorem Blk.holdRec_dbg (b : Blk) (r : FaultRec) : (b.holdRec r).dbg = b.dbg := by
  by_cases h : !b.condKnown ∧ 64 ≤ b.mod.vc3.length
  · exact (congrArg Blk.dbg (b.holdRec_full r h)).trans (Blk.addSat_dbg ..)
  · exact (congrArg Blk.dbg (b.holdRec_waits r h)).trans rfl

@[simp] theorem Blk.holdRec_free (b : Blk) (r : FaultRec) : (b.holdRec r).free = b.free := by
  by_cases h : !b.condKnown ∧ 64 ≤ b.mod.vc3.length
  · exact (congrArg Blk.free (b.holdRec_full r h)).trans (Blk.addSat_free ..)
  · exact (congrArg Blk.free (b.holdRec_waits r h)).trans rfl

@[simp] theorem Blk.raiseRec_mem (b : Blk) (r : FaultRec) : (b.raiseRec r).mem = b.mem := by
  simp only [Blk.raiseRec, Blk.holdRec_mem, Blk.setReg_mem, Blk.logFault_mem]

@[simp] theorem Blk.raiseRec_otp (b : Blk) (r : FaultRec) : (b.raiseRec r).otp = b.otp := by
  simp only [Blk.raiseRec, Blk.holdRec_otp, Blk.setReg_otp, Blk.logFault_otp]

@[simp] theorem Blk.raiseRec_bus (b : Blk) (r : FaultRec) : (b.raiseRec r).bus = b.bus := by
  simp only [Blk.raiseRec, Blk.holdRec_bus, Blk.setReg_bus, Blk.logFault_bus]

@[simp] theorem Blk.raiseRec_tbu (b : Blk) (r : FaultRec) : (b.raiseRec r).tbu = b.tbu := by
  simp only [Blk.raiseRec, Blk.holdRec_tbu, Blk.setReg_tbu, Blk.logFault_tbu]

@[simp] theorem Blk.raiseRec_le (b : Blk) (r : FaultRec) : (b.raiseRec r).le = b.le := by
  simp only [Blk.raiseRec, Blk.holdRec_le, Blk.setReg_le, Blk.logFault_le]

@[simp] theorem Blk.raiseRec_afe (b : Blk) (r : FaultRec) : (b.raiseRec r).afe = b.afe := by
  simp only [Blk.raiseRec, Blk.holdRec_afe, Blk.setReg_afe, Blk.logFault_afe]

@[simp] theorem Blk.raiseRec_hpc (b : Blk) (r : FaultRec) : (b.raiseRec r).hpc = b.hpc := by
  simp only [Blk.raiseRec, Blk.holdRec_hpc, Blk.setReg_hpc, Blk.logFault_hpc]

@[simp] theorem Blk.raiseRec_out (b : Blk) (r : FaultRec) : (b.raiseRec r).out = b.out := by
  simp only [Blk.raiseRec, Blk.holdRec_out, Blk.setReg_out, Blk.logFault_out]

@[simp] theorem Blk.raiseRec_cam (b : Blk) (r : FaultRec) : (b.raiseRec r).cam = b.cam := by
  simp only [Blk.raiseRec, Blk.holdRec_cam, Blk.setReg_cam, Blk.logFault_cam]

@[simp] theorem Blk.raiseRec_fus (b : Blk) (r : FaultRec) : (b.raiseRec r).fus = b.fus := by
  simp only [Blk.raiseRec, Blk.holdRec_fus, Blk.setReg_fus, Blk.logFault_fus]

@[simp] theorem Blk.raiseRec_gnss (b : Blk) (r : FaultRec) : (b.raiseRec r).gnss = b.gnss := by
  simp only [Blk.raiseRec, Blk.holdRec_gnss, Blk.setReg_gnss, Blk.logFault_gnss]

@[simp] theorem Blk.raiseRec_yld (b : Blk) (r : FaultRec) : (b.raiseRec r).yld = b.yld := by
  simp only [Blk.raiseRec, Blk.holdRec_yld, Blk.setReg_yld, Blk.logFault_yld]

@[simp] theorem Blk.raiseRec_fab (b : Blk) (r : FaultRec) : (b.raiseRec r).fab = b.fab := by
  simp only [Blk.raiseRec, Blk.holdRec_fab, Blk.setReg_fab, Blk.logFault_fab]

@[simp] theorem Blk.raiseRec_net (b : Blk) (r : FaultRec) : (b.raiseRec r).net = b.net := by
  simp only [Blk.raiseRec, Blk.holdRec_net, Blk.setReg_net, Blk.logFault_net]

@[simp] theorem Blk.raiseRec_pwr (b : Blk) (r : FaultRec) : (b.raiseRec r).pwr = b.pwr := by
  simp only [Blk.raiseRec, Blk.holdRec_pwr, Blk.setReg_pwr, Blk.logFault_pwr]

@[simp] theorem Blk.raiseRec_boot (b : Blk) (r : FaultRec) : (b.raiseRec r).boot = b.boot := by
  simp only [Blk.raiseRec, Blk.holdRec_boot, Blk.setReg_boot, Blk.logFault_boot]

@[simp] theorem Blk.raiseRec_dbg (b : Blk) (r : FaultRec) : (b.raiseRec r).dbg = b.dbg := by
  simp only [Blk.raiseRec, Blk.holdRec_dbg, Blk.setReg_dbg, Blk.logFault_dbg]

@[simp] theorem Blk.raiseRec_free (b : Blk) (r : FaultRec) : (b.raiseRec r).free = b.free := by
  simp only [Blk.raiseRec, Blk.holdRec_free, Blk.setReg_free, Blk.logFault_free]

@[simp] theorem Blk.took_next (b : Blk) : b.took.free = b.free + 1 := rfl

/-! ## raise -/

@[simp] theorem Blk.raise_mem (b : Blk) (source cls detail data : Nat) :
    (b.raise source cls detail data).mem = b.mem := by
  unfold Blk.raise; by_cases hf : b.frozen = true <;> by_cases h : b.configDone = true <;> simp [hf, h]

@[simp] theorem Blk.raise_otp (b : Blk) (source cls detail data : Nat) :
    (b.raise source cls detail data).otp = b.otp := by
  unfold Blk.raise; by_cases hf : b.frozen = true <;> by_cases h : b.configDone = true <;> simp [hf, h]

@[simp] theorem Blk.raise_bus (b : Blk) (source cls detail data : Nat) :
    (b.raise source cls detail data).bus = b.bus := by
  unfold Blk.raise; by_cases hf : b.frozen = true <;> by_cases h : b.configDone = true <;> simp [hf, h]

@[simp] theorem Blk.raise_tbu (b : Blk) (source cls detail data : Nat) :
    (b.raise source cls detail data).tbu = b.tbu := by
  unfold Blk.raise; by_cases hf : b.frozen = true <;> by_cases h : b.configDone = true <;> simp [hf, h]

@[simp] theorem Blk.raise_le (b : Blk) (source cls detail data : Nat) :
    (b.raise source cls detail data).le = b.le := by
  unfold Blk.raise; by_cases hf : b.frozen = true <;> by_cases h : b.configDone = true <;> simp [hf, h]

@[simp] theorem Blk.raise_afe (b : Blk) (source cls detail data : Nat) :
    (b.raise source cls detail data).afe = b.afe := by
  unfold Blk.raise; by_cases hf : b.frozen = true <;> by_cases h : b.configDone = true <;> simp [hf, h]

@[simp] theorem Blk.raise_hpc (b : Blk) (source cls detail data : Nat) :
    (b.raise source cls detail data).hpc = b.hpc := by
  unfold Blk.raise; by_cases hf : b.frozen = true <;> by_cases h : b.configDone = true <;> simp [hf, h]

@[simp] theorem Blk.raise_out (b : Blk) (source cls detail data : Nat) :
    (b.raise source cls detail data).out = b.out := by
  unfold Blk.raise; by_cases hf : b.frozen = true <;> by_cases h : b.configDone = true <;> simp [hf, h]

@[simp] theorem Blk.raise_cam (b : Blk) (source cls detail data : Nat) :
    (b.raise source cls detail data).cam = b.cam := by
  unfold Blk.raise; by_cases hf : b.frozen = true <;> by_cases h : b.configDone = true <;> simp [hf, h]

@[simp] theorem Blk.raise_fus (b : Blk) (source cls detail data : Nat) :
    (b.raise source cls detail data).fus = b.fus := by
  unfold Blk.raise; by_cases hf : b.frozen = true <;> by_cases h : b.configDone = true <;> simp [hf, h]

@[simp] theorem Blk.raise_gnss (b : Blk) (source cls detail data : Nat) :
    (b.raise source cls detail data).gnss = b.gnss := by
  unfold Blk.raise; by_cases hf : b.frozen = true <;> by_cases h : b.configDone = true <;> simp [hf, h]

@[simp] theorem Blk.raise_yld (b : Blk) (source cls detail data : Nat) :
    (b.raise source cls detail data).yld = b.yld := by
  unfold Blk.raise; by_cases hf : b.frozen = true <;> by_cases h : b.configDone = true <;> simp [hf, h]

@[simp] theorem Blk.raise_fab (b : Blk) (source cls detail data : Nat) :
    (b.raise source cls detail data).fab = b.fab := by
  unfold Blk.raise; by_cases hf : b.frozen = true <;> by_cases h : b.configDone = true <;> simp [hf, h]

@[simp] theorem Blk.raise_net (b : Blk) (source cls detail data : Nat) :
    (b.raise source cls detail data).net = b.net := by
  unfold Blk.raise; by_cases hf : b.frozen = true <;> by_cases h : b.configDone = true <;> simp [hf, h]

@[simp] theorem Blk.raise_pwr (b : Blk) (source cls detail data : Nat) :
    (b.raise source cls detail data).pwr = b.pwr := by
  unfold Blk.raise; by_cases hf : b.frozen = true <;> by_cases h : b.configDone = true <;> simp [hf, h]

@[simp] theorem Blk.raise_boot (b : Blk) (source cls detail data : Nat) :
    (b.raise source cls detail data).boot = b.boot := by
  unfold Blk.raise; by_cases hf : b.frozen = true <;> by_cases h : b.configDone = true <;> simp [hf, h]

@[simp] theorem Blk.raise_dbg (b : Blk) (source cls detail data : Nat) :
    (b.raise source cls detail data).dbg = b.dbg := by
  unfold Blk.raise; by_cases hf : b.frozen = true <;> by_cases h : b.configDone = true <;> simp [hf, h]

@[simp] theorem Blk.raise_free (b : Blk) (source cls detail data : Nat) :
    (b.raise source cls detail data).free = b.free := by
  unfold Blk.raise; by_cases hf : b.frozen = true <;> by_cases h : b.configDone = true <;> simp [hf, h]

/-! ## writeMem -/

@[simp] theorem Blk.writeMem_regs (b : Blk) (a n v : Nat) : (b.writeMem a n v).regs = b.regs := by
  induction n generalizing b a v with
  | zero => rfl
  | succ n ih => simp [Blk.writeMem, ih]

@[simp] theorem Blk.writeMem_otp (b : Blk) (a n v : Nat) : (b.writeMem a n v).otp = b.otp := by
  induction n generalizing b a v with
  | zero => rfl
  | succ n ih => simp [Blk.writeMem, ih]

@[simp] theorem Blk.writeMem_mod (b : Blk) (a n v : Nat) : (b.writeMem a n v).mod = b.mod := by
  induction n generalizing b a v with
  | zero => rfl
  | succ n ih => simp [Blk.writeMem, ih]

@[simp] theorem Blk.writeMem_bus (b : Blk) (a n v : Nat) : (b.writeMem a n v).bus = b.bus := by
  induction n generalizing b a v with
  | zero => rfl
  | succ n ih => simp [Blk.writeMem, ih]

@[simp] theorem Blk.writeMem_jrn (b : Blk) (a n v : Nat) : (b.writeMem a n v).jrn = b.jrn := by
  induction n generalizing b a v with
  | zero => rfl
  | succ n ih => simp [Blk.writeMem, ih]

@[simp] theorem Blk.writeMem_tbu (b : Blk) (a n v : Nat) : (b.writeMem a n v).tbu = b.tbu := by
  induction n generalizing b a v with
  | zero => rfl
  | succ n ih => simp [Blk.writeMem, ih]

@[simp] theorem Blk.writeMem_le (b : Blk) (a n v : Nat) : (b.writeMem a n v).le = b.le := by
  induction n generalizing b a v with
  | zero => rfl
  | succ n ih => simp [Blk.writeMem, ih]

@[simp] theorem Blk.writeMem_afe (b : Blk) (a n v : Nat) : (b.writeMem a n v).afe = b.afe := by
  induction n generalizing b a v with
  | zero => rfl
  | succ n ih => simp [Blk.writeMem, ih]

@[simp] theorem Blk.writeMem_hpc (b : Blk) (a n v : Nat) : (b.writeMem a n v).hpc = b.hpc := by
  induction n generalizing b a v with
  | zero => rfl
  | succ n ih => simp [Blk.writeMem, ih]

@[simp] theorem Blk.writeMem_out (b : Blk) (a n v : Nat) : (b.writeMem a n v).out = b.out := by
  induction n generalizing b a v with
  | zero => rfl
  | succ n ih => simp [Blk.writeMem, ih]

@[simp] theorem Blk.writeMem_cam (b : Blk) (a n v : Nat) : (b.writeMem a n v).cam = b.cam := by
  induction n generalizing b a v with
  | zero => rfl
  | succ n ih => simp [Blk.writeMem, ih]

@[simp] theorem Blk.writeMem_fus (b : Blk) (a n v : Nat) : (b.writeMem a n v).fus = b.fus := by
  induction n generalizing b a v with
  | zero => rfl
  | succ n ih => simp [Blk.writeMem, ih]

@[simp] theorem Blk.writeMem_gnss (b : Blk) (a n v : Nat) : (b.writeMem a n v).gnss = b.gnss := by
  induction n generalizing b a v with
  | zero => rfl
  | succ n ih => simp [Blk.writeMem, ih]

@[simp] theorem Blk.writeMem_yld (b : Blk) (a n v : Nat) : (b.writeMem a n v).yld = b.yld := by
  induction n generalizing b a v with
  | zero => rfl
  | succ n ih => simp [Blk.writeMem, ih]

@[simp] theorem Blk.writeMem_fab (b : Blk) (a n v : Nat) : (b.writeMem a n v).fab = b.fab := by
  induction n generalizing b a v with
  | zero => rfl
  | succ n ih => simp [Blk.writeMem, ih]

@[simp] theorem Blk.writeMem_net (b : Blk) (a n v : Nat) : (b.writeMem a n v).net = b.net := by
  induction n generalizing b a v with
  | zero => rfl
  | succ n ih => simp [Blk.writeMem, ih]

@[simp] theorem Blk.writeMem_pwr (b : Blk) (a n v : Nat) : (b.writeMem a n v).pwr = b.pwr := by
  induction n generalizing b a v with
  | zero => rfl
  | succ n ih => simp [Blk.writeMem, ih]

@[simp] theorem Blk.writeMem_boot (b : Blk) (a n v : Nat) : (b.writeMem a n v).boot = b.boot := by
  induction n generalizing b a v with
  | zero => rfl
  | succ n ih => simp [Blk.writeMem, ih]

@[simp] theorem Blk.writeMem_dbg (b : Blk) (a n v : Nat) : (b.writeMem a n v).dbg = b.dbg := by
  induction n generalizing b a v with
  | zero => rfl
  | succ n ih => simp [Blk.writeMem, ih]

@[simp] theorem Blk.writeMem_free (b : Blk) (a n v : Nat) : (b.writeMem a n v).free = b.free := by
  induction n generalizing b a v with
  | zero => rfl
  | succ n ih => simp [Blk.writeMem, ih]

/-! ## setBytes -/

@[simp] theorem Blk.setBytes_regs (b : Blk) (a : Nat) (l : List Byte) : (b.setBytes a l).regs = b.regs := by
  induction l generalizing b a with
  | nil => rfl
  | cons x l ih => simp [Blk.setBytes, ih]

@[simp] theorem Blk.setBytes_otp (b : Blk) (a : Nat) (l : List Byte) : (b.setBytes a l).otp = b.otp := by
  induction l generalizing b a with
  | nil => rfl
  | cons x l ih => simp [Blk.setBytes, ih]

@[simp] theorem Blk.setBytes_mod (b : Blk) (a : Nat) (l : List Byte) : (b.setBytes a l).mod = b.mod := by
  induction l generalizing b a with
  | nil => rfl
  | cons x l ih => simp [Blk.setBytes, ih]

@[simp] theorem Blk.setBytes_bus (b : Blk) (a : Nat) (l : List Byte) : (b.setBytes a l).bus = b.bus := by
  induction l generalizing b a with
  | nil => rfl
  | cons x l ih => simp [Blk.setBytes, ih]

@[simp] theorem Blk.setBytes_jrn (b : Blk) (a : Nat) (l : List Byte) : (b.setBytes a l).jrn = b.jrn := by
  induction l generalizing b a with
  | nil => rfl
  | cons x l ih => simp [Blk.setBytes, ih]

@[simp] theorem Blk.setBytes_tbu (b : Blk) (a : Nat) (l : List Byte) : (b.setBytes a l).tbu = b.tbu := by
  induction l generalizing b a with
  | nil => rfl
  | cons x l ih => simp [Blk.setBytes, ih]

@[simp] theorem Blk.setBytes_le (b : Blk) (a : Nat) (l : List Byte) : (b.setBytes a l).le = b.le := by
  induction l generalizing b a with
  | nil => rfl
  | cons x l ih => simp [Blk.setBytes, ih]

@[simp] theorem Blk.setBytes_afe (b : Blk) (a : Nat) (l : List Byte) : (b.setBytes a l).afe = b.afe := by
  induction l generalizing b a with
  | nil => rfl
  | cons x l ih => simp [Blk.setBytes, ih]

@[simp] theorem Blk.setBytes_hpc (b : Blk) (a : Nat) (l : List Byte) : (b.setBytes a l).hpc = b.hpc := by
  induction l generalizing b a with
  | nil => rfl
  | cons x l ih => simp [Blk.setBytes, ih]

@[simp] theorem Blk.setBytes_out (b : Blk) (a : Nat) (l : List Byte) : (b.setBytes a l).out = b.out := by
  induction l generalizing b a with
  | nil => rfl
  | cons x l ih => simp [Blk.setBytes, ih]

@[simp] theorem Blk.setBytes_cam (b : Blk) (a : Nat) (l : List Byte) : (b.setBytes a l).cam = b.cam := by
  induction l generalizing b a with
  | nil => rfl
  | cons x l ih => simp [Blk.setBytes, ih]

@[simp] theorem Blk.setBytes_fus (b : Blk) (a : Nat) (l : List Byte) : (b.setBytes a l).fus = b.fus := by
  induction l generalizing b a with
  | nil => rfl
  | cons x l ih => simp [Blk.setBytes, ih]

@[simp] theorem Blk.setBytes_gnss (b : Blk) (a : Nat) (l : List Byte) : (b.setBytes a l).gnss = b.gnss := by
  induction l generalizing b a with
  | nil => rfl
  | cons x l ih => simp [Blk.setBytes, ih]

@[simp] theorem Blk.setBytes_yld (b : Blk) (a : Nat) (l : List Byte) : (b.setBytes a l).yld = b.yld := by
  induction l generalizing b a with
  | nil => rfl
  | cons x l ih => simp [Blk.setBytes, ih]

@[simp] theorem Blk.setBytes_fab (b : Blk) (a : Nat) (l : List Byte) : (b.setBytes a l).fab = b.fab := by
  induction l generalizing b a with
  | nil => rfl
  | cons x l ih => simp [Blk.setBytes, ih]

@[simp] theorem Blk.setBytes_net (b : Blk) (a : Nat) (l : List Byte) : (b.setBytes a l).net = b.net := by
  induction l generalizing b a with
  | nil => rfl
  | cons x l ih => simp [Blk.setBytes, ih]

@[simp] theorem Blk.setBytes_pwr (b : Blk) (a : Nat) (l : List Byte) : (b.setBytes a l).pwr = b.pwr := by
  induction l generalizing b a with
  | nil => rfl
  | cons x l ih => simp [Blk.setBytes, ih]

@[simp] theorem Blk.setBytes_boot (b : Blk) (a : Nat) (l : List Byte) : (b.setBytes a l).boot = b.boot := by
  induction l generalizing b a with
  | nil => rfl
  | cons x l ih => simp [Blk.setBytes, ih]

@[simp] theorem Blk.setBytes_dbg (b : Blk) (a : Nat) (l : List Byte) : (b.setBytes a l).dbg = b.dbg := by
  induction l generalizing b a with
  | nil => rfl
  | cons x l ih => simp [Blk.setBytes, ih]

@[simp] theorem Blk.setBytes_free (b : Blk) (a : Nat) (l : List Byte) : (b.setBytes a l).free = b.free := by
  induction l generalizing b a with
  | nil => rfl
  | cons x l ih => simp [Blk.setBytes, ih]

end Sys2Proof.Machine
end

