-- ==== Sys2Proof/Laws/Word.lean ====
section
/-!
SUPPORT. Laws of sparse maps: reading after writing, that writing keeps the canonical form, that equal maps are equal data; and
that the two orders of keys are strict and total.
-/

namespace Sys2Proof

/-- A strict total order given as a Boolean test. -/
structure StrictTotal {κ : Type} (lt : κ → κ → Bool) : Prop where
  irrefl : ∀ a, lt a a = false
  trans : ∀ a b c, lt a b = true → lt b c = true → lt a c = true
  total : ∀ a b, a ≠ b → lt a b = true ∨ lt b a = true

theorem natLt_strict : StrictTotal natLt where
  irrefl a := by simp [natLt]
  trans a b c h h' := by simp [natLt] at *; omega
  total a b h := by simp [natLt]; omega

theorem RegName.ctorIdx_inj {a b : Machine.RegName} (h : a.ctorIdx = b.ctorIdx) : a = b := by
  have h := congrArg Machine.RegName.ofNat h
  rwa [Machine.RegName.ofNat_ctorIdx, Machine.RegName.ofNat_ctorIdx] at h

theorem regLt_strict : StrictTotal Machine.regLt where
  irrefl a := by simp [Machine.regLt]
  trans a b c h h' := by
    simp only [Machine.regLt, Bool.or_eq_true, Bool.and_eq_true, decide_eq_true_eq] at *
    rcases h with h | ⟨h, h2⟩ <;> rcases h' with h' | ⟨h', h2'⟩
    · exact .inl (h.trans h')
    · exact .inl (h' ▸ h)
    · exact .inl (h ▸ h')
    · exact .inr ⟨h.trans h', h2.trans h2'⟩
  total a b h := by
    simp only [Machine.regLt, Bool.or_eq_true, Bool.and_eq_true, decide_eq_true_eq]
    rcases lt_trichotomy a.1.ctorIdx b.1.ctorIdx with h1 | h1 | h1
    · exact .inl (.inl h1)
    · have e := RegName.ctorIdx_inj h1
      rcases lt_trichotomy a.2 b.2 with h2 | h2 | h2
      · exact .inl (.inr ⟨e, h2⟩)
      · exact absurd (Prod.ext e h2) h
      · exact .inr (.inr ⟨e.symm, h2⟩)
    · exact .inr (.inl h1)

set_option linter.unusedSectionVars false

section
variable {κ α : Type} [DecidableEq κ] [DecidableEq α] {lt : κ → κ → Bool}

@[simp] theorem SMap.get_nil (k : κ) (d : α) : SMap.get ([] : SMap κ α) k d = d := rfl

theorem SMap.get_erase_self (m : SMap κ α) (k : κ) (d : α) : SMap.get (SMap.erase m k) k d = d := by
  induction m with
  | nil => rfl
  | cons e t ih => by_cases h : e.1 = k <;> simp [SMap.erase, SMap.get, h, ih]

theorem SMap.get_erase_of_ne (m : SMap κ α) {k j : κ} (d : α) (h : j ≠ k) :
    SMap.get (SMap.erase m k) j d = SMap.get m j d := by
  induction m with
  | nil => rfl
  | cons e t ih =>
    by_cases hk : e.1 = k
    · simp [SMap.erase, SMap.get, hk, ih, h.symm]
    · simp [SMap.erase, SMap.get, hk, ih]

theorem SMap.get_insert_of_ne (m : SMap κ α) {k j : κ} (v d : α) (h : j ≠ k) :
    SMap.get (SMap.insert lt m k v) j d = SMap.get m j d := by
  induction m with
  | nil => simp [SMap.insert, SMap.get, h.symm]
  | cons e t ih => cases hk : lt k e.1 <;> simp [SMap.insert, SMap.get, hk, ih, h.symm]

theorem SMap.get_insert_self (m : SMap κ α) (k : κ) (v d : α) (h : ∀ e ∈ m, e.1 ≠ k) :
    SMap.get (SMap.insert lt m k v) k d = v := by
  induction m with
  | nil => simp [SMap.insert, SMap.get]
  | cons e t ih =>
    have he := h e (by simp)
    cases hk : lt k e.1
    · simp [SMap.insert, SMap.get, hk, he, ih fun e' he' => h e' (by simp [he'])]
    · simp [SMap.insert, SMap.get, hk]

theorem SMap.erase_ne (m : SMap κ α) (k : κ) : ∀ e ∈ SMap.erase m k, e.1 ≠ k := by
  induction m with
  | nil => simp [SMap.erase]
  | cons e t ih =>
    by_cases h : e.1 = k
    · simpa [SMap.erase, h] using fun a b hm => ih (a, b) hm
    · intro e' he'
      simp only [SMap.erase, h, if_false, List.mem_cons] at he'
      rcases he' with rfl | he'
      · exact h
      · exact ih e' he'

/-- What was written is read. -/
@[simp] theorem SMap.get_put_self (m : SMap κ α) (k : κ) (v d : α) : SMap.get (SMap.put lt m k v d) k d = v := by
  by_cases h : v = d
  · simp [SMap.put, h, SMap.get_erase_self]
  · simp [SMap.put, h, SMap.get_insert_self _ _ _ _ (SMap.erase_ne m k)]

/-- A write changes no other key. -/
theorem SMap.get_put_of_ne (m : SMap κ α) {k j : κ} (v d d' : α) (h : j ≠ k) :
    SMap.get (SMap.put lt m k v d) j d' = SMap.get m j d' := by
  by_cases hv : v = d
  · simp [SMap.put, hv, SMap.get_erase_of_ne _ _ h]
  · simp [SMap.put, hv, SMap.get_insert_of_ne _ _ _ h, SMap.get_erase_of_ne _ _ h]

theorem SMap.mem_erase {m : SMap κ α} {k : κ} {e : κ × α} (h : e ∈ SMap.erase m k) : e ∈ m := by
  induction m with
  | nil => simp [SMap.erase] at h
  | cons a t ih =>
    by_cases hk : a.1 = k
    · simp only [SMap.erase, hk, if_true] at h; exact List.mem_cons_of_mem _ (ih h)
    · simp only [SMap.erase, hk, if_false, List.mem_cons] at h
      rcases h with rfl | h
      · simp
      · exact List.mem_cons_of_mem _ (ih h)

theorem SMap.mem_insert {m : SMap κ α} {k : κ} {v : α} {e : κ × α} (h : e ∈ SMap.insert lt m k v) :
    e = (k, v) ∨ e ∈ m := by
  induction m with
  | nil => simpa [SMap.insert] using h
  | cons a t ih =>
    cases hk : lt k a.1
    · simp only [SMap.insert, hk, Bool.false_eq_true, if_false, List.mem_cons] at h
      rcases h with rfl | h
      · simp
      · rcases ih h with rfl | h <;> simp [*]
    · simp only [SMap.insert, hk, if_true, List.mem_cons] at h
      simpa using h

theorem SMap.wf_cons {d : κ → α} {e : κ × α} {t : SMap κ α} :
    SMap.wf lt d (e :: t) = true ↔ e.2 ≠ d e.1 ∧ (∀ x ∈ t, lt e.1 x.1 = true) ∧ SMap.wf lt d t = true := by
  simp [SMap.wf, and_assoc]

theorem SMap.wf_sublist {d : κ → α} {l m : SMap κ α} (h : l.Sublist m) (hm : SMap.wf lt d m = true) :
    SMap.wf lt d l = true := by
  induction h with
  | slnil => rfl
  | cons _ _ ih => exact ih (SMap.wf_cons.mp hm).2.2
  | cons_cons _ hs ih =>
    obtain ⟨h1, h2, h3⟩ := SMap.wf_cons.mp hm
    exact SMap.wf_cons.mpr ⟨h1, fun x hx => h2 x (hs.subset hx), ih h3⟩

theorem SMap.erase_sublist (m : SMap κ α) (k : κ) : (SMap.erase m k).Sublist m := by
  induction m with
  | nil => exact .slnil
  | cons e t ih =>
    by_cases h : e.1 = k
    · simpa [SMap.erase, h] using ih.cons e
    · simpa [SMap.erase, h] using ih.cons_cons e

/-- Leaving entries out keeps the canonical form. -/
theorem SMap.wf_filter {d : κ → α} {m : SMap κ α} (p : κ × α → Bool) (hm : SMap.wf lt d m = true) :
    SMap.wf lt d (m.filter p) = true := SMap.wf_sublist List.filter_sublist hm

theorem SMap.wf_insert (o : StrictTotal lt) {d : κ → α} {m : SMap κ α} {k : κ} {v : α} (hm : SMap.wf lt d m = true)
    (hk : ∀ e ∈ m, e.1 ≠ k) (hv : v ≠ d k) : SMap.wf lt d (SMap.insert lt m k v) = true := by
  induction m with
  | nil => simp [SMap.insert, SMap.wf, hv]
  | cons e t ih =>
    obtain ⟨h1, h2, h3⟩ := SMap.wf_cons.mp hm
    cases h : lt k e.1
    · simp only [SMap.insert, h, Bool.false_eq_true, if_false]
      refine SMap.wf_cons.mpr ⟨h1, fun x hx => ?_, ih h3 fun e he => hk e (by simp [he])⟩
      rcases SMap.mem_insert hx with rfl | hx
      · rcases o.total _ _ (hk e (by simp)) with h' | h'
        · exact h'
        · simp [h] at h'
      · exact h2 x hx
    · simp only [SMap.insert, h, if_true]
      refine SMap.wf_cons.mpr ⟨hv, fun x hx => ?_, hm⟩
      rcases List.mem_cons.mp hx with rfl | hx
      · exact h
      · exact o.trans _ _ _ h (h2 x hx)

/-- A write keeps the canonical form. -/
theorem SMap.wf_put (o : StrictTotal lt) {d : κ → α} {m : SMap κ α} (k : κ) (v : α) (hm : SMap.wf lt d m = true) :
    SMap.wf lt d (SMap.put lt m k v (d k)) = true := by
  have he := SMap.wf_sublist (SMap.erase_sublist m k) hm
  by_cases h : v = d k
  · simpa [SMap.put, h] using he
  · simpa [SMap.put, h] using SMap.wf_insert o he (SMap.erase_ne m k) h

theorem SMap.get_of_lt {o : StrictTotal lt} {m : SMap κ α} {k : κ} (d : α) (h : ∀ x ∈ m, lt k x.1 = true) :
    SMap.get m k d = d := by
  induction m with
  | nil => rfl
  | cons e t ih =>
    have : e.1 ≠ k := fun hk => by have := h e (by simp); rw [hk, o.irrefl] at this; cases this
    simp [SMap.get, this, ih fun x hx => h x (by simp [hx])]

/-- Canonical maps that read alike at every key are equal data. -/
theorem SMap.ext_get (o : StrictTotal lt) {d : κ → α} {l m : SMap κ α} (hl : SMap.wf lt d l = true)
    (hm : SMap.wf lt d m = true) (h : ∀ k, SMap.get l k (d k) = SMap.get m k (d k)) : l = m := by
  induction l generalizing m with
  | nil =>
    cases m with
    | nil => rfl
    | cons e t => exact absurd (by simpa [SMap.get] using (h e.1).symm) (SMap.wf_cons.mp hm).1
  | cons e t ih =>
    obtain ⟨h1, h2, h3⟩ := SMap.wf_cons.mp hl
    cases m with
    | nil => exact absurd (by simpa [SMap.get] using h e.1) h1
    | cons f u =>
      obtain ⟨g1, g2, g3⟩ := SMap.wf_cons.mp hm
      by_cases hk : e.1 = f.1
      · have hv : e.2 = f.2 := by simpa [SMap.get, hk] using h e.1
        have ht : t = u := ih h3 g3 fun k => by
          by_cases hke : e.1 = k
          · subst hke
            rw [SMap.get_of_lt (o := o) _ h2, SMap.get_of_lt (o := o) _ (hk ▸ g2)]
          · have := h k
            simpa [SMap.get, hke, hk ▸ hke] using this
        rw [ht, Prod.ext hk hv]
      · rcases o.total _ _ hk with hlt | hlt
        · refine absurd ?_ h1
          have : SMap.get (f :: u) e.1 (d e.1) = d e.1 := SMap.get_of_lt (o := o) _ fun x hx => by
            rcases List.mem_cons.mp hx with rfl | hx
            · exact hlt
            · exact o.trans _ _ _ hlt (g2 x hx)
          have h' := h e.1
          rw [this] at h'
          simpa [SMap.get] using h'
        · refine absurd ?_ g1
          have : SMap.get (e :: t) f.1 (d f.1) = d f.1 := SMap.get_of_lt (o := o) _ fun x hx => by
            rcases List.mem_cons.mp hx with rfl | hx
            · exact hlt
            · exact o.trans _ _ _ hlt (h2 x hx)
          have h' := h f.1
          rw [this] at h'
          simpa [SMap.get] using h'.symm

end

end Sys2Proof
end

