-- ==== Sys2Proof/Laws/Memory.lean ====
section
/-!
SUPPORT. Laws of memory, and of the canonical form: every memory operation and every register operation keeps it.
-/

namespace Sys2Proof.Machine

@[simp] theorem Blk.byte_setByte_self (b : Blk) (a : Nat) (v : Byte) : (b.setByte a v).byte a = v := by
  simp [Blk.byte, Blk.setByte]

theorem Blk.byte_setByte_of_ne (b : Blk) {a c : Nat} (v : Byte) (h : c ≠ a) : (b.setByte a v).byte c = b.byte c := by
  simp [Blk.byte, Blk.setByte, SMap.get_put_of_ne _ _ _ _ h]

theorem Blk.byte_congr {a b : Blk} (h : a.mem = b.mem) (x : Nat) : a.byte x = b.byte x := by simp [Blk.byte, h]

theorem Blk.readMem_congr {a b : Blk} (h : a.mem = b.mem) (x n : Nat) : a.readMem x n = b.readMem x n := by
  induction n generalizing x with
  | zero => rfl
  | succ n ih => simp [Blk.readMem, ih, Blk.byte_congr h]

/-- A write of `n` bytes changes no byte outside them. -/
theorem Blk.byte_writeMem_of_out (b : Blk) (a n v c : Nat) (h : c < a ∨ a + n ≤ c) :
    (b.writeMem a n v).byte c = b.byte c := by
  induction n generalizing b a v with
  | zero => rfl
  | succ n ih =>
    rw [Blk.writeMem, ih _ _ _ (by omega), Blk.byte_setByte_of_ne _ _ (by omega)]

/-- The bytes written are read back. -/
theorem Blk.readMem_writeMem (b : Blk) (a n v : Nat) : (b.writeMem a n v).readMem a n = v % 256 ^ n := by
  induction n generalizing b a v with
  | zero => simp [Blk.readMem, Nat.mod_one]
  | succ n ih =>
    rw [Blk.readMem, Blk.writeMem, ih, Blk.byte_writeMem_of_out _ _ _ _ _ (by omega), Blk.byte_setByte_self,
      BitVec.toNat_ofNat, pow_succ' 256 n, Nat.mod_mul, show (2 : Nat) ^ 8 = 256 from rfl]

/-- A list of bytes changes no byte outside it. -/
theorem Blk.byte_setBytes_of_out (b : Blk) (a c : Nat) (l : List Byte) (h : c < a ∨ a + l.length ≤ c) :
    (b.setBytes a l).byte c = b.byte c := by
  induction l generalizing b a with
  | nil => rfl
  | cons x l ih =>
    rw [List.length_cons] at h
    rw [Blk.setBytes, ih _ _ (by omega), Blk.byte_setByte_of_ne _ _ (by omega)]

/-! ## The canonical form -/

theorem Blk.wf_iff (b : Blk) : b.wf = true ↔
    SMap.wf regLt (fun k => k.1.resetWord k.2) b.regs = true ∧ SMap.wf natLt (fun _ => freshByte) b.mem = true ∧
      SMap.wf natLt (fun _ => (0 : Byte)) b.otp = true := by
  simp [Blk.wf, Blk.regsWf, Memory.wf]

/-- Blocks with the same registers, memory and OTP are canonical together. -/
theorem Blk.wf_congr {a b : Blk} (hr : a.regs = b.regs) (hm : a.mem = b.mem) (ho : a.otp = b.otp) : a.wf = b.wf := by
  simp [Blk.wf, Blk.regsWf, hr, hm, ho]

theorem Blk.wf_reset : Blk.reset.wf = true := rfl

theorem Blk.wf_setReg {b : Blk} (h : b.wf = true) (r : RegName) (i : Nat) (v : Word) : (b.setReg r i v).wf = true := by
  rw [Blk.wf_iff] at *
  exact ⟨SMap.wf_put (d := fun k : RegKey => k.1.resetWord k.2) regLt_strict (r, i) v h.1, h.2⟩

theorem Blk.wf_setByte {b : Blk} (h : b.wf = true) (a : Nat) (v : Byte) : (b.setByte a v).wf = true := by
  rw [Blk.wf_iff] at *
  exact ⟨h.1, SMap.wf_put (d := fun _ => freshByte) natLt_strict a v h.2.1, h.2.2⟩

theorem Blk.wf_writeMem {b : Blk} (h : b.wf = true) (a n v : Nat) : (b.writeMem a n v).wf = true := by
  induction n generalizing b a v with
  | zero => exact h
  | succ n ih => exact ih (Blk.wf_setByte h _ _) _ _

theorem Blk.wf_setBytes {b : Blk} (h : b.wf = true) (a : Nat) (l : List Byte) : (b.setBytes a l).wf = true := by
  induction l generalizing b a with
  | nil => exact h
  | cons x l ih => exact ih (Blk.wf_setByte h _ _) _

/-- Programming OTP keeps its canonical form. -/
theorem Memory.wf_put {d : Byte} {m : List Host.Cell} (h : Memory.wf d m = true) (a : Nat) (v : Byte) :
    Memory.wf d (SMap.put natLt m a v d) = true := SMap.wf_put (d := fun _ => d) natLt_strict a v h

/-- Memory keeps its canonical form when some of its bytes are lost. -/
theorem Memory.wf_filter {d : Byte} {m : List Host.Cell} (h : Memory.wf d m = true) (p : Host.Cell → Bool) :
    Memory.wf d (m.filter p) = true := SMap.wf_filter p h

end Sys2Proof.Machine
end

