-- ==== Sys2Proof/Laws/Registers.lean ====
section
/-!
SUPPORT. Laws of registers and their fields: what reads after a write, and what a write leaves alone.
-/

namespace Sys2Proof.Machine

@[simp] theorem Blk.reg_setReg_self (b : Blk) (r : RegName) (i : Nat) (v : Word) : (b.setReg r i v).reg r i = v := by
  simp [Blk.reg, Blk.setReg]

/-- A register write changes no other register. -/
theorem Blk.reg_setReg_of_ne (b : Blk) {r q : RegName} {i j : Nat} (v : Word) (h : (q, j) ≠ (r, i)) :
    (b.setReg r i v).reg q j = b.reg q j := by
  simp [Blk.reg, Blk.setReg, SMap.get_put_of_ne _ _ _ _ h]

/-- A register write changes no register of another name. -/
@[simp] theorem Blk.reg_setReg_name (b : Blk) {r q : RegName} (i j : Nat) (v : Word) (h : q ≠ r) :
    (b.setReg r i v).reg q j = b.reg q j := b.reg_setReg_of_ne v fun e => h (Prod.mk.inj e).1

/-- Registers are all that registers are read from. -/
theorem Blk.reg_congr {a b : Blk} (h : a.regs = b.regs) (r : RegName) (i : Nat) : a.reg r i = b.reg r i := by
  simp [Blk.reg, h]

theorem Blk.fld_congr {a b : Blk} (h : a.regs = b.regs) (f : Fld) (i : Nat) : a.fld f i = b.fld f i := by
  simp [Blk.fld, Blk.reg_congr h]

/-- A number below 2^32 written field by field is itself. -/
theorem Fld.get_put_self (f : Fld) (w : Word) (v : Nat) (h : f.lo + f.w ≤ 32) : f.get (f.put w v) = v % 2 ^ f.w := by
  have hw : w.toNat < 2 ^ 32 := w.isLt
  have hp : 2 ^ f.lo * 2 ^ f.w * 2 ^ (32 - f.lo - f.w) = 2 ^ 32 := by
    rw [← pow_add, ← pow_add]; congr 1; omega
  have hl : 0 < 2 ^ f.lo := Nat.two_pow_pos _
  have hm : 0 < 2 ^ f.w := Nat.two_pow_pos _
  have ha : w.toNat % 2 ^ f.lo < 2 ^ f.lo := Nat.mod_lt _ hl
  have hb : v % 2 ^ f.w < 2 ^ f.w := Nat.mod_lt _ hm
  have hc : w.toNat / 2 ^ (f.lo + f.w) < 2 ^ (32 - f.lo - f.w) := by
    rw [Nat.div_lt_iff_lt_mul (Nat.two_pow_pos _), ← pow_add]
    have : 32 - f.lo - f.w + (f.lo + f.w) = 32 := by omega
    rwa [this]
  simp only [Fld.get, Fld.put, BitVec.toNat_ofNat]
  rw [pow_add 2 f.lo f.w]
  rw [pow_add 2 f.lo f.w] at hc
  generalize 2 ^ f.lo = L at *
  generalize 2 ^ f.w = M at *
  generalize w.toNat % L = x at *
  generalize v % M = y at *
  generalize w.toNat / (L * M) = z at *
  generalize 2 ^ (32 - f.lo - f.w) = N at *
  have e : x + y * L + z * (L * M) = x + L * (y + M * z) := by ring
  have lt : x + L * (y + M * z) < 2 ^ 32 := by
    rw [← hp]
    have h1 : z + 1 ≤ N := hc
    have h2 : y + M * z + 1 ≤ M * N := by
      calc y + M * z + 1 ≤ M + M * z := by omega
        _ = M * (z + 1) := by ring
        _ ≤ M * N := Nat.mul_le_mul_left _ h1
    calc x + L * (y + M * z) < L + L * (y + M * z) := by omega
      _ = L * (y + M * z + 1) := by ring
      _ ≤ L * (M * N) := Nat.mul_le_mul_left _ h2
      _ = L * M * N := by ring
  rw [e, Nat.mod_eq_of_lt lt, Nat.add_mul_div_left _ _ hl, Nat.div_eq_of_lt ha, Nat.zero_add, Nat.add_mul_mod_self_left,
    Nat.mod_eq_of_lt hb]

/-- A field reads as written, modulo its width. -/
theorem Blk.fld_setFld_self (b : Blk) (f : Fld) (i v : Nat) (h : f.lo + f.w ≤ 32) :
    (b.setFld f i v).fld f i = v % 2 ^ f.w := by
  simp [Blk.fld, Blk.setFld, Fld.get_put_self f _ v h]

/-- A field write changes no register of another name. -/
@[simp] theorem Blk.reg_setFld_name (b : Blk) {f : Fld} {q : RegName} (i j v : Nat) (h : q ≠ f.reg) :
    (b.setFld f i v).reg q j = b.reg q j := Blk.reg_setReg_name _ _ _ _ h

/-- A field write changes no field of another register. -/
theorem Blk.fld_setFld_name (b : Blk) {f g : Fld} (i j v : Nat) (h : g.reg ≠ f.reg) :
    (b.setFld f i v).fld g j = b.fld g j := by simp [Blk.fld, Blk.reg_setFld_name _ _ _ _ h]

/-- A field write changes no register at another index. -/
theorem Blk.reg_setFld_index (b : Blk) (f : Fld) {q : RegName} {i j : Nat} (v : Nat) (h : j ≠ i) :
    (b.setFld f i v).reg q j = b.reg q j := b.reg_setReg_of_ne _ fun e => h (Prod.mk.inj e).2

end Sys2Proof.Machine
end

