-- ==== Sys2Proof/Tests/Slice0.lean ====
section
/-!
SUPPORT. Tests of the model: named theorems on small states. A test of a command gives a state that meets the conditions under which a
statement of Certificates/Slice0/Obligations.lean says what the command does, and checks a result or two worked out by hand from
the spec. So these tests are also the witnesses that the hypotheses of those statements can be met. Each is a list of checks, all of which
hold.
-/

set_option Elab.async false

namespace Sys2Proof.Tests

open Sys2Proof.Machine

/-- A block that runs at TB1 `t` with the configuration in force; some fields hold values: field, index, value. -/
def base (t : Nat) (l : List (Fld × Nat × Nat)) : Blk :=
  let b : Blk := { Blk.reset with mod := { Blk.reset.mod with phase := .running } }
  l.foldl (fun b x => b.setFld x.1 x.2.1 x.2.2) ((b.setFld F.SYS_STATUS_CONFIG_DONE 0 1).setReg64 .TB_VALUE_LO .TB_VALUE_HI 1 t)

/-- The block in phase `p`, its configuration not in force. -/
def inPhase (p : Phase) (b : Blk) : Blk := b.hold p

/-- The block after a command. -/
def after (c : Instr) (b : Blk) : Blk :=
  match exec c ⟨[], b⟩ with
  | .next t => t.blk
  | _ => b

/-- A packet of a type for node `dest` from node 5. -/
def pkt (type vc dest : Nat) (addr : Nat) (payload : List (BitVec 128)) : Packet :=
  { type := BitVec.ofNat 4 type, vc := BitVec.ofNat 2 vc, dest := BitVec.ofNat 9 dest, src := 5, smaster := 9,
    len := BitVec.ofNat 6 (if type = 1 then 1 else payload.length), tag := 3, addr := BitVec.ofNat 40 addr, status := 0, sz := 0,
    down := false, hops := 0, payload := payload }

theorem test_reset_wf : Machine.State.reset.wf = true := by decide


/-- The block with the domains of `l` ON. -/
def powered (l : List Nat) (b : Blk) : Blk := l.foldl (fun b d => b.setFld F.PD_STATUS_STATE d 4) b

/-- The block in which every master may read and write all of targets `l`. -/
def opened (l : List Nat) (b : Blk) : Blk :=
  l.foldl (fun b t => (b.setReg .ACC_ENT0 (t * 64) 0xE00FFC00).setReg .ACC_ENT2 (t * 64) 0xFFFFFFFF) b

/-- The block with words of memory at `a` plus the offsets. -/
def words (a : Nat) (l : List (Nat × Nat)) (b : Blk) : Blk := l.foldl (fun b x => b.writeMem (a + x.1) 4 x.2) b

/-- A block in which task `t` of tile 0 has a valid descriptor: program at 0x1000, banks of 8 words at 0x2000 and 0x3000, an output
map at 0x4000 whose entry 0 is unused and whose entry 1 is a word of memory. -/
def withTask (t : Nat) (b : Blk) : Blk :=
  words (taskAddr t 0) [(0x100, 0x1000), (0x104, 0x2000), (0x108, 0x3000), (0x10C, 8), (0x118, 2 * 2 ^ 18 + 0x4000),
      (0x130, 64), (0x2000, 2 * 32 + 4), (0x4010, 3 * 2 ^ 28), (0x4014, 0x08005000), (0x401C, 99)]
    ((powered [0] b).setReg .TASK_DESC t ((0 : Word).setWidth 32) |>.setFld F.TASK_DESC_DESC_VALID t 1
      |>.setFld F.TASK_DESC_DESC_OFF t 4)

/-- A block in which task 0 runs on engine 0 at the word `w`. V1 is 100, −100, 2^31 − 1, 3; V2 is 7, 7, 1, −2. -/
def running (w : Nat) : Blk :=
  let b := (words (taskAddr 0 0) [(0x1000, w)] (opened [0] (withTask 0 (base 1000 [])))).setFld F.TASK_STATUS_STATE 0 3
  (b.setFld F.TASK_CTRL_EN 0 1).setCur 0 (some 0) |>.setTask 0 { TaskSt.zero with
    pc := 0x1000, started := true,
    v := [(4, 100), (5, 0xFFFFFF9C), (6, 0x7FFFFFFF), (7, 3), (8, 7), (9, 7), (10, 1), (11, 0xFFFFFFFE)] }

/-- The four lanes of a register of task 0. -/
def lanes (b : Blk) (n : Nat) : List Int := (List.range 4).map fun j => ((b.task 0).lane n j).toInt

/-- A word of step code of format V: VD 3, VA 1, VB as given, modifier `m`. -/
def vWord (op vb m : Nat) : Nat := op * 2 ^ 26 + 3 * 2 ^ 19 + 1 * 2 ^ 15 + vb * 2 ^ 11 + m * 2 ^ 5

/-- The four lanes of an accumulator of task 0. -/
def accs (b : Blk) (n : Nat) : List Int := (List.range 4).map fun j => (b.task 0).acc n j

/-- An AIN channel of these settings whose filter has long seen `pin` at an excitation of `exc`. -/
def settled (c : AinCfg) (pin : Int) (exc : Nat) : AinSt :=
  (List.range c.order).foldl (fun x _ => (x.filter (List.replicate c.decim (rawCode c pin exc))).1) { AinSt.zero with cfg := c }.fresh

/-- The 88 bits of the chain's instruction registers that give TAP `k` the opcode `op` and the others BYPASS. -/
def chain (k op : Nat) : BitVec 88 :=
  BitVec.ofNat 88 ((List.range 17).foldl (fun n j =>
    n * 2 ^ (if j = 0 then 8 else 5) + (if j = k then op else if j = 0 then 255 else 31)) 0)

/-- An ill-formed term for each check, beside a well-formed one. -/
theorem test_wellformed_refuses : (
  [(!(Instr.registerWrite 1 0 48 0 ⟨false, none, 0⟩).wellFormed && (Instr.registerWrite 1 0 64 0 ⟨false, none, 0⟩).wellFormed),
   (!(Instr.packetForward 0 (some (1, { pkt 5 1 0 0 [] with len := 2 }, 0, 0))).wellFormed),
   (!(Instr.rdReq 0 (pkt 1 0 0 0 [7]) 0 0).wellFormed && (Instr.rdReq 0 (pkt 1 0 0 0 []) 0 0).wellFormed),
   (!(Instr.delayReq 0 { pkt 10 3 0 1 [0] with len := 2 } 0 0 0).wellFormed && (Instr.delayReq 0 (pkt 10 3 0 1 [0]) 0 0 0).wellFormed),
   (!(Instr.creditFlit 0 [1, 2] 0).wellFormed && (Instr.creditFlit 0 [1, 2, 3, 4, 5, 6] 0).wellFormed),
   (!(Instr.canFrameReceive 0 ⟨false, false, false, 0x900, 1, [0]⟩ false 0 0).wellFormed && !(Instr.isobusMessage 0 ⟨false, false, true, 0, 2, [0]⟩).wellFormed &&
    (Instr.canFrameReceive 0 ⟨false, true, true, 0x900, 9, List.replicate 12 0⟩ false 0 0).wellFormed),
   (!(Instr.housekeepingRound [] 0).wellFormed && !(Instr.hpcWriteDenied 0).wellFormed && (Instr.hpcWriteDenied 30).wellFormed),
   (!(Instr.fleetTake (List.replicate 1453 0)).wellFormed && (Instr.fleetTake (List.replicate 1452 0)).wellFormed),
   (!(Instr.recoveryHello 0 0 (List.replicate 1453 0)).wellFormed),
   (!(Instr.correlatorDump 0 [] 0 0 0 none).wellFormed)].all id) = true := by
  decide +kernel

/-- A step takes the front command; an empty queue idles. -/
theorem test_queue : (
  [((match step ⟨[.crankEntry 5000, .tbuTick], base 0 []⟩ with
    | .next t => t.pending == [.tbuTick] && t.blk.supply == 1
    | _ => false)),
   ((match step ⟨[], base 7 []⟩ with
    | .next t => t.pending.isEmpty && t.blk.regs == (base 7 []).regs
    | _ => false)),
   ((match step ⟨[.sourcePulse 3], base 7 []⟩ with
    | .next t => t.wf
    | _ => false) && (⟨[.sourcePulse 3], base 7 []⟩ : State).wf)].all id) = true := by
  decide +kernel

/-- OTP_WRITE of a bound tool in Chrysalis programs bits, and takes none back. -/
theorem test_otp : (
  let body : List Byte := leBytes 4 3 ++ leBytes 4 0xFFFF0001 ++ leBytes 4 0 ++ leBytes 8 0
  let l : List Byte := [1, 5] ++ leBytes 2 body.length ++ leBytes 4 9 ++ body
  let d := l ++ leBytes 4 (crc32 l).toNat
  let b : Blk := inPhase .chrysalis (base 5 [(F.ETH_CTRL_EN, 5, 1), (F.ETH_STATUS_LINK, 5, 1)])
  let b : Blk := { b with boot := { b.boot with tool := some ⟨77, 1, 0, none⟩ }, otp := [(otpSlotAt 3 0, 0x0E)] }
  let c := after (.otpWrite 77 1 d) b
  [((recParse d).isSome && b.mod.phase == .chrysalis),
   (otpByte c.otp (otpSlotAt 3 0) == 0x0F && otpByte c.otp (otpSlotAt 3 0 + 2) == 0xFF)].all id) = true := by
  decide +kernel

/-- RW and LCK bits before CONFIG_DONE, W1C bits, ENC_CFG. -/
theorem test_register_writes : (
  let b := (base 0 []).setFld F.SYS_STATUS_CONFIG_DONE 0 0
  [(b.aonRuns && (regAt (RegName.offset .ACC_CFG 0) == some (.ACC_CFG, 0)) &&
    (after (.registerWrite 560 (BitVec.ofNat 40 (regBase + RegName.offset .ACC_CFG 0)) 32 0x155 ⟨false, none, 0⟩) b).fld F.ACC_CFG_SEC_TENANT 0 == 0x155),
   ((after (.registerWrite 560 (BitVec.ofNat 40 (regBase + RegName.offset .ACC_CFG 0)) 32 0x155 ⟨false, none, 0⟩) (base 0 [])).fld F.ACC_CFG_SEC_TENANT 0 == 1023),
   ([RegName.SYS_FAULT_MASK, .TBU_CTRL, .TBU_STATUS, .AIN_OFFSET, .AIN_SCALE, .IMP_CFG, .ST_CFG, .ST_SIZE, .ST_PITCH, .ACC_CFG,
    .ACC_ENT0, .ACC_ENT1, .ACC_ENT2, .ACC_TMAP].all fun r => regAt (r.offset 0) == some (r, 0)),
   (b.flag F.ENC_CFG_EN 4 == false && (after (.encCfgWrite 4 0xFFFFFFFF) b).flag F.ENC_CFG_EN 4),
   ((after (.registerWrite 1 (BitVec.ofNat 40 (regBase + RegName.offset .ACC_ENT0 0)) 64 0x0000000200000001 ⟨false, none, 0⟩) b).reg .ACC_ENT0 0 == b.writable .ACC_ENT0 &&& 1)].all id) = true := by
  decide +kernel

/-- Accesses at the gate: admitted, refused by each check, and from a node without a tenant-map entry. -/
theorem test_gate : (
  let b := powered [62] (opened [0] (base 1000 []))
  [((powered [0] b).gate 7 .read 0x08000000 32 == none && (after (.targetAccess (.here 7 2) false 0x08000000 32 0 0) (powered [0] b)).bus.waiting.length == 1),
   (b.gate 7 .read 0x08000000 32 == some 5),
   ((let c := after (.targetAccess (.here 7 2) true 0x08000002 32 0 0) b
    c.bus.results == [⟨.master 2, .write, .deny, 0⟩] && c.fld F.ACC_REFUSED_REFUSED 0 == 1 && c.reg .ACC_LOG_WR 0 == 1 &&
    c.readMem c.logAddr 16 == (b.mkRec 7 0x0E 1 (2 ^ 31 + 0 * 2 ^ 25 + 0)).bits.toNat)),
   ((let c := after (.targetAccess (.here 7 2) true 0x08000002 32 0 0) (b.setReg .ACC_LOG_WR 0 256)
    c.fld F.ACC_LOG_LOST_LOST 0 == 1 && c.reg .ACC_LOG_WR 0 == 256)),
   (b.tenant 3 5 9 == none && (after (.targetAccess (.remote 3 5 9 4) false 0x08000000 32 0 0) b).bus.results == [⟨.remote 3 5 9 4, .read, .deny, 0⟩]),
   (b.gate 7 .read 0x08000000 24 == some 1 && b.gate 7 .read 0xFFFFFFFFF0 32 == some 2 && b.gate 7 .read (regBase + RegName.offset .ACC_LOG_WR 0) 32 == some 4 && (base 0 []).gate 560 .read 0x08000000 32 == some 4 && !(inPhase .released b).configDone)].all id) = true := by
  decide +kernel

/-- A target accepts the earliest access, a read and a write. -/
theorem test_accept : (
  let b := words 0x08000000 [(0, 0x11223344)] (base 1000 [])
  let r : Access := ⟨.master 1, 7, .read, 0x08000000, 32, 0, 0⟩
  let w : Access := ⟨.master 2, 6, .write, 0x08000000, 32, 9, 0⟩
  [((let c := { b with bus := { b.bus with waiting := [r] } }
    c.nextAccess 0 0 == some r && (after (.accessAccept 0 0 ⟨false, none, 0⟩) c).bus.results == [⟨.master 1, .read, .ok, 0x11223344⟩])),
   ((let c := { b with bus := { b.bus with waiting := [r, w] } }
    let d := after (.accessAccept 0 0 ⟨false, none, 0⟩) c
    c.nextAccess 0 0 == some w && d.readMem 0x08000000 4 == 9 && d.bus.waiting == [r] && SMap.get d.bus.lastEdge 0 0 == 1))].all id) = true := by
  decide +kernel

/-- Records after and before CONFIG_DONE, their way to the conductor, class bits and the log's read index. -/
theorem test_fault_records : (
  [((let c := (base 1000 []).raise 594 0x10 0x03 33000
    (c.reg .SYS_FAULT_LATCH 0).getLsbD 0x10 && c.mod.vc3.length == 1)),
   (((inPhase .released ((base 1000 []).setFld F.SYS_STATUS_CONFIG_DONE 0 0)).raise 594 0x10 0x03 33000).mod.heldRecs.length == 1),
   ((let c := (base 1000 [(F.FAB_STATUS_COND_V, 0, 1)]).raise 594 0x10 0x03 33000
    (after .faultRecordSend c).mod.vc3.isEmpty && (after .faultRecordSend { c with fab := { c.fab with holds := true } }).mod.vc3.isEmpty)),
   ((after (.classSeenClear 0x10000) ((base 1000 []).raise 594 0x10 0x03 33000)).reg .SYS_FAULT_LATCH 0 &&& 0x10000 == 0),
   ((let c := (base 1000 []).setReg .ACC_LOG_WR 0 5
    (after (.logReadAdvance 5) c).reg .ACC_LOG_RD 0 == 5 && (after (.logReadAdvance 6) c).reg .ACC_LOG_RD 0 == 0)),
   ((let l := List.replicate 64 ((base 1000 []).mkRec 594 0x10 3 0)
    let c := ({ base 1000 [] with mod := { (base 1000 []).mod with vc3 := l } } : Blk).raise 594 0x10 0x03 33000
    !(base 1000 []).condKnown && c.mod.vc3.length == 64 && c.fld F.FAB_FLTQ_DROPPED 0 == 1)),
   ((let r := { (base 1000 []).mkRec 594 0x10 3 0 with node := 5 }
    let b : Blk := { base 1000 [] with fab := { (base 1000 []).fab with holds := true }, mod := { (base 1000 []).mod with vc3 := [r] } }
    let c := after .faultRecordSend b
    b.condKnown && r.count == 1 && c.mod.vc3.isEmpty && c.fab.coal.length == 1 && c.jrn.faults.buf.length == 1))].all id) = true := by
  decide +kernel

/-- COUNT and PERIOD words of a slot while EN is 1 and while it is 0. -/
theorem test_slot_words : (
  let on := base 7 [(F.SLOT_CTRL_EN, 4, 1), (F.SLOT_CTRL_TB, 4, 1), (F.TBU_STATUS_TB_VALID, 0, 3)]
  [(on.aonRuns && on.flag F.SLOT_CTRL_EN 4 && on.slotOk 4 && on.tbValid 1),
   (SMap.get (after (.slotCountLowWrite 4 9) on).tbu.cntHeld 4 none == some 9 && (after (.slotCountLowWrite 4 9) on).slotCount 4 == 0),
   ((let b := after (.slotCountHighWrite 4 1 none) (after (.slotCountLowWrite 4 9) on)
    b.slotCount 4 == 0x100000009 && b.flag F.SLOT_STATUS_ARMED 4 && SMap.get b.tbu.cntHeld 4 none == none)),
   ((after (.slotPeriodWrite 4 none (some 2)) (after (.slotPeriodWrite 4 (some 5) none) on)).slotPeriod 4 == 0x200000005),
   ((after (.slotCountLowWrite 5 9) on).slotCount 5 == 9 && (after (.slotPeriodWrite 5 (some 3) none) on).slotPeriod 5 == 3),
   ((after (.slotCountHighWrite 5 1 (some 6)) on).slotCount 5 == 0x100000006)].all id) = true := by
  decide +kernel

/-- SLOT_ARM: refused with DIR 3, held without a timebase, armed, due at once where COUNT has passed. -/
theorem test_slot_arm : (
  let b := base 700 [(F.TBU_STATUS_TB_VALID, 0, 2), (F.SLOT_COUNT_LO_COUNT, 2, 800)]
  [((after (.slotArm 2 (1 + 3 * 8)) b).flag F.SLOT_CTRL_EN 2 == false && (after (.slotArm 2 0) b).flag F.SLOT_CTRL_EN 2 == false),
   ((let c := after (.slotArm 2 (1 + 2 * 64)) b
    c.flag F.SLOT_STATUS_HELD_INVALID 2 && !c.flag F.SLOT_STATUS_ARMED 2)),
   ((let c := after (.slotArm 2 (1 + 64)) b
    c.flag F.SLOT_STATUS_ARMED 2 && c.tbu.lateArm.isEmpty)),
   ((after (.slotArm 3 (1 + 64)) b).tbu.lateArm == [3])].all id) = true := by
  decide +kernel

/-- R44: a slot fires where the timebase reached or passed COUNT, in its direction; a difference wraps. -/
theorem test_slot_comparison : (
  [(slotMet 48 0 100 90 100 && !slotMet 48 0 100 100 110 && slotMet 48 1 100 110 100 && !slotMet 48 1 100 90 110 && slotMet 48 2 100 110 99),
   (slotMet 16 0 2 65530 3 && !slotMet 48 0 100 90 90 && sdiff 16 2 65535 == 3)].all id) = true := by
  decide +kernel

/-- SLOT_FIRE of the lowest slot that is due: a ONCE, a PERIODIC and a window slot. -/
theorem test_slot_fire : (
  let q := base 1000 [(F.SLOT_CTRL_EN, 1, 1), (F.SLOT_CTRL_TB, 1, 1), (F.SLOT_TARGET_KIND, 1, 1), (F.SLOT_CTRL_EN, 2, 1), (F.SLOT_CTRL_MODE, 2, 1), (F.SLOT_CTRL_TB, 2, 1), (F.SLOT_COUNT_LO_COUNT, 2, 1000), (F.SLOT_PERIOD_LO_PERIOD, 2, 50), (F.SLOT_CTRL_MODE, 3, 2)]
  let b := fun l => ({ q with tbu := { TbuSt.reset with due := l } } : Blk)
  [((let c := after (.slotFire 1) (b [⟨1, true⟩, ⟨2, false⟩, ⟨3, false⟩])
    c.fld F.SLOT_FIRES_FIRES 1 == 1 && !c.flag F.SLOT_CTRL_EN 1 && c.flag F.SLOT_STATUS_ARM_LATE 1 && c.tbu.trig.map (·.kind) == [1] && c.tbu.due == [⟨2, false⟩, ⟨3, false⟩])),
   ((let c := after (.slotFire 2) (b [⟨2, false⟩, ⟨3, false⟩])
    c.slotCount 2 == 1050 && c.flag F.SLOT_CTRL_EN 2 && c.tbu.due == [⟨3, false⟩] && c.tbu.trig.isEmpty && (b []).slotWidth 2 == 64 && decide (0 < sdiff 64 (1000 + 50) 1000))),
   ((let c := after (.slotFire 2) ((b [⟨2, false⟩]).setFld F.SLOT_CTRL_DIR 2 1)
    c.slotCount 2 == 950 && c.mod.vc3.isEmpty && decide (sdiff 64 950 1000 < 0))),
   ((let c := after (.slotFire 2) ((b [⟨2, true⟩]).setFld F.SLOT_COUNT_LO_COUNT 2 800)
    c.slotCount 2 == 1050 && c.flag F.SLOT_STATUS_ARM_LATE 2 && c.mod.vc3.map (fun r => (r.source, r.cls, r.detail, r.data)) == [(592, 1, 4, 2 * 4194304 + 4)])),
   ((after (.slotFire 3) (b [⟨3, false⟩])).fld F.SLOT_FIRES_FIRES 3 == 1 && (after (.slotFire 3) (b [⟨2, false⟩, ⟨3, false⟩])).fld F.SLOT_FIRES_FIRES 3 == 0)].all id) = true := by
  decide +kernel

/-- Pulses, an index and a stall of built timebases. -/
theorem test_timebase_pulses : (
  let b := base 5000000 [(F.ENC_CFG_EN, 0, 1), (F.ENC_CFG_EN, 1, 1), (F.TB_CFG_KIND, 4, 2), (F.TB_SCALE_SCALE, 4, 65536), (F.TB_CFG_SRC_B_EN, 4, 1), (F.TB_CFG_SRC_B, 4, 1), (F.TB_CFG_KIND, 3, 1), (F.TB_SCALE_SCALE, 3, 65536), (F.TB_CFG_QUAD, 3, 1), (F.TB_STALL_STALL_MS, 4, 1), (F.TB_INDEX_OFFSET, 4, 10)]
  let q := fun (p : Pulse) (b : Blk) => ({ b with tbu := { b.tbu with pulses := b.tbu.pulses ++ [p] } } : Blk)
  [(b.builtValid 4 && b.builtValid 3 && b.tbAngular 4 && !b.tbAngular 3),
   ((let c := after (.sourcePulse 4) (q ⟨4, false, false, true⟩ b)
    counts (c.built 4).pos == 1 && c.tbu.pulses.isEmpty)),
   ((let c := after (.sourcePulse 3) (q ⟨3, false, false, false⟩ b)
    counts (c.built 3).pos == -1 && c.flag F.TB_STAT_REVERSE 3 && counts ((after (.sourcePulse 3) (q ⟨3, false, true, true⟩ c)).built 3).pos == -2)),
   ((let c := after (.indexPulse 4) (q ⟨4, true, false, true⟩ b)
    counts (c.built 4).pos == 10 && c.flag F.TB_STAT_STEP_FWD 4)),
   ((let c := after (.indexPulse 4) (q ⟨4, true, false, true⟩ (b.setBuilt 4 { Built.zero with pos := 20 * posUnit, base := 20 * posUnit }))
    (c.built 4).hold == some 20 && counts (c.built 4).pos == 10 && (counts (c.course 4 5000000).1) == 20)),
   ((let c := after (.indexPulse 4) (q ⟨4, true, false, true⟩ (b.setBuilt 4 { Built.zero with pos := 10 * posUnit, base := 10 * posUnit }))
    (c.built 4).hold == none && !c.flag F.TB_STAT_STEP_FWD 4)),
   ((after (.tbStallExpiry 4) (b.setBuilt 4 { Built.zero with quiet := 4000000 })).flag F.TB_STAT_STALLED 4 && !(after (.tbStallExpiry 4) (b.setBuilt 4 { Built.zero with quiet := 4000001 })).flag F.TB_STAT_STALLED 4),
   ((let c := b.setFld F.TB3_SLIP_AIDING 0 1
    let d := { c with tbu := { c.tbu with slipAt := 4000000 } }
    (after .tb3SlipUpdate (c.setReg64 .TB_VALUE_LO .TB_VALUE_HI 1 100000000)).flag F.TB3_SLIP_AIDING 0 == false && (after .tb3SlipUpdate d).flag F.TB3_SLIP_AIDING 0))].all id) = true := by
  decide +kernel

/-- A tick, a snapshot and a load of TB2. -/
theorem test_tick : (
  let b := base 100 []
  [((after .tbuTick b).tb1 == 110 && (after .tbuTick (base (2 ^ 64 - 5) [])).tb1 == 5),
   ((let c := after .tbuTick (after .tbuSnap b)
    c.reg64 .TBU_SNAPVAL_LO .TBU_SNAPVAL_HI 1 == 110 && !c.tbu.snap)),
   ((let c := after .tbuTick (after (.tb2Load 2 none) (after (.tb2SetLowWrite 5) b))
    c.tb 2 == 0x200000005 && c.tbValid 2)),
   ((after (.tb2Load 2 (some 6)) b).tbu.tb2Load == some 0x200000006)].all id) = true := by
  decide +kernel

/-- Enabling, disabling and requests of a task. -/
theorem test_task_control : (
  let b := withTask 0 (base 1000 [])
  let idle := b.setFld F.TASK_STATUS_STATE 0 1
  [(b.taskValid 0 && b.taskState 0 == 0 && !(b.desc 0).modelEn && !b.taskValid 1),
   ((let c := after (.taskEnable 0) b
    c.taskState 0 == 1 && c.flag F.TASK_CTRL_EN 0)),
   ((let c := after (.taskEnable 1) b
    c.taskState 1 == 0 && c.flag F.TASK_STATUS_EN_REFUSED 1)),
   ((after (.taskEnable 0) (b.setFld F.TASK_STATUS_STATE 0 5)).flag F.TASK_STATUS_EN_REFUSED 0),
   ((after (.taskDisable 0) idle).taskState 0 == 0 && (after (.taskDisable 0) (b.setFld F.TASK_STATUS_STATE 0 3)).taskState 0 == 5),
   ((let c := after (.taskSwap 0) idle
    c.flag F.TASK_STATUS_SWAP_PEND 0 && (after (.taskSwap 0) c).flag F.TASK_STATUS_BANK_LOCKED 0)),
   ((after (.taskPlClr 0) (idle.setFld F.TASK_STATUS_PL_FLAG 0 1)).flag F.TASK_STATUS_PL_FLAG 0 == false && (after (.taskManWrite 0 true) idle).flag F.TASK_CTRL_MAN 0),
   ((after (.taskDisable 0) (idle.setFld F.TASK_CTRL_DISABLE_ACTION 0 1)).taskState 0 == 0)].all id) = true := by
  decide +kernel

/-- A trigger, a deadline, a backstop, an abort and the drain limit of a task. -/
theorem test_triggers_and_deadlines : (
  let b := withTask 0 (base 1000 [(F.TBU_STATUS_TB_VALID, 0, 2)])
  let g : Trigger := ⟨4, 1, 0, [0, 990], 2⟩
  let b := { b with tbu := { b.tbu with trig := [g] } }
  [((b.takeTrig 1 0).isSome),
   ((let c := after (.triggerArrival 0) (words (taskAddr 0 0) [(0x114, 2 ^ 28 + 2 ^ 27 + 3), (0x110, 500)] (b.setFld F.TASK_STATUS_STATE 0 1))
    c.taskState 0 == 2 && (c.task 0).dl == some 1490 && (c.task 0).bs == some 3990)),
   ((let c := after (.triggerArrival 0) (b.setFld F.TASK_STATUS_STATE 0 2)
    c.fld F.TASK_CNT_DROPPED 0 == 1 && c.mod.vc3.map (·.detail) == [3])),
   ((after (.triggerArrival 0) b).tbu.trig.isEmpty),
   ((let c := ((running 0).setTask 0 { TaskSt.zero with started := true, bs := some 1000, due := .backstop }).setFld F.TASK_CTRL_MISS_ACTION 0 2
    ((after (.backstopReached 0) c).task 0).mark == .safe && (after (.backstopReached 0) c).mod.vc3.map (·.detail) == [2] && (after (.deadlineReached 0) c).mod.vc3.isEmpty)),
   ((let c := ((running 0).setTask 0 { TaskSt.zero with started := true, missed := true, due := .drain }).setFld F.TASK_STATUS_STATE 0 5
    ((after (.backstopReached 0) c).task 0).mark == .drain && (after (.backstopReached 0) c).mod.vc3.isEmpty)),
   ((let c := (running 0).setTask 0 { TaskSt.zero with started := true, ended := true, due := .deadline }
    (after (.deadlineReached 0) c).mod.vc3.map (·.detail) == [1] && ((after (.deadlineReached 0) c).task 0).mark == .none)),
   ((let c := ((running 0).setTask 0 { TaskSt.zero with dl := some 900, due := .deadline }).setFld F.TASK_STATUS_STATE 0 2
    let c := c.setFld F.TASK_CTRL_MISS_ACTION 0 1
    (after (.deadlineReached 0) c).taskState 0 == 1 && (after (.deadlineReached 0) c).flag F.TASK_STATUS_ABORTED 0)),
   ((after (.deadlineReached 0) (((running 0).setTask 0 { TaskSt.zero with dl := some 900, due := .deadline }).setFld F.TASK_STATUS_STATE 0 2)).taskState 0 == 2),
   ((let c := words (taskAddr 0 0) [(0x114, 2 ^ 28)] ((((running 0).setTask 0 { TaskSt.zero with dl := some 1010, bs := some 1020 }).setFld F.TASK_STATUS_STATE 0 2).setFld F.TBU_STATUS_TB_VALID 0 2)
    let c := (words (taskAddr 0 0) [(0x114, 2 ^ 28 + 2 ^ 27)] c)
    ((after .tbuTick c).task 0).dlHit && ((after .tbuTick c).task 0).due == .deadline)),
   ((let c := (running 0).setTask 0 { TaskSt.zero with started := true, mark := .hold, due := .deadline }
    (after (.instanceAbort 0) c).mod.vc3.map (·.detail) == [1] && (after (.instanceAbort 0) c).taskState 0 == 1)),
   ([(AbortMark.hold, 1), (.safe, 1), (.safeDisable, 0)].all fun x =>
    (let c := after (.instanceAbort 0) ((running 0).setTask 0 { TaskSt.zero with started := true, mark := x.1 })
    c.taskState 0 == x.2 && c.fld F.TASK_CNT_ABORTS 0 == 1)),
   ((let c := ((running 0).setTask 0 { TaskSt.zero with started := true, drainAt := 0 }).setFld F.TASK_STATUS_STATE 0 5
    (after (.drainLimit 0) (c.setReg64 .TB_VALUE_LO .TB_VALUE_HI 1 1000000)).taskState 0 == 0))].all id) = true := by
  decide +kernel

/-- A sample boundary, preemption and a commit. -/
theorem test_boundary_and_commit : (
  let b := (withTask 1 (withTask 0 (base 1000 []))).setFld F.TASK_STATUS_STATE 0 2
  let low := (running 0).setFld F.TASK_STATUS_STATE 1 2
  [(b.engineRuns 0 && b.selected 0 == some 0),
   ((let c := after (.sampleBoundary 0) b
    c.taskState 0 == 3 && c.cur 0 == some 0 && (c.task 0).pc == 0x1000 && c.fld F.TASK_SEQ_SEQ 0 == 1)),
   ((let c := after (.sampleBoundary 0) ((b.setTask 0 { TaskSt.zero with dl := some 900, due := .deadline }).setFld F.TASK_CTRL_MISS_ACTION 0 1)
    c.taskState 0 == 1 && c.mod.vc3.map (·.detail) == [1] && c.fld F.TASK_SEQ_SEQ 0 == 0)),
   ((let c := after (.preempt 0) (low.setFld F.TASK_CTRL_PRIO 1 5)
    c.taskState 0 == 4 && c.cur 0 == none)),
   ((let c := after (.resume 0) (((running 0).setFld F.TASK_STATUS_STATE 0 4).setCur 0 none)
    c.taskState 0 == 3 && c.cur 0 == some 0)),
   ((let c := (running 0).setTask 0 { TaskSt.zero with started := true, ended := true, staged := [(1, some 77)] }
    let d := after (.commit 0) c
    d.taskState 0 == 1 && (d.task 0).staged.isEmpty && d.bus.waiting.map (fun a => (a.addr, a.data)) == [(0x08005000, 77)])),
   ((let c := (running 0).setTask 0 { TaskSt.zero with started := true, ended := true, manVal := 12 }
    ((after (.commit 0) (c.setFld F.TASK_STATUS_MODE_ACT 0 1)).task 0).prim == 12)),
   ((after (.commit 0) (((running 0).setTask 0 { TaskSt.zero with started := true, ended := true }).setFld F.TASK_STATUS_STATE 0 5)).taskState 0 == 0),
   ((let m := words (taskAddr 0 0) [(0x4000, 2 ^ 28 + 5), (0x400C, 44), (0x120, 2 ^ 31 + 0x6000), (0x6000, 10)] (running 0)
    let m : Blk := { m with le := { m.le with owner := [(5, some 0)] } }.setTask 0 { TaskSt.zero with started := true, ended := true, toAuto := true, prim := 100, staged := [(0, some 30), (1, some 77)] }
    let m := m.setFld F.TASK_STATUS_MODE_ACT 0 0
    let c := after (.commit 0) m
    let d := after (.commit 0) ((m.setFld F.TASK_STATUS_STATE 0 5).setFld F.TASK_CTRL_DISABLE_ACTION 0 1)
    m.gate (m.unitMaster 0) .write 0x08005000 32 == none && c.le.link == [.sol 5 100] && c.word (taskAddr 0 0x6000) == 80 && (c.task 0).prim == 100 &&
    c.reg .TASK_MAN 0 == 100 && !(c.task 0).toAuto && c.bus.waiting.length == 1 && d.le.link == [.sol 5 100, .sol 5 44] && d.taskState 0 == 0)),
   ((let m := words (taskAddr 0 0) [(0x4000, 4 * 2 ^ 28 + 9)] (running 0)
    let m : Blk := m.setTask 0 { TaskSt.zero with started := true, ended := true, staged := [(0, some 30)] }
    (after (.commit 0) m).taskState 0 == 1)),
   ((let c := (((running 0).setTask 0 { TaskSt.zero with started := true, ended := true, prim := 3, staged := [(1, some 77)] }).setFld F.TASK_STATUS_PL_FLAG 0 1).setFld F.TASK_CTRL_PL_ACTION 0 1
    ((after (.commit 0) c).task 0).prim == 3 && (after (.commit 0) c).bus.waiting.isEmpty && (after (.commit 0) c).taskState 0 == 1))].all id) = true := by
  decide +kernel

/-- Occupancy of a tile and its gate. -/
theorem test_occupancy : (
  let b := base 20000000 [(F.PWR_STATUS_LECLK_N, 0, 40), (F.TILE_STATUS_THR_REQ, 2, 1), (F.TILE_THR_TARGET_PCT, 2, 50), (F.TILE_OCC_OCC, 2, 501)]
  let b := { b with le := { b.le with issues := [(2, 8000000)], occAt := [(2, 19000000)], occCyc := [(2, 760000000)], grace := [(2, some 0), (3, some 0)] } }
  [((after (.occWindow 2) b).fld F.TILE_OCC_OCC 2 == 500),
   ((let c := after (.graceEnd 2) b
    c.flag F.TILE_STATUS_GATED 2 && c.mod.vc3.map (·.data) == [268435957])),
   ((after (.graceEnd 3) b).flag F.TILE_STATUS_GATED 3 == false)].all id) = true := by
  decide +kernel

/-- Lane arithmetic of step code, worked by hand from R103 for the lanes of `running`. -/
theorem test_step_code_lanes : (
  [(lanes (after (.add 0) (running (vWord 0x08 2 0))) 3 == [107, -93, 2147483647, 1] && ((after (.add 0) (running (vWord 0x08 2 0))).task 0).flags == 1),
   ((let c := after (.add 0) (running (vWord 0x08 2 0))
    (c.task 0).pc == 0x1004 && c.fld F.ENG_ISSUE_ISSUED 0 == 1 && lanes c 1 == lanes (running 0) 1)),
   (lanes (after (.sub 0) (running (vWord 0x09 2 0))) 3 == [93, -107, 2147483646, 5]),
   (lanes (after (.addw 0) (running (vWord 0x0A 2 0))) 3 == [107, -93, -2147483648, 1] && ((after (.addw 0) (running (vWord 0x0A 2 0))).task 0).flags == 0),
   (lanes (after (.subw 0) (running (vWord 0x0B 2 0))) 3 == [93, -107, 2147483646, 5]),
   (lanes (after (.minLane 0) (running (vWord 0x0C 2 0))) 3 == [7, -100, 1, -2] && lanes (after (.maxLane 0) (running (vWord 0x0D 2 0))) 3 == [100, 7, 2147483647, 3]),
   (lanes (after (.absLane 0) (running (vWord 0x0E 0 0))) 3 == [100, 100, 2147483647, 3] && lanes (after (.neg 0) (running (vWord 0x0F 0 0))) 3 == [-100, 100, -2147483647, -3]),
   (lanes (after (.andLane 0) (running (vWord 0x10 2 0))) 3 == [4, 4, 1, 2] && lanes (after (.orLane 0) (running (vWord 0x11 2 0))) 3 == [103, -97, 2147483647, -1] && lanes (after (.xorLane 0) (running (vWord 0x12 2 0))) 3 == [99, -101, 2147483646, -3])].all id) = true := by
  decide +kernel

/-- Shifts, products, moves, immediates and coefficients; the coefficient is 2 × 2^−4. -/
theorem test_step_code_shifts : (
  [(lanes (after (.shl 0) (running (vWord 0x13 0 4))) 3 == [1600, -1600, 2147483647, 48]),
   (lanes (after (.shr 0) (running (vWord 0x14 0 3))) 3 == [12, -13, 268435455, 0] && lanes (after (.shrr 0) (running (vWord 0x15 0 3))) 3 == [13, -12, 268435456, 0]),
   (lanes (after (.mul 0) (running (vWord 0x16 2 1))) 3 == [350, -350, 1073741824, -3]),
   (lanes (after (.mov 0) (running (vWord 0x18 0 0))) 3 == lanes (running 0) 1 && lanes (after (.bcst 0) (running (vWord 0x19 0 1))) 3 == [-100, -100, -100, -100]),
   (lanes (after (.movl 0) (running (vWord 0x1A 0 14))) 3 == [0, 0, 0, 2147483647] && lanes (after (.hsum 0) (running (vWord 0x1B 0 0))) 3 == [2147483647, 0, 0, 0]),
   (lanes (after (.ldi 0) (running (0x24 * 2 ^ 26 + 3 * 2 ^ 19 + 0xFFFE))) 3 == [-2, -2, -2, -2] && lanes (after (.ldih 0) (running (0x25 * 2 ^ 26 + 1 * 2 ^ 19 + 1))) 1 == [65636, 130972, 131071, 65539]),
   (lanes (after (.addi 0) (running (0x26 * 2 ^ 26 + 3 * 2 ^ 19 + 1 * 2 ^ 15 + 0x7FFF))) 3 == [99, -101, 2147483646, 2]),
   (lanes (after (.cmul 0) (running (0x28 * 2 ^ 26 + 3 * 2 ^ 19 + 1 * 2 ^ 15))) 3 == [13, -12, 268435456, 0] && lanes (after (.cld 0) (running (0x29 * 2 ^ 26 + 3 * 2 ^ 19))) 3 == [68, 68, 68, 68]),
   (lanes (after (.flg 0) ((running (vWord 0x3B 0 2 - 2 ^ 15)).setTask 0 { (running 0).task 0 with flags := 5 })) 3 == [0, 0, 5, 0])].all id) = true := by
  decide +kernel

/-- DIV: truncation toward zero, limits and division by 0. -/
theorem test_step_code_division : (
  [(lanes (after (.div 0) (running (vWord 0x17 2 0))) 3 == [14, -14, 2147483647, -1] && ((after (.div 0) (running (vWord 0x17 2 0))).task 0).flags == 0),
   (lanes (after (.div 0) (running (vWord 0x17 5 0))) 3 == [2147483647, -2147483648, 2147483647, 2147483647] && ((after (.div 0) (running (vWord 0x17 5 0))).task 0).flags == 9),
   ((after (.div 0) (running (vWord 0x17 2 0))).fld F.ENG_ISSUE_ISSUED 0 == 20)].all id) = true := by
  decide +kernel

/-- Compares and predicate logic; P0 reads all ones. -/
theorem test_step_code_predicates : (
  [([(0x1C, 0), (0x1D, 15), (0x1E, 2), (0x1F, 2), (0x27, 8)].all fun x => (let w := x.1 * 2 ^ 26 + 2 * 2 ^ 20 + 1 * 2 ^ 15 + 2 * 2 ^ 11
    let c := match x.1 with
    | 0x1C => after (.cmpeq 0) (running w)
    | 0x1D => after (.cmpne 0) (running w)
    | 0x1E => after (.cmplt 0) (running w)
    | 0x1F => after (.cmple 0) (running w)
    | _ => after (.cmpltu 0) (running w)
    ((c.task 0).pred 2).toNat == x.2 && (c.task 0).pc == 0x1004)),
   (((after (.pset 0) (running 0x8C10000C)).task 0).pred 1 == 12 && ((after (.pset 0) (running 0x8C00000C)).task 0).pred 0 == 15),
   (((after (.pand 0) (running (0x20 * 2 ^ 26 + 2 ^ 20))).task 0).pred 1 == 15 && ((after (.por 0) (running (0x21 * 2 ^ 26 + 2 ^ 20 + 5 * 2 ^ 16))).task 0).pred 1 == 15 && ((after (.pnot 0) (running (0x22 * 2 ^ 26 + 2 ^ 20 + 5 * 2 ^ 16))).task 0).pred 1 == 15)].all id) = true := by
  decide +kernel

/-- Accumulator instructions: V1 × 2 × 2^−4 is aligned to 16 fraction bits. -/
theorem test_step_code_accumulators : (
  [(accs (after (.cmac 0) (running (0x2A * 2 ^ 26 + 2 * 2 ^ 19 + 1 * 2 ^ 15))) 2 == [819200, -819200, 17592186036224, 24576] && accs (after (.cmsu 0) (running (0x2B * 2 ^ 26 + 2 * 2 ^ 19 + 1 * 2 ^ 15))) 2 == [-819200, 819200, -17592186036224, -24576]),
   (accs (after (.accl 0) (running (0x2F * 2 ^ 26 + 1 * 2 ^ 19 + 3 * 2 ^ 17))) 3 == [6553600, -6553600, 140737488289792, 196608]),
   ((let c := (running (0x2D * 2 ^ 26 + 2 * 2 ^ 19 + 3 * 2 ^ 17)).setTask 0 { (running 0).task 0 with ac := [(12, 0x7FFFFFFFFFFFFFFF), (13, 1)] }
    accs (after (.adda 0) c) 3 == [9223372036854775807, 458753, 65536, -131072] && ((after (.adda 0) c).task 0).flags == 1)),
   ((let c := (running (0x2E * 2 ^ 26 + 3 * 2 ^ 19 + 3 * 2 ^ 17)).setTask 0 { (running 0).task 0 with ac := [(12, 98304), (13, -98304)] }
    lanes (after (.accr 0) c) 3 == [2, -1, 0, 0])),
   (accs (after (.clra 0) ((running (0x2C * 2 ^ 26 + 3 * 2 ^ 17)).setTask 0 { (running 0).task 0 with ac := [(12, 5)] })) 3 == [0, 0, 0, 0])].all id) = true := by
  decide +kernel

/-- Loads and stores of tile memory, admitted and refused. -/
theorem test_step_code_memory : (
  [((running 0).gate 0 .read (taskAddr 0 0x2000) 32 == none && (running 0).gate 0 .write (taskAddr 0 0x5000) 32 == none && (running 0).gate 0 .write (taskAddr 0 0x2000) 32 == some 6),
   (lanes (after (.ldTile 0) (running (0x30 * 2 ^ 26 + 3 * 2 ^ 19 + 2 * 2 ^ 17 + 0x800))) 3 == [0, 0, 68, 0] && lanes (after (.ldTile 0) (running (0x30 * 2 ^ 26 + 3 * 2 ^ 19 + 2 ^ 16 + 0x800))) 3 == [68, 0, 0, 0]),
   ((let c := after (.stTile 0) (running (0x31 * 2 ^ 26 + 1 * 2 ^ 19 + 2 ^ 16 + 0x1400))
    c.readMem (taskAddr 0 0x5000) 16 == 0x000000037FFFFFFFFFFFFF9C00000064 && (c.task 0).flags == 0)),
   (((after (.stTile 0) (running (0x31 * 2 ^ 26 + 1 * 2 ^ 19 + 0x800))).task 0).flags == 2 && (after (.stTile 0) (running (0x31 * 2 ^ 26 + 1 * 2 ^ 19 + 0x800))).readMem (taskAddr 0 0x2000) 4 == 68),
   ((let c := (running (vWord 0x32 0 0 - 2 ^ 15 + 2 * 2 ^ 15)).setTask 0 { (running 0).task 0 with v := [(8, 0x800), (9, 1), (10, 0x18000800)] }
    lanes (after (.ldx 0) c) 3 == [68, 0, 68, 0]))].all id) = true := by
  decide +kernel

/-- Global loads and stores, here and for another node, and their results. -/
theorem test_step_code_global : (
  let x := (running 0).task 0
  let ld := (running (0x33 * 2 ^ 26 + 3 * 2 ^ 19 + 2 * 2 ^ 15)).setTask 0 { x with v := [(8, 0x08002000)] }
  [((let c := after (.gld 0) ld
    c.bus.waiting.map (·.addr) == [0x08002000] && (c.task 0).gld.map (·.vd) == [3])),
   ((let c := after (.gld 0) (ld.setTask 0 { x with v := [(8, 0x08002000), (9, 0x300)] })
    c.bus.remote.map (fun r => (r.node, r.addr, r.mid)) == [(3, 0x08002000, 0)])),
   ((let c := after (.gst 0) ((running (0x34 * 2 ^ 26 + 1 * 2 ^ 19 + 2 * 2 ^ 15 + 2 ^ 14)).setTask 0 { x with v := [(4, 1), (5, 2), (8, 0x10), (9, 0x300)] })
    c.bus.remote.map (fun r => (r.node, r.addr, r.width, r.data)) == [(3, 0x10, 128, 0x200000001)] && (c.task 0).gst == [0])),
   ((let st := fun (at_ : Nat) (l : List Nat) => (opened l (running (0x34 * 2 ^ 26 + 1 * 2 ^ 23 + 1 * 2 ^ 19 + 2 * 2 ^ 15 + 2 ^ 14))).setTask 0 { x with p := [(1, 5)], v := [(4, 1), (6, 2), (8, BitVec.ofNat 32 at_)] }
    let c := after (.gst 0) (st 0x08005000 [])
    let d := after (.gst 0) ((st 0x08005000 []).setReg .ACC_ENT0 0 0)
    let e := after (.gst 0) (st 0x08005008 [])
    ((st 0x08005000 []).task 0).pred 1 == 5 && c.bus.waiting.map (fun r => (r.addr, r.width, r.data)) == [(0x08005000, 32, 1), (0x08005008, 32, 2)] && (c.task 0).gst == [0, 1] &&
    d.bus.waiting.isEmpty && d.bus.results.length == 2 && d.fld F.ACC_REFUSED_REFUSED 0 == 2 && e.fld F.ACC_REFUSED_REFUSED 0 == 1 && (e.task 0).gst == [0] && e.bus.waiting.isEmpty)),
   ((let b := (running 0).setTask 0 { x with gld := [⟨0, 3, 2, false, 1, []⟩], gst := [1] }
    let b := { b with bus := { b.bus with results := [⟨.gld 0 0, .read, .ok, 9⟩, ⟨.gst 0 1, .write, .deny, 0⟩] } }
    lanes (after (.gldResponse 0 0) b) 3 == [0, 9, 0, 0] && (after (.gldResponse 0 0) b).bus.results.length == 1 &&
    ((after (.gstComplete 0 1) b).task 0).flags == 2 && ((after (.gstComplete 0 1) b).task 0).gst.isEmpty)),
   ((let b := (running 0).setTask 0 { x with gld := [⟨0, 3, 2, false, 1, [(1, some 77)]⟩] }
    let b := { b with bus := { b.bus with results := [⟨.gld 0 0, .read, .ok, 9⟩] } }
    lanes b 3 == [0, 0, 0, 0] && lanes (after (.gldResponse 0 0) b) 3 == [0, 77, 0, 0]))].all id) = true := by
  decide +kernel

/-- SMP, TBR and OUT. -/
theorem test_step_code_inputs_outputs : (
  let smp := fun raw => (running (0x38 * 2 ^ 26 + 3 * 2 ^ 19 + 2 * 2 ^ 17 + 1 * 2 ^ 14 + 4 * 2 ^ 7 + raw)).setReg .AIN_WORD 4 0x80FFFFFF
  [(lanes (after (.smp 0) (smp 0)) 3 == [0, 0, -1, 0] && ((after (.smp 0) (smp 0)).task 0).pred 1 == 4 && ((after (.smp 0) (smp 0)).task 0).flags == 0),
   (lanes (after (.smp 0) (smp 64)) 3 == [0, 0, -2130706433, 0]),
   (((after (.smp 0) ((smp 0).setReg .AIN_WORD 4 5)).task 0).flags == 4),
   (lanes (after (.tbr 0) ((running (0x39 * 2 ^ 26 + 3 * 2 ^ 19 + 2 ^ 18 + 1 * 2 ^ 12)).setReg64 .TB_VALUE_LO .TB_VALUE_HI 1 0x700000005)) 3 == [0, 0, 5, 7]),
   ((let c := after (.outStage 0) (running (0x3A * 2 ^ 26 + 1 * 2 ^ 19 + 1 * 2 ^ 15))
    (c.task 0).stagedAt 1 == some 100 && (c.task 0).stagedAt 0 == none)),
   (((after (.outStage 0) (running (0x3A * 2 ^ 26 + 1 * 2 ^ 19))).task 0).staged.isEmpty)].all id) = true := by
  decide +kernel

/-- NOP, END, BR and an illegal instruction. -/
theorem test_step_code_flow : (
  [(((after (.nop 0) (running 0x04000000)).task 0).pc == 0x1004 && ((after (.endInstr 0) (running 0x08000000)).task 0).ended),
   ((let c := after (.branch 0) (running (0x03 * 2 ^ 26 + 0x1FFFE))
    (c.task 0).pc == 0xFF8 && c.fld F.ENG_ISSUE_ISSUED 0 == 3)),
   (((after (.branch 0) (running (0x03 * 2 ^ 26 + 2 * 2 ^ 21 + 8))).task 0).pc == 0x1004),
   ((let c := after (.ill 0) (running 0xFC000000)
    c.taskState 0 == 0 && c.fld F.TASK_CNT_ABORTS 0 == 1 && !c.flag F.TASK_CTRL_EN 0 && c.cur 0 == none))].all id) = true := by
  decide +kernel

/-- The words of the spec's own example decode to the instructions it names. -/
theorem test_step_code_words : (
  [([(0x8C10000C, 0x23), (0xE0084400, 0x38), (0xE00A4480, 0x38), (0x0CE0000F, 0x03), (0xA8020000, 0x2A), (0xA0620020, 0x28), (0xE8580000, 0x3A), (0x08000000, 0x02)].all fun x => (opOf x.1 == x.2 && legalWord x.1 0x1000 8 2))].all id) = true := by
  decide +kernel

/-- R128: moves of one round. -/
theorem test_control_rates : (
  [(moveBy 0 100 250 250 == 5 && moveBy 0 100 10 10 == 1 && moveBy 0 3 250 250 == 3 && moveBy 100 0 250 0 == 100 && moveBy 7 7 1 1 == 7)].all id) = true := by
  decide +kernel

/-- Rounds run, an overrun, a refused write, a proposal, a field load and a saving. -/
theorem test_control_rounds : (
  let b := powered [31] (base 600000000000 [(F.HPC_CTRL_HOST, 0, 1), (F.HPC_CTRL_RUN, 0, 1), (F.HPC_WEIGHTS_W_LOSS, 0, 1)])
  [(b.hpcRuns && b.hpc.todo.isNone && b.roundDue),
   ((let c := after .roundOverrun { b with hpc := { b.hpc with todo := some [], roundAt := some 599995000000 } }
    c.hpc.todo.isNone && c.flag F.HPC_STATUS_ROUND_OVR 0 && c.mod.vc3.map (·.data) == [33554432])),
   ((let c := after (.hpcWriteDenied 6) { b with bus := { b.bus with results := [⟨.hpc 6, .write, .deny, 0⟩] } }
    c.flag F.FN_STATUS_WRITE_DENIED 6 && c.bus.results.isEmpty)),
   (b.hpc.propAt.isNone && b.reg .HPC_WEIGHTS 0 != 0 && !b.flag F.HPC_STATUS_FIELD_LOADING 0),
   ((let c := after (.fieldLoad 9) b
    c.fld F.HPC_FIELD_SLOT 0 == 9 && c.flag F.HPC_STATUS_FIELD_LOADING 0)),
   (b.computeRuns && (after .surfaceSave b).hpc.savedAt == 600000000000),
   (!(after .fieldLoadDone (b.setFld F.HPC_STATUS_FIELD_LOADING 0 1)).flag F.HPC_STATUS_FIELD_LOADING 0)].all id) = true := by
  decide +kernel

/-- Setpoints, enables and clears of a valve channel. -/
theorem test_valve_setpoints : (
  let b := (base 1000 [(F.SOL_CTRL_EN, 9, 1)])
  let link := fun (v : Word) => { b with le := { b.le with link := [.lsw 9 1, .sol 9 v] } }
  [((let c := after (.setpointArrival 9) (link 5000000)
    c.reg .SOL_SP 9 == 4000000 && c.flag F.SOL_STATUS_SP_CLAMPED 9 && (c.valve 9).arr == some 4000000 && (c.valve 9).use == 0 && c.le.link.length == 1)),
   ((let c := after (.setpointArrival 9) ((link 0xFFFFFFFF).setFld F.SOL_CTRL_EN 9 0)
    c.reg .SOL_SP 9 == 0 && (c.valve 9).arr == none)),
   ((let c := after (.setpointArrival 9) ((link 5).hold .running |>.setFld F.SOL_STATUS_TRIP_LATCH 9 1)
    c.reg .SOL_SP 9 == 5 && (c.valve 9).arr == none)),
   ((after (.solEnable 8) b).flag F.SOL_CTRL_EN 8 && !(after (.solDisable 9) b).flag F.SOL_CTRL_EN 9),
   ((let c := after (.solDisable 9) ((b.setFld F.SOL_STATUS_STATE 9 2).setFld F.SOL_DUTY_DUTY 9 500)
    c.solState 9 == 3 && c.fld F.SOL_DUTY_DUTY 9 == 0 && (c.valve 9).half == .fast)),
   ((let c := (b.setFld F.SOL_STATUS_FLT 9 1).setFld F.SOL_STATUS_OTEMP 9 1
    !(after (.solFaultClear 9) (c.setFld F.SOL_COMP_TEMP_TEMP 1 1649)).flag F.SOL_STATUS_FLT 9 && (after (.solFaultClear 9) (c.setFld F.SOL_COMP_TEMP_TEMP 1 1650)).flag F.SOL_STATUS_FLT 9)),
   ((let c := (b.setFld F.SOL_STATUS_TRIP_LATCH 9 1).setReg .SOL_TRIPMAP_LO 2 512
    !(after (.solTripClear 9) c).flag F.SOL_STATUS_TRIP_LATCH 9 && (after (.solTripClear 9) (c.setFld F.SOL_TRIP_IN_LEVEL 0 4)).flag F.SOL_STATUS_TRIP_PERSIST 9)),
   ((after (.setpointArrival 9) ((link 5).setFld F.DBG_STATUS_FROZEN 0 1)).reg .SOL_SP 9 == 0),
   ((let c := after (.setpointArrival 9) ((link 5).setComp 1 { CompSt.zero with limp := true })
    c.reg .SOL_SP 9 == 5 && (c.valve 9).arr == none && ((after (.setpointArrival 9) ((link 5).setFld F.PWR_STATUS_SUPPLY 0 1)).valve 9).stored)),
   ((let g := fun (c : Nat) => b.setValve c { ValveSt.zero with fresh := true, follow := true }
    ((after (.solEnable 9) (g 9)).valve 9).fresh && !((after (.solEnable 8) (g 8)).valve 8).fresh && !((after (.solDisable 9) (g 9)).valve 9).fresh && ((after (.solDisable 9) (g 9)).valve 9).follow))].all id) = true := by
  decide +kernel

/-- Current samples, edges of the half-bridge, coil bands, pull-in and over-temperature. -/
theorem test_valve_loop : (
  let b := (base 1000 [(F.SOL_CTRL_EN, 9, 1), (F.SOL_STATUS_STATE, 9, 2), (F.SOL_DUTY_DUTY, 9, 30000)])
  [((after (.currentSample 9 0x8000 0) ((base 0 []).setFld F.SOL_STATUS_FLT 9 1)).reg .SOL_MEAS 9 == 2500000),
   ((let c := after (.currentSample 9 0x8000 0) ((b.setFld F.SOL_STATUS_TRIP_LATCH 9 1).setFld F.SOL_STATUS_STATE 9 4)
    c.fld F.SOL_DUTY_DUTY 9 == 0 && c.solState 9 == 3)),
   ((let g := ((b.setFld F.SOL_GAIN_KP 9 2560).setFld F.SOL_GAIN_KI 9 10).setValve 9 { ValveSt.zero with use := 1000000, fresh := true, integ := 4096000 * 7 }
    let c := after (.currentSample 9 0x3000 0) g
    c.reg .SOL_MEAS 9 == 937500 && c.fld F.SOL_DUTY_DUTY 9 == 632 && (c.valve 9).integ == 4096000 * 7 + 625000)),
   ((let g := (b.setFld F.SOL_DUTY_DUTY 9 65535).setValve 9 { ValveSt.zero with use := 1000000, fresh := true, openN := 3 }
    let c := after (.currentSample 9 10 0) g
    c.flag F.SOL_STATUS_OPEN 9 && c.flag F.SOL_STATUS_FLT 9)),
   ((let c := after (.currentSample 9 0xFFFF 0) (b.setValve 9 { ValveSt.zero with fullN := 1 })
    c.flag F.SOL_STATUS_SHORT 9 && c.flag F.SOL_STATUS_FLT 9 && c.mod.vc3.map (·.data) == [301990388])),
   ((let h := fun (x : Half) => ((after (.pwmEdge 9) (b.setValve 9 { ValveSt.zero with half := x })).valve 9).half
    (h .on == .deadToLow || h .on == .deadToOn) && h .recirc != .on && (h .deadToLow == .recirc || h .deadToLow == .fast))),
   ((let c := { b with tbu := { b.tbu with trig := [⟨1, 4, 9, [], 0⟩] } }.setFld F.SOL_PHASE_OFFSET 9 77
    ((after (.pwmPhaseTrigger 9) c).valve 9).cnt == 77 && (after (.pwmPhaseTrigger 9) c).tbu.trig.isEmpty)),
   ((after (.coilBandUpdate 9) ((base 10000000 []).setFld F.SOL_RCOIL_BAND 9 2)).fld F.SOL_RCOIL_BAND 9 == 0),
   ((let c := (((base 10000000 []).setFld F.SOL_RCOLD_RCOLD 9 5000).setFld F.LSW_BANK_FEED_FEED_V 1 12000).setValve 9 { ValveSt.zero with sumN := 4, sumI := 4000000, sumD := 131072 }
    (after (.coilBandUpdate 9) c).fld F.SOL_RCOIL_RCOIL 9 == 6000)),
   ((let c := ((b.setFld F.SOL_STATUS_STATE 9 1).setFld F.SOL_ARM_WIN_MS 9 2).setValve 9 { ValveSt.zero with pullN := 2000 }
    (after (.pullinTimeout 9) c).fld F.SOL_ARMTIME_ARMTIME 9 == 0xFFFF && (after (.pullinTimeout 9) c).flag F.SOL_STATUS_ARM_FAIL 9)),
   ((let c := after (.companionOvertemp 1 1751) b
    (List.range 8).all (fun j => c.flag F.SOL_STATUS_OTEMP (8 + j)) && !c.flag F.SOL_STATUS_OTEMP 16 && c.mod.vc3.length == 1)),
   ((let c := after (.companionOvertemp 1 1700) (b.setComp 1 { CompSt.zero with hot := true })
    (c.comp 1).hot && !((after (.companionOvertemp 1 1649) c).comp 1).hot && c.mod.vc3.isEmpty)),
   ((let p := fun (x : ValveSt) => (b.setFld F.SOL_DUTY_DUTY 9 65535).setValve 9 x
    let e := ((after (.pwmEdge 9) (p { ValveSt.zero with half := .on })).valve 9)
    e.half == .deadToOn && e.cnt == (p ValveSt.zero).onTicks 9 && ((after (.pwmEdge 9) (p e)).valve 9).half == .on))].all id) = true := by
  decide +kernel

/-- Commands, enables, clears and the sense code of a switch channel. -/
theorem test_switch_commands : (
  let b := base 1000 [(F.LSW_CTRL_EN, 20, 1)]
  [((let c := after (.lswCommand 20) { b with le := { b.le with link := [.lsw 20 1] } }
    c.lswOut 20 && c.flag F.LSW_CMD_CMD_NEW 20 && (c.switch 20).cmd)),
   ((after (.lswEnable 21) (b.setFld F.LSW_CMD_CMD_NEW 21 1)).flag F.LSW_CMD_CMD_NEW 21 == false && (after (.lswEnable 21) b).flag F.LSW_CTRL_EN 21),
   ((after (.lswDisable 20) (b.setFld F.LSW_STATUS_OUT 20 1)).lswOut 20 == false),
   ((let c := (b.setFld F.LSW_STATUS_FLT 20 1).setFld F.LSW_STATUS_SHORT 20 1
    !(after (.lswFaultClear 20) c).flag F.LSW_STATUS_FLT 20 && (after (.lswFaultClear 20) (c.setFld F.LSW_TEMP_TEMP 20 1650)).flag F.LSW_STATUS_FLT 20)),
   ((let c := (b.setFld F.LSW_STATUS_TRIP_LATCH 20 1).setReg .LSW_TRIPMAP 4 0x100000
    !(after (.lswTripClear 20) c).flag F.LSW_STATUS_TRIP_LATCH 20 && (after (.lswTripClear 20) (c.setFld F.SOL_TRIP_IN_LEVEL 0 2)).flag F.LSW_STATUS_TRIP_LATCH 20)),
   ((after (.senseSample 20 50000) (b.setFld F.LSW_STATUS_OUT 20 1)).fld F.LSW_SENSE_CODE 20 == 100 && (after (.senseSample 20 50000) b).fld F.LSW_SENSE_CODE 20 == 0 && (after (.senseSample 20 0) (b.setFld F.LSW_STATUS_TRIP_LATCH 20 1)).fld F.LSW_SENSE_CODE 20 == 0xFFF7),
   ((let c := { b with le := { b.le with link := [.lsw 20 1] } }
    !(after (.lswCommand 20) (c.setFld F.DBG_STATUS_FROZEN 0 1)).flag F.LSW_CMD_CMD_NEW 20 && ((after (.lswCommand 20) (c.setFld F.PWR_STATUS_SUPPLY 0 1)).switch 20).stored && !(after (.lswCommand 20) (c.setFld F.LSW_BANK_STATUS_FEED_UV 1 1)).lswOut 20 && !((after (.lswCommand 20) (c.setFld F.LSW_STATUS_TRIP_LATCH 20 1)).switch 20).cmd)),
   ((after (.lswEnable 20) (b.setFld F.LSW_CMD_CMD_NEW 20 1)).flag F.LSW_CMD_CMD_NEW 20)].all id) = true := by
  decide +kernel

/-- Shorts, overloads, retries, the junction limit and open-load checks of a switch channel. -/
theorem test_switch_protection : (
  let b := base 500000000 [(F.LSW_CTRL_EN, 20, 1), (F.LSW_STATUS_OUT, 20, 1), (F.LSW_CFG_OC_THRESH, 20, 10), (F.LSW_CFG_OC_BLANK, 20, 1), (F.LSW_CFG_RETRIES, 20, 1), (F.LSW_CFG_OL_EN, 20, 1), (F.LSW_CFG_OL_THRESH, 20, 0)]
  let lamp := b.setFld F.LSW_CFG_LAMP 20 1
  [((let c := after (.lswShort 20 499950000 900) b
    c.flag F.LSW_STATUS_SHORT 20 && !c.lswOut 20 && c.mod.vc3.map (·.data) == [671089540])),
   (b.overload 20 498999999 126 && !b.overload 20 499000000 126 && !b.overload 20 498999999 125 && (after (.lswOverload 20 498999999 126) b).flag F.LSW_STATUS_OVERLOAD 20),
   ((let c := after (.lampLimitOff 20 true 499000000 900) lamp
    c.flag F.LSW_STATUS_RETRYING 20 && (c.switch 20).retryAt == some 502000000 && !c.lswOut 20 && c.mod.vc3.isEmpty)),
   ((let c := after (.lampLimitOff 20 true 499000000 900) (lamp.setFld F.LSW_STATUS_RETRY_CNT 20 1)
    c.flag F.LSW_STATUS_RETRY_EXH 20 && c.flag F.LSW_STATUS_FLT 20 && c.mod.vc3.map (·.detail) == [3])),
   ((let c := after (.lswRetry 20) (b.setSwitch 20 { SwitchSt.zero with retryAt := some 500000000, cmd := true })
    c.fld F.LSW_STATUS_RETRY_CNT 20 == 1 && (c.switch 20).retryAt == none)),
   ((after (.retryEpisodeEnd 20) (b.setFld F.LSW_STATUS_RETRY_CNT 20 1)).fld F.LSW_STATUS_RETRY_CNT 20 == 0),
   ((after (.lswJunctionOvertemp 20 1751) b).flag F.LSW_STATUS_OTEMP 20),
   ((let c := (b.setFld F.LSW_STATUS_OUT 20 0).setSwitch 20 { SwitchSt.zero with highN := 7, lowN := 7 }
    (after (.openLoadCheck 20 1001) c).flag F.LSW_STATUS_OPEN_OFF 20 && !(after (.openLoadCheck 20 1000) (c.setFld F.LSW_STATUS_OPEN_OFF 20 1)).flag F.LSW_STATUS_OPEN_OFF 20)),
   ((after (.openLoadDisable 20) b).flag F.LSW_CFG_OL_EN 20 == false),
   ((let c := (b.setSwitch 20 { SwitchSt.zero with retryAt := some 500000000, cmd := true }).setFld F.DBG_STATUS_FROZEN 0 1
    ((after (.lswRetry 20) (c.setFld F.DBG_STATUS_HOLD_STRAP 0 1)).switch 20).retryAt == some 500000000 && ((after (.lswRetry 20) c).switch 20).retryAt == none))].all id) = true := by
  decide +kernel

/-- Trip inputs, feeds and limp-home. -/
theorem test_trips_feeds_limp : (
  let b := ((base 200000000 [(F.LSW_STATUS_OUT, 20, 1), (F.SOL_STATUS_STATE, 9, 2)]).setReg .SOL_TRIPMAP_LO 2 512).setReg .LSW_TRIPMAP 8 0x100000
  [((let c := after (.tripAssert 2) b
    c.flag F.SOL_STATUS_TRIP_LATCH 9 && c.flag F.LSW_STATUS_TRIP_LATCH 20 && !c.lswOut 20 && c.fld F.SOL_TRIP_IN_SEEN 0 == 4 && c.fld F.LSW_TRIP_IN_LEVEL 0 == 4 && (after (.tripRelease 2) c).fld F.SOL_TRIP_IN_LEVEL 0 == 0)),
   ((let c := after (.feedUndervoltage 1 2999) b
    c.flag F.LSW_BANK_STATUS_FEED_UV 1 && !c.lswOut 20 && c.flag F.LSW_STATUS_FEED_UV 31 && c.mod.vc3.map (·.data) == [536873911] && !(after (.feedRecovery 1 3500 190000000) c).flag F.LSW_BANK_STATUS_FEED_UV 1)),
   ((let c := after (.feedShed 1 15001 0) b
    b.shedFirst 1 == some 20 && c.flag F.LSW_STATUS_SHED 20 && c.flag F.LSW_BANK_STATUS_SHEDDING 1 && !(after (.shedEpisodeEnd 1 5000 100000000) c).flag F.LSW_BANK_STATUS_SHEDDING 1)),
   ((let c := b.setComp 3 { CompSt.zero with limp := true, expired := true }
    !((after (.linkFrame 3) c).comp 3).limp && (after (.linkFrame 3) c).flag F.SOL_COMP_STATUS_LINK_UP 3)),
   (((after (.watchdogExpiry 9) b).comp 9).limp && (after (.watchdogExpiry 9) b).flag F.LSW_BANK_STATUS_WD_EXPIRED 1),
   (((after .limpHomeEntry (inPhase .released b)).comp 15).limp && (after (.limpPinChange 5 true) b).fld F.LSW_LIMP_LEVEL 0 == 32),
   ((let c := b.setValve 9 { ValveSt.zero with follow := true }
    !((after (.limpRelease 2 2) c).valve 9).follow)),
   ((let c := (((b.setFld F.LSW_STATUS_OUT 20 0).setFld F.LSW_BANK_STATUS_SHEDDING 1 1)).setComp 9 { CompSt.zero with shedCh := 20 }
    c.shedFirst 1 == none && (after (.feedShed 1 15001 0) c).mod.vc3.map (·.data) == [671103641] && ((after (.feedShed 1 15001 0) c).comp 9).valves)),
   ((let c := b.setFld F.DBG_STATUS_FROZEN 0 1
    c.frozen && ((after (.watchdogExpiry 3) c).comp 3).limp && ((after .limpHomeEntry c).comp 3).limp)),
   ((let c := (b.setFld F.SOL_STATUS_STATE 9 4).setValve 9 { ValveSt.zero with follow := true }
    c.limpCurrent 9 == none && ((after (.limpRelease 2 0) c).valve 9).hold == none))].all id) = true := by
  decide +kernel

/-- AIN words through the settled filter with calibration and validity, a filter that fills, settings, excitation, captures. -/
theorem test_analog_inputs : (
  let b := (base 30000 [(F.AIN_CFG_EN, 20, 1), (F.AIN_CFG_MUX, 20, 0), (F.AIN_CFG_DEC, 20, 0), (F.AIN_OFFSET_OFFSET, 20, 100)]).setReg .AIN_SCALE 20 0x8000
  let set := fun (x : AinSt) => b.setAin 20 { x with at_ := 23750 }
  let why := fun (b : Blk) => ((b.reg .AIN_WORD 20).extractLsb' 27 4).toNat
  [((let c := after (.ainWord 20 [4197] 0) (set (settled (b.ainCfg 20) 4197 0))
    sampleValue (c.reg .AIN_WORD 20) == 500 && sampleValid (c.reg .AIN_WORD 20) && sampleSeq (c.reg .AIN_WORD 20) == 1)),
   ((after (.ainWord 20 [4197] 0) (b.setAin 20 { settled (b.ainCfg 20) 4197 0 with at_ := 23751 })).reg .AIN_WORD 20 == 0),
   (why (after (.ainWord 20 [32000000] 0) (set (settled (b.ainCfg 20) 32000000 0))) == 8 && sampleValue ((after (.ainWord 20 [-40000000] 0) (set (settled (b.ainCfg 20) (-40000000) 0))).reg .AIN_WORD 20) == -4194353),
   ((let w := fun (nA : Int) => why (after (.ainWord 20 [nA] 0) (set (settled ⟨true, 1, 3, 1, 0⟩ nA 0)))
    w 3599999 == 6 && w 3600000 == 0 && w 21000000 == 0 && w 21000100 == 7)),
   ((let c := (set (settled ⟨true, 2, 0, 1, 0⟩ 2500000 5000000)).setFld F.AFE_EXC_EXC_FAULT 0 2
    why (after (.ainWord 20 [2500000] 5000000) c) == 5 && rawCode ⟨true, 2, 2, 1, 2⟩ 2500000 5000000 == 2 ^ 22)),
   (sampleValue ((after (.ainWord 20 [31999997] 0) ((set (settled (b.ainCfg 20) 31999997 0)).setReg .AIN_SCALE 20 0x20000)).reg .AIN_WORD 20) == 8388607),
   ((let c := after (.ainWord 20 [4197] 0) (set { settled (b.ainCfg 20) 4197 0 with remain := 2, reason := 4 })
    !sampleValid (c.reg .AIN_WORD 20) && why c == 4 && (c.ain 20).remain == 1)),
   ((let x : AinSt := { AinSt.zero with cfg := ⟨true, 0, 0, 0, 0⟩ }.fresh
    let y := x.filter (List.replicate 64 262144)
    let z := y.1.filter (List.replicate 64 262144)
    (z.1.filter (List.replicate 64 262144)).2 == 262144 && y.2 == 45760 && z.2 == 220480)),
   (ainChange ⟨true, 0, 0, 1, 2⟩ ⟨true, 0, 1, 1, 2⟩ == (4, 4) && ainChange ⟨true, 0, 0, 1, 2⟩ ⟨true, 1, 0, 1, 2⟩ == (5, 3) && ainChange ⟨true, 0, 0, 1, 2⟩ ⟨true, 0, 1, 2, 2⟩ == (6, 2)),
   ((after (.ainCfgWrite 20 1) b).reg .AIN_CFG 20 == 1),
   ((after (.excitationFault 1 4749 false) b).fld F.AFE_EXC_EXC_FAULT 0 == 2 && (after (.excitationFault 1 4750 false) b).fld F.AFE_EXC_EXC_FAULT 0 == 0),
   ((let c := after (.sensorSampleTrigger 20) { b.setReg .AIN_WORD 20 77 with tbu := { b.tbu with trig := [⟨1, 2, 20, [0, 4990], 2⟩] } }
    c.reg .AIN_CAP 20 == 77 && c.reg .AIN_CAP_T 20 == 4990 && c.tbu.trig.isEmpty))].all id) = true := by
  decide +kernel

/-- Hits, the closing of an interval, edges outside and in a pair. -/
theorem test_impact_and_pulse_inputs : (
  let b := base 5000000 [(F.IMP_CFG_EN, 3, 1), (F.IMP_CFG_THRESH, 3, 500), (F.IMP_CFG_HOLDOFF, 3, 100), (F.IMP_CFG_MIN_MM, 3, 10), (F.ENC_CFG_EN, 4, 1), (F.ENC_CFG_EN, 6, 1), (F.ENC_CFG_QUAD, 6, 1), (F.IMP_LIVE_LIVE, 3, 3)]
  let trig := fun (ch : Nat) (b : Blk) => { b with tbu := { b.tbu with trig := [⟨1, 2, ch, [], 0⟩] } }
  [(((after (.impSample 3 500) b).imp 3).fresh == 1 && ((after (.impSample 3 (-499)) b).imp 3).fresh == 0),
   (((after (.impSample 3 500) (b.setImp 3 { ImpSt.zero with lastHit := some 4900001 })).imp 3).fresh == 0 && ((after (.impSample 3 500) (b.setImp 3 { ImpSt.zero with rect := 600 })).imp 3).fresh == 0),
   ((let c := after (.sensorSampleTrigger 67) (trig 67 (b.setImp 3 { ImpSt.zero with dist := 40000 }))
    c.fld F.IMP_CAP_CNT_CNT 3 == 3 && c.fld F.IMP_CAP_DIST_DIST 3 == 40000 && c.fld F.IMP_LIVE_LIVE 3 == 0 && sampleValue (c.reg .IMP_WORD 3) == 19200 && sampleValid (c.reg .IMP_WORD 3))),
   ((let c := after (.sensorSampleTrigger 67) (trig 67 (b.setImp 3 { ImpSt.zero with dist := 9999 }))
    sampleValue (c.reg .IMP_WORD 3) == 3 && !sampleValid (c.reg .IMP_WORD 3))),
   ((after (.sensorSampleTrigger 84) (trig 84 (b.setReg .ENC_WORD 4 77))).reg .ENC_CAP 4 == 77),
   ((let c := after (.encEdge 4 true 4999960 none) (b.setEnc 4 { EncSt.zero with lastAt := some 4000000 })
    (c.enc 4).count == 1 && c.fld F.ENC_PERIOD_PERIOD 4 == 100000 && ((after (.encEdge 4 false 0 none) c).enc 4).level && ((after (.encEdge 4 true 4999961 none) b).enc 4).count == 0)),
   ((let c := after (.encEdge 4 false 0 none) (b.setEnc 4 { EncSt.zero with level := true })
    (c.enc 4).count == 0 && !(c.enc 4).level && ((after (.encEdge 4 false 0 none) ((b.setEnc 4 { EncSt.zero with level := true }).setFld F.ENC_CFG_BOTH_EDGES 4 1)).enc 4).count == 1)),
   (((after (.encEdge 6 true 0 none) b).enc 6).count == 1 && ((after (.encEdge 6 true 0 none) (b.setEnc 7 { EncSt.zero with level := true })).enc 6).count == -1 && ((after (.encEdge 7 true 0 none) b).enc 6).count == -1),
   ((let c := after (.encEdge 6 true 0 (some 0)) b
    (c.enc 6).count == 0 && (c.enc 7).level && (c.enc 6).quadErr && !sampleValid (c.encWord 6))),
   ((let c := ((b.setFld F.TB_CFG_KIND 3 1).setFld F.TB_CFG_SRC_A 3 4).setFld F.TB_SCALE_SCALE 3 1
    c.builtValid 3 && (after (.encEdge 4 true 0 none) c).tbu.pulses == [⟨3, false, false, true⟩]))].all id) = true := by
  decide +kernel

/-- A frame of 8-bit pixels from its Frame Start to its record. -/
theorem test_camera_frames : (
  let b := powered [34] (opened [32] (base 7000 [(F.CAM_STATUS_STATE, 2, 1), (F.ST_CFG_EN, 8, 1), (F.ST_CFG_VC, 8, 1), (F.ST_CFG_DT, 8, 0x1E), (F.ST_SIZE_WIDTH, 8, 2), (F.ST_SIZE_HEIGHT, 8, 1), (F.ST_PITCH_PITCH, 8, 64)]))
  let b := b.setStrm 2 0 { StreamSt.zero with pend := some 0x10000000 }
  let f := after (.frameStart 2 1 77 .good) b
  let l := after (.longPacket 2 1 0x1E .good [1, 2, 3, 4] true false) f
  [(b.camRuns 2 && b.streamsOf 2 1 == [0] && b.gate 514 .write 0x10000000 128 == none),
   (((f.strm 2 0).frame.map fun x => (x.addr, x.fnum, x.fcnt, x.seen)) == some (0x10000000, 77, 1, 0) && f.reg .ST_FCNT 8 == 1),
   ((after (.frameStart 2 1 77 .good) (b.setStrm 2 0 StreamSt.zero)).strm 2 0 == { StreamSt.zero with lastFs := 7000 }),
   (l.bytes 0x10000040 4 == [1, 2, 3, 4] && ((l.strm 2 0).frame.map fun x => (x.seen, x.lines)) == some (1, 1)),
   ((let c := after (.frameEnd 2 1 .good) l
    (c.strm 2 0).frame == none)),
   ((let c := after (.frameEnd 2 1 .good) l
    c.bytes 0x10000010 8 == leBytes 8 7000)),
   ((let c := after (.frameEnd 2 1 .good) l
    c.mod.vc3.isEmpty)),
   ((let d := l.setFld F.CAM_STATUS_STATE 2 2
    (after (.frameStart 2 1 78 .good) d).strm 2 0 == d.strm 2 0 && (after (.frameEnd 2 1 .good) d).camState 2 == 0)),
   ((let c := after (.frameEnd 2 1 .good) (after (.longPacket 2 1 0x1E .good [1, 2, 3, 4] false true) f)
    (c.strm 2 0).marked && c.mod.vc3.map (·.cls) == [8])),
   ((let c := after (.pipelineDisable 2) (l.setFld F.CAM_CTRL_DIS_MODE 2 1)
    c.camState 2 == 0 && (c.strm 2 0).frame == none && (c.strm 2 0).marked && c.mod.vc3.length == 1)),
   ((after (.longPacket 2 1 0x2A .good [1] true false) f).fld F.CAM_ERR2_DT_DROP 2 == 1),
   (((after (.linePacket 2 1 .bad) f).strm 2 0).frame.map (·.eccN) == some 1 && (after (.linePacket 2 1 .bad) f).fld F.CAM_ERR1_ECC_UNCORR 2 == 1 && (after (.linePacket 2 1 .good) f).cam == f.cam),
   (rawBits 0x1E == 0 && correct { ParamSet.zero with black := [48, 0, 0, 0], gain := [2000, 0, 0, 0] } 12 0 0 2096 == 1000 && replacePixel 10 [5, 9, 90, 9, 7] 2 == 6 && replacePixel 0 [5, 9, 90, 9, 7] 2 == 90),
   ((let d := l.setFld F.CAM_STATUS_STATE 2 2
    (after (.frameStart 2 3 78 .good) d).fld F.CAM_ERR2_DT_DROP 2 == 1 && (after (.frameStart 2 3 78 .good) d).cam == d.cam && (after (.frameEnd 2 3 .good) d).camState 2 == 2)),
   ((let c := after (.frameStart 2 1 77 .good) ((b.setFld F.CAM_TRIG_TIMEOUT_MS 2 10).setPipe 2 { (b.pipe 2) with capture := some ⟨6000, 9⟩ })
    ((c.strm 2 0).frame.map fun x => (x.tTrig, x.marks.noTrig)) == some (9, false) && (c.pipe 2).capture == none && (c.pipe 2).frames == 1)),
   ((after (.linePacket 2 1 .fixed) f).fld F.CAM_ERR0_ECC_CORR 2 == 1)].all id) = true := by
  decide +kernel

/-- Addresses, parameter sets, enabling and disabling of a pipeline. -/
theorem test_camera_commits : (
  let b := base 7000 [(F.CAM_STATUS_STATE, 2, 1), (F.ST_SIZE_WIDTH, 8, 2), (F.ST_SIZE_HEIGHT, 8, 1), (F.ST_PITCH_PITCH, 8, 64)]
  let good := b.setReg .ST_ADDR_LO 8 0x10000000
  [(!b.bufferOk 8 0 && good.bufferOk 8 0x10000000),
   ((after (.streamAddressCommit 2 0 false) b).flag F.ST_STATUS_ADDR_REFUSED 8 && ((after (.streamAddressCommit 2 0 false) good).strm 2 0).pend == some 0x10000000),
   (((after (.streamAddressCommit 2 0 true) good).strm 2 0).late == some 0x10000000 && (after (.streamAddressCommit 2 0 true) good).flag F.ST_STATUS_COMMIT_LATE 8),
   (((after (.parameterCommit 2 1 false) b).pipe 2).queue.map (·.1) == [2] && ((after (.parameterCommit 2 1 true) b).pipe 2).queue.map (·.1) == [3]),
   ((let q := [(1, ParamSet.zero), (2, ParamSet.zero), (3, ParamSet.zero), (4, ParamSet.zero)]
    (after (.parameterCommit 2 1 false) (b.setPipe 2 { PipeSt.zero with queue := q })).flag F.PS_STATUS_PARAM_FULL 2)),
   ((after (.pipelineEnable 3) b).camState 3 == 1 && (after (.pipelineEnable 3) (b.setFld F.CAM_STATUS_STATE 3 2)).flag F.CAM_STATUS_EN_REFUSED 3),
   ((let f : Frame := ⟨0x10000000, 0, 0, ⟨false, false, false, false, false, false, false, false⟩, 0, 0, 1, 0, 0, 0, 0⟩
    let open_ := b.setStrm 2 0 { StreamSt.zero with frame := some f }
    (after (.pipelineDisable 2) b).camState 2 == 0 && (after (.pipelineDisable 2) open_).camState 2 == 2 && (after (.pipelineDisable 2) (open_.setFld F.CAM_CTRL_DIS_MODE 2 1)).camState 2 == 0)),
   ((after (.pipelineEnable 2) b).cam == b.cam && (let c := after (.pipelineDisable 2) (b.setPipe 2 { (b.pipe 2) with capture := some ⟨1, 2⟩ }); c.camState 2 == 0 && (c.pipe 2).capture == some ⟨1, 2⟩))].all id) = true := by
  decide +kernel

/-- Exposure triggers, their time limits, and the transfers of a sensor. -/
theorem test_camera_triggers : (
  let b := powered [34] (base 900000000 [(F.CAM_STATUS_STATE, 2, 1), (F.ST_CFG_EN, 8, 1), (F.CAM_TRIG_TIMEOUT_MS, 2, 10), (F.CAM_TRIG_WIDTH_US, 2, 5), (F.CAM_TRIG_TB_SEL, 2, 1)])
  [((let c := after (.exposureTrigger 2) { b with tbu := { b.tbu with trig := [⟨1, 3, 2, [0, 55], 2⟩] } }
    (c.pipe 2).capture == some ⟨55, 55⟩ && (c.pipe 2).pulse == some 900000000)),
   (((after (.triggerPulseEnd 2) (b.setPipe 2 { PipeSt.zero with pulse := some 899995000 })).pipe 2).pulse == none),
   ((let c := after (.noFrame 2) (b.setPipe 2 { PipeSt.zero with capture := some ⟨889999999, 0⟩ })
    (c.pipe 2).capture == none && c.mod.vc3.map (fun r => (r.cls, r.detail)) == [(9, 1)])),
   ((let f : Frame := ⟨0, 0, 0, ⟨false, false, false, false, false, false, false, false⟩, 0, 0, 1, 0, 0, 0, 0⟩
    let c := after (.noEnd 2 0) (b.setStrm 2 0 { StreamSt.zero with frame := some f })
    (c.strm 2 0).frame == none && (c.mod.vc3.map (·.detail)).contains 2)),
   (((after (.noStart 2 0) b).strm 2 0).noStart && (after (.noStart 2 0) b).mod.vc3.map (·.detail) == [3]),
   ((let c := after (.cciStart 2 (2 ^ 13 + 3 * 2 ^ 14 + 0x20 + 1)) b
    c.flag F.CCI_STATUS_BUSY 2 && ((c.pipe 2).cci.map fun x => (x.1, x.2.1, x.2.2.1)) == some (true, 3, 0x10) && !(after (.cciDone 2 true [1]) c).flag F.CCI_STATUS_BUSY 2 && (after (.cciDone 2 true [1]) c).flag F.CCI_STATUS_NACK 2)),
   ((after (.phyLockChange 2 true) b).flag F.CAM_STATUS_PHY_LOCK 2 && (after (.sotSyncError 2) b).fld F.CAM_ERR1_SOT_ERR 2 == 1)].all id) = true := by
  decide +kernel

/-- An epoch that is due, one abandoned, a dropped sensor, poses, enabling and disabling. -/
theorem test_fusion_epochs : (
  let b := base 900000000 [(F.FUS_CTRL_GRID, 0, 1), (F.FUS_STATUS_STATE, 0, 1), (F.FUS_GRID_CFG_EPOCH_MS, 0, 100), (F.FUS_SENS_EN_EN, 0, 2 ^ 12), (F.FUS_DROP_DROP_MS, 0, 900)]
  [(b.fusRuns && b.gridNode && b.fusState == 1 && b.epochNow == 9 && b.fus.epoch == 0),
   ((let c := after (.epoch []) (b.setFld F.FUS_CTRL_GRID 0 0)
    c.fus.epoch == 9 && c.fusState == 1 && c.fld F.FUS_EPOCH_EPOCH 0 == 0)),
   ((let c := after (.epoch []) ((b.setFld F.FUS_STATUS_STATE 0 2).hold .running)
    c.fus.epoch == 9 && c.fusState == 0 && c.flag F.FUS_STATUS_OVR 0 && c.fus.pubAt == 0)),
   ((let c := after .epochAbandon b
    c.flag F.FUS_STATUS_OVR 0 && c.fus.epoch == 8)),
   ((let c := after (.sensorDropped 12) b
    c.masked 12 && (c.sensor 12).silent && c.mod.vc3.map (·.data) == [1610613636])),
   ((let c := after (.poseUpdate ⟨0, 1, 2, 3, 4, 5, 6, 7⟩ 1) b
    c.fus.poses == [⟨900000000, 1, 2, 3, 4, 5, 6, 7⟩] && (c.sensor 20).lastIn == 900000000 && c.flag F.FUS_STATUS_EGO_OK 0)),
   (!(after (.poseUpdate Pose.zero 0) (b.setFld F.FUS_MASK_MASKED 0 (2 ^ 21 + 2 ^ 22))).flag F.FUS_STATUS_EGO_OK 0),
   ((after .fusionEnable (b.setFld F.FUS_STATUS_STATE 0 0)).fusState == 1 && (after .fusionEnable (b.setFld F.FUS_STATUS_STATE 0 2)).flag F.FUS_STATUS_EN_REFUSED 0 && (after .fusionDisable b).fusState == 2 && (after .fusionDisable (b.setFld F.FUS_CTRL_GRID 0 0)).fusState == 0),
   (cellAt (-3000) (cellPos (-3000) 513).1 (cellPos (-3000) 513).2 == some 513 && fuseValue 10 1 20 3 == 18 && fuseValue (-3) 0 9 0 == -3 && fuseValue 0 1 1 1 == 1)].all id) = true := by
  decide +kernel

/-- A load, a copy that fails its checks, a slot that runs on a frame, and point packets. -/
theorem test_fusion_models : (
  let b := powered [44, 60] (opened [32] (base 900000000 [(F.FUS_CTRL_GRID, 0, 1), (F.FUS_STATUS_STATE, 0, 1), (F.MODEL_CFG_QUADS, 2, 1), (F.MODEL_CFG_SRC, 2, 8), (F.MODEL_STATUS_LOADED, 2, 1), (F.FUS_SENS_EN_EN, 0, 2 ^ 13)]))
  let b := (b.setFld F.ETH_CTRL_EN 1 1).setFld F.ETH_STATUS_LINK 1 1
  let b := { b with fus := { b.fus with frames := [⟨3, 0x10000000, 5, 800000000, false, [], []⟩] } }
  let point : List Byte := leBytes 4 1000 ++ leBytes 4 2000 ++ leBytes 4 300 ++ leBytes 4 (2 ^ 24)
  let packet : List Byte := [1, 1] ++ leBytes 2 7 ++ leBytes 2 1 ++ leBytes 2 1 ++ leBytes 8 0 ++ leBytes 16 0 ++ point
  [((let c := after (.modelLoad 2) (b.setReg .MODEL_ADDR_LO 2 0x10000000)
    c.flag F.MODEL_STATUS_PEND 2 && (c.model_ 2).copy == some 0x10000000 && (after (.modelLoad 2) c).flag F.MODEL_STATUS_LOAD_REFUSED 2)),
   ((let c := words 0x10000000 [(0, 0x50000)] (b.setModel 2 { ModelSt.zero with copy := some 0x10000000 })
    !(c.imageOk 2 (c.bytes 0x10000000 64)) && (after (.modelLoadComplete 2) c).flag F.MODEL_STATUS_LOAD_REFUSED 2 && ((after (.modelLoadComplete 2) c).model_ 2).copy == none)),
   (b.quadsOn 2 && (after (.frameInference 2 3 [] []) b).fus.frames.map (·.taken) == [[2]]),
   ((let c := (b.setFld F.MODEL_CFG_KIND 2 2).setReg .MODEL_OUT_LO 2 0x10001000
    let d := after (.frameInference 2 3 [] [1, -2]) c
    c.gate (c.slotMaster 2) .write 0x10001000 128 == none && d.bytes 0x10001000 20 == leBytes 4 5 ++ leBytes 8 800000000 ++ leBytes 4 1 ++ leBytes 4 0xFFFFFFFE)),
   ((let c := after (.pointPacket 1 47120 packet) b
    b.packetOk packet && c.fld F.FUS_RS_CNT_ACCEPT 1 == 1 && c.fus.obs.map (·.sensor) == [13] && c.fus.inputs == [⟨13, 900000000, 900000000, .good⟩])),
   ((let c := after (.pointPacket 1 47120 (packet ++ [0])) b
    !b.packetOk (packet ++ [0]) && c.fld F.FUS_RS_CNT_DISCARD 1 == 1)),
   ((after (.pointPacket 1 47121 packet) b).fld F.FUS_RS_CNT_ACCEPT 1 == 0 && (after (.pointPacket 2 47120 packet) b).fld F.FUS_RS_CNT_ACCEPT 1 == 0),
   ((let c := after (.frameInference 2 3 [] []) (b.setFld F.FUS_CTRL_GRID 0 0)
    c.fus.frames.map (·.taken) == [[2]] && c.bus.egress.isEmpty)),
   ((let c := after (.pointPacket 1 47120 packet) (b.setFld F.FUS_STATUS_STATE 0 0)
    c.fus.obs.length == 1 && c.fus.inputs.isEmpty && c.fld F.FUS_RS_CNT_ACCEPT 1 == 1)),
   ((let c := after (.pointPacket 1 47120 packet) { b with fus := { b.fus with rsSeq := [(1, some 5)] } }
    c.fld F.FUS_RS_GAP_GAP 1 == 1))].all id) = true := by
  decide +kernel

/-- The states of a tracking channel (R260), notches and jamming. -/
theorem test_gnss_channels : (
  let b := powered [24, 25, 26, 27, 48, 49] (base 9000000000 [(F.GNSS_CTRL_HOST, 0, 1), (F.GNSS_CTRL_EN, 0, 1), (F.GNSS_SIG_EN_SIG, 0, 16), (F.GNSS_MASK_ELEV_MASK, 0, 10), (F.GNSS_MASK_CN0_LOSS, 0, 25), (F.GNSS_JAM_CFG_NOTCH_DB, 0, 10), (F.GNSS_JAM_CFG_AGC_JAM, 0, 20), (F.GNSS_JAM_CFG_SF_JAM, 0, 100)])
  let b := b.setFld F.GNSS_MASK_TAP_SP 0 4
  let at_ := fun (k cn0 : Nat) => (b.setFld F.CH_STATUS_STATE 300 k).setFld F.CH_STATUS_CN0 300 cn0
  let taps := (List.replicate 7 ((1 : Int), (2 : Int)))
  [(b.gnssRuns && b.frontRuns),
   ((let c := after (.channelAssign 300 [⟨false, 4, 16, 11⟩, ⟨true, 4, 18, 80⟩, ⟨false, 4, 17, 12⟩, ⟨false, 5, 3, 50⟩]) b
    c.chState 300 == 1 && c.fld F.CH_STATUS_SV 300 == 17 && c.fld F.CH_STATUS_SIG 300 == 4 && (after (.channelAssign 300 [⟨true, 4, 17, 11⟩, ⟨false, 4, 17, 10⟩]) b).chState 300 == 0)),
   ((let c := after (.channelAssign 300 [⟨true, 4, 18, 80⟩, ⟨false, 4, 17, 12⟩]) (b.setFld F.GNSS_CTRL_ANT_B_EN 0 1)
    c.fld F.CH_STATUS_SV 300 == 17 && (after (.channelAssign 301 [⟨true, 4, 18, 80⟩, ⟨false, 4, 17, 12⟩]) c).fld F.CH_STATUS_SV 301 == 18)),
   ((after (.channelRelease 300 8) (at_ 3 40)).chState 300 == 0 && (after (.channelRelease 300 9) (at_ 3 40)).chState 300 == 3),
   ((let c := after (.correlatorDump 300 taps 41 0 9 (some (5, 6))) ((at_ 3 40).setChan 300 { ChanSt.zero with next := some (7, 8) })
    c.fld F.CH_STATUS_CN0 300 == 41 && (c.chan 300).code == 7 && (c.chan 300).carrier == 8 && (c.chan 300).rate == 8 && (c.chan 300).next == some (5, 6) && (c.chan 300).dump.head? == some (-12, 1, 2) && (c.chan 300).highAt == some 9000000000 && (c.chan 300).lowAt == none)),
   ((let c := after (.correlatorDump 300 taps 41 0 9 none) ((((at_ 3 40).setFld F.GNSS_STATUS_AIDING 0 1)).setChan 300 { ChanSt.zero with next := some (7, 8), dumpAt := some 8999000020 })
    (c.chan 300).rate == 17 && (c.chan 300).missAt == some 9000800000)),
   (((after (.correlatorDump 300 taps 41 0 9 none) ((at_ 3 40).setChan 300 { ChanSt.zero with dumpAt := some 8999000021 })).chan 300).dump.isEmpty),
   ((after (.correlatorDump 300 taps 41 0 0 none) ((at_ 3 40).setChan 300 { ChanSt.zero with stop := true })).chState 300 == 0),
   ((let c := (at_ 1 0).setChan 300 { ChanSt.zero with assigned := true }
    (after (.signalFound 300 9 500000 0) c).chState 300 == 2 && (after (.signalFound 300 9 500001 0) c).chState 300 == 1)),
   ((let c := ((at_ 1 0).setChan 300 { ChanSt.zero with assigned := true }).setFld F.TBU_STATUS_TB_VALID 0 1
    let c := { c with gnss := { c.gnss with nav := 0x10000000 :: List.replicate 15 0, eph := [(0, 0)] } }
    c.acqKnown 300 && (after (.signalFound 300 9 650000 600000) c).chState 300 == 2 && (after (.signalFound 300 9 650001 600000) c).chState 300 == 1)),
   ((after (.pullInLock 300 8900000000) (at_ 2 40)).chState 300 == 3 && (after (.pullInTimeout 300) (at_ 2 40)).chState 300 == 1),
   ((let run := fun (t : Nat) => (at_ 3 24).setChan 300 { ChanSt.zero with lowAt := some t }
    (after (.coastEntry 300 8980000000 3 4) (run 8980000000)).chState 300 == 4 && (after (.coastEntry 300 8980000000 3 4) (run 8980000001)).chState 300 == 3 &&
    (after (.coastEntry 300 8980000000 3 4) (at_ 3 24)).chState 300 == 3)),
   ((let c := (at_ 4 28).setFld F.GNSS_COAST_SLIP_LIM 0 10
    let good := after (.coastExit 300 8980000000) (c.setChan 300 { ChanSt.zero with since := 8900000000, highAt := some 8980000000 })
    let slip := after (.coastExit 300 8980000000) (c.setChan 300 { ChanSt.zero with since := 8900000000, highAt := some 8980000000, sigV := 1000 })
    good.chState 300 == 3 && good.fld F.CH_PHASE_SLIPS 300 == 0 && (good.chan 300).lockAt == 9000000000 && slip.chState 300 == 3 && slip.fld F.CH_PHASE_SLIPS 300 == 1 && (slip.chan 300).newAmb)),
   ((at_ 4 28).chState 300 == 4 && (after (.coastTimeout 300) (at_ 4 0)).chState 300 == 1 && (after (.coastTimeout 300) (at_ 4 0)).fld F.CH_PHASE_SLIPS 300 == 1),
   ((let c := after (.spectrumScan true 1 [⟨-5, 100, none⟩]) b
    bandIdx true 1 == 4 && c.flag F.NOTCH_ACTIVE 32 && c.fld F.NOTCH_FREQ 32 == 0xFFFFFB && c.fld F.JAM_STAT_NOTCHES 4 == 1)),
   ((let c := after (.spectrumScan true 1 [⟨-5, 100, none⟩]) ((List.range 8).foldl (fun b k => b.setFld F.NOTCH_ACTIVE (32 + k) 1) b)
    c.mod.vc3.map (fun r => (r.cls, r.detail, r.data)) == [(0x0A, 2, 2684354660)] && (c.band 4).full)),
   (!(after (.notchRelease true 1 0) ((b.setFld F.NOTCH_ACTIVE 32 1).setBand 4 { BandSt.zero with low := [(0, some 8000000000)] })).flag F.NOTCH_ACTIVE 32),
   ((let c := after (.jamEvaluation true 1 20 200) (b.setBand 4 { BandSt.zero with jamN := 4 })
    c.flag F.JAM_STAT_JAMMING 4 && c.flag F.GNSS_STATUS_JAMMING 0 && c.mod.vc3.length == 1)),
   ((let c := (b.setFld F.JAM_STAT_JAMMING 4 1).setBand 4 { BandSt.zero with clearN := 9 }
    !(after (.jamEvaluation true 1 19 101) c).flag F.JAM_STAT_JAMMING 4 && (after (.jamEvaluation true 1 19 100) c).flag F.JAM_STAT_JAMMING 4))].all id) = true := by
  decide +kernel

/-- Solutions, corrections, the state of TB0, the pulse, outputs and the antenna bias. -/
theorem test_position_and_time : (
  let b := powered [24, 25, 26, 27, 48] (base 90000000000 [(F.GNSS_CTRL_HOST, 0, 1), (F.GNSS_CTRL_EN, 0, 1), (F.GNSS_HOLD_HOLD_LIM, 0, 500), (F.GNSS_HOLD_HOLD_MAX_S, 0, 3600), (F.TBU_STATUS_TB_VALID, 0, 3), (F.GNSS_PPS_MODE, 0, 1), (F.GNSS_PPS_WIDTH_MS, 0, 10)])
  let st := fun (k : Nat) => b.setFld F.GNSS_STATUS_TIME_STATE 0 k
  let sol : Solution := ⟨0, false, 6, false, false, 0, false, 480000000000, 110000000000, 400000, 0, 0, 0, none, 0, 0, 0, 0, 500, 900, 0, none, none, []⟩
  [((let c := after (.navSolution sol) b
    b.solStatus sol == 1 && ((c.gnss.nav.getD 0 0).extractLsb' 28 4) == 9 && c.gnss.seq == 1 && c.gnss.nav.length == 16)),
   (((after (.navSolution { sol with hpe := 501 }) b).gnss.nav.getD 0 0).getLsbD 31 == false),
   ((after .navSnap { b with gnss := { b.gnss with nav := 7 :: List.replicate 15 8 } }).reg .GNSS_NAV 0 == 7),
   ((after (.rtcmFrame [1, 2]) b).fld F.GNSS_RTCM_CNT_DISCARD 0 == 1),
   ((let m : List Byte := [0x43, 0x50, 0x05, 0, 0, 0, 0, 0]
    let f : List Byte := [0xD3, 0, 8] ++ m
    let crc := crc24 f
    let f := f ++ [crc.extractLsb' 16 8, crc.extractLsb' 8 8, crc.extractLsb' 0 8]
    let known := { b with gnss := { b.gnss with stations := [(5, some [1])] } }
    rtcmMessage f == some m && rtcmBits m 0 12 == 1077 && isMsm 1077 && rtcmBits m 12 12 == 5 &&
    (after (.rtcmFrame f) known).gnss.epoch == [m] && (after (.rtcmFrame f) b).gnss.held.length == 1 && (after (.rtcmFrame f) b).fld F.GNSS_RTCM_CNT_ACCEPT 0 == 1)),
   ((after .correctionEpochClose { b with gnss := { b.gnss with epochAt := some 89800000000, epoch := [[1]] } }).gnss.corrAt == some 89800000000),
   ((let told := fun (t : Nat) => { (st 0) with gnss := { b.gnss with timeAt := some t } }
    let c := after (.timeLock 80000000000 77) (told 80000000000)
    c.fld F.GNSS_STATUS_TIME_STATE 0 == 1 && c.tbu.tb0Jump == some 77 && (after (.timeLock 80000000000 77) (told 80000000001)).fld F.GNSS_STATUS_TIME_STATE 0 == 0)),
   ((let c := after (.holdoverEntry 9) (st 1)
    c.fld F.GNSS_STATUS_TIME_STATE 0 == 2 && c.fld F.GNSS_HOLD_STAT_HOLD_ERR 0 == 9 && c.mod.vc3.map (·.data) == [90])),
   ((after (.holdoverLimit 500) (st 2)).fld F.GNSS_STATUS_TIME_STATE 0 == 2 && (after (.holdoverLimit 501) (st 2)).fld F.GNSS_STATUS_TIME_STATE 0 == 0 && !(after (.holdoverLimit 501) (st 2)).tbValid 0),
   ((let c := (st 2).setReg64 .TB_VALUE_LO .TB_VALUE_HI 0 5000000
    (after (.lockReturn 4000000) c).fld F.GNSS_STATUS_TIME_STATE 0 == 1 && (after (.lockReturn 4000000) c).tbu.tb0Err == 1000000000 && !(after (.lockReturn 3999999) c).tbValid 0 && (after (.lockReturn 3999999) c).tbu.tb0Hold == some 3999999)),
   ((let c := (let c := (st 1).setReg64 .TB_VALUE_LO .TB_VALUE_HI 0 5000000003; { c with tbu := { c.tbu with tb0Was := 4999999993 } })
    (after .ppsSecond { c with gnss := { c.gnss with pps := false, ppsSec := 4 } }).ppsOut && !(after .ppsWidthEnd ({ c with gnss := { c.gnss with ppsSec := 4 } })).ppsOut)),
   ((let c := (let c := (b.setFld F.GNSS_NMEA_SENT 0 1).setReg64 .TB_VALUE_LO .TB_VALUE_HI 0 5000000003; { c with tbu := { c.tbu with tb0Was := 4999999993 } })
    (after .nmeaOutput c).gnss.nmea == 5)),
   ((b.setFld F.GNSS_CTRL_EN 0 0).aonRuns && !(b.setFld F.GNSS_CTRL_EN 0 0).flag F.GNSS_CTRL_EN 0 && (b.setFld F.GNSS_CTRL_EN 0 0).flag F.GNSS_CTRL_HOST 0),
   ((let c := after (.gnssDisable 3) ((st 1).setFld F.CH_STATUS_STATE 7 3)
    !c.flag F.GNSS_CTRL_EN 0 && (c.chan 7).stop && c.fld F.GNSS_STATUS_TIME_STATE 0 == 2)),
   ((after (.antennaBiasFault true 4999) b).flag F.GNSS_STATUS_ANT_B_FLT 0 && !(after (.antennaBiasFault true 5000) b).flag F.GNSS_STATUS_ANT_B_FLT 0),
   ((let c := (st 1).setFld F.GNSS_CTRL_EN 0 0
    let d := { (st 2) with tbu := { b.tbu with tb0Hold := some 5 } }
    c.gnssOn && (after (.holdoverEntry 9) d).tbu.tb0Hold == none && (after (.holdoverLimit 501) d).fld F.GNSS_STATUS_TIME_STATE 0 == 2))].all id) = true := by
  decide +kernel

/-- A reading, a cell, an export, a level and a page. -/
theorem test_yield_map : (
  let b := powered [31] (base 9000000000 [(F.HPC_CTRL_HOST, 0, 1), (F.YLD_CTRL_EN, 0, 1), (F.YLD_STATUS_JOB_STATE, 0, 1), (F.YLD_SRC_MF_CH, 0, 5), (F.YLD_MOIST_M_STD, 0, 1400), (F.YLD_DELAY_DELAY_MS, 0, 1000)])
  [(b.yldRuns && b.yld.readAt.isNone && b.jobState == 1),
   ((after .massFlowRead (b.setReg .AIN_WORD 5 0x80000064)).yld.massQ == [⟨8000000000, 100, false⟩] && (after .massFlowRead (b.setReg .AIN_WORD 5 0x80000064)).yld.pot.dry == 860000 && (after .massFlowRead (b.setFld F.YLD_STATUS_JOB_STATE 0 0)).yld.pot.dry == 0),
   ((let c := { b with yld := { b.yld with cells := [⟨4, 7000000000, 7900000000, 0, 1000, false, 0, 0, 0, false, false⟩] } }
    (c.cellDue.map (·.seq)) == some 4 && (after .cellClose c).yld.cells.isEmpty && (after .cellClose c).yld.tile.map (·.length) == [32])),
   ((let c := after .exportStart (b.setReg .YLD_JOB 0 77)
    c.flag F.YLD_STATUS_EXPORT_BUSY 0 && c.yld.exporting == 77 && (after .exportStart (c.setReg .YLD_JOB 0 78)).yld.exporting == 77)),
   ((let c := (b.setFld F.YLD_ACC_STATE_RAW 0 4)
    let c := { c with yld := { c.yld with since := [(2, some 8900000000)] } }
    (after (.accrualAccept 2) c).fld F.YLD_ACC_STATE_ACCEPTED 0 == 4)),
   ((let c := { b with jrn := { b.jrn with faults := { b.jrn.faults with buf := [[1]], bufAt := some 8000000000 } } }
    (after .journalFlush c).jrn.faults.buf.isEmpty && b.jrn.ledger.bufAt.isNone)),
   (heldValue 0x80000005 9 0 none == (some 5, false, some (5, 9)) && heldValue 5 9 2 (some (3, 7)) == (some 3, true, some (3, 7)) && (heldValue 5 10 2 (some (3, 7))).1 == none && (heldValue 5 10 2 none).1 == none)].all id) = true := by
  decide +kernel

/-- Jobs open, drain and close; an hour, a day, a checkpoint. -/
theorem test_ledger_jobs : (
  let b := powered [31] (base 4000000000000 [(F.HPC_CTRL_HOST, 0, 1), (F.YLD_CTRL_EN, 0, 1), (F.YLD_DELAY_DELAY_MS, 0, 1000), (F.YLD_JOB_JOB_ID, 0, 9)])
  let b := { b with jrn := ⟨.empty 100, .empty 100, .empty 100, .empty 100, .empty 100⟩ }
  let on := fun (k : Nat) => b.setFld F.YLD_STATUS_JOB_STATE 0 k
  [((let c := after .jobOpen b
    c.jobState == 1 && c.yld.job == 9 && c.reg .YLD_SEQ 0 == 1 && c.mod.vc3.map (fun r => (r.cls, r.detail, r.data)) == [(0x13, 4, 9)])),
   ((after .jobOpen (b.setFld F.YLD_DELAY_DELAY_MS 0 0)).flag F.YLD_STATUS_JOB_REFUSED 0 && (after .jobOpen (on 1)).flag F.YLD_STATUS_JOB_REFUSED 0),
   ((let c := after .jobClose (on 1)
    c.jobState == 2 && c.yld.closeAt == 4003000000000)),
   ((let c := after .jobCloseComplete (on 2)
    c.jobState == 0 && c.reg .YLD_SEQ 0 == 4 && c.yld.cells.isEmpty)),
   ((after .hourClose (on 1)).reg .YLD_SEQ 0 == 1 && (after .hourClose (on 1)).yld.hour.open1 == 4000000000000),
   ((after .dayClose (on 1)).reg .YLD_SEQ 0 == 2 && (let c := on 1; (after .dayClose { c with yld := { c.yld with hour := .fresh 400000000001 0 false } }).reg .YLD_SEQ 0 == 1) && (after .checkpoint (on 1)).yld.checkAt == 4000000000000 && (after .checkpoint (on 1)).reg .YLD_SEQ 0 == 0),
   ((let c := { b with jrn := { b.jrn with checks := b.jrn.checks.append 0 5 ((after .checkpoint (on 1)).jrn.checks.all.getD 0 []) } }
    c.jobKept.1.state == 1 && c.ledgerBegin.jobState == 1 && c.ledgerBegin.reg .YLD_SEQ 0 == 3 && c.ledgerBegin.mod.vc3.map (·.detail) == [3, 4])),
   ((let r := b.ledgerRec 2 0 0 1 2 3 4 5 (-6) 7
    (r.jrn.ledger.all.map fun e => (e.length, ledgerSeq e, ledgerJob e, ledgerType e)) == [(64, 0, 0, 2)])),
   ((let p := (b.ledgerRec 2 0 0 1 2 3 4 5 (-6) 7).ledgerRec 2 0 0 1 2 3 4 5 (-6) 7
    let f := { p with jrn := { p.jrn with ledger := { p.jrn.ledger.flush 0 with cap := 1 } } }
    let r := f.ledgerRec 2 0 0 1 2 3 4 5 (-6) 7
    f.ledgerFull && r.yld.held.length == 1 && r.flag F.YLD_STATUS_FULL 0 && r.fld F.YLD_CNT_LOST 0 == 0))].all id) = true := by
  decide +kernel

/-- Training, a link that comes up and goes down, credits, enabling and disabling of a port. -/
theorem test_fabric_links : (
  let b := powered [52] (base 9000000000 [(F.SYS_NODE_NODE, 0, 7)])
  let st := fun (k : Nat) => b.setFld F.PORT_STATUS_STATE 2 k
  [(b.linkRuns 2 && b.fabRuns && b.node == 7),
   ((let c := after (.trainingAttempt 2) (st 1)
    c.portState 2 == 2 && (c.port 2).wire.length == 1)),
   ((let c := after (.trainFlit 2 3 5 0 0 (controlCrc 2 (trainBits 3 5 0 0))) (st 2)
    c.fld F.PORT_STATUS_PARTNER 2 == 5 && c.fld F.PORT_STATUS_PARTNER_PORT 2 == 3 && c.portState 2 == 2 && (c.port 2).trained && !((after (.trainFlit 2 3 5 0 0 0) (st 2)).port 2).trained)),
   ((let c := after (.trainFlit 2 3 7 0 0 (controlCrc 2 (trainBits 3 7 0 0))) (st 2)
    c.portState 2 == 1 && c.mod.vc3.map (fun r => (r.cls, r.detail, r.data)) == [(0x0C, 3, 1081081856)])),
   ((let c := after (.linkUp 2) ((st 2).setPort 2 { PortSt.zero with trained := true })
    c.portState 2 == 3 && (c.port 2).credits == [16, 16, 72, 72, 8, 16] && c.fab.topoDue.isSome)),
   ((let c := after (.linkDown 2 4) (st 3)
    c.portState 2 == 1 && (c.port 2).credits == [0, 0, 0, 0, 0, 0] && c.mod.vc3.map (·.detail) == [1] && (after (.linkDown 2 4) (st 2)).mod.vc3.isEmpty)),
   (((after (.creditFlit 2 [1, 0, 0, 2, 0, 0] (controlCrc 1 (creditBits [1, 0, 0, 2, 0, 0]))) (after (.linkUp 2) ((st 2).setPort 2 { PortSt.zero with trained := true }))).port 2).credits == [17, 16, 72, 74, 8, 16]),
   ((let c := after (.creditSend 2) ((st 3).setPort 2 { PortSt.zero with owed := [8, 0, 0, 0, 0, 0] })
    (c.port 2).owed == [0, 0, 0, 0, 0, 0] && (c.port 2).wire == [.credit [8, 0, 0, 0, 0, 0]])),
   (!((after (.crcEpisodeEnd 2) (b.setPort 2 { PortSt.zero with episode := true, lastErr := 8900000000 })).port 2).episode),
   ((after (.portEnable 2) (b.setFld F.PORT_CTRL_EN 2 0)).portState 2 == 1 && (after (.portDisable 2) ((st 3).setFld F.PORT_CTRL_EN 2 1)).portState 2 == 0)].all id) = true := by
  decide +kernel

/-- What an egress starts: class order, credits, HOPS; a FAULT packet through the port's table. -/
theorem test_packet_forward : (
  let b := powered [50] (base 9000000000 [(F.SYS_NODE_NODE, 0, 7), (F.PORT_STATUS_STATE, 0, 3), (F.FAB_ROUTE_ENTRY, 4, 2 ^ 15), (F.PORT_STATUS_UP_LINK, 0, 1)])
  let b := b.setPort 0 { PortSt.zero with credits := fullCredits }
  let with_ := fun (l : List Packet) => { b with bus := { b.bus with egress := l } }
  [((let c := with_ [pkt 10 3 4 0 [0], pkt 1 0 4 0x10000000 []]
    c.fabRuns && c.portUp 0 && ((c.nextStart 0).map fun r => r.pkt.type) == some 1 && c.bus.egress.all (fun k => c.stuck k == .no) &&
    (let p := { pkt 1 0 4 0x10000000 [] with hops := 1 }; ((after (.packetForward 0 none) c).port 0).wire == [.packet p (payloadCrc p) (headerCrc p (payloadCrc p))]) && ((after (.packetForward 0 none) c).port 0).credits.getD (classOf (pkt 1 0 4 0 [])).idx 0 == 15)),
   ((let r : FaultRec := ⟨0, 4, 9, 1, 3, 1, 0⟩
    let c := with_ [pkt 6 3 4 0 [r.bits]]
    recOf r.bits == r && (((after (.packetForward 0 none) c).port 0).coal.map (·.first)) == [r] && ((after (.packetForward 0 none) c).port 0).wire.length == 1)),
   ((let c := after (.packetForward 1 (some (0, pkt 1 0 4 0 [], ~~~headerCrc (pkt 1 0 4 0 []) 0, 0))) b
    c.fld F.PORT_ERR_HCRC 0 == 1 && (c.port 0).rx.isEmpty))].all id) = true := by
  decide +kernel

/-- Requests of other nodes, responses, waiting requests, overdue ones and transfers. -/
theorem test_fabric_requests : (
  let b := powered [50] (opened [32] (base 9000000000 [(F.SYS_NODE_NODE, 0, 7), (F.PORT_STATUS_STATE, 0, 3)]))
  let known := b.setReg .ACC_TMAP 0 (BitVec.ofNat 32 (2 ^ 31 + 5 * 2 ^ 22 + 9 * 2 ^ 12 + 600))
  [(known.tenant 0 5 9 == some 600 && b.tenant 0 5 9 == none && lenOk (pkt 1 0 7 0x10000000 []) && lenOk (pkt 3 0 7 0x10000000 [8])),
   ((let c := after (.rdReq 0 (pkt 1 0 7 0x10000000 []) (~~~payloadCrc (pkt 1 0 7 0x10000000 [])) 0) known
    c.bus.egress.map (fun k => (k.type, k.status, k.dest)) == [(2, 4, 5)] && c.fld F.PORT_ERR2_PCRC 0 == 1)),
   ((after (.rdReq 0 (pkt 1 0 7 0x10000000 []) (payloadCrc (pkt 1 0 7 0x10000000 [])) 0) { known with regs := known.regs }).bus.waiting.length == (if known.domainOk 0x10000000 && 768 ≤ 600 then 1 else 0)),
   ((let t := b.setReg .ACC_TMAP 0 (BitVec.ofNat 32 (2 ^ 31 + 5 * 2 ^ 22 + 9 * 2 ^ 12 + 800))
    let c := after (.wrReq 0 (pkt 3 0 7 0x10000000 [8]) (payloadCrc (pkt 3 0 7 0x10000000 [8])) 2) t
    t.lateCheck 800 .write 0x10000000 32 == none && c.bus.waiting.map (fun a => (a.mid, a.addr, a.data, a.edge)) == [(800, 0x10000000, 8, 2)])),
   ((let c := after (.wrReq 0 (pkt 3 0 7 0x10000000 [8]) (payloadCrc (pkt 3 0 7 0x10000000 [8])) 2) b
    c.bus.waiting.isEmpty && c.bus.egress.map (fun k => (k.type, k.status)) == [(4, 1)])),
   ((let c := { b with fab := { b.fab with outst := [⟨.master 6, 9, 5, 3, .read, 0, 0, 0⟩] } }
    let d := after (.rdRsp 0 (pkt 2 0 7 0 [77]) (payloadCrc (pkt 2 0 7 0 [77]))) c
    d.fab.outst.isEmpty && d.bus.results == [⟨.master 6, .read, .ok, 77⟩] && (after (.rdRsp 0 (pkt 2 0 7 0 [77]) (~~~payloadCrc (pkt 2 0 7 0 [77]))) c).bus.results == [⟨.master 6, .read, .nak 4, 0⟩])),
   ((after (.wrRsp 0 (pkt 4 0 7 0 []) (payloadCrc (pkt 4 0 7 0 []))) b).fld F.PORT_NAK_LATE 0 == 1),
   ((let c := { b with bus := { b.bus with remote := [⟨.master 6, 9, .write, 4, 0x10, 32, 5⟩] } }
    let d := after (.remoteRequestSend none) c
    b.freeTag 9 == some 0 && d.bus.remote.isEmpty && d.fab.outst.map (fun o => (o.mid, o.dest, o.tag)) == [(9, 4, 0)] && d.bus.egress.map (fun k => (k.type, k.dest, k.payload)) == [(3, 4, [5])])),
   ((let c := { b with fab := { b.fab with outst := [⟨.master 6, 9, 5, 3, .read, 0, 0, 0⟩] } }
    (after (.responseTimeout 9 3) c).bus.results == [⟨.master 6, .read, .nak 5, 0⟩])),
   ((let c := after (.transferStart 1 true) (b.setFld F.XD_CFG_LEN 1 40)
    c.flag F.XD_STATUS_BUSY 1 && SMap.get c.fab.xfers 1 none == some ⟨40, 0, 0, 0⟩ && (after (.transferStart 1 true) c).fld F.XD_STATUS_OVR 1 == 1 &&
    (SMap.get (after (.remoteRequestSend (some 1)) (c.setReg .XD_SRC_LO 1 0x10000000)).fab.xfers 1 none).map (fun t => (t.left, t.sent)) == some (8, 32))),
   ((after (.transferStart 1 false) { b with tbu := { b.tbu with trig := [⟨0, 5, 1, [], 0⟩] } }).flag F.XD_STATUS_BUSY 1),
   ((let c := { b.setFld F.XD_STATUS_BUSY 1 1 with fab := { b.fab with xfers := [(1, some ⟨0, 40, 0, 3⟩)] } }
    let d := after (.transferDone 1) c
    d.flag F.XD_STATUS_DONE 1 && d.flag F.XD_STATUS_ERR 1 && d.fld F.XD_STATUS_LAST_STATUS 1 == 3 && !d.flag F.XD_STATUS_BUSY 1))].all id) = true := by
  decide +kernel

/-- Streams, fault records, contributions and windows. -/
theorem test_streams_and_coalescing : (
  let b := powered [50] (opened [32] (base 9000000000 [(F.SYS_NODE_NODE, 0, 7), (F.PORT_STATUS_STATE, 0, 3), (F.SRX_CFG_EN, 3, 1), (F.SRX_CFG_STREAM, 3, 0x44)]))
  let b := b.setReg .SRX_ADDR_LO 3 0x10000000
  let r : FaultRec := ⟨0, 4, 9, 1, 3, 1, 0⟩
  [((let c := after (.streamPacket 0 (pkt 5 1 7 0x44 [9]) (payloadCrc (pkt 5 1 7 0x44 [9]))) b
    c.bus.waiting.map (fun a => (a.mid, a.addr, a.data)) == [(540, 0x10000000, 9)] && c.fld F.SRX_CNT_RECV 3 == 1)),
   ((after (.streamPacket 0 (pkt 5 1 7 0x45 [9]) (payloadCrc (pkt 5 1 7 0x45 [9]))) b).fld F.FAB_SRX_MISS_MISS 0 == 1 && (after (.streamPacket 0 (pkt 5 1 7 0x44 [9, 8]) (payloadCrc (pkt 5 1 7 0x44 [9, 8]))) b).fld F.FAB_SRX_MISS_MISS 0 == 1 && (after (.streamPacket 0 (pkt 5 1 7 0x44 [9]) (~~~payloadCrc (pkt 5 1 7 0x44 [9]))) b).fld F.PORT_ERR2_DISCARD 0 == 1),
   ((after (.streamPacket 0 (pkt 5 1 7 0x44 [9, 8]) (payloadCrc (pkt 5 1 7 0x44 [9, 8]))) (b.setFld F.SRX_CFG_LEN_M1 3 1)).bus.waiting.map (fun a => (a.addr, a.data)) == [(0x10000010, 8), (0x10000000, 9)]),
   ((after (.faultPacket 0 (pkt 6 3 7 0 [r.bits]) (payloadCrc (pkt 6 3 7 0 [r.bits]))) b).mod.vc3 == [r]),
   ((after (.faultPacket 0 (pkt 6 3 7 0 [r.bits]) (payloadCrc (pkt 6 3 7 0 [r.bits]))) { b with mod := { b.mod with vc3 := List.replicate 64 r } }).fld F.FAB_FLTQ_DROPPED 0 == 1),
   ((after (.faultPacket 0 (pkt 6 3 7 0 [r.bits]) (payloadCrc (pkt 6 3 7 0 [r.bits]))) { b with fab := { b.fab with holds := true } }).fab.coal.map (·.first) == [r]),
   ((let c := ((((b.setFld F.CAL_REMOTE_EN 24 1).setFld F.CAL_REMOTE_NODE 24 5).setFld F.CAL_REMOTE_PL 24 2).setFld F.FUS_CTRL_GRID 0 1).setFld F.FUS_SENS_EN_EN 0 (2 ^ 24)
    let cell : BitVec 128 := BitVec.ofNat 128 (3 * 2 ^ 119 + 4 * 2 ^ 110 + 6 * 2 ^ 104 + 1 * 2 ^ 100 + 0xFF05)
    let d := after (.contribPacket 0 (pkt 12 2 7 2 [0, cell]) (payloadCrc (pkt 12 2 7 2 [0, cell]))) c
    d.fus.obs.map (fun o => (o.sensor, o.spot, o.vals)) == [(24, .cell 3 4, [(6, 5), (7, -1)])])),
   ((let w : Window := ⟨r, 8000000000, 3, 77⟩
    let c := b.setPort 0 { PortSt.zero with coal := [w] }
    w.summary == some { r with count := 4, time := 77 } && ((after (.coalesceWindowEnd 0) c).port 0).coal.isEmpty && ((after (.coalesceWindowEnd 0) c).port 0).own.length == 1 && (after (.coalesceWindowEnd 8) { b with fab := { b.fab with coal := [w] } }).fab.coal.isEmpty)),
   (coalesce 5 [⟨r, 0, 0, 0⟩] r == ([⟨r, 0, 1, 0⟩], none, false) && coalesce 1000000 [⟨r, 0, 0, 0⟩] r == ([⟨r, 0, 0, 0⟩, ⟨r, 1000000, 0, 0⟩], some r, false) && (coalesce 5 [] { r with count := 4 }).2 == (some { r with count := 4 }, false)),
   ((let full := (List.range 64).map fun k => (⟨{ r with node := BitVec.ofNat 9 (k + 100) }, 0, 0, 0⟩ : Window)
    (coalesce 5 full r).2 == (some { r with count := 0 }, true)))].all id) = true := by
  decide +kernel

/-- Beacons, the best conductor, its loss, the election and the routes. -/
theorem test_fabric_beacons : (
  let b := powered [50] (base 9000000000 [(F.SYS_NODE_NODE, 0, 7), (F.PORT_STATUS_STATE, 0, 3), (F.PORT_STATUS_PARTNER, 0, 5), (F.PORT_STATUS_PARTNER_PORT, 0, 2)])
  let beacon := fun (best prio seq links : Nat) => BitVec.ofNat 128 (5 * 2 ^ 119 + 2 * 2 ^ 116 + best * 2 ^ 97 + prio * 2 ^ 93 + seq * 2 ^ 61 + links * 2 ^ 57)
  let known := after (.beaconPacket 0 (pkt 7 3 7 0 [beacon 3 4 100 2]) (payloadCrc (pkt 7 3 7 0 [beacon 3 4 100 2]))) b
  let holder := { b with fab := { b.fab with holds := true, live := 9 } }.updateBest
  [(b.fabRuns && b.portUp 0 && lenOk (pkt 7 3 7 0 [beacon 3 4 100 2])),
   (known.fld F.FAB_STATUS_CONDUCTOR 0 == 3 && known.flag F.FAB_STATUS_COND_V 0 && known.flag F.PORT_STATUS_PARENT 0 && known.flag F.PORT_STATUS_UP_LINK 0 && known.fab.topoDue.isSome && known.best == some ⟨3, 4, 100, 3, some 0⟩),
   ((let c := after (.beaconPacket 0 (pkt 7 3 7 0 [beacon 3 4 100 2]) (payloadCrc (pkt 7 3 7 0 [beacon 3 4 100 2]))) (holder.setFld F.FAB_CFG_COND_PRIO 0 4)
    c.fld F.FAB_STATUS_CONDUCTOR 0 == 3 && !c.fab.holds)),
   ((let c := after (.beaconPacket 0 (pkt 7 3 7 0 [beacon 8 4 100 2]) (payloadCrc (pkt 7 3 7 0 [beacon 8 4 100 2]))) (holder.setFld F.FAB_CFG_COND_PRIO 0 4)
    c.fld F.FAB_STATUS_CONDUCTOR 0 == 7 && c.fab.holds && !c.flag F.PORT_STATUS_PARENT 0)),
   ((let c := after (.beaconSend 0) holder
    (c.port 0).own.map (fun k => (k.type, k.dest, k.payload)) == [(7, 5, [BitVec.ofNat 128 (7 * 2 ^ 119 + 7 * 2 ^ 97 + 10 * 2 ^ 61)])] && c.fab.live == 10)),
   (((after (.beaconSend 0) known).port 0).own.map (·.payload) == [[BitVec.ofNat 128 (7 * 2 ^ 119 + 5 * 2 ^ 107 + 2 ^ 106 + 3 * 2 ^ 97 + 4 * 2 ^ 93 + 100 * 2 ^ 61 + 3 * 2 ^ 57)]]),
   ((let c := after .conductorLost { known with fab := { known.fab with seqAt := 8900000000 } }
    c.fab.lost == [(3, 100)] && !c.flag F.FAB_STATUS_COND_V 0)),
   ((let c := after .roleElection { b.setFld F.FAB_CFG_CAND 0 1 with fab := { b.fab with candAt := some 8900000000 } }
    c.flag F.FAB_TIME_FT_V 0 && c.ft == 9000000000 && c.fab.holds && c.fld F.FAB_STATUS_CONDUCTOR 0 == 7)),
   ((let v := BitVec.ofNat 128 (9 * 2 ^ 119 + (4096 + 7 * 8 + 1) * 2 ^ 106)
    let c := after (.topoPacket 0 (pkt 8 3 7 0 [v]) (payloadCrc (pkt 8 3 7 0 [v]))) b
    SMap.get c.fab.topo 9 none == some v && c.fab.routeDue)),
   ((let c := after .topoSend known
    c.fab.topoDue.isNone && c.bus.egress.map (fun k => (k.type, k.dest, k.payload)) == [(8, 3, [BitVec.ofNat 128 (7 * 2 ^ 119 + (4096 + 5 * 8 + 2) * 2 ^ 106)])])),
   (SMap.get (after .topoSend holder).fab.topo 7 none == some (BitVec.ofNat 128 (7 * 2 ^ 119 + (4096 + 5 * 8 + 2) * 2 ^ 106))),
   ((let c := after (.routePacket 0 (pkt 9 3 7 (1 * 2 ^ 16 + 77) [0, 0x9100]) (payloadCrc (pkt 9 3 7 (1 * 2 ^ 16 + 77) [0, 0x9100]))) b
    c.routeEntry 72 == 0x9100 && c.fld F.FAB_STATUS_EPOCH 0 == 77))].all id) = true := by
  decide +kernel

/-- Routes of a fabric of two nodes; a link is an up link from one end only. -/
theorem test_route_compute : (
  let b := powered [50] (base 9000000000 [(F.SYS_NODE_NODE, 0, 7), (F.PORT_STATUS_STATE, 0, 3), (F.PORT_STATUS_PARTNER, 0, 5), (F.PORT_STATUS_PARTNER_PORT, 0, 2)])
  let holder := { b with fab := { b.fab with holds := true, live := 9, routeDue := true } }
  [(holder.fabRuns && holder.fab.holds && holder.fab.routeDue),
   ((let l := linksIn (holder.setTopo 7 holder.topoBits).fab.topo
    l == [⟨7, 0, 5, 2⟩, ⟨5, 2, 7, 0⟩] && depths l 7 == [(7, 0), (5, 1)] && routeOf l (depths l 7) 7 5 == 0x8100 && routeOf l (depths l 7) 5 7 == 0xA100 && routeOf l (depths l 7) 7 7 == 0x8080)),
   (Link.up [(7, 0), (5, 1)] ⟨5, 2, 7, 0⟩ && !Link.up [(7, 0), (5, 1)] ⟨7, 0, 5, 2⟩)].all id) = true := by
  decide +kernel

/-- SYNC, delay measurement and TB0 pairs. -/
theorem test_fabric_time : (
  let b := powered [50] (base 9000000000 [(F.SYS_NODE_NODE, 0, 7), (F.PORT_STATUS_STATE, 0, 3), (F.PORT_STATUS_PARTNER, 0, 5), (F.PORT_STATUS_PARENT, 0, 1), (F.PORT_DELAY_DELAY, 0, 50)])
  let time := fun (kind hi lo : Nat) => pkt 10 3 7 kind [BitVec.ofNat 128 (hi * 2 ^ 64 + lo)]
  let timed := fun (ft : Nat) => (b.setReg64 .FAB_FT_LO .FAB_FT_HI 0 ft).setFld F.FAB_TIME_FT_V 0 1
  [((let c := after (.timeSync 0 (time 0 20000 0) (payloadCrc (time 0 20000 0))) b
    c.ft == 20050 && c.flag F.FAB_TIME_FT_V 0)),
   ((let c := after (.timeSync 0 (time 0 20000 0) (payloadCrc (time 0 20000 0))) (timed 20060)
    c.ft == 20060 && c.fab.ftErr == 10000 && c.fld F.FAB_TIME_FT_ERR 0 == 10)),
   ((let c := after (.timeSync 0 (time 0 20000 0) (payloadCrc (time 0 20000 0))) (timed 10049)
    c.ft == 20050 && c.fab.ftErr == 0 && c.fld F.FAB_TIME_FT_ERR 0 == 10001)),
   ((let c := after (.timeSync 0 (time 0 20000 0) (payloadCrc (time 0 20000 0))) (timed 10050)
    c.ft == 10050 && c.fab.ftErr == -10000000)),
   (((after (.delayReq 0 (time 1 0 0) (payloadCrc (time 1 0 0)) 11 22) b).port 0).own.map (fun k => (k.addr, k.payload)) == [(2, [BitVec.ofNat 128 (11 * 2 ^ 64 + 22)])]),
   ((let c := after (.delayRsp 0 (time 2 1000 1040) (payloadCrc (time 2 1000 1040)) 1200) (b.setPort 0 { PortSt.zero with delayT1 := some 900 })
    c.fld F.PORT_DELAY_DELAY 0 == 130 && (c.port 0).delayT1.isNone)),
   ((let c := after (.delayMeasure 4321) b
    (c.port 0).delayT1 == some 4321 && (c.port 0).own.map (fun k => (k.type, k.addr)) == [(10, 1)])),
   ((let h := { (timed 5000).setFld F.PORT_STATUS_PARENT 0 0 with fab := { b.fab with holds := true } }
    let h := h.setPort 0 { PortSt.zero with heard := some ⟨5, 2, some 7, 7, 0, 1, 1, 0⟩ }
    let c := after .syncSend h
    h.childPorts == [0] && (c.port 0).own.map (fun k => (k.type, k.addr, k.payload)) == [(10, 0, [0])])),
   ((let v := ((timed 5000).setReg64 .TB_VALUE_LO .TB_VALUE_HI 0 8000).setFld F.TBU_STATUS_TB_VALID 0 1
    let c := after (.tb0Pair 0 (time 3 7000 4000) (payloadCrc (time 3 7000 4000))) v
    v.tbValid 0 && c.tbu.tb0Err == 0 && c.fab.pairAt == some 9000000000 && (after (.tb0Pair 0 (time 3 7500 4000) (payloadCrc (time 3 7500 4000))) v).tbu.tb0Err == -500000)),
   (!(after (.tb0Pair 0 (time 3 (8000 + 1000001 - 1000) 4000) (payloadCrc (time 3 (8000 + 1000001 - 1000) 4000))) (((timed 5000).setReg64 .TB_VALUE_LO .TB_VALUE_HI 0 8000).setFld F.TBU_STATUS_TB_VALID 0 1)).tbValid 0),
   ((let h := (((((timed 5000).setReg64 .TB_VALUE_LO .TB_VALUE_HI 0 8000).setFld F.TBU_STATUS_TB_VALID 0 1).setFld F.GNSS_CTRL_HOST 0 1).setFld F.FAB_ROUTE_ENTRY 5 0x8100).setFld F.FAB_ROUTE_ENTRY 7 0x8080
    (after .tb0PairSend h).bus.egress.map (fun k => (k.dest, k.addr, k.payload)) == [(5, 3, [BitVec.ofNat 128 (8000 * 2 ^ 64 + 5000)])])),
   ((let h := { b.setFld F.TBU_STATUS_TB_VALID 0 1 with fab := { b.fab with pairAt := some 8900000000 } }
    let c := after .tb0PairTimeout h
    h.tbValid 0 && !c.tbValid 0 && c.fab.pairAt.isNone))].all id) = true := by
  decide +kernel

/-- Requests for the role, their answers, collisions and times. -/
theorem test_conductor_roles : (
  let b := powered [50] (base 9000000000 [(F.SYS_NODE_NODE, 0, 7), (F.PORT_STATUS_STATE, 0, 3), (F.PORT_STATUS_PARTNER, 0, 5)])
  let role := fun (kind peer reason : Nat) => pkt 11 3 7 kind [BitVec.ofNat 128 (peer * 2 ^ 119 + reason * 2 ^ 116)]
  let asks := fun (kind peer : Nat) => { b.setFld F.FAB_ROLE_PEND 0 1 with fab := { b.fab with role := some ⟨kind, peer, 8900000000⟩ } }
  let sent := fun (b : Blk) => b.bus.egress.map fun k => (k.type, k.dest, k.addr, k.payload.map (fun v => v.toNat / 2 ^ 116))
  [((let c := after (.roleTake 0 (role 0 9 0) (payloadCrc (role 0 9 0))) { b with fab := { b.fab with holds := true } }
    !c.fab.holds && c.fab.granted && sent c == [(11, 9, 2, [7 * 8])])),
   (sent (after (.roleTake 0 (role 0 9 0) (payloadCrc (role 0 9 0))) b) == [(11, 9, 3, [7 * 8 + 2])]),
   (sent (after (.roleGive 0 (role 1 9 0) (payloadCrc (role 1 9 0))) b) == [(11, 9, 3, [7 * 8 + 3])]),
   ((let c := after (.roleGive 0 (role 1 9 0) (payloadCrc (role 1 9 0))) (b.setFld F.FAB_CFG_CAND 0 1)
    sent c == [(11, 9, 2, [7 * 8])] && c.fab.holds && c.fab.routeDue)),
   ((let c := after (.roleTake 0 (role 0 9 0) (payloadCrc (role 0 9 0))) (asks 1 9)
    sent c == [(11, 9, 3, [7 * 8 + 1])] && c.flag F.FAB_ROLE_COLLIDED 0 && c.mod.vc3.map (fun r => (r.cls, r.detail, r.data)) == [(0x14, 1, 77856768)])),
   ((after (.roleGive 0 (role 1 9 0) (payloadCrc (role 1 9 0))) (asks 0 9)).mod.vc3.map (·.data) == [76283904]),
   ((let c := after (.roleTake 0 (role 0 5 0) (payloadCrc (role 0 5 0))) (asks 0 5)
    SMap.get c.fab.holdoff 5 0 == 9500000000 && c.flag F.FAB_ROLE_COLLIDED 0 && sent c == [(11, 5, 3, [7 * 8 + 2])])),
   ((let c := after (.roleGrant 0 (role 2 9 0) (payloadCrc (role 2 9 0))) (asks 0 9)
    c.fab.role.isNone && c.flag F.FAB_ROLE_GRANTED 0 && c.fab.holds)),
   ((let c := after (.roleRefuse 0 (role 3 9 0) (payloadCrc (role 3 9 0))) (asks 0 9)
    c.fab.role.isNone && c.flag F.FAB_ROLE_REFUSED 0 && !c.fab.holds && !c.flag F.FAB_ROLE_PEND 0)),
   ((let c := after .giveTimeout (asks 1 9)
    c.fab.role.isNone && c.flag F.FAB_ROLE_REFUSED 0 && c.fab.holds)),
   (SMap.get (after (.roleHoldoffEnd 5) { b with fab := { b.fab with holdoff := [(5, 9000000000)] } }).fab.holdoff 5 0 == 0),
   ((let v : Word := BitVec.ofNat 32 (F.FAB_ROLE_PEER.put 0 9).toNat
    let v := F.FAB_ROLE_REQ.put v 1
    let c := after (.roleRequest v) b
    c.fld F.FAB_ROLE_PEER 0 == 9 && c.flag F.FAB_ROLE_PEND 0 && sent c == [(11, 9, 0, [7 * 8])]))].all id) = true := by
  decide +kernel

/-- Answers to echo requests and solicitations, tagged frames, links that come and go. -/
theorem test_ethernet : (
  let b := powered [60] (base 9000000000 [(F.ETH_CTRL_EN, 2, 1), (F.ETH_STATUS_LINK, 2, 1)])
  let b := (b.setReg .BOOT_MAC_LO 0 0x33445566).setReg .BOOT_MAC_HI 0 0x00000211
  let ip : BitVec 128 := 0xFE80000000000000001133FFFE445568
  [(b.ethRuns && b.flag F.ETH_CTRL_EN 2 && b.flag F.ETH_STATUS_LINK 2),
   (b.ownIps 2 == [ip] && solicitedNode ip == 0xFF0200000000000000000001FF445568),
   ((let c := { b with regs := b.regs }
    c.ethUp 2 && (after (.ethFrame 2 (.udp 77 ip 5 9 [1])) c).net == c.net && (after (.ethFrame 2 .other) c).net == c.net)),
   ((after (.ethFrame 2 .tagged) b).fld F.ETH_CNT_RX_DROP 2 == 1),
   (SMap.get (after (.ethFrame 2 (.echo 77 ip [1, 2])) b).net.wire 2 [] == [.echo 77 [1, 2]] && (after (.ethFrame 2 (.echo 77 (ip + 1) [1, 2])) b).net == b.net),
   (SMap.get (after (.ethFrame 2 (.echo 77 allNodes [1, 2])) b).net.wire 2 [] == [.echo 77 [1, 2]]),
   (SMap.get (after (.ethFrame 2 (.solicit 77 (solicitedNode ip) ip)) b).net.wire 2 [] == [.advert 77 ip]),
   ((let c := b.setFld F.ETH_STATUS_LINK 2 0
    let c := { c with net := { c.net with ethQ := [(2, [.echo 77 [1]])] } }
    let up := after (.ethLinkChange 2 true) c
    let off := after (.ethDisable 2) c
    up.flag F.ETH_STATUS_LINK 2 && SMap.get up.net.wire 2 [] == [.echo 77 [1]] && (SMap.get up.net.ethQ 2 []).isEmpty &&
    off.fld F.ETH_CNT_TX_DROP 2 == 1 && !off.flag F.ETH_CTRL_EN 2 && (SMap.get off.net.wire 2 []).isEmpty)),
   (!(after (.ethLinkChange 2 false) b).flag F.ETH_STATUS_LINK 2)].all id) = true := by
  decide +kernel

/-- Filters, rings, bus-off and what switching off does. -/
theorem test_can_controllers : (
  let b := powered [61] (base 9000000000 [(F.CAN_CTRL_EN, 3, 1), (F.CAN_STATUS_BUS, 3, 1), (F.CAN_CFG_RING_LOG2, 3, 4)])
  let b := ((((b.setReg .CAN_FILT_EN 3 2).setReg .CAN_FILT_ID 97 0x123).setReg .CAN_FILT_MASK 97 0x7FF).setReg .CAN_TXR_LO 3 0x10001000).setReg .CAN_RXR_LO 3 0x10002000
  let f : CanFrame := ⟨false, false, false, 0x123, 3, [7, 8, 9]⟩
  let off := b.setFld F.CAN_STATUS_BUS 3 3
  [(b.canRuns 3 && b.canAccepts 3 f && !b.canAccepts 3 { f with id := 0x124 } && b.ringN 3 == 16 && !b.stackOn 2),
   ((let c := after (.canFrameReceive 3 f false 0 0) b
    (List.range 80).map (fun j => (c.byte (0x10002000 + j)).toNat) == [0x23, 1, 0, 0, 3, 0, 0, 0, 0, 0x1A, 0x71, 0x18, 2, 0, 0, 0, 7, 8, 9] ++ List.replicate 61 0 && (c.can 3).rx == 1)),
   ((after (.canFrameReceive 3 f true 0 0) b).fld F.CAN_STATUS_RX_OVR 3 == 1 && (after (.canFrameReceive 3 { f with id := 0x124 } false 0 0) b).net == b.net),
   ((let c := words 0x10001000 [(0, 0x20000000 + 0x12345), (4, 2), (16, 0xBBAA)] b
    let d := after (.canTransmit 3 false 0 0) c
    (d.can 3).wire == [⟨false, false, true, 0x12345, 2, [0xAA, 0xBB]⟩] && (d.can 3).tx == 1)),
   ((let c := b.setCan 3 { CanSt.zero with own := [f] }
    let d := after (.canTransmit 3 true 0 0) c
    (d.can 3).wire == [f] && (d.can 3).own.isEmpty && (d.can 3).tx == 0)),
   ((after (.busOff 3) b).fld F.CAN_STATUS_BUS 3 == 3 && (after (.canRestart 3) off).fld F.CAN_STATUS_BUS 3 == 1 && (after (.busOffRecovery 3) (off.setFld F.CAN_CTRL_AUTO_REC 3 1)).fld F.CAN_STATUS_BUS 3 == 1 &&
    (after (.busOffRecovery 3) (off.setFld F.CAN_CTRL_AUTO_REC 3 0)).fld F.CAN_STATUS_BUS 3 == 3),
   ((let c := after (.canDisable 3 none) b
    !c.flag F.CAN_CTRL_EN 3 && c.fld F.CAN_STATUS_BUS 3 == 0 && ((after (.canDisable 3 (some true)) (b.setCan 3 { CanSt.zero with own := [f] })).can 3).wire == [f]))].all id) = true := by
  decide +kernel

/-- Address claim, transport, process data, engine requests and values. -/
theorem test_isobus_and_j1939 : (
  let b := powered [61] (base 9000000000 [(F.CAN_CTRL_EN, 1, 1), (F.CAN_STATUS_BUS, 1, 1), (F.CAN_CTRL_EN, 2, 1), (F.CAN_STATUS_BUS, 2, 1), (F.ISO_CFG_ISO_EN, 0, 1), (F.J1939_CFG_J1939_EN, 0, 1), (F.J1939_CFG_ENG_ADDR, 0, 0)])
  let b := (b.setReg .ISO_NAME_LO 0 0x1000).setReg .FN_TARGET 30 0x55
  let b := b.setCan 1 { CanSt.zero with addr := 0x80 } |>.setCan 2 { CanSt.zero with addr := 0x81 }
  let claim : CanFrame := ⟨false, false, true, 0x18EEFF80, 8, [0, 0x10, 0, 0, 0, 0, 0, 0]⟩
  [(b.canRuns 1 && b.stackOn 1 && b.canRuns 2 && b.stackOn 2 && b.isoName == 0x1000),
   (((after (.isobusMessage 1 ⟨false, false, true, 0x18EAFF21, 3, [0, 0xEE, 0]⟩) b).can 1).own == [claim]),
   ((let c := after (.isobusMessage 1 ⟨false, false, true, 0x18EEFF80, 8, [1, 0x10, 0, 0, 0, 0, 0, 0]⟩) b
    (c.can 1).own == [claim] && (c.can 1).addr == 0x80)),
   ((let c := after (.isobusMessage 1 ⟨false, false, true, 0x18EEFF80, 8, [0xFF, 0xF, 0, 0, 0, 0, 0, 0]⟩) b
    (c.can 1).own.map (·.id) == [0x18EEFFFE] && (c.can 1).addr == 254)),
   ((let c := after (.isobusMessage 1 ⟨false, false, true, 0x18EC8021, 8, [16, 9, 0, 2, 255, 0, 0xCB, 0]⟩) b
    let c := after (.isobusMessage 1 ⟨false, false, true, 0x18EB8021, 8, [1, 9, 2, 3, 4, 5, 6, 7]⟩) c
    let c := after (.isobusMessage 1 ⟨false, false, true, 0x18EB8021, 8, [2, 8, 9, 255, 255, 255, 255, 255]⟩) c
    (c.can 1).last.map (fun t => (t.data, t.pgn)) == some ([9, 2, 3, 4, 5, 6, 7, 8, 9], 0xCB00) && (c.can 1).own.map (fun f => (f.id, f.data)) ==
    [(0x1CEC2180, [17, 2, 1, 255, 255, 0, 0xCB, 0]), (0x1CEC2180, [19, 9, 0, 2, 255, 0, 0xCB, 0])])),
   (((after (.isobusMessage 1 ⟨false, false, true, 0x0CCB8021, 8, [0x23, 1, 5, 0, 1, 0, 0, 0]⟩) b).can 1).own.map (fun f => (f.id, f.data)) == [(0x0CCB2180, [0x2D, 1, 5, 0, 255, 255, 255, 255])]),
   (((after .engineRequestSend b).can 2).own == [⟨false, false, true, 0x18EF0081, 8, [0x55, 255, 255, 255, 255, 255, 255, 255]⟩]),
   ((let c := after (.canFrameReceive 2 ⟨false, false, true, 0x0CF00400, 8, [0, 0, 0, 0x34, 0x12, 0, 0, 0]⟩ false 0 0) b
    SMap.get c.net.pgn 0 none == some (0x1234, 9000000000) && SMap.get (after (.pgnTimeout 0) { c with net := { c.net with pgn := [(0, some (0x1234, 8500000000))] } }).net.pgn 0 none == none))].all id) = true := by
  decide +kernel

/-- Fleet datagrams, checks, pairing and its end. -/
theorem test_fleet_roles : (
  let b := powered [60] (base 9000000000 [(F.HPC_CTRL_HOST, 0, 1), (F.FLEET_CTRL_EN, 0, 1), (F.FLEET_CFG_ETH, 0, 2), (F.FLEET_CFG_LEAD_OK, 0, 0), (F.ETH_CTRL_EN, 2, 1), (F.ETH_STATUS_LINK, 2, 1)])
  let b := (b.setReg .FLEET_ID 0 50).setReg .FLEET_PEER 0 60
  let gram := fun (type from_ : Nat) (pay : List Byte) => (fun (l : List Byte) => l ++ leBytes 4 (crc32 l).toNat) (leBytes 4 (1 + type * 256 + pay.length * 65536) ++ leBytes 4 from_ ++ leBytes 4 50 ++ leBytes 4 1 ++ pay)
  let role := fun (kind from_ reason : Nat) => gram 2 from_ (leBytes 4 (kind + 16 * reason) ++ leBytes 4 0)
  let asks := fun (kind peer : Nat) => { b.setFld F.FLEET_ROLE_PEND 0 1 with net := { b.net with role := some ⟨kind, peer, 8000000000⟩ } }
  let sent := fun (b : Blk) => (SMap.get b.net.wire 2 []).map fun o => match o with | .udp d => (d.payload.take 2 ++ (d.payload.drop 16).take 1).map (fun (x : Byte) => x.toNat) | _ => ([] : List Nat)
  [(b.fleetRuns && b.fleetOk (role 0 60 0) && !b.fleetOk (role 0 50 0)),
   ((after (.fleetTake (role 0 50 0)) b).fld F.FLEET_CNT_DISCARD 0 == 1),
   (sent (after (.fleetTake (role 0 60 0)) b) == [[1, 2, 0x33]]),
   ((let c := after (.fleetTake (role 0 60 0)) (b.setFld F.FLEET_CFG_LEAD_OK 0 1)
    sent c == [[1, 2, 2]] && c.fld F.FLEET_ROLE_ROLE 0 == 2 && c.net.peer == some 60)),
   ((after (.fleetGive (role 1 60 0)) (b.setFld F.FLEET_CFG_LEAD_OK 0 1)).fld F.FLEET_ROLE_ROLE 0 == 1),
   ((let c := after (.fleetTake (role 0 60 0)) (asks 1 60)
    sent c == [[1, 2, 0x13]] && c.flag F.FLEET_ROLE_COLLIDED 0 && c.net.peer.isNone && c.mod.vc3.map (fun r => (r.source, r.cls, r.detail, r.data)) == [(596, 0x14, 2, 1207959612)])),
   ((let off := { b with net := { b.net with holdoff := [(60, 9500000000)] } }
    (after (.fleetTake (role 0 60 0)) off).net == off.net)),
   ((let c := after (.fleetGive (role 1 40 0)) (asks 1 40)
    SMap.get c.net.holdoff 40 0 == 9500000000 && sent c == [[1, 2, 0x33]])),
   ((let c := after (.fleetGrant (role 2 60 0)) (asks 0 60)
    c.net.peer == some 60 && c.fld F.FLEET_ROLE_ROLE 0 == 1 && c.net.role.isNone && c.flag F.FLEET_ROLE_GRANTED 0)),
   ((let c := after (.fleetRefuse (role 3 60 1)) (asks 0 60)
    c.net.peer.isNone && c.net.role.isNone && c.flag F.FLEET_ROLE_REFUSED 0)),
   ((let c := after (.fleetRoleRequest (F.FLEET_ROLE_REQ.put 0 2)) b
    sent c == [[1, 2, 1]] && c.net.role == some ⟨1, 60, 9000000000⟩ && c.flag F.FLEET_ROLE_PEND 0)),
   ((after .fleetRoleTimeout (asks 0 60)).flag F.FLEET_ROLE_REFUSED 0 && (after .fleetRoleTimeout (asks 0 60)).net.role.isNone),
   (SMap.get (after (.fleetHoldoffEnd 40) { b with net := { b.net with holdoff := [(40, 9000000000)] } }).net.holdoff 40 0 == 0),
   ((let p := { b.setFld F.FLEET_ROLE_ROLE 0 2 with net := { b.net with peer := some 60 } }
    (after .fleetUnpair p).net.peer.isNone && (after .fleetDisable p).fld F.FLEET_ROLE_ROLE 0 == 0 && !(after .fleetDisable p).flag F.FLEET_CTRL_EN 0)),
   ((let d := after (.stateSend 0x1234) b
    d.net.stateAt == some 9000000000 && d.fld F.FLEET_CNT_SENT 0 == 1 && (SMap.get d.net.wire 2 []).map (fun o => match o with | .udp g => (g.payload.length, ((g.payload.drop 92).take 2)) | _ => (0, [])) == [(100, [0x34, 0x12])]))].all id) = true := by
  decide +kernel

/-- Coordination, corrections and the upload of the ledger. -/
theorem test_fleet_coordination : (
  let b := powered [60] (base 9000000000 [(F.HPC_CTRL_HOST, 0, 1), (F.FLEET_CTRL_EN, 0, 1), (F.FLEET_CFG_ETH, 0, 2), (F.ETH_CTRL_EN, 2, 1), (F.ETH_STATUS_LINK, 2, 1), (F.FLEET_TOL_ALONG_TOL, 0, 30), (F.FLEET_TOL_ACROSS_TOL, 0, 20)])
  let b := b.setReg .FLEET_ID 0 50
  let gram := fun (type from_ : Nat) (pay : List Byte) => (fun (l : List Byte) => l ++ leBytes 4 (crc32 l).toNat) (leBytes 4 (1 + type * 256 + pay.length * 65536) ++ leBytes 4 from_ ++ leBytes 4 50 ++ leBytes 4 1 ++ pay)
  let paired := fun (role st : Nat) => { (b.setFld F.FLEET_ROLE_ROLE 0 role).setFld F.FLEET_STATUS_STATE 0 st with net := { b.net with peer := some 60 } }
  let unload := fun (from_ role along across : Nat) => gram 3 from_ (leBytes 4 role ++ List.replicate 12 0 ++ leBytes 4 (across * 65536 + along) ++ leBytes 4 0)
  let sent := fun (b : Blk) => (SMap.get b.net.wire 2 []).map fun o => match o with | .udp d => (d.payload.getD 1 0).toNat | _ => 0
  [(b.fleetOk (unload 60 1 0 0) && (after (.unloadMessage (unload 61 1 0 0)) (paired 2 0)).fld F.FLEET_STATUS_STATE 0 == 0 && (after (.unloadMessage (unload 60 1 0 0)) (paired 2 3)).fld F.FLEET_STATUS_STATE 0 == 3),
   ((let c := after (.unloadMessage (unload 60 1 0 0)) (paired 2 0)
    c.fld F.FLEET_STATUS_STATE 0 == 1 && c.net.unloadAt == 9000000000)),
   ((after (.unloadMessage (unload 60 2 30 20)) (paired 1 1)).net.tolAt == some 9000000000 && (after (.unloadMessage (unload 60 2 31 20)) (paired 1 2)).fld F.FLEET_STATUS_STATE 0 == 1),
   ((let c := after (.unloadSend 1 2 3 (-30) 20) (paired 2 2)
    sent c == [3] && c.fld F.FLEET_STATUS_STATE 0 == 2 && (after (.unloadSend 1 2 3 (-31) 20) (paired 2 2)).fld F.FLEET_STATUS_STATE 0 == 1)),
   ((after .unloadReady { paired 2 1 with net := { b.net with peer := some 60, tolAt := some 8000000000 } }).fld F.FLEET_STATUS_STATE 0 == 2 && (after .unloadLost (paired 2 1)).fld F.FLEET_STATUS_STATE 0 == 3),
   ((let frame : List Byte := [0xD3, 0, 2, 9, 9, 1, 2, 3]
    (after (.rtkDatagram (gram 4 60 frame)) b).net.rtk == [frame] && sent (after (.rtkDatagram (gram 4 60 frame)) ((paired 1 1).setFld F.FLEET_CFG_RELAY_OUT 0 1)) == [4])),
   ((let c := { (b.setReg .YLD_SEQ 0 5).setReg .YLD_ACK 0 1 with net := { b.net with upOut := [2, 4] }, jrn := ⟨.empty 100, .empty 100, .empty 100, .empty 100, .empty 100⟩ }
    let d := after (.ledgerAck (gram 6 60 [3, 0, 0, 0])) c
    d.reg .YLD_ACK 0 == 3 && d.net.upOut == [4] && d.net.upAt == 9000000000 && (after (.ledgerAck (gram 6 60 [5, 0, 0, 0])) c).fld F.FLEET_CNT_DISCARD 0 == 1)),
   ((let e := fun (n : Nat) => leBytes 64 (n * 2 ^ 32)
    let c := { b.setReg .YLD_SEQ 0 4 with jrn := { b.jrn with ledger := { JRegion.empty 100 with buf := [e 1, e 2, e 3] } } }
    let d := after .ledgerSend c
    sent d == [5] && d.net.upOut == [ledgerSeq (e 3)])),
   ((let c := { (b.setReg .YLD_SEQ 0 5).setReg .YLD_ACK 0 1 with net := { b.net with upOut := [2, 4], upAt := 4000000000 } }
    (after .ledgerResendTimeout c).net.upOut.isEmpty && (after .ledgerResendTimeout c).net.upNext == 2))].all id) = true := by
  decide +kernel

/-- The parts of a round: factor, clock, words, throttle, zones, outputs, DRAM bands. -/
theorem test_housekeeping_parts : (
  let b := base 9000000000 [(F.TZ_CFG_T_LO, 8, 60), (F.TZ_CFG_T_HI, 8, 100), (F.COOL_CFG_ZONE_MASK, 2, 2 ^ 8), (F.COOL_CFG_MIN_DUTY, 2, 20)]
  let x : Readings := (List.range 128).map fun h => (if h = 33 then 1502 else 700, h == 5)
  [(b.aonRuns && b.pwr.round < b.tb1 / 10000000 && dieHottest x == some (33, 1502)),
   (factorOf 1450 == 1000 && factorOf 1451 == 993 && factorOf 1490 == 700 && factorOf 1550 == 250 && factorOf 2000 == 250 && leclkStep 1000 false == 48 && leclkStep 999 false == 48 && leclkStep 250 false == 12 && leclkStep 1000 true == 16),
   ((hkWord x 9 33).toNat % 65536 == 1502 && hkFault x 5 && !hkFault x 4 && hkValid x 5 == none),
   ((let c := b.reduce x
    c.fld F.PWR_STATUS_K 0 == 610 && c.fld F.PWR_THERM_HOT_CH 0 == 33 && c.fld F.PWR_STATUS_LECLK_N 0 == 30 && c.pwr.reducing && c.mod.vc3.map (fun r => (r.cls, r.detail, r.data)) == [(0x0F, 3, 33 * 67108864 + 610 * 65536 + 1502)] &&
    (({ c with pwr := { c.pwr with k1000At := none } }).reduce ((List.range 128).map fun _ => (700, false))).fld F.PWR_STATUS_K 0 == 660)),
   ((b.throttle [(1400, false)] 0).flag F.TILE_STATUS_THR_REQ 0 && !(b.throttle [(1399, false)] 0).flag F.TILE_STATUS_THR_REQ 0 && (b.throttle [(0, true)] 0).flag F.TILE_STATUS_THR_REQ 0 &&
    ((b.setFld F.TILE_STATUS_THR_REQ 0 1).throttle [(1350, false)] 0).flag F.TILE_STATUS_THR_REQ 0 && !((b.setFld F.TILE_STATUS_THR_REQ 0 1).throttle [(1349, false)] 0).flag F.TILE_STATUS_THR_REQ 0),
   (demandOf 60 100 600 == 0 && demandOf 60 100 800 == 500 && demandOf 60 100 1000 == 1000 && (b.zoneRound x 1).fld F.TZ_STAT_DEMAND 1 == 1000 && (b.zoneRound x 8).fld F.TZ_STAT_DEMAND 8 == 1000 && (b.zoneRound (x.set 33 (800, false)) 8).fld F.TZ_STAT_DEMAND 8 == 500),
   ((b.setFld F.COOL_STATUS_DUTY 2 500).outputDuty 2 == 480 && ((b.setFld F.COOL_STATUS_DUTY 2 500).setFld F.TZ_STAT_DEMAND 8 700).outputDuty 2 == 700 && ((b.setFld F.COOL_STATUS_DUTY 2 201).setFld F.COOL_HOST_HOST 2 0).outputDuty 2 == 200 && (inPhase .thermalHold b).outputDuty 2 == 1000),
   ([dramBand 0 849, dramBand 0 850, dramBand 1 821, dramBand 1 820, dramBand 0 1250, dramBand 0 1251, dramBand 3 1221, dramBand 3 1220] == [0, 1, 1, 0, 2, 3, 3, 2]),
   ((let c := b.checkShutdown (x.set 33 (1580, false))
    decide (c.mod.phase = .thermalHold) && c.mod.heldRecs.map (fun r => (r.cls, r.detail, r.data)) == [(0x0F, 4, 33 * 67108864 + 1580)] && (c.fld F.COOL_STATUS_DUTY 3 == 1000) && decide ((b.checkShutdown (x.set 33 (1579, false))).mod.phase = .running)))].all id) = true := by
  decide +kernel

/-- Reduction end, restart, host demands, cooling faults, high supply, hold-up. -/
theorem test_cooling_and_shutdown : (
  let b := base 20000000000 [(F.COOL_WD_HOST_WD_MS, 0, 500)]
  [(!(after .reductionEnd { b with pwr := { b.pwr with reducing := true, k1000At := some 10000000000 } }).pwr.reducing && (after .reductionEnd { b with pwr := { b.pwr with reducing := true, k1000At := some 10000000001 } }).pwr.reducing),
   ((let h := inPhase .thermalHold b
    let h := { h.writeMem 0x10000004 4 77 with pwr := { b.pwr with coldAt := some 10000000000 } }
    let c := after .shutdownRestart h
    decide (c.mod.phase = .released) && c.readMem 0x10000004 4 == 77 && c.tb1 == 0)),
   ((let c := after (.coolHostWrite 4 555) (b.setFld F.COOL_WD_HOST_SILENT 0 1)
    c.fld F.COOL_HOST_HOST 4 == 555 && !c.flag F.COOL_WD_HOST_SILENT 0 && c.pwr.hostAt == 20000000000)),
   ((let c := after .hostSilent { b with pwr := { b.pwr with hostAt := 19500000000 } }
    c.flag F.COOL_WD_HOST_SILENT 0 && c.mod.vc3.map (fun r => (r.source, r.cls, r.detail)) == [(594, 0x0F, 8)])),
   ((let c := after (.coolFault 4) ({ b with pwr := { b.pwr with cool := [(4, ⟨some 17000000000, none⟩)] } }.setFld F.COOL_STATUS_RPM 4 99)
    c.flag F.COOL_STATUS_FAULT 4 && c.mod.vc3.map (·.data) == [4 * 268435456 + 99])),
   (!(after (.coolFaultClear 4) ({ b with pwr := { b.pwr with cool := [(4, ⟨none, some 17000000000⟩)] } }.setFld F.COOL_STATUS_FAULT 4 1)).flag F.COOL_STATUS_FAULT 4),
   ((let c := after (.supplyHigh 32001 19999000000) b
    c.flag F.PWR_STATUS_HIGH 0 && c.flag F.PWR_EVT_HIGH_SEEN 0 && c.mod.vc3.map (fun r => (r.cls, r.detail, r.data)) == [(0x10, 3, 32001)] && !(after (.supplyHigh 32000 19999000000) b).flag F.PWR_STATUS_HIGH 0)),
   (!(after (.highClear 31000 19000000000) (b.setFld F.PWR_STATUS_HIGH 0 1)).flag F.PWR_STATUS_HIGH 0),
   ((let e := fun (j : Nat) => after .holdupCheck (b.setFld F.PWR_HOLDUP_ENERGY 0 j)
    (e 1199).mod.vc3.map (fun r => (r.detail, r.data)) == [(4, 1199)] && (e 1200).mod.vc3.isEmpty && (e 1200).pwr.holdSeen)),
   ((let h := (b.setFld F.PWR_STATUS_HIGH 0 1)
    (after (.highClear 31000 19000000000) { h with pwr := { b.pwr with aboveAt := 19000000001 } }).flag F.PWR_STATUS_HIGH 0 && !(after (.supplyHigh 32001 19999000000) { b with pwr := { b.pwr with calmAt := 19999000001 } }).flag F.PWR_STATUS_HIGH 0))].all id) = true := by
  decide +kernel

/-- Crank hold, crank sleep, the return, the loss of the supply. -/
theorem test_supply_states : (
  let b := base 20000000000 []
  [((let c := after (.crankEntry 5999) b
    c.supply == 1 && c.flag F.PWR_EVT_CRANK 0 && c.fld F.PWR_STATUS_LECLK_N 0 == 16 && c.mod.vc3.map (fun r => (r.cls, r.detail, r.data)) == [(0x10, 1, 5999)] && (after (.crankEntry 6000) b).supply == 0)),
   ((let c := after (.storeExhausted 6400) { (b.setFld F.PWR_STATUS_SUPPLY 0 1).setFld F.PORT_STATUS_STATE 2 3 with mod := { b.mod with vbatLow := 4000 } }
    c.supply == 2 && c.portState 2 == 1 && c.mod.vc3.map (·.data) == [4000])),
   ((let c := after (.normalReturn 6500 19990000000) (b.setFld F.PWR_STATUS_SUPPLY 0 2)
    c.supply == 0 && (after (.normalReturn 6500 19990000001) (b.setFld F.PWR_STATUS_SUPPLY 0 2)).supply == 2)),
   ((let c := after (.supplyOff 2999) ((b.writeMem 0x10000000 4 5))
    decide (c.mod.phase = .off) && c.readMem 0x10000000 4 == 0 && c.tb1 == 0 && decide ((after (.supplyOff 3000) b).mod.phase = .running)))].all id) = true := by
  decide +kernel

/-- The wake queue and its credits, ramp, settling, requests to switch off. -/
theorem test_power_domains : (
  let b := base 20000000000 []
  let at_ := fun (d k : Nat) => (b.setFld F.PD_STATUS_STATE d k).setDom d ⟨0, 19000000000, false, false, false⟩
  [(b.aonRuns && (b.setFld F.PD_CTRL_ON 7 0).pdState 7 == 0 && b.supply == 0),
   ((let c := after (.domainRequest 7) b
    c.pdState 7 == 1 && c.flag F.PD_CTRL_ON 7 && (c.dom 7).reqNo == 0 && c.pwr.reqNo == 1)),
   ((let off := (List.range 64).foldl (fun b d => b.setFld F.PD_CTRL_ON d 0) b
    let q := (off.setFld F.PD_STATUS_STATE 44 1).setFld F.PD_CTRL_ON 44 1
    let c := after .domainAdmit q
    q.pdHead == some 44 && q.creditsHeld + wakeCredits 44 == 6 && c.pdState 44 == 2 && c.creditsHeld == 6 &&
    (let full := (q.setFld F.PD_STATUS_STATE 45 2).setFld F.PD_STATUS_STATE 46 2
    full.creditsHeld == 12 && (after .domainAdmit full).pdState 44 == 1))),
   ((after (.rampEnd 7) (at_ 7 2)).pdState 7 == 3 && (after (.settleEnd 7 0) (at_ 7 3)).pdState 7 == 4 && (after (.domainOffRequest 7) (at_ 7 1)).pdState 7 == 0),
   ((after (.domainOffRequest 60) (at_ 60 4)).pdState 60 == 5 && !(after (.domainOffRequest 60) (at_ 60 4)).flag F.PD_CTRL_ON 60),
   ((let p := (at_ 60 4).setFld F.ETH_CTRL_EN 3 1
    let c := after (.domainOffRequest 60) p
    p.pdPending 60 && !(at_ 60 4).pdPending 60 && c.pdState 60 == 4 && c.flag F.PD_STATUS_REFUSED 60 && c.flag F.PD_CTRL_ON 60 &&
    (let d := after (.domainForceOff 60 0) p
    d.pdState 60 == 5 && d.flag F.PD_STATUS_FORCED 60 && !d.flag F.ETH_CTRL_EN 3))),
   ((after (.domainStopped 7) (at_ 7 5)).pdState 7 == 0 && (after (.domainStopped 7) ((at_ 7 5).setDom 7 ⟨0, 19000000000, false, false, true⟩)).pdState 7 == 1)].all id) = true := by
  decide +kernel

/-- A start without a root, after three failures, and the hold of a failed start. -/
theorem test_starts : (
  let x : StartIn := ⟨12000, 33, true, true, none, [], 0⟩
  let clean : Journal := ⟨.empty 100, .empty 100, .empty 100, .empty 100, .empty 100⟩
  [(decide (Blk.reset.mod.phase = .off ∨ Blk.reset.mod.phase = .released) && !Blk.reset.frozen && (otpTop Blk.reset.otp 3).isNone),
   ((let c := after (.fullStart x) { Blk.reset with jrn := clean }
    decide (c.mod.phase = .chrysalis) && !c.configDone && c.node == 33 && c.flag F.ETH_CTRL_EN 5 && !c.flag F.ETH_CTRL_ROLE 5 && c.holdStrap)),
   (decide ((after (.fullStart { x with mv := 6499 }) { Blk.reset with jrn := clean }).mod.phase = Blk.reset.mod.phase)),
   ((let h := inPhase .failedHold (base 20000000000 [])
    decide ((after .failedStartRestart { h with boot := { h.boot with heldAt := 19000000000 } }).mod.phase = .released) && decide ((after .failedStartRestart { h with boot := { h.boot with heldAt := 19000000001 } }).mod.phase = .failedHold)))].all id) = true := by
  decide +kernel

/-- Staging begins, fails, writes, is aborted and discarded. -/
theorem test_staging : (
  let b := base 20000000000 []
  let st := fun (k : Nat) => b.setFld F.BOOT_UPD_STATUS_STATE 0 k
  let header := leBytes 8 0 ++ leBytes 8 0x12345678
  [(b.agentRuns && (after .updateStage b).updState == 1 && (after .updateStage (st 4)).updState == 1),
   ((let c := after .updateStage (st 2)
    c.updState == 2 && c.flag F.BOOT_UPD_STATUS_CMD_IGNORED 0)),
   ((let c := after (.stageComplete none) (st 1)
    c.updState == 4 && c.mod.vc3.map (fun r => (r.source, r.cls, r.detail)) == [(561, 0x12, 1)])),
   ((let c := after (.stageComplete (some 5)) (st 2)
    c.updState == 4 && c.fld F.BOOT_UPD_STATUS_REASON 0 == 7 && c.fld F.BOOT_UPD_STATUS_PART 0 == 5)),
   ((let w := { st 2 with boot := { b.boot with staging := header } }
    let c := after (.stageComplete none) w
    c.updState == 3 && c.boot.staging.isEmpty && (c.boot.bootRec.set true).state == 1 && (c.boot.bootRec.set false).state == 0)),
   ((let c := after .stageAbort { st 2 with boot := { b.boot with staging := header } }
    c.updState == 0 && c.boot.staging.isEmpty)),
   ((let d := { st 3 with boot := { b.boot with copy0 := some ⟨0, ⟨4, 3, 0⟩, ⟨5, 1, 0⟩, 1⟩ } }
    let c := after .stageDiscard d
    (d.boot.bootRec.set true).state == 1 && (c.boot.bootRec.set true).state == 0 && c.updState == 0 && (c.boot.bootRec.set false).seq == 4 && (after .stageDiscard b).updState == 0))].all id) = true := by
  decide +kernel

/-- Binding, package, commit, OTP, log, restart and time-out. -/
theorem test_recovery : (
  let b := inPhase .chrysalis (base 20000000000 [(F.ETH_CTRL_EN, 5, 1), (F.ETH_STATUS_LINK, 5, 1)])
  let gram := fun (op seq : Nat) (body : List Byte) => (fun (l : List Byte) => l ++ leBytes 4 (crc32 l).toNat) (leBytes 1 1 ++ leBytes 1 op ++ leBytes 2 body.length ++ leBytes 4 seq ++ body)
  let bound := { b with boot := { b.boot with tool := some ⟨99, 5000, 19000000000, none⟩ } }
  let sent := fun (b : Blk) => (SMap.get b.net.wire 5 []).map fun o => match o with | .udp d => ((d.payload.drop 1).take 1 ++ (d.payload.drop 8).take 1).map (fun (x : Byte) => x.toNat) | _ => ([] : List Nat)
  [(recParse (gram 1 7 []) == some ⟨1, 1, 7, []⟩ && recParse [] == none && !b.frozen && b.boot.tool.isNone && b.boot.commit.isNone),
   ((let c := after (.recoveryHello 99 5000 (gram 1 7 [])) b
    c.boot.tool.map (fun t => (t.addr, t.port, t.at_)) == some (99, 5000, 20000000000) && sent c == [[0x81, 0]])),
   (sent (after (.recoveryBegin 99 5000 (gram 2 7 [8, 0, 0, 0])) b) == [[0x82, 6]] && sent (after (.recoveryHello 98 5000 (gram 1 7 [])) bound) == [[0x81, 6]]),
   ((let c := after (.recoveryBegin 99 5000 (gram 2 7 [8, 0, 0, 0])) bound
    let d := after (.recoveryData 99 5000 (gram 3 8 [0, 0, 0, 0, 1, 2, 3])) c
    c.boot.want == some 8 && d.boot.got == [1, 2, 3] && sent (after (.recoveryData 99 5000 (gram 3 9 [4, 0, 0, 0, 1])) d) == [[0x82, 0], [0x83, 0], [0x83, 2]])),
   ((let c := after (.recoveryCommit 99 5000 (gram 4 7 [])) bound
    let d := after (.recoveryCommitDone none) c
    c.boot.commit == some 7 && sent c == [] && d.boot.commit.isNone && sent d == [[0x84, 3]])),
   ((let c := after (.otpWrite 99 5000 (gram 5 7 ([5, 0, 0, 0] ++ List.replicate 16 0))) bound
    sent c == [[0x85, 4]] && c.otp == b.otp)),
   ((let e : JEntry := List.replicate 16 (7 : Byte)
    let l := { bound with jrn := { b.jrn with faults := { JRegion.empty 100 with buf := [e, e] } } }
    sent (after (.readLog 99 5000 (gram 6 7 [1, 0, 0, 0])) l) == [[0x86, 0]] && (SMap.get (after (.readLog 99 5000 (gram 6 7 [1, 0, 0, 0])) l).net.wire 5 []).map (fun o => match o with | .udp d => d.payload.length | _ => 0) == [29])),
   ((let w := { bound with mod := { b.mod with recoverN := false } }
    let c := after (.recoveryRestart 99 5000 (gram 7 7 [])) w
    c.boot.restart && decide (c.mod.phase = .chrysalis) && decide ((after .recoverNRelease c).mod.phase = .released) && (after .recoverNRelease w).mod.recoverN && decide ((after .recoverNRelease w).mod.phase = .chrysalis))),
   (decide ((after (.recoveryRestart 99 5000 (gram 7 7 [])) { bound with mod := { b.mod with recoverN := true } }).mod.phase = .released)),
   ((after .bindingTimeout { bound with boot := { bound.boot with tool := some ⟨99, 5000, 0, none⟩ } }).boot.tool.isSome && (after .bindingTimeout { (bound.setReg64 .TB_VALUE_LO .TB_VALUE_HI 1 60000000000) with boot := { bound.boot with tool := some ⟨99, 5000, 0, none⟩ } }).boot.tool.isNone)].all id) = true := by
  decide +kernel

/-- What the TAPs take, with and without the strap, and what a scan shifts. -/
theorem test_taps : (
  let b := base 20000000000 []
  let s := b.setFld F.DBG_STATUS_HOLD_STRAP 0 1
  let ir := fun (c : Instr) (b : Blk) (k : Nat) => (after c b).tapIr k
  let z : ScanIn := ⟨[], [], 0⟩
  [(decide (b.mod.phase ≠ .off) && !b.holdStrap && s.holdStrap && opcodeFor (chain 3 2) 3 == 2 && opcodeFor (chain 3 2) 0 == 255 && opcodeFor (chain 0 0x20) 0 == 0x20 && opcodeFor (chain 3 2) 16 == 31),
   (ir (.bypass 3 (chain 3 31) z) b 3 == .bypass && ir .tapReset (after (.bypass 3 (chain 3 31) z) b) 3 == .idcode && ir (.bypass 3 (chain 3 2) z) b 3 == .idcode && ir (.bypass 3 (chain 3 0x10) z) b 3 == .bypass),
   (ofBitList ((after (.idcode 0 (chain 0 1) z) b).tapDr 0) == 0x15120A4B && ofBitList ((after (.idcode 9 (chain 9 1) z) b).tapDr 9) == 0x10580A4B),
   ((let c := after (.idcode 0 (chain 0 1) ⟨[], List.replicate 47 true ++ [false], 0⟩) b
    ofBitList c.dbg.tdo == 0x15120A4B * 65536 && c.tapDr 16 == [true] && c.tapDr 0 == List.replicate 31 true ++ [false])),
   (ir (.samplePreload 3 (chain 3 2) z) b 3 == .samplePreload && ir (.extest 3 (chain 3 3) z) s 3 == .extest && ir (.extest 3 (chain 3 3) z) b 3 == .bypass && ir (.bypass 3 (chain 3 3) z) b 3 == .idcode && tapDecode 3 3 == .extest),
   (ir (.clamp 3 (chain 3 4) z) s 3 == .clamp && ir (.highz 3 (chain 3 5) z) s 3 == .highz && ir (.clamp 3 (chain 3 4) z) b 3 == .bypass && ir (.highz 3 (chain 3 5) z) b 3 == .bypass),
   (ir (.extestPulse 0 (chain 0 6) z) s 0 == .extestPulse && ir (.extestTrain 0 (chain 0 7) z) s 0 == .extestTrain && ir (.bypass 3 (chain 3 6) z) s 3 == .bypass && ir (.extestTrain 0 (chain 0 7) z) b 0 == .bypass),
   ((let on := fun (b : Blk) => ({ b with dbg := { b.dbg with ir := [(9, 3)] } } : Blk).setFld F.LSW_STATUS_OUT 2 1
    (on s).scanPin 9 (.gate 2) == .level false && !(on s).lswGate 2 && (on b).scanPin 9 (.gate 2) == .free && (on b).lswGate 2 && (on s).scanPin 9 (.gate 2) != .highz && PinDrive.gate (.level true) false false && !PinDrive.gate (.level true) false true))].all id) = true := by
  decide +kernel

/-- Freezes that start here and that arrive, the debug path and the restart. -/
theorem test_freeze_and_debug : (
  let b := powered [51, 52] (opened [32] (base 20000000000 [(F.SYS_NODE_NODE, 0, 7), (F.PORT_STATUS_STATE, 1, 3), (F.PORT_STATUS_STATE, 2, 3)]))
  let dbg := fun (w : Bool) (addr v edge : Nat) => Instr.dbgAccess (chain 0 0x20) ⟨[], bitList 73 (w.toNat * 2 ^ 72 + addr * 2 ^ 32 + v), edge⟩
  let frz := b.setFld F.DBG_STATUS_FROZEN 0 1
  [((let c := after (.freezePin false) b
    c.frozen && c.fld F.DBG_STATUS_CAUSE 0 == 1 && c.fld F.DBG_FRZ_ID_ID 0 == 1 && c.fld F.DBG_FRZ_ID_ORIGIN 0 == 7 && c.reg64 .DBG_FRZ_T_LO .DBG_FRZ_T_HI 0 == 20000000000 && (c.port 1).wire == [.freeze 1 7] && (c.port 0).wire == [])),
   (!(after (.freezePin true) b).frozen && (after (.freezeRegister 1023) b).fld F.DBG_STATUS_CAUSE 0 == 2 && !(after (.freezeRegister 5) b).frozen && (after (.freezePin false) frz).dbg.seen.isEmpty),
   ((let c := after (.freezeFlit 1 9 3 (controlCrc 3 (freezeBits 9 3))) b
    b.linkRuns 1 && b.portUp 1 && c.frozen && c.fld F.DBG_STATUS_CAUSE 0 == 3 && c.fld F.DBG_FRZ_ID_ID 0 == 9 && c.fld F.DBG_FRZ_ID_ORIGIN 0 == 3 && (c.port 2).wire == [.freeze 9 3] && (c.port 1).wire == [])),
   (!(after (.freezeFlit 1 9 3 (controlCrc 3 (freezeBits 9 3))) { b with dbg := { b.dbg with seen := [(3, 9)] } }).frozen && (after (.freezeFlit 1 9 3 (controlCrc 3 (freezeBits 9 3))) frz).dbg.seen == [(3, 9)] && frz.linkRuns 1),
   ((let c := after .dbgRestart frz
    decide (c.mod.phase = .released) && !c.frozen && decide ((after .dbgRestart b).mod.phase = .running))),
   ((let c := after (dbg false 0x10000000 0 2) b
    b.gate 1023 .read 0x10000000 32 == none && c.bus.waiting.map (fun a => (a.mid, a.addr, a.edge)) == [(1023, 0x10000000, 2)] && c.tapIr 0 == .dbgAccess)),
   ((let r := { b with bus := { b.bus with results := [⟨.debug, .read, .ok, 0x89ABCDEF⟩] } }
    let c := after (dbg false 0x10000000 0 2) r
    c.dbg.data == 0x89ABCDEF && !c.dbg.deny && ofBitList ((c.dbg.tdo.drop 16).take 32) == 0x89ABCDEF && c.bus.results.isEmpty)),
   (frz.frozenGate .read 0x10000000 == none && (after (dbg false 0x10000004 0 0) (frz.writeMem 0x10000004 4 0x1234)).dbg.data == 0x1234 && (after (dbg true 0x10000004 0x55 0) frz).readMem 0x10000004 4 == 0x55 && decide (regionOf 0x10000004 ≠ some .regs)),
   ((let c := after (dbg true 0x80000000 0x55 0) frz
    (frz.frozenGate .write 0x80000000).isSome && c.dbg.deny && c.dbg.data == 0)),
   ((let c := (frz.setFld F.DBG_CTX_SEL_INDEX 0 98).setTask 0 { TaskSt.zero with pc := 0x1234 }
    c.readReg .DBG_CTX_DATA 0 == 0x1234 && (b.setFld F.DBG_CTX_SEL_INDEX 0 98).readReg .DBG_CTX_DATA 0 == 0)),
   ((let f := after (.freezePin false) (b.writeMem 0x10000004 4 0x77)
    let c := f.setReg .AIN_WORD 4 5
    f.dbg.held.isSome && c.dbg.held == f.dbg.held && (after (dbg false 0x10000004 0 0) c).dbg.data == 0x77 && ((after (dbg false 0x10000004 0 0) c).reg .AIN_WORD 4) == 5))].all id) = true := by
  decide +kernel

end Sys2Proof.Tests
end

section
/-!
PROOFS. What every operation of the block keeps: a property kept where a register word or a byte is written, where another unit
changes, and where a restart or a failed try loses or gives back memory, is kept by every command. One lemma for each function of
the model, in the order of the model; each proof goes through the function's text once, by the lemmas about what it calls.
-/

namespace Sys2Proof.Machine

/-- A property of blocks that each of the operations keeps which the model is made of: a register word or a byte is written,
another unit changes, registers or memory are lost on a restart, a failed try of a set gives back the memory (R410). -/
structure BlockInv where
  holds : Blk → Prop
  setReg : ∀ {b : Blk}, holds b → ∀ r i v, holds (b.setReg r i v)
  setByte : ∀ {b : Blk}, holds b → ∀ a v, holds (b.setByte a v)
  units : ∀ {a b : Blk}, holds a → b.regs = a.regs → b.mem = a.mem → b.otp = a.otp → holds b
  clear : ∀ {b : Blk}, holds b → holds { b with regs := [] }
  forget : ∀ {b : Blk}, holds b → ∀ p, holds { b with mem := b.mem.filter p }
  undo : ∀ {b t : Blk}, holds b → holds t → holds { b with
    mem := b.mem.filter (fun c => decide (c.1 < 0x10000000)) ++ t.mem.filter (fun c => inAon c.1) ++
      b.mem.filter (fun c => decide (0x11000000 ≤ c.1)) }

/-- Programming OTP keeps the property as well. -/
def BlockInv.AdmitsOtp (K : BlockInv) : Prop :=
  ∀ b, K.holds b → ∀ a l, K.holds { b with otp := otpProgram b.otp a l }

/-- `K` holds of the block once its registers are `r`. -/
def BlockInv.under (K : BlockInv) (r : SMap RegKey Word) : BlockInv where
  holds b := K.holds { b with regs := r }
  setReg h _ _ _ := K.units h rfl rfl rfl
  setByte h a v := K.setByte h a v
  units h _ hm ho := K.units h rfl hm ho
  clear h := h
  forget h p := K.forget h p
  undo h ht := K.units (K.undo h ht) rfl rfl rfl

/-- The block has the property. -/
def Blk.Meets (b : Blk) (K : BlockInv) : Prop := K.holds b

namespace Blk.Meets

variable {K : BlockInv} {a b : Blk}

theorem of_same (h : a.Meets K) (hr : b.regs = a.regs) (hm : b.mem = a.mem) (ho : b.otp = a.otp) : b.Meets K :=
  K.units h hr hm ho

theorem units (h : b.Meets K) {mod bus jrn tbu le afe hpc out cam fus gnss yld fab net pwr boot dbg free} :
    Blk.Meets ⟨b.regs, b.mem, b.otp, mod, bus, jrn, tbu, le, afe, hpc, out, cam, fus, gnss, yld, fab, net, pwr, boot, dbg,
      free⟩ K := h.of_same rfl rfl rfl

theorem clear (h : b.Meets K) : Blk.Meets { b with regs := [] } K := K.clear h

theorem forget (h : b.Meets K) {p} : Blk.Meets { b with mem := b.mem.filter p } K := K.forget h p

theorem ite {c : Prop} [Decidable c] (ha : a.Meets K) (hb : b.Meets K) : (if c then a else b).Meets K := by
  split <;> assumption

theorem iteFst {α : Type} {c : Prop} [Decidable c] {p q : Blk × α} (hp : p.1.Meets K) (hq : q.1.Meets K) :
    (if c then p else q).1.Meets K := by
  split <;> assumption

theorem fstEq {α : Type} {p : Blk × α} {x : α} (h : p.1.Meets K) (e : p = (b, x)) : b.Meets K := by
  simpa [e] using h

theorem foldl {α : Type} {l : List α} {f : Blk → α → Blk} (h : b.Meets K)
    (hf : ∀ {b : Blk} {x}, b.Meets K → (f b x).Meets K) : (l.foldl f b).Meets K := by
  induction l generalizing b with
  | nil => exact h
  | cons x l ih => exact ih (hf h)

theorem foldlFst {α β : Type} {l : List α} {p : Blk × β} {f : Blk × β → α → Blk × β} (h : p.1.Meets K)
    (hf : ∀ {p : Blk × β} {x}, p.1.Meets K → (f p x).1.Meets K) : (l.foldl f p).1.Meets K := by
  induction l generalizing p with
  | nil => exact h
  | cons x l ih => exact ih (hf h)

/-! ### Registers, memory, records and the log -/

theorem setReg (h : b.Meets K) {r i v} : (b.setReg r i v).Meets K := K.setReg h r i v

theorem setFld (h : b.Meets K) {f i v} : (b.setFld f i v).Meets K := h.setReg

theorem setFlag (h : b.Meets K) {f i x} : (b.setFlag f i x).Meets K := h.setFld

theorem setSFld (h : b.Meets K) {f i v} : (b.setSFld f i v).Meets K := h.setFld

theorem incFld (h : b.Meets K) {f i} : (b.incFld f i).Meets K := h.setFld

theorem addSat (h : b.Meets K) {f i n} : (b.addSat f i n).Meets K := h.setFld

theorem setReg64 (h : b.Meets K) {lo hi i v} : (b.setReg64 lo hi i v).Meets K := h.setReg.setReg

theorem when (h : b.Meets K) {c f} (hf : ∀ {b : Blk}, b.Meets K → (f b).Meets K) : (b.when c f).Meets K := by
  cases c
  · exact h
  · exact hf h

theorem live (h : b.Meets K) {f}
    (hf : ∀ {b : Blk}, b.Meets K → (f b).Meets K) : (b.live f).Meets K := h.when hf

theorem setByte (h : b.Meets K) {a v} : (b.setByte a v).Meets K := K.setByte h a v

theorem writeMem (h : b.Meets K) {a n v} : (b.writeMem a n v).Meets K := by
  induction n generalizing b a v with
  | zero => exact h
  | succ n ih => exact ih h.setByte

theorem setWord (h : b.Meets K) {a v} : (b.setWord a v).Meets K := h.writeMem

theorem setBytes (h : b.Meets K) {a l} : (b.setBytes a l).Meets K := by
  induction l generalizing b a with
  | nil => exact h
  | cons x l ih => exact ih h.setByte

theorem took (h : b.Meets K) : b.took.Meets K := h.units

theorem logFault (h : b.Meets K) {r} : (b.logFault r).Meets K := h.units

theorem holdRec (h : b.Meets K) {r} : (b.holdRec r).Meets K := h.addSat.ite h.units

theorem raiseRec (h : b.Meets K) {r} : (b.raiseRec r).Meets K := h.logFault.setReg.holdRec

theorem raise (h : b.Meets K) {source cls detail data} : (b.raise source cls detail data).Meets K :=
  h.ite (h.raiseRec.ite h.units)

/-! ### The descriptor of a task -/

theorem setTask (h : b.Meets K) {t x} : (b.setTask t x).Meets K := h.units

theorem setCur (h : b.Meets K) {e t} : (b.setCur e t).Meets K := h.units

/-! ### Sending on the links -/

theorem emit (h : b.Meets K) {p} : (b.emit p).Meets K := h.units

theorem sendStream (h : b.Meets K) {stream smaster payload} : (b.sendStream stream smaster payload).Meets K := by
  unfold Blk.sendStream
  split
  exacts [h, (h.foldl fun h => h.emit).incFld]

theorem xferDone (h : b.Meets K) {x status} : (b.xferDone x status).Meets K := by
  unfold Blk.xferDone
  split
  exacts [h, h.units]

theorem inboundDone (h : b.Meets K) {i status data} : (b.inboundDone i status data).Meets K :=
  h.units.emit.ite h.units

theorem takeResults (h : b.Meets K) {l} : (b.takeResults l).Meets K := by
  induction l with
  | nil => exact h
  | cons c l ih =>
    unfold Blk.takeResults
    extract_lets b1
    split
    · split
      exacts [ih.units.inboundDone, ih]
    · exact ih.units.xferDone
    · exact ih

theorem respond (h : b.Meets K) : b.respond.Meets K := h.takeResults

/-! ### Accesses and their answers -/

theorem answer (h : b.Meets K) {c} : (b.answer c).Meets K := h.units.ite h

theorem enqueue (h : b.Meets K) {a} : (b.enqueue a).Meets K := h.units

theorem serveMem (h : b.Meets K) {a} : (b.serveMem a).Meets K := by
  unfold Blk.serveMem
  split
  exacts [h.answer, h.writeMem.answer]

theorem settleMem (h : b.Meets K) {addr} : (b.settleMem addr).Meets K := by
  unfold Blk.settleMem
  split
  · exact h
  · split
    · exact h
    · exact (h.units.foldl fun h => h.serveMem).ite ((h.units.foldl fun h => h.serveMem).respond)

theorem refuse (h : b.Meets K) {source detail data} : (b.refuse source detail data).Meets K :=
  h.incFld.ite (h.incFld.settleMem.writeMem.incFld.ite h.incFld.addSat)

theorem submit (h : b.Meets K) {a} : (b.submit a).Meets K := by
  unfold Blk.submit
  split
  exacts [h.enqueue, h.refuse.answer]

theorem submitRemote (h : b.Meets K) {p src smaster tag op addr width data edge} :
    (b.submitRemote p src smaster tag op addr width data edge).Meets K := by
  unfold Blk.submitRemote
  extract_lets who px source
  split
  · exact h.refuse.answer
  · clear_value px
    split
    · exact h.refuse.answer
    · split
      exacts [h.refuse.answer, h.enqueue]

theorem submitGlobal (h : b.Meets K) {who mid op gaddr width data} :
    (b.submitGlobal who mid op gaddr width data).Meets K := h.submit.ite (h.refuse.answer.ite h.units)

theorem unitWrite (h : b.Meets K) {m addr l} : (b.unitWrite m addr l).1.Meets K := by
  unfold Blk.unitWrite
  extract_lets mid
  split
  exacts [h.refuse, iteFst h.enqueue h.settleMem.setBytes]

theorem unitWrites (h : b.Meets K) {m addr n l} : (b.unitWrites m addr n l).1.Meets K := by
  induction n generalizing b addr l with
  | zero => exact h
  | succ n ih =>
    refine iteFst h (ih ?_)
    split
    · exact h.refuse
    · exact iteFst h.enqueue h.settleMem.setBytes

theorem targetAccess (h : b.Meets K) {o write addr width data edge} :
    (b.targetAccess o write addr width data edge).Meets K := by
  unfold Blk.targetAccess
  refine h.when fun h => ?_
  extract_lets op
  split
  exacts [h.submit, h.submitRemote]

theorem logReadAdvance (h : b.Meets K) {v} : (b.logReadAdvance v).Meets K := h.when fun h => h.setReg

theorem classSeenClear (h : b.Meets K) {bits} : (b.classSeenClear bits).Meets K := h.setReg

theorem xdRead (h : b.Meets K) {m a n} : (b.xdRead m a n).1.Meets K := by
  induction n generalizing b a with
  | zero => exact h
  | succ n ih =>
    refine ih ?_
    split
    exacts [h.refuse, h.settleMem]

/-! ### Timebases, slots and ports -/

theorem setBuilt (h : b.Meets K) {n x} : (b.setBuilt n x).Meets K := h.units

theorem addPulse (h : b.Meets K) {n srcB fwd} : (b.addPulse n srcB fwd).Meets K :=
  h.when fun h => (h.setBuilt.setFld.ite h.setBuilt).setFld.setFlag

theorem addIndex (h : b.Meets K) {n} : (b.addIndex n).Meets K :=
  h.when fun h => h.ite (h.setBuilt.setFld.ite h.setBuilt)

theorem takePulse (h : b.Meets K) {n p c'} (e : b.takePulse n = some (p, c')) : c'.Meets K := by
  unfold Blk.takePulse at e
  split at e
  · cases e
  · cases e
    exact h.units

theorem addAny (h : b.Meets K) {p} : (b.addAny p).Meets K := h.addIndex.ite h.addPulse

theorem sourcePulse (h : b.Meets K) {n} : (b.sourcePulse n).Meets K := by
  unfold Blk.sourcePulse
  refine h.when fun h => ?_
  split
  exacts [h.ite ((h.takePulse ‹_›).addPulse), h]

theorem indexPulse (h : b.Meets K) {n} : (b.indexPulse n).Meets K := by
  unfold Blk.indexPulse
  refine h.when fun h => ?_
  split
  exacts [(h.takePulse ‹_›).addIndex.ite h, h]

theorem addPulses (h : b.Meets K) : b.addPulses.Meets K := h.units.foldl fun h => h.addAny

theorem tbStallExpiry (h : b.Meets K) {n} : (b.tbStallExpiry n).Meets K := by
  unfold Blk.tbStallExpiry
  extract_lets x kind
  refine h.when fun h => ?_
  exact h.setBuilt.setFld

theorem dropLate (h : b.Meets K) {s} : (b.dropLate s).Meets K := h.units

theorem armSlot (h : b.Meets K) {s} : (b.armSlot s).Meets K := by
  unfold Blk.armSlot
  extract_lets b1 b2 src
  split
  · exact h.dropLate
  · split
    · exact h.dropLate.setFld.setFld.setFld
    · exact h.dropLate.setFld.setFld.ite (h.dropLate.setFld.setFld.units.ite h.dropLate.setFld.setFld)

theorem tb0Counts (h : b.Meets K) : b.tb0Counts.Meets K := (h.setFld.units.ite h.setFld).setFld.ite h.setFld

theorem tickTb0 (h : b.Meets K) : b.tickTb0.Meets K := by
  unfold Blk.tickTb0
  extract_lets was
  split
  exacts [h.setReg64.units.tb0Counts.ite h.units, h.setReg64.units.tb0Counts, h.setReg64.units]

theorem tickTb1 (h : b.Meets K) : b.tickTb1.Meets K := h.setReg64

theorem tickTb2 (h : b.Meets K) : b.tickTb2.1.Meets K := by
  unfold Blk.tickTb2
  extract_lets course would loaded auto val wasValid load step b1 src b2 b3
  have h3 : b3.Meets K := h.setReg64.units.setFld.ite h.setReg64.units
  clear_value step
  split
  exacts [h3.setFld, h3]

theorem tickBuilt (h : b.Meets K) {n} : (b.tickBuilt n).Meets K := h.setReg64.setFlag.ite (h.setBuilt.ite h)

theorem validChange (h : b.Meets K) {old new slots} : (b.validChange old new slots).Meets K :=
  h.foldl fun h => h.ite (h.armSlot.ite h.dropLate.setFld.setFld)

theorem fireSlot (h : b.Meets K) {s} : (b.fireSlot s).Meets K := by
  unfold Blk.fireSlot
  split
  · exact h
  · extract_lets src b1 b2 b3 kind src2 src3
    have h3 : b3.Meets K := h.units.incFld.setFld.ite h.units.incFld
    split
    · exact (h3.ite h3.units).setFld.setFld
    · exact (h3.ite h3.units).setReg64.ite ((h3.ite h3.units).setReg64.raise)
    · exact (h3.ite h3.units)

theorem fireDue (h : b.Meets K) : b.fireDue.Meets K := h.foldl fun h => h.fireSlot

theorem slotFire (h : b.Meets K) {s} : (b.slotFire s).Meets K := h.when fun h => h.fireSlot

theorem resolveWindow (h : b.Meets K) {w start stop} : (b.resolveWindow w start stop).Meets K := by
  unfold Blk.resolveWindow
  split
  exacts [h.setFld, h.addSat, h.addSat, h.setFld, h]

theorem resolveWindows (h : b.Meets K) : b.resolveWindows.Meets K := (h.foldl fun h => h.resolveWindow).units

theorem takeSnap (h : b.Meets K) : b.takeSnap.Meets K := (h.units.foldl fun h => h.setReg64).ite h

theorem tb2SetLow (h : b.Meets K) {v} : (b.tb2SetLow v).Meets K := h.units

theorem tb2LoadWrite (h : b.Meets K) {hi lo} : (b.tb2LoadWrite hi lo).Meets K := by
  unfold Blk.tb2LoadWrite
  extract_lets b1 src
  have h1 : b1.Meets K := by
    unfold b1
    split
    exacts [h.tb2SetLow, h]
  exact h1.units

theorem tbuSnap (h : b.Meets K) : b.tbuSnap.Meets K := h.units

theorem slotCtrlWrite (h : b.Meets K) {s ctrl} : (b.slotCtrlWrite s ctrl).Meets K :=
  h.fireDue.setReg.dropLate.setFld.setFld.ite (h.fireDue.setReg.ite h.fireDue.setReg.armSlot)

theorem slotCountLow (h : b.Meets K) {s v} : (b.slotCountLow s v).Meets K := h.fireDue.units.ite h.fireDue.setReg

theorem slotCountHigh (h : b.Meets K) {s hi lo} : (b.slotCountHigh s hi lo).Meets K := by
  unfold Blk.slotCountHigh
  extract_lets b1 low b2 src
  split
  · exact h.fireDue.setReg.setReg.units.armSlot
  · refine setReg ?_
    split
    exacts [h.fireDue.setReg, h.fireDue]

theorem slotPeriodWrite (h : b.Meets K) {s lo hi} : (b.slotPeriodWrite s lo hi).Meets K := by
  unfold Blk.slotPeriodWrite
  extract_lets b1 src low b2
  split
  · split
    · split
      exacts [h.fireDue.units, h.fireDue]
    · exact h.fireDue.setReg.setReg.units
  · have h2 : b2.Meets K := by
      unfold b2
      split
      exacts [h.fireDue.setReg, h.fireDue]
    split
    exacts [h2.setReg, h2]

theorem slipUpdate (h : b.Meets K) : b.slipUpdate.Meets K := by
  unfold Blk.slipUpdate
  refine h.when fun h => ?_
  extract_lets src b1 v
  split
  exacts [h.units.setBuilt.setSFld.setFld.took.ite h.units.setFld, h.units.setFld]

/-! ### The AFE -/

theorem setAin (h : b.Meets K) {a x} : (b.setAin a x).Meets K := h.units

theorem setImp (h : b.Meets K) {i x} : (b.setImp i x).Meets K := h.units

theorem setEnc (h : b.Meets K) {e x} : (b.setEnc e x).Meets K := h.units

theorem ainWord (h : b.Meets K) {a pins exc} : (b.ainWord a pins exc).Meets K := h.when fun h => h.setReg.setAin

theorem ainCfgWrite (h : b.Meets K) {a v} : (b.ainCfgWrite a v).Meets K := h.setReg

theorem excFault (h : b.Meets K) {g mv limited} : (b.excFault g mv limited).Meets K := h.setFld

theorem impSample (h : b.Meets K) {i mv} : (b.impSample i mv).Meets K := h.when fun h => h.setImp

theorem impTick (h : b.Meets K) {moved i} : (b.impTick moved i).Meets K := (h.addSat.setImp.ite h.setImp).ite h

theorem impClose (h : b.Meets K) {i} : (b.impClose i).Meets K := h.setReg.setFld.setFld.setFld.setImp

theorem takeTrig (h : b.Meets K) {kind id t c'} (e : b.takeTrig kind id = some (t, c')) : c'.Meets K := by
  unfold Blk.takeTrig at e
  split at e
  · cases e
  · cases e
    exact h.units

theorem sampleTrigger (h : b.Meets K) {id} : (b.sampleTrigger id).Meets K := by
  unfold Blk.sampleTrigger
  split
  · exact h
  · exact (h.takeTrig ‹_›).setReg.setReg.ite ((h.takeTrig ‹_›).impClose.ite ((h.takeTrig ‹_›).setReg))

theorem encCount (h : b.Meets K) {e delta} : (b.encCount e delta).Meets K := by
  unfold Blk.encCount
  extract_lets x now b1
  have h1 : b1.Meets K := by
    unfold b1
    split
    exacts [h.setFld, h]
  exact h1.setEnc

theorem encEdge (h : b.Meets K) {e level since partner} : (b.encEdge e level since partner).Meets K := by
  unfold Blk.encEdge
  extract_lets even other also edges
  refine h.when fun h => ?_
  extract_lets quad b1 b2 src same b3
  have h1 : b1.Meets K := h.foldl fun h => h.setEnc
  have h2 : b2.Meets K := h1.foldl fun h => h.encCount.ite h
  have h3 : b3.Meets K := h2.ite (h2.setEnc.ite h2.encCount)
  exact h3.units

theorem encTick (h : b.Meets K) : b.encTick.Meets K := h.foldl fun h => h.setReg.setEnc.ite h.setReg

/-! ### Cameras -/

theorem setPipe (h : b.Meets K) {p x} : (b.setPipe p x).Meets K := h.units

theorem setStrm (h : b.Meets K) {p s x} : (b.setStrm p s x).Meets K := h.setPipe.setFlag.setFlag.setFlag

theorem setSensor (h : b.Meets K) {s x} : (b.setSensor s x).Meets K := h.units

theorem noteInput (h : b.Meets K) {s t kind} : (b.noteInput s t kind).Meets K := h.when fun h => h.units

theorem eccMark (h : b.Meets K) {p vc} : (b.eccMark p vc).Meets K := by
  unfold Blk.eccMark
  refine h.foldl fun h => ?_
  extract_lets x
  split
  exacts [h.setStrm, h]

theorem header (h : b.Meets K) {p vc h' f}
    (hf : ∀ {b : Blk}, b.Meets K → (f b).Meets K) : (b.header p vc h' f).Meets K := by
  unfold Blk.header
  refine h.when fun h => ?_
  split
  exacts [(hf h), (hf h.addSat), h.addSat.eccMark]

theorem writeRecord (h : b.Meets K) {p f} : (b.writeRecord p f).1.Meets K := by
  unfold Blk.writeRecord
  exact h.unitWrite.unitWrites.unitWrite

theorem checkEpisode (h : b.Meets K) {p s f} : (b.checkEpisode p s f).Meets K := h.setStrm.raise.ite h.setStrm

theorem noteFrame (h : b.Meets K) {p f} : (b.noteFrame p f).Meets K := h.noteInput.units

theorem camEnd (h : b.Meets K) {p} : (b.camEnd p).Meets K := h.setPipe.setFld

theorem drained (h : b.Meets K) {p} : (b.drained p).Meets K := h.camEnd.ite h

theorem closeFrame (h : b.Meets K) {p s short discarded} : (b.closeFrame p s short discarded).Meets K := by
  unfold Blk.closeFrame
  extract_lets x
  split
  · exact h
  · extract_lets -underBinder m bad f
    split
    next c f e =>
      have hc : c.Meets K := h.writeRecord.fstEq e
      exact (hc.setStrm.checkEpisode.noteFrame.ite hc.setStrm.checkEpisode).drained

theorem primaryStart (h : b.Meets K) {p} : (b.primaryStart p).1.Meets K := by
  unfold Blk.primaryStart
  extract_lets x src x2 b1 b2
  split
  exacts [iteFst h.setPipe.setFld.setFld.setPipe h.setPipe.setFld.setFld, h.setPipe.setFld.setFld]

theorem streamStart (h : b.Meets K) {p s fnum cap} : (b.streamStart p s fnum cap).Meets K := by
  unfold Blk.streamStart
  extract_lets b1 i b2 x b3 active addr frame
  have h3 : b3.Meets K := by
    unfold b3
    split
    exacts [h.closeFrame.incFld.setReg.setReg, h.closeFrame.incFld]
  exact h3.setStrm

theorem frameStart (h : b.Meets K) {p vc fnum h'} : (b.frameStart p vc fnum h').Meets K := by
  unfold Blk.frameStart
  refine h.header fun h => ?_
  extract_lets l b1
  split
  · exact (h.when fun h => h.addSat)
  · split
    · refine ((iteFst ((h.when fun h => h.addSat).primaryStart) (h.when fun h => h.addSat)).fstEq ‹_›).foldl fun h => ?_
      exact h.streamStart

theorem frameEnd (h : b.Meets K) {p vc h'} : (b.frameEnd p vc h').Meets K :=
  h.header fun h => (h.when fun h => h.addSat).foldl fun h => h.closeFrame

theorem linePacket (h : b.Meets K) {p vc h'} : (b.linePacket p vc h').Meets K := h.header fun h => h

theorem storePacket (h : b.Meets K) {p s dt f vals crcOk lost} :
    (b.storePacket p s dt f vals crcOk lost).Meets K := h.setStrm.ite h.unitWrites.setStrm

theorem longPacket (h : b.Meets K) {p vc dt h' vals crcOk lost} :
    (b.longPacket p vc dt h' vals crcOk lost).Meets K := by
  unfold Blk.longPacket
  refine h.header fun h => ?_
  split
  · exact h.addSat
  · extract_lets b1
    split
    exacts [(h.ite h.addSat).storePacket, (h.ite h.addSat)]

theorem addressCommit (h : b.Meets K) {p s late} : (b.addressCommit p s late).Meets K :=
  h.setFld.ite (h.setStrm.setFld.ite h.setStrm)

theorem paramCommit (h : b.Meets K) {p delay late} : (b.paramCommit p delay late).Meets K :=
  h.setFld.ite (h.setPipe.setFld.setFld.ite h.setPipe.setFld)

theorem camEnable (h : b.Meets K) {p} : (b.camEnable p).Meets K := by
  unfold Blk.camEnable
  split
  · extract_lets src b1 b2
    refine h.setPipe.setFld.setFld.foldl fun h => ?_
    exact h.setStrm
  · exact h.setFld
  · exact h

theorem camAbort (h : b.Meets K) {p} : (b.camAbort p).Meets K := (h.setFld.foldl fun h => h.closeFrame).camEnd

theorem camDisable (h : b.Meets K) {p} : (b.camDisable p).Meets K :=
  h.setFld.ite (h.camAbort.ite h.setFld.setFld.drained)

theorem exposureTrigger (h : b.Meets K) {p} : (b.exposureTrigger p).Meets K := by
  unfold Blk.exposureTrigger
  split
  · exact h
  · refine (h.takeTrig ‹_›).when fun h => ?_
    exact (h.addSat.ite h).setPipe

theorem pulseEnd (h : b.Meets K) {p} : (b.pulseEnd p).Meets K := by
  unfold Blk.pulseEnd
  split
  · exact h
  · refine h.when fun h => ?_
    exact h.setPipe

theorem camLate (h : b.Meets K) {p s detail} : (b.camLate p s detail).Meets K := h.raise

theorem noFrame (h : b.Meets K) {p} : (b.noFrame p).Meets K := by
  unfold Blk.noFrame
  split
  · exact h
  · refine h.when fun h => ?_
    exact h.setPipe.camLate.noteInput

theorem noEnd (h : b.Meets K) {p s} : (b.noEnd p s).Meets K := by
  unfold Blk.noEnd
  split
  exacts [h, h.when fun h => h.closeFrame.camLate]

theorem noStart (h : b.Meets K) {p s} : (b.noStart p s).Meets K := h.when fun h => h.setStrm.camLate

theorem cciStart (h : b.Meets K) {p cmd} : (b.cciStart p cmd).Meets K := h.setReg.ite h.setReg.setPipe.setFld

theorem cciDone (h : b.Meets K) {p nack rx} : (b.cciDone p nack rx).Meets K := by
  unfold Blk.cciDone
  split
  · exact h
  · extract_lets src b1 b2 l b3
    have h2 : b2.Meets K := h.setPipe.setFld.setFld.setFld
    exact (h2.setReg.setReg.ite h2).setFld.ite (h2.setReg.setReg.ite h2)

theorem phyLock (h : b.Meets K) {p hs} : (b.phyLock p hs).Meets K := h.setFlag

theorem sotError (h : b.Meets K) {p} : (b.sotError p).Meets K := h.when fun h => h.addSat

/-! ### Machine functions -/

theorem setFn (h : b.Meets K) {n x} : (b.setFn n x).Meets K := h.units

theorem setIntReg (h : b.Meets K) {r n v} : (b.setIntReg r n v).Meets K := h.setReg

theorem ilkClose (h : b.Meets K) {s x n} : (b.ilkClose s x n).Meets K := h.setFn

theorem interlock (h : b.Meets K) {s x n p v} : (b.interlock s x n p v).1.Meets K := by
  unfold Blk.interlock
  refine foldlFst h fun h => ?_
  extract_lets d
  split
  exacts [h, iteFst (iteFst h h.setFn.raise) h]

theorem modeRequest (h : b.Meets K) {n} : (b.modeRequest n).Meets K := h.ite (h.setFn.setFld.ite h.setFn.setFld)

theorem override (h : b.Meets K) {n} : (b.override n).Meets K := h.setFld.setFld.ite h

theorem fallback (h : b.Meets K) {n} : (b.fallback n).Meets K := h.setFld.setReg.setFld.raise.ite h

theorem fnModes (h : b.Meets K) {n} : (b.fnModes n).Meets K := h.setFlag.modeRequest.override.fallback.setFn

theorem arbitrate (h : b.Meets K) {s x n goal} : (b.arbitrate s x n goal).1.Meets K :=
  h.setFlag.interlock.setFlag.setFlag

theorem directManual (h : b.Meets K) {s x n entry moved} : (b.directManual s x n entry moved).1.Meets K :=
  iteFst h.setFn (iteFst h.setFn.interlock.setFlag h.setFn.interlock.setFlag)

theorem fnRoundStep (h : b.Meets K) {s x n feed} : (b.fnRoundStep s x n feed).1.Meets K := by
  unfold Blk.fnRoundStep
  extract_lets goal b1 manual
  have h1 : b1.Meets K := h.setIntReg.ilkClose.setFld
  split
  · exact h1
  · split
    · exact iteFst h1.directManual h1
    · exact iteFst h1 h1.setFn.arbitrate
    · exact iteFst h1.setFn h1.arbitrate
    · exact iteFst h1.setFn h1.arbitrate

theorem issued (h : b.Meets K) {n data x} : (b.issued n data x).Meets K := by
  unfold Blk.issued
  split
  exacts [h.setIntReg.setFn.ite h.setIntReg, h.setFn, h.setFn, h.setIntReg.setFn, h.setFn]

theorem issueWrite (h : b.Meets K) {w} : (b.issueWrite w).Meets K := h.issued.ite h.issued.submitGlobal

theorem observe (h : b.Meets K) {x} : (b.observe x).Meets K := h.units

theorem showObs (h : b.Meets K) : b.showObs.Meets K := h.setFld.setFlag

theorem learn (h : b.Meets K) {s x feed} : (b.learn s x feed).Meets K :=
  h.units.ite (h.ite (h.observe.units.showObs.ite h))

theorem dropRound (h : b.Meets K) : b.dropRound.Meets K := h.units.setFld.raise

theorem roundOverrun (h : b.Meets K) : b.roundOverrun.Meets K := h.when fun h => h.dropRound

theorem controlRound (h : b.Meets K) {x late} : (b.controlRound x late).Meets K := by
  unfold Blk.controlRound
  refine h.when fun h => ?_
  extract_lets s src b1 feed b2 b3
  have h1 : b1.Meets K := h.roundOverrun.units.foldl fun h => h.fnModes
  split
  next c writes e =>
    have hc : c.Meets K := by
      refine fstEq (foldlFst h1.setFld.setFlag fun h => ?_) e
      split
      exacts [h.fnRoundStep.fstEq ‹_›]
    split
    · exact (hc.took.foldl fun h => h.issueWrite).learn.incFld
    · exact (hc.took.foldl fun h => h.issueWrite).learn.units

theorem hpcWriteDenied (h : b.Meets K) {n} : (b.hpcWriteDenied n).Meets K := by
  unfold Blk.hpcWriteDenied
  split
  exacts [h, h.units.setFld]

theorem setProp (h : b.Meets K) {n v} : (b.setProp n v).Meets K := h.setFn

theorem proposeVar (h : b.Meets K) {i v} : (b.proposeVar i v).Meets K := by
  unfold Blk.proposeVar
  split
  exacts [h.setProp, h.units]

theorem markBase (h : b.Meets K) {i} : (b.markBase i).Meets K := by
  unfold Blk.markBase
  split
  exacts [h.setFn, h.units]

theorem explore (h : b.Meets K) : b.explore.Meets K :=
  h.units.proposeVar.ite ((h.units.ite h.units.proposeVar).markBase.proposeVar)

theorem optimise (h : b.Meets K) : b.optimise.Meets K := (h.foldl fun h => h.proposeVar).units.took

theorem optimiserProposal (h : b.Meets K) : b.optimiserProposal.Meets K := by
  unfold Blk.optimiserProposal
  extract_lets due
  refine h.when fun h => ?_
  exact h.units.setFld.explore.ite h.units.setFld.optimise

theorem saveField (h : b.Meets K) : b.saveField.Meets K := h.units

theorem fieldLoad (h : b.Meets K) {slot} : (b.fieldLoad slot).Meets K := (h.saveField.ite h).setFld.setFld

theorem fieldLoadDone (h : b.Meets K) : b.fieldLoadDone.Meets K :=
  h.when fun h => (h.units.setFld.showObs.foldl fun h => h.setProp).ite h.units.setFld.showObs

theorem surfaceSave (h : b.Meets K) : b.surfaceSave.Meets K := h.when fun h => h.saveField

/-! ### Fusion -/

theorem setModel (h : b.Meets K) {m x} : (b.setModel m x).Meets K := h.units

theorem egoCheck (h : b.Meets K) : b.egoCheck.Meets K := h.setFlag.raise.ite h.setFlag

theorem poseUpdate (h : b.Meets K) {pose fed} : (b.poseUpdate pose fed).Meets K := by
  unfold Blk.poseUpdate
  extract_lets due
  refine h.when fun h => ?_
  extract_lets first pose src b1 b2 b3 src2
  have h2 : b2.Meets K := by
    unfold b2
    refine h.units.foldl fun h => ?_
    exact h.setSensor.ite h
  exact h2.egoCheck.units.ite h2.egoCheck

theorem setMask (h : b.Meets K) {s on} : (b.setMask s on).Meets K := h.ite h.setFld

theorem startMask (h : b.Meets K) {s detail n v} : (b.startMask s detail n v).Meets K := h.setMask.setSensor.raise

theorem sensorDropped (h : b.Meets K) {s} : (b.sensorDropped s).Meets K :=
  h.when fun h => h.setSensor.ite h.setSensor.startMask.egoCheck.units

theorem maskStep (h : b.Meets K) {s sum} : (b.maskStep s sum).Meets K := by
  unfold Blk.maskStep
  split
  · exact h
  · extract_lets x verdict above excess good b1 run src markN consN
    split
    · exact h.setSensor.setMask.setSensor.ite h.setSensor
    · exact h.setSensor.startMask.ite (h.setSensor.startMask.ite h.setSensor)

theorem formBins (h : b.Meets K) {g pose} : (b.formBins g pose).Meets K := by
  unfold Blk.formBins
  extract_lets sw b1 w arcs
  refine h.setReg.foldl fun h => ?_
  exact h.setReg

theorem publish (h : b.Meets K) {g e pose used ego stopped} : (b.publish g e pose used ego stopped).Meets K :=
  h.unitWrite.unitWrites.unitWrites.unitWrite.unitWrite.unitWrites.unitWrite.setFld.incFld.units

theorem switchModels (h : b.Meets K) : b.switchModels.Meets K :=
  h.foldl fun h => h.setModel.setFlag.setFld.setFld.setFld.ite h

theorem takeInput (h : b.Meets K) {x} : (b.takeInput x).Meets K := h.setSensor.ite h.setSensor

theorem takeObs (h : b.Meets K) {t} : (b.takeObs t).1.Meets K := h.units.foldl fun h => h.takeInput

theorem buildGrid (h : b.Meets K) {e head stopped} : (b.buildGrid e head stopped).Meets K := by
  unfold Blk.buildGrid
  extract_lets t pose ego g src src2 b1
  exact (h.took.units.takeObs.foldl fun h => h.maskStep).egoCheck.formBins.publish

theorem runEpoch (h : b.Meets K) {head} : (b.runEpoch head).Meets K := by
  unfold Blk.runEpoch
  refine h.when fun h => ?_
  extract_lets e stopped b1 src b2 b3 b4
  have h4 : b4.Meets K := by
    unfold b4
    split
    · exact (h.setFld.ite h).units
    · exact (h.setFld.ite h).units.switchModels.buildGrid.ite ((h.setFld.ite h).units.switchModels)
  exact h4.setFld.ite h4

theorem epochAbandon (h : b.Meets K) : b.epochAbandon.Meets K :=
  h.when fun h => h.units.setFld.setFld.ite h.units.setFld

theorem fusionEnable (h : b.Meets K) : b.fusionEnable.Meets K := by
  unfold Blk.fusionEnable
  split
  · extract_lets b1 b2 src
    have h2 : b2.Meets K := by
      unfold b2
      refine h.setFld.setFld.foldl fun h => ?_
      exact h.setSensor
    exact h2.units
  · exact h.setFld
  · exact h

theorem fusionDisable (h : b.Meets K) : b.fusionDisable.Meets K := h.setFld.ite h.setFld.units.setFld

theorem modelLoad (h : b.Meets K) {m} : (b.modelLoad m).Meets K := h.setFld.ite h.setModel.setFld

theorem modelImage (h : b.Meets K) {a} : (b.modelImage a).1.Meets K := by
  unfold Blk.modelImage
  exact h.xdRead.xdRead

theorem modelLoadComplete (h : b.Meets K) {m} : (b.modelLoadComplete m).Meets K := by
  unfold Blk.modelLoadComplete
  extract_lets x
  split
  · exact h
  · refine h.when fun h => ?_
    exact h.modelImage.setModel.ite h.modelImage.setModel.setFld.setFld

theorem sendContrib (h : b.Meets K) {m p fcnt at_ l} : (b.sendContrib m p fcnt at_ l).Meets K :=
  h.foldl fun h => h.emit

theorem writeDepth (h : b.Meets K) {m p first} : (b.writeDepth m p first).Meets K :=
  h.foldl fun h => (h.units.ite h).unitWrites.ite h

/-- The function is unfolded before it is applied: its body is a projection, which `unfold` would reduce too far. -/
theorem writeResult (h : b.Meets K) {m f words} : (b.writeResult m f words).Meets K := by
  generalize e : @Blk.writeResult = g
  delta Blk.writeResult at e
  subst e
  exact h.unitWrite.unitWrite.unitWrites.unitWrite

theorem frameInference (h : b.Meets K) {m p feats words} : (b.frameInference m p feats words).Meets K := by
  unfold Blk.frameInference
  extract_lets kind
  split
  · exact h
  · refine h.when fun h => ?_
    exact h.units.writeResult.ite (h.units.writeDepth.units.ite h.units.writeDepth.sendContrib)

theorem depthPoint (h : b.Meets K) {s o} : (b.depthPoint s o).Meets K := by
  unfold Blk.depthPoint
  split
  · exact h
  · split
    · exact h
    · split
      exacts [h, h.units]

theorem pointPacket (h : b.Meets K) {e port l} : (b.pointPacket e port l).Meets K := by
  unfold Blk.pointPacket
  refine h.when fun h => ?_
  extract_lets w r s seq b1 b2 time obs b3 b4 src b5
  split
  · exact h.addSat.ite h
  · have h1 : b1.Meets K := by
      unfold b1
      split
      exacts [h.ite h.addSat, h]
    have h3 : b3.Meets K := h1.incFld.foldl fun h => h.depthPoint
    refine h3.noteInput.units.when fun h => ?_
    exact h.units

/-! ### Sending on Ethernet -/

theorem ethSend (h : b.Meets K) {e o} : (b.ethSend e o).Meets K := (h.units.ite h.units).ite h

/-! ### Tasks of the engine -/

theorem feedback (h : b.Meets K) {t d} : (b.feedback t d).1.Meets K := by
  unfold Blk.feedback
  extract_lets mid
  split
  exacts [h.settleMem, h.refuse]

theorem modelAlign (h : b.Meets K) {t} : (b.modelAlign t).Meets K := by
  unfold Blk.modelAlign
  extract_lets -underBinder +implicits d
  split
  · exact h.setTask
  · split
    · split
      next c y z e =>
        have hc : c.Meets K := h.feedback.fstEq e
        exact hc.setWord.foldl fun h => h.setWord
    · exact h

theorem modelStep (h : b.Meets K) {t d} : (b.modelStep t d).1.Meets K := (h.foldl fun h => h.setWord).feedback.setWord

theorem sendOut (h : b.Meets K) {t e x v} : (b.sendOut t e x v).Meets K := by
  unfold Blk.sendOut
  extract_lets eng lane own
  split
  exacts [h.units.ite h.refuse, h.units.ite h.refuse, h.submit, h.sendStream, h]

theorem commitSafe (h : b.Meets K) {t} : (b.commitSafe t).Meets K :=
  h.foldl fun h => (h.sendOut.setTask.ite h.sendOut).ite h

theorem leave (h : b.Meets K) {t} : (b.leave t).Meets K := h.setCur.ite h

theorem toDisabled (h : b.Meets K) {t} : (b.toDisabled t).Meets K := h.setFld.setFld.setFld.setTask.leave

theorem disableByEn (h : b.Meets K) {t} : (b.disableByEn t).Meets K := h.toDisabled.commitSafe.ite h.toDisabled

theorem toIdle (h : b.Meets K) {t} : (b.toIdle t).Meets K := h.setFld.setTask.leave

theorem countAbort (h : b.Meets K) {t} : (b.countAbort t).Meets K := h.addSat.setFld

theorem abortBy (h : b.Meets K) {t m} : (b.abortBy t m).Meets K := by
  unfold Blk.abortBy
  extract_lets b1 b2
  split
  · split
    · exact h.countAbort.disableByEn.ite h.countAbort.disableByEn.commitSafe
    · exact h.countAbort.disableByEn.ite h.countAbort.disableByEn.commitSafe
    · exact h.countAbort.disableByEn
  · split
    · exact h.countAbort.toIdle.commitSafe
    · exact h.countAbort.toDisabled.commitSafe
    · exact h.countAbort.disableByEn
    · exact h.countAbort.toIdle

theorem miss (h : b.Meets K) {t detail} : (b.miss t detail).Meets K :=
  h.raise.setTask.ite ((h.raise.setTask.ite h.raise.setTask.abortBy).ite h.raise.setTask.setTask)

theorem deadlineReached (h : b.Meets K) {t} : (b.deadlineReached t).Meets K := h.when fun h => h.setTask.miss

theorem backstopReached (h : b.Meets K) {t} : (b.backstopReached t).Meets K := by
  unfold Blk.backstopReached
  split
  exacts [h.setTask.miss, h.setTask, h]

theorem missNow (h : b.Meets K) {t} : (b.missNow t).Meets K := h.deadlineReached.backstopReached

theorem taskEnable (h : b.Meets K) {t} : (b.taskEnable t).Meets K := by
  unfold Blk.taskEnable
  split
  exacts [h.setFld.setFld.setTask.modelAlign.ite h.setFld.setFld, h.setFld, h]

theorem taskDisable (h : b.Meets K) {t} : (b.taskDisable t).Meets K := by
  unfold Blk.taskDisable
  extract_lets b1
  split
  · exact h.missNow.disableByEn
  · exact h.missNow.disableByEn
  · exact h.missNow.setFld.setFld.setTask
  · exact h.missNow.setFld.setFld.setTask
  · exact h.missNow

theorem taskSwap (h : b.Meets K) {t} : (b.taskSwap t).Meets K := h.setFld.ite h.setFld

theorem taskPlClr (h : b.Meets K) {t} : (b.taskPlClr t).Meets K := h.setFld.setTask.modelAlign

theorem taskMan (h : b.Meets K) {t man} : (b.taskMan t man).Meets K := h.setFlag

theorem triggerArrival (h : b.Meets K) {t} : (b.triggerArrival t).Meets K := by
  unfold Blk.triggerArrival
  split
  · exact h
  · split
    · exact (h.takeTrig ‹_›).setTask.setFld
    · exact (h.takeTrig ‹_›).addSat.raise
    · exact (h.takeTrig ‹_›).addSat.raise
    · exact (h.takeTrig ‹_›).addSat.raise
    · exact (h.takeTrig ‹_›)

theorem missTick (h : b.Meets K) {t} : (b.missTick t).Meets K := h.setTask.ite h

theorem missTicks (h : b.Meets K) : b.missTicks.Meets K := h.foldl fun h => h.missTick

theorem missFlush (h : b.Meets K) : b.missFlush.Meets K := h.foldl fun h => h.missNow

theorem drainLimit (h : b.Meets K) {t} : (b.drainLimit t).Meets K := h.when fun h => h.abortBy

theorem instanceAbort (h : b.Meets K) {t} : (b.instanceAbort t).Meets K := by
  unfold Blk.instanceAbort
  extract_lets x
  refine h.when fun h => ?_
  exact h.missNow.abortBy

theorem setChan (h : b.Meets K) {c x} : (b.setChan c x).Meets K := h.units

theorem trackMiss (h : b.Meets K) {c} : (b.trackMiss c).Meets K := h.setChan.raise.took

theorem tickTrack (h : b.Meets K) : b.tickTrack.Meets K := h.foldl fun h => h.trackMiss

theorem preempt (h : b.Meets K) {e} : (b.preempt e).Meets K := by
  unfold Blk.preempt
  split
  · exact h
  · refine h.when fun h => ?_
    exact (h.setFld.ite h).setCur

theorem resume (h : b.Meets K) {e} : (b.resume e).Meets K := by
  unfold Blk.resume
  split
  · refine h.when fun h => ?_
    exact (h.setFld.ite h).setCur
  · exact h

theorem mailboxCopy (h : b.Meets K) {t d} : (b.mailboxCopy t d).Meets K := h.writeMem.ite h

theorem bankSwap (h : b.Meets K) {t} : (b.bankSwap t).Meets K := h.setFlag.setFld.ite h

theorem modeChange (h : b.Meets K) {t} : (b.modeChange t).Meets K := h.setTask.setFlag

theorem plausibility (h : b.Meets K) {t n m} : (b.plausibility t n m).1.Meets K := by
  unfold Blk.plausibility
  extract_lets x resN rngN quietN b1 detail v b2
  split
  · exact h.setTask.setFld.ite h.setTask
  · split
    · exact h.setTask
    · split
      · exact h.setTask.setFld.raise.setFld.setReg.setFld.setTask
      · exact h.setTask.setFld.raise.toDisabled.commitSafe
      · exact h.setTask.setFld.raise

theorem boundaryModel (h : b.Meets K) {t d} : (b.boundaryModel t d).1.Meets K :=
  iteFst (iteFst h.modelStep.plausibility h.modelStep) h

theorem startInstance (h : b.Meets K) {t d} : (b.startInstance t d).Meets K := h.incFld.setFld.setTask.setCur

theorem lateAlign (h : b.Meets K) {t} : (b.lateAlign t).Meets K := h.setTask.modelAlign.ite h

theorem sampleBoundary (h : b.Meets K) {e} : (b.sampleBoundary e).Meets K := by
  unfold Blk.sampleBoundary
  split
  · exact h
  · refine h.when fun h => ?_
    extract_lets b1 d b2 b3
    split
    · have h3 : b3.Meets K := h.missNow.lateAlign.mailboxCopy.bankSwap.modeChange
      split
      next c stopped e =>
        have hc : c.Meets K := h3.boundaryModel.fstEq e
        exact hc.ite hc.startInstance
    · exact h.missNow

theorem autoPrimary (h : b.Meets K) {t d u} : (b.autoPrimary t d u).1.Meets K :=
  iteFst (iteFst h.setTask.setWord h.setTask) h

theorem commitPrimary (h : b.Meets K) {t d} : (b.commitPrimary t d).1.Meets K := by
  unfold Blk.commitPrimary
  extract_lets x
  split
  · exact h.setTask
  · split
    exacts [h, h.autoPrimary.setTask.setReg]

theorem release (h : b.Meets K) {t} : (b.release t).Meets K := by
  unfold Blk.release
  extract_lets d
  split
  · exact h
  · split
    · extract_lets x
      refine (h.commitPrimary.fstEq ‹_›).foldl fun h => ?_
      split
      exacts [h.sendOut, h]

theorem commit (h : b.Meets K) {e} : (b.commit e).Meets K := by
  unfold Blk.commit
  split
  · exact h
  · refine h.when fun h => ?_
    exact h.missNow.release.disableByEn.ite h.missNow.release.toIdle

theorem keepCycles (h : b.Meets K) : b.keepCycles.Meets K := h.units

theorem occWindow (h : b.Meets K) {tile} : (b.occWindow tile).Meets K := h.when fun h => h.setFld.units

theorem graceEnd (h : b.Meets K) {tile} : (b.graceEnd tile).Meets K := by
  unfold Blk.graceEnd
  split
  · exact h
  · refine h.when fun h => ?_
    exact h.units.setFld.raise.ite h.units

/-! ### Step code -/

theorem countIssue (h : b.Meets K) {e n} : (b.countIssue e n).Meets K := h.setFld.units

theorem nextPc (h : b.Meets K) {t} : (b.nextPc t).Meets K := h.setTask

theorem issueB (h : b.Meets K) {e op n f}
    (hf : ∀ {b : Blk} {x y}, b.Meets K → (f b x y).Meets K) : (b.issueB e op n f).Meets K := by
  unfold Blk.issueB
  split
  exacts [h, (hf h).nextPc.countIssue]

theorem issueX (h : b.Meets K) {e op n f} : (b.issueX e op n f).Meets K := h.issueB fun h => h.setTask

theorem opIll (h : b.Meets K) {e} : (b.opIll e).Meets K := by
  unfold Blk.opIll
  split
  exacts [h, h.ite (h.missNow.countAbort.toDisabled.commitSafe.ite h.missNow)]

theorem opNop (h : b.Meets K) {e} : (b.opNop e).Meets K := h.issueX

theorem opEnd (h : b.Meets K) {e} : (b.opEnd e).Meets K := h.issueX

theorem opBr (h : b.Meets K) {e} : (b.opBr e).Meets K := by
  unfold Blk.opBr
  split
  exacts [h, h.setTask.countIssue.ite h.nextPc.countIssue]

theorem opAdd (h : b.Meets K) {e} : (b.opAdd e).Meets K := h.issueX

theorem opSub (h : b.Meets K) {e} : (b.opSub e).Meets K := h.issueX

theorem opAddw (h : b.Meets K) {e} : (b.opAddw e).Meets K := h.issueX

theorem opSubw (h : b.Meets K) {e} : (b.opSubw e).Meets K := h.issueX

theorem opMin (h : b.Meets K) {e} : (b.opMin e).Meets K := h.issueX

theorem opMax (h : b.Meets K) {e} : (b.opMax e).Meets K := h.issueX

theorem opAbs (h : b.Meets K) {e} : (b.opAbs e).Meets K := h.issueX

theorem opNeg (h : b.Meets K) {e} : (b.opNeg e).Meets K := h.issueX

theorem opAnd (h : b.Meets K) {e} : (b.opAnd e).Meets K := h.issueX

theorem opOr (h : b.Meets K) {e} : (b.opOr e).Meets K := h.issueX

theorem opXor (h : b.Meets K) {e} : (b.opXor e).Meets K := h.issueX

theorem opShl (h : b.Meets K) {e} : (b.opShl e).Meets K := h.issueX

theorem opShr (h : b.Meets K) {e} : (b.opShr e).Meets K := h.issueX

theorem opShrr (h : b.Meets K) {e} : (b.opShrr e).Meets K := h.issueX

theorem opMul (h : b.Meets K) {e} : (b.opMul e).Meets K := h.issueX

theorem opDiv (h : b.Meets K) {e} : (b.opDiv e).Meets K := h.issueX

theorem opMov (h : b.Meets K) {e} : (b.opMov e).Meets K := h.issueX

theorem opBcst (h : b.Meets K) {e} : (b.opBcst e).Meets K := h.issueX

theorem opMovl (h : b.Meets K) {e} : (b.opMovl e).Meets K := h.issueX

theorem opHsum (h : b.Meets K) {e} : (b.opHsum e).Meets K := h.issueX

theorem opCmpeq (h : b.Meets K) {e} : (b.opCmpeq e).Meets K := h.issueX

theorem opCmpne (h : b.Meets K) {e} : (b.opCmpne e).Meets K := h.issueX

theorem opCmplt (h : b.Meets K) {e} : (b.opCmplt e).Meets K := h.issueX

theorem opCmple (h : b.Meets K) {e} : (b.opCmple e).Meets K := h.issueX

theorem opCmpltu (h : b.Meets K) {e} : (b.opCmpltu e).Meets K := h.issueX

theorem opPand (h : b.Meets K) {e} : (b.opPand e).Meets K := h.issueX

theorem opPor (h : b.Meets K) {e} : (b.opPor e).Meets K := h.issueX

theorem opPnot (h : b.Meets K) {e} : (b.opPnot e).Meets K := h.issueX

theorem opPset (h : b.Meets K) {e} : (b.opPset e).Meets K := h.issueX

theorem opLdi (h : b.Meets K) {e} : (b.opLdi e).Meets K := h.issueX

theorem opLdih (h : b.Meets K) {e} : (b.opLdih e).Meets K := h.issueX

theorem opAddi (h : b.Meets K) {e} : (b.opAddi e).Meets K := h.issueX

theorem opCmul (h : b.Meets K) {e} : (b.opCmul e).Meets K := h.issueB fun h => h.setTask

theorem opCmac (h : b.Meets K) {e} : (b.opCmac e).Meets K := h.issueB fun h => h.setTask

theorem opCmsu (h : b.Meets K) {e} : (b.opCmsu e).Meets K := h.issueB fun h => h.setTask

theorem opClra (h : b.Meets K) {e} : (b.opClra e).Meets K := h.issueX

theorem opAdda (h : b.Meets K) {e} : (b.opAdda e).Meets K := h.issueX

theorem opAccr (h : b.Meets K) {e} : (b.opAccr e).Meets K := h.issueX

theorem opAccl (h : b.Meets K) {e} : (b.opAccl e).Meets K := h.issueX

theorem tileRead (h : b.Meets K) {t off n} : (b.tileRead t off n).1.Meets K := by
  unfold Blk.tileRead
  extract_lets a mid
  split
  exacts [h.settleMem, h.refuse]

theorem tileWrite (h : b.Meets K) {t off n v} : (b.tileWrite t off n v).1.Meets K := by
  unfold Blk.tileWrite
  extract_lets a mid
  split
  exacts [h.settleMem.writeMem, h.refuse]

theorem opLd (h : b.Meets K) {e} : (b.opLd e).Meets K := h.issueB fun h => h.ite h.tileRead.setTask

theorem opCld (h : b.Meets K) {e} : (b.opCld e).Meets K := by
  unfold Blk.opCld
  refine h.issueB fun h => ?_
  extract_lets +implicits m off one
  have hone : ∀ {c : Blk} {off m}, c.Meets K → (one c off m).Meets K := by
    intro c off m h
    unfold one
    split
    next d v e => exact (h.tileRead.fstEq e : d.Meets K).setTask
  clear_value one
  exact h.ite ((h.foldl fun h => (hone h).ite h).ite (hone h))

theorem opSt (h : b.Meets K) {e} : (b.opSt e).Meets K := by
  unfold Blk.opSt
  refine h.issueB fun h => ?_
  extract_lets x wide lane m off
  split
  next c deny e =>
    have hc : c.Meets K := by
      refine fstEq (iteFst h.tileWrite (foldlFst h fun h => iteFst ?_ h)) e
      split
      exacts [h.tileWrite.fstEq ‹_›]
    exact hc.setTask

theorem opLdx (h : b.Meets K) {e} : (b.opLdx e).Meets K := by
  unfold Blk.opLdx
  refine h.issueB fun h => ?_
  extract_lets -underBinder x m
  refine h.foldl fun h => ite ?_ h
  split
  next d v e => exact (h.tileRead.fstEq e : d.Meets K).setTask

theorem opGld (h : b.Meets K) {e} : (b.opGld e).Meets K := h.issueB fun h => h.ite h.setTask.submitGlobal

theorem opGst (h : b.Meets K) {e} : (b.opGst e).Meets K := by
  unfold Blk.opGst
  refine h.issueB fun h => ?_
  extract_lets x wide lane m ga one
  have hone : ∀ {c : Blk} {a width v}, c.Meets K → (one c a width v).Meets K := fun h => h.setTask.submitGlobal
  exact h.ite ((hone h).ite (h.foldl fun h => (hone h).ite h))

theorem takeResult (h : b.Meets K) {who c c'} (e : b.takeResult who = some (c, c')) : c'.Meets K := by
  unfold Blk.takeResult at e
  split at e
  · cases e
  · cases e
    exact h.units

theorem gldResponse (h : b.Meets K) {t n} : (b.gldResponse t n).Meets K := by
  unfold Blk.gldResponse
  split
  · exact h
  · extract_lets x
    split
    exacts [(h.takeResult ‹_›), (h.takeResult ‹_›).setTask]

theorem gstComplete (h : b.Meets K) {t n} : (b.gstComplete t n).Meets K := by
  unfold Blk.gstComplete
  split
  exacts [h, (h.takeResult ‹_›).setTask.ite (h.takeResult ‹_›)]

theorem opSmp (h : b.Meets K) {e} : (b.opSmp e).Meets K := h.issueB fun h => h.setTask.ite h

theorem opTbr (h : b.Meets K) {e} : (b.opTbr e).Meets K := h.issueB fun h => h.setTask.ite h

theorem opOut (h : b.Meets K) {e} : (b.opOut e).Meets K :=
  h.issueB fun h => h.ite ((h.setTask.ite h).ite (h.setTask.ite h))

theorem opFlg (h : b.Meets K) {e} : (b.opFlg e).Meets K := h.issueX

/-! ### Yield -/

theorem showFull (h : b.Meets K) : b.showFull.Meets K := h.setFlag

theorem ledgerPut (h : b.Meets K) {e} : (b.ledgerPut e).Meets K := (h.units.ite (h.units.ite h.addSat)).showFull

theorem ledgerDrain (h : b.Meets K) {n} : (b.ledgerDrain n).Meets K := by
  induction n generalizing b with
  | zero => exact h
  | succ n ih =>
    unfold Blk.ledgerDrain
    extract_lets b1
    split
    · exact ih h.showFull.units.ledgerPut
    · exact h.showFull

theorem setAck (h : b.Meets K) {v} : (b.setAck v).Meets K := h.setReg.ledgerDrain

theorem ledgerRec (h : b.Meets K) {type kind flags o1 c1 o2 c2 area dry harv} :
    (b.ledgerRec type kind flags o1 c1 o2 c2 area dry harv).Meets K := h.units.ledgerPut.incFld

theorem cutGround (h : b.Meets K) {on x y} : (b.cutGround on x y).Meets K := h.units.ite h.units

theorem giveOut (h : b.Meets K) : b.giveOut.Meets K := h.units

theorem accrueTo (h : b.Meets K) {y} : (b.accrueTo y).Meets K := h.cutGround.units

theorem settle (h : b.Meets K) {n} : (b.settle n).Meets K := by
  induction n generalizing b with
  | zero => exact h
  | succ n ih =>
    unfold Blk.settle
    split
    · exact h.accrueTo
    · exact (ih h.accrueTo.units).ite h.accrueTo

theorem asAccepted (h : b.Meets K) : b.asAccepted.Meets K := h.units.settle

theorem showTotals (h : b.Meets K) : b.showTotals.Meets K := h.setReg.setReg.setReg

theorem settleAll (h : b.Meets K) : b.settleAll.Meets K := h.ite h.settle.giveOut.showTotals

theorem accrInput (h : b.Meets K) {i} : (b.accrInput i).Meets K := h.ite (h.setFld.units.ite h.setFld.units)

theorem potTick (h : b.Meets K) {moved} : (b.potTick moved).Meets K := h.units

theorem accrAccept (h : b.Meets K) {i} : (b.accrAccept i).Meets K := by
  unfold Blk.accrAccept
  split
  · exact h
  · refine h.when fun h => ?_
    exact h.setFld.units.settleAll

theorem tileClose (h : b.Meets K) : b.tileClose.Meets K := by
  unfold Blk.tileClose
  split
  exacts [h, h.units]

theorem joinTile (h : b.Meets K) {c} : (b.joinTile c).Meets K := h.units.tileClose.ite h.units

theorem cellClose (h : b.Meets K) : b.cellClose.Meets K := by
  unfold Blk.cellClose
  split
  exacts [h, h.when fun h => h.joinTile]

theorem massFlowRead (h : b.Meets K) : b.massFlowRead.Meets K := by
  unfold Blk.massFlowRead
  extract_lets due
  refine h.when fun h => ?_
  exact h.units.settleAll

theorem fieldLoadRow (h : b.Meets K) {slot} : (b.fieldLoadRow slot).Meets K := (h.tileClose.ite h).fieldLoad

theorem dayBoundary (h : b.Meets K) : b.dayBoundary.Meets K := h.setReg64

theorem closeRecord (h : b.Meets K) {kind p restart c1 c2} : (b.closeRecord kind p restart c1 c2).Meets K :=
  h.ledgerRec

theorem openHour (h : b.Meets K) : b.openHour.Meets K := h.units

theorem openDay (h : b.Meets K) : b.openDay.Meets K := h.units.dayBoundary.raise.ite h.units.dayBoundary

theorem checkNow (h : b.Meets K) : b.checkNow.Meets K := h.units

theorem seqKept (h : b.Meets K) : b.seqKept.Meets K := h.setReg.showFull

theorem ledgerRestart (h : b.Meets K) : b.ledgerRestart.Meets K := by
  unfold Blk.ledgerRestart
  extract_lets k src b1 b2 b3 b4 b5 b6 src2 b7
  split
  · exact h
  · have h3 : b3.Meets K := h.units.closeRecord.closeRecord
    have h6 : b6.Meets K := h3.ledgerRec.raise.setFld
    exact h6.units.openHour.openDay.checkNow.showTotals

theorem ledgerBegin (h : b.Meets K) : b.ledgerBegin.Meets K := h.ite h.units.ledgerRestart

theorem jobOpen (h : b.Meets K) : b.jobOpen.Meets K := by
  unfold Blk.jobOpen
  refine h.when fun h => ?_
  extract_lets b1 u changes b2 b3 b4
  split
  · exact h.ledgerBegin.setFld
  · exact h.ledgerBegin.units.setFld.ledgerRec.openHour.openDay.checkNow.showTotals

theorem jobClose (h : b.Meets K) : b.jobClose.Meets K := h.when fun h => h.settleAll.setFld.units.checkNow

theorem jobCloseComplete (h : b.Meets K) : b.jobCloseComplete.Meets K := by
  unfold Blk.jobCloseComplete
  refine h.when fun h => ?_
  extract_lets src b1 now b2 b3 b4 p b5 src2 b6 b7
  have h2 : b2.Meets K := h.units.settleAll.closeRecord
  have h4 : b4.Meets K := h2.closeRecord.closeRecord
  have h7 : b7.Meets K := h4.ledgerRec.units.foldl fun h => h.joinTile
  exact h7.tileClose.setFld.checkNow

theorem hourClose (h : b.Meets K) : b.hourClose.Meets K := h.when fun h => h.settleAll.closeRecord.units.checkNow

theorem dayClose (h : b.Meets K) : b.dayClose.Meets K :=
  h.when fun h => h.hourClose.settleAll.closeRecord.openDay.units.checkNow

theorem clockStep (h : b.Meets K) {d before} : (b.clockStep d before).Meets K := by
  unfold Blk.clockStep
  refine h.when fun h => ?_
  extract_lets b1 u src src2 src3 b2 b3 src4 b4 ms
  have h3 : b3.Meets K := h.ledgerRec.units.addSat.dayBoundary
  exact (h3.units.raise.ite (h3.units.raise.ite h3.units)).checkNow

theorem checkpoint (h : b.Meets K) : b.checkpoint.Meets K := h.when fun h => h.settleAll.checkNow

theorem yldFlush (h : b.Meets K) : b.yldFlush.Meets K :=
  h.when fun h => (h.foldl fun h => h.accrAccept).hourClose.dayClose.jobCloseComplete

theorem accrTick (h : b.Meets K) {moved edges} : (b.accrTick moved edges).Meets K :=
  h.when fun h => (h.ledgerBegin.potTick.foldl fun h => h.accrInput).ite h.ledgerBegin.potTick

theorem writePages (h : b.Meets K) {f} : (b.writePages f).Meets K := h.units.showFull

theorem journalFlush (h : b.Meets K) : b.journalFlush.Meets K := h.when fun h => h.writePages

theorem journalFlushAll (h : b.Meets K) : b.journalFlushAll.Meets K := h.writePages

theorem exportStart (h : b.Meets K) : b.exportStart.Meets K := h.when fun h => h.units.setFld

theorem exportDone (h : b.Meets K) : b.exportDone.Meets K := h.when fun h => h.unitWrites.setReg.setFld.setFld

/-! ### CAN and the task controller -/

theorem setCan (h : b.Meets K) {k x} : (b.setCan k x).Meets K := h.units

theorem canSend (h : b.Meets K) {k f} : (b.canSend k f).Meets K := h.setCan

theorem stackSend (h : b.Meets K) {k prio pf ps sa data} : (b.stackSend k prio pf ps sa data).Meets K := h.canSend

theorem tpOpen (h : b.Meets K) {k} : (b.tpOpen k).Meets K := by
  unfold Blk.tpOpen
  split
  exacts [h, h.stackSend.ite h.stackSend]

theorem tpSend (h : b.Meets K) {k dst pgn l} : (b.tpSend k dst pgn l).Meets K :=
  h.stackSend.ite (h.setCan.tpOpen.ite h.setCan)

theorem tpWindow (h : b.Meets K) {k m ext first n} : (b.tpWindow k m ext first n).Meets K :=
  h.foldl fun h => h.stackSend

theorem tpClear (h : b.Meets K) {k sa ext n next} : (b.tpClear k sa ext n next).Meets K := by
  unfold Blk.tpClear
  split
  exacts [h, h.ite ((h.stackSend.ite h).tpWindow)]

theorem tpClose (h : b.Meets K) {k sa} : (b.tpClose k sa).Meets K := by
  unfold Blk.tpClose
  extract_lets x
  split
  exacts [h, h.setCan.tpOpen.ite h]

theorem tcSend (h : b.Meets K) {k sa cmd head v} : (b.tcSend k sa cmd head v).Meets K := h.stackSend

theorem processData (h : b.Meets K) {k sa d} : (b.processData k sa d).Meets K := by
  unfold Blk.processData
  extract_lets cmd head limit nack
  clear_value cmd
  split
  · exact h.foldl fun h => h.tpSend
  · exact h.foldl fun h => h.tpSend
  · exact h.tcSend
  · exact h.tcSend
  · exact h.setCan
  · exact h.setCan
  · exact h.setCan
  · exact h.setCan
  · exact h.setCan
  · exact h.tcSend
  · exact h.tcSend
  · exact h.tcSend
  · exact h.tcSend
  · exact h.tcSend
  · exact h.tcSend
  · exact h

theorem tickTc (h : b.Meets K) {k} : (b.tickTc k).Meets K := h.ite (h.setCan.foldl fun h => h.tcSend)

/-! ### The tick -/

theorem tickFt (h : b.Meets K) : b.tickFt.Meets K := h.setReg64.units.ite h

theorem tickDead (h : b.Meets K) : b.tickDead.Meets K := h.ite (h.units.foldl fun h => h.raise)

/-- The equation is taken of the function, since the kernel would compare the bodies of its applications too slowly. -/
theorem tickTimebases (h : b.Meets K) : b.tickTimebases.1.Meets K := by
  have E : @Blk.tickTimebases = fun b =>
      let (b, step) := b.tickTb0.tickTb1.tickTb2
      (((List.range 13).foldl (fun b k => b.tickBuilt (k + 3)) b).tickFt, step) := rfl
  rw [congrFun E b]
  split
  next c step e =>
    have hc : c.Meets K := h.tickTb0.tickTb1.tickTb2.fstEq e
    exact (hc.foldl fun h => h.tickBuilt).tickFt

theorem tickSlots (h : b.Meets K) {old wasValid} : (b.tickSlots old wasValid).Meets K :=
  h.setFld.units.validChange.units.resolveWindows

theorem tickEpoch (h : b.Meets K) : b.tickEpoch.Meets K := h.units.ite h

theorem tbuTick (h : b.Meets K) : b.tbuTick.Meets K := by
  unfold Blk.tbuTick
  refine h.when fun h => ?_
  extract_lets b1 old wasValid
  have h1 : b1.Meets K := h.addPulses.fireDue.missFlush.yldFlush
  split
  · extract_lets b2 moved b3 b4 b5
    have h2 : b2.Meets K := (h1.tickTimebases.fstEq ‹_›).tickSlots.missTicks.encTick
    have h4 : b4.Meets K := h2.accrTick.foldl fun h => h.impTick
    have h5 : b5.Meets K := h4.takeSnap.tickEpoch.tickDead.tickTrack.tickTc.tickTc.took
    split
    exacts [h5, h5.clockStep]

/-! ### GNSS -/

theorem chEnter (h : b.Meets K) {c s} : (b.chEnter c s).Meets K := h.setFld.setChan

theorem channelAssign (h : b.Meets K) {c cands} : (b.channelAssign c cands).Meets K := by
  unfold Blk.channelAssign
  split
  · exact h
  · refine h.when fun h => ?_
    exact h.setReg.setChan.chEnter

theorem channelRelease (h : b.Meets K) {c elev} : (b.channelRelease c elev).Meets K :=
  h.when fun h => h.setChan.chEnter

theorem correlatorDump (h : b.Meets K) {c iq cn0 doppler aid osc} :
    (b.correlatorDump c iq cn0 doppler aid osc).Meets K :=
  h.when fun h => h.setFld.setChan.ite h.setFld.setSFld.setChan

theorem signalFound (h : b.Meets K) {c code doppler pred} : (b.signalFound c code doppler pred).Meets K :=
  h.when fun h => h.setSFld.setChan.chEnter

theorem enterTrack (h : b.Meets K) {c slip} : (b.enterTrack c slip).Meets K := h.chEnter.ite h.chEnter.setChan

theorem pullInLock (h : b.Meets K) {c since} : (b.pullInLock c since).Meets K := h.when fun h => h.enterTrack

theorem pullInTimeout (h : b.Meets K) {c} : (b.pullInTimeout c).Meets K := h.when fun h => h.chEnter

theorem coastEntry (h : b.Meets K) {c since sigV sigA} : (b.coastEntry c since sigV sigA).Meets K :=
  h.when fun h => h.chEnter.setChan

theorem coastExit (h : b.Meets K) {c since} : (b.coastExit c since).Meets K :=
  h.when fun h => h.setFld.enterTrack.ite h.setFld.addSat.enterTrack.setChan

theorem coastTimeout (h : b.Meets K) {c} : (b.coastTimeout c).Meets K := h.when fun h => h.addSat.chEnter

theorem setBand (h : b.Meets K) {i x} : (b.setBand i x).Meets K := h.units

theorem countNotches (h : b.Meets K) {i} : (b.countNotches i).Meets K := h.setFld

theorem notchFollow (h : b.Meets K) {i lines k} : (b.notchFollow i lines k).Meets K := by
  unfold Blk.notchFollow
  split
  · extract_lets line b1 low x old
    have h1 : b1.Meets K := by
      unfold b1
      clear_value line
      split
      exacts [h.setSFld, h]
    exact h1.setBand
  · exact h

theorem notchEngage (h : b.Meets K) {i l} : (b.notchEngage i l).Meets K := by
  induction l generalizing b with
  | nil => exact h
  | cons x l ih =>
    unfold Blk.notchEngage
    split
    · exact ih h.setFld.setSFld.setBand
    · exact h.ite h.setBand.raise

theorem spectrumScan (h : b.Meets K) {ant band lines} : (b.spectrumScan ant band lines).Meets K :=
  h.when fun h => (h.setBand.foldl fun h => h.notchFollow).notchEngage.countNotches

theorem notchRelease (h : b.Meets K) {ant band k} : (b.notchRelease ant band k).Meets K := by
  unfold Blk.notchRelease
  extract_lets i
  split
  · exact h
  · refine h.when fun h => ?_
    exact h.setBand.setReg.countNotches

theorem showJam (h : b.Meets K) : b.showJam.Meets K := h.setFlag

theorem jamEvaluation (h : b.Meets K) {ant band agc sf} : (b.jamEvaluation ant band agc sf).Meets K := by
  unfold Blk.jamEvaluation
  refine h.when fun h => ?_
  extract_lets i b1 jam x x2 b2
  split
  · exact (h.setSFld.setFld.setBand.setFld.ite h.setSFld.setFld.setBand).showJam
  · exact h.setSFld.setFld.setBand.setFld.showJam.raise.ite h.setSFld.setFld.setBand

theorem navSolution (h : b.Meets K) {x} : (b.navSolution x).Meets K := by
  unfold Blk.navSolution
  refine h.when fun h => ?_
  extract_lets status src b1 hdgV nav g b2 b3 b4 src' b5
  have h3 : b3.Meets K := (h.units.ite h).units.setFlag
  have h4 : b4.Meets K := by
    unfold b4
    split
    exacts [h3.setFld.setFld, h3]
  have h5 : b5.Meets K := by
    unfold b5
    split
    exacts [h4.ite h4.units, h4]
  exact h5.sendStream

theorem navSnap (h : b.Meets K) : b.navSnap.Meets K := h.foldl fun h => h.setReg

theorem epochEnd (h : b.Meets K) : b.epochEnd.Meets K := by
  unfold Blk.epochEnd
  split
  exacts [h, h.units]

theorem joinEpoch (h : b.Meets K) {at_ m} : (b.joinEpoch at_ m).Meets K := (h.epochEnd.ite h).units

theorem useStation (h : b.Meets K) {id} : (b.useStation id).Meets K := h.setFld.units.ite h.setFld

theorem station (h : b.Meets K) {m id} : (b.station m id).Meets K :=
  h.useStation.units.units.foldl fun h => h.joinEpoch

theorem rtcmFrame (h : b.Meets K) {f} : (b.rtcmFrame f).Meets K := by
  unfold Blk.rtcmFrame
  refine h.when fun h => ?_
  split
  · exact h.addSat
  · extract_lets n b1 id src
    split
    · exact h.addSat
    · exact h.incFld.station.ite ((h.incFld.useStation.joinEpoch.ite h.incFld.units).ite h.incFld)

theorem correctionClose (h : b.Meets K) : b.correctionClose.Meets K := h.when fun h => h.epochEnd

theorem tb0Invalid (h : b.Meets K) : b.tb0Invalid.Meets K := h.setFld.validChange

theorem tb0Reach (h : b.Meets K) {g} : (b.tb0Reach g).Meets K := h.units.ite h.units

theorem timeLock (h : b.Meets K) {since g} : (b.timeLock since g).Meets K := h.when fun h => h.units.setFld.tb0Reach

theorem tb0Free (h : b.Meets K) : b.tb0Free.Meets K := h.units

theorem toHoldover (h : b.Meets K) {err} : (b.toHoldover err).Meets K := h.units.setFld.setReg.raise

theorem timeLost (h : b.Meets K) {err} : (b.timeLost err).Meets K :=
  h.units.toHoldover.ite (h.units.tb0Free.ite h.units)

theorem holdoverEntry (h : b.Meets K) {err} : (b.holdoverEntry err).Meets K := h.when fun h => h.timeLost

theorem holdoverLimit (h : b.Meets K) {err} : (b.holdoverLimit err).Meets K :=
  h.when fun h => h.setFld.setFld.units.tb0Invalid.setFld.raise.ite h.setFld.setFld

theorem lockReturn (h : b.Meets K) {g} : (b.lockReturn g).Meets K := by
  unfold Blk.lockReturn
  refine h.when fun h => ?_
  extract_lets off b1 src src2 b2
  split
  · exact h.setFld.units.setFld.ite h.setFld.units.setFld.tb0Reach
  · exact h.setFld.tb0Invalid.raise.tb0Reach

theorem ppsSecond (h : b.Meets K) : b.ppsSecond.Meets K := h.when fun h => h.units

theorem ppsWidthEnd (h : b.Meets K) : b.ppsWidthEnd.Meets K := h.when fun h => h.units

theorem nmeaOutput (h : b.Meets K) : b.nmeaOutput.Meets K := h.when fun h => h.units.ethSend

theorem gnssEnable (h : b.Meets K) : b.gnssEnable.Meets K := by
  unfold Blk.gnssEnable
  extract_lets was b1
  refine h.setFld.when fun h => ?_
  refine h.foldl fun h => ?_
  exact h.setFld.setChan

theorem gnssDisable (h : b.Meets K) {err} : (b.gnssDisable err).Meets K := by
  unfold Blk.gnssDisable
  extract_lets was b1
  refine h.setFld.when fun h => ?_
  extract_lets b2
  have h2 : b2.Meets K := by
    unfold b2
    refine h.foldl fun h => ?_
    exact h.ite h.setChan
  exact h2.timeLost

theorem antennaBias (h : b.Meets K) {ant ua} : (b.antennaBias ant ua).Meets K := h.when fun h => h.setFlag

/-! ### The fabric -/

theorem setPort (h : b.Meets K) {p x} : (b.setPort p x).Meets K := h.units

theorem setPortState (h : b.Meets K) {p s} : (b.setPortState p s).Meets K := h.setFld.units

theorem send (h : b.Meets K) {p w} : (b.send p w).Meets K := h.setPort

theorem emitAt (h : b.Meets K) {p k} : (b.emitAt p k).Meets K := h.setPort

theorem topoChange (h : b.Meets K) : b.topoChange.Meets K := h.units

theorem crcError (h : b.Meets K) {p} : (b.crcError p).Meets K := h.setPort.raise.ite h.setPort

theorem crcEpisodeEnd (h : b.Meets K) {p} : (b.crcEpisodeEnd p).Meets K := h.when fun h => h.setPort

theorem badHeader (h : b.Meets K) {p} : (b.badHeader p).Meets K := h.addSat.crcError

theorem badPayload (h : b.Meets K) {p bad} : (b.badPayload p bad).Meets K := h.addSat.crcError.ite h

theorem discard (h : b.Meets K) {p} : (b.discard p).Meets K := h.addSat.ite h

theorem consume (h : b.Meets K) {p k} : (b.consume p k).Meets K := h.setPort.ite h

theorem creditFlit (h : b.Meets K) {p n crcOk} : (b.creditFlit p n crcOk).Meets K := h.when fun h => h.setPort

theorem creditSend (h : b.Meets K) {p} : (b.creditSend p).Meets K := h.when fun h => h.setPort

theorem deliverRec (h : b.Meets K) {r} : (b.deliverRec r).Meets K := by
  unfold Blk.deliverRec
  split
  · extract_lets src b1 b2
    have h2 : b2.Meets K := h.units.addSat.ite h.units
    split
    exacts [h2.logFault, h2]

theorem coalesceEnd (h : b.Meets K) {p} : (b.coalesceEnd p).Meets K := by
  unfold Blk.coalesceEnd
  extract_lets t
  split
  · exact h
  · extract_lets rest src b1
    split
    · split
      exacts [h.setPort.emitAt, h.setPort]
    · split
      exacts [h.units.logFault, h.units]

theorem finish (h : b.Meets K) {o status data} : (b.finish o status data).Meets K := by
  unfold Blk.finish
  extract_lets src b1 src2 b2
  have h2 : b2.Meets K := h.units.units.ite h.units
  split
  exacts [h2.xferDone, h2.answer]

theorem nak (h : b.Meets K) {k status} : (b.nak k status).Meets K := by
  unfold Blk.nak
  extract_lets op
  split
  · split
    exacts [h.finish, h]
  · exact h.emit

theorem updateBest (h : b.Meets K) : b.updateBest.Meets K := by
  unfold Blk.updateBest
  extract_lets was
  split
  · exact (h.setFld.foldl fun h => h.setFld.setFld).units
  · extract_lets held b1 b2 own src b3 src2
    have h2 : b2.Meets K := h.setFld.setFlag.foldl fun h => h.setFlag.setFlag
    exact h2.units.units.topoChange.ite (h2.units.units.ite h2.units)

theorem unqueue (h : b.Meets K) {e r} : (b.unqueue e r).Meets K := h.setPort.ite (h.setPort.consume.ite h.units)

theorem putOut (h : b.Meets K) {e k pcrc} : (b.putOut e k pcrc).Meets K := h.setPort.setFld

theorem transmit (h : b.Meets K) {e k pcrc} : (b.transmit e k pcrc).Meets K := by
  unfold Blk.transmit
  split
  · extract_lets x
    split
    · extract_lets b1 b2
      have h2 : b2.Meets K := h.setPort.addSat.ite h.setPort
      split
      exacts [h2.putOut, h2]
  · exact h.putOut.units.ite h.putOut

theorem startNext (h : b.Meets K) {e} : (b.startNext e).Meets K := by
  unfold Blk.startNext
  split
  · exact h
  · split
    exacts [h, h.setPort.unqueue.transmit]

theorem dropStuck (h : b.Meets K) {ingress k status} : (b.dropStuck ingress k status).Meets K :=
  (h.consume.addSat.ite h.consume.discard).nak.ite (h.consume.discard.ite h.consume.discard)

theorem spread (h : b.Meets K) {ingress k l} : (b.spread ingress k l).Meets K := h.consume.foldl fun h => h.emitAt

theorem streamWrite (h : b.Meets K) {mid a v e} : (b.streamWrite mid a v e).1.Meets K := by
  unfold Blk.streamWrite
  split
  exacts [h.refuse, h.enqueue]

theorem streamDeliver (h : b.Meets K) {mid e payload} : (b.streamDeliver mid e payload).Meets K := by
  unfold Blk.streamDeliver
  extract_lets a order b1
  have h1 : b1.Meets K := by
    refine h.foldl fun h => ?_
    split
    next c bad e' =>
      have hc : c.Meets K := h.streamWrite.fstEq e'
      exact hc.addSat.ite hc
  exact h1.incFld

theorem streamMatch (h : b.Meets K) {mid k} : (b.streamMatch mid k).Meets K := by
  unfold Blk.streamMatch
  split
  exacts [h.addSat, h.addSat.ite h.streamDeliver]

theorem toSelf (h : b.Meets K) {k} : (b.toSelf k).Meets K := h.streamMatch.ite h

theorem clearOne (h : b.Meets K) {ingress k take}
    (hf : ∀ {b : Blk}, b.Meets K → (take b).Meets K) : (b.clearOne ingress k take).Meets K := by
  unfold Blk.clearOne
  split
  exacts [(hf h).dropStuck, (hf h).consume.holdRec, (hf h).spread, (hf h).consume.toSelf, h]

theorem clearOwn (h : b.Meets K) {p} : (b.clearOwn p).Meets K :=
  h.foldl fun h => h.ite (h.setPort.discard.nak.ite h.setPort.discard)

theorem clearStuck (h : b.Meets K) : b.clearStuck.Meets K := by
  unfold Blk.clearStuck
  extract_lets b1 b2
  have h1 : b1.Meets K := by
    unfold b1
    refine h.foldl fun h => ?_
    refine h.foldl fun h => ?_
    refine h.clearOne fun h => ?_
    exact h.setPort
  have h2 : b2.Meets K := by
    unfold b2
    refine h1.foldl fun h => ?_
    refine h.clearOne fun h => ?_
    exact h.units
  exact h2.foldl fun h => h.clearOwn

theorem arrive (h : b.Meets K) {p k hcrc pcrc} : (b.arrive p k hcrc pcrc).Meets K :=
  h.ite (h.badHeader.consume.ite (h.discard.consume.ite h.badPayload.setPort))

theorem packetForward (h : b.Meets K) {e arr} : (b.packetForward e arr).Meets K := by
  unfold Blk.packetForward
  refine h.when fun h => ?_
  extract_lets b1
  have h1 : b1.Meets K := by
    unfold b1
    split
    exacts [h.ite h.arrive, h]
  exact h1.clearStuck.startNext

theorem sendRequest (h : b.Meets K) {r t} : (b.sendRequest r t).Meets K := h.units.units.emit

theorem xferSend (h : b.Meets K) {x tag t} : (b.xferSend x tag t).Meets K :=
  (h.xdRead.units.foldl fun h => h.submit).ite h.xdRead.units.units.emit

theorem remoteRequestSend (h : b.Meets K) {x} : (b.remoteRequestSend x).Meets K := by
  unfold Blk.remoteRequestSend
  refine h.when fun h => ?_
  split
  · split
    exacts [h.sendRequest, h]
  · split
    exacts [h.ite h.xferSend, h]

theorem transferStart (h : b.Meets K) {x go} : (b.transferStart x go).Meets K := by
  unfold Blk.transferStart
  extract_lets start
  have hs : ∀ {c : Blk}, c.Meets K → (start c).Meets K := fun h => h.addSat.ite h.setFld.units
  split
  · exact h.when hs
  · split
    exacts [h, (h.takeTrig ‹_›).when hs]

theorem transferDone (h : b.Meets K) {x} : (b.transferDone x).Meets K := by
  have hr : b.respond.Meets K := h.respond
  unfold Blk.transferDone
  generalize b.respond = c at hr
  split
  · exact (hr.units.setFld.setFld.setFld.ite hr.units.setFld.setFld.setFld.setFld).ite hr
  · exact hr

theorem request (h : b.Meets K) {p k pcrc edge} : (b.request p k pcrc edge).Meets K := by
  unfold Blk.request
  extract_lets read op width n i one
  refine h.when fun h => ?_
  extract_lets b1 src b2 b3
  have h1 : b1.Meets K := h.badPayload.consume
  have h3 : b3.Meets K := h1.units.submitRemote.ite (h1.units.foldl fun h => h.submitRemote)
  exact h1.emit.ite h3.respond

theorem rdReq (h : b.Meets K) {p k pcrc edge} : (b.rdReq p k pcrc edge).Meets K := h.when fun h => h.request

theorem wrReq (h : b.Meets K) {p k pcrc edge} : (b.wrReq p k pcrc edge).Meets K := h.when fun h => h.request

theorem responseIn (h : b.Meets K) {p k pcrc} : (b.responseIn p k pcrc).Meets K := by
  unfold Blk.responseIn
  refine h.when fun h => ?_
  extract_lets b1
  split
  exacts [h.badPayload.consume.addSat, h.badPayload.consume.finish]

theorem rdRsp (h : b.Meets K) {p k pcrc} : (b.rdRsp p k pcrc).Meets K := h.when fun h => h.responseIn

theorem wrRsp (h : b.Meets K) {p k pcrc} : (b.wrRsp p k pcrc).Meets K := h.when fun h => h.responseIn

theorem countDead (h : b.Meets K) {subject} : (b.countDead subject).Meets K := h.units

theorem responseTimeout (h : b.Meets K) {mid tag} : (b.responseTimeout mid tag).Meets K := by
  unfold Blk.responseTimeout
  split
  exacts [h, h.when fun h => h.finish.countDead]

theorem streamIn (h : b.Meets K) {p k pcrc} : (b.streamIn p k pcrc).Meets K :=
  h.when fun h => h.badPayload.consume.discard.ite h.badPayload.consume.streamMatch

theorem contribIn (h : b.Meets K) {p k pcrc} : (b.contribIn p k pcrc).Meets K := by
  unfold Blk.contribIn
  refine h.when fun h => ?_
  extract_lets b1 pl named
  split
  · exact h.badPayload.consume.discard
  · clear_value named
    split
    · exact h.badPayload.consume
    · refine h.badPayload.consume.when fun h => ?_
      exact h.noteInput.units

theorem faultIn (h : b.Meets K) {p k pcrc} : (b.faultIn p k pcrc).Meets K := by
  unfold Blk.faultIn
  refine h.when fun h => ?_
  extract_lets b1 r
  split
  · exact h.badPayload.consume.discard
  · exact h.badPayload.consume.deliverRec.ite h.badPayload.consume.holdRec

theorem faultRecordSend (h : b.Meets K) : b.faultRecordSend.Meets K := by
  unfold Blk.faultRecordSend
  split
  · exact h
  · refine h.when fun h => ?_
    exact (h.units.ite h.units.deliverRec).ite h.units.emit

theorem trainingAttempt (h : b.Meets K) {p} : (b.trainingAttempt p).Meets K := by
  unfold Blk.trainingAttempt
  extract_lets x due
  refine h.when fun h => ?_
  exact h.setPort.setPortState.send.took

theorem trainFlit (h : b.Meets K) {p sport snode crcOk} : (b.trainFlit p sport snode crcOk).Meets K :=
  h.when fun h => h.setFld.setFld.setPortState.raise.ite h.setFld.setFld.setPort

theorem linkUp (h : b.Meets K) {p} : (b.linkUp p).Meets K := h.when fun h => h.setPort.setPortState.updateBest

theorem linkGone (h : b.Meets K) {p} : (b.linkGone p).Meets K := h.setPort.setFld.setFld.updateBest

theorem linkDown (h : b.Meets K) {p sync} : (b.linkDown p sync).Meets K :=
  h.when fun h => h.addSat.setPortState.linkGone.raise.ite h.addSat.setPortState

theorem idleFlit (h : b.Meets K) {p sync} : (b.idleFlit p sync).Meets K := h.when fun h => h.addSat

theorem portEnable (h : b.Meets K) {p} : (b.portEnable p).Meets K := h.setFld.ite h.setFld.setPort.setPortState

theorem cutRequests (h : b.Meets K) {p} : (b.cutRequests p).Meets K := h.foldl fun h => h.addSat.finish

theorem portDisable (h : b.Meets K) {p} : (b.portDisable p).Meets K := by
  unfold Blk.portDisable
  extract_lets was b1 b2 up own src b3 b4 b5
  split
  · exact h.setFld
  · have h2 : b2.Meets K := h.setFld.send.cutRequests
    have h5 : b5.Meets K := by
      unfold b5
      refine h2.setPort.setPortState.foldl fun h => ?_
      exact h.addSat.nak.ite h.discard
    exact (h5.linkGone.ite h5).clearStuck

/-! ### Limp -/

theorem setValve (h : b.Meets K) {c x} : (b.setValve c x).Meets K := h.units

theorem setSwitch (h : b.Meets K) {c x} : (b.setSwitch c x).Meets K := h.units

theorem setComp (h : b.Meets K) {k x} : (b.setComp k x).Meets K := h.units

theorem takeLink (h : b.Meets K) {f m c'} (e : b.takeLink f = some (m, c')) : c'.Meets K := by
  unfold Blk.takeLink at e
  split at e
  · cases e
  · cases e
    exact h.units

/-! ### Valve channels -/

theorem setSol (h : b.Meets K) {c n} : (b.setSol c n).Meets K := h.setFld

theorem solFast (h : b.Meets K) {c} : (b.solFast c).Meets K :=
  h.setFld.setFld.setValve.ite h.setFld.setFld.setValve.setSol

theorem solForget (h : b.Meets K) {c} : (b.solForget c).Meets K := h.setValve

theorem solStop (h : b.Meets K) {c} : (b.solStop c).Meets K := h.solFast.solForget

theorem solFault (h : b.Meets K) {c cause} : (b.solFault c cause).Meets K := h.setFld.setFld.solStop

theorem ditherStep (h : b.Meets K) {c} : (b.ditherStep c).Meets K := h.setValve

theorem regulate (h : b.Meets K) {c t i} : (b.regulate c t i).Meets K := h.setValve.setFld.setFlag

theorem compare (h : b.Meets K) {c cnt i} : (b.compare c cnt i).Meets K := by
  unfold Blk.compare
  extract_lets x now
  split
  exacts [h.setValve, h.setValve, h.setValve, h.setValve, h, h]

theorem solStart (h : b.Meets K) {c} : (b.solStart c).Meets K := h.setValve.setFld

theorem dip (h : b.Meets K) {c} : (b.dip c).Meets K := h.setFld.setFld.setValve.setSol

theorem pullSample (h : b.Meets K) {c i} : (b.pullSample c i).Meets K := by
  unfold Blk.pullSample
  extract_lets x x2 x3 b1
  split
  · exact h.setValve.regulate
  · exact h.setValve.setValve.regulate.ite (h.setValve.dip.ite h.setValve.setFld)

theorem pullStart (h : b.Meets K) {c i} : (b.pullStart c i).Meets K := h.setValve.setSol.setFld.setFld

theorem driveSample (h : b.Meets K) {c i} : (b.driveSample c i).Meets K := by
  unfold Blk.driveSample
  split
  · exact h.pullSample
  · extract_lets x first b1 b2 b3 t th src
    split
    · exact h.setValve.setSol.setFld.setFld
    · have h2 : b2.Meets K := (h.ite h.solStart).setSol
      exact h2.ditherStep.pullStart.ite h2.ditherStep.setValve.regulate

theorem limpSample (h : b.Meets K) {c i t} : (b.limpSample c i t).Meets K :=
  (h.ite h.solStart).setSol.setValve.regulate

theorem idleSample (h : b.Meets K) {c i} : (b.idleSample c i).Meets K := h.solFast.setValve.setSol.ite h.solFast

theorem coilFault (h : b.Meets K) {c code i} : (b.coilFault c code i).1.Meets K :=
  iteFst h.setValve.solFault.raise (iteFst h.setValve.solFault.raise h.setValve)

theorem currentSample (h : b.Meets K) {c code cnt} : (b.currentSample c code cnt).Meets K := by
  unfold Blk.currentSample
  refine h.when fun h => ?_
  extract_lets i b1 x b2
  split
  next c' e =>
    exact h.setReg.setValve.coilFault.fstEq e
  next c' e =>
    have hc : c'.Meets K := h.setReg.setValve.coilFault.fstEq e
    extract_lets x2
    split
    · exact hc.idleSample
    · split
      · split
        exacts [hc.limpSample.compare, hc.idleSample]
      · split
        · exact hc.idleSample
        · split
          · exact hc.limpSample.compare
          · split
            exacts [hc.driveSample.compare, hc.idleSample]

theorem pwmEdge (h : b.Meets K) {c} : (b.pwmEdge c).Meets K := h.when fun h => h.setValve

theorem phaseTrigger (h : b.Meets K) {c} : (b.phaseTrigger c).Meets K := by
  unfold Blk.phaseTrigger
  split
  · exact h
  · extract_lets cnt src x on
    split <;> exact (h.takeTrig ‹_›).setValve

theorem setpointArrival (h : b.Meets K) {c} : (b.setpointArrival c).Meets K := by
  unfold Blk.setpointArrival
  refine h.when fun h => ?_
  split
  · extract_lets sp b1 b2 x x2
    have h2 : b2.Meets K := (h.takeLink ‹_›).setReg.setFld.ite ((h.takeLink ‹_›).setReg)
    exact h2.ite (h2.setValve.ite h2.setValve)
  · exact h

theorem solReturn (h : b.Meets K) {c} : (b.solReturn c).Meets K := h.ite h.setValve

theorem solEnable (h : b.Meets K) {c} : (b.solEnable c).Meets K := h.ite h.setFld.solForget

theorem solDisable (h : b.Meets K) {c} : (b.solDisable c).Meets K := h.setFld.solForget.ite h.setFld.solStop

theorem pullinTimeout (h : b.Meets K) {c} : (b.pullinTimeout c).Meets K := by
  unfold Blk.pullinTimeout
  extract_lets x
  refine h.when fun h => ?_
  exact h.setFld.setFld.raise.setFld.solStop.ite h.setFld.setFld.raise.setValve.setSol

theorem coilUpdate (h : b.Meets K) {c} : (b.coilUpdate c).Meets K :=
  h.when fun h => h.setValve.setFld.ite (h.setValve.ite h.setValve.setFld.setFld)

theorem solFaultClear (h : b.Meets K) {c} : (b.solFaultClear c).Meets K :=
  h.ite h.solForget.setFld.setFld.setFld.setFld

theorem setCompTemp (h : b.Meets K) {k temp} : (b.setCompTemp k temp).Meets K := by
  unfold Blk.setCompTemp
  refine h.setSFld.when fun h => ?_
  exact h.setComp

theorem companionOvertemp (h : b.Meets K) {k temp} : (b.companionOvertemp k temp).Meets K := by
  unfold Blk.companionOvertemp
  refine h.when fun h => ?_
  extract_lets b1
  refine h.setCompTemp.when fun h => ?_
  exact (h.setComp.foldl fun h => h.solFault).raise

theorem solTripClear (h : b.Meets K) {c} : (b.solTripClear c).Meets K := by
  unfold Blk.solTripClear
  split
  · exact h
  · split
    exacts [h.solForget.setFld.setFld, h.setFld.raise.ite h.setFld]

/-! ### Switch channels -/

theorem lswSwitch (h : b.Meets K) {c on} : (b.lswSwitch c on).Meets K :=
  h.ite (h.setFlag.setSwitch.setFld.setFld.ite h.setFlag.setSwitch)

theorem lswUpdate (h : b.Meets K) {c} : (b.lswUpdate c).Meets K := h.lswSwitch

theorem lswForget (h : b.Meets K) {c} : (b.lswForget c).Meets K := h.setFld.setSwitch

theorem lswDrop (h : b.Meets K) {c} : (b.lswDrop c).Meets K := h.lswForget.lswUpdate

theorem lswFault (h : b.Meets K) {c cause} : (b.lswFault c cause).Meets K := h.setFld.setFld.lswDrop

theorem lswApply (h : b.Meets K) {c on} : (b.lswApply c on).Meets K :=
  ((h.setFld.ite h).ite ((h.setFld.ite h).setFld)).setSwitch.lswUpdate

theorem lswCommand (h : b.Meets K) {c} : (b.lswCommand c).Meets K := by
  unfold Blk.lswCommand
  refine h.when fun h => ?_
  split
  · extract_lets on b1 src
    have h1 : b1.Meets K := (h.takeLink ‹_›).setFlag.setFld
    exact h1.ite (h1.setSwitch.ite (h1.setFld.lswApply.ite h1.setFld.lswUpdate))
  · exact h

theorem lswReturn (h : b.Meets K) {c hold} : (b.lswReturn c hold).Meets K :=
  h.setSwitch.lswUpdate.ite (h.setSwitch.setFld.lswApply.ite h.setSwitch.setFld.lswUpdate)

theorem lswKeep (h : b.Meets K) {c} : (b.lswKeep c).Meets K := h.setSwitch

theorem lswEnable (h : b.Meets K) {c} : (b.lswEnable c).Meets K := h.ite h.lswForget.setFld.setFld

theorem lswDisable (h : b.Meets K) {c} : (b.lswDisable c).Meets K := h.setFld.setFld.lswDrop

theorem senseSample (h : b.Meets K) {c ua} : (b.senseSample c ua).Meets K := h.when fun h => h.setFld

theorem lswShort (h : b.Meets K) {c since peak} : (b.lswShort c since peak).Meets K :=
  h.when fun h => h.lswFault.raise

theorem lswOverload (h : b.Meets K) {c since peak} : (b.lswOverload c since peak).Meets K :=
  h.when fun h => h.lswFault.raise

theorem lampLimitOff (h : b.Meets K) {c limit since peak} : (b.lampLimitOff c limit since peak).Meets K :=
  h.when fun h => h.setSwitch.setFld.setSwitch.lswUpdate.ite h.setSwitch.lswFault.setFld.raise

theorem lswRetry (h : b.Meets K) {c} : (b.lswRetry c).Meets K := by
  unfold Blk.lswRetry
  split
  · exact h
  · refine h.when fun h => ?_
    exact h.setFld.setSwitch.lswUpdate.incFld.ite h.setFld.setSwitch.lswUpdate

theorem retryEpisodeEnd (h : b.Meets K) {c} : (b.retryEpisodeEnd c).Meets K := h.when fun h => h.setFld

theorem feedShed (h : b.Meets K) {k feed since} : (b.feedShed k feed since).Meets K := by
  unfold Blk.feedShed
  extract_lets -underBinder +implicits x excess due
  refine h.when fun h => ?_
  extract_lets -underBinder +implicits b1
  split
  exacts [h.setFld, h.setFld.lswFault.setFld.setComp.raise.ite h.setFld.lswFault.setFld.setComp]

theorem feedValves (h : b.Meets K) {k feed since} : (b.feedValves k feed since).Meets K :=
  h.when fun h => h.setFld.setComp.raise

theorem feedOver (h : b.Meets K) {k feed since} : (b.feedOver k feed since).Meets K := by
  unfold Blk.feedOver
  split
  exacts [h.feedShed, h.feedValves]

theorem shedEnd (h : b.Meets K) {k feed since} : (b.shedEnd k feed since).Meets K :=
  h.when fun h => h.setFld.setFld.setComp

theorem bankUpdate (h : b.Meets K) {k} : (b.bankUpdate k).Meets K := h.foldl fun h => h.lswUpdate

theorem setFeedUv (h : b.Meets K) {k on} : (b.setFeedUv k on).Meets K := h.setFlag.foldl fun h => h.setFlag

theorem feedUndervoltage (h : b.Meets K) {k mv} : (b.feedUndervoltage k mv).Meets K :=
  h.when fun h => h.setFld.ite ((h.setFld.setFeedUv.bankUpdate.foldl fun h => h.solFast).raise)

theorem feedRecovery (h : b.Meets K) {k mv since} : (b.feedRecovery k mv since).Meets K :=
  h.when fun h => h.setFld.setFeedUv.bankUpdate

theorem lswJunction (h : b.Meets K) {c temp} : (b.lswJunction c temp).Meets K :=
  h.when fun h => h.setSFld.when fun h => h.lswFault.raise

theorem lswFaultClear (h : b.Meets K) {c} : (b.lswFaultClear c).Meets K :=
  h.ite ((h.setFld.lswForget.foldl fun h => h.setFld).setFld.lswUpdate)

theorem lswTripClear (h : b.Meets K) {c} : (b.lswTripClear c).Meets K := by
  unfold Blk.lswTripClear
  split
  · exact h
  · split
    exacts [h.lswForget.setFld.setFld.setFld.lswUpdate, h.setFld.raise.ite h.setFld]

theorem openLoadCheck (h : b.Meets K) {c mv} : (b.openLoadCheck c mv).Meets K :=
  h.when fun h => (h.setSwitch.setFld.raise.ite h.setSwitch).ite (h.setSwitch.setFld.ite h.setSwitch)

theorem openLoadDisable (h : b.Meets K) {c} : (b.openLoadDisable c).Meets K := h.setFld.setFld.setSwitch

theorem valveTrip (h : b.Meets K) {c} : (b.valveTrip c).Meets K := h.setFld.solStop

theorem switchTrip (h : b.Meets K) {c} : (b.switchTrip c).Meets K := h.setFld.lswDrop

theorem tripValves (h : b.Meets K) {t k} : (b.tripValves t k).Meets K := h.ite ((h.foldl fun h => h.valveTrip).raise)

theorem tripSwitches (h : b.Meets K) {t k} : (b.tripSwitches t k).Meets K :=
  h.ite ((h.foldl fun h => h.switchTrip).raise)

theorem tripAct (h : b.Meets K) {t} : (b.tripAct t).Meets K :=
  (h.foldl fun h => h.tripValves).foldl fun h => h.tripSwitches

theorem tripAssert (h : b.Meets K) {t} : (b.tripAssert t).Meets K :=
  h.when fun h => (h.foldl fun h => h.setFld).tripAct

theorem tripRelease (h : b.Meets K) {t} : (b.tripRelease t).Meets K := h.when fun h => h.foldl fun h => h.setFld

theorem setLinkUp (h : b.Meets K) {k on} : (b.setLinkUp k on).Meets K := h.setFlag.ite h.setFlag

theorem valveLimp (h : b.Meets K) {c} : (b.valveLimp c).Meets K := h.solStop.ite h.solForget.setValve

theorem switchLimp (h : b.Meets K) {c} : (b.switchLimp c).Meets K := h.lswForget.setSwitch.setFlag.lswUpdate

theorem limpEnter (h : b.Meets K) {k} : (b.limpEnter k).Meets K :=
  h.ite ((h.setComp.foldl fun h => h.valveLimp).ite (h.setComp.foldl fun h => h.switchLimp))

theorem linkFrame (h : b.Meets K) {k} : (b.linkFrame k).Meets K := by
  unfold Blk.linkFrame
  refine h.when fun h => ?_
  extract_lets x done b1 src b2
  have h2 : b2.Meets K := h.setComp.setLinkUp.units.ite h.setComp.setLinkUp
  exact h2.bankUpdate.ite h2

theorem watchdogExpiry (h : b.Meets K) {k} : (b.watchdogExpiry k).Meets K :=
  h.when fun h => (h.setComp.setLinkUp.setFld.ite h.setComp.setLinkUp.setFld).limpEnter

theorem limpHomeEntry (h : b.Meets K) : b.limpHomeEntry.Meets K := h.when fun h => h.foldl fun h => h.limpEnter

theorem limpPinChange (h : b.Meets K) {p high} : (b.limpPinChange p high).Meets K := by
  unfold Blk.limpPinChange
  refine h.when fun h => ?_
  extract_lets old b1
  refine h.setFld.foldl fun h => ?_
  exact h.lswUpdate.ite h

theorem valveRelease (h : b.Meets K) {c} : (b.valveRelease c).Meets K := h.setValve.ite h

theorem switchRelease (h : b.Meets K) {c} : (b.switchRelease c).Meets K := h.setFld.setSwitch.lswUpdate.ite h

theorem limpRelease (h : b.Meets K) {zs8 zp16} : (b.limpRelease zs8 zp16).Meets K := by
  unfold Blk.limpRelease
  extract_lets b1
  have h1 : b1.Meets K := by
    unfold b1
    refine h.foldl fun h => ?_
    exact h.valveRelease.ite h
  refine h1.foldl fun h => ?_
  exact h.switchRelease.ite h

/-! ### Starting -/

theorem keepLive (h : b.Meets K) {old} : (b.keepLive old).Meets K := h.foldl fun h => h.foldl fun h => h.setReg

theorem sampleStraps (h : b.Meets K) : b.sampleStraps.Meets K := h.setFlag

theorem restart (h : b.Meets K) : b.restart.Meets K := h.forget.clear.units.keepLive.sampleStraps

theorem powerOff (h : b.Meets K) : b.powerOff.Meets K :=
  (h.forget (p := fun _ => false)).clear.of_same rfl (List.filter_false _).symm rfl

theorem hold (h : b.Meets K) {p} : (b.hold p).Meets K := h.setFld.units

/-! ### Freeze and the debug port -/

theorem plainWrite (h : b.Meets K) {r i v} : (b.plainWrite r i v).Meets K := h.setReg

theorem freeze (h : b.Meets K) {cause id origin} : (b.freeze cause id origin).Meets K :=
  h.setFld.setFld.setFld.setFld.setReg64.units

theorem sawFreeze (h : b.Meets K) {origin id} : (b.sawFreeze origin id).Meets K := h.units

theorem freezeHere (h : b.Meets K) {cause} : (b.freezeHere cause).Meets K :=
  h.when fun h => (h.units.sawFreeze.foldl fun h => h.send).freeze

theorem freezePin (h : b.Meets K) {high} : (b.freezePin high).Meets K := h.units.ite h.units.freezeHere

theorem freezeRegister (h : b.Meets K) {mid} : (b.freezeRegister mid).Meets K := h.when fun h => h.freezeHere

theorem freezeFlit (h : b.Meets K) {p id origin crcOk} : (b.freezeFlit p id origin crcOk).Meets K :=
  h.when fun h => h.ite ((h.sawFreeze.foldl fun h => h.send).ite ((h.sawFreeze.foldl fun h => h.send).freeze))

theorem dbgRestart (h : b.Meets K) : b.dbgRestart.Meets K := h.when fun h => h.restart

theorem setTapDr (h : b.Meets K) {k l} : (b.setTapDr k l).Meets K := h.units

theorem tapReset (h : b.Meets K) : b.tapReset.Meets K := h.when fun h => h.units

theorem setBoundary (h : b.Meets K) {k bits} : (b.setBoundary k bits).Meets K := h.units

theorem dbgTake (h : b.Meets K) : b.dbgTake.Meets K := by
  unfold Blk.dbgTake
  extract_lets mine src b1
  refine h.units.foldl fun h => ?_
  exact h.units

theorem frozenWrite (h : b.Meets K) {addr v} : (b.frozenWrite addr v).Meets K := by
  unfold Blk.frozenWrite
  split
  · split
    exacts [h.logReadAdvance, h.setReg, h]
  · exact h.setWord

theorem dbgEnd (h : b.Meets K) {v deny} : (b.dbgEnd v deny).Meets K := h.units

theorem frozenServe (h : b.Meets K) {write addr v} : (b.frozenServe write addr v).Meets K := by
  unfold Blk.frozenServe
  extract_lets op
  split
  exacts [h.incFld.addSat.dbgEnd, h.frozenWrite.dbgEnd.ite h.dbgEnd]

/-- What acts on the block with the held registers may keep any property: it is held to the one of the block with its own. -/
theorem onHeld (h : b.Meets K) {f} (hf : ∀ (K : BlockInv) {b : Blk}, b.Meets K → (f b).Meets K) :
    (b.onHeld f).Meets K := by
  unfold Blk.onHeld
  split
  · exact hf K h
  next r _ =>
    have hr : Blk.Meets { b with regs := r } (K.under b.regs) := h
    have hc : Blk.Meets { f { b with regs := r } with regs := b.regs } K := hf _ hr
    exact hc.units

theorem frozenAccess (h : b.Meets K) {write addr v} : (b.frozenAccess write addr v).Meets K :=
  (h.onHeld fun _ {_} h => h.frozenServe).dbgRestart.ite (h.onHeld fun _ {_} h => h.frozenServe)

theorem dbgIssue (h : b.Meets K) {write addr v edge} : (b.dbgIssue write addr v edge).Meets K :=
  h.frozenAccess.ite h.submit

theorem updateDr (h : b.Meets K) {k edge} : (b.updateDr k edge).Meets K := by
  unfold Blk.updateDr
  split
  exacts [h.setBoundary, h.setBoundary, h.setBoundary, h.setBoundary, h.dbgIssue, h]

theorem loadIr (h : b.Meets K) {ir} : (b.loadIr ir).Meets K := h.foldl fun h => h.units

theorem shiftDr (h : b.Meets K) {x} : (b.shiftDr x).Meets K := (h.foldl fun h => h.setTapDr).units

theorem scan (h : b.Meets K) {ir x} : (b.scan ir x).Meets K := h.loadIr.dbgTake.shiftDr.foldl fun h => h.updateDr

theorem tapScan (h : b.Meets K) {i k ir x} : (b.tapScan i k ir x).Meets K := h.when fun h => h.scan

/-! ### The networks -/

theorem ethAnswer (h : b.Meets K) {e f} : (b.ethAnswer e f).Meets K := by
  unfold Blk.ethAnswer
  refine h.when fun h => ?_
  extract_lets own
  split
  exacts [h.addSat, h.ethSend.ite h, h.ethSend.ite h, h, h]

theorem ethDisable (h : b.Meets K) {e} : (b.ethDisable e).Meets K := h.setFld.ite h.setFld.units.setFld.addSat

theorem ethLink (h : b.Meets K) {e up} : (b.ethLink e up).Meets K := h.when fun h => h.setFlag.units.ite h.setFlag

theorem sendClaim (h : b.Meets K) {k sa} : (b.sendClaim k sa).Meets K := h.stackSend

theorem canJoin (h : b.Meets K) {k} : (b.canJoin k).Meets K := h.setFld.setCan.setCan.sendClaim.ite h.setFld.setCan

theorem claimed (h : b.Meets K) {k name} : (b.claimed k name).Meets K :=
  h.sendClaim.ite (h.setCan.sendClaim.took.ite h.setCan.sendClaim)

theorem tpDone (h : b.Meets K) {k t} : (b.tpDone k t).Meets K := by
  unfold Blk.tpDone
  extract_lets t src b1 a b2
  split
  · exact h.setCan
  · have h2 : b2.Meets K := h.setCan.stackSend.ite h.setCan.stackSend
    exact h2.processData.ite h2

theorem tpNext (h : b.Meets K) {k t} : (b.tpNext k t).Meets K := h.setCan.stackSend.ite h.setCan.stackSend

theorem tpManage (h : b.Meets K) {k sa own ext d} : (b.tpManage k sa own ext d).Meets K := by
  unfold Blk.tpManage
  extract_lets x n pgn
  split
  · exact h.tpNext
  · exact h.tpNext
  · split
    exacts [h.setCan.ite h, h]
  · exact h.setCan
  · exact h.tpClear
  · exact h.tpClear
  · exact h.tpClose
  · exact h.tpClose
  · exact h.setCan.tpClose
  · exact h

theorem tpData (h : b.Meets K) {k sa ext d} : (b.tpData k sa ext d).Meets K := by
  unfold Blk.tpData
  extract_lets x
  split
  exacts [(h.tpDone.ite (h.tpNext.ite h.setCan)).ite h, h]

theorem stackFrame (h : b.Meets K) {k f} : (b.stackFrame k f).Meets K := by
  unfold Blk.stackFrame
  extract_lets w x ps sa own all
  split
  · exact h
  · split
    · exact h.claimed.ite h
    · exact h.sendClaim.ite h
    · exact h.tpManage.ite h
    · exact h.tpManage.ite h
    · exact h.tpData.ite h
    · exact h.tpData.ite h
    · exact h.processData.ite h
    · exact h

theorem canErrors (h : b.Meets K) {k te re} : (b.canErrors k te re).Meets K := h.setCan.setFld

theorem canSent (h : b.Meets K) {k} : (b.canSent k).Meets K := h.setCan.canErrors

theorem canHeard (h : b.Meets K) {k} : (b.canHeard k).Meets K := h.setCan.took.canErrors.ite h.setCan.canErrors

theorem canReceive (h : b.Meets K) {k f full te re} : (b.canReceive k f full te re).Meets K := by
  unfold Blk.canReceive
  refine h.when fun h => ?_
  extract_lets b1 b2 x b3 b4
  split
  · exact h.canErrors
  · have h3 : b3.Meets K := (h.canErrors.canHeard.addSat.ite h.canErrors.canHeard.setBytes.setCan).ite h.canErrors.canHeard
    split
    · split
      exacts [h3.stackFrame.units, h3.stackFrame]
    · exact h3

theorem canComplete (h : b.Meets K) {k own} : (b.canComplete k own).Meets K := by
  unfold Blk.canComplete
  extract_lets x f
  split
  · split
    exacts [h.setCan, h]
  · exact h.setCan

theorem canTransmit (h : b.Meets K) {k own te re} : (b.canTransmit k own te re).Meets K :=
  h.when fun h => h.canErrors.when fun h => h.canComplete.canSent

theorem busOff (h : b.Meets K) {k} : (b.busOff k).Meets K := h.when fun h => h.setFld

theorem rejoin (h : b.Meets K) {k may} : (b.rejoin k may).Meets K := h.when fun h => h.setCan.setFld

theorem canRestart (h : b.Meets K) {k} : (b.canRestart k).Meets K := h.rejoin

theorem busOffRecovery (h : b.Meets K) {k} : (b.busOffRecovery k).Meets K := h.rejoin

theorem canDisable (h : b.Meets K) {k bus} : (b.canDisable k bus).Meets K := by
  unfold Blk.canDisable
  extract_lets b1
  have h1 : b1.Meets K := by
    unfold b1
    split
    · split
      exacts [h.canComplete, h]
    · exact h
  exact h1.setFld.setFld

theorem canEnable (h : b.Meets K) {k} : (b.canEnable k).Meets K := h.setFld.ite h.setFld.canJoin

theorem isobusMessage (h : b.Meets K) {k f} : (b.isobusMessage k f).Meets K := h.when fun h => h.stackFrame

theorem engineSend (h : b.Meets K) : b.engineSend.Meets K := h.when fun h => h.units.stackSend

theorem pgnTimeout (h : b.Meets K) {i} : (b.pgnTimeout i).Meets K := by
  unfold Blk.pgnTimeout
  split
  · refine h.when fun h => ?_
    exact h.units
  · exact h

/-! ### Staging of sets -/

theorem writeBootRec (h : b.Meets K) {r} : (b.writeBootRec r).Meets K := h.units

theorem stageFail (h : b.Meets K) {k reason part} : (b.stageFail k reason part).Meets K :=
  h.setFld.setFld.setFld.units.raise

theorem updateStage (h : b.Meets K) : b.updateStage.Meets K := h.when fun h => h.setFld.ite h.units.setFld

theorem readPackage (h : b.Meets K) : b.readPackage.1.Meets K := h.xdRead

theorem showOther (h : b.Meets K) : b.showOther.Meets K := h.setFlag.setReg

theorem emptySet (h : b.Meets K) {k} : (b.emptySet k).Meets K := h.writeBootRec.showOther.setReg

theorem stageSet (h : b.Meets K) {k pkg} : (b.stageSet k pkg).Meets K := h.units.writeBootRec.showOther

theorem stageComplete (h : b.Meets K) {nand} : (b.stageComplete nand).Meets K := by
  unfold Blk.stageComplete
  refine h.when fun h => ?_
  extract_lets k
  split
  · split
    · split
      exacts [(h.readPackage.fstEq ‹_›).stageFail, (h.readPackage.fstEq ‹_›).emptySet.units.setFld]
  · split
    exacts [h.stageFail, h.stageSet.units.setFld.setReg]
  · exact h

theorem stageAbort (h : b.Meets K) : b.stageAbort.Meets K := h.when fun h => h.units.setFld

theorem stageDiscard (h : b.Meets K) : b.stageDiscard.Meets K :=
  h.when fun h => (h.emptySet.setFld.ite h.emptySet).ite h

/-! ### Power domains -/

theorem setDom (h : b.Meets K) {d x} : (b.setDom d x).Meets K := h.units

theorem pdEnter (h : b.Meets K) {d s} : (b.pdEnter d s).Meets K := h.setFld.setDom

theorem domainRequest (h : b.Meets K) {d} : (b.domainRequest d).Meets K := by
  unfold Blk.domainRequest
  refine h.when fun h => ?_
  extract_lets b1
  split
  · exact h.setFld.units.pdEnter.setDom
  · exact h.setFld.setDom
  · exact h.setFld.setDom
  · exact h.setFld.setDom
  · exact h.setFld

theorem wakeHeads (h : b.Meets K) {n} : (b.wakeHeads n).Meets K := by
  induction n generalizing b with
  | zero => exact h
  | succ n ih =>
    unfold Blk.wakeHeads
    split
    exacts [(ih h.pdEnter).ite h, h]

theorem firstRequests (h : b.Meets K) : b.firstRequests.Meets K := by
  unfold Blk.firstRequests
  extract_lets l n src
  split
  · exact h
  · refine h.units.foldl fun h => ?_
    exact h.pdEnter.setDom

theorem domainAdmit (h : b.Meets K) : b.domainAdmit.Meets K := h.when fun h => h.firstRequests.wakeHeads

theorem rampEnd (h : b.Meets K) {d} : (b.rampEnd d).Meets K := h.when fun h => h.pdEnter

theorem forceTile (h : b.Meets K) {t} : (b.forceTile t).Meets K := by
  unfold Blk.forceTile
  refine h.foldl fun h => ?_
  extract_lets k b1
  split
  · exact h.missNow
  · exact h.missNow.countAbort.disableByEn
  · exact h.missNow.countAbort.disableByEn
  · exact h.missNow.countAbort.disableByEn
  · exact h.missNow.disableByEn

theorem forceQuad (h : b.Meets K) {q} : (b.forceQuad q).Meets K := by
  unfold Blk.forceQuad
  extract_lets slots frames src b1 b2 heads src2 b3
  have h2 : b2.Meets K := by
    unfold b2
    refine h.units.foldl fun h => ?_
    exact h.setModel.setFld.setFld.ite h
  exact (h2.units.setFld.setFld.ite h2.units.setFld).ite h2

theorem forceWork (h : b.Meets K) {d err} : (b.forceWork d err).Meets K := by
  unfold Blk.forceWork
  split
  · exact h.forceTile
  · split
    · exact h.ite h.camAbort
    · split
      · exact h.forceQuad
      · split
        · exact h.gnssDisable.ite h
        · split
          · exact h.portDisable
          · exact (h.foldl fun h => h.ethDisable).ite ((h.foldl fun h => h.canDisable).ite (h.stageFail.ite h))

theorem stopDomain (h : b.Meets K) {d} : (b.stopDomain d).Meets K := h.pdEnter.setFld.setDom

theorem offOn (h : b.Meets K) {d force err} : (b.offOn d force err).Meets K :=
  h.forceWork.setFld.stopDomain.ite (h.setFld.setFld.setDom.ite h.stopDomain)

theorem domainOff (h : b.Meets K) {d force err} : (b.domainOff d force err).Meets K := by
  unfold Blk.domainOff
  refine h.when fun h => ?_
  split
  exacts [h.pdEnter.setFld, h.setDom.setFld, h.setDom.setFld, h.offOn, h.setDom.setFld, h.setFld]

theorem domainOffRequest (h : b.Meets K) {d} : (b.domainOffRequest d).Meets K := h.domainOff

theorem domainForceOff (h : b.Meets K) {d err} : (b.domainForceOff d err).Meets K := h.domainOff

theorem settleEnd (h : b.Meets K) {d err} : (b.settleEnd d err).Meets K :=
  h.when fun h => h.pdEnter.offOn.ite h.pdEnter

theorem domainStopped (h : b.Meets K) {d} : (b.domainStopped d).Meets K :=
  h.when fun h => h.pdEnter.domainRequest.ite h.pdEnter

/-! ### The fleet -/

theorem fleetSend (h : b.Meets K) {type dst payload} : (b.fleetSend type dst payload).Meets K :=
  h.units.ethSend.incFld

theorem fleetIn (h : b.Meets K) {l type f}
    (hf : ∀ {b : Blk} {x y}, b.Meets K → (f b x y).Meets K) : (b.fleetIn l type f).Meets K :=
  h.when fun h => h.addSat.ite ((hf h).ite h)

theorem fleetRole (h : b.Meets K) {kind peer reason} : (b.fleetRole kind peer reason).Meets K := h.fleetSend

theorem fleetPair (h : b.Meets K) {peer role} : (b.fleetPair peer role).Meets K := h.setFld.setFld.units

theorem fleetRoleRequest (h : b.Meets K) {v} : (b.fleetRoleRequest v).Meets K := by
  unfold Blk.fleetRoleRequest
  extract_lets req w1c b1 peer
  refine h.setReg.when fun h => ?_
  exact h.setFld.units.fleetRole

theorem fleetIdle (h : b.Meets K) : b.fleetIdle.Meets K := h.units.setFld.setFld

theorem lostEnds (h : b.Meets K) : b.lostEnds.Meets K := h.fleetIdle.ite h

theorem fleetAnswer (h : b.Meets K) {kind peer} : (b.fleetAnswer kind peer).Meets K :=
  h.ite (h.fleetRole.lostEnds.ite h.fleetRole.fleetPair)

theorem fleetAsked (h : b.Meets K) {kind peer} : (b.fleetAsked kind peer).Meets K := by
  unfold Blk.fleetAsked
  split
  · split
    · exact (h.raise.setFld.ite h.raise.setFld.fleetRole).ite h.raise.setFld.fleetAnswer.units
    · exact h.fleetAnswer
  · exact h.fleetAnswer

theorem fleetEnd (h : b.Meets K) {r grant} : (b.fleetEnd r grant).Meets K :=
  h.units.setFld.setFld.fleetPair.ite h.units.setFld.setFld.lostEnds

theorem fleetRoleIn (h : b.Meets K) {l kind f}
    (hf : ∀ {b : Blk} {x}, b.Meets K → (f b x).Meets K) : (b.fleetRoleIn l kind f).Meets K :=
  h.fleetIn fun h => (hf h).ite h

theorem fleetTake (h : b.Meets K) {l} : (b.fleetTake l).Meets K := h.fleetRoleIn fun h => h.fleetAsked

theorem fleetGive (h : b.Meets K) {l} : (b.fleetGive l).Meets K := h.fleetRoleIn fun h => h.fleetAsked

theorem fleetGrant (h : b.Meets K) {l} : (b.fleetGrant l).Meets K := by
  unfold Blk.fleetGrant
  refine h.fleetRoleIn fun h => ?_
  split
  exacts [h.fleetEnd, h]

theorem fleetRefuse (h : b.Meets K) {l} : (b.fleetRefuse l).Meets K := by
  unfold Blk.fleetRefuse
  refine h.fleetRoleIn fun h => ?_
  split
  exacts [h.fleetEnd, h]

theorem fleetRoleTimeout (h : b.Meets K) : b.fleetRoleTimeout.Meets K := by
  unfold Blk.fleetRoleTimeout
  split
  exacts [h.when fun h => h.fleetEnd, h]

theorem fleetHoldoffEnd (h : b.Meets K) {peer} : (b.fleetHoldoffEnd peer).Meets K := h.when fun h => h.units

theorem followerErrors (h : b.Meets K) {along across} : (b.followerErrors along across).Meets K :=
  h.units.ite (h.units.setFld.ite h.units)

theorem unloadIn (h : b.Meets K) {l} : (b.unloadIn l).Meets K := by
  unfold Blk.unloadIn
  refine h.fleetIn fun h => ?_
  refine h.when fun h => ?_
  exact (h.units.setFld.ite h.units).followerErrors.ite (h.units.setFld.ite h.units)

theorem unloadSend (h : b.Meets K) {lat lon fill along across} :
    (b.unloadSend lat lon fill along across).Meets K := by
  unfold Blk.unloadSend
  split
  · exact h
  · refine h.when fun h => ?_
    exact h.units.fleetSend.followerErrors.ite h.units.fleetSend

theorem unloadReady (h : b.Meets K) : b.unloadReady.Meets K := by
  unfold Blk.unloadReady
  split
  exacts [h.when fun h => h.setFld, h]

theorem unloadLost (h : b.Meets K) : b.unloadLost.Meets K := h.when fun h => h.units.setFld

theorem fleetUnpair (h : b.Meets K) : b.fleetUnpair.Meets K := h.fleetIdle

theorem fleetDisable (h : b.Meets K) : b.fleetDisable.Meets K := h.setFld.units.setFld.fleetIdle.ite h.setFld

theorem stateSend (h : b.Meets K) {fill} : (b.stateSend fill).Meets K := h.when fun h => h.units.fleetSend

theorem rtkIn (h : b.Meets K) {l} : (b.rtkIn l).Meets K := by
  unfold Blk.rtkIn
  refine h.fleetIn fun h => ?_
  extract_lets frames src b1
  have h1 : b1.Meets K := (h.foldl fun h => h.rtcmFrame).ite h.units
  split
  exacts [h1.fleetSend.ite h1, h1]

theorem ledgerSend (h : b.Meets K) : b.ledgerSend.Meets K := by
  unfold Blk.ledgerSend
  extract_lets ack seq out
  refine h.when fun h => ?_
  extract_lets l
  split
  exacts [h, h.units.fleetSend]

theorem ledgerAck (h : b.Meets K) {l} : (b.ledgerAck l).Meets K := h.fleetIn fun h => h.units.setAck.ite h.addSat

theorem ledgerResend (h : b.Meets K) : b.ledgerResend.Meets K := h.when fun h => h.units

theorem fleetDatagram (h : b.Meets K) {l} : (b.fleetDatagram l).Meets K := by
  unfold Blk.fleetDatagram
  split
  · exact h.fleetTake
  · exact h.fleetGive
  · exact h.fleetGrant
  · exact h.fleetRefuse
  · exact h.unloadIn
  · exact h.rtkIn
  · exact h.ledgerAck
  · exact h.fleetIn fun h => h

/-! ### The conductor -/

theorem takeIn (h : b.Meets K) {p k type mine pcrc f}
    (hf : ∀ {b : Blk}, b.Meets K → (f b).Meets K) : (b.takeIn p k type mine pcrc f).Meets K :=
  h.when fun h => (hf h.badPayload.consume).ite h.badPayload.consume.discard

theorem beaconIn (h : b.Meets K) {p k pcrc} : (b.beaconIn p k pcrc).Meets K :=
  h.takeIn fun h => h.setPort.units.updateBest

theorem beaconSend (h : b.Meets K) {p} : (b.beaconSend p).Meets K := by
  unfold Blk.beaconSend
  extract_lets due
  refine h.when fun h => ?_
  exact (h.setPort.units.ite h.setPort).updateBest.emitAt

theorem conductorLost (h : b.Meets K) : b.conductorLost.Meets K := h.when fun h => h.units.updateBest

theorem takeRole (h : b.Meets K) : b.takeRole.Meets K := by
  unfold Blk.takeRole
  extract_lets src b1 b2 src2 b3
  have h2 : b2.Meets K := h.units.ite h.units.setReg64.setFld
  split
  exacts [h2.units.updateBest.units.raise, h2.units.updateBest]

theorem roleElection (h : b.Meets K) : b.roleElection.Meets K := h.when fun h => h.takeRole

theorem sendRole (h : b.Meets K) {kind peer reason} : (b.sendRole kind peer reason).Meets K := h.emit

theorem releaseRole (h : b.Meets K) : b.releaseRole.Meets K := h.units.updateBest

theorem roleRequest (h : b.Meets K) {v} : (b.roleRequest v).Meets K := by
  unfold Blk.roleRequest
  extract_lets peer req w1c b1 b2
  refine h.setReg.setFld.when fun h => ?_
  exact h.setFld.units.sendRole.units.releaseRole.ite h.setFld.units.sendRole

theorem answerRole (h : b.Meets K) {kind peer holder} : (b.answerRole kind peer holder).Meets K :=
  (h.units.sendRole.releaseRole.ite h.sendRole).ite (h.sendRole.takeRole.ite h.sendRole)

theorem roleAsked (h : b.Meets K) {kind peer} : (b.roleAsked kind peer).Meets K := by
  unfold Blk.roleAsked
  split
  · exact (h.raise.setFld.sendRole.ite h.raise.setFld.units.answerRole).ite h.answerRole
  · exact h.answerRole

theorem takeRolePacket (h : b.Meets K) {p k pcrc kind f}
    (hf : ∀ {b : Blk}, b.Meets K → (f b).Meets K) : (b.takeRolePacket p k pcrc kind f).Meets K :=
  h.takeIn fun h => (hf h)

theorem roleTake (h : b.Meets K) {p k pcrc} : (b.roleTake p k pcrc).Meets K := h.takeRolePacket fun h => h.roleAsked

theorem roleGive (h : b.Meets K) {p k pcrc} : (b.roleGive p k pcrc).Meets K := h.takeRolePacket fun h => h.roleAsked

theorem roleEnd (h : b.Meets K) {r grant} : (b.roleEnd r grant).Meets K := by
  unfold Blk.roleEnd
  extract_lets src b1 b2 b3
  split
  · exact h.units.setFld.setFld.takeRole.ite h.units.setFld.setFld
  · exact h.units.setFld.setFld.takeRole.ite h.units.setFld.setFld

theorem roleGrant (h : b.Meets K) {p k pcrc} : (b.roleGrant p k pcrc).Meets K := by
  unfold Blk.roleGrant
  refine h.takeRolePacket fun h => ?_
  split
  exacts [h.roleEnd, h]

theorem roleRefuse (h : b.Meets K) {p k pcrc} : (b.roleRefuse p k pcrc).Meets K := by
  unfold Blk.roleRefuse
  refine h.takeRolePacket fun h => ?_
  split
  exacts [h.roleEnd, h]

theorem giveTimeout (h : b.Meets K) : b.giveTimeout.Meets K := by
  unfold Blk.giveTimeout
  split
  exacts [h.when fun h => h.roleEnd, h]

theorem roleHoldoffEnd (h : b.Meets K) {peer} : (b.roleHoldoffEnd peer).Meets K := h.when fun h => h.units

theorem setTopo (h : b.Meets K) {n v} : (b.setTopo n v).Meets K := h.ite h.units

theorem topoIn (h : b.Meets K) {p k pcrc} : (b.topoIn p k pcrc).Meets K := h.takeIn fun h => h.setTopo

theorem topoSend (h : b.Meets K) : b.topoSend.Meets K := h.when fun h => h.units.setTopo.ite h.units.emit

theorem setEpoch (h : b.Meets K) {e} : (b.setEpoch e).Meets K := h.ite h.setFld.units

theorem routeCompute (h : b.Meets K) : b.routeCompute.Meets K := by
  unfold Blk.routeCompute
  refine h.when fun h => ?_
  extract_lets b1 links depth reach known entry epoch b2 b3 b4 gone b5 src
  have h3 : b3.Meets K := h.setTopo.setEpoch.foldl fun h => h.setFld
  have h4 : b4.Meets K := h3.foldl fun h => h.foldl fun h => h.emit
  have h5 : b5.Meets K := h4.foldl fun h => h.raise
  exact h5.units

theorem routeIn (h : b.Meets K) {p k pcrc} : (b.routeIn p k pcrc).Meets K :=
  h.takeIn fun h => h.setEpoch.foldl fun h => h.foldl fun h => h.setFld

theorem ftSet (h : b.Meets K) {target} : (b.ftSet target).Meets K := h.setFld.setReg64.setFld.units.ite h.setFld.units

theorem sendTime (h : b.Meets K) {p kind hi lo} : (b.sendTime p kind hi lo).Meets K := h.emitAt

theorem syncChildren (h : b.Meets K) : b.syncChildren.Meets K := h.foldl fun h => h.sendTime

theorem takeTime (h : b.Meets K) {p k pcrc mine kind f}
    (hf : ∀ {b : Blk}, b.Meets K → (f b).Meets K) : (b.takeTime p k pcrc mine kind f).Meets K :=
  h.takeIn fun h => (hf h)

theorem timeSync (h : b.Meets K) {p k pcrc} : (b.timeSync p k pcrc).Meets K :=
  h.takeTime fun h => h.ftSet.syncChildren

theorem syncSend (h : b.Meets K) : b.syncSend.Meets K := h.when fun h => h.units.syncChildren

theorem delayMeasure (h : b.Meets K) {t1} : (b.delayMeasure t1).Meets K := by
  unfold Blk.delayMeasure
  split
  · exact h
  · refine h.when fun h => ?_
    exact h.setPort.sendTime

theorem delayReq (h : b.Meets K) {p k pcrc t2 t3} : (b.delayReq p k pcrc t2 t3).Meets K :=
  h.takeTime fun h => h.sendTime

theorem delayRsp (h : b.Meets K) {p k pcrc t4} : (b.delayRsp p k pcrc t4).Meets K := by
  unfold Blk.delayRsp
  refine h.takeTime fun h => ?_
  split
  exacts [h, h.setPort.setFld]

theorem tb0Pair (h : b.Meets K) {p k pcrc} : (b.tb0Pair p k pcrc).Meets K := by
  unfold Blk.tb0Pair
  refine h.takeTime fun h => ?_
  refine h.when fun h => ?_
  exact h.units.units.ite h.units.tb0Invalid.tb0Reach

theorem tb0PairSend (h : b.Meets K) : b.tb0PairSend.Meets K := h.when fun h => h.units.foldl fun h => h.emit

theorem tb0PairTimeout (h : b.Meets K) : b.tb0PairTimeout.Meets K := by
  unfold Blk.tb0PairTimeout
  split
  · exact h
  · refine h.when fun h => ?_
    exact h.units.units.tb0Invalid

/-! ### Housekeeping -/

theorem hkWords (h : b.Meets K) {x r} : (b.hkWords x r).Meets K := by
  unfold Blk.hkWords
  extract_lets b1 b2
  have h1 : b1.Meets K := h.foldl fun h => h.setReg
  have h2 : b2.Meets K := by
    unfold b2
    refine h1.foldl fun h => ?_
    extract_lets b3 b4
    have h3 : b3.Meets K := by
      unfold b3
      split
      exacts [h.setCompTemp, h]
    have h4 : b4.Meets K := by
      unfold b4
      split
      exacts [h3.setSFld, h3]
    exact h4.setFld.setFld
  exact h2.foldl fun h => h.setFld

theorem hkFaults (h : b.Meets K) {x} : (b.hkFaults x).Meets K := (h.foldl fun h => h.raise).units

theorem setClock (h : b.Meets K) : b.setClock.Meets K := h.keepCycles.setFld

theorem reduce (h : b.Meets K) {x} : (b.reduce x).Meets K := by
  unfold Blk.reduce
  extract_lets +implicits bad4 b1 b2 old asked asked' k b3 src b4 srcA srcB b5
  have h2 : b2.Meets K := by
    unfold b2
    split
    exacts [h.setFlag.setFld.setSFld, h.setFlag]
  have h4 : b4.Meets K := h2.setFld.setClock.units
  have h5 : b5.Meets K := h4.units.setFld
  exact h5.raise.ite h4

theorem reductionEnd (h : b.Meets K) : b.reductionEnd.Meets K := by
  unfold Blk.reductionEnd
  split
  · refine h.when fun h => ?_
    exact h.units
  · exact h

theorem throttle (h : b.Meets K) {x t} : (b.throttle x t).Meets K := by
  unfold Blk.throttle
  extract_lets v on b1 b2 src b3 b4 src2
  split
  · exact (h.when fun h => h.setFld).setFld.units.raise
  · exact (h.when fun h => h.setFld).setFld.setFld.units.ite (h.when fun h => h.setFld)

theorem fullCooling (h : b.Meets K) : b.fullCooling.Meets K := h.foldl fun h => h.setFld

theorem shutdown (h : b.Meets K) {h' t} : (b.shutdown h' t).Meets K :=
  (h.units.hold.foldl fun h => h.setFld.setFld).units.fullCooling

theorem checkShutdown (h : b.Meets K) {x} : (b.checkShutdown x).Meets K := by
  unfold Blk.checkShutdown
  split
  exacts [h, h.units.ite (h.shutdown.ite h)]

theorem shutdownRestart (h : b.Meets K) : b.shutdownRestart.Meets K := by
  unfold Blk.shutdownRestart
  split
  exacts [h.when fun h => h.restart, h]

theorem dramRound (h : b.Meets K) {x c} : (b.dramRound x c).Meets K :=
  h.setFld.units.raise.ite (h.setFld.ite h.setFld.units)

theorem eqRound (h : b.Meets K) {x} : (b.eqRound x).Meets K := by
  unfold Blk.eqRound
  split
  exacts [h, h.foldl fun h => h.setFld]

theorem zoneRound (h : b.Meets K) {x z} : (b.zoneRound x z).Meets K := by
  unfold Blk.zoneRound
  extract_lets s b1
  have h1 : b1.Meets K := by
    unfold b1
    split
    exacts [h.setSFld.setFld, h]
  exact h1.setFld.ite h1

theorem coolRound (h : b.Meets K) {f} : (b.coolRound f).Meets K := h.setFld.units

theorem coolFault (h : b.Meets K) {f} : (b.coolFault f).Meets K := by
  unfold Blk.coolFault
  split
  exacts [h.when fun h => h.setFld.raise, h]

theorem coolFaultClear (h : b.Meets K) {f} : (b.coolFaultClear f).Meets K := by
  unfold Blk.coolFaultClear
  split
  exacts [h.when fun h => h.setFld, h]

theorem coolHostWrite (h : b.Meets K) {f v} : (b.coolHostWrite f v).Meets K := h.setFld.setFld.units

theorem hostSilent (h : b.Meets K) : b.hostSilent.Meets K := h.when fun h => h.setFld.raise

theorem supplySeen (h : b.Meets K) {x} : (b.supplySeen x).Meets K := by
  unfold Blk.supplySeen
  split
  · refine h.when fun h => ?_
    exact h.units
  · exact h

theorem housekeeping (h : b.Meets K) {x energy} : (b.housekeeping x energy).Meets K := by
  unfold Blk.housekeeping
  extract_lets r
  refine h.when fun h => ?_
  extract_lets src b1 b2 b3 b4 b5 b6 b7 b8
  have h2 : b2.Meets K := h.units.hkWords.hkFaults.supplySeen
  have h4 : b4.Meets K := h2.setFld.reduce.foldl fun h => h.throttle
  have h5 : b5.Meets K := h4.dramRound.dramRound.eqRound
  have h6 : b6.Meets K := h5.foldl fun h => h.zoneRound
  have h8 : b8.Meets K := h6.checkShutdown.foldl fun h => h.coolRound
  exact h8.incFld

/-! ### The supply -/

theorem told (h : b.Meets K) {mv} : (b.told mv).Meets K := h.units

theorem showCrank (h : b.Meets K) {on} : (b.showCrank on).Meets K := h.foldl fun h => h.setFlag.setFlag

theorem crankEntry (h : b.Meets K) {mv} : (b.crankEntry mv).Meets K :=
  h.when fun h => (h.told.units.setFld.setFld.setClock.foldl fun h => h.lswKeep).showCrank.raise.journalFlushAll

theorem storeExhausted (h : b.Meets K) {mv} : (b.storeExhausted mv).Meets K := by
  unfold Blk.storeExhausted
  refine h.when fun h => ?_
  extract_lets b1 b2 b3
  have h2 : b2.Meets K := h.told.setFld.setFld.setClock
  have h3 : b3.Meets K := by
    unfold b3
    refine h2.foldl fun h => ?_
    exact h.setPortState.linkGone.ite h
  exact h3.raise

theorem normalReturn (h : b.Meets K) {mv since} : (b.normalReturn mv since).Meets K := by
  unfold Blk.normalReturn
  refine h.when fun h => ?_
  extract_lets b1 b2 b3
  have h1 : b1.Meets K := h.foldl fun h => h.linkFrame
  have h2 : b2.Meets K := h1.told.setFld.setClock.showCrank
  have h3 : b3.Meets K := h2.foldl fun h => h.solReturn
  exact h3.foldl fun h => h.lswReturn

theorem supplyOff (h : b.Meets K) {mv} : (b.supplyOff mv).Meets K := h.when fun h => h.told.powerOff

theorem supplyHigh (h : b.Meets K) {mv since} : (b.supplyHigh mv since).Meets K :=
  h.when fun h => h.told.setFld.setFld.raise

theorem highClear (h : b.Meets K) {mv since} : (b.highClear mv since).Meets K := h.when fun h => h.told.setFld

theorem holdupCheck (h : b.Meets K) : b.holdupCheck.Meets K := h.when fun h => h.units.raise.ite h.units

/-! ### Register writes -/

theorem onBit (h : b.Meets K) {x v f}
    (hf : ∀ {b : Blk}, b.Meets K → (f b).Meets K) : (b.onBit x v f).Meets K := h.when hf

theorem plainBut (h : b.Meets K) {r i f v} : (b.plainBut r i f v).Meets K := h.plainWrite

theorem encCfgWrite (h : b.Meets K) {e v} : (b.encCfgWrite e v).Meets K := h.plainWrite

theorem tbCfgWrite (h : b.Meets K) {n v} : (b.tbCfgWrite n v).Meets K := h.plainBut.ite h.plainWrite

theorem taskCtrlWrite (h : b.Meets K) {t v} : (b.taskCtrlWrite t v).Meets K := by
  unfold Blk.taskCtrlWrite
  extract_lets was man old b1 b2 b3
  have h2 : b2.Meets K := h.plainWrite.when fun h => h.taskMan
  have h3 : b3.Meets K := (h2.onBit fun h => h.taskPlClr).onBit fun h => h.taskSwap
  exact h3.taskEnable.ite (h3.when fun h => h.taskDisable)

theorem solCtrlWrite (h : b.Meets K) {c v} : (b.solCtrlWrite c v).Meets K := by
  unfold Blk.solCtrlWrite
  extract_lets was b1
  have h1 : b1.Meets K := (h.onBit fun h => h.solTripClear).onBit fun h => h.solFaultClear
  exact (h1.when fun h => h.solEnable).ite (h1.when fun h => h.solDisable)

theorem lswCtrlWrite (h : b.Meets K) {c v} : (b.lswCtrlWrite c v).Meets K := by
  unfold Blk.lswCtrlWrite
  extract_lets was b1
  have h1 : b1.Meets K := (h.onBit fun h => h.lswTripClear).onBit fun h => h.lswFaultClear
  exact (h1.when fun h => h.lswEnable).ite (h1.when fun h => h.lswDisable)

theorem lswCfgWrite (h : b.Meets K) {c v} : (b.lswCfgWrite c v).Meets K :=
  h.plainWrite.when fun h => h.openLoadDisable

theorem camCtrlWrite (h : b.Meets K) {p v} : (b.camCtrlWrite p v).Meets K :=
  h.plainBut.camEnable.ite (h.plainBut.when fun h => h.camDisable)

theorem fusCtrlWrite (h : b.Meets K) {v} : (b.fusCtrlWrite v).Meets K :=
  h.plainBut.fusionEnable.ite (h.plainBut.when fun h => h.fusionDisable)

theorem gnssCtrlWrite (h : b.Meets K) {v err} : (b.gnssCtrlWrite v err).Meets K :=
  (h.plainBut.when fun h => h.gnssEnable).ite (h.plainBut.when fun h => h.gnssDisable)

theorem fnModeWrite (h : b.Meets K) {n v} : (b.fnModeWrite n v).Meets K := h.plainWrite.setFn

theorem yldCtrlWrite (h : b.Meets K) {v} : (b.yldCtrlWrite v).Meets K :=
  (h.plainWrite.onBit fun h => h.jobOpen).onBit fun h => h.jobClose

theorem portCtrlWrite (h : b.Meets K) {p v} : (b.portCtrlWrite p v).Meets K := h.portEnable.ite h.portDisable

theorem pdCtrlWrite (h : b.Meets K) {d v err} : (b.pdCtrlWrite d v err).Meets K :=
  h.plainBut.domainRequest.ite (h.plainBut.domainForceOff.ite h.plainBut.domainOffRequest)

theorem ethCtrlWrite (h : b.Meets K) {e v} : (b.ethCtrlWrite e v).Meets K :=
  h.plainBut.setFld.ite h.plainBut.ethDisable

theorem canCtrlWrite (h : b.Meets K) {k v bus} : (b.canCtrlWrite k v bus).Meets K :=
  (h.plainBut.canEnable.ite (h.plainBut.when fun h => h.canDisable)).onBit fun h => h.canRestart

theorem fleetCtrlWrite (h : b.Meets K) {v} : (b.fleetCtrlWrite v).Meets K :=
  (h.onBit fun h => h.fleetUnpair).setFld.ite ((h.onBit fun h => h.fleetUnpair).fleetDisable)

theorem updCmdWrite (h : b.Meets K) {v} : (b.updCmdWrite v).Meets K :=
  ((h.onBit fun h => h.stageAbort).onBit fun h => h.stageDiscard).onBit fun h => h.updateStage

theorem dbgCtrlWrite (h : b.Meets K) {mid v} : (b.dbgCtrlWrite mid v).Meets K :=
  (h.onBit fun h => h.freezeRegister).onBit fun h => h.dbgRestart

theorem regWrite (h : b.Meets K) {mid r i v x} : (b.regWrite mid r i v x).Meets K := by
  unfold Blk.regWrite
  split
  · exact h.classSeenClear
  · exact h.onBit fun h => h.tbuSnap
  · exact h.tb2SetLow
  · exact h.tb2LoadWrite
  · exact h.tbCfgWrite
  · exact h.encCfgWrite
  · exact h.slotCtrlWrite
  · exact h.slotCountLow
  · exact h.slotCountHigh
  · exact h.slotPeriodWrite
  · exact h.slotPeriodWrite
  · exact h.taskCtrlWrite
  · exact h.solCtrlWrite
  · exact h.lswCtrlWrite
  · exact h.lswCfgWrite
  · exact h.limpRelease
  · exact h.ainCfgWrite
  · exact h.camCtrlWrite
  · exact h.cciStart.ite h.plainWrite
  · exact h.onBit fun h => h.paramCommit
  · exact h.onBit fun h => h.addressCommit
  · exact h.fusCtrlWrite
  · exact h.onBit fun h => h.modelLoad
  · exact h.gnssCtrlWrite
  · exact h.onBit fun h => h.navSnap
  · exact h.fieldLoadRow
  · exact h.fnModeWrite
  · exact h.yldCtrlWrite
  · exact h.setAck
  · exact h.onBit fun h => h.exportStart
  · exact h.roleRequest
  · exact h.portCtrlWrite
  · exact h.onBit fun h => h.transferStart
  · exact h.logReadAdvance
  · exact h.pdCtrlWrite
  · exact h.coolHostWrite
  · exact h.updCmdWrite
  · exact h.ethCtrlWrite
  · exact h.canCtrlWrite
  · exact h.fleetCtrlWrite
  · exact h.fleetRoleRequest
  · exact h.dbgCtrlWrite
  · exact h.plainWrite

theorem regWrites (h : b.Meets K) {mid a data x n} : (b.regWrites mid a data x n).Meets K :=
  h.foldl fun h => h.regWrite

theorem writeAddr (h : b.Meets K) {mid a width data x} : (b.writeAddr mid a width data x).Meets K :=
  h.regWrites.ite h.writeMem

theorem registerWrite (h : b.Meets K) {mid addr width data x} : (b.registerWrite mid addr width data x).Meets K :=
  h.when fun h => h.regWrites

theorem complete (h : b.Meets K) {a x} : (b.complete a x).Meets K := by
  unfold Blk.complete
  split
  exacts [h.answer.respond, h.writeAddr.answer.respond]

theorem accessAccept (h : b.Meets K) {t e x} : (b.accessAccept t e x).Meets K := by
  unfold Blk.accessAccept
  refine h.when fun h => ?_
  split
  exacts [h, h.units.complete]

/-! ### The configuration -/

theorem bootModel (h : b.Meets K) {m} : (b.bootModel m).1.Meets K :=
  h.setFld.modelLoad.ite h.setFld.modelLoad.modelLoadComplete

theorem bootWord (h : b.Meets K) {a v} : (b.bootWord a v).1.Meets K := by
  unfold Blk.bootWord
  split
  · exact h
  · split
    exacts [iteFst h.bootModel h.writeAddr, h.writeAddr]

theorem bootWords (h : b.Meets K) {a l} : (b.bootWords a l).1.Meets K := by
  induction l generalizing b a with
  | nil => exact h
  | cons x l ih =>
    unfold Blk.bootWords
    split
    exacts [h.bootWord.fstEq ‹_›, ih (h.bootWord.fstEq ‹_›)]

theorem bootPlace (h : b.Meets K) {s t i a} : (b.bootPlace s t i a).1.Meets K := by
  unfold Blk.bootPlace
  split
  · exact h
  · split
    · exact (h.bootWords.fstEq ‹_›)
    · exact iteFst ((h.bootWords.fstEq ‹_›).bootModel) (h.bootWords.fstEq ‹_›)

theorem bootRecords (h : b.Meets K) {s l n} : (b.bootRecords s l n).1.Meets K := by
  induction n generalizing b l with
  | zero => exact h
  | succ n ih =>
    unfold Blk.bootRecords
    extract_lets w0 a k v kind size done
    have hd : done.1.Meets K := iteFst h.bootWords (iteFst h.bootWords h.bootPlace)
    exact iteFst h (iteFst h (iteFst (ih hd) hd))

theorem configRead (h : b.Meets K) {s cfg} : (b.configRead s cfg).1.Meets K := iteFst h h.bootRecords

/-! ### The start -/

theorem takeOtp (h : b.Meets K) : b.takeOtp.Meets K := h.setFld.setFld.setFld.setFld.setReg.setReg64.units

theorem takeJournal (h : b.Meets K) {torn} : (b.takeJournal torn).Meets K := h.units.setFld

theorem domainsUp (h : b.Meets K) : b.domainsUp.Meets K := by
  unfold Blk.domainsUp
  extract_lets b1 src
  have h1 : b1.Meets K := by
    unfold b1
    refine h.foldl fun h => ?_
    exact h.setFld.ite h
  exact h1.units

theorem begin_ (h : b.Meets K) : b.begin_.Meets K := by
  unfold Blk.begin_
  split
  exacts [h.powerOff, h.restart, h]

theorem rise (h : b.Meets K) {mv} : (b.rise mv).Meets K := h.powerOff.units.limpHomeEntry

theorem prepare (h : b.Meets K) {x} : (b.prepare x).Meets K :=
  h.begin_.units.setFld.setFlag.domainsUp.takeOtp.limpHomeEntry.takeJournal

theorem chrysalis (h : b.Meets K) : b.chrysalis.Meets K := h.raise.hold.setFld.setFld

theorem pass (h : b.Meets K) {n} : (b.pass n).Meets K := (h.foldl fun h => h.setReg64).foldl fun h => h.watchdogExpiry

theorem failedStart (h : b.Meets K) {n} : (b.failedStart n).Meets K := h.pass.hold.units

theorem failedStartRestart (h : b.Meets K) : b.failedStartRestart.Meets K := h.when fun h => h.restart

theorem moltJournal (h : b.Meets K) {img seq} : (b.moltJournal img seq).Meets K := h.units

theorem molt (h : b.Meets K) {s img cfg c l} (e : b.molt s img cfg = some (c, l)) : c.Meets K := by
  unfold Blk.molt at e
  extract_lets v ver at e
  split at e
  · cases e
  · cases e
    exact h.moltJournal.setFld

theorem tryConfig (h : b.Meets K) {s ecl item} : (b.tryConfig s ecl item).1.Meets K := by
  unfold Blk.tryConfig
  extract_lets img cfg v ver m
  have hm : ∀ {c l}, m = some (c, l) → c.Meets K := by
    intro c l e
    unfold m at e
    split at e
    · exact h.molt e
    · cases e
      exact h
  clear_value m
  split
  · exact h
  next m c l =>
    have hc : c.Meets K := hm rfl
    refine iteFst hc ?_
    split
    next r e' => exact hc.configRead.fstEq e'
    next r e' =>
      have hr : r.Meets K := hc.configRead.fstEq e'
      split
      exacts [hr.setFld.setFld, hr.setFld.setFld]

theorem trySet (h : b.Meets K) {k ecl item} : (b.trySet k ecl item).1.Meets K := by
  unfold Blk.trySet
  extract_lets s
  split
  exacts [h, h.units.tryConfig]

theorem showStart (h : b.Meets K) {k kind r} : (b.showStart k kind r).Meets K := by
  unfold Blk.showStart
  extract_lets b1 b2 b3 b4
  have h2 : b2.Meets K := h.setFlag.setFlag.setFld.setFld.setFlag
  have h4 : b4.Meets K := h2.setReg.setReg.setReg.ite h2.setReg.setReg
  exact h4.setFld

theorem fixOwners (h : b.Meets K) : b.fixOwners.Meets K := h.units

theorem releaseRecs (h : b.Meets K) : b.releaseRecs.Meets K := h.units.foldl fun h => h.raiseRec

theorem goLive (h : b.Meets K) : b.goLive.Meets K := by
  unfold Blk.goLive
  extract_lets b1 b2 b3 b4 b5 b6
  have h2 : b2.Meets K := h.setFld.foldl fun h => h.armSlot
  have h3 : b3.Meets K := h2.foldl fun h => h.linkFrame
  have h4 : b4.Meets K := h3.foldl fun h => h.setFld
  have h5 : b5.Meets K := by
    unfold b5
    refine h4.foldl fun h => ?_
    exact h.tripAct.ite h
  exact ((h5.seqKept.ite h5).ledgerBegin.ite (h5.seqKept.ite h5)).updateBest

theorem commitStart (h : b.Meets K) {k kind n} : (b.commitStart k kind n).Meets K :=
  h.pass.showStart.fixOwners.writeBootRec.units.setFld.releaseRecs.goLive

theorem markBad (h : b.Meets K) {k} : (b.markBad k).Meets K := h.writeBootRec.units

theorem undo (h : b.Meets K) {t : Blk} (ht : t.Meets K) : (b.undo t).Meets K := by
  have hu := K.undo h ht
  exact K.units hu rfl rfl rfl

theorem failed (h : b.Meets K) {t : Blk} (ht : t.Meets K) {k f} :
    (b.failed t k f).Meets K := (h.undo ht).markBad.raise

theorem startGood (h : b.Meets K) {kind n} : (b.startGood kind n).Meets K := by
  unfold Blk.startGood
  split
  · exact h.failedStart
  next k _ =>
    split
    next t e => exact (h.trySet.fstEq e).commitStart
    next t f e =>
      extract_lets b1
      have h1 : b1.Meets K := (h.failed (h.trySet.fstEq e)).raise
      split
      · exact h1.failedStart
      · split
        next t' e' => exact (h1.trySet.fstEq e').commitStart
        next t' f' e' => exact (h1.undo (h1.trySet.fstEq e')).raise.failedStart

theorem interrupted (h : b.Meets K) {k} : (b.interrupted k).Meets K := h.when fun h => h.markBad.raise

theorem startSets (h : b.Meets K) {item n} : (b.startSets item n).Meets K := by
  unfold Blk.startSets
  extract_lets b1 r
  have h1 : b1.Meets K := h.interrupted.interrupted
  split
  · exact h1.startGood
  next k _ =>
    extract_lets s b2
    have h2 : b2.Meets K := h1.writeBootRec
    split
    next t e => exact (h2.trySet.fstEq e).commitStart
    next t f e => exact (h2.failed (h2.trySet.fstEq e)).raise.startGood

theorem fullStart (h : b.Meets K) {x} : (b.fullStart x).Meets K :=
  h.when fun h => (h.rise.ite h).ite (h.prepare.pass.chrysalis.ite h.prepare.writeBootRec.startSets)

/-! ### Recovery -/

theorem recSend (h : b.Meets K) {src port l} : (b.recSend src port l).Meets K := h.ethSend

theorem recAnswer (h : b.Meets K) {src port m body} : (b.recAnswer src port m body).Meets K := h.units.recSend

theorem recSeen (h : b.Meets K) {t port} : (b.recSeen t port).Meets K := h.units

theorem recover (h : b.Meets K) {op src port d act}
    (hf : ∀ {b : Blk} {x}, b.Meets K → (act b x).1.Meets K) : (b.recover op src port d act).Meets K := by
  unfold Blk.recover
  refine h.when fun h => ?_
  split
  · exact h
  next m _ =>
    split
    · exact h
    · extract_lets late
      have hl : ∀ {c : Blk}, c.Meets K → (late c).Meets K := by
        intro c h
        refine h.recAnswer.ite ?_
        split
        next c' _ e => exact ((hf h).fstEq e).recAnswer
        next c' e => exact (hf h).fstEq e
      split
      · exact (hl h).ite h.recSend
      · split
        · exact h.recSend
        · split
          · exact h.recSeen.recSend
          · split
            exacts [h.recSeen.recSend.ite (hl h.recSeen), hl h.recSeen]

theorem recHello (h : b.Meets K) {src port d} : (b.recHello src port d).Meets K := h.recover fun h => h

theorem recBegin (h : b.Meets K) {src port d} : (b.recBegin src port d).Meets K := h.recover fun h => iteFst h h.units

theorem recData (h : b.Meets K) {src port d} : (b.recData src port d).Meets K := by
  unfold Blk.recData
  refine h.recover fun h => ?_
  extract_lets off part have_
  split
  exacts [h, iteFst h (iteFst h (iteFst h h.units))]

theorem recCommit (h : b.Meets K) {src port d} : (b.recCommit src port d).Meets K :=
  h.recover fun h => h.writeBootRec.units

theorem stageReceived (h : b.Meets K) {nand} : (b.stageReceived nand).1.Meets K := by
  unfold Blk.stageReceived
  extract_lets k pkg bad b1
  clear_value bad
  split
  · exact h.stageFail
  · split
    exacts [h.emptySet.stageFail, h.emptySet.stageSet]

theorem recCommitDone (h : b.Meets K) {nand} : (b.recCommitDone nand).Meets K := by
  unfold Blk.recCommitDone
  refine h.when fun h => ?_
  split
  · exact h
  · split
    · split
      exacts [(h.units.stageReceived.fstEq ‹_›).recAnswer, (h.units.stageReceived.fstEq ‹_›)]

theorem otpWrite (hK : K.AdmitsOtp) (h : b.Meets K) {g head payload sig} :
    (b.otpWrite g head payload sig).1.Meets K := by
  refine iteFst h ?_
  split
  · exact h
  · exact iteFst h (iteFst h (hK _ h _ _))

theorem recOtpWrite (hK : K.AdmitsOtp) (h : b.Meets K) {src port d} : (b.recOtpWrite src port d).Meets K :=
  h.recover fun h => iteFst h (otpWrite hK h)

theorem recReadLog (h : b.Meets K) {src port d} : (b.recReadLog src port d).Meets K := h.recover fun h => iteFst h h

theorem recRestart (h : b.Meets K) {src port d} : (b.recRestart src port d).Meets K := by
  unfold Blk.recRestart
  extract_lets b1
  have h1 : b1.Meets K := by
    unfold b1
    refine h.recover fun h => ?_
    exact h.units
  exact h1.restart.ite h1

theorem recDatagram (hK : K.AdmitsOtp) (h : b.Meets K) {src port d} : (b.recDatagram src port d).Meets K := by
  unfold Blk.recDatagram
  split
  · exact h.recHello
  · exact h.recBegin
  · exact h.recData
  · exact h.recCommit
  · exact recOtpWrite hK h
  · exact h.recReadLog
  · exact h.recRestart
  · exact h.recover fun h => h

theorem ethFrame (hK : K.AdmitsOtp) (h : b.Meets K) {e f} : (b.ethFrame e f).Meets K := by
  unfold Blk.ethFrame
  split
  · split
    · exact (recDatagram hK h).ite h
    · refine h.when fun h => ?_
      exact h.pointPacket.fleetDatagram.ite h.pointPacket
  · exact h.ethAnswer

theorem recoverRelease (h : b.Meets K) : b.recoverRelease.Meets K := h.units.when fun h => h.restart

theorem bindingTimeout (h : b.Meets K) : b.bindingTimeout.Meets K := by
  unfold Blk.bindingTimeout
  split
  · refine h.when fun h => ?_
    exact h.units
  · exact h

end Blk.Meets

/-! ## Commands and steps -/

/-- What the outcome leaves, where it leaves a state, has the property. -/
def OutMeets (o : Host.Outcome State Fault Refusal) (K : BlockInv) : Prop := ∀ t, o = .next t → t.blk.Meets K

theorem OutMeets.run {s : State} {K : BlockInv} {f : Blk → Blk} (h : s.blk.Meets K)
    (hf : ∀ {b : Blk}, b.Meets K → (f b).Meets K) : OutMeets (s.run f) K := by
  intro t ht
  cases ht
  exact hf h

/-- Every command keeps what every operation of the block keeps. -/
theorem exec_meets {K : BlockInv} (hK : K.AdmitsOtp) {s : State} (h : s.blk.Meets K) (i : Instr) : OutMeets (exec i s) K := by
  unfold exec
  cases i with
  | registerWrite => exact .run h fun h => h.registerWrite
  | targetAccess => exact .run h fun h => h.targetAccess
  | accessAccept => exact .run h fun h => h.accessAccept
  | faultRecordSend => exact .run h fun h => h.faultRecordSend
  | classSeenClear => exact .run h fun h => h.live fun h => h.classSeenClear
  | tbuTick => exact .run h fun h => h.tbuTick
  | sourcePulse => exact .run h fun h => h.sourcePulse
  | indexPulse => exact .run h fun h => h.indexPulse
  | tbStallExpiry => exact .run h fun h => h.tbStallExpiry
  | tb3SlipUpdate => exact .run h fun h => h.live fun h => h.slipUpdate
  | tb2SetLowWrite => exact .run h fun h => h.live fun h => h.tb2SetLow
  | tb2Load => exact .run h fun h => h.live fun h => h.tb2LoadWrite
  | tbuSnap => exact .run h fun h => h.live fun h => h.tbuSnap
  | encCfgWrite => exact .run h fun h => h.live fun h => h.encCfgWrite
  | slotArm => exact .run h fun h => h.live fun h => h.slotCtrlWrite
  | slotCountLowWrite => exact .run h fun h => h.live fun h => h.slotCountLow
  | slotCountHighWrite => exact .run h fun h => h.live fun h => h.slotCountHigh
  | slotPeriodWrite => exact .run h fun h => h.live fun h => h.slotPeriodWrite
  | slotFire => exact .run h fun h => h.live fun h => h.slotFire
  | triggerArrival => exact .run h fun h => h.live fun h => h.triggerArrival
  | deadlineReached => exact .run h fun h => h.live fun h => h.deadlineReached
  | backstopReached => exact .run h fun h => h.live fun h => h.backstopReached
  | taskEnable => exact .run h fun h => h.live fun h => h.taskEnable
  | taskDisable => exact .run h fun h => h.live fun h => h.taskDisable
  | taskSwap => exact .run h fun h => h.live fun h => h.taskSwap
  | taskPlClr => exact .run h fun h => h.live fun h => h.taskPlClr
  | taskManWrite => exact .run h fun h => h.live fun h => h.taskMan
  | sampleBoundary => exact .run h fun h => h.sampleBoundary
  | preempt => exact .run h fun h => h.preempt
  | resume => exact .run h fun h => h.resume
  | commit => exact .run h fun h => h.commit
  | instanceAbort => exact .run h fun h => h.live fun h => h.instanceAbort
  | drainLimit => exact .run h fun h => h.live fun h => h.drainLimit
  | occWindow => exact .run h fun h => h.occWindow
  | graceEnd => exact .run h fun h => h.graceEnd
  | ill => exact .run h fun h => h.opIll
  | nop => exact .run h fun h => h.opNop
  | endInstr => exact .run h fun h => h.opEnd
  | branch => exact .run h fun h => h.opBr
  | add => exact .run h fun h => h.opAdd
  | sub => exact .run h fun h => h.opSub
  | addw => exact .run h fun h => h.opAddw
  | subw => exact .run h fun h => h.opSubw
  | minLane => exact .run h fun h => h.opMin
  | maxLane => exact .run h fun h => h.opMax
  | absLane => exact .run h fun h => h.opAbs
  | neg => exact .run h fun h => h.opNeg
  | andLane => exact .run h fun h => h.opAnd
  | orLane => exact .run h fun h => h.opOr
  | xorLane => exact .run h fun h => h.opXor
  | shl => exact .run h fun h => h.opShl
  | shr => exact .run h fun h => h.opShr
  | shrr => exact .run h fun h => h.opShrr
  | mul => exact .run h fun h => h.opMul
  | div => exact .run h fun h => h.opDiv
  | mov => exact .run h fun h => h.opMov
  | bcst => exact .run h fun h => h.opBcst
  | movl => exact .run h fun h => h.opMovl
  | hsum => exact .run h fun h => h.opHsum
  | cmpeq => exact .run h fun h => h.opCmpeq
  | cmpne => exact .run h fun h => h.opCmpne
  | cmplt => exact .run h fun h => h.opCmplt
  | cmple => exact .run h fun h => h.opCmple
  | cmpltu => exact .run h fun h => h.opCmpltu
  | pand => exact .run h fun h => h.opPand
  | por => exact .run h fun h => h.opPor
  | pnot => exact .run h fun h => h.opPnot
  | pset => exact .run h fun h => h.opPset
  | ldi => exact .run h fun h => h.opLdi
  | ldih => exact .run h fun h => h.opLdih
  | addi => exact .run h fun h => h.opAddi
  | cmul => exact .run h fun h => h.opCmul
  | cld => exact .run h fun h => h.opCld
  | cmac => exact .run h fun h => h.opCmac
  | cmsu => exact .run h fun h => h.opCmsu
  | clra => exact .run h fun h => h.opClra
  | adda => exact .run h fun h => h.opAdda
  | accr => exact .run h fun h => h.opAccr
  | accl => exact .run h fun h => h.opAccl
  | ldTile => exact .run h fun h => h.opLd
  | stTile => exact .run h fun h => h.opSt
  | ldx => exact .run h fun h => h.opLdx
  | gld => exact .run h fun h => h.opGld
  | gldResponse => exact .run h fun h => h.live fun h => h.gldResponse
  | gst => exact .run h fun h => h.opGst
  | gstComplete => exact .run h fun h => h.live fun h => h.gstComplete
  | smp => exact .run h fun h => h.opSmp
  | tbr => exact .run h fun h => h.opTbr
  | outStage => exact .run h fun h => h.opOut
  | flg => exact .run h fun h => h.opFlg
  | controlRound => exact .run h fun h => h.controlRound
  | roundOverrun => exact .run h fun h => h.live fun h => h.roundOverrun
  | hpcWriteDenied => exact .run h fun h => h.live fun h => h.hpcWriteDenied
  | optimiserProposal => exact .run h fun h => h.optimiserProposal
  | fieldLoad => exact .run h fun h => h.live fun h => h.fieldLoadRow
  | fieldLoadDone => exact .run h fun h => h.fieldLoadDone
  | surfaceSave => exact .run h fun h => h.surfaceSave
  | setpointArrival => exact .run h fun h => h.setpointArrival
  | currentSample => exact .run h fun h => h.currentSample
  | pwmEdge => exact .run h fun h => h.pwmEdge
  | pwmPhaseTrigger => exact .run h fun h => h.phaseTrigger
  | coilBandUpdate => exact .run h fun h => h.coilUpdate
  | pullinTimeout => exact .run h fun h => h.pullinTimeout
  | tripAssert => exact .run h fun h => h.tripAssert
  | tripRelease => exact .run h fun h => h.tripRelease
  | solTripClear => exact .run h fun h => h.live fun h => h.solTripClear
  | solFaultClear => exact .run h fun h => h.live fun h => h.solFaultClear
  | solEnable => exact .run h fun h => h.live fun h => h.solEnable
  | solDisable => exact .run h fun h => h.live fun h => h.solDisable
  | companionOvertemp => exact .run h fun h => h.companionOvertemp
  | linkFrame => exact .run h fun h => h.linkFrame
  | watchdogExpiry => exact .run h fun h => h.watchdogExpiry
  | limpHomeEntry => exact .run h fun h => h.limpHomeEntry
  | limpPinChange => exact .run h fun h => h.limpPinChange
  | limpRelease => exact .run h fun h => h.live fun h => h.limpRelease
  | feedUndervoltage => exact .run h fun h => h.feedUndervoltage
  | feedRecovery => exact .run h fun h => h.feedRecovery
  | lswCommand => exact .run h fun h => h.lswCommand
  | senseSample => exact .run h fun h => h.senseSample
  | lswShort => exact .run h fun h => h.lswShort
  | lswOverload => exact .run h fun h => h.lswOverload
  | lampLimitOff => exact .run h fun h => h.lampLimitOff
  | lswRetry => exact .run h fun h => h.lswRetry
  | retryEpisodeEnd => exact .run h fun h => h.retryEpisodeEnd
  | feedShed => exact .run h fun h => h.feedOver
  | shedEpisodeEnd => exact .run h fun h => h.shedEnd
  | lswJunctionOvertemp => exact .run h fun h => h.lswJunction
  | lswFaultClear => exact .run h fun h => h.live fun h => h.lswFaultClear
  | lswTripClear => exact .run h fun h => h.live fun h => h.lswTripClear
  | lswEnable => exact .run h fun h => h.live fun h => h.lswEnable
  | lswDisable => exact .run h fun h => h.live fun h => h.lswDisable
  | openLoadCheck => exact .run h fun h => h.openLoadCheck
  | openLoadDisable => exact .run h fun h => h.live fun h => h.openLoadDisable
  | ainWord => exact .run h fun h => h.ainWord
  | ainCfgWrite => exact .run h fun h => h.live fun h => h.ainCfgWrite
  | excitationFault => exact .run h fun h => h.live fun h => h.excFault
  | impSample => exact .run h fun h => h.impSample
  | sensorSampleTrigger => exact .run h fun h => h.live fun h => h.sampleTrigger
  | encEdge => exact .run h fun h => h.encEdge
  | housekeepingRound => exact .run h fun h => h.housekeeping
  | reductionEnd => exact .run h fun h => h.reductionEnd
  | shutdownRestart => exact .run h fun h => h.shutdownRestart
  | coolHostWrite => exact .run h fun h => h.live fun h => h.coolHostWrite
  | hostSilent => exact .run h fun h => h.hostSilent
  | coolFault => exact .run h fun h => h.coolFault
  | coolFaultClear => exact .run h fun h => h.coolFaultClear
  | frameStart => exact .run h fun h => h.frameStart
  | frameEnd => exact .run h fun h => h.frameEnd
  | longPacket => exact .run h fun h => h.longPacket
  | linePacket => exact .run h fun h => h.linePacket
  | streamAddressCommit => exact .run h fun h => h.live fun h => h.addressCommit
  | parameterCommit => exact .run h fun h => h.live fun h => h.paramCommit
  | pipelineEnable => exact .run h fun h => h.live fun h => h.camEnable
  | pipelineDisable => exact .run h fun h => h.live fun h => h.camDisable
  | exposureTrigger => exact .run h fun h => h.live fun h => h.exposureTrigger
  | triggerPulseEnd => exact .run h fun h => h.live fun h => h.pulseEnd
  | noFrame => exact .run h fun h => h.noFrame
  | noEnd => exact .run h fun h => h.noEnd
  | noStart => exact .run h fun h => h.noStart
  | cciStart => exact .run h fun h => h.live fun h => h.cciStart
  | cciDone => exact .run h fun h => h.live fun h => h.cciDone
  | poseUpdate => exact .run h fun h => h.poseUpdate
  | epoch => exact .run h fun h => h.runEpoch
  | sensorDropped => exact .run h fun h => h.sensorDropped
  | epochAbandon => exact .run h fun h => h.epochAbandon
  | modelLoad => exact .run h fun h => h.live fun h => h.modelLoad
  | frameInference => exact .run h fun h => h.frameInference
  | pointPacket => exact .run h fun h => h.pointPacket
  | fusionEnable => exact .run h fun h => h.live fun h => h.fusionEnable
  | fusionDisable => exact .run h fun h => h.live fun h => h.fusionDisable
  | channelAssign => exact .run h fun h => h.channelAssign
  | channelRelease => exact .run h fun h => h.channelRelease
  | correlatorDump => exact .run h fun h => h.correlatorDump
  | signalFound => exact .run h fun h => h.signalFound
  | pullInLock => exact .run h fun h => h.pullInLock
  | pullInTimeout => exact .run h fun h => h.pullInTimeout
  | coastEntry => exact .run h fun h => h.coastEntry
  | coastExit => exact .run h fun h => h.coastExit
  | coastTimeout => exact .run h fun h => h.coastTimeout
  | spectrumScan => exact .run h fun h => h.spectrumScan
  | notchRelease => exact .run h fun h => h.notchRelease
  | jamEvaluation => exact .run h fun h => h.jamEvaluation
  | navSolution => exact .run h fun h => h.navSolution
  | navSnap => exact .run h fun h => h.live fun h => h.navSnap
  | rtcmFrame => exact .run h fun h => h.rtcmFrame
  | correctionEpochClose => exact .run h fun h => h.correctionClose
  | timeLock => exact .run h fun h => h.timeLock
  | holdoverEntry => exact .run h fun h => h.holdoverEntry
  | holdoverLimit => exact .run h fun h => h.holdoverLimit
  | lockReturn => exact .run h fun h => h.lockReturn
  | ppsSecond => exact .run h fun h => h.ppsSecond
  | ppsWidthEnd => exact .run h fun h => h.ppsWidthEnd
  | nmeaOutput => exact .run h fun h => h.nmeaOutput
  | gnssEnable => exact .run h fun h => h.live fun h => h.gnssEnable
  | gnssDisable => exact .run h fun h => h.live fun h => h.gnssDisable
  | massFlowRead => exact .run h fun h => h.massFlowRead
  | cellClose => exact .run h fun h => h.cellClose
  | exportStart => exact .run h fun h => h.live fun h => h.exportStart
  | exportDone => exact .run h fun h => h.exportDone
  | jobOpen => exact .run h fun h => h.live fun h => h.jobOpen
  | jobClose => exact .run h fun h => h.live fun h => h.jobClose
  | jobCloseComplete => exact .run h fun h => h.jobCloseComplete
  | hourClose => exact .run h fun h => h.hourClose
  | dayClose => exact .run h fun h => h.dayClose
  | checkpoint => exact .run h fun h => h.checkpoint
  | accrualAccept => exact .run h fun h => h.accrAccept
  | journalFlush => exact .run h fun h => h.journalFlush
  | trainingAttempt => exact .run h fun h => h.trainingAttempt
  | linkUp => exact .run h fun h => h.linkUp
  | linkDown => exact .run h fun h => h.linkDown
  | trainFlit => exact .run h fun h => h.trainFlit
  | creditFlit => exact .run h fun h => h.creditFlit
  | creditSend => exact .run h fun h => h.creditSend
  | idleFlit => exact .run h fun h => h.idleFlit
  | freezeFlit => exact .run h fun h => h.freezeFlit
  | packetForward => exact .run h fun h => h.packetForward
  | rdReq => exact .run h fun h => h.rdReq
  | rdRsp => exact .run h fun h => h.rdRsp
  | wrReq => exact .run h fun h => h.wrReq
  | wrRsp => exact .run h fun h => h.wrRsp
  | streamPacket => exact .run h fun h => h.streamIn
  | faultPacket => exact .run h fun h => h.faultIn
  | beaconPacket => exact .run h fun h => h.beaconIn
  | beaconSend => exact .run h fun h => h.beaconSend
  | topoPacket => exact .run h fun h => h.topoIn
  | topoSend => exact .run h fun h => h.topoSend
  | routeCompute => exact .run h fun h => h.routeCompute
  | routePacket => exact .run h fun h => h.routeIn
  | timeSync => exact .run h fun h => h.timeSync
  | syncSend => exact .run h fun h => h.syncSend
  | delayMeasure => exact .run h fun h => h.delayMeasure
  | delayReq => exact .run h fun h => h.delayReq
  | delayRsp => exact .run h fun h => h.delayRsp
  | tb0Pair => exact .run h fun h => h.tb0Pair
  | tb0PairSend => exact .run h fun h => h.tb0PairSend
  | tb0PairTimeout => exact .run h fun h => h.tb0PairTimeout
  | roleTake => exact .run h fun h => h.roleTake
  | roleGive => exact .run h fun h => h.roleGive
  | roleGrant => exact .run h fun h => h.roleGrant
  | roleRefuse => exact .run h fun h => h.roleRefuse
  | roleRequest => exact .run h fun h => h.live fun h => h.roleRequest
  | giveTimeout => exact .run h fun h => h.giveTimeout
  | roleHoldoffEnd => exact .run h fun h => h.roleHoldoffEnd
  | roleElection => exact .run h fun h => h.roleElection
  | conductorLost => exact .run h fun h => h.conductorLost
  | contribPacket => exact .run h fun h => h.contribIn
  | remoteRequestSend => exact .run h fun h => h.remoteRequestSend
  | responseTimeout => exact .run h fun h => h.responseTimeout
  | coalesceWindowEnd => exact .run h fun h => h.live fun h => h.coalesceEnd
  | crcEpisodeEnd => exact .run h fun h => h.live fun h => h.crcEpisodeEnd
  | transferStart => exact .run h fun h => h.transferStart
  | transferDone => exact .run h fun h => h.live fun h => h.transferDone
  | portEnable => exact .run h fun h => h.live fun h => h.portEnable
  | portDisable => exact .run h fun h => h.live fun h => h.portDisable
  | ethFrame => exact .run h fun h => h.ethFrame hK
  | ethDisable => exact .run h fun h => h.live fun h => h.ethDisable
  | canFrameReceive => exact .run h fun h => h.canReceive
  | canTransmit => exact .run h fun h => h.canTransmit
  | canRestart => exact .run h fun h => h.live fun h => h.canRestart
  | busOffRecovery => exact .run h fun h => h.live fun h => h.busOffRecovery
  | canDisable => exact .run h fun h => h.live fun h => h.canDisable
  | isobusMessage => exact .run h fun h => h.isobusMessage
  | engineRequestSend => exact .run h fun h => h.engineSend
  | pgnTimeout => exact .run h fun h => h.pgnTimeout
  | fleetTake => exact .run h fun h => h.fleetTake
  | fleetGive => exact .run h fun h => h.fleetGive
  | fleetGrant => exact .run h fun h => h.fleetGrant
  | fleetRefuse => exact .run h fun h => h.fleetRefuse
  | fleetRoleRequest => exact .run h fun h => h.live fun h => h.fleetRoleRequest
  | fleetRoleTimeout => exact .run h fun h => h.fleetRoleTimeout
  | fleetHoldoffEnd => exact .run h fun h => h.fleetHoldoffEnd
  | stateSend => exact .run h fun h => h.stateSend
  | unloadMessage => exact .run h fun h => h.unloadIn
  | unloadSend => exact .run h fun h => h.unloadSend
  | unloadReady => exact .run h fun h => h.unloadReady
  | unloadLost => exact .run h fun h => h.unloadLost
  | fleetUnpair => exact .run h fun h => h.live fun h => h.fleetUnpair
  | rtkDatagram => exact .run h fun h => h.rtkIn
  | ledgerSend => exact .run h fun h => h.ledgerSend
  | ledgerAck => exact .run h fun h => h.ledgerAck
  | ledgerResendTimeout => exact .run h fun h => h.ledgerResend
  | fleetDisable => exact .run h fun h => h.live fun h => h.fleetDisable
  | logReadAdvance => exact .run h fun h => h.live fun h => h.logReadAdvance
  | crankEntry => exact .run h fun h => h.crankEntry
  | storeExhausted => exact .run h fun h => h.storeExhausted
  | normalReturn => exact .run h fun h => h.normalReturn
  | supplyOff => exact .run h fun h => h.supplyOff
  | supplyHigh => exact .run h fun h => h.supplyHigh
  | highClear => exact .run h fun h => h.highClear
  | holdupCheck => exact .run h fun h => h.holdupCheck
  | domainRequest => exact .run h fun h => h.domainRequest
  | domainOffRequest => exact .run h fun h => h.domainOffRequest
  | domainForceOff => exact .run h fun h => h.domainForceOff
  | domainAdmit => exact .run h fun h => h.domainAdmit
  | rampEnd => exact .run h fun h => h.rampEnd
  | settleEnd => exact .run h fun h => h.settleEnd
  | domainStopped => exact .run h fun h => h.domainStopped
  | fullStart => exact .run h fun h => h.fullStart
  | failedStartRestart => exact .run h fun h => h.failedStartRestart
  | updateStage => exact .run h fun h => h.updateStage
  | stageComplete => exact .run h fun h => h.stageComplete
  | stageAbort => exact .run h fun h => h.stageAbort
  | stageDiscard => exact .run h fun h => h.stageDiscard
  | recoveryHello => exact .run h fun h => h.recHello
  | recoveryBegin => exact .run h fun h => h.recBegin
  | recoveryData => exact .run h fun h => h.recData
  | recoveryCommit => exact .run h fun h => h.recCommit
  | recoveryCommitDone => exact .run h fun h => h.recCommitDone
  | otpWrite => exact .run h fun h => h.recOtpWrite hK
  | readLog => exact .run h fun h => h.recReadLog
  | recoveryRestart => exact .run h fun h => h.recRestart
  | bindingTimeout => exact .run h fun h => h.bindingTimeout
  | tapReset => exact .run h fun h => h.tapReset
  | bypass => exact .run h fun h => h.tapScan
  | idcode => exact .run h fun h => h.tapScan
  | samplePreload => exact .run h fun h => h.tapScan
  | extest => exact .run h fun h => h.tapScan
  | clamp => exact .run h fun h => h.tapScan
  | highz => exact .run h fun h => h.tapScan
  | extestPulse => exact .run h fun h => h.tapScan
  | extestTrain => exact .run h fun h => h.tapScan
  | dbgAccess => exact .run h fun h => h.tapScan
  | freezePin => exact .run h fun h => h.freezePin
  | freezeRegister => exact .run h fun h => h.freezeRegister
  | dbgRestart => exact .run h fun h => h.dbgRestart
  | modelLoadComplete => exact .run h fun h => h.modelLoadComplete
  | antennaBiasFault => exact .run h fun h => h.antennaBias
  | ethLinkChange => exact .run h fun h => h.ethLink
  | busOff => exact .run h fun h => h.busOff
  | recoverNRelease => exact .run h fun h => h.recoverRelease
  | phyLockChange => exact .run h fun h => h.live fun h => h.phyLock
  | sotSyncError => exact .run h fun h => h.sotError

/-- A step keeps what every operation of the block keeps. -/
theorem step_meets {K : BlockInv} (hK : K.AdmitsOtp) {s : State} (h : s.blk.Meets K) : OutMeets (step s) K := by
  intro t ht
  unfold step at ht
  split at ht
  · cases ht
    exact h
  next i l _ => exact exec_meets hK (s := ⟨l, s.blk⟩) h i t ht

end Sys2Proof.Machine
end

section
/-!
PROOFS. The canonical form of registers, memory and OTP is such a property (O4).
-/

namespace Sys2Proof.Machine

/-- Two canonical maps, every key of the first below every key of the second, make one. -/
theorem SMap.wf_append {κ α : Type} [DecidableEq κ] [DecidableEq α] {lt : κ → κ → Bool} {d : κ → α} {l m : SMap κ α}
    (hl : SMap.wf lt d l = true) (hm : SMap.wf lt d m = true) (h : ∀ x ∈ l, ∀ y ∈ m, lt x.1 y.1 = true) :
    SMap.wf lt d (l ++ m) = true := by
  induction l with
  | nil => exact hm
  | cons e l ih =>
    obtain ⟨hv, hlt, hl⟩ := SMap.wf_cons.mp hl
    refine SMap.wf_cons.mpr ⟨hv, fun x hx => ?_, ih hl fun x hx => h x (List.mem_cons_of_mem _ hx)⟩
    rcases List.mem_append.mp hx with hx | hx
    · exact hlt x hx
    · exact h e List.mem_cons_self x hx

/-- The memory that a failed try leaves is canonical: AON SRAM of the try lies between the rest of the block's own. -/
theorem Memory.wf_undo {m n : List Host.Cell} (hm : Memory.wf freshByte m = true) (hn : Memory.wf freshByte n = true) :
    Memory.wf freshByte (m.filter (fun c => decide (c.1 < 0x10000000)) ++ n.filter (fun c => inAon c.1) ++
      m.filter (fun c => decide (0x11000000 ≤ c.1))) = true := by
  have hlow := Memory.wf_filter hm fun c => decide (c.1 < 0x10000000)
  have haon := Memory.wf_filter hn fun c => inAon c.1
  have hhigh := Memory.wf_filter hm fun c => decide (0x11000000 ≤ c.1)
  refine SMap.wf_append (SMap.wf_append hlow haon fun x hx y hy => ?_) hhigh fun x hx y hy => ?_
  · simp only [List.mem_filter, inAon, Bool.and_eq_true, decide_eq_true_eq] at hx hy
    simp only [natLt, decide_eq_true_eq]
    omega
  · simp only [List.mem_append, List.mem_filter, inAon, Bool.and_eq_true, decide_eq_true_eq] at hx hy
    simp only [natLt, decide_eq_true_eq]
    omega

/-- Every operation of the block keeps the canonical form. -/
def canonicalForm : BlockInv where
  holds b := b.wf = true
  setReg h r i v := Blk.wf_setReg h r i v
  setByte h a v := Blk.wf_setByte h a v
  units h hr hm ho := (Blk.wf_congr hr hm ho).trans h
  clear h := (Blk.wf_iff _).mpr ⟨rfl, ((Blk.wf_iff _).mp h).2⟩
  forget h p := by
    obtain ⟨hr, hm, ho⟩ := (Blk.wf_iff _).mp h
    exact (Blk.wf_iff _).mpr ⟨hr, Memory.wf_filter hm p, ho⟩
  undo h ht := by
    obtain ⟨hr, hm, ho⟩ := (Blk.wf_iff _).mp h
    obtain ⟨-, hn, -⟩ := (Blk.wf_iff _).mp ht
    exact (Blk.wf_iff _).mpr ⟨hr, Memory.wf_undo hm hn, ho⟩

theorem wf_otpProgram {m : List Host.Cell} (h : Memory.wf 0 m = true) (a : Nat) (l : List Byte) :
    Memory.wf 0 (otpProgram m a l) = true := by
  induction l generalizing m a with
  | nil => exact h
  | cons x l ih => exact ih (Memory.wf_put h a _) _

theorem canonicalForm_admitsOtp : canonicalForm.AdmitsOtp := by
  intro b h a l
  obtain ⟨hr, hm, ho⟩ := (Blk.wf_iff _).mp h
  exact (Blk.wf_iff _).mpr ⟨hr, hm, wf_otpProgram ho a l⟩

/-- Settles O4: the canonical form is kept by every register and byte written, by OTP programmed and by memory lost or taken
back, and of these every operation of the block is made. -/
theorem everyStepKeepsCanonicalForm : Obligations.EveryStepKeepsCanonicalForm := by
  unfold Obligations.EveryStepKeepsCanonicalForm
  intro s t h
  exact step_meets canonicalForm_admitsOtp (K := canonicalForm) h t

end Sys2Proof.Machine
end

section
/-!
PROOFS. What reset leaves (O3) and the order of the bytes of memory (O7).
-/

namespace Sys2Proof.Machine

/-- A field that is 0 in the Reset column of its register is clear after reset. -/
theorem Blk.flag_reset_of_zero {f : Fld} {i c : Nat} (h : f.reg.resetNat i = c) (hc : f.get (BitVec.ofNat 32 c) = 0) :
    Blk.reset.flag f i = false := by
  have hreg : Blk.reset.reg f.reg i = BitVec.ofNat 32 c := congrArg (BitVec.ofNat 32) h
  simp [Blk.flag, Blk.fld, hreg, hc]

/-- Settles O3: every register reads as its Reset column since the map of registers is empty. -/
theorem resetLeavesTheResetColumn : Obligations.ResetLeavesTheResetColumn :=
  ⟨rfl, Blk.flag_reset_of_zero rfl rfl, Blk.wf_reset, rfl, fun _ _ => rfl, fun _ => ⟨rfl, rfl⟩, rfl, rfl,
    fun _ => ⟨rfl, rfl⟩,
    fun _ => ⟨Blk.flag_reset_of_zero (c := 0) rfl rfl, Blk.flag_reset_of_zero (c := 2) rfl rfl,
      Blk.flag_reset_of_zero (c := 0) rfl rfl, Blk.flag_reset_of_zero (c := 0) rfl rfl,
      Blk.flag_reset_of_zero (c := 0) rfl rfl⟩,
    rfl⟩

/-- Byte `k` of the bytes written is byte `k` of the value. -/
theorem Blk.byte_writeMem (b : Blk) (a v : Nat) {n k : Nat} (h : k < n) :
    (b.writeMem a n v).byte (a + k) = BitVec.ofNat 8 (v / 256 ^ k) := by
  induction n generalizing b a v k with
  | zero => omega
  | succ n ih =>
    rw [Blk.writeMem]
    cases k with
    | zero => rw [Blk.byte_writeMem_of_out _ _ _ _ _ (by omega), Nat.add_zero, Blk.byte_setByte_self, pow_zero, Nat.div_one]
    | succ k =>
      rw [← Nat.add_assoc, Nat.add_right_comm, ih _ _ _ (by omega), Nat.div_div_eq_div_mul, ← pow_succ']

/-- A read of `n` bytes is a number of `n` bytes. -/
theorem Blk.readMem_lt (b : Blk) (a n : Nat) : b.readMem a n < 256 ^ n := by
  induction n generalizing a with
  | zero => simp [Blk.readMem]
  | succ n ih =>
    have hbyte := (b.byte a).isLt
    have hrest := ih (a + 1)
    rw [Blk.readMem, pow_succ']
    omega

/-- Byte `k` of the number read is the byte that stands there. -/
theorem Blk.readMem_div_mod (b : Blk) (a : Nat) {n k : Nat} (h : k < n) :
    b.readMem a n / 256 ^ k % 256 = (b.byte (a + k)).toNat := by
  induction n generalizing a k with
  | zero => omega
  | succ n ih =>
    have hbyte := (b.byte a).isLt
    rw [Blk.readMem]
    cases k with
    | zero => simp only [pow_zero, Nat.add_zero]; omega
    | succ k =>
      rw [pow_succ', ← Nat.div_div_eq_div_mul, ← Nat.add_assoc, Nat.add_right_comm, ← ih (a + 1) (by omega)]
      congr 2
      omega

/-- Settles O7 by the lemmas on one byte of a write and of a read, each by induction on the number of bytes. -/
theorem memoryIsLittleEndian : Obligations.MemoryIsLittleEndian := by
  intro b a n v
  exact ⟨fun k hk => b.byte_writeMem a v hk, fun x hx => b.byte_writeMem_of_out a n v x hx, b.readMem_writeMem a n v,
    b.readMem_lt a n, fun k hk => b.readMem_div_mod a hk, fun r i => Blk.reg_congr (b.writeMem_regs a n v) r i,
    b.writeMem_otp a n v⟩

end Sys2Proof.Machine
end

section
/-!
PROOFS. The order in which a target accepts, and how an access to memory by a local master ends (O9).
-/

namespace Sys2Proof.Machine

/-! ## The order of acceptance -/

theorem Access.first_asymm {x y : Access} (h : x.first y = true) : y.first x = false := by
  simp only [Access.first, Bool.or_eq_true, Bool.and_eq_true, Bool.or_eq_false_iff, Bool.and_eq_false_iff, beq_iff_eq,
    beq_eq_false_iff_ne, decide_eq_true_eq, decide_eq_false_iff_not] at *
  omega

theorem Access.not_first_trans {x y z : Access} (h : x.first y = false) (h' : y.first z = false) : x.first z = false := by
  simp only [Access.first, Bool.or_eq_false_iff, Bool.and_eq_false_iff, beq_eq_false_iff_ne, decide_eq_false_iff_not] at *
  omega

/-- The one of two accesses that is accepted first, the earlier of the two in the queue where neither is. -/
def Access.sooner : Option Access → Access → Option Access
  | none, a => some a
  | some y, a => if a.first y then some a else some y

theorem Blk.nextAccess_eq (b : Blk) (t e : Nat) :
    b.nextAccess t e = (b.bus.waiting.filter (b.mayAccept t e)).foldl Access.sooner none := by
  refine congrFun (congrFun (congrArg List.foldl ?_) _) _
  funext acc a
  cases acc <;> rfl

/-- What is left of a queue is one of it, and nothing in the queue is accepted before it. -/
theorem Access.foldl_sooner {l : List Access} {acc : Option Access} {a : Access} (h : l.foldl Access.sooner acc = some a) :
    (acc = some a ∨ a ∈ l) ∧ (∀ y, acc = some y → y.first a = false) ∧ ∀ y ∈ l, y.first a = false := by
  induction l generalizing acc with
  | nil =>
    cases h
    exact ⟨.inl rfl, fun y hy => by cases hy; simp [Access.first], by simp⟩
  | cons x l ih =>
    obtain ⟨hmem, hacc, hl⟩ := ih h
    cases acc with
    | none =>
      have hx : x.first a = false := hacc x rfl
      refine ⟨.inr ?_, by simp, List.forall_mem_cons.mpr ⟨hx, hl⟩⟩
      rcases hmem with hmem | hmem
      · cases hmem
        exact List.mem_cons_self
      · exact List.mem_cons_of_mem _ hmem
    | some y =>
      cases hxy : x.first y with
      | true =>
        simp only [Access.sooner, hxy, if_true] at hmem hacc
        have hx : x.first a = false := hacc x rfl
        refine ⟨.inr ?_, ?_, List.forall_mem_cons.mpr ⟨hx, hl⟩⟩
        · rcases hmem with hmem | hmem
          · cases hmem
            exact List.mem_cons_self
          · exact List.mem_cons_of_mem _ hmem
        · intro z hz
          cases hz
          exact Access.not_first_trans (Access.first_asymm hxy) hx
      | false =>
        simp only [Access.sooner, hxy, Bool.false_eq_true, if_false] at hmem hacc
        have hy : y.first a = false := hacc y rfl
        exact ⟨hmem.imp_right (List.mem_cons_of_mem _), hacc,
          List.forall_mem_cons.mpr ⟨Access.not_first_trans hxy hy, hl⟩⟩

/-- The access that a target accepts waits and has arrived, and none that has is accepted before it. -/
theorem Blk.nextAccess_spec {b : Blk} {t e : Nat} {a : Access} (h : b.nextAccess t e = some a) :
    a ∈ b.bus.waiting ∧ b.mayAccept t e a = true ∧
      ∀ y ∈ b.bus.waiting, b.mayAccept t e y = true → y.first a = false := by
  rw [Blk.nextAccess_eq] at h
  obtain ⟨hmem, -, hl⟩ := Access.foldl_sooner h
  have ha := List.mem_filter.mp (hmem.resolve_left (by simp))
  exact ⟨ha.1, ha.2, fun y hy hm => hl y (List.mem_filter.mpr ⟨hy, hm⟩)⟩

/-! ## What the fabric takes -/

/-- The block with the fabric, the packets that leave and the results at the values given. -/
def Blk.withFabric (b : Blk) (f : FabSt) (g : List Packet) (r : List Completion) : Blk :=
  { b with fab := f, bus := { b.bus with egress := g, results := r } }

theorem Blk.withFabric_regs (b : Blk) (f : FabSt) (g : List Packet) (r : List Completion) :
    (b.withFabric f g r).regs = b.regs := rfl

theorem Blk.withFabric_mem (b : Blk) (f : FabSt) (g : List Packet) (r : List Completion) :
    (b.withFabric f g r).mem = b.mem := rfl

theorem Blk.xferDone_eq (b : Blk) (x status : Nat) :
    ∃ f, b.xferDone x status = b.withFabric f b.bus.egress b.bus.results := by
  unfold Blk.xferDone
  split
  exacts [⟨b.fab, rfl⟩, ⟨_, rfl⟩]

theorem Blk.inboundDone_eq (b : Blk) (i : Inbound) (status : Nat) (data : BitVec 128) :
    ∃ f g, b.inboundDone i status data = b.withFabric f g b.bus.results := by
  unfold Blk.inboundDone
  extract_lets x others
  split
  exacts [⟨_, _, rfl⟩, ⟨_, b.bus.egress, rfl⟩]

/-- The fabric takes results and sends packets and changes nothing else; it leaves the result of a local master. -/
theorem Blk.takeResults_eq (b : Blk) (l : List Completion) : ∃ f g r,
    b.takeResults l = b.withFabric f g r ∧
      ∀ c ∈ b.bus.results, ∀ tag, c.who = .master tag → c ∈ r := by
  induction l with
  | nil => exact ⟨b.fab, b.bus.egress, b.bus.results, rfl, fun c hc _ _ => hc⟩
  | cons d l ih =>
    obtain ⟨f, g, r, e, keeps⟩ := ih
    have erased : ∀ c ∈ b.bus.results, ∀ tag, c.who = .master tag → (∀ tag, d.who ≠ .master tag) → c ∈ r.erase d :=
      fun c hc tag hw hd =>
        have hne : c ≠ d := fun hcd => hd tag (hcd ▸ hw)
        (List.mem_erase_of_ne hne).mpr (keeps c hc tag hw)
    unfold Blk.takeResults
    simp only [e]
    split
    next hd =>
      split
      · obtain ⟨f', g', e'⟩ := Blk.inboundDone_eq _ _ _ _
        exact ⟨f', g', r.erase d, e', fun c hc tag hw => erased c hc tag hw (by simp [hd])⟩
      · exact ⟨f, g, r, rfl, keeps⟩
    next hd =>
      obtain ⟨f', e'⟩ := Blk.xferDone_eq _ _ _
      exact ⟨f', g, r.erase d, e', fun c hc tag hw => erased c hc tag hw (by simp [hd])⟩
    · exact ⟨f, g, r, rfl, keeps⟩

/-- The result of a local master is left for it, and nothing but the fabric and the bus changes. -/
theorem Blk.respond_answer_eq (b : Blk) {c : Completion} {tag : Nat} (h : c.who = .master tag) : ∃ f g r,
    (b.answer c).respond = b.withFabric f g r ∧ c ∈ r := by
  have ht : c.taken = true := by simp [Completion.taken, h]
  obtain ⟨f, g, r, e, keeps⟩ := (b.answer c).takeResults_eq (b.answer c).bus.results.reverse
  have ha : b.answer c = { b with bus := { b.bus with results := b.bus.results ++ [c] } } := if_pos ht
  rw [Blk.respond, e, ha]
  exact ⟨f, g, r, rfl, keeps c (by simp [ha]) tag h⟩

/-! ## Acceptance of an access to memory -/

theorem Blk.readAddr_of_mem (b : Blk) {a : Nat} (n : Nat) (h : regionOf a ≠ some .regs) : b.readAddr a n = b.readMem a n :=
  if_neg h

theorem Blk.writeAddr_of_mem (b : Blk) (mid : Nat) {a : Nat} (width : Nat) (data : BitVec 128) (x : WriteEnv)
    (h : regionOf a ≠ some .regs) : b.writeAddr mid a width data x = b.writeMem a (width / 8) (data.toNat % 2 ^ width) :=
  if_neg h

/-- The block as target `t` has taken access `a` on edge `e`. -/
def Blk.taken (b : Blk) (t e : Nat) (a : Access) : Blk :=
  { b with bus := { b.bus with waiting := b.bus.waiting.erase a, lastEdge := NMap.set b.bus.lastEdge t (e + 1) 0 } }

theorem Blk.taken_waiting (b : Blk) (t e : Nat) (a : Access) : (b.taken t e a).bus.waiting = b.bus.waiting.erase a := rfl

theorem Blk.taken_lastEdge (b : Blk) (t e : Nat) (a : Access) : SMap.get (b.taken t e a).bus.lastEdge t 0 = e + 1 :=
  SMap.get_put_self b.bus.lastEdge t (e + 1) 0

theorem Blk.readMem_taken (b : Blk) (t e : Nat) (a : Access) (x n : Nat) :
    (b.taken t e a).readMem x n = b.readMem x n :=
  Blk.readMem_congr (a := b.taken t e a) (b := b) rfl x n

theorem Blk.accessAccept_eq {b : Blk} {t e : Nat} {a : Access} (x : WriteEnv) (hc : b.computeRuns = true) (hs : b.supply ≠ 2)
    (he : SMap.get b.bus.lastEdge t 0 ≤ e) (h : b.nextAccess t e = some a) :
    b.accessAccept t e x = (b.taken t e a).complete a x := by
  rw [Blk.accessAccept, Blk.when_of _ (by simp [hc, hs, he]), h]
  rfl

/-- A read of memory by a local master ends with the bytes there. -/
theorem Blk.complete_read (b : Blk) {a : Access} {tag : Nat} (x : WriteEnv) (hw : a.who = .master tag) (hop : a.op = .read)
    (hmem : regionOf a.addr ≠ some .regs) : ∃ f g r,
    b.complete a x = b.withFabric f g r ∧
      ⟨a.who, .read, .ok, BitVec.ofNat 128 (b.readMem a.addr (a.width / 8))⟩ ∈ r := by
  simp only [Blk.complete, hop, Blk.readAddr_of_mem b _ hmem]
  exact b.respond_answer_eq (c := ⟨a.who, .read, .ok, _⟩) hw

/-- A write of memory by a local master puts its bytes, and ends. -/
theorem Blk.complete_write (b : Blk) {a : Access} {tag : Nat} (x : WriteEnv) (hw : a.who = .master tag)
    (hop : a.op = .write) (hmem : regionOf a.addr ≠ some .regs) : ∃ f g r,
    b.complete a x = (b.writeMem a.addr (a.width / 8) (a.data.toNat % 2 ^ a.width)).withFabric f g r ∧
      ⟨a.who, .write, .ok, 0⟩ ∈ r := by
  simp only [Blk.complete, hop, Blk.writeAddr_of_mem b _ _ _ _ hmem]
  exact Blk.respond_answer_eq _ (c := ⟨a.who, .write, .ok, 0⟩) hw

/-- A command that runs `f` completes with what `f` makes of the block. -/
theorem Completes.of_run {c : Instr} {s : State} {P : Blk → Prop} {f : Blk → Blk} {b : Blk} (hc : exec c s = s.run f)
    (hb : f s.blk = b) (hp : P b) : Completes c s P := ⟨b, by rw [hc, State.run_eq, hb], hp⟩

/-- Settles O9: the accepted access is the least in the order of R19, and it completes on memory at once. -/
theorem targetsAcceptInOrder : Obligations.TargetsAcceptInOrder := by
  unfold Obligations.TargetsAcceptInOrder
  intro s t edge x a hc hs he hnext
  have haccept := Blk.accessAccept_eq x hc hs he hnext
  have hedge := s.blk.taken_lastEdge t edge a
  refine ⟨Blk.nextAccess_spec hnext, fun tag hw hmem => ⟨fun hop => ?_, fun hop => ?_⟩⟩
  · obtain ⟨f, g, r, e, hr⟩ := (s.blk.taken t edge a).complete_read x hw hop hmem
    rw [Blk.readMem_taken] at hr
    exact .of_run rfl (haccept.trans e) ⟨rfl, hedge, hr, fun _ _ => rfl, fun _ => rfl, fun _ => rfl⟩
  · obtain ⟨f, g, r, e, hr⟩ := (s.blk.taken t edge a).complete_write x hw hop hmem
    refine .of_run rfl (haccept.trans e) ⟨?_, ?_, hr, ?_, ?_, ?_, ?_⟩
    · simp [Blk.withFabric, Blk.taken_waiting]
    · simpa [Blk.withFabric] using hedge
    · rw [Blk.readMem_congr (Blk.withFabric_mem _ f g r), Blk.readMem_writeMem]
    · exact fun y hy => (Blk.byte_congr (Blk.withFabric_mem _ f g r) y).trans (Blk.byte_writeMem_of_out _ _ _ _ _ hy)
    · exact fun q i => Blk.reg_congr ((Blk.withFabric_regs _ f g r).trans (Blk.writeMem_regs _ _ _ _)) q i
    · exact Blk.writeMem_otp _ _ _ _

end Sys2Proof.Machine
end

section
/-!
PROOFS. Register writes by the access types of their fields (O6).
-/

namespace Sys2Proof.Machine

/-! ## Plain writes -/

/-- A bit is set by a write where it is RW, or LCK before CONFIG_DONE. -/
theorem Blk.getLsbD_writable (b : Blk) (r : RegName) {k : Nat} (hk : k < 32) : (b.writable r).getLsbD k = true ↔
    r.masks.rw.testBit k = true ∨ (b.configDone = false ∧ r.masks.lck.testBit k = true) := by
  cases hd : b.configDone <;> simp [Blk.writable, hd, hk, BitVec.getLsbD_ofNat, -BitVec.getLsbD_eq_getElem]

/-- No bit of a register is both set and cleared by a write of 1 (R9). -/
theorem RegName.masks_disjoint (r : RegName) : (r.masks.rw ||| r.masks.lck) &&& r.masks.w1c = 0 := by
  cases r <;> rfl

theorem RegName.not_w1c_of_set (r : RegName) (k : Nat) (h : r.masks.rw.testBit k = true ∨ r.masks.lck.testBit k = true) :
    r.masks.w1c.testBit k = false := by
  have hk := congrArg (·.testBit k) r.masks_disjoint
  simp only [Nat.testBit_and, Nat.testBit_or, Nat.zero_testBit, Bool.and_eq_false_iff, Bool.or_eq_false_iff] at hk
  rcases h with h | h <;> simpa [h] using hk

theorem Blk.reg_plainWrite_self (b : Blk) (r : RegName) (i : Nat) (v : Word) : (b.plainWrite r i v).reg r i =
    (b.reg r i &&& ~~~ b.writable r ||| v &&& b.writable r) &&& ~~~ (v &&& BitVec.ofNat 32 r.masks.w1c) :=
  b.reg_setReg_self r i _

/-- A plain write by the access types of R9, bit by bit. -/
theorem Blk.getLsbD_plainWrite (b : Blk) (r : RegName) (i : Nat) (v : Word) {k : Nat} (hk : k < 32) :
    ((b.plainWrite r i v).reg r i).getLsbD k =
      if r.masks.rw.testBit k = true ∨ (b.configDone = false ∧ r.masks.lck.testBit k = true) then v.getLsbD k
      else if r.masks.w1c.testBit k = true ∧ v.getLsbD k = true then false else (b.reg r i).getLsbD k := by
  have hw := b.getLsbD_writable r hk
  have hc := r.not_w1c_of_set k
  rw [Blk.reg_plainWrite_self]
  simp only [BitVec.getLsbD_and, BitVec.getLsbD_or, BitVec.getLsbD_not, BitVec.getLsbD_ofNat, hk, decide_true, Bool.true_and]
  split
  next h =>
    rw [hw.mpr h, hc (h.imp_right And.right)]
    simp
  next h =>
    rw [Bool.eq_false_iff.mpr (h ∘ hw.mp)]
    cases r.masks.w1c.testBit k <;> cases v.getLsbD k <;> simp

/-- A plain write changes one register word and nothing else. -/
theorem Blk.plainWrite_frame (b : Blk) (r : RegName) (i : Nat) (v : Word) :
    RegsKeptBut (fun q j => q = r ∧ j = i) b (b.plainWrite r i v) ∧ MemKept b (b.plainWrite r i v) ∧
      UnitsKept b (b.plainWrite r i v) :=
  ⟨fun _ _ h => b.reg_setReg_of_ne _ fun e => h (Prod.mk.inj e), ⟨fun _ => rfl, fun _ => rfl⟩, rfl⟩

/-! ## Where registers stand -/

/-- Registers stand at multiples of 4 (R16). -/
theorem RegName.layout_mod_four (r : RegName) :
    r.layout.base % 4 = 0 ∧ r.layout.s1 % 4 = 0 ∧ r.layout.s2 % 4 = 0 := by
  cases r <;> exact ⟨rfl, rfl, rfl⟩

theorem RegName.offset_mod_four (r : RegName) (i : Nat) : r.offset i % 4 = 0 := by
  obtain ⟨hbase, h1, h2⟩ := r.layout_mod_four
  have h1 := (Nat.dvd_of_mod_eq_zero h1).mul_left ((i - r.layout.first) / r.layout.n2)
  have h2 := (Nat.dvd_of_mod_eq_zero h2).mul_left ((i - r.layout.first) % r.layout.n2)
  exact Nat.mod_eq_zero_of_dvd (((Nat.dvd_of_mod_eq_zero hbase).add h1).add h2)

/-- No register stands past the last window (R16). -/
theorem regAt_lt {off : Nat} {p : RegName × Nat} (h : regAt off = some p) : off < 0x120000 := by
  by_contra hoff
  have hblock : blockAt off = (off / 0x10000 - 18) + 17 := by
    simp only [blockAt]
    split <;> omega
  rw [regAt, hblock] at h
  cases h

/-! ## Writes of one and of two words -/

theorem Blk.registerWrite_eq {b : Blk} (mid : Nat) {a width : Nat} (data : BitVec 128) (x : WriteEnv) (hb : b.aonRuns = true)
    (hf : formOk a width = true) (hr : regionOf a = some .regs) :
    b.registerWrite mid a width data x = b.regWrites mid a data x (width / 32) := by
  refine Blk.when_of _ ?_
  rw [← Blk.aonRuns, hb, hf, hr]
  rfl

theorem Blk.regWrites_one (b : Blk) (mid : Nat) {a i : Nat} {r : RegName} (data : BitVec 128) (x : WriteEnv)
    (h : regAt (a - regBase) = some (r, i)) :
    b.regWrites mid a data x 1 = b.regWrite mid r i (data.extractLsb' 0 32) x := by
  have hl : writtenWords a data 1 = [(r, i, data.extractLsb' 0 32)] := by simp [writtenWords, List.range_succ, h]
  cases hs : r.starts <;> simp [Blk.regWrites, hl, hs]

theorem Blk.regWrites_two (b : Blk) (mid : Nat) {a i j : Nat} {r q : RegName} (data : BitVec 128) (x : WriteEnv)
    (h : regAt (a - regBase) = some (r, i)) (h' : regAt (a - regBase + 4) = some (q, j)) :
    b.regWrites mid a data x 2 =
      if r.starts = true ∧ q.starts = false then
        (b.regWrite mid q j (data.extractLsb' 32 32) x).regWrite mid r i (data.extractLsb' 0 32) x
      else (b.regWrite mid r i (data.extractLsb' 0 32) x).regWrite mid q j (data.extractLsb' 32 32) x := by
  have hl : writtenWords a data 2 = [(r, i, data.extractLsb' 0 32), (q, j, data.extractLsb' 32 32)] := by
    simp [writtenWords, List.range_succ, h, h']
  cases hs : r.starts <;> cases hs' : q.starts <;> simp [Blk.regWrites, hl, hs, hs']

/-- The registers of which O6 speaks: a write of them has no row of its own. -/
def plainRegs : List RegName :=
  [.SYS_FAULT_MASK, .TBU_CTRL, .TBU_STATUS, .AIN_OFFSET, .AIN_SCALE, .IMP_CFG, .ST_CFG, .ST_SIZE, .ST_PITCH, .ACC_CFG,
    .ACC_ENT0, .ACC_ENT1, .ACC_ENT2, .ACC_TMAP]

theorem Blk.regWrite_of_plain (b : Blk) (mid : Nat) {r : RegName} (i : Nat) (v : Word) (x : WriteEnv) (h : r ∈ plainRegs) :
    b.regWrite mid r i v x = b.plainWrite r i v := by
  unfold plainRegs at h
  fin_cases h <;> rfl

/-- A write of 32 bits at the place of a register without a row of its own is a plain write. -/
theorem Blk.registerWrite_of_plain {b : Blk} (mid : Nat) {r : RegName} {i : Nat} (v : Word) (x : WriteEnv)
    (hb : b.aonRuns = true) (hr : r ∈ plainRegs) (h : regAt (r.offset i) = some (r, i)) :
    b.registerWrite mid (BitVec.ofNat 40 (regBase + r.offset i)).toNat 32 (v.setWidth 128) x = b.plainWrite r i v := by
  have hlt := regAt_lt h
  have hmod := r.offset_mod_four i
  have ha : (BitVec.ofNat 40 (regBase + r.offset i)).toNat = regBase + r.offset i := by
    rw [BitVec.toNat_ofNat, Nat.mod_eq_of_lt]
    unfold regBase
    omega
  have hform : formOk (regBase + r.offset i) 32 = true := by
    have : (regBase + r.offset i) % 4 = 0 := by unfold regBase; omega
    simp [formOk, this]
  have hregion : regionOf (regBase + r.offset i) = some .regs := by
    unfold regionOf regBase
    rw [if_neg (by omega), if_neg (by omega), if_neg (by omega), if_pos (by omega)]
  have hv : (v.setWidth 128).extractLsb' 0 32 = v := by
    ext k hk
    simp [Nat.lt_trans hk, BitVec.getLsbD_eq_getElem hk]
  rw [ha, Blk.registerWrite_eq mid _ x hb hform hregion]
  rw [← Nat.add_sub_cancel_left (n := regBase) (m := r.offset i)] at h
  rw [Blk.regWrites_one b mid _ x h, hv, Blk.regWrite_of_plain b mid i v x hr]

/-- Settles O6: the listed registers fall to the plain write, whose bits no mask both sets and clears, and an access of two
words is the two writes, the one that starts something last. -/
theorem registerWritesFollowAccessTypes : Obligations.RegisterWritesFollowAccessTypes := by
  unfold Obligations.RegisterWritesFollowAccessTypes
  refine ⟨fun b r i v k hk => b.getLsbD_plainWrite r i v hk, fun s mid r i v x hb hr h => ?_, fun s e v hb => ?_,
    fun s mid a width data x hb hf hr => ?_, fun b mid a i j r q data x h h' => ?_⟩
  · exact .of_run rfl (Blk.registerWrite_of_plain mid.toNat v x hb hr h) ⟨rfl, Blk.plainWrite_frame ..⟩
  · exact .of_run rfl (s.blk.live_of (fun b => b.encCfgWrite e v) hb) ⟨rfl, Blk.plainWrite_frame ..⟩
  · exact .of_run rfl (Blk.registerWrite_eq mid.toNat data x hb hf hr) rfl
  · exact ⟨b.regWrites_one mid data x h, b.regWrites_two mid data x h h'⟩

end Sys2Proof.Machine
end

section
/-!
PROOFS. Fault records, their class bits and their way to the conductor's log (O10).
-/

namespace Sys2Proof.Machine

/-! ## Raising -/

/-- A register write changes the registers and nothing else. -/
theorem Blk.setReg_eq (b : Blk) (r : RegName) (i : Nat) (v : Word) :
    b.setReg r i v = { b with regs := (b.setReg r i v).regs } := rfl

theorem Blk.raise_of_frozen {b : Blk} (source cls detail data : Nat) (h : b.frozen = true) :
    b.raise source cls detail data = b := by
  simp [Blk.raise, h]

theorem Blk.raise_of_configDone {b : Blk} (source cls detail data : Nat) (hf : b.frozen = false) (hc : b.configDone = true) :
    b.raise source cls detail data = b.raiseRec (b.mkRec source cls detail data) := by
  simp [Blk.raise, hf, hc]

theorem Blk.raise_of_not_configDone {b : Blk} (source cls detail data : Nat) (hf : b.frozen = false)
    (hc : b.configDone = false) : b.raise source cls detail data =
      { b with mod := { b.mod with heldRecs := b.mod.heldRecs ++ [b.mkRec source cls detail data] } } := by
  simp [Blk.raise, hf, hc]

/-- The block once record `r` stands in its log and the bit of its class is set. -/
def Blk.latched (b : Blk) (r : FaultRec) : Blk :=
  (b.logFault r).setReg .SYS_FAULT_LATCH 0 (b.reg .SYS_FAULT_LATCH 0 ||| BitVec.ofNat 32 (2 ^ r.cls.toNat))

/-- A record raised after CONFIG_DONE is logged and latched, and waits where it is not dropped (R26). -/
theorem Blk.raiseRec_eq (b : Blk) (r : FaultRec) : b.raiseRec r = (b.latched r).holdRec r := rfl

theorem Blk.latched_mod (b : Blk) (r : FaultRec) : (b.latched r).mod = b.mod :=
  (Blk.setReg_mod ..).trans (b.logFault_mod r)

theorem Blk.latched_fab (b : Blk) (r : FaultRec) : (b.latched r).fab = b.fab :=
  (Blk.setReg_fab ..).trans (b.logFault_fab r)

theorem Blk.latched_jrn (b : Blk) (r : FaultRec) : (b.latched r).jrn = (b.logFault r).jrn := Blk.setReg_jrn ..

theorem Blk.latched_frame (b : Blk) (r : FaultRec) :
    b.latched r = { b with regs := (b.latched r).regs, jrn := (b.latched r).jrn } := by
  rw [b.latched_jrn r]
  exact (b.logFault r).setReg_eq ..

theorem Blk.getLsbD_reg_latched (b : Blk) (r : FaultRec) (h : r.cls.toNat < 32) :
    ((b.latched r).reg .SYS_FAULT_LATCH 0).getLsbD r.cls.toNat = true := by
  have hbit : (BitVec.ofNat 32 (2 ^ r.cls.toNat)).getLsbD r.cls.toNat = true := by
    rw [BitVec.getLsbD_ofNat, Nat.testBit_two_pow_self, Bool.and_true, decide_eq_true h]
  rw [Blk.latched, Blk.reg_setReg_self, BitVec.getLsbD_or, hbit, Bool.or_true]

theorem Blk.reg_latched_of_ne (b : Blk) (r : FaultRec) {q : RegName} {i : Nat} (h : (q, i) ≠ (.SYS_FAULT_LATCH, 0)) :
    (b.latched r).reg q i = b.reg q i :=
  ((b.logFault r).reg_setReg_of_ne _ h).trans (Blk.reg_congr (b.logFault_regs r) q i)

theorem Blk.fld_latched (b : Blk) (r : FaultRec) (f : Fld) (i : Nat) (h : f.reg ≠ .SYS_FAULT_LATCH) :
    (b.latched r).fld f i = b.fld f i :=
  congrArg f.get (b.reg_latched_of_ne r fun e => h (Prod.mk.inj e).1)

theorem Blk.condKnown_latched (b : Blk) (r : FaultRec) : (b.latched r).condKnown = b.condKnown := by
  simp only [Blk.condKnown, Blk.flag, b.fld_latched r F.FAB_STATUS_COND_V 0 (by decide), b.latched_fab r]

/-- A record that finds room waits for VC3, and of the registers only its class bit changes. -/
theorem Blk.raiseRec_waits (b : Blk) (r : FaultRec) (h : b.condKnown = true ∨ b.mod.vc3.length < 64) :
    b.raiseRec r = { b.latched r with mod := { b.mod with vc3 := b.mod.vc3 ++ [r] } } := by
  have hroom : ¬ (!(b.latched r).condKnown ∧ 64 ≤ (b.latched r).mod.vc3.length) := by
    rw [b.condKnown_latched r, b.latched_mod r]
    rintro ⟨hk, hl⟩
    rcases h with h | h
    · simp [h] at hk
    · omega
  rw [b.raiseRec_eq r, (b.latched r).holdRec_waits r hroom, b.latched_mod r]

/-- A record that finds no room is counted. -/
theorem Blk.raiseRec_full (b : Blk) (r : FaultRec) (hk : b.condKnown = false) (hl : 64 ≤ b.mod.vc3.length) :
    b.raiseRec r = (b.latched r).addSat F.FAB_FLTQ_DROPPED 0 1 :=
  (b.latched r).holdRec_full r ⟨by simp [b.condKnown_latched r, hk], by rwa [b.latched_mod r]⟩

theorem Blk.holdRec_frame (b : Blk) (r : FaultRec) :
    b.holdRec r = { b with regs := (b.holdRec r).regs, mod := { b.mod with vc3 := (b.holdRec r).mod.vc3 } } := by
  by_cases h : !b.condKnown ∧ 64 ≤ b.mod.vc3.length
  · rw [b.holdRec_full r h, Blk.addSat_mod]
    exact b.setReg_eq ..
  · rw [b.holdRec_waits r h]

/-- Raising a record after CONFIG_DONE changes the registers, the journal and what waits for VC3, and nothing else. -/
theorem Blk.raiseRec_frame (b : Blk) (r : FaultRec) : b.raiseRec r =
    { b with
      regs := (b.raiseRec r).regs, jrn := (b.raiseRec r).jrn, mod := { b.mod with vc3 := (b.raiseRec r).mod.vc3 } } := by
  rw [b.raiseRec_eq r, (b.latched r).holdRec_jrn r]
  generalize hc : b.latched r = c
  have hframe := b.latched_frame r
  rw [hc] at hframe
  have hhold := c.holdRec_frame r
  generalize c.holdRec r = d at hhold ⊢
  rw [hhold, hframe]

theorem Blk.reg_holdRec_latch (b : Blk) (r : FaultRec) {q : RegName} (i : Nat) (h : q ≠ .FAB_FLTQ) :
    (b.holdRec r).reg q i = b.reg q i := by
  unfold Blk.holdRec
  split
  · exact b.reg_setFld_name 0 i _ h
  · rfl

/-! ## Sending and clearing -/

theorem Blk.faultRecordSend_eq {b : Blk} {r : FaultRec} {l : List FaultRec} (hv : b.mod.vc3 = r :: l)
    (hn : b.supplyNormal = true) (hc : b.computeRuns = true) (hk : b.condKnown = true) : b.faultRecordSend =
      let b := { b with mod := { b.mod with vc3 := l } }
      if b.fab.holds then (if r.node.toNat = b.node then b else b.deliverRec r) else b.emit (b.faultPacket r) := by
  have hopen : b.vc3Open b.condKnown = true := by simp [Blk.vc3Open, hn, hc, hk]
  unfold Blk.faultRecordSend
  rw [hv]
  exact Blk.when_of _ hopen

/-- A single record of a new key takes an entry of the conductor's table and enters its log. -/
theorem Blk.deliverRec_new {b : Blk} {r : FaultRec} (hr : r.count = 1) (hkey : ∀ w ∈ b.fab.coal, sameKey w.first r = false)
    (hroom : (b.fab.coal.filter fun w => !w.excess b.tb1).length < 64) : b.deliverRec r =
      { b with fab := { b.fab with coal := b.fab.coal ++ [⟨r, b.tb1, 0, r.time⟩] }, jrn := (b.logFault r).jrn } := by
  have hany : b.fab.coal.any (fun w => sameKey w.first r && !w.excess b.tb1) = false := by
    simp only [List.any_eq_false]
    intro w hw
    simp [hkey w hw]
  have hcoal : coalesce b.tb1 b.fab.coal r = (b.fab.coal ++ [⟨r, b.tb1, 0, r.time⟩], some r, false) := by
    rw [coalesce, if_neg (by simp [hr]), if_neg (by simp [hany]), if_neg (by omega)]
  rw [Blk.deliverRec, hcoal]
  rfl

theorem Blk.getLsbD_classSeenClear (b : Blk) (bits : Word) {k : Nat} (hk : k < 32) :
    ((b.classSeenClear bits).reg .SYS_FAULT_LATCH 0).getLsbD k =
      ((b.reg .SYS_FAULT_LATCH 0).getLsbD k && !(bits.getLsbD k && decide (1 ≤ k ∧ k ≤ 21))) := by
  have hmask : (BitVec.ofNat 32 RegName.SYS_FAULT_LATCH.masks.w1c).getLsbD k = decide (1 ≤ k ∧ k ≤ 21) := by
    revert k
    decide
  rw [Blk.classSeenClear, Blk.reg_setReg_self, BitVec.getLsbD_and, BitVec.getLsbD_not, BitVec.getLsbD_and, hmask]
  simp [hk]

/-- FAULT_N of a running node that is not frozen is FAULT_PENDING (R27). -/
theorem Blk.faultN_of_running {b : Blk} (hp : b.mod.phase = .running) (hf : b.frozen = false) : b.faultN = true ↔
    ∃ k, (b.reg .SYS_FAULT_LATCH 0).getLsbD k = true ∧ (b.reg .SYS_FAULT_MASK 0).getLsbD k = true := by
  have hn : b.faultN = b.faultPending := by simp [Blk.faultN, hp, hf]
  rw [hn, Blk.faultPending, bne_iff_ne]
  generalize b.reg .SYS_FAULT_LATCH 0 = x
  generalize b.reg .SYS_FAULT_MASK 0 = y
  constructor
  · intro h
    by_contra hno
    push Not at hno
    refine h (BitVec.eq_of_getLsbD_eq fun k _ => ?_)
    cases hx : x.getLsbD k with
    | false => simp [hx, -BitVec.getLsbD_eq_getElem]
    | true => simpa [hx, -BitVec.getLsbD_eq_getElem] using hno k hx
  · rintro ⟨k, hx, hy⟩ h
    have hk := congrArg (·.getLsbD k) h
    simp [hx, hy, -BitVec.getLsbD_eq_getElem] at hk

theorem Blk.aonRuns_not_frozen {b : Blk} (h : b.aonRuns = true) : b.frozen = false := by
  simp only [Blk.aonRuns, Bool.and_eq_true, Bool.not_eq_true'] at h
  exact h.2

/-- A value between RD and WR is taken by ACC_LOG_RD (R363). -/
theorem Blk.logReadAdvance_of_le {b : Blk} {v : Word} (h : (v - b.reg .ACC_LOG_RD 0).toNat ≤ b.logFill) :
    b.logReadAdvance v = b.setReg .ACC_LOG_RD 0 v := Blk.when_of _ (decide_eq_true h)

/-- Any other value is ignored (R363). -/
theorem Blk.logReadAdvance_of_lt {b : Blk} {v : Word} (h : b.logFill < (v - b.reg .ACC_LOG_RD 0).toNat) :
    b.logReadAdvance v = b := by
  rw [Blk.logReadAdvance, decide_eq_false (Nat.not_le.mpr h), Blk.when_false]

/-- Register writes of one word keep every other word, memory and the units. -/
theorem Blk.setReg_frame (b : Blk) (r : RegName) (i : Nat) (v : Word) :
    RegsKeptBut (fun q j => q = r ∧ j = i) b (b.setReg r i v) ∧ MemKept b (b.setReg r i v) ∧ UnitsKept b (b.setReg r i v) :=
  ⟨fun _ _ h => b.reg_setReg_of_ne v fun e => h (Prod.mk.inj e), ⟨fun _ => rfl, fun _ => rfl⟩, rfl⟩

/-- A record latched after CONFIG_DONE, as O10 states of raising it. -/
theorem Blk.raiseRec_spec (b : Blk) (source cls detail data : Nat) (hcls : cls < 22) :
    let r := b.mkRec source cls detail data
    let c := b.raiseRec r
    (c.reg .SYS_FAULT_LATCH 0).getLsbD cls = true ∧
      c.jrn = { b.jrn with faults := b.jrn.faults.append b.runSeq b.tb1 (leBytes 16 r.bits.toNat) } ∧
      (b.condKnown = true ∨ b.mod.vc3.length < 64 →
        c.mod.vc3 = b.mod.vc3 ++ [r] ∧ RegsKeptBut (fun r i => r = .SYS_FAULT_LATCH ∧ i = 0) b c) ∧
      (b.condKnown = false → 64 ≤ b.mod.vc3.length →
        c.mod.vc3 = b.mod.vc3 ∧ c.fld F.FAB_FLTQ_DROPPED 0 = min (b.fld F.FAB_FLTQ_DROPPED 0 + 1) (2 ^ 16 - 1) ∧
          RegsKeptBut (fun r i => (r = .SYS_FAULT_LATCH ∨ r = .FAB_FLTQ) ∧ i = 0) b c) ∧
      { b with regs := c.regs, jrn := c.jrn, mod := { b.mod with vc3 := c.mod.vc3 } } = c := by
  have hrc : (b.mkRec source cls detail data).cls.toNat = cls := Nat.mod_eq_of_lt (show cls < 2 ^ 8 by omega)
  generalize b.mkRec source cls detail data = r at hrc ⊢
  refine ⟨?_, ?_, fun h => ?_, fun hk hl => ?_, (b.raiseRec_frame r).symm⟩
  · rw [b.raiseRec_eq r, (b.latched r).reg_holdRec_latch r 0 (by decide), ← hrc]
    exact b.getLsbD_reg_latched r (by omega)
  · rw [b.raiseRec_eq r, (b.latched r).holdRec_jrn r, b.latched_jrn r, Blk.logFault]
  · rw [b.raiseRec_waits r h]
    exact ⟨rfl, fun q i hq => b.reg_latched_of_ne r fun e => hq (Prod.mk.inj e)⟩
  · rw [b.raiseRec_full r hk hl]
    refine ⟨by rw [Blk.addSat_mod, b.latched_mod r], ?_, fun q i hq => ?_⟩
    · rw [Blk.addSat, Blk.fld_setFld_self _ _ _ _ (by decide), b.fld_latched r _ _ (by decide)]
      exact Nat.mod_eq_of_lt (Nat.lt_of_le_of_lt (Nat.min_le_right ..) (by decide))
    · have hne : ∀ p : RegName, (p = .SYS_FAULT_LATCH ∨ p = .FAB_FLTQ) → (q, i) ≠ (p, 0) := by
        rintro p hp e
        obtain ⟨rfl, rfl⟩ := Prod.mk.inj e
        exact hq ⟨hp, rfl⟩
      exact ((b.latched r).reg_setReg_of_ne _ (hne _ (.inr rfl))).trans (b.reg_latched_of_ne r (hne _ (.inl rfl)))

/-- Settles O10: a raised record is latched and held by `raiseRec`, and each of the three commands is one update of the block. -/
theorem faultRecordsAndTheirBits : Obligations.FaultRecordsAndTheirBits := by
  unfold Obligations.FaultRecordsAndTheirBits
  refine ⟨fun b source cls detail data hcls => ⟨Blk.raise_of_frozen _ _ _ _, fun hf hc => ?_, Blk.raise_of_not_configDone _ _ _ _⟩,
    fun s r l hv hn hc => ⟨fun hh hk => ?_, fun hh hr => ?_, fun hh hr => ?_⟩, fun b r => Blk.deliverRec_new,
    fun s bits hb => ?_, fun s v hb => ?_⟩
  · rw [Blk.raise_of_configDone _ _ _ _ hf hc]
    exact b.raiseRec_spec source cls detail data hcls
  · refine .of_run rfl (Blk.faultRecordSend_eq hv hn hc (by simp [Blk.condKnown, hk])) ?_
    rw [if_neg (by simp [hh])]
    rfl
  · refine .of_run rfl (Blk.faultRecordSend_eq hv hn hc (by simp [Blk.condKnown, hh])) ?_
    exact (if_pos hh).trans (if_pos hr)
  · refine .of_run rfl (Blk.faultRecordSend_eq hv hn hc (by simp [Blk.condKnown, hh])) ?_
    exact (if_pos hh).trans (if_neg hr)
  · have hcmd := s.blk.live_of (fun b => b.classSeenClear bits) hb
    obtain ⟨hregs, hmem, hunits⟩ := s.blk.setReg_frame .SYS_FAULT_LATCH 0
      (s.blk.reg .SYS_FAULT_LATCH 0 &&& ~~~ (bits &&& BitVec.ofNat 32 RegName.SYS_FAULT_LATCH.masks.w1c))
    refine .of_run rfl hcmd ⟨fun k hk => s.blk.getLsbD_classSeenClear bits hk, fun hp => ?_, hregs, hmem, hunits⟩
    have hf : (s.blk.classSeenClear bits).frozen = s.blk.frozen :=
      congrArg (· != 0) (congrArg F.DBG_STATUS_FROZEN.get (Blk.reg_setReg_name _ _ _ _ (by decide)))
    exact Blk.faultN_of_running (b := s.blk.classSeenClear bits) hp (hf.trans (Blk.aonRuns_not_frozen hb))
  · have hcmd := s.blk.live_of (fun b => b.logReadAdvance v) hb
    by_cases h : (v - s.blk.reg .ACC_LOG_RD 0).toNat ≤ s.blk.logFill
    · refine .of_run rfl (hcmd.trans (Blk.logReadAdvance_of_le h)) ⟨⟨fun _ => Blk.reg_setReg_self .., fun hlt => ?_⟩,
        s.blk.setReg_frame ..⟩
      exact absurd h (Nat.not_le.mpr hlt)
    · refine .of_run rfl (hcmd.trans (Blk.logReadAdvance_of_lt (Nat.not_le.mp h))) ⟨⟨fun hle => absurd hle h, fun _ => rfl⟩,
        fun _ _ _ => rfl, ⟨fun _ => rfl, fun _ => rfl⟩, rfl⟩

end Sys2Proof.Machine
end

section
/-!
PROOFS. What accesses of the units of this node leave as it is: a target that performs what waits, and a refusal.
-/

namespace Sys2Proof.Machine

/-! ## A target performs what waits -/

/-- From `a` to `b` a memory target has performed accesses: memory, results, and what the fabric takes and sends change. -/
def Blk.Serves (a b : Blk) : Prop :=
  b = { a with mem := b.mem, fab := b.fab, bus := { a.bus with egress := b.bus.egress, results := b.bus.results } }

theorem Blk.Serves.refl (b : Blk) : b.Serves b := rfl

theorem Blk.Serves.trans {a b c : Blk} (h : a.Serves b) (h' : b.Serves c) : a.Serves c := by
  unfold Blk.Serves at *
  rw [h', h]

theorem Blk.Serves.foldl {α : Type} {f : Blk → α → Blk} (hf : ∀ (b : Blk) x, b.Serves (f b x)) (l : List α) (b : Blk) :
    b.Serves (l.foldl f b) := by
  induction l generalizing b with
  | nil => exact .refl b
  | cons x l ih => exact (hf b x).trans (ih _)

theorem Blk.setByte_eq (b : Blk) (a : Nat) (v : Byte) : b.setByte a v = { b with mem := (b.setByte a v).mem } := rfl

/-- A write of memory changes memory and nothing else. -/
theorem Blk.writeMem_eq (b : Blk) (a n v : Nat) : b.writeMem a n v = { b with mem := (b.writeMem a n v).mem } := by
  induction n generalizing b a v with
  | zero => rfl
  | succ n ih =>
    have h := ih (b.setByte a (BitVec.ofNat 8 v)) (a + 1) (v / 256)
    rw [Blk.writeMem]
    generalize (b.setByte a (BitVec.ofNat 8 v)).writeMem (a + 1) n (v / 256) = c at h ⊢
    rw [h, b.setByte_eq]

theorem Blk.serves_writeMem (b : Blk) (a n v : Nat) : b.Serves (b.writeMem a n v) := by
  have h := b.writeMem_eq a n v
  generalize b.writeMem a n v = c at h ⊢
  unfold Blk.Serves
  rw [h]

theorem Blk.serves_answer (b : Blk) (c : Completion) : b.Serves (b.answer c) := by
  unfold Blk.answer
  split <;> rfl

theorem Blk.serves_serveMem (b : Blk) (a : Access) : b.Serves (b.serveMem a) := by
  unfold Blk.serveMem
  split
  · exact b.serves_answer _
  · exact (b.serves_writeMem ..).trans (Blk.serves_answer ..)

theorem Blk.serves_respond (b : Blk) : b.Serves b.respond := by
  obtain ⟨f, g, r, e, -⟩ := b.takeResults_eq b.bus.results.reverse
  rw [Blk.respond, e]
  rfl

/-- What target `t` performs now. -/
def Blk.performs (b : Blk) (t : Nat) : List Access := (b.splitWaiting t b.bus.waiting []).1

/-- The block before target `t` performs what it performs now: that waits no longer. -/
def Blk.advanced (b : Blk) (t e : Nat) : Blk :=
  { b with bus := { b.bus with
    waiting := (b.splitWaiting t b.bus.waiting []).2, lastEdge := NMap.set b.bus.lastEdge t e 0 } }

/-- The accesses that target `t` performs now, in the order of acceptance. -/
def Blk.performsInOrder (b : Blk) (t : Nat) : List Access := (b.performs t).foldl (fun l a => Access.place a l) []

theorem Blk.settleMem_eq (b : Blk) {addr t : Nat} (hr : regionOf addr ≠ some .regs) (ht : targetNo addr = some t) :
    ∃ e, b.settleMem addr =
      let c := (b.performsInOrder t).foldl Blk.serveMem (b.advanced t e)
      if (b.performsInOrder t).isEmpty then c else c.respond := by
  unfold Blk.settleMem
  rw [if_neg hr, ht]
  exact ⟨_, rfl⟩

/-- What waits at a memory target is performed; else memory, the answers and what the fabric takes change, and nothing more. -/
theorem Blk.settleMem_serves (b : Blk) {addr t : Nat} (hr : regionOf addr ≠ some .regs) (ht : targetNo addr = some t) :
    ∃ e, (b.advanced t e).Serves (b.settleMem addr) ∧ (b.performs t = [] → b.settleMem addr = b.advanced t e) := by
  obtain ⟨e, he⟩ := b.settleMem_eq hr ht
  rw [he]
  refine ⟨e, ?_, fun hnil => ?_⟩
  · have hc := Blk.Serves.foldl Blk.serves_serveMem (b.performsInOrder t) (b.advanced t e)
    dsimp only
    split
    · exact hc
    · exact hc.trans (Blk.serves_respond _)
  · rw [Blk.performsInOrder, hnil]
    rfl

/-- Of what still waits a target performs nothing more. -/
theorem Blk.splitWaiting_rest (b : Blk) {c : Blk} (h : ∀ x, c.stalled x = b.stalled x) (t : Nat) (l : List Access)
    (held : List Nat) : (c.splitWaiting t (b.splitWaiting t l held).2 held).1 = [] := by
  induction l generalizing held with
  | nil => rfl
  | cons a l ih =>
    by_cases ha : (targetNo a.addr == some t && !b.stalled a.addr && !(a.who == .unit && held.contains a.mid)) = true
    · simp only [Blk.splitWaiting, if_pos ha]
      exact ih held
    · simp only [Blk.splitWaiting, if_neg ha]
      rw [← h a.addr] at ha
      rw [if_neg ha]
      exact ih _

theorem Blk.stalled_congr {b c : Blk} (h : c.regs = b.regs) (x : Nat) : c.stalled x = b.stalled x := by
  simp only [Blk.stalled, Blk.fld_congr h]

/-- Nothing that waits is for target `t`. -/
theorem Blk.performs_of_no_waiting (b : Blk) {t : Nat} (h : ∀ a ∈ b.bus.waiting, targetNo a.addr ≠ some t) :
    b.performs t = [] := by
  unfold Blk.performs
  generalize ([] : List Nat) = held
  revert h held
  generalize b.bus.waiting = l
  intro h held
  induction l generalizing held with
  | nil => rfl
  | cons a l ih =>
    have ha : (targetNo a.addr == some t) = false := beq_eq_false_iff_ne.mpr (h a List.mem_cons_self)
    simp only [Blk.splitWaiting, ha, Bool.false_and, Bool.false_eq_true, if_false]
    exact ih (fun x hx => h x (List.mem_cons_of_mem _ hx)) _

theorem Blk.Serves.regs {a b : Blk} (h : a.Serves b) : b.regs = a.regs := by
  unfold Blk.Serves at h
  rw [h]

theorem Blk.Serves.otp {a b : Blk} (h : a.Serves b) : b.otp = a.otp := by
  unfold Blk.Serves at h
  rw [h]

theorem Blk.Serves.le {a b : Blk} (h : a.Serves b) : b.le = a.le := by
  unfold Blk.Serves at h
  rw [h]

theorem Blk.Serves.waiting {a b : Blk} (h : a.Serves b) : b.bus.waiting = a.bus.waiting := by
  unfold Blk.Serves at h
  rw [h]

theorem Blk.performs_congr {a b : Blk} (hr : b.regs = a.regs) (hw : b.bus.waiting = a.bus.waiting) (t : Nat) :
    b.performs t = a.performs t := by
  have hs : ∀ x, b.stalled x = a.stalled x := Blk.stalled_congr hr
  unfold Blk.performs
  rw [hw]
  generalize ([] : List Nat) = held
  generalize a.bus.waiting = l
  suffices h : b.splitWaiting t l held = a.splitWaiting t l held by rw [h]
  induction l generalizing held with
  | nil => rfl
  | cons x l ih => simp only [Blk.splitWaiting, hs, ih]

/-- A target that performs what waits leaves registers, OTP and the Loop Engines. -/
theorem Blk.settleMem_frame (b : Blk) (addr : Nat) :
    (b.settleMem addr).regs = b.regs ∧ (b.settleMem addr).otp = b.otp ∧ (b.settleMem addr).le = b.le := by
  by_cases hr : regionOf addr = some .regs
  · rw [Blk.settleMem, if_pos hr]
    exact ⟨rfl, rfl, rfl⟩
  · cases ht : targetNo addr with
    | none =>
      rw [Blk.settleMem, if_neg hr, ht]
      exact ⟨rfl, rfl, rfl⟩
    | some t =>
      obtain ⟨e, h, -⟩ := b.settleMem_serves hr ht
      exact ⟨h.regs, h.otp, h.le⟩

theorem Blk.settleMem_regs (b : Blk) (addr : Nat) : (b.settleMem addr).regs = b.regs := (b.settleMem_frame addr).1

section settle

variable {b : Blk} {addr t : Nat} (hr : regionOf addr ≠ some .regs) (ht : targetNo addr = some t)

include hr ht

theorem Blk.performs_settleMem : (b.settleMem addr).performs t = [] := by
  obtain ⟨e, h, -⟩ := b.settleMem_serves hr ht
  rw [Blk.performs, h.waiting]
  exact b.splitWaiting_rest (Blk.stalled_congr h.regs) t b.bus.waiting []

theorem Blk.settleMem_mem_of_performs_nil (h : b.performs t = []) : (b.settleMem addr).mem = b.mem := by
  obtain ⟨e, -, hs⟩ := b.settleMem_serves hr ht
  rw [hs h]
  rfl

end settle

/-- Accesses of one target are behind the same accesses. -/
theorem Blk.settleMem_congr (b : Blk) {x y : Nat} (hx : regionOf x ≠ some .regs) (hy : regionOf y ≠ some .regs)
    (h : targetNo x = targetNo y) : b.settleMem x = b.settleMem y := by
  unfold Blk.settleMem
  rw [if_neg hx, if_neg hy, h]

/-! ## The tile memory of a task -/

section tile

variable {t : Nat} (ht : t < 4096)

include ht

theorem regionOf_taskAddr {off : Nat} (h : off < tileBytes) : regionOf (taskAddr t off) = some (.tile (taskTile t)) := by
  have hoff : off < 0x40000 := h
  have htile : taskTile t < 32 := by unfold taskTile; omega
  unfold regionOf taskAddr tileBase
  generalize taskTile t = n at htile
  rw [if_pos (by omega)]
  congr 2
  omega

theorem targetNo_taskAddr {off : Nat} (h : off < tileBytes) : targetNo (taskAddr t off) = some (taskTile t) := by
  rw [targetNo, targetOf, regionOf_taskAddr ht h]
  rfl

theorem regionOf_taskAddr_ne_regs {off : Nat} (h : off < tileBytes) : regionOf (taskAddr t off) ≠ some .regs := by
  rw [regionOf_taskAddr ht h]
  simp

theorem Blk.settleMem_taskAddr (b : Blk) {off : Nat} (h : off < tileBytes) :
    b.settleMem (taskAddr t off) = b.settleMem (taskAddr t 0) :=
  b.settleMem_congr (regionOf_taskAddr_ne_regs ht h) (regionOf_taskAddr_ne_regs ht (by decide))
    ((targetNo_taskAddr ht h).trans (targetNo_taskAddr ht (by decide)).symm)

end tile

/-! ## Refusals -/

theorem Blk.reg_incFld_whole (b : Blk) {f : Fld} (i : Nat) (hlo : f.lo = 0) (hw : f.w = 32) :
    (b.incFld f i).reg f.reg i = b.reg f.reg i + 1 := by
  have hlt : (b.reg f.reg i).toNat < 2 ^ 32 := (b.reg f.reg i).isLt
  have hone : (1 : Word).toNat = 1 := rfl
  unfold Blk.incFld Blk.setFld
  rw [Blk.reg_setReg_self]
  apply BitVec.eq_of_toNat_eq
  simp only [Blk.fld, Fld.get, Fld.put, hlo, hw, BitVec.toNat_ofNat, BitVec.toNat_add, pow_zero, Nat.div_one, Nat.mod_one,
    Nat.zero_add, Nat.mul_one, hone]
  omega

/-- The registers in which a refusal is counted and recorded. -/
def RefusalReg (r : RegName) (i : Nat) : Prop := i = 0 ∧ r ∈ [RegName.ACC_REFUSED, .ACC_LOG_WR, .ACC_LOG_LOST]

theorem RegsKeptBut.trans {R : RegName → Nat → Prop} {a b c : Blk} (h : RegsKeptBut R a b) (h' : RegsKeptBut R b c) :
    RegsKeptBut R a c := fun r i hr => (h' r i hr).trans (h r i hr)

theorem RegsKeptBut.of_regs {R : RegName → Nat → Prop} {a b : Blk} (h : b.regs = a.regs) : RegsKeptBut R a b :=
  fun r i _ => Blk.reg_congr h r i

theorem RegsKeptBut.setFld {R : RegName → Nat → Prop} (b : Blk) {f : Fld} {i : Nat} (v : Nat) (h : R f.reg i) :
    RegsKeptBut R b (b.setFld f i v) := fun r j hr => b.reg_setReg_of_ne _ fun e => by
  obtain ⟨rfl, rfl⟩ := Prod.mk.inj e
  exact hr h

/-- A refusal is counted. -/
theorem Blk.reg_refuse (b : Blk) (source detail data : Nat) :
    (b.refuse source detail data).reg .ACC_REFUSED 0 = b.reg .ACC_REFUSED 0 + 1 := by
  have hinc : (b.incFld F.ACC_REFUSED_REFUSED 0).reg .ACC_REFUSED 0 = b.reg .ACC_REFUSED 0 + 1 :=
    b.reg_incFld_whole (f := F.ACC_REFUSED_REFUSED) 0 rfl rfl
  unfold Blk.refuse
  generalize b.incFld F.ACC_REFUSED_REFUSED 0 = c at hinc ⊢
  dsimp only
  split
  · exact hinc
  · split
    · rw [Blk.incFld, Blk.reg_setFld_name _ _ _ _ (by decide), Blk.reg_congr (Blk.writeMem_regs ..),
        Blk.reg_congr (Blk.settleMem_regs ..), hinc]
    · rw [Blk.addSat, Blk.reg_setFld_name _ _ _ _ (by decide), hinc]

/-- From `a` to `b` units of this node have made accesses: of the registers only those of refusals change, and neither OTP nor the Loop
Engines do. -/
def Blk.Accesses (a b : Blk) : Prop := RegsKeptBut RefusalReg a b ∧ b.otp = a.otp ∧ b.le = a.le

theorem Blk.Accesses.refl (b : Blk) : b.Accesses b := ⟨fun _ _ _ => rfl, rfl, rfl⟩

theorem Blk.Accesses.trans {a b c : Blk} (h : a.Accesses b) (h' : b.Accesses c) : a.Accesses c :=
  ⟨h.1.trans h'.1, h'.2.1.trans h.2.1, h'.2.2.trans h.2.2⟩

theorem Blk.accesses_settleMem (b : Blk) (addr : Nat) : b.Accesses (b.settleMem addr) := by
  obtain ⟨hr, ho, hl⟩ := b.settleMem_frame addr
  exact ⟨.of_regs hr, ho, hl⟩

theorem Blk.accesses_writeMem (b : Blk) (a n v : Nat) : b.Accesses (b.writeMem a n v) :=
  ⟨.of_regs (b.writeMem_regs a n v), b.writeMem_otp a n v, b.writeMem_le a n v⟩

theorem Blk.accesses_setFld (b : Blk) {f : Fld} (v : Nat) (h : RefusalReg f.reg 0) : b.Accesses (b.setFld f 0 v) :=
  ⟨.setFld b v h, rfl, rfl⟩

theorem Blk.accesses_refuse (b : Blk) (source detail data : Nat) : b.Accesses (b.refuse source detail data) := by
  have hinc : b.Accesses (b.incFld F.ACC_REFUSED_REFUSED 0) := b.accesses_setFld _ (by simp [RefusalReg])
  unfold Blk.refuse
  generalize b.incFld F.ACC_REFUSED_REFUSED 0 = c at hinc ⊢
  dsimp only
  split
  · exact hinc
  · split
    · exact hinc.trans ((c.accesses_settleMem _).trans ((Blk.accesses_writeMem ..).trans
        (Blk.accesses_setFld _ _ (by simp [RefusalReg]))))
    · exact hinc.trans (c.accesses_setFld _ (by simp [RefusalReg]))

theorem Blk.Accesses.reg {a b : Blk} (h : a.Accesses b) {r : RegName} (i : Nat)
    (hr : r ∉ [RegName.ACC_REFUSED, .ACC_LOG_WR, .ACC_LOG_LOST]) : b.reg r i = a.reg r i := h.1 r i fun hc => hr hc.2

theorem Blk.Accesses.fld {a b : Blk} (h : a.Accesses b) (f : Fld) (i : Nat)
    (hr : f.reg ∉ [RegName.ACC_REFUSED, .ACC_LOG_WR, .ACC_LOG_LOST]) : b.fld f i = a.fld f i := congrArg f.get (h.reg i hr)

theorem Blk.Accesses.task {a b : Blk} (h : a.Accesses b) (t : Nat) : b.task t = a.task t := by
  simp only [Blk.task, h.2.2]

/-- What decides on a read outside the registers: the phase and the registers of the access tables and of the power domains. -/
theorem Blk.gate_read_congr {a b : Blk} (h : RegsKeptBut RefusalReg a b) (mid : Nat) {addr : Nat} (width : Nat)
    (hr : regionOf addr ≠ some .regs) : b.gate mid .read addr width = a.gate mid .read addr width := by
  have hreg : ∀ r i, r ∉ [RegName.ACC_REFUSED, .ACC_LOG_WR, .ACC_LOG_LOST] → b.reg r i = a.reg r i :=
    fun r i hr => h r i fun hc => hr hc.2
  have hconf : b.configDone = a.configDone := by simp only [Blk.configDone, Blk.flag, Blk.fld, hreg .SYS_STATUS _ (by decide)]
  have hent : ∀ t e, b.entryPermits t e mid .read = a.entryPermits t e mid .read := fun t e => by
    funext first last unit
    simp only [Blk.entryPermits, hreg .ACC_ENT0 _ (by decide), hreg .ACC_ENT1 _ (by decide), hreg .ACC_ENT2 _ (by decide)]
  have htable : b.tablePermits mid .read addr width = a.tablePermits mid .read addr width := by
    simp only [Blk.tablePermits, hconf, hent]
  have hdom : b.domainOk addr = a.domainOk addr := by
    simp only [Blk.domainOk, Blk.pdState, Blk.fld, hreg .PD_STATUS _ (by decide)]
  have hlog : coversLog addr width = false := by simp [coversLog, hr]
  simp only [Blk.gate, Blk.lateCheck, htable, hdom, hlog, Bool.false_and, reduceCtorEq, false_and]

theorem Blk.unitMaster_congr {a b : Blk} (h : RegsKeptBut RefusalReg a b) (m : Nat) : b.unitMaster m = a.unitMaster m := by
  have hconf : b.configDone = a.configDone :=
    congrArg (F.SYS_STATUS_CONFIG_DONE.get · != 0) (h .SYS_STATUS 0 fun hc => absurd hc.2 (by decide))
  rw [Blk.unitMaster, hconf]
  rfl

end Sys2Proof.Machine
end

section
/-!
PROOFS. The lanes of a task's registers: what a write of a lane changes, at once or on the edge of the load that it awaits (R121).
-/

namespace Sys2Proof.Machine

open Sys2Proof.Claims

/-- The load with `v` waiting for its edge in lane `j`. -/
def GldRec.put (g : GldRec) (j : Nat) (v : Word) : GldRec := { g with late := NMap.set g.late j (some v) none }

/-- What a write of lane `j` of Vn that awaits load `h` makes of an outstanding load. -/
def GldRec.noted (h : GldRec) (n j : Nat) (v : Word) (g : GldRec) : GldRec := if g.num = h.num ∧ g.vd = n then g.put j v else g

theorem TaskSt.setLane_of_none {x : TaskSt} {n j : Nat} (v : Word) (h : x.awaited n j = none) :
    x.setLane n j v = { x with v := NMap.set x.v (4 * n + j) v 0 } := by rw [TaskSt.setLane, h]

theorem TaskSt.setLane_of_some {x : TaskSt} {n j : Nat} {h : GldRec} (v : Word) (hx : x.awaited n j = some h) :
    x.setLane n j v = { x with gld := x.gld.map (h.noted n j v) } := by
  rw [TaskSt.setLane, hx]
  rfl

theorem GldRec.noted_cases (h : GldRec) (n j : Nat) (v : Word) (g : GldRec) :
    h.noted n j v g = g ∨ h.noted n j v g = g.put j v := by
  unfold GldRec.noted
  split
  exacts [.inr rfl, .inl rfl]

theorem GldRec.noted_vd (h : GldRec) (n j : Nat) (v : Word) (g : GldRec) : (h.noted n j v g).vd = g.vd := by
  rcases h.noted_cases n j v g with e | e <;> rw [e]; rfl

theorem GldRec.noted_lanes (h : GldRec) (n j : Nat) (v : Word) (g : GldRec) : (h.noted n j v g).lanes = g.lanes := by
  rcases h.noted_cases n j v g with e | e <;> rw [e]; rfl

theorem bareLoad_noted (h : GldRec) (n j : Nat) (v : Word) (g : GldRec) : bareLoad (h.noted n j v g) = bareLoad g := by
  rcases h.noted_cases n j v g with e | e <;> rw [e]; rfl

/-- A write that waits for an edge leaves which load is awaited. -/
theorem TaskSt.awaited_noted (x : TaskSt) (h : GldRec) (n j : Nat) (v : Word) (r k : Nat) :
    ({ x with gld := x.gld.map (h.noted n j v) } : TaskSt).awaited r k = (x.awaited r k).map (h.noted n j v) := by
  simp only [TaskSt.awaited, ← List.map_reverse, List.find?_map]
  congr 2
  funext g
  simp [GldRec.noted_vd, GldRec.noted_lanes]

theorem TaskSt.awaited_vd {x : TaskSt} {r k : Nat} {g : GldRec} (h : x.awaited r k = some g) : g.vd = r := by
  have hp := List.find?_some h
  simp only [Bool.and_eq_true, beq_iff_eq] at hp
  exact hp.1

theorem TaskSt.awaited_setLane_isNone (x : TaskSt) (n j : Nat) (v : Word) (r k : Nat) :
    (x.setLane n j v).awaited r k = none ↔ x.awaited r k = none := by
  cases hx : x.awaited n j with
  | none => rw [TaskSt.setLane_of_none v hx]; rfl
  | some h => rw [TaskSt.setLane_of_some v hx, TaskSt.awaited_noted, Option.map_eq_none_iff]

/-- The key of a lane among the lanes of all registers. -/
theorem lane_key_inj {n j r k : Nat} (hj : j < 4) (hk : k < 4) : 4 * r + k = 4 * n + j ↔ r = n ∧ k = j := by omega

theorem TaskSt.lane_setLane (x : TaskSt) {n j r k : Nat} (v : Word) (hj : j < 4) (hk : k < 4) :
    (x.setLane n j v).lane r k = if (r = n ∧ k = j) ∧ x.awaited r k = none then v else x.lane r k := by
  cases hx : x.awaited n j with
  | none =>
    rw [TaskSt.setLane_of_none v hx]
    by_cases h : r = n ∧ k = j
    · obtain ⟨rfl, rfl⟩ := h
      rw [if_pos ⟨⟨rfl, rfl⟩, hx⟩]
      exact SMap.get_put_self ..
    · rw [if_neg fun e => h e.1]
      exact SMap.get_put_of_ne _ _ _ _ (h ∘ (lane_key_inj hj hk).mp)
  | some h =>
    rw [TaskSt.setLane_of_some v hx, if_neg]
    · rfl
    · rintro ⟨⟨rfl, rfl⟩, e⟩
      simp [hx] at e

theorem TaskSt.lateLane_setLane (x : TaskSt) {n j r k : Nat} (v : Word) :
    lateLane (x.setLane n j v) r k = if (r = n ∧ k = j) ∧ x.awaited r k ≠ none then some v else lateLane x r k := by
  cases hx : x.awaited n j with
  | none =>
    rw [TaskSt.setLane_of_none v hx, if_neg]
    · rfl
    · rintro ⟨⟨rfl, rfl⟩, e⟩
      exact e hx
  | some h =>
    rw [TaskSt.setLane_of_some v hx, lateLane, TaskSt.awaited_noted, lateLane]
    cases hr : x.awaited r k with
    | none => simp
    | some g =>
      have hg := TaskSt.awaited_vd hr
      simp only [Option.map_some, Option.bind_some, GldRec.noted, ne_eq, reduceCtorEq, not_false_eq_true, and_true]
      by_cases hn : r = n ∧ k = j
      · obtain ⟨rfl, rfl⟩ := hn
        cases hr.symm.trans hx
        rw [if_pos ⟨rfl, hg⟩, if_pos ⟨rfl, rfl⟩]
        exact SMap.get_put_self (lt := natLt) h.late k (some v) none
      · rw [if_neg hn]
        split
        next hc => exact SMap.get_put_of_ne (lt := natLt) g.late (some v) none none fun e => hn ⟨hg.symm.trans hc.2, e⟩
        next => rfl

/-- From `x` to `y` the lanes of `vd` that `on` names take `v`, as in `LanesGo`, where no load that is awaited changes but in what waits
for its edge; of the rest of the context only FLAGS may. -/
structure TaskSt.Loads (vd : Nat) (on : Nat → Bool) (v : Nat → Word) (x y : TaskSt) : Prop where
  lanes : ∀ r j, j < 4 →
    y.lane r j = (if (r = vd ∧ on j = true) ∧ x.awaited r j = none then v j else x.lane r j) ∧
      lateLane y r j = if (r = vd ∧ on j = true) ∧ x.awaited r j ≠ none then some (v j) else lateLane x r j
  awaited : ∀ r j, y.awaited r j = none ↔ x.awaited r j = none
  rest : y = { x with v := y.v, flags := y.flags, gld := y.gld }
  gld : y.gld.map bareLoad = x.gld.map bareLoad

theorem TaskSt.Loads.lanesGo {vd : Nat} {m : BitVec 4} {v : Nat → Word} {x y : TaskSt} (h : x.Loads vd m.getLsbD v y) :
    LanesGo vd m v x y := h.lanes

theorem TaskSt.Loads.refl (vd : Nat) {on : Nat → Bool} (v : Nat → Word) (x : TaskSt) (h : ∀ j, j < 4 → on j = false) :
    x.Loads vd on v x := by
  refine ⟨fun r j hj => ?_, fun _ _ => Iff.rfl, rfl, rfl⟩
  simp [h j hj]

theorem TaskSt.Loads.congr {vd : Nat} {on on' : Nat → Bool} {v v' : Nat → Word} {x y : TaskSt} (h : x.Loads vd on v y)
    (hon : ∀ j, j < 4 → on' j = on j) (hv : ∀ j, j < 4 → on j = true → v' j = v j) : x.Loads vd on' v' y := by
  refine ⟨fun r j hj => ?_, h.awaited, h.rest, h.gld⟩
  obtain ⟨hlane, hlate⟩ := h.lanes r j hj
  rw [hlane, hlate, hon j hj]
  cases hj' : on j with
  | false => simp
  | true => simp [hv j hj hj']

/-- FLAGS are no matter of the lanes. -/
theorem TaskSt.Loads.setDeny {vd : Nat} {on : Nat → Bool} {v : Nat → Word} {x y : TaskSt} (h : x.Loads vd on v y) (d : Bool) :
    x.Loads vd on v (y.setDeny d) := by
  cases d
  · exact h
  · refine ⟨h.lanes, h.awaited, ?_, h.gld⟩
    rw [TaskSt.setDeny, if_pos rfl, h.rest]

/-- One more lane takes its value. -/
theorem TaskSt.Loads.setLane {vd : Nat} {on : Nat → Bool} {v : Nat → Word} {x y : TaskSt} (h : x.Loads vd on v y) {j : Nat}
    (hj : j < 4) : x.Loads vd (fun k => on k || k == j) v (y.setLane vd j (v j)) := by
  refine ⟨fun r k hk => ?_, fun r k => (y.awaited_setLane_isNone vd j (v j) r k).trans (h.awaited r k), ?_, ?_⟩
  · obtain ⟨hlane, hlate⟩ := h.lanes r k hk
    rw [y.lane_setLane (v j) hj hk, y.lateLane_setLane (v j), hlane, hlate]
    simp only [h.awaited, ne_eq, Bool.or_eq_true, beq_iff_eq]
    by_cases hkj : k = j
    · subst hkj
      by_cases hr : r = vd
      · subst hr
        by_cases ha : x.awaited r k = none <;> simp [ha]
      · simp [hr]
    · simp [hkj]
  · cases hy : y.awaited vd j with
    | none => rw [TaskSt.setLane_of_none _ hy, h.rest]
    | some g => rw [TaskSt.setLane_of_some _ hy, h.rest]
  · cases hy : y.awaited vd j with
    | none =>
      rw [TaskSt.setLane_of_none _ hy]
      exact h.gld
    | some g =>
      rw [TaskSt.setLane_of_some _ hy]
      simp only [List.map_map]
      rw [← h.gld]
      exact List.map_congr_left fun a _ => bareLoad_noted g vd j (v j) a

theorem TaskSt.forLanes_setLane (x : TaskSt) (vd : Nat) (m : BitVec 4) (v : Nat → Word) :
    x.Loads vd m.getLsbD v (x.forLanes m fun y j => y.setLane vd j (v j)) := by
  suffices h : ∀ n, n ≤ 4 → x.Loads vd (fun k => m.getLsbD k && decide (k < n)) v
      ((List.range n).foldl (fun y j => if m.getLsbD j then y.setLane vd j (v j) else y) x) from
    (h 4 le_rfl).congr (fun j hj => by simp [hj]) fun _ _ _ => rfl
  intro n hn
  induction n with
  | zero => exact .refl vd v x fun j _ => by simp
  | succ n ih =>
    have ih := ih (by omega)
    rw [List.range_succ, List.foldl_append, List.foldl_cons, List.foldl_nil]
    split
    next hm =>
      refine (ih.setLane (by omega)).congr (fun j _ => ?_) fun _ _ _ => rfl
      by_cases hj : j = n
      · simp [hj, hm]
      · have hlt : (j < n + 1) ↔ j < n := by omega
        simp [hj, hlt]
    next hm =>
      refine ih.congr (fun j _ => ?_) fun _ _ _ => rfl
      by_cases hj : j = n
      · simp [hj, hm]
      · have hlt : (j < n + 1) ↔ j < n := by omega
        simp [hlt]

theorem TaskSt.forLanes_setLane_flags (x : TaskSt) (vd : Nat) (m : BitVec 4) (v : Nat → Word) :
    (x.forLanes m fun y j => y.setLane vd j (v j)).flags = x.flags := by
  have hset : ∀ (y : TaskSt) j, (y.setLane vd j (v j)).flags = y.flags := fun y j => by
    cases hy : y.awaited vd j with
    | none => rw [TaskSt.setLane_of_none _ hy]
    | some g => rw [TaskSt.setLane_of_some _ hy]
  unfold TaskSt.forLanes
  generalize List.range 4 = l
  induction l generalizing x with
  | nil => rfl
  | cons j l ih =>
    rw [List.foldl_cons, ih]
    split
    exacts [hset x j, rfl]

/-- What a load writes into the lanes. -/
theorem TaskSt.loads_loaded (x : TaskSt) (vd : Nat) (m : BitVec 4) (wide : Bool) (v : Option Nat) :
    x.Loads vd m.getLsbD (loadedLane wide v) (x.loaded vd m wide v) :=
  (x.forLanes_setLane vd m (loadedLane wide v)).setDeny v.isNone

theorem TaskSt.flags_loaded (x : TaskSt) (vd : Nat) (m : BitVec 4) (wide : Bool) (v : Option Nat) :
    (x.loaded vd m wide v).flags = if v = none then x.flags ||| 2 else x.flags := by
  have h := x.forLanes_setLane_flags vd m (loadedLane wide v)
  cases v <;> simp [TaskSt.loaded, TaskSt.setDeny, h]

/-- A load of one lane, as LDX makes it for each. -/
theorem TaskSt.loaded_lane (x : TaskSt) (vd : Nat) {j : Nat} (hj : j < 4) (v : Option Nat) :
    x.loaded vd (BitVec.ofNat 4 (2 ^ j)) false v = (x.setLane vd j (loadedLane false v j)).setDeny v.isNone := by
  have hm : x.forLanes (BitVec.ofNat 4 (2 ^ j)) (fun y k => y.setLane vd k (loadedLane false v k)) =
      x.setLane vd j (loadedLane false v j) := by
    interval_cases j <;> rfl
  rw [TaskSt.loaded, hm]

end Sys2Proof.Machine
end

section
/-!
PROOFS. Loads and stores of a task's own tile memory (O28).
-/

namespace Sys2Proof.Machine

open Sys2Proof.Claims

/-! ## Issuing -/

/-- The block once task `t` has issued an instruction of `n` cycles on engine `e` whose effect has led to `b`. -/
def Blk.retired (b : Blk) (t e n : Nat) : Blk := (b.nextPc t).countIssue e n

theorem Blk.issueB_eq {b : Blk} {e op t : Nat} (n : Nat) (f : Blk → Nat → Nat → Blk) (h : b.issues e op = some t) :
    b.issueB e op n f = (f b t (b.fetch t)).retired t e n := by
  rw [Blk.issueB, h]
  rfl

theorem Blk.task_setTask_self (b : Blk) (t : Nat) (x : TaskSt) : (b.setTask t x).task t = x :=
  SMap.get_put_self (lt := natLt) b.le.tasks t x TaskSt.zero

theorem Blk.task_setTask_of_ne (b : Blk) {t u : Nat} (x : TaskSt) (h : u ≠ t) : (b.setTask t x).task u = b.task u :=
  SMap.get_put_of_ne (lt := natLt) b.le.tasks x TaskSt.zero TaskSt.zero h

theorem Blk.task_congr {a b : Blk} (h : a.le.tasks = b.le.tasks) (u : Nat) : a.task u = b.task u := by
  rw [Blk.task, h, Blk.task]

theorem Blk.tasks_setFld (b : Blk) (f : Fld) (i v : Nat) : (b.setFld f i v).le.tasks = b.le.tasks := by rw [Blk.setFld_le]

theorem Blk.tasks_withIssues (b : Blk) (l : NMap Nat) : ({ b with le := { b.le with issues := l } } : Blk).le.tasks = b.le.tasks := rfl

theorem Blk.task_countIssue (b : Blk) (e n u : Nat) : (b.countIssue e n).task u = b.task u :=
  Blk.task_congr ((Blk.tasks_withIssues _ _).trans (b.tasks_setFld ..)) u

theorem Blk.regs_countIssue (b : Blk) (e n : Nat) :
    (b.countIssue e n).regs = (b.setFld F.ENG_ISSUE_ISSUED e (b.fld F.ENG_ISSUE_ISSUED e + n)).regs := by
  rw [Blk.countIssue]

theorem Blk.mem_retired (b : Blk) (t e n : Nat) : (b.retired t e n).mem = b.mem := by
  rw [Blk.retired, Blk.countIssue, Blk.setFld_mem]
  rfl

theorem Blk.otp_retired (b : Blk) (t e n : Nat) : (b.retired t e n).otp = b.otp := by
  rw [Blk.retired, Blk.countIssue, Blk.setFld_otp]
  rfl

theorem Blk.task_retired_self (b : Blk) (t e n : Nat) :
    (b.retired t e n).task t = { b.task t with pc := (b.task t).pc + 4 } := by
  rw [Blk.retired, Blk.task_countIssue]
  exact b.task_setTask_self t _

theorem Blk.task_retired_of_ne (b : Blk) (e n : Nat) {t u : Nat} (h : u ≠ t) : (b.retired t e n).task u = b.task u := by
  rw [Blk.retired, Blk.task_countIssue]
  exact b.task_setTask_of_ne _ h

theorem Blk.reg_retired_of_ne (b : Blk) (t e n : Nat) {r : RegName} {i : Nat} (h : (r, i) ≠ (.ENG_ISSUE, e)) :
    (b.retired t e n).reg r i = b.reg r i := by
  rw [Blk.retired, Blk.reg_congr (Blk.regs_countIssue ..), Blk.setFld, Blk.reg_setReg_of_ne _ _ h]
  rfl

theorem Blk.fld_retired (b : Blk) (t e n : Nat) :
    (b.retired t e n).fld F.ENG_ISSUE_ISSUED e = (b.fld F.ENG_ISSUE_ISSUED e + n) % 2 ^ 32 := by
  rw [Blk.retired, Blk.fld_congr (Blk.regs_countIssue ..), Blk.fld_setFld_self _ _ _ _ (by decide)]
  rfl

/-- The effect of an instruction of task `t` that leaves the registers and the other tasks alone and memory as `f` has it. -/
theorem Blk.issuedOn_retired {f a c : Blk} (t e n : Nat) (hr : c.regs = a.regs) (hm : c.mem = f.mem) (ho : c.otp = f.otp)
    (ht : ∀ u, u ≠ t → c.task u = a.task u) : IssuedOn f e t n a (c.retired t e n) := by
  refine ⟨?_, fun u hu => (c.task_retired_of_ne e n hu).trans (ht u hu), fun r i h => ?_, fun x => ?_, fun x => ?_⟩
  · rw [c.fld_retired, Blk.fld_congr hr]
  · exact (c.reg_retired_of_ne t e n fun e' => h (Prod.mk.inj e')).trans (Blk.reg_congr hr r i)
  · exact Blk.byte_congr ((c.mem_retired t e n).trans hm) x
  · rw [c.otp_retired, ho]

section load

variable {a c : Blk} {t e n vd : Nat} {on : Nat → Bool} {v : Nat → Word} (h : (a.task t).Loads vd on v (c.task t))

include h

theorem TaskSt.Loads.pcMoves : PcMoves t a (c.retired t e n) := by
  rw [PcMoves, c.task_retired_self, h.rest]

theorem TaskSt.Loads.onlyLanes : OnlyLanes t a (c.retired t e n) := by
  rw [OnlyLanes, c.task_retired_self]
  refine ⟨?_, h.gld⟩
  generalize c.task t = y at h ⊢
  rw [h.rest]

theorem TaskSt.Loads.lanesTake {m : BitVec 4} {w : Nat → Word} (hon : ∀ j, j < 4 → m.getLsbD j = on j)
    (hv : ∀ j, j < 4 → on j = true → w j = v j) : LanesTake t vd m w a (c.retired t e n) := by
  rw [LanesTake, c.task_retired_self]
  exact (h.congr hon hv).lanes

end load

theorem Blk.flagsTake_retired {a c : Blk} {t bits : Nat} {p : Prop} (e n : Nat)
    (h : (p → (c.task t).flags = (a.task t).flags ||| bits) ∧ (¬ p → (c.task t).flags = (a.task t).flags)) :
    FlagsTake t bits p a (c.retired t e n) := by
  rw [FlagsTake, c.task_retired_self]
  exact h

/-! ## Words in memory -/

theorem Blk.readMem_add (b : Blk) (a m n : Nat) : b.readMem a (m + n) = b.readMem a m + 256 ^ m * b.readMem (a + m) n := by
  induction m generalizing a with
  | zero => simp [Blk.readMem]
  | succ m ih =>
    rw [Nat.add_right_comm, Blk.readMem, ih, Blk.readMem, pow_succ', Nat.mul_add, Nat.add_right_comm a 1 m, ← Nat.add_assoc,
      ← Nat.mul_assoc, Nat.add_assoc a m 1]

/-- Of four words read as one number, the one at place `j`. -/
theorem Blk.word_of_readMem (b : Blk) (a : Nat) {j : Nat} (hj : j < 4) :
    BitVec.ofNat 32 (b.readMem a 16 / 2 ^ (32 * j)) = b.word (a + 4 * j) := by
  have hhead := b.readMem_add a (4 * j) (16 - 4 * j)
  have hword := b.readMem_add (a + 4 * j) 4 (12 - 4 * j)
  rw [show 4 * j + (16 - 4 * j) = 16 by omega] at hhead
  rw [show 4 + (12 - 4 * j) = 16 - 4 * j by omega] at hword
  have hlow := b.readMem_lt a (4 * j)
  have hpow : 2 ^ (32 * j) = 256 ^ (4 * j) := by
    rw [show 32 * j = 8 * (4 * j) by omega, pow_mul]
    norm_num
  rw [hhead, hword, hpow, Nat.add_mul_div_left _ _ (Nat.pow_pos (by decide)), Nat.div_eq_of_lt hlow, Nat.zero_add, Blk.word]
  apply BitVec.eq_of_toNat_eq
  simp only [BitVec.toNat_ofNat]
  omega

theorem Blk.readMem_congr_bytes {a b : Blk} {x n : Nat} (h : ∀ y, x ≤ y → y < x + n → b.byte y = a.byte y) :
    b.readMem x n = a.readMem x n := by
  induction n generalizing x with
  | zero => rfl
  | succ n ih =>
    rw [Blk.readMem, Blk.readMem, h x le_rfl (by omega), ih fun y hy hy' => h y (by omega) (by omega)]

/-- Four bytes written read as the word. -/
theorem Blk.word_writeMem (b : Blk) (a : Nat) (v : Word) : (b.writeMem a 4 v.toNat).word a = v := by
  rw [Blk.word, b.readMem_writeMem]
  apply BitVec.eq_of_toNat_eq
  have hv := v.isLt
  simp only [BitVec.toNat_ofNat]
  omega

/-- Four lanes written as one number read back word by word. -/
theorem Blk.word_writeMem_quad (b : Blk) (a : Nat) (x : TaskSt) (n : Nat) {j : Nat} (hj : j < 4) :
    (b.writeMem a 16 (x.quad n)).word (a + 4 * j) = x.lane n j := by
  rw [← Blk.word_of_readMem _ a hj, b.readMem_writeMem, TaskSt.quad]
  have h0 := (x.lane n 0).isLt
  have h1 := (x.lane n 1).isLt
  have h2 := (x.lane n 2).isLt
  have h3 := (x.lane n 3).isLt
  apply BitVec.eq_of_toNat_eq
  rw [BitVec.toNat_ofNat]
  interval_cases j <;> simp only [Nat.reducePow, Nat.reduceMul] <;> omega

/-! ## One read and one write of a task's tile -/

section tile

variable {b : Blk} {t off : Nat} (ht : t < 4096) (hoff : off < tileBytes)

include ht hoff

/-- A read that is admitted gives what stands there once the tile has performed what waits. -/
theorem Blk.tileRead_of_admitted {n : Nat} (h : b.gate (b.unitMaster (taskEng t)) .read (taskAddr t off) (8 * n) = none) :
    b.tileRead t off n = (b.settleMem (taskAddr t 0), some ((b.settleMem (taskAddr t 0)).readMem (taskAddr t off) n)) := by
  simp only [Blk.tileRead, h, b.settleMem_taskAddr ht hoff]

omit ht hoff in
theorem Blk.tileRead_of_refused {n d : Nat} (h : b.gate (b.unitMaster (taskEng t)) .read (taskAddr t off) (8 * n) = some d) :
    b.tileRead t off n = (b.refuse (b.unitMaster (taskEng t)) d (denyData .read (taskAddr t off)), none) := by
  simp only [Blk.tileRead, h]

theorem Blk.tileWrite_of_admitted {n : Nat} (v : Nat)
    (h : b.gate (b.unitMaster (taskEng t)) .write (taskAddr t off) (8 * n) = none) :
    b.tileWrite t off n v = ((b.settleMem (taskAddr t 0)).writeMem (taskAddr t off) n v, false) := by
  simp only [Blk.tileWrite, h, b.settleMem_taskAddr ht hoff]

omit ht hoff in
theorem Blk.tileWrite_of_refused {n d : Nat} (v : Nat)
    (h : b.gate (b.unitMaster (taskEng t)) .write (taskAddr t off) (8 * n) = some d) :
    b.tileWrite t off n v = (b.refuse (b.unitMaster (taskEng t)) d (denyData .write (taskAddr t off)), true) := by
  simp only [Blk.tileWrite, h]

end tile

theorem lt_of_taskEng {t : Nat} {e : Fin 512} (h : taskEng t = e.val) : t < 4096 := by
  have he := e.isLt
  unfold taskEng at h
  omega

theorem bitsOf_zero (w n : Nat) : bitsOf w 0 n = w % 2 ^ n := by simp [bitsOf]

theorem bitsOf_two (w lo : Nat) : w / 2 ^ lo % 4 = bitsOf w lo 2 := rfl

/-- Word `w` of 16 bits names a word of the tile. -/
theorem four_mul_lt_tileBytes (w : Nat) : 4 * (w % 2 ^ 16) < tileBytes := by
  have := Nat.mod_lt w (show 0 < 2 ^ 16 by decide)
  unfold tileBytes
  omega

/-- Once a tile has performed what waits, what it performs next changes no memory. -/
theorem Blk.settleMem_mem_again {g c : Blk} {t : Nat} (ht : t < 4096) (hr : c.regs = g.regs)
    (hw : c.bus.waiting = (g.settleMem (taskAddr t 0)).bus.waiting) : (c.settleMem (taskAddr t 0)).mem = c.mem := by
  have hreg := regionOf_taskAddr_ne_regs ht (off := 0) (by decide)
  have htarget := targetNo_taskAddr ht (off := 0) (by decide)
  refine Blk.settleMem_mem_of_performs_nil hreg htarget ?_
  rw [Blk.performs_congr (hr.trans (g.settleMem_regs _).symm) hw]
  exact Blk.performs_settleMem hreg htarget

/-! ## Loads -/

/-- The block once task `t` has read `n` bytes of its tile into the lanes of `vd` that `m` enables. -/
def Blk.loadInto (b : Blk) (t off n vd : Nat) (m : BitVec 4) (wide : Bool) : Blk :=
  (b.tileRead t off n).1.setTask t (((b.tileRead t off n).1.task t).loaded vd m wide (b.tileRead t off n).2)

theorem Blk.setTask_frame (b : Blk) (t : Nat) (x : TaskSt) :
    (b.setTask t x).regs = b.regs ∧ (b.setTask t x).mem = b.mem ∧ (b.setTask t x).otp = b.otp ∧ (b.setTask t x).bus = b.bus :=
  ⟨rfl, rfl, rfl, rfl⟩

theorem RegsKeptBut.setTask {R : RegName → Nat → Prop} {a b : Blk} (h : RegsKeptBut R a b) (t : Nat) (x : TaskSt) :
    RegsKeptBut R a (b.setTask t x) := h

/-- What the tile holds once it has performed what waits there. -/
def Blk.settledTile (b : Blk) (t : Nat) : Blk := b.settleMem (taskAddr t 0)

/-- Whether the gate admits a read by task `t` of `bits` bits at `off` of its tile. -/
def Blk.tileReadGate (b : Blk) (t off bits : Nat) : Option Nat :=
  b.gate (b.unitMaster (taskEng t)) .read (taskAddr t off) bits

theorem Blk.accesses_settledTile (b : Blk) (t : Nat) : b.Accesses (b.settledTile t) := b.accesses_settleMem _

theorem Blk.loadInto_of_admitted {b : Blk} {t off n : Nat} (vd : Nat) (m : BitVec 4) (wide : Bool) (ht : t < 4096)
    (hoff : off < tileBytes) (h : b.tileReadGate t off (8 * n) = none) : b.loadInto t off n vd m wide =
      (b.settledTile t).setTask t ((b.task t).loaded vd m wide (some ((b.settledTile t).readMem (taskAddr t off) n))) := by
  rw [Blk.loadInto, Blk.tileRead_of_admitted ht hoff h, ← (b.accesses_settledTile t).task t]
  rfl

theorem Blk.loadInto_of_refused {b : Blk} {t off n d : Nat} (vd : Nat) (m : BitVec 4) (wide : Bool)
    (h : b.tileReadGate t off (8 * n) = some d) : b.loadInto t off n vd m wide =
      (b.refuse (b.unitMaster (taskEng t)) d (denyData .read (taskAddr t off))).setTask t ((b.task t).loaded vd m wide none) := by
  rw [Blk.loadInto, Blk.tileRead_of_refused h,
    ← (b.accesses_refuse (b.unitMaster (taskEng t)) d (denyData .read (taskAddr t off))).task t]

/-- The words that a load takes from memory. -/
theorem Blk.loadedLane_readMem (b : Blk) (t off : Nat) (wide : Bool) {j : Nat} (hj : j < 4) :
    loadedLane wide (some (b.readMem (taskAddr t off) (if wide then 16 else 4))) j =
      b.word (taskAddr t (off + if wide then 4 * j else 0)) := by
  cases wide
  · rfl
  · have h := b.word_of_readMem (taskAddr t off) hj
    rw [show taskAddr t off + 4 * j = taskAddr t (off + 4 * j) from Nat.add_assoc ..] at h
    exact h

section gather

variable (a : Blk) (t vd : Nat) (idx : Nat → Nat)

/-- From `a` to `c` task `t` has loaded the lanes of `vd` that `on` names, each from its own word of the tile. -/
structure Blk.Gathers (on : Nat → Bool) (c : Blk) : Prop where
  regs : RegsKeptBut RefusalReg a c
  tasks : ∀ u, u ≠ t → c.task u = a.task u
  lanes : ∃ v, (a.task t).Loads vd on v (c.task t) ∧
    (∀ j, on j = true → a.tileReadGate t (idx j) 32 ≠ none → v j = 0) ∧
    ((∀ j, on j = true → a.tileReadGate t (idx j) 32 = none) → ∀ j, on j = true →
      v j = (a.settledTile t).word (taskAddr t (idx j)))
  denied : (∃ j, on j = true ∧ a.tileReadGate t (idx j) 32 ≠ none) → (c.task t).flags = (a.task t).flags ||| 2
  admitted : (∀ j, on j = true → a.tileReadGate t (idx j) 32 = none) → (c.task t).flags = (a.task t).flags ∧
    c.regs = a.regs ∧ c.otp = a.otp ∧ (c.settledTile t).mem = (a.settledTile t).mem ∧
    ((∃ j, on j = true) → c.mem = (a.settledTile t).mem)

variable {a t vd idx}

theorem Blk.Gathers.refl : Blk.Gathers a t vd idx (fun _ => false) a where
  regs _ _ _ := rfl
  tasks _ _ := rfl
  lanes := ⟨fun _ => 0, .refl _ _ _ (fun _ _ => rfl), fun _ h => by simp at h, fun _ _ h => by simp at h⟩
  denied h := by simp at h
  admitted _ := ⟨rfl, rfl, rfl, rfl, fun h => by simp at h⟩

theorem Blk.tileReadGate_congr {b c : Blk} (h : RegsKeptBut RefusalReg b c) (ht : t < 4096) {off : Nat} (hoff : off < tileBytes)
    (bits : Nat) : c.tileReadGate t off bits = b.tileReadGate t off bits := by
  rw [Blk.tileReadGate, Blk.unitMaster_congr h, Blk.gate_read_congr h _ _ (regionOf_taskAddr_ne_regs ht hoff)]
  rfl

/-- Words of memory that is the same are the same. -/
theorem Blk.word_congr {b c : Blk} (h : c.mem = b.mem) (x : Nat) : c.word x = b.word x := by
  rw [Blk.word, Blk.word, Blk.readMem_congr h]

/-- One more lane is loaded into, whatever the load gives. -/
theorem TaskSt.Loads.step {vd : Nat} {on : Nat → Bool} {v : Nat → Word} {x y : TaskSt} (h : x.Loads vd on v y) {j : Nat}
    (hj : j < 4) (hon : on j = false) (u : Option Nat) :
    x.Loads vd (fun k => on k || k == j) (fun k => if k = j then loadedLane false u j else v k)
      (y.loaded vd (BitVec.ofNat 4 (2 ^ j)) false u) := by
  have hv : x.Loads vd on (fun k => if k = j then loadedLane false u j else v k) y :=
    h.congr (fun _ _ => rfl) fun k _ hk => if_neg fun e => by simp [e, hon] at hk
  rw [TaskSt.loaded_lane _ _ hj]
  simpa using (hv.setLane hj).setDeny u.isNone

/-- One more lane is loaded, the gate admitting it. -/
theorem Blk.Gathers.step_admitted {on : Nat → Bool} {c : Blk} (h : Blk.Gathers a t vd idx on c) (ht : t < 4096) {j : Nat}
    (hj : j < 4) (hidx : idx j < tileBytes) (hon : on j = false) (hg : a.tileReadGate t (idx j) 32 = none) :
    Blk.Gathers a t vd idx (fun k => on k || k == j) (c.loadInto t (idx j) 4 vd (BitVec.ofNat 4 (2 ^ j)) false) := by
  obtain ⟨v, hload, hzero, hword⟩ := h.lanes
  have hne : ∀ k, on k = true → k ≠ j := fun k hk e => by simp [e, hon] at hk
  have hacc := c.accesses_settledTile t
  have hkept : (∀ k, (on k || k == j) = true → a.tileReadGate t (idx k) 32 = none) →
      ∀ k, on k = true → a.tileReadGate t (idx k) 32 = none := fun hall k hk => hall k (by simp [hk])
  have hgate : c.tileReadGate t (idx j) (8 * 4) = none := (Blk.tileReadGate_congr h.regs ht hidx 32).trans hg
  rw [Blk.loadInto_of_admitted vd _ false ht hidx hgate]
  generalize hd : c.settledTile t = d at hacc
  refine ⟨(h.regs.trans hacc.1).setTask t _, fun k hk => ?_, ?_, ?_, fun hall => ?_⟩
  · rw [Blk.task_setTask_of_ne _ _ hk, hacc.task, h.tasks k hk]
  · rw [Blk.task_setTask_self]
    refine ⟨_, hload.step hj hon _, fun k hk hno => ?_, fun hall k hk => ?_⟩
    · by_cases hkj : k = j
      · exact absurd (hkj ▸ hg) hno
      · rw [if_neg hkj]
        exact hzero k (by simpa [hkj] using hk) hno
    · by_cases hkj : k = j
      · have hmem := (h.admitted (hkept hall)).2.2.2.1
        rw [hd] at hmem
        rw [if_pos hkj, hkj, ← Blk.word_congr hmem]
        exact d.loadedLane_readMem t (idx j) false hj
      · rw [if_neg hkj]
        exact hword (hkept hall) k (by simpa [hkj] using hk)
  · rw [Blk.task_setTask_self, TaskSt.flags_loaded, if_neg (by simp)]
    rintro ⟨k, hk, hno⟩
    refine h.denied ⟨k, ?_, hno⟩
    have hkj : k ≠ j := fun e => hno (e ▸ hg)
    simpa [hkj] using hk
  · obtain ⟨hflags, hregs, hotp, hmem, -⟩ := h.admitted (hkept hall)
    rw [hd] at hmem
    have hdregs : d.regs = c.regs := hd ▸ c.settleMem_regs _
    have hflags' : ((c.task t).loaded vd (BitVec.ofNat 4 (2 ^ j)) false (some (d.readMem (taskAddr t (idx j)) 4))).flags =
        (a.task t).flags := by rw [TaskSt.flags_loaded, if_neg (by simp), hflags]
    generalize (c.task t).loaded vd (BitVec.ofNat 4 (2 ^ j)) false (some (d.readMem (taskAddr t (idx j)) 4)) = y at hflags' ⊢
    obtain ⟨hr, hm, ho, hb⟩ := d.setTask_frame t y
    refine ⟨by rw [Blk.task_setTask_self, hflags'], hr.trans (hdregs.trans hregs), ho.trans (hacc.2.1.trans hotp), ?_,
      fun _ => hm.trans hmem⟩
    refine (Blk.settleMem_mem_again (g := c) ht (hr.trans hdregs) ?_).trans (hm.trans hmem)
    rw [hb, ← Blk.settledTile, hd]

/-- One more lane is loaded, the gate refusing it. -/
theorem Blk.Gathers.step_refused {on : Nat → Bool} {c : Blk} (h : Blk.Gathers a t vd idx on c) (ht : t < 4096) {j d : Nat}
    (hj : j < 4) (hidx : idx j < tileBytes) (hon : on j = false) (hg : a.tileReadGate t (idx j) 32 = some d) :
    Blk.Gathers a t vd idx (fun k => on k || k == j) (c.loadInto t (idx j) 4 vd (BitVec.ofNat 4 (2 ^ j)) false) := by
  obtain ⟨v, hload, hzero, -⟩ := h.lanes
  have hacc := c.accesses_refuse (c.unitMaster (taskEng t)) d (denyData .read (taskAddr t (idx j)))
  have hno : ¬ ∀ k, (on k || k == j) = true → a.tileReadGate t (idx k) 32 = none := fun hall => by
    simp [hall j (by simp)] at hg
  rw [Blk.loadInto_of_refused vd _ false ((Blk.tileReadGate_congr h.regs ht hidx 32).trans hg)]
  revert hacc
  generalize c.refuse (c.unitMaster (taskEng t)) d (denyData .read (taskAddr t (idx j))) = e
  intro hacc
  refine ⟨(h.regs.trans hacc.1).setTask t _, fun k hk => ?_, ?_, fun _ => ?_, fun hall => absurd hall hno⟩
  · rw [Blk.task_setTask_of_ne _ _ hk, hacc.task, h.tasks k hk]
  · rw [Blk.task_setTask_self]
    refine ⟨_, hload.step hj hon none, fun k hk hk' => ?_, fun hall => absurd hall hno⟩
    by_cases hkj : k = j
    · rw [if_pos hkj, loadedLane]
    · rw [if_neg hkj]
      exact hzero k (by simpa [hkj] using hk) hk'
  · rw [Blk.task_setTask_self, TaskSt.flags_loaded, if_pos rfl]
    by_cases hden : ∃ k, on k = true ∧ a.tileReadGate t (idx k) 32 ≠ none
    · rw [h.denied hden, Nat.or_assoc, Nat.or_self]
    · push Not at hden
      rw [(h.admitted hden).1]

theorem Blk.Gathers.step {on : Nat → Bool} {c : Blk} (h : Blk.Gathers a t vd idx on c) (ht : t < 4096) {j : Nat} (hj : j < 4)
    (hidx : idx j < tileBytes) (hon : on j = false) :
    Blk.Gathers a t vd idx (fun k => on k || k == j) (c.loadInto t (idx j) 4 vd (BitVec.ofNat 4 (2 ^ j)) false) := by
  cases hg : a.tileReadGate t (idx j) 32 with
  | none => exact h.step_admitted ht hj hidx hon hg
  | some d => exact h.step_refused ht hj hidx hon hg

/-- A load of each lane that `m` enables, in ascending order. -/
theorem Blk.Gathers.foldl (ht : t < 4096) (hidx : ∀ j, idx j < tileBytes) (m : BitVec 4) :
    Blk.Gathers a t vd idx (fun j => m.getLsbD j && decide (j < 4)) ((List.range 4).foldl (fun b j =>
      if m.getLsbD j then b.loadInto t (idx j) 4 vd (BitVec.ofNat 4 (2 ^ j)) false else b) a) := by
  suffices h : ∀ n, n ≤ 4 → Blk.Gathers a t vd idx (fun j => m.getLsbD j && decide (j < n)) ((List.range n).foldl (fun b j =>
      if m.getLsbD j then b.loadInto t (idx j) 4 vd (BitVec.ofNat 4 (2 ^ j)) false else b) a) from h 4 le_rfl
  intro n hn
  induction n with
  | zero => simpa using Blk.Gathers.refl
  | succ n ih =>
    have ih := ih (by omega)
    rw [List.range_succ, List.foldl_append, List.foldl_cons, List.foldl_nil]
    split
    next hm =>
      have hset : (fun j => m.getLsbD j && decide (j < n + 1)) = fun j => m.getLsbD j && decide (j < n) || j == n := by
        funext j
        by_cases hj : j = n
        · simp [hj, hm]
        · have hlt : (j < n + 1) ↔ j < n := by omega
          simp [hj, hlt]
      rw [hset]
      exact ih.step ht (by omega) (hidx n) (by simp)
    next hm =>
      have hset : (fun j => m.getLsbD j && decide (j < n + 1)) = fun j => m.getLsbD j && decide (j < n) := by
        funext j
        by_cases hj : j = n
        · simp [hj, hm]
        · have hlt : (j < n + 1) ↔ j < n := by omega
          simp [hlt]
      rw [hset]
      exact ih

end gather

/-! ## Stores -/

/-- From `f` to `c` the words of the tile of task `t` that `on` names take `v`, and no other byte changes. -/
def StoredWords (t : Nat) (off : Nat → Nat) (on : Nat → Bool) (v : Nat → Word) (f c : Blk) : Prop :=
  (∀ j, on j = true → c.word (taskAddr t (off j)) = v j) ∧
    ∀ x, (∀ j, on j = true → x < taskAddr t (off j) ∨ taskAddr t (off j) + 4 ≤ x) → c.byte x = f.byte x

theorem StoredWords.congr_mem {t : Nat} {off : Nat → Nat} {on : Nat → Bool} {v : Nat → Word} {f c d : Blk}
    (h : StoredWords t off on v f c) (hm : d.mem = c.mem) : StoredWords t off on v f d :=
  ⟨fun j hj => (Blk.word_congr hm _).trans (h.1 j hj), fun x hx => (Blk.byte_congr hm x).trans (h.2 x hx)⟩

/-- One more word is written. -/
theorem StoredWords.step {t : Nat} {off : Nat → Nat} {on : Nat → Bool} {v : Nat → Word} {f c : Blk}
    (h : StoredWords t off on v f c) (j : Nat) (hoff : ∀ k, on k = true → off k + 4 ≤ off j ∨ off j + 4 ≤ off k) :
    StoredWords t off (fun k => on k || k == j) v f (c.writeMem (taskAddr t (off j)) 4 (v j).toNat) := by
  refine ⟨fun k hk => ?_, fun x hx => ?_⟩
  · by_cases hkj : k = j
    · rw [hkj, Blk.word_writeMem]
    · have hk : on k = true := by simpa [hkj] using hk
      have hout := hoff k hk
      rw [← h.1 k hk, Blk.word, Blk.word]
      congr 1
      refine Blk.readMem_congr_bytes fun y hy hy' => Blk.byte_writeMem_of_out _ _ _ _ _ ?_
      unfold taskAddr at hy hy' ⊢
      omega
  · rw [Blk.byte_writeMem_of_out _ _ _ _ _ (hx j (by simp))]
    exact h.2 x fun k hk => hx k (by simp [hk])

/-- Whether the gate admits a write by task `t` of `bits` bits at `off` of its tile. -/
def Blk.tileWriteGate (b : Blk) (t off bits : Nat) : Option Nat :=
  b.gate (b.unitMaster (taskEng t)) .write (taskAddr t off) bits

/-- From `a` to `r` task `t` has made at most `k` writes to its tile: whether one was refused, and where none was, what they leave. -/
structure Blk.Scatters (a : Blk) (t : Nat) (off : Nat → Nat) (on : Nat → Bool) (v : Nat → Word) (k : Nat) (r : Blk × Bool) : Prop where
  accesses : a.Accesses r.1
  refusals : ∃ n, n ≤ k ∧ r.1.reg .ACC_REFUSED 0 = a.reg .ACC_REFUSED 0 + BitVec.ofNat 32 n ∧ (r.2 = true ↔ n ≠ 0)
  stored : r.2 = false → r.1.regs = a.regs ∧ StoredWords t off on v (a.settledTile t) (r.1.settledTile t) ∧
    ((∃ j, on j = true) → (r.1.settledTile t).mem = r.1.mem)

section scatter

variable {a : Blk} {t : Nat} {off : Nat → Nat} {on : Nat → Bool} {v : Nat → Word} {k : Nat} {r : Blk × Bool}

theorem Blk.Scatters.refl : a.Scatters t off (fun _ => false) v 0 (a, false) where
  accesses := .refl a
  refusals := ⟨0, le_rfl, (BitVec.add_zero _).symm, by simp⟩
  stored _ := ⟨rfl, ⟨fun _ h => by simp at h, fun _ _ => rfl⟩, fun h => by simp at h⟩

theorem Blk.Scatters.mono (h : a.Scatters t off on v k r) {l : Nat} (hl : k ≤ l) : a.Scatters t off on v l r := by
  obtain ⟨n, hn, hreg, hdeny⟩ := h.refusals
  exact ⟨h.accesses, ⟨n, hn.trans hl, hreg, hdeny⟩, h.stored⟩

/-- Whether a write was refused shows in ACC_REFUSED. -/
theorem Blk.Scatters.denied_iff (h : a.Scatters t off on v k r) (hk : k ≤ 4) :
    r.2 = true ↔ r.1.reg .ACC_REFUSED 0 ≠ a.reg .ACC_REFUSED 0 := by
  obtain ⟨n, hn, hreg, hdeny⟩ := h.refusals
  rw [hdeny, hreg]
  generalize a.reg .ACC_REFUSED 0 = x
  constructor
  · intro hn0 e
    have hx := x.isLt
    have := congrArg BitVec.toNat e
    rw [BitVec.toNat_add, BitVec.toNat_ofNat] at this
    omega
  · rintro h rfl
    exact h (BitVec.add_zero x)

/-- What a write of memory behind what waits at the tile leaves. -/
theorem Blk.settledTile_mem_writeMem (c : Blk) (ht : t < 4096) (x n w : Nat) :
    (((c.settledTile t).writeMem x n w).settledTile t).mem = ((c.settledTile t).writeMem x n w).mem :=
  Blk.settleMem_mem_again (g := c) ht ((Blk.writeMem_regs ..).trans (c.settleMem_regs _))
    (congrArg BusSt.waiting (Blk.writeMem_bus ..))

/-- One more word is written, or refused. -/
theorem Blk.Scatters.step (h : a.Scatters t off on v k r) (ht : t < 4096) {j : Nat} (hj : off j < tileBytes)
    (hoff : ∀ k, on k = true → off k + 4 ≤ off j ∨ off j + 4 ≤ off k) :
    a.Scatters t off (fun i => on i || i == j) v (k + 1)
      ((r.1.tileWrite t (off j) 4 (v j).toNat).1, r.2 || (r.1.tileWrite t (off j) 4 (v j).toNat).2) := by
  obtain ⟨n, hn, hreg, hdeny⟩ := h.refusals
  cases hg : r.1.tileWriteGate t (off j) 32 with
  | none =>
    rw [Blk.tileWrite_of_admitted (n := 4) ht hj _ hg, Bool.or_false]
    change a.Scatters t off _ v (k + 1) ((r.1.settledTile t).writeMem (taskAddr t (off j)) 4 (v j).toNat, r.2)
    have hset := r.1.accesses_settledTile t
    have hmem := r.1.settledTile_mem_writeMem ht (taskAddr t (off j)) 4 (v j).toNat
    have hwrite := (r.1.settledTile t).accesses_writeMem (taskAddr t (off j)) 4 (v j).toNat
    have hregs : ((r.1.settledTile t).writeMem (taskAddr t (off j)) 4 (v j).toNat).regs = r.1.regs :=
      (Blk.writeMem_regs ..).trans (r.1.settleMem_regs _)
    refine ⟨h.accesses.trans (hset.trans hwrite), ⟨n, by omega, (Blk.reg_congr hregs _ _).trans hreg, hdeny⟩, fun hr => ?_⟩
    obtain ⟨hsame, hwords, -⟩ := h.stored hr
    exact ⟨hregs.trans hsame, (hwords.step j hoff).congr_mem hmem, fun _ => hmem⟩
  | some d =>
    rw [Blk.tileWrite_of_refused (n := 4) _ hg, Bool.or_true]
    have href := r.1.accesses_refuse (r.1.unitMaster (taskEng t)) d (denyData .write (taskAddr t (off j)))
    refine ⟨h.accesses.trans href, ⟨n + 1, by omega, ?_, by simp⟩, fun hr => by simp at hr⟩
    rw [Blk.reg_refuse, hreg, BitVec.ofNat_add, BitVec.add_assoc]
    rfl

end scatter

/-- What ST makes of the block, and whether a write was refused. -/
def Blk.storeLanes (b : Blk) (t off : Nat) (wide : Bool) (m : BitVec 4) (x : TaskSt) (vs : Nat) : Blk × Bool :=
  if m = 15 then b.tileWrite t off 16 (x.quad vs)
  else (List.range 4).foldl (fun acc j =>
    if m.getLsbD j then
      ((acc.1.tileWrite t (if wide then off + 4 * j else off) 4 (x.lane vs j).toNat).1,
        acc.2 || (acc.1.tileWrite t (if wide then off + 4 * j else off) 4 (x.lane vs j).toNat).2)
    else acc) (b, false)

/-- The word at PC of task `t` names four lanes (bit W of format M, R113). -/
def Blk.wideAt (b : Blk) (t : Nat) : Bool := (b.fetch t).testBit 16

/-- The lanes that take part in the load or store at PC of task `t`. -/
def Blk.memLanes (b : Blk) (t : Nat) : BitVec 4 := memMask (maskOf b t) (b.wideAt t) (b.fetch t / 2 ^ 17 % 4)

/-- The first byte in the tile of the load or store at PC of task `t`. -/
def Blk.memOff (b : Blk) (t : Nat) : Nat := 4 * (b.fetch t % 2 ^ 16)

/-- What the ST at PC of task `t` makes of the block, and whether a write was refused. -/
def Blk.storeResult (b : Blk) (t : Nat) : Blk × Bool :=
  b.storeLanes t (b.memOff t) (b.wideAt t) (b.memLanes t) (b.task t) (vdOf (b.fetch t))

theorem match_pair {α β γ : Type} (f : α → β → γ) (p : α × β) : (match p with | (x, y) => f x y) = f p.1 p.2 := rfl

theorem Blk.opSt_eq {b : Blk} {e t : Nat} (h : b.issues e 0x31 = some t) :
    b.opSt e = ((b.storeResult t).1.setTask t (((b.storeResult t).1.task t).setDeny (b.storeResult t).2)).retired t e 1 := by
  refine (Blk.issueB_eq 1 _ h).trans (congrArg (Blk.retired · t e 1) ?_)
  refine (match_pair (fun (c : Blk) (d : Bool) => c.setTask t ((c.task t).setDeny d)) _).trans
    (congrArg (fun r : Blk × Bool => r.1.setTask t ((r.1.task t).setDeny r.2)) ?_)
  have hres : b.storeLanes t (4 * bitsOf (b.fetch t) 0 16) ((b.fetch t).testBit 16)
      (memMask ((b.task t).pred (pnOf (b.fetch t))) ((b.fetch t).testBit 16) (bitsOf (b.fetch t) 17 2)) (b.task t)
      (vdOf (b.fetch t)) = b.storeResult t := by
    rw [bitsOf_zero, ← bitsOf_two, ← maskOf, ← Blk.wideAt, ← Blk.memOff, ← Blk.memLanes, Blk.storeResult]
  refine Eq.trans ?_ hres
  unfold Blk.storeLanes
  refine if_congr Iff.rfl rfl (congrArg (List.foldl · (b, false) (List.range 4)) (funext fun acc => funext fun j => ?_))
  refine if_congr Iff.rfl ?_ rfl
  split
  next c d heq => rw [heq]

theorem two_pow_ne_fifteen {l : Nat} (hl : l < 4) : BitVec.ofNat 4 (2 ^ l) ≠ 15 := by
  interval_cases l <;> decide

/-- Of the lanes one after another only one does something. -/
theorem foldl_lane {α : Type} (f : α → Nat → α) (x : α) {l : Nat} (hl : l < 4) :
    (List.range 4).foldl (fun acc j => if (BitVec.ofNat 4 (2 ^ l)).getLsbD j then f acc j else acc) x = f x l := by
  interval_cases l <;> rfl

/-- A store of a single word or of all four is one write. -/
theorem Blk.storeLanes_whole (b : Blk) (t off : Nat) (wide : Bool) (x : TaskSt) (vs : Nat) :
    b.storeLanes t off wide 15 x vs = b.tileWrite t off 16 (x.quad vs) := if_pos rfl

theorem Blk.storeLanes_single (b : Blk) (t off : Nat) (x : TaskSt) (vs : Nat) {l : Nat} (hl : l < 4) :
    b.storeLanes t off false (BitVec.ofNat 4 (2 ^ l)) x vs = b.tileWrite t off 4 (x.lane vs l).toNat := by
  rw [Blk.storeLanes, if_neg (two_pow_ne_fifteen hl), foldl_lane (fun (acc : Blk × Bool) j =>
    ((acc.1.tileWrite t (if false then off + 4 * j else off) 4 (x.lane vs j).toNat).1,
      acc.2 || (acc.1.tileWrite t (if false then off + 4 * j else off) 4 (x.lane vs j).toNat).2)) (b, false) hl]
  simp

theorem Blk.storeLanes_none (b : Blk) (t off : Nat) (wide : Bool) (x : TaskSt) (vs : Nat) :
    b.storeLanes t off wide 0 x vs = (b, false) := rfl

/-- A wide store of some lanes writes each on its own. -/
theorem Blk.scatters_storeLanes {a : Blk} {t off : Nat} (ht : t < 4096) (hoff : off + 12 < tileBytes) {m : BitVec 4} (hm : m ≠ 15)
    (x : TaskSt) (vs : Nat) : a.Scatters t (fun j => off + 4 * j) m.getLsbD (x.lane vs) 4 (a.storeLanes t off true m x vs) := by
  suffices h : ∀ n, n ≤ 4 → a.Scatters t (fun j => off + 4 * j) (fun j => m.getLsbD j && decide (j < n)) (x.lane vs) n
      ((List.range n).foldl (fun acc j =>
        if m.getLsbD j then
          ((acc.1.tileWrite t (off + 4 * j) 4 (x.lane vs j).toNat).1,
            acc.2 || (acc.1.tileWrite t (off + 4 * j) 4 (x.lane vs j).toNat).2)
        else acc) (a, false)) by
    have hset : m.getLsbD = fun j => m.getLsbD j && decide (j < 4) := by
      funext j
      by_cases hj : j < 4
      · simp [hj]
      · simp [hj, BitVec.getLsbD_of_ge m j (by omega)]
    have hall := h 4 le_rfl
    rw [← hset] at hall
    rw [Blk.storeLanes, if_neg hm]
    exact hall
  intro n hn
  induction n with
  | zero => simpa using Blk.Scatters.refl
  | succ n ih =>
    have ih := ih (by omega)
    rw [List.range_succ, List.foldl_append, List.foldl_cons, List.foldl_nil]
    split
    next hm =>
      have hset : (fun j => m.getLsbD j && decide (j < n + 1)) = fun j => m.getLsbD j && decide (j < n) || j == n := by
        funext j
        by_cases hj : j = n
        · simp [hj, hm]
        · have hlt : (j < n + 1) ↔ j < n := by omega
          simp [hj, hlt]
      rw [hset]
      refine ih.step (j := n) ht (by omega) fun k hk => ?_
      simp only [Bool.and_eq_true, decide_eq_true_eq] at hk
      omega
    next hm =>
      have hset : (fun j => m.getLsbD j && decide (j < n + 1)) = fun j => m.getLsbD j && decide (j < n) := by
        funext j
        by_cases hj : j = n
        · simp [hj, hm]
        · have hlt : (j < n + 1) ↔ j < n := by omega
          simp [hlt]
      rw [hset]
      exact ih.mono (by omega)

/-! ## The three instructions -/

theorem Blk.refused_fld (b : Blk) : b.fld F.ACC_REFUSED_REFUSED 0 = (b.reg .ACC_REFUSED 0).toNat := by
  have h := (b.reg .ACC_REFUSED 0).isLt
  simp only [Blk.fld, Fld.get, pow_zero, Nat.div_one]
  exact Nat.mod_eq_of_lt h

theorem Blk.refused_fld_of_reg {a b : Blk} (h : b.reg .ACC_REFUSED 0 = a.reg .ACC_REFUSED 0 + 1) :
    b.fld F.ACC_REFUSED_REFUSED 0 = (a.fld F.ACC_REFUSED_REFUSED 0 + 1) % 2 ^ 32 := by
  rw [b.refused_fld, a.refused_fld, h, BitVec.toNat_add]
  rfl

theorem Blk.reg_retired_name (b : Blk) (t e n : Nat) {r : RegName} (i : Nat) (h : r ≠ .ENG_ISSUE) :
    (b.retired t e n).reg r i = b.reg r i := b.reg_retired_of_ne t e n fun c => h (Prod.mk.inj c).1

/-- An instruction that only moves PC on. -/
theorem issued_retired (a : Blk) (t e n : Nat) : Issued e t n a (a.retired t e n) :=
  Blk.issuedOn_retired t e n rfl rfl rfl fun _ _ => rfl

theorem loads_none (x : TaskSt) : x.Loads 0 (fun _ => false) (fun _ => 0) x := .refl _ _ _ fun _ _ => rfl

/-- LD of no lane. -/
theorem onlyLanes_retired (a : Blk) (t e n : Nat) : PcMoves t a (a.retired t e n) ∧ OnlyLanes t a (a.retired t e n) :=
  ⟨(loads_none _).pcMoves, (loads_none _).onlyLanes⟩

theorem Blk.reg_setTask (b : Blk) (t : Nat) (x : TaskSt) (r : RegName) (i : Nat) : (b.setTask t x).reg r i = b.reg r i := rfl

/-- LD whose access the gate admits: `f` is the block once the tile has performed what waits. -/
theorem ldTile_admitted {a f c : Blk} {t e vd : Nat} {m : BitVec 4} {wide : Bool} {u : Nat} {v : Nat → Word} (hf : a.settledTile t = f)
    (hv : ∀ j, j < 4 → v j = loadedLane wide (some u) j) (hc : c = f.setTask t ((a.task t).loaded vd m wide (some u))) :
    PcMoves t a (c.retired t e 1) ∧ OnlyLanes t a (c.retired t e 1) ∧
      LanesTake t vd m v a (c.retired t e 1) ∧
      ((c.retired t e 1).task t).flags = (a.task t).flags ∧ IssuedOn f e t 1 a (c.retired t e 1) := by
  obtain ⟨hregs, hotp, hle⟩ := a.settleMem_frame (taskAddr t 0)
  have hacc := a.accesses_settledTile t
  rw [hf] at hacc
  have hload := (a.task t).loads_loaded vd m wide (some u)
  have hflags := (a.task t).flags_loaded vd m wide (some u)
  generalize (a.task t).loaded vd m wide (some u) = y at hc hload hflags
  have hct : c.task t = y := by rw [hc, Blk.task_setTask_self]
  rw [← hct] at hload hflags
  refine ⟨hload.pcMoves, hload.onlyLanes, hload.lanesTake (fun _ _ => rfl) fun j hj _ => hv j hj, ?_, ?_⟩
  · rw [Blk.task_retired_self, hflags, if_neg (by simp)]
  · obtain ⟨hr, hm, ho, -⟩ := f.setTask_frame t y
    rw [← hc] at hr hm ho
    rw [← Blk.settledTile, hf] at hregs
    refine Blk.issuedOn_retired t e 1 (hr.trans hregs) hm ho fun u hu => ?_
    rw [hc, Blk.task_setTask_of_ne _ _ hu, hacc.task]

/-- LD whose access the gate refuses: `r` is the block once the refusal is counted. -/
theorem ldTile_refused {a r c : Blk} {t e vd : Nat} {m : BitVec 4} {wide : Bool}
    (hr : r.reg .ACC_REFUSED 0 = a.reg .ACC_REFUSED 0 + 1) (hc : c = r.setTask t ((a.task t).loaded vd m wide none)) :
    PcMoves t a (c.retired t e 1) ∧ OnlyLanes t a (c.retired t e 1) ∧ LanesTake t vd m (fun _ => 0) a (c.retired t e 1) ∧
      FlagsTake t 2 True a (c.retired t e 1) ∧
      (c.retired t e 1).fld F.ACC_REFUSED_REFUSED 0 = (a.fld F.ACC_REFUSED_REFUSED 0 + 1) % 2 ^ 32 := by
  have hload := (a.task t).loads_loaded vd m wide none
  have hflags := (a.task t).flags_loaded vd m wide none
  generalize (a.task t).loaded vd m wide none = y at hc hload hflags
  have hct : c.task t = y := by rw [hc, Blk.task_setTask_self]
  rw [← hct] at hload hflags
  refine ⟨hload.pcMoves, hload.onlyLanes, hload.lanesTake (fun _ _ => rfl) fun j _ _ => rfl, ?_, ?_⟩
  · exact Blk.flagsTake_retired e 1 ⟨fun _ => by rw [hflags, if_pos rfl], fun h => absurd trivial h⟩
  · refine Blk.refused_fld_of_reg ?_
    rw [Blk.reg_retired_name _ _ _ _ _ (by decide), hc, Blk.reg_setTask, hr]

theorem TaskSt.setDeny_frame (x : TaskSt) (d : Bool) : (x.setDeny d).v = x.v ∧
    (x.setDeny d).flags = if d = true then x.flags ||| 2 else x.flags := by cases d <;> exact ⟨rfl, rfl⟩

/-- A store that leaves the block `r`: FLAGS.DENY where a write was refused, and nothing else of the task but PC. -/
theorem stTile_task {a r c : Blk} {t e : Nat} {deny : Bool} (h : a.Accesses r) (hc : c = r.setTask t ((r.task t).setDeny deny)) :
    PcMoves t a (c.retired t e 1) ∧ OnlyLanes t a (c.retired t e 1) ∧ ((c.retired t e 1).task t).v = (a.task t).v ∧
      FlagsTake t 2 (deny = true) a (c.retired t e 1) := by
  have hct : c.task t = (a.task t).setDeny deny := by rw [hc, Blk.task_setTask_self, h.task]
  obtain ⟨hv, hflags⟩ := (a.task t).setDeny_frame deny
  have hload := (loads_none (a.task t)).setDeny deny
  rw [← hct] at hv hflags hload
  refine ⟨hload.pcMoves, hload.onlyLanes, by rw [Blk.task_retired_self, hv], Blk.flagsTake_retired e 1 ?_⟩
  rw [hflags]
  exact ⟨fun hd => if_pos hd, fun hd => if_neg hd⟩

theorem Blk.memOff_lt (b : Blk) (t : Nat) : b.memOff t < tileBytes := four_mul_lt_tileBytes _

/-- The word of lane `j` of the load or store at PC of task `t`, the lanes lying side by side where it is wide. -/
def Blk.laneOff (b : Blk) (t j : Nat) : Nat := b.memOff t + if b.wideAt t then 4 * j else 0

/-- Bits of an access of the load or store at PC of task `t` that is one access. -/
def Blk.memBits (b : Blk) (t : Nat) : Nat := if b.wideAt t then 128 else 32

theorem Blk.laneOff_zero (b : Blk) (t : Nat) : b.laneOff t 0 = b.memOff t := by
  unfold Blk.laneOff
  split <;> rfl

theorem Blk.memBits_eq (b : Blk) (t : Nat) : b.memBits t = 8 * (if b.wideAt t then 16 else 4) := by
  unfold Blk.memBits
  split <;> rfl

theorem Blk.opLd_eq {b : Blk} {e t : Nat} (h : b.issues e 0x30 = some t) :
    b.opLd e = (if b.memLanes t = 0 then b
      else b.loadInto t (b.memOff t) (if b.wideAt t then 16 else 4) (vdOf (b.fetch t)) (b.memLanes t) (b.wideAt t)).retired t e 1 := by
  rw [Blk.memOff, ← bitsOf_zero]
  exact Blk.issueB_eq 1 _ h

/-- LD, as O28 states of it. -/
theorem ldTile_completes {s : State} {e : Fin 512} {t : Nat} (ht : t < 4096) (h : s.blk.issues e 0x30 = some t) :
    let a := s.blk
    Completes (.ldTile e) s fun b =>
      PcMoves t a b ∧ OnlyLanes t a b ∧
      (a.memLanes t = 0 → b.task t = { a.task t with pc := (a.task t).pc + 4 } ∧ Issued e t 1 a b) ∧
      (a.memLanes t ≠ 0 → a.tileReadGate t (a.laneOff t 0) (a.memBits t) = none →
        LanesTake t (vdOf (a.fetch t)) (a.memLanes t) (fun j => (a.settledTile t).word (taskAddr t (a.laneOff t j))) a b ∧
          (b.task t).flags = (a.task t).flags ∧ IssuedOn (a.settledTile t) e t 1 a b) ∧
      (∀ d, a.memLanes t ≠ 0 → a.tileReadGate t (a.laneOff t 0) (a.memBits t) = some d →
        LanesTake t (vdOf (a.fetch t)) (a.memLanes t) (fun _ => 0) a b ∧ FlagsTake t 2 True a b ∧
          b.fld F.ACC_REFUSED_REFUSED 0 = (a.fld F.ACC_REFUSED_REFUSED 0 + 1) % 2 ^ 32) := by
  intro a
  refine .of_run (f := fun b => b.opLd e) rfl (Blk.opLd_eq h) ?_
  rw [a.laneOff_zero, a.memBits_eq]
  by_cases hm : a.memLanes t = 0
  · rw [if_pos hm]
    obtain ⟨hpc, hlanes⟩ := onlyLanes_retired a t e 1
    exact ⟨hpc, hlanes, fun _ => ⟨Blk.task_retired_self .., issued_retired ..⟩, fun h => absurd hm h, fun _ h => absurd hm h⟩
  · rw [if_neg hm]
    cases hg : a.tileReadGate t (a.memOff t) (8 * if a.wideAt t then 16 else 4) with
    | none =>
      obtain ⟨hpc, hlanes, htake, hflags, hissued⟩ := ldTile_admitted (e := e) rfl
        (fun j hj => ((a.settledTile t).loadedLane_readMem t (a.memOff t) (a.wideAt t) hj).symm)
        (Blk.loadInto_of_admitted (vdOf (a.fetch t)) (a.memLanes t) (a.wideAt t) ht (a.memOff_lt t) hg)
      exact ⟨hpc, hlanes, fun h => absurd h hm, fun _ _ => ⟨htake, hflags, hissued⟩, fun _ _ h => (nomatch h)⟩
    | some d =>
      obtain ⟨hpc, hlanes, htake, hflags, hcount⟩ := ldTile_refused (e := e) (Blk.reg_refuse ..)
        (Blk.loadInto_of_refused (vdOf (a.fetch t)) (a.memLanes t) (a.wideAt t) hg)
      exact ⟨hpc, hlanes, fun h => absurd h hm, fun _ h => (nomatch h), fun _ _ _ => ⟨htake, hflags, hcount⟩⟩

/-- A word that is legal as a wide ST names four words of the tile. -/
theorem wide_lt_of_legalWord {w pc coefN outN : Nat} (hop : opOf w = 0x31) (h : legalWord w pc coefN outN = true)
    (hwide : w.testBit 16 = true) : 4 * (w % 2 ^ 16) + 12 < tileBytes := by
  have hw : bitsOf w 0 16 % 4 = 0 := by
    simp [legalWord, hop, isV, hwide] at h
    exact h.2
  rw [bitsOf_zero] at hw
  have hlt := Nat.mod_lt w (show 0 < 2 ^ 16 by decide)
  unfold tileBytes
  omega

theorem Blk.issues_legal {b : Blk} {e op t : Nat} (h : b.issues e op = some t) : b.legalAt t = true ∧ opOf (b.fetch t) = op := by
  unfold Blk.issues at h
  split at h
  · cases h
  · split at h
    next u _ hc =>
      cases h
      simp only [Bool.and_eq_true, beq_iff_eq] at hc
      exact hc.1
    next => cases h

/-- A single write of the tile of a task, as a store of the lanes that `on` names. -/
theorem Blk.scatters_tileWrite {a : Blk} {t off n v : Nat} {laneAt : Nat → Nat} {on : Nat → Bool} {val : Nat → Word} (ht : t < 4096)
    (hoff : off < tileBytes)
    (hstored : StoredWords t laneAt on val (a.settledTile t) ((a.settledTile t).writeMem (taskAddr t off) n v)) :
    a.Scatters t laneAt on val 4 (a.tileWrite t off n v) ∧
      (a.tileWriteGate t off (8 * n) = none → (a.tileWrite t off n v).2 = false) ∧
      ∀ d, a.tileWriteGate t off (8 * n) = some d → (a.tileWrite t off n v).2 = true ∧
        (a.tileWrite t off n v).1.reg .ACC_REFUSED 0 = a.reg .ACC_REFUSED 0 + 1 := by
  cases hg : a.tileWriteGate t off (8 * n) with
  | none =>
    rw [Blk.tileWrite_of_admitted ht hoff v hg]
    change a.Scatters t laneAt on val 4 ((a.settledTile t).writeMem (taskAddr t off) n v, false) ∧ _
    have hregs : ((a.settledTile t).writeMem (taskAddr t off) n v).regs = a.regs :=
      (Blk.writeMem_regs ..).trans (a.settleMem_regs _)
    have hmem := a.settledTile_mem_writeMem ht (taskAddr t off) n v
    refine ⟨⟨(a.accesses_settledTile t).trans (Blk.accesses_writeMem ..), ⟨0, by omega, ?_, by simp⟩,
      fun _ => ⟨hregs, hstored.congr_mem hmem, fun _ => hmem⟩⟩, fun _ => rfl, fun _ h => (nomatch h)⟩
    exact (Blk.reg_congr hregs _ _).trans (BitVec.add_zero _).symm
  | some d =>
    rw [Blk.tileWrite_of_refused v hg]
    have hreg := a.reg_refuse (a.unitMaster (taskEng t)) d (denyData .write (taskAddr t off))
    have hacc := a.accesses_refuse (a.unitMaster (taskEng t)) d (denyData .write (taskAddr t off))
    exact ⟨⟨hacc, ⟨1, by omega, hreg, by simp⟩, fun h => (nomatch h)⟩, fun h => (nomatch h), fun _ _ => ⟨rfl, hreg⟩⟩

/-- The lanes of a wide store of all four lie side by side. -/
theorem storedWords_quad (f : Blk) (t off : Nat) (x : TaskSt) (vs : Nat) :
    StoredWords t (fun j => off + 4 * j) (15 : BitVec 4).getLsbD (x.lane vs) f (f.writeMem (taskAddr t off) 16 (x.quad vs)) := by
  have haddr : ∀ j, taskAddr t (off + 4 * j) = taskAddr t off + 4 * j := fun j => (Nat.add_assoc ..).symm
  refine ⟨fun j hj => ?_, fun y hy => Blk.byte_writeMem_of_out _ _ _ _ _ ?_⟩
  · have hlt : j < 4 := by
      by_contra hge
      rw [BitVec.getLsbD_of_ge _ j (by omega)] at hj
      cases hj
    rw [haddr, f.word_writeMem_quad _ x vs hlt]
  · have h0 := hy 0 rfl
    have h1 := hy 1 rfl
    have h2 := hy 2 rfl
    have h3 := hy 3 rfl
    rw [haddr] at h0 h1 h2 h3
    omega

/-- A store of a single lane is at the word itself. -/
theorem storedWords_single (f : Blk) (t off : Nat) (x : TaskSt) (vs : Nat) {l : Nat} (hl : l < 4) :
    StoredWords t (fun _ => off) (BitVec.ofNat 4 (2 ^ l)).getLsbD (x.lane vs) f
      (f.writeMem (taskAddr t off) 4 (x.lane vs l).toNat) := by
  have hon : ∀ j, (BitVec.ofNat 4 (2 ^ l)).getLsbD j = true → j = l := by
    intro j hj
    rw [BitVec.getLsbD_ofNat, Nat.testBit_two_pow] at hj
    simp only [Bool.and_eq_true, decide_eq_true_eq] at hj
    exact hj.2.symm
  have hself : (BitVec.ofNat 4 (2 ^ l)).getLsbD l = true := by
    rw [BitVec.getLsbD_ofNat, Nat.testBit_two_pow]
    simp [hl]
  refine ⟨fun j hj => ?_, fun y hy => Blk.byte_writeMem_of_out _ _ _ _ _ (hy l hself)⟩
  rw [hon j hj]
  exact Blk.word_writeMem ..

/-- The lanes of a store: all four or some of a wide one, or one. -/
theorem memMask_cases (p : BitVec 4) (wide : Bool) (l : Nat) : (wide = true ∧ memMask p wide l = p) ∨
    (wide = false ∧ (memMask p wide l = 0 ∨ memMask p wide l = BitVec.ofNat 4 (2 ^ l))) := by
  cases wide
  · refine .inr ⟨rfl, ?_⟩
    cases hl : p.getLsbD l
    · exact .inl (by simp [memMask, hl])
    · exact .inr (by simp [memMask, hl])
  · exact .inl ⟨rfl, rfl⟩

/-- Whether the gate admits the ST at PC of task `t` where it is one access. -/
def Blk.storeGate (b : Blk) (t : Nat) : Option Nat := b.tileWriteGate t (b.laneOff t 0) (b.memBits t)

/-- What the writes of a store leave, and, where they are one, when it is refused. -/
theorem Blk.scatters_store {a : Blk} {t e : Nat} (ht : t < 4096) (h : a.issues e 0x31 = some t) :
    a.Scatters t (a.laneOff t) (a.memLanes t).getLsbD ((a.task t).lane (vdOf (a.fetch t))) 4 (a.storeResult t) ∧
      (a.memLanes t ≠ 0 → a.memLanes t = 15 ∨ a.wideAt t = false →
        (a.storeGate t = none → (a.storeResult t).2 = false) ∧
        ∀ d, a.storeGate t = some d → (a.storeResult t).2 = true ∧
          (a.storeResult t).1.reg .ACC_REFUSED 0 = a.reg .ACC_REFUSED 0 + 1) := by
  obtain ⟨hlegal, hop⟩ := Blk.issues_legal h
  have hword : legalWord (a.fetch t) (a.task t).pc (a.desc t).coefN (a.desc t).outN = true := by
    rw [Blk.legalAt, Bool.and_eq_true] at hlegal
    exact hlegal.2
  have hoff := a.memOff_lt t
  have hl : a.fetch t / 2 ^ 17 % 4 < 4 := Nat.mod_lt _ (by decide)
  have hgate : a.storeGate t = a.tileWriteGate t (a.memOff t) (8 * if a.wideAt t then 16 else 4) := by
    rw [Blk.storeGate, a.laneOff_zero, a.memBits_eq]
  rw [hgate, Blk.storeResult]
  rcases memMask_cases (maskOf a t) (a.wideAt t) (a.fetch t / 2 ^ 17 % 4) with ⟨hwide, -⟩ | ⟨hwide, hm⟩
  · have hlane : a.laneOff t = fun j => a.memOff t + 4 * j := by
      funext j
      rw [Blk.laneOff, if_pos hwide]
    rw [hlane, hwide]
    by_cases hm : a.memLanes t = 15
    · obtain ⟨hsc, hone⟩ := Blk.scatters_tileWrite (n := 16) ht hoff
        (storedWords_quad _ t (a.memOff t) (a.task t) (vdOf (a.fetch t)))
      rw [hm, Blk.storeLanes_whole]
      exact ⟨hsc, fun _ _ => hone⟩
    · exact ⟨Blk.scatters_storeLanes ht (wide_lt_of_legalWord hop hword hwide) hm _ _,
        fun _ h => absurd h (not_or.mpr ⟨hm, by decide⟩)⟩
  · have hlane : a.laneOff t = fun _ => a.memOff t := by
      funext j
      rw [Blk.laneOff, if_neg (by simp [hwide]), Nat.add_zero]
    rw [hlane, hwide]
    rcases hm with hm | hm
    · have hm : a.memLanes t = 0 := hm
      rw [hm, Blk.storeLanes_none]
      refine ⟨⟨.refl a, ⟨0, by omega, (BitVec.add_zero _).symm, by simp⟩, fun _ => ⟨rfl, ⟨fun _ h => ?_, fun _ _ => rfl⟩, ?_⟩⟩,
        fun h => absurd rfl h⟩
      · simp at h
      · simp
    · have hm : a.memLanes t = BitVec.ofNat 4 (2 ^ (a.fetch t / 2 ^ 17 % 4)) := hm
      obtain ⟨hsc, hone⟩ := Blk.scatters_tileWrite (n := 4) ht hoff
        (storedWords_single _ t (a.memOff t) (a.task t) (vdOf (a.fetch t)) hl)
      rw [hm, Blk.storeLanes_single _ _ _ _ _ hl]
      exact ⟨hsc, fun _ _ => hone⟩

theorem exists_getLsbD_of_ne_zero {m : BitVec 4} (h : m ≠ 0) : ∃ j, m.getLsbD j = true := by
  by_contra hno
  push Not at hno
  exact h (BitVec.eq_of_getLsbD_eq fun j _ => by simpa using hno j)

/-- What a store leaves in the tile of task `t`, as O28 states of it. -/
def StoreDone (e t : Nat) (a b : Blk) : Prop :=
  (∀ j, j < 4 → (a.memLanes t).getLsbD j = true →
    b.word (taskAddr t (a.laneOff t j)) = (a.task t).lane (vdOf (a.fetch t)) j) ∧
  (∀ x, (∀ j, j < 4 → (a.memLanes t).getLsbD j = true →
      x < taskAddr t (a.laneOff t j) ∨ taskAddr t (a.laneOff t j) + 4 ≤ x) → b.byte x = (a.settledTile t).byte x) ∧
  RegsKeptBut (fun r i => r = .ENG_ISSUE ∧ i = e) a b

theorem Blk.Scatters.storeDone {a : Blk} {t e : Nat} {r : Blk × Bool} {c : Blk}
    (h : a.Scatters t (a.laneOff t) (a.memLanes t).getLsbD ((a.task t).lane (vdOf (a.fetch t))) 4 r)
    (hregs : c.regs = r.1.regs) (hmem : c.mem = r.1.mem) (hm : a.memLanes t ≠ 0) (hr : r.2 = false) :
    StoreDone e t a (c.retired t e 1) := by
  obtain ⟨hsame, hwords, hsettled⟩ := h.stored hr
  have hb : (c.retired t e 1).mem = (r.1.settledTile t).mem :=
    (c.mem_retired t e 1).trans (hmem.trans (hsettled (exists_getLsbD_of_ne_zero hm)).symm)
  obtain ⟨hword, hbyte⟩ := hwords.congr_mem hb
  refine ⟨fun j _ hj => hword j hj, fun x hx => hbyte x fun j hj => hx j ?_ hj, fun q i hq => ?_⟩
  · by_contra hge
    rw [BitVec.getLsbD_of_ge _ j (by omega)] at hj
    cases hj
  · exact (c.reg_retired_of_ne t e 1 fun he => hq (Prod.mk.inj he)).trans (Blk.reg_congr (hregs.trans hsame) q i)

/-- ST, as O28 states of it. -/
theorem stTile_completes {s : State} {e : Fin 512} {t : Nat} (ht : t < 4096) (h : s.blk.issues e 0x31 = some t) :
    let a := s.blk
    Completes (.stTile e) s fun b =>
      PcMoves t a b ∧ OnlyLanes t a b ∧ (b.task t).v = (a.task t).v ∧
      FlagsTake t 2 (b.reg .ACC_REFUSED 0 ≠ a.reg .ACC_REFUSED 0) a b ∧
      (a.memLanes t ≠ 0 → a.memLanes t = 15 ∨ a.wideAt t = false →
        (a.storeGate t = none → StoreDone e t a b ∧ (b.task t).flags = (a.task t).flags) ∧
        (∀ d, a.storeGate t = some d →
          b.fld F.ACC_REFUSED_REFUSED 0 = (a.fld F.ACC_REFUSED_REFUSED 0 + 1) % 2 ^ 32 ∧ FlagsTake t 2 True a b)) ∧
      (a.memLanes t ≠ 0 → b.reg .ACC_REFUSED 0 = a.reg .ACC_REFUSED 0 → StoreDone e t a b) ∧
      (a.memLanes t = 0 → Issued e t 1 a b ∧ OnlyPc t a b) := by
  intro a
  refine .of_run (f := fun b => b.opSt e) rfl (Blk.opSt_eq h) ?_
  obtain ⟨hsc, hone⟩ := Blk.scatters_store ht h
  have hnone : a.memLanes t = 0 → a.storeResult t = (a, false) := fun hm => by
    rw [Blk.storeResult, hm, Blk.storeLanes_none]
  change a.Scatters t (a.laneOff t) (a.memLanes t).getLsbD ((a.task t).lane (vdOf (a.fetch t))) 4 (a.storeResult t) at hsc
  generalize a.storeResult t = r at hsc hone hnone
  generalize hc : r.1.setTask t ((r.1.task t).setDeny r.2) = c
  obtain ⟨hpc, hlanes, hv, hflags⟩ := stTile_task (e := e) hsc.accesses hc.symm
  have hframe := r.1.setTask_frame t ((r.1.task t).setDeny r.2)
  rw [hc] at hframe
  obtain ⟨hregs, hmem, -, -⟩ := hframe
  have hreg : (c.retired t e 1).reg .ACC_REFUSED 0 = r.1.reg .ACC_REFUSED 0 :=
    (c.reg_retired_name t e 1 0 (by decide)).trans (Blk.reg_congr hregs _ _)
  have hdeny := hsc.denied_iff le_rfl
  rw [← hreg] at hdeny
  refine ⟨hpc, hlanes, hv, by rwa [propext hdeny] at hflags, fun hm hsingle => ⟨fun hg => ?_, fun d hg => ?_⟩, fun hm hsame => ?_, fun hm => ?_⟩
  · have hr := (hone hm hsingle).1 hg
    exact ⟨hsc.storeDone hregs hmem hm hr, hflags.2 (by simp [hr])⟩
  · obtain ⟨hr, hcount⟩ := (hone hm hsingle).2 d hg
    exact ⟨Blk.refused_fld_of_reg (hreg.trans hcount), fun _ => hflags.1 hr, fun h => absurd trivial h⟩
  · exact hsc.storeDone hregs hmem hm (Bool.eq_false_iff.mpr fun hr => hdeny.mp hr hsame)
  · have hr := hnone hm
    have hca : c.task t = a.task t := by
      rw [← hc, Blk.task_setTask_self, hr]
      rfl
    rw [hr] at hregs hmem hc
    refine ⟨Blk.issuedOn_retired t e 1 hregs hmem (hc ▸ rfl) fun u hu => ?_, ?_⟩
    · rw [← hc, Blk.task_setTask_of_ne _ _ hu]
    · rw [OnlyPc, Blk.task_retired_self, hca]

/-- The index that lane `j` of VA gives LDX at PC of task `t`. -/
def Blk.gatherOff (b : Blk) (t j : Nat) : Nat := 4 * (((b.task t).lane (vaOf (b.fetch t)) j).toNat % 65536)

theorem Blk.gatherOff_lt (b : Blk) (t j : Nat) : b.gatherOff t j < tileBytes := four_mul_lt_tileBytes _

/-- The low 16 bits of a lane, as a number and as a signed one. -/
theorem Blk.gatherOff_eq (b : Blk) (t j : Nat) : b.gatherOff t j = 4 * ((laneA b t j % 65536).toNat) := by
  rw [Blk.gatherOff, laneA]
  generalize (b.task t).lane (vaOf (b.fetch t)) j = x
  have hx := BitVec.toInt_eq_toNat_bmod x
  have hmod : x.toInt % 65536 = (x.toNat : Int) % 65536 := by
    rw [hx, Int.bmod_def]
    split <;> omega
  rw [hmod]
  omega

/-- The block once the LDX at PC of task `t` has loaded its lanes. -/
def Blk.gathered (b : Blk) (t : Nat) : Blk := (List.range 4).foldl (fun c j => if (maskOf b t).getLsbD j then
  c.loadInto t (b.gatherOff t j) 4 (vdOf (b.fetch t)) (BitVec.ofNat 4 (2 ^ j)) false else c) b

theorem Blk.opLdx_eq {b : Blk} {e t : Nat} (h : b.issues e 0x32 = some t) : b.opLdx e = (b.gathered t).retired t e 1 := by
  refine (Blk.issueB_eq 1 _ h).trans (congrArg (Blk.retired · t e 1) ?_)
  unfold Blk.gathered
  refine congrArg (List.foldl · b (List.range 4)) (funext fun c => funext fun j => ?_)
  refine if_congr Iff.rfl ?_ rfl
  unfold Blk.loadInto Blk.gatherOff
  generalize c.tileRead t _ 4 = r
  cases r
  rfl

theorem Blk.gathered_of_none {b : Blk} {t : Nat} (h : ∀ j, ¬ (j < 4 ∧ (maskOf b t).getLsbD j = true)) : b.gathered t = b := by
  have hm : maskOf b t = 0 := by
    by_contra hm
    obtain ⟨j, hj⟩ := exists_getLsbD_of_ne_zero hm
    refine h j ⟨?_, hj⟩
    by_contra hge
    rw [BitVec.getLsbD_of_ge _ j (by omega)] at hj
    cases hj
  rw [Blk.gathered, hm]
  rfl

/-- LDX, as O28 states of it. -/
theorem ldx_completes {s : State} {e : Fin 512} {t : Nat} (ht : t < 4096) (h : s.blk.issues e 0x32 = some t) :
    let a := s.blk
    let on := fun (j : Nat) => j < 4 ∧ (maskOf a t).getLsbD j = true
    let no := fun (j : Nat) => a.tileReadGate t (a.gatherOff t j) 32 ≠ none
    Completes (.ldx e) s fun b =>
      PcMoves t a b ∧ OnlyLanes t a b ∧ FlagsTake t 2 (∃ j, on j ∧ no j) a b ∧
      (∃ v, LanesTake t (vdOf (a.fetch t)) (maskOf a t) v a b ∧ (∀ j, on j → no j → v j = 0) ∧
        ((∀ j, on j → ¬ no j) → ∀ j, on j → v j = (a.settledTile t).word (taskAddr t (a.gatherOff t j)))) ∧
      ((∃ j, on j) → (∀ j, on j → ¬ no j) → IssuedOn (a.settledTile t) e t 1 a b) ∧
      ((∀ j, ¬ on j) → Issued e t 1 a b) := by
  intro a on no
  refine .of_run (f := fun b => b.opLdx e) rfl (Blk.opLdx_eq h) ?_
  have hgather : a.Gathers t (vdOf (a.fetch t)) (a.gatherOff t) _ (a.gathered t) :=
    .foldl ht (a.gatherOff_lt t) (maskOf a t)
  have hnone : (∀ j, ¬ on j) → a.gathered t = a := Blk.gathered_of_none
  change PcMoves t a ((a.gathered t).retired t e 1) ∧ _
  generalize a.gathered t = c at hgather hnone
  obtain ⟨-, htasks, ⟨v, hload, hzero, hword⟩, hdenied, hadmitted⟩ := hgather
  have hon : ∀ j, ((maskOf a t).getLsbD j && decide (j < 4)) = true ↔ on j := fun j => by simp [on, and_comm]
  simp only [hon] at hzero hword hdenied hadmitted
  have hall : (∀ j, on j → ¬ no j) → ∀ j, on j → a.tileReadGate t (a.gatherOff t j) 32 = none :=
    fun hno j hj => not_not.mp (hno j hj)
  refine ⟨hload.pcMoves, hload.onlyLanes, Blk.flagsTake_retired e 1 ⟨hdenied, fun hno => ?_⟩,
    ⟨v, hload.lanesTake (fun j hj => by simp [hj]) fun _ _ _ => rfl, hzero, fun hno => hword (hall hno)⟩,
    fun hex hno => ?_, fun hempty => ?_⟩
  · exact (hadmitted (hall fun j hj hn => hno ⟨j, hj, hn⟩)).1
  · obtain ⟨-, hregs, hotp, -, hmem⟩ := hadmitted (hall hno)
    exact Blk.issuedOn_retired t e 1 hregs (hmem hex) (hotp.trans (a.accesses_settledTile t).2.1.symm) htasks
  · rw [hnone hempty]
    exact issued_retired a t e 1

/-- Memory is as it was where nothing waits at the tile. -/
theorem Blk.memKept_settledTile (a : Blk) {t : Nat} (ht : t < 4096)
    (h : ∀ x ∈ a.bus.waiting, targetNo x.addr ≠ targetNo (taskAddr t 0)) : MemKept a (a.settledTile t) := by
  have hreg := regionOf_taskAddr_ne_regs ht (off := 0) (by decide)
  have htarget := targetNo_taskAddr ht (off := 0) (by decide)
  have hperf := a.performs_of_no_waiting fun x hx => htarget ▸ h x hx
  obtain ⟨-, hotp, -⟩ := a.accesses_settledTile t
  exact ⟨fun x => Blk.byte_congr (Blk.settleMem_mem_of_performs_nil hreg htarget hperf) x, fun x => by rw [hotp]⟩

/-- Settles O28, by the statements on LD, ST and LDX: each access of the task finds the tile as what waits there leaves it. -/
theorem tileMemoryInstructions : Obligations.TileMemoryInstructions := by
  unfold Obligations.TileMemoryInstructions
  intro s e t he
  have ht := lt_of_taskEng he
  refine ⟨s.blk.memKept_settledTile ht, ldTile_completes ht, stTile_completes ht, fun h => ?_⟩
  have hldx := ldx_completes ht h
  simp only [Blk.gatherOff_eq] at hldx
  exact hldx

end Sys2Proof.Machine
end

section
/-!
PROOFS. What starts, staging and recovery rest on: fields that lie apart, the boot record, and what raising a record depends on (O59).
-/

namespace Sys2Proof.Machine

open Sys2Proof.Claims

/-! ## Fields that lie apart -/

/-- The number of a register word with a field at `v`. -/
theorem Fld.toNat_put (f : Fld) (w : Word) (v : Nat) (h : f.lo + f.w ≤ 32) : (f.put w v).toNat =
    2 ^ f.lo * (2 ^ f.w * (w.toNat / 2 ^ (f.lo + f.w)) + v % 2 ^ f.w) + w.toNat % 2 ^ f.lo := by
  have hw := w.isLt
  have hdm := Nat.div_add_mod w.toNat (2 ^ (f.lo + f.w))
  have hlo : w.toNat % 2 ^ f.lo < 2 ^ f.lo := Nat.mod_lt _ (Nat.two_pow_pos _)
  have hv : v % 2 ^ f.w < 2 ^ f.w := Nat.mod_lt _ (Nat.two_pow_pos _)
  have hpow : 2 ^ (f.lo + f.w) = 2 ^ f.lo * 2 ^ f.w := pow_add ..
  have htop : w.toNat / 2 ^ (f.lo + f.w) < 2 ^ (32 - (f.lo + f.w)) := by
    rw [Nat.div_lt_iff_lt_mul (Nat.two_pow_pos _), ← pow_add]
    rwa [Nat.sub_add_cancel h]
  have hall : 2 ^ (32 - (f.lo + f.w)) * (2 ^ f.lo * 2 ^ f.w) = 2 ^ 32 := by
    rw [← hpow, ← pow_add, Nat.sub_add_cancel h]
  have hle : (w.toNat / 2 ^ (f.lo + f.w) + 1) * (2 ^ f.lo * 2 ^ f.w) ≤ 2 ^ 32 :=
    hall ▸ Nat.mul_le_mul_right _ htop
  rw [Fld.put, BitVec.toNat_ofNat, hpow]
  rw [hpow] at hle
  generalize w.toNat / (2 ^ f.lo * 2 ^ f.w) = z at *
  generalize w.toNat % 2 ^ f.lo = x at *
  generalize v % 2 ^ f.w = y at *
  generalize 2 ^ f.lo = L at *
  generalize 2 ^ f.w = M at *
  have hy : (y + 1) * L ≤ M * L := Nat.mul_le_mul_right _ hv
  rw [Nat.mod_eq_of_lt]
  · ring
  · nlinarith only [hle, hy, hlo]

/-- A field that lies apart from the one written reads as before. -/
theorem Fld.get_put_of_apart (f g : Fld) (w : Word) (v : Nat) (hf : f.lo + f.w ≤ 32)
    (h : g.lo + g.w ≤ f.lo ∨ f.lo + f.w ≤ g.lo) : g.get (f.put w v) = g.get w := by
  have hlo : w.toNat % 2 ^ f.lo < 2 ^ f.lo := Nat.mod_lt _ (Nat.two_pow_pos _)
  have hv : v % 2 ^ f.w < 2 ^ f.w := Nat.mod_lt _ (Nat.two_pow_pos _)
  rw [Fld.get, Fld.get, f.toNat_put w v hf]
  refine Nat.eq_of_testBit_eq fun k => ?_
  rw [Nat.testBit_mod_two_pow, Nat.testBit_mod_two_pow, Nat.testBit_div_two_pow, Nat.testBit_div_two_pow,
    Nat.testBit_two_pow_mul_add _ hlo, Nat.testBit_two_pow_mul_add _ hv, Nat.testBit_mod_two_pow, Nat.testBit_div_two_pow]
  by_cases hk : k < g.w
  · rcases h with h | h
    · rw [if_pos (by omega), decide_eq_true (show k + g.lo < f.lo by omega), Bool.true_and]
    · rw [if_neg (by omega), if_neg (by omega)]
      congr 2
      omega
  · rw [decide_eq_false hk, Bool.false_and, Bool.false_and]

/-- A field write changes no field of another register, nor one that lies apart. -/
theorem Blk.fld_setFld_of_apart (b : Blk) {f g : Fld} (i v : Nat) (hf : f.lo + f.w ≤ 32)
    (h : g.reg ≠ f.reg ∨ g.lo + g.w ≤ f.lo ∨ f.lo + f.w ≤ g.lo) : (b.setFld f i v).fld g i = b.fld g i := by
  by_cases hr : g.reg = f.reg
  · rw [Blk.fld, Blk.fld, hr, Blk.setFld, Blk.reg_setReg_self]
    exact Fld.get_put_of_apart f g _ v hf (h.resolve_left (not_not_intro hr))
  · exact b.fld_setFld_name i i v hr

theorem Blk.flag_setFld_of_apart (b : Blk) {f g : Fld} (i v : Nat) (hf : f.lo + f.w ≤ 32)
    (h : g.reg ≠ f.reg ∨ g.lo + g.w ≤ f.lo ∨ f.lo + f.w ≤ g.lo) : (b.setFld f i v).flag g i = b.flag g i :=
  congrArg (· != 0) (b.fld_setFld_of_apart i v hf h)

/-- A one-bit field reads as written. -/
theorem Blk.flag_setFlag_self (b : Blk) (f : Fld) (i : Nat) (x : Bool) (h : f.lo + f.w ≤ 32) (hw : 0 < f.w) :
    (b.setFlag f i x).flag f i = x := by
  have hone : 1 < 2 ^ f.w := Nat.one_lt_two_pow (by omega)
  rw [Blk.flag, Blk.setFlag, b.fld_setFld_self f i _ h]
  cases x
  · simp
  · simp [Nat.mod_eq_of_lt hone]

theorem Blk.flag_congr {a b : Blk} {f : Fld} {i : Nat} (h : b.reg f.reg i = a.reg f.reg i) : b.flag f i = a.flag f i := by
  rw [Blk.flag, Blk.flag, Blk.fld, Blk.fld, h]

/-! ## The boot record (R396) -/

/-- The record in force after a write is the one written, its counter one up. -/
theorem BootSt.bootRec_writeRec (x : BootSt) (r : BootRec) :
    (x.writeRec r).bootRec = { r with counter := x.bootRec.counter + 1 } := by
  rcases h0 : x.copy0 with _ | p <;> rcases h1 : x.copy1 with _ | q
  · simp [BootSt.writeRec, BootSt.bootRec, h0, h1]
  · simp [BootSt.writeRec, BootSt.bootRec, h0, h1]
  · simp [BootSt.writeRec, BootSt.bootRec, h0, h1]
  · by_cases h : p.counter < q.counter
    · have h' : ¬ q.counter + 1 < q.counter := by omega
      simp [BootSt.writeRec, BootSt.bootRec, h0, h1, h, h']
    · simp [BootSt.writeRec, BootSt.bootRec, h0, h1, h]

/-- Writing the boot record changes its copies and nothing else of the store. -/
theorem BootSt.writeRec_frame (x : BootSt) (r : BootRec) :
    x.writeRec r = { x with copy0 := (x.writeRec r).copy0, copy1 := (x.writeRec r).copy1 } := by
  unfold BootSt.writeRec
  extract_lets old r first
  split <;> rfl

theorem BootRec.set_setSet_self (r : BootRec) (k : Bool) (x : SetRec) : (r.setSet k x).set k = x := by
  cases k <;> rfl

theorem BootRec.set_setSet_other (r : BootRec) (k : Bool) (x : SetRec) : (r.setSet k x).set (!k) = r.set (!k) := by
  cases k <;> rfl

theorem BootRec.fails_setSet (r : BootRec) (k : Bool) (x : SetRec) : (r.setSet k x).fails = r.fails := by
  cases k <;> rfl

theorem BootRec.set_withCounter (r : BootRec) (k : Bool) (n : Nat) : ({ r with counter := n } : BootRec).set k = r.set k := by
  cases k <;> rfl

theorem BootRec.set_withFails (r : BootRec) (k : Bool) (n : Nat) : ({ r with fails := n } : BootRec).set k = r.set k := by
  cases k <;> rfl

theorem BootSt.stored?_putSet_self (x : BootSt) (k : Bool) (s : StoreSet) : (x.putSet k s).stored? k = s := by
  cases k <;> rfl

theorem BootSt.stored?_putSet_other (x : BootSt) (k : Bool) (s : StoreSet) :
    (x.putSet k s).stored? (!k) = x.stored? (!k) := by
  cases k <;> rfl

/-- The boot record in force depends on its two copies alone. -/
theorem BootSt.bootRec_congr {x y : BootSt} (h0 : x.copy0 = y.copy0) (h1 : x.copy1 = y.copy1) : x.bootRec = y.bootRec := by
  rw [BootSt.bootRec, BootSt.bootRec, h0, h1]

theorem BootSt.bootRec_stored (x : BootSt) : x.stored.bootRec = x.bootRec := rfl

theorem BootSt.set_writeRec (x : BootSt) (r : BootRec) (k : Bool) : (x.writeRec r).bootRec.set k = r.set k := by
  rw [x.bootRec_writeRec r, BootRec.set_withCounter]

theorem BootSt.fails_writeRec (x : BootSt) (r : BootRec) : (x.writeRec r).bootRec.fails = r.fails := by
  rw [x.bootRec_writeRec r]

theorem BootSt.stored?_writeRec (x : BootSt) (r : BootRec) (k : Bool) : (x.writeRec r).stored? k = x.stored? k := by
  rw [x.writeRec_frame r]
  cases k <;> rfl

/-! ## What raising a record depends on -/

/-- The BOOT registers that staging writes, none of which a raised record depends on. -/
def bootShown : List RegName := [.BOOT_UPD_STATUS, .BOOT_UPD_SEQ, .BOOT_STATUS, .BOOT_FB_SEQ]

/-- From `a` to `b` of the registers only those that staging writes change. -/
def Blk.ShowsStaging (a b : Blk) : Prop := RegsKeptBut (fun r i => i = 0 ∧ r ∈ bootShown) a b

theorem Blk.ShowsStaging.fld {a b : Blk} (h : a.ShowsStaging b) (f : Fld) (i : Nat) (hf : f.reg ∉ bootShown) :
    b.fld f i = a.fld f i := congrArg f.get (h _ _ fun e => hf e.2)

theorem Blk.ShowsStaging.flag {a b : Blk} (h : a.ShowsStaging b) (f : Fld) (i : Nat) (hf : f.reg ∉ bootShown) :
    b.flag f i = a.flag f i := congrArg (· != 0) (h.fld f i hf)

theorem Blk.ShowsStaging.reg {a b : Blk} (h : a.ShowsStaging b) (r : RegName) (i : Nat) (hr : r ∉ bootShown) :
    b.reg r i = a.reg r i := h _ _ fun e => hr e.2

theorem Blk.ShowsStaging.tb1 {a b : Blk} (h : a.ShowsStaging b) : b.tb1 = a.tb1 := by
  rw [Blk.tb1, Blk.tb1, Blk.tb, Blk.tb, Blk.reg64, Blk.reg64, h.reg .TB_VALUE_LO 1 (by decide), h.reg .TB_VALUE_HI 1 (by decide)]

theorem Blk.ShowsStaging.mkRec {a b : Blk} (h : a.ShowsStaging b) (source cls detail data : Nat) :
    b.mkRec source cls detail data = a.mkRec source cls detail data := by
  rw [Blk.mkRec, Blk.mkRec, h.tb1, Blk.node, Blk.node, h.fld F.SYS_NODE_NODE 0 (by decide)]

theorem Blk.ShowsStaging.runSeq {a b : Blk} (h : a.ShowsStaging b) : b.runSeq = a.runSeq := by
  rw [Blk.runSeq, Blk.runSeq, h.reg .BOOT_SEQ 0 (by decide)]

/-- What a record's entry in the log and its class bit make of `b`, where `b` differs from `a` as staging shows. -/
theorem Blk.ShowsStaging.latched {a b : Blk} (h : a.ShowsStaging b) (hj : b.jrn = a.jrn) (r : FaultRec) :
    (b.latched r).jrn = (a.latched r).jrn ∧ ((b.latched r).reg .SYS_FAULT_LATCH 0 = (a.latched r).reg .SYS_FAULT_LATCH 0) ∧
      (a.latched r).ShowsStaging (b.latched r) := by
  have hlatch : (b.latched r).reg .SYS_FAULT_LATCH 0 = (a.latched r).reg .SYS_FAULT_LATCH 0 := by
    rw [Blk.latched, Blk.latched, Blk.reg_setReg_self, Blk.reg_setReg_self, h.reg .SYS_FAULT_LATCH 0 (by decide)]
  refine ⟨?_, hlatch, fun q i hq => ?_⟩
  · rw [Blk.latched_jrn, Blk.latched_jrn, Blk.logFault, Blk.logFault, hj, h.runSeq, h.tb1]
  · by_cases e : (q, i) = (.SYS_FAULT_LATCH, 0)
    · obtain ⟨rfl, rfl⟩ := Prod.mk.inj e
      exact hlatch
    · rw [b.reg_latched_of_ne r e, a.reg_latched_of_ne r e, h q i hq]

/-- What waiting for VC3 makes of `b`, where `b` differs from `a` as staging shows. -/
theorem Blk.ShowsStaging.holdRec {a b : Blk} (h : a.ShowsStaging b) (hm : b.mod = a.mod) (hf : b.fab = a.fab) (r : FaultRec) :
    (b.holdRec r).mod = (a.holdRec r).mod ∧ (a.holdRec r).ShowsStaging (b.holdRec r) := by
  have hk : b.condKnown = a.condKnown := by rw [Blk.condKnown, Blk.condKnown, hf, h.flag F.FAB_STATUS_COND_V 0 (by decide)]
  by_cases hfull : !a.condKnown ∧ 64 ≤ a.mod.vc3.length
  · have hfull' : !b.condKnown ∧ 64 ≤ b.mod.vc3.length := by rwa [hk, hm]
    rw [b.holdRec_full r hfull', a.holdRec_full r hfull, Blk.addSat_mod, Blk.addSat_mod]
    refine ⟨hm, fun q i hq => ?_⟩
    by_cases e : (q, i) = (.FAB_FLTQ, 0)
    · obtain ⟨rfl, rfl⟩ := Prod.mk.inj e
      rw [Blk.addSat, Blk.addSat, Blk.setFld, Blk.setFld, Blk.reg_setReg_self, Blk.reg_setReg_self,
        h.fld F.FAB_FLTQ_DROPPED 0 (by decide), h.reg F.FAB_FLTQ_DROPPED.reg 0 (by decide)]
    · exact (b.reg_setReg_of_ne _ e).trans ((h q i hq).trans (a.reg_setReg_of_ne _ e).symm)
  · have hfull' : ¬ (!b.condKnown ∧ 64 ≤ b.mod.vc3.length) := by rwa [hk, hm]
    rw [b.holdRec_waits r hfull', a.holdRec_waits r hfull, hm]
    exact ⟨rfl, h⟩

/-- The same record is raised on `b`, which differs from `a` as staging shows. -/
theorem Blk.ShowsStaging.raise {a b : Blk} (h : a.ShowsStaging b) (hm : b.mod = a.mod) (hj : b.jrn = a.jrn) (hf : b.fab = a.fab)
    (source cls detail data : Nat) :
    (b.raise source cls detail data).mod = (a.raise source cls detail data).mod ∧
      (b.raise source cls detail data).jrn = (a.raise source cls detail data).jrn ∧
      (a.raise source cls detail data).ShowsStaging (b.raise source cls detail data) := by
  have hfrozen : b.frozen = a.frozen := h.flag F.DBG_STATUS_FROZEN 0 (by decide)
  have hdone : b.configDone = a.configDone := h.flag F.SYS_STATUS_CONFIG_DONE 0 (by decide)
  cases hfa : a.frozen with
  | true =>
    rw [Blk.raise_of_frozen _ _ _ _ hfa, Blk.raise_of_frozen _ _ _ _ (hfrozen.trans hfa)]
    exact ⟨hm, hj, h⟩
  | false =>
    cases hda : a.configDone with
    | false =>
      rw [Blk.raise_of_not_configDone _ _ _ _ hfa hda, Blk.raise_of_not_configDone _ _ _ _ (hfrozen.trans hfa) (hdone.trans hda),
        h.mkRec, hm]
      exact ⟨rfl, hj, h⟩
    | true =>
      rw [Blk.raise_of_configDone _ _ _ _ hfa hda, Blk.raise_of_configDone _ _ _ _ (hfrozen.trans hfa) (hdone.trans hda),
        h.mkRec, Blk.raiseRec_eq, Blk.raiseRec_eq, Blk.holdRec_jrn, Blk.holdRec_jrn]
      obtain ⟨hjrn, -, hshows⟩ := h.latched hj (a.mkRec source cls detail data)
      obtain ⟨hmod, hregs⟩ := hshows.holdRec (by rw [b.latched_mod, a.latched_mod, hm])
        (by rw [b.latched_fab, a.latched_fab, hf]) (a.mkRec source cls detail data)
      exact ⟨hmod, hjrn, hregs⟩

/-- One record is raised from `a` on where it is raised on a block that differs from `a` as staging shows. -/
theorem Blk.ShowsStaging.oneRecord {a b : Blk} (h : a.ShowsStaging b) (hm : b.mod = a.mod) (hj : b.jrn = a.jrn)
    (hf : b.fab = a.fab) (source cls detail data : Nat) :
    OneRecord source cls detail data a (b.raise source cls detail data) := by
  obtain ⟨hmod, hjrn, hregs⟩ := h.raise hm hj hf source cls detail data
  exact ⟨hmod, hjrn, hregs.reg .SYS_FAULT_LATCH 0 (by decide), hregs.reg .FAB_FLTQ 0 (by decide)⟩

/-- Raising a record changes registers, the journal and the records that wait, and nothing else. -/
theorem Blk.raise_frame (b : Blk) (source cls detail data : Nat) : b.raise source cls detail data =
    { b with
      regs := (b.raise source cls detail data).regs, mod := (b.raise source cls detail data).mod,
      jrn := (b.raise source cls detail data).jrn } := by
  cases hf : b.frozen with
  | true => rw [Blk.raise_of_frozen _ _ _ _ hf]
  | false =>
    cases hc : b.configDone with
    | false => rw [Blk.raise_of_not_configDone _ _ _ _ hf hc]
    | true =>
      rw [Blk.raise_of_configDone _ _ _ _ hf hc]
      have h := b.raiseRec_frame (b.mkRec source cls detail data)
      generalize b.raiseRec (b.mkRec source cls detail data) = c at h ⊢
      rw [h]

/-- The module keeps its phase, its pins and its supply when a record is raised. -/
theorem Blk.raise_mod (b : Blk) (source cls detail data : Nat) : (b.raise source cls detail data).mod =
    { b.mod with
      vc3 := (b.raise source cls detail data).mod.vc3, heldRecs := (b.raise source cls detail data).mod.heldRecs } := by
  cases hf : b.frozen with
  | true => rw [Blk.raise_of_frozen _ _ _ _ hf]
  | false =>
    cases hc : b.configDone with
    | false => rw [Blk.raise_of_not_configDone _ _ _ _ hf hc]
    | true =>
      rw [Blk.raise_of_configDone _ _ _ _ hf hc]
      have h := b.raiseRec_frame (b.mkRec source cls detail data)
      generalize b.raiseRec (b.mkRec source cls detail data) = c at h ⊢
      rw [h]

theorem Blk.raise_phase (b : Blk) (source cls detail data : Nat) : (b.raise source cls detail data).mod.phase = b.mod.phase := by
  rw [b.raise_mod source cls detail data]

/-- Raising a record writes the class bits and the count of dropped records alone. -/
theorem Blk.regs_raise (b : Blk) (source cls detail data : Nat) : RegsKeptBut RecReg b (b.raise source cls detail data) := by
  cases hf : b.frozen with
  | true =>
    rw [Blk.raise_of_frozen _ _ _ _ hf]
    exact fun _ _ _ => rfl
  | false =>
    cases hc : b.configDone with
    | false =>
      rw [Blk.raise_of_not_configDone _ _ _ _ hf hc]
      exact fun _ _ _ => rfl
    | true =>
      rw [Blk.raise_of_configDone _ _ _ _ hf hc, Blk.raiseRec_eq]
      intro q i hq
      have hlatch : (q, i) ≠ (.SYS_FAULT_LATCH, 0) := fun e => hq ⟨(Prod.mk.inj e).2, .inl (Prod.mk.inj e).1⟩
      have hfltq : (q, i) ≠ (.FAB_FLTQ, 0) := fun e => hq ⟨(Prod.mk.inj e).2, .inr (Prod.mk.inj e).1⟩
      refine Eq.trans ?_ (b.reg_latched_of_ne (b.mkRec source cls detail data) hlatch)
      unfold Blk.holdRec
      split
      · exact Blk.reg_setReg_of_ne _ _ hfltq
      · rfl

end Sys2Proof.Machine
end

section
/-!
PROOFS. Staging: what each of its steps shows, writes and records (O59).
-/

namespace Sys2Proof.Machine

open Sys2Proof.Claims

/-! ## What staging changes -/

theorem Blk.reg_setFld_self (b : Blk) (f : Fld) (i v : Nat) : (b.setFld f i v).reg f.reg i = f.put (b.reg f.reg i) v :=
  b.reg_setReg_self _ _ _

/-- From `a` to `b` only registers of `l` change, and the config store with its record and what staging holds. -/
def Blk.Restaged (l : List RegName) (a b : Blk) : Prop :=
  RegsKeptBut (fun r i => i = 0 ∧ r ∈ l) a b ∧ { a with regs := b.regs, boot := b.boot } = b

namespace Blk.Restaged

variable {l : List RegName} {a b c : Blk}

theorem refl (l : List RegName) (b : Blk) : b.Restaged l b := ⟨fun _ _ _ => rfl, rfl⟩

theorem trans (h : a.Restaged l b) (h' : b.Restaged l c) : a.Restaged l c := by
  refine ⟨h.1.trans h'.1, ?_⟩
  rw [← h'.2, ← h.2]

theorem mono {l' : List RegName} (h : a.Restaged l b) (hl : ∀ r ∈ l, r ∈ l') : a.Restaged l' b :=
  ⟨fun r i hr => h.1 r i fun e => hr ⟨e.1, hl r e.2⟩, h.2⟩

theorem withRegs (h : { a with regs := b.regs, boot := b.boot } = b) (m : SMap RegKey Word) :
    { a with regs := m, boot := b.boot } = { b with regs := m } := by rw [← h]

theorem setReg (h : a.Restaged l b) {r : RegName} (v : Word) (hr : r ∈ l) : a.Restaged l (b.setReg r 0 v) := by
  refine ⟨fun q i hq => (b.reg_setReg_of_ne v fun e => ?_).trans (h.1 q i hq), ?_⟩
  · obtain ⟨rfl, rfl⟩ := Prod.mk.inj e
    exact hq ⟨rfl, hr⟩
  · rw [Blk.setReg_boot, b.setReg_eq]
    exact withRegs h.2 _

theorem setFld (h : a.Restaged l b) {f : Fld} (v : Nat) (hr : f.reg ∈ l) : a.Restaged l (b.setFld f 0 v) := h.setReg _ hr

theorem boot (h : a.Restaged l b) (x : BootSt) : a.Restaged l { b with boot := x } := by
  refine ⟨fun q i hq => h.1 q i hq, ?_⟩
  have hb := h.2
  generalize b.regs = m at hb ⊢
  rw [← hb]

theorem mod (h : a.Restaged l b) : b.mod = a.mod := by rw [← h.2]

theorem jrn (h : a.Restaged l b) : b.jrn = a.jrn := by rw [← h.2]

theorem fab (h : a.Restaged l b) : b.fab = a.fab := by rw [← h.2]

theorem reg (h : a.Restaged l b) {r : RegName} (i : Nat) (hr : r ∉ l) : b.reg r i = a.reg r i := h.1 r i fun e => hr e.2

theorem showsStaging (h : a.Restaged bootShown b) : a.ShowsStaging b := h.1

end Blk.Restaged

/-! ## The other set (R406) -/

/-- What the registers show of the set that does not run, once the boot record is `r`. -/
theorem Blk.showOther_spec (b : Blk) : let o := b.boot.bootRec.set (!b.runSet)
    b.Restaged [.BOOT_STATUS, .BOOT_FB_SEQ] b.showOther ∧ b.showOther.boot = b.boot ∧
      b.showOther.reg .BOOT_STATUS 0 = F.BOOT_STATUS_FALLBACK_V.put (b.reg .BOOT_STATUS 0) (o.state == 3).toNat ∧
      b.showOther.reg .BOOT_FB_SEQ 0 = BitVec.ofNat 32 o.seq := by
  unfold Blk.showOther
  generalize b.boot.bootRec.set (!b.runSet) = o
  refine ⟨((Blk.Restaged.refl _ b).setFld _ (by decide)).setReg _ (by decide), ?_, ?_, Blk.reg_setReg_self ..⟩
  · rw [Blk.setReg_boot, Blk.setFlag_boot]
  · rw [Blk.reg_setReg_name _ _ _ _ (by decide), Blk.setFlag]
    exact b.reg_setFld_self F.BOOT_STATUS_FALLBACK_V 0 _

/-- A change of FALLBACK_V does not change which set runs. -/
theorem Blk.runSet_of_put {a b : Blk} {v : Nat} (h : b.reg .BOOT_STATUS 0 = F.BOOT_STATUS_FALLBACK_V.put (a.reg .BOOT_STATUS 0) v) :
    b.runSet = a.runSet := by
  rw [Blk.runSet, Blk.runSet, Blk.flag, Blk.flag, Blk.fld, Blk.fld, h]
  exact congrArg (· != 0) (Fld.get_put_of_apart _ F.BOOT_STATUS_SET _ _ (by decide) (by decide))

/-- From `a` to `b` the registers show the set that does not run as it stands in the boot record of `b`. -/
def Blk.OtherAsStored (a b : Blk) : Prop := let o := b.boot.bootRec.set (!a.runSet)
  b.reg .BOOT_STATUS 0 = F.BOOT_STATUS_FALLBACK_V.put (a.reg .BOOT_STATUS 0) (o.state == 3).toNat ∧
    b.reg .BOOT_FB_SEQ 0 = BitVec.ofNat 32 o.seq

theorem Blk.OtherAsStored.runSet {a b : Blk} (h : a.OtherAsStored b) : b.runSet = a.runSet := Blk.runSet_of_put h.1

theorem Blk.OtherAsStored.shown {a b : Blk} {seq : Nat} (h : a.OtherAsStored b)
    (hstate : (b.boot.bootRec.set (!a.runSet)).state ≠ 3) (hseq : (b.boot.bootRec.set (!a.runSet)).seq = seq) :
    OtherShown seq a b := by
  obtain ⟨hstatus, hfb⟩ := h
  rw [beq_false_of_ne hstate] at hstatus
  rw [hseq] at hfb
  exact ⟨hstatus.trans (a.reg_setFld_self F.BOOT_STATUS_FALLBACK_V 0 0).symm, hfb⟩

theorem Blk.OtherAsStored.fallback {a b : Blk} (h : a.OtherAsStored b) :
    b.flag F.BOOT_STATUS_FALLBACK_V 0 = ((b.boot.bootRec.set (!a.runSet)).state == 3) := by
  rw [Blk.flag, Blk.fld, h.1]
  rw [Fld.get_put_self _ _ _ (by decide)]
  cases (b.boot.bootRec.set (!a.runSet)).state == 3 <;> rfl

/-- A block whose boot record becomes `r`, with the other set shown. -/
theorem Blk.showOther_writeBootRec (b : Blk) (r : BootRec) : let c := (b.writeBootRec r).showOther
    b.Restaged [.BOOT_STATUS, .BOOT_FB_SEQ] c ∧ c.boot = b.boot.writeRec r ∧ b.OtherAsStored c := by
  obtain ⟨hrest, hboot, hstatus, hfb⟩ := (b.writeBootRec r).showOther_spec
  have hpre : b.Restaged [.BOOT_STATUS, .BOOT_FB_SEQ] (b.writeBootRec r) := (Blk.Restaged.refl _ b).boot _
  have hrun : (b.writeBootRec r).runSet = b.runSet := rfl
  rw [hrun] at hstatus hfb
  refine ⟨hpre.trans hrest, hboot, ?_, ?_⟩
  · rw [hboot]
    exact hstatus
  · rw [hboot]
    exact hfb

/-- The other set is marked EMPTY. -/
theorem Blk.emptySet_spec (b : Blk) (k : Bool) : let c := b.emptySet k
    b.Restaged [.BOOT_STATUS, .BOOT_FB_SEQ, .BOOT_UPD_SEQ] c ∧ c.boot = b.boot.writeRec (b.boot.bootRec.setSet k ⟨0, 0, 0⟩) ∧
      b.OtherAsStored c ∧ c.reg .BOOT_UPD_SEQ 0 = 0 := by
  obtain ⟨hrest, hboot, hother⟩ := b.showOther_writeBootRec (b.boot.bootRec.setSet k ⟨0, 0, 0⟩)
  unfold Blk.emptySet
  generalize (b.writeBootRec (b.boot.bootRec.setSet k ⟨0, 0, 0⟩)).showOther = c at hrest hboot hother ⊢
  refine ⟨(hrest.mono (by simp)).setReg _ (by simp), ?_, ⟨?_, ?_⟩, Blk.reg_setReg_self ..⟩
  · rw [Blk.setReg_boot, hboot]
  · rw [Blk.reg_setReg_name _ _ _ _ (by decide), Blk.setReg_boot]
    exact hother.1
  · rw [Blk.reg_setReg_name _ _ _ _ (by decide), Blk.setReg_boot]
    exact hother.2

/-- A package is written to set `k`. -/
theorem Blk.stageSet_spec (b : Blk) (k : Bool) (pkg : List Byte) : let c := b.stageSet k pkg
    b.Restaged [.BOOT_STATUS, .BOOT_FB_SEQ] c ∧
      c.boot = (b.boot.putSet k (setOfPackage pkg)).writeRec (b.boot.bootRec.setSet k ⟨manifestSeq pkg, 1, 0⟩) ∧
      b.OtherAsStored c := by
  have hpre : b.Restaged [.BOOT_STATUS, .BOOT_FB_SEQ] { b with boot := b.boot.putSet k (setOfPackage pkg) } :=
    (Blk.Restaged.refl _ b).boot _
  have h := ({ b with boot := b.boot.putSet k (setOfPackage pkg) } : Blk).showOther_writeBootRec
    (b.boot.bootRec.setSet k ⟨manifestSeq pkg, 1, 0⟩)
  unfold Blk.stageSet
  dsimp only at h ⊢
  generalize ({ b with boot := b.boot.putSet k (setOfPackage pkg) }.writeBootRec
    (b.boot.bootRec.setSet k ⟨manifestSeq pkg, 1, 0⟩)).showOther = c at h ⊢
  obtain ⟨hrest, hboot, hother⟩ := h
  exact ⟨hpre.trans hrest, hboot, hother⟩

/-! ## A failure (R406, R416) -/

/-- STATE, REASON and PART of a failure. -/
def Blk.showFailure (b : Blk) (reason part : Nat) : Blk :=
  ((b.setFld F.BOOT_UPD_STATUS_STATE 0 4).setFld F.BOOT_UPD_STATUS_REASON 0 reason).setFld F.BOOT_UPD_STATUS_PART 0 part

theorem Blk.stageFail_eq (b : Blk) (k : Bool) (reason part : Nat) : b.stageFail k reason part =
    ({ b.showFailure reason part with boot := { (b.showFailure reason part).boot with staging := [] } } : Blk).raise 561 0x12 0x01
      (updData part k reason 0) := rfl

theorem Blk.showFailure_spec (b : Blk) (reason part : Nat) : let c := b.showFailure reason part
    b.Restaged [.BOOT_UPD_STATUS] c ∧ c.boot = b.boot ∧ c.updState = 4 ∧ c.fld F.BOOT_UPD_STATUS_REASON 0 = reason % 256 ∧
      c.fld F.BOOT_UPD_STATUS_PART 0 = part % 256 := by
  unfold Blk.showFailure
  refine ⟨(((Blk.Restaged.refl _ b).setFld _ (by simp)).setFld _ (by simp)).setFld _ (by simp), ?_, ?_, ?_, ?_⟩
  · rw [Blk.setFld_boot, Blk.setFld_boot, Blk.setFld_boot]
  · rw [Blk.updState, Blk.fld_setFld_of_apart _ _ _ (by decide) (by decide), Blk.fld_setFld_of_apart _ _ _ (by decide) (by decide),
      Blk.fld_setFld_self _ _ _ _ (by decide)]
    rfl
  · rw [Blk.fld_setFld_of_apart _ _ _ (by decide) (by decide), Blk.fld_setFld_self _ _ _ _ (by decide)]
    rfl
  · rw [Blk.fld_setFld_self _ _ _ _ (by decide)]
    rfl

/-- A record is raised on a block that differs from `a` in registers and in what the store and staging hold. -/
theorem Blk.frame_of_raised {a d e : Blk} (h : { a with regs := d.regs, boot := d.boot } = d)
    (he : e = { d with regs := e.regs, mod := e.mod, jrn := e.jrn }) :
    { a with regs := e.regs, mod := e.mod, jrn := e.jrn, boot := e.boot } = e := by
  have hboot : e.boot = d.boot := by rw [he]
  rw [hboot]
  refine Eq.trans ?_ he.symm
  generalize e.regs = regs
  generalize e.mod = mod
  generalize e.jrn = jrn
  rw [← h]

/-- Staging into set `k` fails on `b`, which differs from `a` in what staging shows and stores. -/
theorem Blk.stageFail_spec {l : List RegName} {a b : Blk} (h : a.Restaged l b) (hl : ∀ r ∈ l, r ∈ bootShown)
    (hu : .BOOT_UPD_STATUS ∈ l) (k : Bool) (reason part : Nat) : let c := b.stageFail k reason part
    StagingFails k reason part a c ∧ c.boot = { b.boot with staging := [] } ∧
      RegsKeptBut (fun r i => RecReg r i ∨ (i = 0 ∧ r ∈ l)) a c ∧
      { a with regs := c.regs, mod := c.mod, jrn := c.jrn, boot := c.boot } = c ∧
      ∀ r i, ¬ RecReg r i → r ≠ .BOOT_UPD_STATUS → c.reg r i = b.reg r i := by
  obtain ⟨hrest, hboot, hstate, hreason, hpart⟩ := b.showFailure_spec reason part
  rw [b.stageFail_eq k reason part]
  generalize b.showFailure reason part = c at hrest hboot hstate hreason hpart ⊢
  have hd := (h.trans (hrest.mono (by simpa using hu))).boot { c.boot with staging := [] }
  have hregs : ({ c with boot := { c.boot with staging := [] } } : Blk).regs = c.regs := rfl
  have hdboot : ({ c with boot := { c.boot with staging := [] } } : Blk).boot = { c.boot with staging := [] } := rfl
  generalize ({ c with boot := { c.boot with staging := [] } } : Blk) = d at hd hregs hdboot ⊢
  have hrec := d.regs_raise 561 0x12 0x01 (updData part k reason 0)
  have hone := Blk.ShowsStaging.oneRecord (hd.mono hl).showsStaging hd.mod hd.jrn hd.fab 561 0x12 0x01 (updData part k reason 0)
  have hframe := d.raise_frame 561 0x12 0x01 (updData part k reason 0)
  have hkept := d.raise_boot 561 0x12 0x01 (updData part k reason 0)
  generalize d.raise 561 0x12 0x01 (updData part k reason 0) = e at hrec hone hframe hkept ⊢
  have hstatus : e.reg .BOOT_UPD_STATUS 0 = c.reg .BOOT_UPD_STATUS 0 :=
    (hrec _ _ (by simp [RecReg])).trans (Blk.reg_congr hregs _ _)
  refine ⟨⟨?_, ?_, ?_, hone⟩, ?_, fun r i hr => ?_, ?_, fun r i hr hne => ?_⟩
  · rw [Blk.updState, Blk.fld, hstatus]
    exact hstate
  · rw [Blk.fld, hstatus]
    exact hreason
  · rw [Blk.fld, hstatus]
    exact hpart
  · rw [hkept, hdboot, hboot]
  · exact (hrec r i fun hc => hr (.inl hc)).trans (hd.1 r i fun hc => hr (.inr hc))
  · exact Blk.frame_of_raised hd.2 hframe
  · exact (hrec r i hr).trans ((Blk.reg_congr hregs r i).trans (hrest.reg i (by simpa using hne)))

end Sys2Proof.Machine
end

section
/-!
PROOFS. Staging: the package as it is read, and the commands that stage, abort and discard (O59).
-/

namespace Sys2Proof.Machine

open Sys2Proof.Claims

/-! ## Reading the package -/

theorem Blk.Serves.boot {a b : Blk} (h : a.Serves b) : b.boot = a.boot := by
  unfold Blk.Serves at h
  rw [h]

theorem Blk.settleMem_boot (b : Blk) (addr : Nat) : (b.settleMem addr).boot = b.boot := by
  by_cases hr : regionOf addr = some .regs
  · rw [Blk.settleMem, if_pos hr]
  · cases ht : targetNo addr with
    | none => rw [Blk.settleMem, if_neg hr, ht]
    | some t =>
      obtain ⟨e, h, -⟩ := b.settleMem_serves hr ht
      exact h.boot

/-- From `a` to `b` the config store is kept, with all that start, update and recovery hold. -/
def Blk.KeepsBoot (a b : Blk) : Prop := b.boot = a.boot

theorem Blk.KeepsBoot.trans {a b c : Blk} (h : a.KeepsBoot b) (h' : b.KeepsBoot c) : a.KeepsBoot c := Eq.trans h' h

theorem Blk.keepsBoot_setFld (b : Blk) (f : Fld) (i v : Nat) : b.KeepsBoot (b.setFld f i v) := b.setFld_boot f i v

theorem Blk.keepsBoot_writeMem (b : Blk) (a n v : Nat) : b.KeepsBoot (b.writeMem a n v) := b.writeMem_boot a n v

theorem Blk.keepsBoot_settleMem (b : Blk) (addr : Nat) : b.KeepsBoot (b.settleMem addr) := b.settleMem_boot addr

theorem Blk.keepsBoot_refuse (b : Blk) (source detail data : Nat) : b.KeepsBoot (b.refuse source detail data) := by
  have hinc : b.KeepsBoot (b.incFld F.ACC_REFUSED_REFUSED 0) := b.keepsBoot_setFld _ _ _
  unfold Blk.refuse
  generalize b.incFld F.ACC_REFUSED_REFUSED 0 = c at hinc ⊢
  dsimp only
  split
  · exact hinc
  · split
    · exact hinc.trans ((c.keepsBoot_settleMem _).trans ((Blk.keepsBoot_writeMem ..).trans (Blk.keepsBoot_setFld ..)))
    · exact hinc.trans (c.keepsBoot_setFld _ _ _)

/-- The next unit of 16 bytes that a unit reads, and the block after it. -/
def Blk.xdUnit (b : Blk) (m a : Nat) : Blk × BitVec 128 × Bool :=
  match b.gate (b.unitMaster m) .read a 128 with
  | some d => (b.refuse (b.unitMaster m) d (denyData .read a), 0, false)
  | none => (b.settleMem a, BitVec.ofNat 128 ((b.settleMem a).readAddr a 16), true)

theorem Blk.xdRead_succ (b : Blk) (m a n : Nat) : b.xdRead m a (n + 1) =
    (((b.xdUnit m a).1.xdRead m (a + 16) n).1, (b.xdUnit m a).2.1 :: ((b.xdUnit m a).1.xdRead m (a + 16) n).2.1,
      (b.xdUnit m a).2.2 && ((b.xdUnit m a).1.xdRead m (a + 16) n).2.2) := by
  cases hg : b.gate (b.unitMaster m) .read a 128 <;> simp only [Blk.xdRead, Blk.xdUnit, hg]

theorem Blk.accesses_xdUnit (b : Blk) (m a : Nat) : b.Accesses (b.xdUnit m a).1 ∧ b.KeepsBoot (b.xdUnit m a).1 := by
  unfold Blk.xdUnit
  split
  · exact ⟨b.accesses_refuse .., b.keepsBoot_refuse ..⟩
  · exact ⟨b.accesses_settleMem a, b.keepsBoot_settleMem a⟩

/-- A unit's reads write the registers of refusals alone, and leave the config store. -/
theorem Blk.accesses_xdRead (b : Blk) (m a n : Nat) : b.Accesses (b.xdRead m a n).1 ∧ b.KeepsBoot (b.xdRead m a n).1 := by
  induction n generalizing b a with
  | zero => exact ⟨.refl b, rfl⟩
  | succ n ih =>
    obtain ⟨hacc, hboot⟩ := b.accesses_xdUnit m a
    rw [b.xdRead_succ m a n]
    obtain ⟨hacc', hboot'⟩ := ih (b.xdUnit m a).1 (a + 16)
    exact ⟨hacc.trans hacc', hboot.trans hboot'⟩

/-! ## A package that lies readable -/

theorem leBytes_readMem (b : Blk) (a n : Nat) : leBytes n (b.readMem a n) = b.bytes a n := by
  induction n generalizing a with
  | zero => rfl
  | succ n ih =>
    have hbyte := (b.byte a).isLt
    rw [Blk.readMem, leBytes, Blk.bytes, BitVec.ofNat_add, BitVec.ofNat_mul]
    congr 1
    · simp
    · rw [show ((b.byte a).toNat + 256 * b.readMem (a + 1) n) / 256 = b.readMem (a + 1) n by omega, ih]

theorem Blk.bytes_add (b : Blk) (a m n : Nat) : b.bytes a (m + n) = b.bytes a m ++ b.bytes (a + m) n := by
  induction m generalizing a with
  | zero => simp [Blk.bytes]
  | succ m ih => rw [Nat.succ_add, Blk.bytes, Blk.bytes, ih, List.cons_append, Nat.add_right_comm a 1 m, Nat.add_assoc a m 1]

theorem Blk.length_bytes (b : Blk) (a n : Nat) : (b.bytes a n).length = n := by
  induction n generalizing a with
  | zero => rfl
  | succ n ih => rw [Blk.bytes, List.length_cons, ih]

theorem Blk.take_bytes (b : Blk) (a k n : Nat) (h : k ≤ n) : (b.bytes a n).take k = b.bytes a k := by
  obtain ⟨d, rfl⟩ := Nat.exists_eq_add_of_le h
  rw [b.bytes_add a k d, List.take_left' (b.length_bytes a k)]

/-- What waits stays waiting where none of it is for the target. -/
theorem Blk.splitWaiting_of_no_waiting (b : Blk) {t : Nat} (l : List Access) (h : ∀ a ∈ l, targetNo a.addr ≠ some t)
    (held : List Nat) : b.splitWaiting t l held = ([], l) := by
  induction l generalizing held with
  | nil => rfl
  | cons a l ih =>
    have ha : (targetNo a.addr == some t) = false := beq_eq_false_iff_ne.mpr (h a List.mem_cons_self)
    simp only [Blk.splitWaiting, ha, Bool.false_and, Bool.false_eq_true, if_false,
      ih (fun x hx => h x (List.mem_cons_of_mem _ hx))]

/-- The block with the last edges of its targets at `m`. -/
def Blk.withEdges (b : Blk) (m : NMap Nat) : Blk := { b with bus := { b.bus with lastEdge := m } }

/-- An access where nothing waits moves the last edge of its target and nothing else. -/
theorem Blk.settleMem_of_no_waiting (b : Blk) {addr : Nat} (hr : regionOf addr ≠ some .regs)
    (h : ∀ a ∈ b.bus.waiting, targetNo a.addr ≠ targetNo addr) : ∃ m, b.settleMem addr = b.withEdges m := by
  cases ht : targetNo addr with
  | none =>
    rw [Blk.settleMem, if_neg hr, ht]
    exact ⟨b.bus.lastEdge, rfl⟩
  | some t =>
    rw [ht] at h
    obtain ⟨e, -, hs⟩ := b.settleMem_serves hr ht
    rw [hs (b.performs_of_no_waiting h), Blk.advanced, b.splitWaiting_of_no_waiting _ h]
    exact ⟨_, rfl⟩

theorem Blk.bytes_congr {a b : Blk} (h : b.mem = a.mem) (x n : Nat) : b.bytes x n = a.bytes x n := by
  induction n generalizing x with
  | zero => rfl
  | succ n ih => rw [Blk.bytes, Blk.bytes, ih, Blk.byte_congr h]

theorem Blk.readable_withEdges {b : Blk} {m a n : Nat} (e : NMap Nat) (h : Readable b m a n) : Readable (b.withEdges e) m a n := by
  intro o ho
  obtain ⟨hgate, hstalled, hregs, hwait⟩ := h o ho
  have hkept : RegsKeptBut RefusalReg b (b.withEdges e) := .of_regs rfl
  refine ⟨?_, ?_, hregs, hwait⟩
  · rw [Blk.gate_read_congr hkept _ _ hregs, Blk.unitMaster_congr hkept]
    exact hgate
  · exact (Blk.stalled_congr (b := b) (c := b.withEdges e) rfl _).trans hstalled

theorem Blk.readable_tail {b : Blk} {m a n : Nat} (h : Readable b m a (n + 1)) : Readable b m (a + 16) n := by
  intro o ho
  have hnext := h (o + 1) (by omega)
  rwa [show a + 16 * (o + 1) = a + 16 + 16 * o by omega] at hnext

/-- A readable unit is read as it stands. -/
theorem Blk.xdUnit_of_readable {b : Blk} {m a n : Nat} (h : Readable b m a (n + 1)) : ∃ e,
    (b.xdUnit m a).1 = b.withEdges e ∧ leBytes 16 (b.xdUnit m a).2.1.toNat = b.bytes a 16 := by
  obtain ⟨hgate, -, hregs, hwait⟩ := h 0 (Nat.succ_pos n)
  rw [Nat.mul_zero, Nat.add_zero] at hgate hregs hwait
  obtain ⟨e, he⟩ := b.settleMem_of_no_waiting hregs hwait
  refine ⟨e, ?_⟩
  rw [Blk.xdUnit, hgate, he]
  refine ⟨rfl, ?_⟩
  have hlt : (b.withEdges e).readMem a 16 < 2 ^ 128 := (b.withEdges e).readMem_lt a 16
  rw [Blk.readAddr_of_mem _ _ hregs, BitVec.toNat_ofNat, Nat.mod_eq_of_lt hlt, leBytes_readMem]
  exact Blk.bytes_congr (a := b) (b := b.withEdges e) rfl a 16

/-- Readable memory is read as it stands. -/
theorem Blk.xdRead_of_readable {b : Blk} {m a n : Nat} (h : Readable b m a n) : ∃ e,
    (b.xdRead m a n).1 = b.withEdges e ∧
      ((b.xdRead m a n).2.1.map fun v => leBytes 16 v.toNat).flatten = b.bytes a (16 * n) := by
  induction n generalizing b a with
  | zero => exact ⟨b.bus.lastEdge, rfl, rfl⟩
  | succ n ih =>
    obtain ⟨e, hblk, hbytes⟩ := Blk.xdUnit_of_readable h
    obtain ⟨e', hblk', hbytes'⟩ := ih (Blk.readable_withEdges e (Blk.readable_tail h))
    rw [b.xdRead_succ m a n, hblk]
    refine ⟨e', hblk', ?_⟩
    rw [List.map_cons, List.flatten_cons, hbytes, hbytes', Blk.bytes_congr (a := b) (b := b.withEdges e) rfl,
      show 16 * (n + 1) = 16 + 16 * n by omega, b.bytes_add]

/-- A package that lies readable does not wait, and is read as it stands. -/
theorem Blk.readPackage_of_readable {b : Blk} (h : Readable b 561 b.boot.pkgAt ((min b.boot.pkgLen (112 * 2 ^ 20) + 15) / 16)) :
    b.readsWait 561 b.boot.pkgAt ((min b.boot.pkgLen (112 * 2 ^ 20) + 15) / 16) = false ∧
      b.readPackage.2 = b.bytes b.boot.pkgAt (min b.boot.pkgLen (112 * 2 ^ 20)) ∧
      { b with bus := { b.bus with lastEdge := b.readPackage.1.bus.lastEdge } } = b.readPackage.1 := by
  obtain ⟨e, hblk, hbytes⟩ := Blk.xdRead_of_readable h
  have hread : b.readPackage = ((b.xdRead 561 b.boot.pkgAt b.packageUnits).1,
      ((b.xdRead 561 b.boot.pkgAt b.packageUnits).2.1.map fun v => leBytes 16 v.toNat).flatten.take b.boot.pkgLen) := rfl
  rw [← Blk.packageUnits] at hblk hbytes
  rw [hread, hblk, hbytes]
  refine ⟨?_, ?_, rfl⟩
  · rw [Blk.readsWait, List.any_eq_false]
    intro o ho
    rw [Blk.readWaits, (h o (List.mem_range.mp ho)).2.1, Bool.false_and]
    exact Bool.false_ne_true
  · have hunits : b.packageUnits = (min b.boot.pkgLen (112 * 2 ^ 20) + 15) / 16 := rfl
    generalize b.packageUnits = u at hunits ⊢
    generalize b.boot.pkgLen = n at hunits ⊢
    by_cases hn : n ≤ 112 * 2 ^ 20
    · rw [b.take_bytes _ _ _ (by omega), Nat.min_eq_left hn]
    · rw [Nat.min_eq_right (by omega)] at hunits ⊢
      rw [hunits, List.take_of_length_le (by rw [b.length_bytes]; omega), show 16 * ((112 * 2 ^ 20 + 15) / 16) = 112 * 2 ^ 20 by omega]

/-! ## The commands -/

/-- STATE of staging as written. -/
theorem Blk.updState_setFld (b : Blk) (v : Nat) : (b.setFld F.BOOT_UPD_STATUS_STATE 0 v).updState = v % 8 :=
  b.fld_setFld_self _ _ _ (by decide)

theorem Blk.updState_congr {a b : Blk} (h : b.reg .BOOT_UPD_STATUS 0 = a.reg .BOOT_UPD_STATUS 0) : b.updState = a.updState :=
  congrArg F.BOOT_UPD_STATUS_STATE.get h

theorem Blk.updateStage_busy {b : Blk} (ha : b.agentRuns = true) (h : b.updState = 1 ∨ b.updState = 2) :
    b.updateStage = b.setFld F.BOOT_UPD_STATUS_CMD_IGNORED 0 1 := (Blk.when_of _ ha).trans (if_pos h)

theorem Blk.updateStage_takes {b : Blk} (ha : b.agentRuns = true) (h : ¬ (b.updState = 1 ∨ b.updState = 2)) :
    b.updateStage = ({ b with boot := { b.boot with
      pkgAt := b.fld F.BOOT_UPD_HI_ADDR 0 * 2 ^ 32 + (b.reg .BOOT_UPD_LO 0).toNat / 64 * 64
      pkgLen := (b.reg .BOOT_UPD_LEN 0).toNat } } : Blk).setFld F.BOOT_UPD_STATUS_STATE 0 1 := (Blk.when_of _ ha).trans (if_neg h)

theorem Blk.stageAbort_runs {b : Blk} (ha : b.agentRuns = true) (h : b.updState = 1 ∨ b.updState = 2) :
    b.stageAbort = ({ b with boot := { b.boot with staging := [] } } : Blk).setFld F.BOOT_UPD_STATUS_STATE 0 0 :=
  Blk.when_of _ (by simpa [ha] using h)

/-- The other set, STAGED, is discarded. -/
theorem Blk.stageDiscard_staged {b : Blk} (ha : b.agentRuns = true) (h : (b.boot.bootRec.set (!b.runSet)).state = 1) :
    b.stageDiscard = let c := b.emptySet (!b.runSet)
      if c.updState = 3 then c.setFld F.BOOT_UPD_STATUS_STATE 0 0 else c := (Blk.when_of _ ha).trans (if_pos h)

theorem Blk.stageDiscard_none {b : Blk} (ha : b.agentRuns = true) (h : (b.boot.bootRec.set (!b.runSet)).state ≠ 1) :
    b.stageDiscard = b := (Blk.when_of _ ha).trans (if_neg h)

theorem Blk.stageComplete_waits {b : Blk} (nand : Option Nat) (hs : b.updState = 1)
    (h : b.readsWait 561 b.boot.pkgAt b.packageUnits = true) : b.stageComplete nand = b := by
  rw [Blk.stageComplete, hs, h]
  cases b.agentRuns <;> rfl

/-- What the end of verification does (steps 1 to 3 of R406). -/
theorem Blk.stageComplete_verifying {b : Blk} (nand : Option Nat) (ha : b.agentRuns = true) (hs : b.updState = 1)
    (h : b.readsWait 561 b.boot.pkgAt b.packageUnits = false) : b.stageComplete nand =
      match b.readPackage.1.packageCheck b.readPackage.1.boot.bootRec.topGood b.readPackage.1.boot.pkgLen b.readPackage.2 with
      | some (reason, part) => b.readPackage.1.stageFail (!b.runSet) reason part
      | none => ({ b.readPackage.1.emptySet (!b.runSet) with
          boot := { (b.readPackage.1.emptySet (!b.runSet)).boot with staging := b.readPackage.2 } } : Blk).setFld
            F.BOOT_UPD_STATUS_STATE 0 2 := by
  rw [Blk.stageComplete, Blk.when_of _ (by simp [ha, h]), hs]
  rfl

/-- What the end of writing does (steps 4 and 5 of R406). -/
theorem Blk.stageComplete_writing {b : Blk} (nand : Option Nat) (ha : b.agentRuns = true) (hs : b.updState = 2) :
    b.stageComplete nand = match nand with
      | some part => b.stageFail (!b.runSet) 7 part
      | none => (({ b.stageSet (!b.runSet) b.boot.staging with
          boot := { (b.stageSet (!b.runSet) b.boot.staging).boot with staging := [] } } : Blk).setFld
            F.BOOT_UPD_STATUS_STATE 0 3).setReg .BOOT_UPD_SEQ 0 (BitVec.ofNat 32 (manifestSeq b.boot.staging)) := by
  rw [Blk.stageComplete, Blk.when_of _ (by simp [ha, hs]), hs]
  rfl

end Sys2Proof.Machine
end

section
/-!
PROOFS. Staging: what each command leaves (O59).
-/

namespace Sys2Proof.Machine

open Sys2Proof.Claims

variable {b : Blk}

theorem Blk.updateStage_busy_spec (ha : b.agentRuns = true) (h : b.updState = 1 ∨ b.updState = 2) :
    b.updateStage.flag F.BOOT_UPD_STATUS_CMD_IGNORED 0 = true ∧ b.updateStage.updState = b.updState ∧
      b.updateStage.boot = b.boot ∧ b.Restaged [.BOOT_UPD_STATUS] b.updateStage := by
  rw [Blk.updateStage_busy ha h]
  exact ⟨b.flag_setFlag_self F.BOOT_UPD_STATUS_CMD_IGNORED 0 true (by decide) (by decide),
    b.fld_setFld_of_apart 0 1 (by decide) (by decide), b.setFld_boot _ _ _, (Blk.Restaged.refl _ b).setFld _ (by simp)⟩

theorem Blk.updateStage_takes_spec (ha : b.agentRuns = true) (h1 : b.updState ≠ 1) (h2 : b.updState ≠ 2) :
    b.updateStage.updState = 1 ∧ b.updateStage.boot = { b.boot with
      pkgAt := b.fld F.BOOT_UPD_HI_ADDR 0 * 2 ^ 32 + (b.reg .BOOT_UPD_LO 0).toNat / 64 * 64
      pkgLen := (b.reg .BOOT_UPD_LEN 0).toNat } ∧ b.Restaged [.BOOT_UPD_STATUS] b.updateStage := by
  rw [Blk.updateStage_takes ha (by simp [h1, h2])]
  exact ⟨Blk.updState_setFld _ 1, Blk.setFld_boot _ _ _ _, ((Blk.Restaged.refl _ b).boot _).setFld _ (by simp)⟩

theorem Blk.stageAbort_spec (ha : b.agentRuns = true) (h : b.updState = 1 ∨ b.updState = 2) :
    b.stageAbort.updState = 0 ∧ b.stageAbort.boot = { b.boot with staging := [] } ∧
      b.Restaged [.BOOT_UPD_STATUS] b.stageAbort := by
  rw [Blk.stageAbort_runs ha h]
  exact ⟨Blk.updState_setFld _ 0, Blk.setFld_boot _ _ _ _, ((Blk.Restaged.refl _ b).boot _).setFld _ (by simp)⟩

/-- A write of the boot record that changes one set leaves the other. -/
theorem BootSt.set_writeRec_setSet_self (x : BootSt) (k : Bool) (r : SetRec) :
    (x.writeRec (x.bootRec.setSet k r)).bootRec.set k = r := by
  rw [BootSt.set_writeRec, BootRec.set_setSet_self]

theorem BootSt.set_writeRec_setSet_other (x : BootSt) (k : Bool) (r : SetRec) :
    (x.writeRec (x.bootRec.setSet k r)).bootRec.set (!k) = x.bootRec.set (!k) := by
  rw [BootSt.set_writeRec, BootRec.set_setSet_other]

theorem Blk.OtherAsStored.congr {a b c : Blk} (h : a.OtherAsStored b) (hs : c.reg .BOOT_STATUS 0 = b.reg .BOOT_STATUS 0)
    (hf : c.reg .BOOT_FB_SEQ 0 = b.reg .BOOT_FB_SEQ 0) (hr : c.boot.bootRec = b.boot.bootRec) : a.OtherAsStored c := by
  unfold Blk.OtherAsStored at h ⊢
  rwa [hs, hf, hr]

/-- The STAGED set is discarded. -/
theorem Blk.stageDiscard_spec (ha : b.agentRuns = true) (h : (b.boot.bootRec.set (!b.runSet)).state = 1) :
    b.stageDiscard.boot.bootRec.set (!b.runSet) = ⟨0, 0, 0⟩ ∧ b.stageDiscard.reg .BOOT_UPD_SEQ 0 = 0 ∧
      OtherShown 0 b b.stageDiscard ∧ b.stageDiscard.updState = (if b.updState = 3 then 0 else b.updState) ∧
      b.stageDiscard.boot.bootRec.set b.runSet = b.boot.bootRec.set b.runSet ∧ b.Restaged bootShown b.stageDiscard := by
  obtain ⟨hrest, hboot, hother, hseq⟩ := b.emptySet_spec (!b.runSet)
  rw [Blk.stageDiscard_staged ha h]
  generalize b.emptySet (!b.runSet) = c at hrest hboot hother hseq ⊢
  have hset : c.boot.bootRec.set (!b.runSet) = ⟨0, 0, 0⟩ := by rw [hboot, BootSt.set_writeRec_setSet_self]
  have hrun : c.boot.bootRec.set b.runSet = b.boot.bootRec.set b.runSet := by
    rw [hboot]
    simpa using b.boot.set_writeRec_setSet_other (!b.runSet) ⟨0, 0, 0⟩
  have hshown : OtherShown 0 b c := hother.shown (by simp [hset]) (by simp [hset])
  have hstate : c.updState = b.updState := Blk.updState_congr (hrest.reg 0 (by decide))
  have hc : b.Restaged bootShown c := hrest.mono (by decide)
  dsimp only
  rw [hstate]
  split
  · refine ⟨hset, ?_, ⟨?_, ?_⟩, c.updState_setFld 0, hrun, hc.setFld _ (by decide)⟩
    · exact (c.reg_setFld_name _ _ _ (by decide)).trans hseq
    · exact (c.reg_setFld_name _ _ _ (by decide)).trans hshown.1
    · exact (c.reg_setFld_name _ _ _ (by decide)).trans hshown.2
  · exact ⟨hset, hseq, hshown, hstate, hrun, hc⟩

/-- The package was found sound, and the set that does not run is EMPTY. -/
theorem Blk.stageComplete_passes_spec (nand : Option Nat) (ha : b.agentRuns = true) (hs : b.updState = 1)
    (h : b.readsWait 561 b.boot.pkgAt b.packageUnits = false)
    (hfault : b.readPackage.1.packageCheck b.readPackage.1.boot.bootRec.topGood b.boot.pkgLen b.readPackage.2 = none) :
    let p := b.readPackage
    let c := b.stageComplete nand
    c.updState = 2 ∧ c.reg .BOOT_UPD_SEQ 0 = 0 ∧ OtherShown 0 p.1 c ∧ c.boot.staging = p.2 ∧
      c.boot.bootRec.set (!b.runSet) = ⟨0, 0, 0⟩ ∧ c.boot.bootRec.set b.runSet = p.1.boot.bootRec.set b.runSet ∧
      c.boot.setA = p.1.boot.setA ∧ c.boot.setB = p.1.boot.setB ∧ p.1.Restaged bootShown c := by
  have hacc := b.accesses_xdRead 561 b.boot.pkgAt b.packageUnits
  rw [show (b.xdRead 561 b.boot.pkgAt b.packageUnits).1 = b.readPackage.1 from rfl] at hacc
  obtain ⟨hregs, hkept⟩ := hacc
  have hrun : b.readPackage.1.runSet = b.runSet := congrArg (· != 0) (hregs.fld F.BOOT_STATUS_SET 0 (by decide))
  have hcomplete := Blk.stageComplete_verifying nand ha hs h
  rw [show b.readPackage.1.boot.pkgLen = b.boot.pkgLen from congrArg BootSt.pkgLen hkept, hfault] at hcomplete
  dsimp only at hcomplete ⊢
  rw [hcomplete, ← hrun]
  generalize b.readPackage = p
  obtain ⟨p, pkg⟩ := p
  dsimp only
  obtain ⟨hrest, hboot, hother, hseq⟩ := p.emptySet_spec (!p.runSet)
  generalize p.emptySet (!p.runSet) = c at hrest hboot hother hseq ⊢
  have hset : c.boot.bootRec.set (!p.runSet) = ⟨0, 0, 0⟩ := by rw [hboot, BootSt.set_writeRec_setSet_self]
  have hkeep : c.boot.bootRec.set p.runSet = p.boot.bootRec.set p.runSet := by
    rw [hboot]
    simpa using p.boot.set_writeRec_setSet_other (!p.runSet) ⟨0, 0, 0⟩
  have hshown : OtherShown 0 p c := hother.shown (by simp [hset]) (by simp [hset])
  have hsets : c.boot.setA = p.boot.setA ∧ c.boot.setB = p.boot.setB := by
    rw [hboot, BootSt.writeRec_frame]
    exact ⟨rfl, rfl⟩
  refine ⟨Blk.updState_setFld _ 2, ?_, ⟨?_, ?_⟩, rfl, hset, hkeep, hsets.1, hsets.2,
    ((hrest.mono (by decide)).boot _).setFld _ (by decide)⟩
  · exact (Blk.reg_setFld_name _ _ _ _ (by decide)).trans hseq
  · exact (Blk.reg_setFld_name _ _ _ _ (by decide)).trans hshown.1
  · exact (Blk.reg_setFld_name _ _ _ _ (by decide)).trans hshown.2

/-- The package has a fault. -/
theorem Blk.stageComplete_fails_spec (nand : Option Nat) (ha : b.agentRuns = true) (hs : b.updState = 1)
    (h : b.readsWait 561 b.boot.pkgAt b.packageUnits = false) {reason part : Nat}
    (hfault : b.readPackage.1.packageCheck b.readPackage.1.boot.bootRec.topGood b.boot.pkgLen b.readPackage.2 = some (reason, part)) :
    let p := b.readPackage
    let c := b.stageComplete nand
    StagingFails (!b.runSet) reason part p.1 c ∧ c.boot = { p.1.boot with staging := [] } ∧
      RegsKeptBut (fun r i => RecReg r i ∨ (r = .BOOT_UPD_STATUS ∧ i = 0)) p.1 c ∧
      { p.1 with regs := c.regs, mod := c.mod, jrn := c.jrn, boot := c.boot } = c := by
  have hkept := (b.accesses_xdRead 561 b.boot.pkgAt b.packageUnits).2
  rw [show (b.xdRead 561 b.boot.pkgAt b.packageUnits).1 = b.readPackage.1 from rfl] at hkept
  have hcomplete := Blk.stageComplete_verifying nand ha hs h
  rw [show b.readPackage.1.boot.pkgLen = b.boot.pkgLen from congrArg BootSt.pkgLen hkept, hfault] at hcomplete
  dsimp only at hcomplete ⊢
  rw [hcomplete]
  obtain ⟨hfails, hboot, hregs, hframe, -⟩ := Blk.stageFail_spec (Blk.Restaged.refl [.BOOT_UPD_STATUS] b.readPackage.1)
    (by simp [bootShown]) (by simp) (!b.runSet) reason part
  exact ⟨hfails, hboot, fun r i hr => hregs r i fun e => hr (e.imp_right fun e => ⟨by simpa using e.2, e.1⟩), hframe⟩

/-- The set has been written. -/
theorem Blk.stageComplete_writes_spec (ha : b.agentRuns = true) (hs : b.updState = 2) :
    let c := b.stageComplete none
    c.updState = 3 ∧ OtherShown (manifestSeq b.boot.staging) b c ∧
      c.reg .BOOT_UPD_SEQ 0 = BitVec.ofNat 32 (manifestSeq b.boot.staging) ∧
      c.boot.stored? (!b.runSet) = setOfPackage b.boot.staging ∧ c.boot.stored? b.runSet = b.boot.stored? b.runSet ∧
      c.boot.bootRec.set (!b.runSet) = ⟨manifestSeq b.boot.staging, 1, 0⟩ ∧
      c.boot.bootRec.set b.runSet = b.boot.bootRec.set b.runSet ∧ c.boot.staging = [] ∧ b.Restaged bootShown c := by
  have hcomplete := Blk.stageComplete_writing none ha hs
  dsimp only at hcomplete ⊢
  rw [hcomplete]
  obtain ⟨hrest, hboot, hother⟩ := b.stageSet_spec (!b.runSet) b.boot.staging
  generalize b.stageSet (!b.runSet) b.boot.staging = c at hrest hboot hother ⊢
  have hset : c.boot.bootRec.set (!b.runSet) = ⟨manifestSeq b.boot.staging, 1, 0⟩ := by
    rw [hboot, BootSt.set_writeRec, BootRec.set_setSet_self]
  have hkeep : c.boot.bootRec.set b.runSet = b.boot.bootRec.set b.runSet := by
    rw [hboot, BootSt.set_writeRec]
    simpa using b.boot.bootRec.set_setSet_other (!b.runSet) ⟨manifestSeq b.boot.staging, 1, 0⟩
  have hnew : c.boot.stored? (!b.runSet) = setOfPackage b.boot.staging := by
    rw [hboot, BootSt.stored?_writeRec, BootSt.stored?_putSet_self]
  have hold : c.boot.stored? b.runSet = b.boot.stored? b.runSet := by
    rw [hboot, BootSt.stored?_writeRec]
    simpa using b.boot.stored?_putSet_other (!b.runSet) (setOfPackage b.boot.staging)
  have hshown : OtherShown (manifestSeq b.boot.staging) b c := hother.shown (by simp [hset]) (by simp [hset])
  have hstored : ∀ k, (({ c.boot with staging := [] } : BootSt)).stored? k = c.boot.stored? k := fun k => by cases k <;> rfl
  refine ⟨?_, ⟨?_, ?_⟩, Blk.reg_setReg_self .., (hstored _).trans hnew, (hstored _).trans hold, hset, hkeep, rfl,
    (((hrest.mono (by decide)).boot _).setFld _ (by decide)).setReg _ (by decide)⟩
  · exact (Blk.updState_congr (Blk.reg_setReg_name _ _ _ _ (by decide))).trans (Blk.updState_setFld _ 3)
  · exact (Blk.reg_setReg_name _ _ _ _ (by decide)).trans ((Blk.reg_setFld_name _ _ _ _ (by decide)).trans hshown.1)
  · exact (Blk.reg_setReg_name _ _ _ _ (by decide)).trans ((Blk.reg_setFld_name _ _ _ _ (by decide)).trans hshown.2)

/-- An entry does not read back. -/
theorem Blk.stageComplete_nand_spec (part : Nat) (ha : b.agentRuns = true) (hs : b.updState = 2) :
    let c := b.stageComplete (some part)
    StagingFails (!b.runSet) 7 part b c ∧ c.boot = { b.boot with staging := [] } ∧
      RegsKeptBut (fun r i => RecReg r i ∨ (r = .BOOT_UPD_STATUS ∧ i = 0)) b c ∧
      { b with regs := c.regs, mod := c.mod, jrn := c.jrn, boot := c.boot } = c := by
  have hcomplete := Blk.stageComplete_writing (some part) ha hs
  dsimp only at hcomplete ⊢
  rw [hcomplete]
  obtain ⟨hfails, hboot, hregs, hframe, -⟩ := Blk.stageFail_spec (Blk.Restaged.refl [.BOOT_UPD_STATUS] b)
    (by simp [bootShown]) (by simp) (!b.runSet) 7 part
  exact ⟨hfails, hboot, fun r i hr => hregs r i fun e => hr (e.imp_right fun e => ⟨by simpa using e.2, e.1⟩), hframe⟩

end Sys2Proof.Machine
end

section
/-!
PROOFS. The recovery protocol of Chrysalis: which datagrams act, and what is answered (O59).
-/

namespace Sys2Proof.Machine

open Sys2Proof.Claims

/-! ## Replies leave ETH5 -/

/-- ETH5 of a module in Chrysalis sends at once: the port is enabled and its link is up. -/
structure Blk.Recovers (b : Blk) : Prop where
  phase : b.mod.phase = .chrysalis
  running : b.frozen = false
  enabled : b.flag F.ETH_CTRL_EN 5 = true
  link : b.flag F.ETH_STATUS_LINK 5 = true

theorem Blk.Recovers.ethRuns {b : Blk} (h : b.Recovers) : b.ethRuns = true := by simp [Blk.ethRuns, h.phase, h.running]

theorem Blk.Recovers.withBoot {b : Blk} (h : b.Recovers) (x : BootSt) : ({ b with boot := x } : Blk).Recovers :=
  ⟨h.phase, h.running, h.enabled, h.link⟩

theorem Blk.Recovers.withOtp {b : Blk} (h : b.Recovers) (m : List Host.Cell) : ({ b with otp := m } : Blk).Recovers :=
  ⟨h.phase, h.running, h.enabled, h.link⟩

/-- A datagram to a tool is put on the wire behind what was sent before. -/
theorem Blk.Recovers.replies {b : Blk} (h : b.Recovers) (src : BitVec 128) (port : Nat) (l : List Byte) :
    Replies src port l b (b.recSend src port l) := by
  rw [Blk.recSend, Blk.ethSend, if_pos ⟨h.enabled, h.ethRuns⟩, if_pos h.link]
  refine ⟨rfl, fun e => ?_⟩
  by_cases he : e = 5
  · subst he
    exact SMap.get_put_self ..
  · rw [if_neg he, List.append_nil]
    exact SMap.get_put_of_ne _ _ _ _ he

theorem Blk.recAnswer_eq (b : Blk) (src : BitVec 128) (port : Nat) (m : RecMsg) (body : List Byte) :
    b.recAnswer src port m body = ({ b with boot := { b.boot with
      tool := some ⟨src, port, b.tb1, some (m.seq, recReply m.op m.seq body)⟩ } } : Blk).recSend src port
        (recReply m.op m.seq body) := rfl

/-- An answer is kept and sent. -/
theorem Blk.Recovers.answers {b : Blk} (h : b.Recovers) (src : BitVec 128) (port : Nat) (m : RecMsg) (body : List Byte) :
    Answers src port m body b (b.recAnswer src port m body) := by
  rw [b.recAnswer_eq src port m body]
  exact (h.withBoot _).replies src port _

/-- An answer does not depend on who was bound before. -/
theorem Blk.recAnswer_recSeen (b : Blk) (t : Tool) (p : Nat) (src : BitVec 128) (port : Nat) (m : RecMsg) (body : List Byte) :
    (b.recSeen t p).recAnswer src port m body = b.recAnswer src port m body := rfl

/-! ## Which datagrams act (R415) -/

/-- What the operation of datagram `m` makes of the block, with the answer it gives. -/
def Blk.acted (b : Blk) (src : BitVec 128) (port : Nat) (m : RecMsg) (act : Blk → RecMsg → Blk × Option (List Byte)) : Blk :=
  if m.version ≠ 1 then b.recAnswer src port m [1]
  else match (act b m).2 with
    | some body => (act b m).1.recAnswer src port m body
    | none => (act b m).1

/-- The tool that is bound and was heard within the last 60 s. -/
def Blk.boundTool (b : Blk) : Option Tool := b.boot.tool.filter fun t => decide (b.tb1 < t.at_ + 60000000000)

theorem Blk.boundTool_free {b : Blk} (h : ∀ t, b.boot.tool = some t → t.at_ + 60000000000 ≤ b.tb1) : b.boundTool = none := by
  rw [Blk.boundTool]
  cases ht : b.boot.tool with
  | none => rfl
  | some t =>
    rw [Option.filter_some, if_neg]
    simpa using h t ht

theorem Blk.boundTool_some {b : Blk} {t : Tool} (ht : b.boot.tool = some t) (h : b.tb1 < t.at_ + 60000000000) :
    b.boundTool = some t := by
  rw [Blk.boundTool, ht, Option.filter_some, if_pos (decide_eq_true h)]

section recover

variable {b : Blk} (h : b.Recovers) {d : List Byte} {m : RecMsg} (hd : recParse d = some m) (src : BitVec 128) (port : Nat)
  (act : Blk → RecMsg → Blk × Option (List Byte))

include h hd

theorem Blk.recover_eq (op : Nat) : b.recover op src port d act =
    if m.op ≠ op then b
    else match b.boundTool with
      | none => if op = 1 then b.acted src port m act else b.recSend src port (recReply m.op m.seq [6])
      | some t =>
        if t.addr ≠ src then b.recSend src port (recReply m.op m.seq [6])
        else if b.boot.commit.isSome then (b.recSeen t port).recSend src port (recReply m.op m.seq [5])
        else match t.last with
          | some (q, l) => if q = m.seq then (b.recSeen t port).recSend src port l else (b.recSeen t port).acted src port m act
          | none => (b.recSeen t port).acted src port m act := by
  have hacted : ∀ c : Blk, c.acted src port m act = if m.version ≠ 1 then c.recAnswer src port m [1]
      else match act c m with
        | (c, some body) => c.recAnswer src port m body
        | (c, none) => c := by
    intro c
    unfold Blk.acted
    rcases act c m with ⟨c', _ | body⟩ <;> rfl
  rw [Blk.recover, Blk.when_of _ (by simp [h.phase, h.running, h.enabled, h.link]), hd]
  simp only [hacted]
  rfl

theorem Blk.recover_other {op : Nat} (hop : m.op ≠ op) : b.recover op src port d act = b := by
  rw [Blk.recover_eq h hd, if_pos hop]

theorem Blk.recover_hello_free (hop : m.op = 1) (hf : b.boundTool = none) :
    b.recover 1 src port d act = b.acted src port m act := by
  rw [Blk.recover_eq h hd, if_neg (not_not_intro hop), hf]
  exact if_pos rfl

theorem Blk.recover_free {op : Nat} (hop : m.op = op) (hf : b.boundTool = none) (h1 : op ≠ 1) :
    b.recover op src port d act = b.recSend src port (recReply m.op m.seq [6]) := by
  rw [Blk.recover_eq h hd, if_neg (not_not_intro hop), hf]
  exact if_neg h1

variable {op : Nat} (hop : m.op = op) {t : Tool} (ht : b.boundTool = some t)

include hop ht

theorem Blk.recover_stranger (ha : t.addr ≠ src) : b.recover op src port d act = b.recSend src port (recReply m.op m.seq [6]) := by
  rw [Blk.recover_eq h hd, if_neg (not_not_intro hop), ht]
  exact if_pos ha

theorem Blk.recover_busy (ha : t.addr = src) (hc : b.boot.commit.isSome = true) :
    b.recover op src port d act = (b.recSeen t port).recSend src port (recReply m.op m.seq [5]) := by
  rw [Blk.recover_eq h hd, if_neg (not_not_intro hop), ht]
  exact (if_neg (not_not_intro ha)).trans (if_pos hc)

theorem Blk.recover_again (ha : t.addr = src) (hc : b.boot.commit = none) {l : List Byte} (hl : t.last = some (m.seq, l)) :
    b.recover op src port d act = (b.recSeen t port).recSend src port l := by
  rw [Blk.recover_eq h hd, if_neg (not_not_intro hop), ht]
  dsimp only
  rw [if_neg (not_not_intro ha), hc, hl]
  exact if_pos rfl

theorem Blk.recover_acts (ha : t.addr = src) (hc : b.boot.commit = none) (hl : ∀ q l, t.last = some (q, l) → q ≠ m.seq) :
    b.recover op src port d act = (b.recSeen t port).acted src port m act := by
  rw [Blk.recover_eq h hd, if_neg (not_not_intro hop), ht]
  dsimp only
  rw [if_neg (not_not_intro ha), hc]
  rcases hlast : t.last with _ | ⟨q, l⟩
  · rfl
  · exact if_neg (hl q l hlast)

end recover

/-! ## What an operation answers -/

theorem Blk.acted_version (b : Blk) (src : BitVec 128) (port : Nat) {m : RecMsg} (act : Blk → RecMsg → Blk × Option (List Byte))
    (hv : m.version ≠ 1) : b.acted src port m act = b.recAnswer src port m [1] := if_pos hv

theorem Blk.acted_answered (b : Blk) (src : BitVec 128) (port : Nat) {m : RecMsg} {act : Blk → RecMsg → Blk × Option (List Byte)}
    (hv : m.version = 1) {c : Blk} {body : List Byte} (ha : act b m = (c, some body)) :
    b.acted src port m act = c.recAnswer src port m body := by
  rw [Blk.acted, if_neg (not_not_intro hv), ha]

theorem Blk.acted_later (b : Blk) (src : BitVec 128) (port : Nat) {m : RecMsg} {act : Blk → RecMsg → Blk × Option (List Byte)}
    (hv : m.version = 1) {c : Blk} (ha : act b m = (c, none)) : b.acted src port m act = c := by
  rw [Blk.acted, if_neg (not_not_intro hv), ha]

end Sys2Proof.Machine
end

section
/-!
PROOFS. The recovery protocol of Chrysalis: the operations (O59).
-/

namespace Sys2Proof.Machine

open Sys2Proof.Claims

/-! ## OTP (R401, R403) -/

/-- Programming takes the bits of the bytes given and keeps every bit that stands. -/
theorem otpByte_otpProgram (m : List Host.Cell) (a : Nat) (l : List Byte) (y : Nat) :
    otpByte (otpProgram m a l) y = otpByte m y ||| if a ≤ y then l.getD (y - a) 0 else 0 := by
  induction l generalizing m a with
  | nil => simp [otpProgram]
  | cons x l ih =>
    rw [otpProgram, ih]
    rcases Nat.lt_trichotomy y a with hy | rfl | hy
    · have hput : otpByte (SMap.put natLt m a (otpByte m a ||| x) 0) y = otpByte m y :=
        SMap.get_put_of_ne _ _ _ _ (Nat.ne_of_lt hy)
      rw [hput, if_neg (by omega), if_neg (by omega)]
    · have hput : otpByte (SMap.put natLt m y (otpByte m y ||| x) 0) y = otpByte m y ||| x := SMap.get_put_self ..
      rw [hput, if_neg (by omega), if_pos (Nat.le_refl y), Nat.sub_self]
      simp
    · have hput : otpByte (SMap.put natLt m a (otpByte m a ||| x) 0) y = otpByte m y :=
        SMap.get_put_of_ne _ _ _ _ (Nat.ne_of_gt hy)
      rw [hput, if_pos (show a + 1 ≤ y from hy), if_pos (Nat.le_of_lt hy), show y - a = y - (a + 1) + 1 by omega]
      rfl

/-- A slot of ROOT or LIMP_MAP takes a write: the signature holds under the root in force, or there is none and ROOT is written. -/
def otpSigned (m : List Host.Cell) (g : Nat) (obj sig : List Byte) : Bool :=
  match otpRoot m with
  | some root => signatureOk root obj sig
  | none => g == 3

/-- OTP_WRITE as O59 states of it, told by whether the write is signed. -/
theorem otpWritten_of_signed {g : Nat} {head payload sig body : List Byte} {a b : Blk}
    (hother : g ≠ 3 ∧ g ≠ 4 ∨ nextGen a.otp g = none → body = [4] ∧ b.otp = a.otp)
    (hunsigned : otpSigned a.otp g (head ++ payload) sig = false → ∀ n, g = 3 ∨ g = 4 → nextGen a.otp g = some n →
      body = [3, 1] ∧ b.otp = a.otp)
    (hsigned : otpSigned a.otp g (head ++ payload) sig = true → ∀ n, g = 3 ∨ g = 4 → nextGen a.otp g = some n →
      (otpSlotBytes g < 16 + payload.length → body = [4] ∧ b.otp = a.otp) ∧
        (16 + payload.length ≤ otpSlotBytes g → body = (if (otpSlot b.otp g n).isSome then [0] else [4]) ∧
          ∀ y, otpByte b.otp y = otpByte a.otp y |||
            if otpSlotAt g n ≤ y then (head ++ payload).getD (y - otpSlotAt g n) 0 else 0)) :
    OtpWritten g head payload sig body a b := by
  unfold OtpWritten
  unfold otpSigned at hunsigned hsigned
  cases hroot : otpRoot a.otp with
  | none =>
    simp only [hroot, beq_iff_eq, beq_eq_false_iff_ne] at hunsigned hsigned
    exact ⟨hother, fun n hg hn => ⟨fun hs => hunsigned hs n hg hn, fun hs => (hsigned hs n hg hn).1, fun hs => (hsigned hs n hg hn).2⟩⟩
  | some root =>
    simp only [hroot] at hunsigned hsigned
    exact ⟨hother, fun n hg hn => ⟨fun hs => hunsigned (Bool.eq_false_iff.mpr hs) n hg hn, fun hs => (hsigned hs n hg hn).1,
      fun hs => (hsigned hs n hg hn).2⟩⟩

theorem Blk.otpWrite_other {b : Blk} {g : Nat} (head payload sig : List Byte) (h : g ≠ 3 ∧ g ≠ 4 ∨ nextGen b.otp g = none) :
    b.otpWrite g head payload sig = (b, [4]) := by
  unfold Blk.otpWrite
  by_cases hg : g ≠ 3 ∧ g ≠ 4
  · exact if_pos hg
  · rw [if_neg hg, h.resolve_left hg]

theorem Blk.otpWrite_next {b : Blk} {g n : Nat} (head payload sig : List Byte) (hg : g = 3 ∨ g = 4) (hn : nextGen b.otp g = some n) :
    b.otpWrite g head payload sig =
      if otpSigned b.otp g (head ++ payload) sig = false then (b, [3, 1])
      else if otpSlotBytes g < 16 + payload.length then (b, [4])
      else ({ b with otp := otpProgram b.otp (otpSlotAt g n) (head ++ payload) },
        if (otpSlot (otpProgram b.otp (otpSlotAt g n) (head ++ payload)) g n).isSome then [0] else [4]) := by
  have hgroup : ¬ (g ≠ 3 ∧ g ≠ 4) := by omega
  rw [Blk.otpWrite, if_neg hgroup, hn]
  unfold otpSigned
  dsimp only
  cases otpRoot b.otp with
  | none => exact if_congr (by simp) rfl rfl
  | some root => exact if_congr (by simp) rfl rfl

/-- OTP_WRITE programs the next slot of ROOT or LIMP_MAP, or leaves OTP, and changes nothing but OTP. -/
theorem Blk.otpWrite_spec (b : Blk) (g : Nat) (head payload sig : List Byte) :
    OtpWritten g head payload sig (b.otpWrite g head payload sig).2 b (b.otpWrite g head payload sig).1 ∧
      (b.otpWrite g head payload sig).1 = { b with otp := (b.otpWrite g head payload sig).1.otp } := by
  refine ⟨otpWritten_of_signed (fun h => ?_) (fun hs n hg hn => ?_) fun hs n hg hn => ⟨fun hlen => ?_, fun hlen => ?_⟩, ?_⟩
  · rw [Blk.otpWrite_other head payload sig h]
    exact ⟨rfl, rfl⟩
  · rw [Blk.otpWrite_next head payload sig hg hn, if_pos hs]
    exact ⟨rfl, rfl⟩
  · rw [Blk.otpWrite_next head payload sig hg hn, if_neg (by simp [hs]), if_pos hlen]
    exact ⟨rfl, rfl⟩
  · rw [Blk.otpWrite_next head payload sig hg hn, if_neg (by simp [hs]), if_neg (Nat.not_lt.mpr hlen)]
    exact ⟨rfl, otpByte_otpProgram _ _ _⟩
  · by_cases hother : g ≠ 3 ∧ g ≠ 4 ∨ nextGen b.otp g = none
    · rw [Blk.otpWrite_other head payload sig hother]
    · obtain ⟨hg, hn⟩ := not_or.mp hother
      obtain ⟨n, hn⟩ := Option.ne_none_iff_exists'.mp hn
      rw [Blk.otpWrite_next head payload sig (by omega) hn]
      split
      · rfl
      · split <;> rfl

/-! ## The operations (R414) -/

/-- What an operation makes of the block and answers; no answer where it comes later. -/
abbrev RecAct := Blk → RecMsg → Blk × Option (List Byte)

def helloAct : RecAct := fun b _ => (b, some b.helloBody)

def beginAct : RecAct := fun b m =>
  if m.body.length ≠ 4 ∨ 112 * 2 ^ 20 < leAt m.body 0 4 then (b, some [1])
  else ({ b with boot := { b.boot with want := some (leAt m.body 0 4), got := [] } }, some [0])

def dataAct : RecAct := fun b m =>
  match b.boot.want with
  | none => (b, some [2])
  | some n =>
    if m.body.length < 4 then (b, some [1])
    else if leAt m.body 0 4 < b.boot.got.length then (b, some [0])
    else if leAt m.body 0 4 ≠ b.boot.got.length ∨ n < b.boot.got.length + (m.body.drop 4).length then (b, some [2])
    else ({ b with boot := { b.boot with got := b.boot.got ++ m.body.drop 4 } }, some [0])

def commitAct : RecAct := fun b m =>
  let b := b.writeBootRec { b.boot.bootRec with fails := 0 }
  ({ b with boot := { b.boot with commit := some m.seq } }, none)

def otpAct : RecAct := fun b m =>
  let head := (m.body.drop 4).take 16
  let rest := (m.body.drop 20).drop (leAt head 4 4)
  if m.body.length < 20 + leAt head 4 4 ∨ (rest ≠ [] ∧ rest.length ≠ 256) then (b, some [1])
  else
    let r := b.otpWrite (leAt m.body 0 4) head ((m.body.drop 20).take (leAt head 4 4)) rest
    (r.1, some r.2)

def logAct : RecAct := fun b m =>
  if m.body.length ≠ 4 then (b, some [1])
  else (b, some ([0] ++ ((b.jrn.faults.all.drop (leAt m.body 0 4)).take 63).flatten))

def restartAct : RecAct := fun b _ => ({ b with boot := { b.boot with restart := true } }, some [0])

section operations

variable (b : Blk) (src : BitVec 128) (port : Nat) (d : List Byte)

theorem Blk.recHello_eq : b.recHello src port d = b.recover 1 src port d helloAct := rfl

theorem Blk.recBegin_eq : b.recBegin src port d = b.recover 2 src port d beginAct := rfl

theorem Blk.recData_eq : b.recData src port d = b.recover 3 src port d dataAct := rfl

theorem Blk.recCommit_eq : b.recCommit src port d = b.recover 4 src port d commitAct := rfl

theorem Blk.recOtpWrite_eq : b.recOtpWrite src port d = b.recover 5 src port d otpAct := rfl

theorem Blk.recReadLog_eq : b.recReadLog src port d = b.recover 6 src port d logAct := rfl

theorem Blk.recRestart_eq : b.recRestart src port d =
    let r := b.recover 7 src port d restartAct
    if r.boot.restart ∧ r.mod.recoverN then r.restart else r := rfl

variable {b src port d}

theorem Blk.recRestart_stays {r : Blk} (hr : b.recover 7 src port d restartAct = r)
    (hw : r.boot.restart = false ∨ r.mod.recoverN = false) : b.recRestart src port d = r := by
  rw [b.recRestart_eq src port d, hr]
  exact if_neg (by rcases hw with hw | hw <;> simp [hw])

end operations

/-- The commands of the recovery protocol and their OP (R414). -/
def IsRecovery (src : BitVec 128) (port : BitVec 16) (d : List Byte) (c : Instr) (op : Nat) : Prop :=
  (c, op) ∈ [(Instr.recoveryHello src port d, 1), (.recoveryBegin src port d, 2), (.recoveryData src port d, 3),
    (.recoveryCommit src port d, 4), (.otpWrite src port d, 5), (.readLog src port d, 6), (.recoveryRestart src port d, 7)]

/-- What a command of the protocol runs, by OP. -/
def Blk.byOp (b : Blk) (src : BitVec 128) (port : Nat) (d : List Byte) (op : Nat) : Blk :=
  match op with
  | 1 => b.recHello src port d
  | 2 => b.recBegin src port d
  | 3 => b.recData src port d
  | 4 => b.recCommit src port d
  | 5 => b.recOtpWrite src port d
  | 6 => b.recReadLog src port d
  | 7 => b.recRestart src port d
  | op => b.recover op src port d fun b _ => (b, some [1])

theorem Blk.recDatagram_eq (b : Blk) (src : BitVec 128) (port : Nat) (d : List Byte) :
    b.recDatagram src port d = b.byOp src port d (leAt d 1 1) := rfl

theorem IsRecovery.op_range {src : BitVec 128} {port : BitVec 16} {d : List Byte} {c : Instr} {op : Nat}
    (h : IsRecovery src port d c op) : 1 ≤ op ∧ op ≤ 7 := by
  simp only [IsRecovery, List.mem_cons, Prod.mk.injEq, List.not_mem_nil, or_false] at h
  omega

theorem IsRecovery.exec_eq {src : BitVec 128} {port : BitVec 16} {d : List Byte} {c : Instr} {op : Nat}
    (h : IsRecovery src port d c op) (s : State) : exec c s = s.run fun b => b.byOp src port.toNat d op := by
  simp only [IsRecovery, List.mem_cons, Prod.mk.injEq, List.not_mem_nil, or_false] at h
  rcases h with ⟨rfl, rfl⟩ | ⟨rfl, rfl⟩ | ⟨rfl, rfl⟩ | ⟨rfl, rfl⟩ | ⟨rfl, rfl⟩ | ⟨rfl, rfl⟩ | ⟨rfl, rfl⟩ <;> rfl

/-- Each command of the protocol is its datagram's operation; RESTART acts further only once it has been accepted. -/
theorem Blk.byOp_stays {b : Blk} {src : BitVec 128} {port : Nat} {d : List Byte} {op : Nat} (h1 : 1 ≤ op) (h7 : op ≤ 7) : ∃ act : RecAct,
    ∀ r, b.recover op src port d act = r → r.boot.restart = false ∨ r.mod.recoverN = false → b.byOp src port d op = r := by
  interval_cases op
  · exact ⟨helloAct, fun r hr _ => (b.recHello_eq src port d).trans hr⟩
  · exact ⟨beginAct, fun r hr _ => (b.recBegin_eq src port d).trans hr⟩
  · exact ⟨dataAct, fun r hr _ => (b.recData_eq src port d).trans hr⟩
  · exact ⟨commitAct, fun r hr _ => (b.recCommit_eq src port d).trans hr⟩
  · exact ⟨otpAct, fun r hr _ => (b.recOtpWrite_eq src port d).trans hr⟩
  · exact ⟨logAct, fun r hr _ => (b.recReadLog_eq src port d).trans hr⟩
  · exact ⟨restartAct, fun r hr hw => Blk.recRestart_stays hr hw⟩

/-- A datagram of no operation is answered BAD_FORMAT. -/
theorem Blk.byOp_none {b : Blk} {src : BitVec 128} {port : Nat} {d : List Byte} {op : Nat} (h : op = 0 ∨ 8 ≤ op) :
    b.byOp src port d op = b.recover op src port d fun b _ => (b, some [1]) := by
  unfold Blk.byOp
  split
  case h_8 => rfl
  all_goals omega

theorem recParse_op {d : List Byte} {m : RecMsg} (h : recParse d = some m) : leAt d 1 1 = m.op := by
  unfold recParse at h
  dsimp only at h
  split at h
  · cases h
    rfl
  · cases h

/-- In Chrysalis ETH5 hears the recovery protocol alone. -/
theorem Blk.ethFrame_recovery {b : Blk} (h : b.mod.phase = .chrysalis) (src : BitVec 128) (port : BitVec 16) (d : List Byte) :
    b.ethFrame 5 (.udp src (linkLocal (b.mac 5)) port 47500 d) = b.recDatagram src port.toNat d := by
  rw [Blk.ethFrame]
  exact (if_pos h).trans (if_pos ⟨rfl, rfl, rfl⟩)

/-- A reply changes what ETH5 has sent and nothing else. -/
theorem replies_boot {src : BitVec 128} {port : Nat} {l : List Byte} {a b : Blk} (h : Replies src port l a b) : b.boot = a.boot := by
  rw [← h.1]

theorem replies_mod {src : BitVec 128} {port : Nat} {l : List Byte} {a b : Blk} (h : Replies src port l a b) : b.mod = a.mod := by
  rw [← h.1]

end Sys2Proof.Machine
end

section
/-!
PROOFS. The recovery protocol of Chrysalis: what the bound tool's operations do (O59).
-/

namespace Sys2Proof.Machine

open Sys2Proof.Claims

/-! ## What an operation does -/

section acts

variable {x : Blk} {m : RecMsg} {w : Nat}

theorem beginAct_takes (h : m.body.length = 4 ∧ leAt m.body 0 4 ≤ 112 * 2 ^ 20) :
    beginAct x m = ({ x with boot := { x.boot with want := some (leAt m.body 0 4), got := [] } }, some [0]) :=
  if_neg (by omega)

theorem beginAct_refuses (h : ¬ (m.body.length = 4 ∧ leAt m.body 0 4 ≤ 112 * 2 ^ 20)) : beginAct x m = (x, some [1]) :=
  if_pos (by omega)

theorem dataAct_unasked (h : x.boot.want = none) : dataAct x m = (x, some [2]) := by rw [dataAct, h]

theorem dataAct_eq (h : x.boot.want = some w) : dataAct x m =
    if m.body.length < 4 then (x, some [1])
    else if leAt m.body 0 4 < x.boot.got.length then (x, some [0])
    else if leAt m.body 0 4 ≠ x.boot.got.length ∨ w < x.boot.got.length + (m.body.drop 4).length then (x, some [2])
    else ({ x with boot := { x.boot with got := x.boot.got ++ m.body.drop 4 } }, some [0]) := by rw [dataAct, h]

theorem dataAct_short (h : x.boot.want = some w) (hl : m.body.length < 4) : dataAct x m = (x, some [1]) :=
  (dataAct_eq h).trans (if_pos hl)

theorem dataAct_received (h : x.boot.want = some w) (hl : 4 ≤ m.body.length) (hoff : leAt m.body 0 4 < x.boot.got.length) :
    dataAct x m = (x, some [0]) := (dataAct_eq h).trans ((if_neg (by omega)).trans (if_pos hoff))

theorem dataAct_apart (h : x.boot.want = some w) (hl : 4 ≤ m.body.length)
    (hoff : x.boot.got.length < leAt m.body 0 4 ∨ (leAt m.body 0 4 = x.boot.got.length ∧ w < leAt m.body 0 4 + (m.body.length - 4))) :
    dataAct x m = (x, some [2]) := by
  have hdrop : (m.body.drop 4).length = m.body.length - 4 := List.length_drop
  exact (dataAct_eq h).trans ((if_neg (by omega)).trans ((if_neg (by omega)).trans (if_pos (by omega))))

theorem dataAct_takes (h : x.boot.want = some w) (hl : 4 ≤ m.body.length) (hoff : leAt m.body 0 4 = x.boot.got.length)
    (hfits : leAt m.body 0 4 + (m.body.length - 4) ≤ w) :
    dataAct x m = ({ x with boot := { x.boot with got := x.boot.got ++ m.body.drop 4 } }, some [0]) := by
  have hdrop : (m.body.drop 4).length = m.body.length - 4 := List.length_drop
  exact (dataAct_eq h).trans ((if_neg (by omega)).trans ((if_neg (by omega)).trans (if_neg (by omega))))

theorem otpAct_malformed (h : m.body.length < 20 + leAt ((m.body.drop 4).take 16) 4 4 ∨
    ((m.body.drop 20).drop (leAt ((m.body.drop 4).take 16) 4 4) ≠ [] ∧
      ((m.body.drop 20).drop (leAt ((m.body.drop 4).take 16) 4 4)).length ≠ 256)) : otpAct x m = (x, some [1]) := if_pos h

theorem otpAct_wellFormed (hl : 20 + leAt ((m.body.drop 4).take 16) 4 4 ≤ m.body.length)
    (hs : (m.body.drop 20).drop (leAt ((m.body.drop 4).take 16) 4 4) = [] ∨
      ((m.body.drop 20).drop (leAt ((m.body.drop 4).take 16) 4 4)).length = 256) : otpAct x m =
    let r := x.otpWrite (leAt m.body 0 4) ((m.body.drop 4).take 16) ((m.body.drop 20).take (leAt ((m.body.drop 4).take 16) 4 4))
      ((m.body.drop 20).drop (leAt ((m.body.drop 4).take 16) 4 4))
    (r.1, some r.2) := by
  have hform : ¬ (m.body.length < 20 + leAt ((m.body.drop 4).take 16) 4 4 ∨
      ((m.body.drop 20).drop (leAt ((m.body.drop 4).take 16) 4 4) ≠ [] ∧
        ((m.body.drop 20).drop (leAt ((m.body.drop 4).take 16) 4 4)).length ≠ 256)) := by
    rintro (h | ⟨h, h'⟩)
    · omega
    · exact hs.elim h h'
  exact if_neg hform

end acts

/-- OTP_WRITE acts on OTP alone, whoever is bound. -/
theorem Blk.otpWrite_recSeen (b : Blk) (t : Tool) (port g : Nat) (head payload sig : List Byte) :
    (b.recSeen t port).otpWrite g head payload sig =
      ((b.otpWrite g head payload sig).1.recSeen t port, (b.otpWrite g head payload sig).2) := by
  by_cases hother : g ≠ 3 ∧ g ≠ 4 ∨ nextGen b.otp g = none
  · rw [Blk.otpWrite_other head payload sig hother, Blk.otpWrite_other (b := b.recSeen t port) head payload sig hother]
  · obtain ⟨hg, hn⟩ := not_or.mp hother
    obtain ⟨n, hn⟩ := Option.ne_none_iff_exists'.mp hn
    rw [Blk.otpWrite_next head payload sig (by omega) hn, Blk.otpWrite_next (b := b.recSeen t port) head payload sig (by omega) hn]
    have hotp : (b.recSeen t port).otp = b.otp := rfl
    rw [hotp]
    split
    · rfl
    · split <;> rfl

/-! ## The bound tool -/

/-- The bound tool at `src` sends datagram `m`, new to the module and of version 1, while no COMMIT runs. -/
structure Blk.Hears (b : Blk) (src : BitVec 128) (d : List Byte) (m : RecMsg) (t : Tool) : Prop where
  recovers : b.Recovers
  parse : recParse d = some m
  bound : b.boundTool = some t
  addr : t.addr = src
  idle : b.boot.commit = none
  fresh : ∀ q l, t.last = some (q, l) → q ≠ m.seq
  version : m.version = 1

section heard

variable {b c : Blk} {src : BitVec 128} {port op : Nat} {d : List Byte} {m : RecMsg} {t : Tool} (h : b.Hears src d m t)

include h

/-- An operation that answers at once. -/
theorem Blk.Hears.recover_answered (hop : m.op = op) {act : RecAct} {body : List Byte}
    (hact : act (b.recSeen t port) m = (c.recSeen t port, some body)) :
    b.recover op src port d act = c.recAnswer src port m body := by
  rw [Blk.recover_acts h.recovers h.parse src port act hop h.bound h.addr h.idle h.fresh, Blk.acted_answered _ _ _ h.version hact,
    c.recAnswer_recSeen]

theorem Blk.Hears.hello (hop : m.op = 1) : Answers src port m b.helloBody b (b.recHello src port d) := by
  rw [b.recHello_eq src port d, h.recover_answered (c := b) hop rfl]
  exact h.recovers.answers src port m _

theorem Blk.Hears.begin_ (hop : m.op = 2) :
    if m.body.length = 4 ∧ leAt m.body 0 4 ≤ 112 * 2 ^ 20
    then Answers src port m [0] { b with boot := { b.boot with want := some (leAt m.body 0 4), got := [] } } (b.recBegin src port d)
    else Answers src port m [1] b (b.recBegin src port d) := by
  rw [b.recBegin_eq src port d]
  split
  next hb =>
    rw [h.recover_answered (c := { b with boot := { b.boot with want := some (leAt m.body 0 4), got := [] } }) hop
      (beginAct_takes hb)]
    exact (h.recovers.withBoot _).answers src port m _
  next hb =>
    rw [h.recover_answered (c := b) hop (beginAct_refuses hb)]
    exact h.recovers.answers src port m _

theorem Blk.Hears.data_unasked (hop : m.op = 3) (hw : b.boot.want = none) : Answers src port m [2] b (b.recData src port d) := by
  rw [b.recData_eq src port d, h.recover_answered (c := b) hop (dataAct_unasked hw)]
  exact h.recovers.answers src port m _

/-- DATA by its offset and length (R414). -/
theorem Blk.Hears.data (hop : m.op = 3) {w : Nat} (hw : b.boot.want = some w) : let n := leAt m.body 0 4
    (m.body.length < 4 → Answers src port m [1] b (b.recData src port d)) ∧
    (4 ≤ m.body.length → n < b.boot.got.length → Answers src port m [0] b (b.recData src port d)) ∧
    (4 ≤ m.body.length → b.boot.got.length < n ∨ (n = b.boot.got.length ∧ w < n + (m.body.length - 4)) →
      Answers src port m [2] b (b.recData src port d)) ∧
    (4 ≤ m.body.length → n = b.boot.got.length → n + (m.body.length - 4) ≤ w → Answers src port m [0]
      { b with boot := { b.boot with got := b.boot.got ++ m.body.drop 4 } } (b.recData src port d)) := by
  have hanswer := fun body => h.recovers.answers src port m body
  rw [b.recData_eq src port d]
  refine ⟨fun hl => ?_, fun hl hn => ?_, fun hl hn => ?_, fun hl hn hfits => ?_⟩
  · rw [h.recover_answered (c := b) hop (dataAct_short hw hl)]
    exact hanswer _
  · rw [h.recover_answered (c := b) hop (dataAct_received hw hl hn)]
    exact hanswer _
  · rw [h.recover_answered (c := b) hop (dataAct_apart hw hl hn)]
    exact hanswer _
  · rw [h.recover_answered (c := { b with boot := { b.boot with got := b.boot.got ++ m.body.drop 4 } }) hop
      (dataAct_takes hw hl hn hfits)]
    exact (h.recovers.withBoot _).answers src port m _

/-- COMMIT is answered later; FAILS is 0 from now on. -/
theorem Blk.Hears.commit (hop : m.op = 4) : let c := b.recCommit src port d
    c.boot.commit = some m.seq ∧ c.boot.bootRec.fails = 0 ∧ (∀ k, c.boot.bootRec.set k = b.boot.bootRec.set k) ∧
      c.boot.tool = some { t with port := port, at_ := b.tb1 } ∧
      { b with boot := { b.boot with
        commit := c.boot.commit, tool := c.boot.tool, copy0 := c.boot.copy0, copy1 := c.boot.copy1 } } = c := by
  have hcommit : b.recCommit src port d = { b with boot := { (b.recSeen t port).boot.writeRec { b.boot.bootRec with fails := 0 } with
      commit := some m.seq } } := by
    rw [b.recCommit_eq src port d,
      Blk.recover_acts h.recovers h.parse src port commitAct hop h.bound h.addr h.idle h.fresh, Blk.acted_later _ _ _ h.version rfl]
    rfl
  have hframe := (b.recSeen t port).boot.writeRec_frame { b.boot.bootRec with fails := 0 }
  have hrec := (b.recSeen t port).boot.bootRec_writeRec { b.boot.bootRec with fails := 0 }
  dsimp only
  rw [hcommit]
  generalize (b.recSeen t port).boot.writeRec { b.boot.bootRec with fails := 0 } = x at hframe hrec ⊢
  have hx : ({ x with commit := some m.seq } : BootSt).bootRec = x.bootRec := rfl
  refine ⟨rfl, ?_, fun k => ?_, ?_, ?_⟩
  · rw [hx, hrec]
  · rw [hx, hrec, BootRec.set_withCounter, BootRec.set_withFails]
  · rw [hframe]
    rfl
  · rw [hframe]
    rfl

theorem Blk.Hears.otp_malformed (hop : m.op = 5) (hf : m.body.length < 20 + leAt ((m.body.drop 4).take 16) 4 4 ∨
    ((m.body.drop 20).drop (leAt ((m.body.drop 4).take 16) 4 4) ≠ [] ∧
      ((m.body.drop 20).drop (leAt ((m.body.drop 4).take 16) 4 4)).length ≠ 256)) :
    Answers src port m [1] b (b.recOtpWrite src port d) := by
  rw [b.recOtpWrite_eq src port d, h.recover_answered (c := b) hop (otpAct_malformed hf)]
  exact h.recovers.answers src port m _

/-- A well-formed OTP_WRITE programs OTP or is refused, and its outcome is answered. -/
theorem Blk.Hears.otp (hop : m.op = 5) (hl : 20 + leAt ((m.body.drop 4).take 16) 4 4 ≤ m.body.length)
    (hs : (m.body.drop 20).drop (leAt ((m.body.drop 4).take 16) 4 4) = [] ∨
      ((m.body.drop 20).drop (leAt ((m.body.drop 4).take 16) 4 4)).length = 256) : let c := b.recOtpWrite src port d
    ∃ body, OtpWritten (leAt m.body 0 4) ((m.body.drop 4).take 16) ((m.body.drop 20).take (leAt ((m.body.drop 4).take 16) 4 4))
        ((m.body.drop 20).drop (leAt ((m.body.drop 4).take 16) 4 4)) body b c ∧ Answers src port m body { b with otp := c.otp } c := by
  obtain ⟨hwritten, hframe⟩ := b.otpWrite_spec (leAt m.body 0 4) ((m.body.drop 4).take 16)
    ((m.body.drop 20).take (leAt ((m.body.drop 4).take 16) 4 4)) ((m.body.drop 20).drop (leAt ((m.body.drop 4).take 16) 4 4))
  have hact := otpAct_wellFormed (x := b.recSeen t port) hl hs
  rw [Blk.otpWrite_recSeen] at hact
  rw [b.recOtpWrite_eq src port d, h.recover_answered hop hact]
  generalize b.otpWrite (leAt m.body 0 4) ((m.body.drop 4).take 16) ((m.body.drop 20).take (leAt ((m.body.drop 4).take 16) 4 4))
    ((m.body.drop 20).drop (leAt ((m.body.drop 4).take 16) 4 4)) = r at hwritten hframe ⊢
  obtain ⟨c, body⟩ := r
  dsimp only at hwritten hframe ⊢
  have hanswer := (h.recovers.withOtp c.otp).answers src port m body
  rw [← hframe] at hanswer
  have hotp : (c.recAnswer src port m body).otp = c.otp := by rw [← hanswer.1]
  refine ⟨body, ?_, ?_⟩
  · unfold OtpWritten at hwritten ⊢
    rwa [hotp]
  · rw [hotp, ← hframe]
    exact hanswer

theorem Blk.Hears.readLog (hop : m.op = 6) : Answers src port m
    (if m.body.length = 4 then [0] ++ ((b.jrn.faults.all.drop (leAt m.body 0 4)).take 63).flatten else [1]) b
      (b.recReadLog src port d) := by
  rw [b.recReadLog_eq src port d]
  split
  next hl =>
    rw [h.recover_answered (c := b) hop (if_neg (not_not_intro hl))]
    exact h.recovers.answers src port m _
  next hl =>
    rw [h.recover_answered (c := b) hop (if_pos hl)]
    exact h.recovers.answers src port m _

/-- RESTART is accepted at once. -/
theorem Blk.Hears.restartAccepted (hop : m.op = 7) :
    Answers src port m [0] { b with boot := { b.boot with restart := true } } (b.recover 7 src port d restartAct) := by
  rw [h.recover_answered (c := { b with boot := { b.boot with restart := true } }) hop rfl]
  exact (h.recovers.withBoot _).answers src port m _

theorem Blk.Hears.restart_waits (hop : m.op = 7) (hr : b.mod.recoverN = false) :
    Answers src port m [0] { b with boot := { b.boot with restart := true } } (b.recRestart src port d) := by
  have haccepted := h.restartAccepted (port := port) hop
  rwa [Blk.recRestart_stays rfl (.inr ((congrArg ModSt.recoverN (replies_mod haccepted)).trans hr))]

theorem Blk.Hears.restart_runs (hop : m.op = 7) (hr : b.mod.recoverN = true) :
    ∃ c, Answers src port m [0] { b with boot := { b.boot with restart := true } } c ∧ b.recRestart src port d = c.restart := by
  have haccepted := h.restartAccepted (port := port) hop
  have hrestart := congrArg BootSt.restart (replies_boot haccepted)
  have hhigh := (congrArg ModSt.recoverN (replies_mod haccepted)).trans hr
  refine ⟨_, haccepted, ?_⟩
  rw [b.recRestart_eq src port d]
  exact if_pos ⟨hrestart, hhigh⟩

/-- A datagram of no operation is answered BAD_FORMAT. -/
theorem Blk.Hears.none (hop : m.op = 0 ∨ 8 ≤ m.op) : Answers src port m [1] b (b.byOp src port d m.op) := by
  rw [Blk.byOp_none hop, h.recover_answered (c := b) rfl rfl]
  exact h.recovers.answers src port m _

end heard

end Sys2Proof.Machine
end

section
/-!
PROOFS. The end of a recovery COMMIT (O59).
-/

namespace Sys2Proof.Machine

open Sys2Proof.Claims

/-- The reason and part of the first fault of the package that was received, if any (R414). -/
def Blk.receivedFault (b : Blk) : Option (Nat × Nat) :=
  if b.boot.want ≠ some b.boot.got.length then some (3, 0xFF) else b.packageCheck none b.boot.got.length b.boot.got

/-- From `a` to `c` a package has been staged into set `k`, or failed: what is kept. -/
structure Blk.StagedInto (k : Bool) (a c : Blk) : Prop where
  other : c.boot.bootRec.set (!k) = a.boot.bootRec.set (!k)
  fails : c.boot.bootRec.fails = a.boot.bootRec.fails
  regs : RegsKeptBut (fun r i => RecReg r i ∨ (i = 0 ∧ r ∈ bootShown)) a c
  frame : { a with regs := c.regs, mod := c.mod, jrn := c.jrn, boot := c.boot } = c
  phase : c.mod.phase = a.mod.phase

theorem Blk.StagedInto.recovers {k : Bool} {a c : Blk} (h : a.StagedInto k c) (ha : a.Recovers) : c.Recovers where
  phase := h.phase.trans ha.phase
  running := (Blk.flag_congr (h.regs F.DBG_STATUS_FROZEN.reg 0 (by simp [RecReg, bootShown]))).trans ha.running
  enabled := (Blk.flag_congr (h.regs F.ETH_CTRL_EN.reg 5 (by simp [RecReg]))).trans ha.enabled
  link := (Blk.flag_congr (h.regs F.ETH_STATUS_LINK.reg 5 (by simp [RecReg]))).trans ha.link

theorem StagingFails.phase {k : Bool} {reason part : Nat} {a c : Blk} (h : StagingFails k reason part a c) :
    c.mod.phase = a.mod.phase := by
  obtain ⟨-, -, -, hmod, -⟩ := h
  rw [hmod]
  exact a.raise_phase ..

/-- The registers show the set that does not run as it stands in the boot record, `run` being the set that runs. -/
def Blk.ShowsOther (run : Bool) (c : Blk) : Prop := let o := c.boot.bootRec.set (!run)
  c.flag F.BOOT_STATUS_FALLBACK_V 0 = (o.state == 3) ∧ c.reg .BOOT_FB_SEQ 0 = BitVec.ofNat 32 o.seq

theorem Blk.OtherAsStored.showsOther {a c : Blk} (h : a.OtherAsStored c) : c.ShowsOther a.runSet := ⟨h.fallback, h.2⟩

section received

variable {a : Blk} (x : BootSt) (hx0 : x.copy0 = a.boot.copy0) (hx1 : x.copy1 = a.boot.copy1)

/-- A block that differs in registers and store alone also differs so much. -/
theorem Blk.frame_of_restaged {a c : Blk} (h : { a with regs := c.regs, boot := c.boot } = c) :
    { a with regs := c.regs, mod := c.mod, jrn := c.jrn, boot := c.boot } = c := by
  have hmod : c.mod = a.mod := by rw [← h]
  have hjrn : c.jrn = a.jrn := by rw [← h]
  rw [hmod, hjrn]
  exact h

theorem Blk.restaged_withBoot (a : Blk) (x : BootSt) : a.Restaged bootShown { a with boot := x } :=
  (Blk.Restaged.refl _ a).boot x

include hx0 hx1

/-- The package has a fault. -/
theorem Blk.stageFail_received (k : Bool) (reason part : Nat) : let c := ({ a with boot := x } : Blk).stageFail k reason part
    StagingFails k reason part a c ∧ c.boot = { x with staging := [] } ∧ a.StagedInto k c := by
  obtain ⟨hfails, hboot, hregs, hframe, -⟩ := Blk.stageFail_spec (a.restaged_withBoot x) (fun _ hr => hr) (by decide) k reason part
  dsimp only at hfails hboot hregs hframe ⊢
  generalize ({ a with boot := x } : Blk).stageFail k reason part = c at hfails hboot hregs hframe ⊢
  have hrec : c.boot.bootRec = a.boot.bootRec := by
    rw [hboot]
    exact BootSt.bootRec_congr hx0 hx1
  exact ⟨hfails, hboot, by rw [hrec], by rw [hrec], hregs, hframe, StagingFails.phase hfails⟩

/-- An entry of a sound package does not read back: the set stays EMPTY. -/
theorem Blk.stageFail_emptied (k : Bool) (part : Nat) : let c := (({ a with boot := x } : Blk).emptySet k).stageFail k 7 part
    StagingFails k 7 part a c ∧ c.boot.bootRec.set k = ⟨0, 0, 0⟩ ∧ c.boot.stored? k = x.stored? k ∧ c.ShowsOther a.runSet ∧
      c.boot.tool = x.tool ∧ c.boot.commit = x.commit ∧ a.StagedInto k c := by
  obtain ⟨hrest, heboot, hother, -⟩ := ({ a with boot := x } : Blk).emptySet_spec k
  dsimp only at hrest heboot hother ⊢
  generalize ({ a with boot := x } : Blk).emptySet k = e at hrest heboot hother ⊢
  obtain ⟨hfails, hboot, hregs, hframe, hkept⟩ := Blk.stageFail_spec
    ((a.restaged_withBoot x).trans (hrest.mono (by decide))) (fun _ hr => hr) (by decide) k 7 part
  dsimp only at hfails hboot hregs hframe hkept ⊢
  generalize e.stageFail k 7 part = c at hfails hboot hregs hframe hkept ⊢
  have hxrec : x.bootRec = a.boot.bootRec := BootSt.bootRec_congr hx0 hx1
  have hrec : c.boot.bootRec = (x.writeRec (x.bootRec.setSet k ⟨0, 0, 0⟩)).bootRec := by
    rw [hboot, heboot]
    rfl
  have hstored : c.boot.stored? k = x.stored? k := by
    have hkeep : ∀ y : BootSt, ({ y with staging := [] } : BootSt).stored? k = y.stored? k := fun y => by cases k <;> rfl
    rw [hboot, heboot, hkeep, BootSt.stored?_writeRec]
  have htool : c.boot.tool = x.tool ∧ c.boot.commit = x.commit := by
    rw [hboot, heboot, x.writeRec_frame]
    exact ⟨rfl, rfl⟩
  refine ⟨hfails, ?_, hstored, ?_, htool.1, htool.2, ?_, ?_, hregs, hframe, StagingFails.phase hfails⟩
  · rw [hrec, BootSt.set_writeRec_setSet_self]
  · refine Blk.OtherAsStored.showsOther (a := a) (Blk.OtherAsStored.congr (b := e) hother (hkept _ _ (by simp [RecReg]) (by decide))
      (hkept _ _ (by simp [RecReg]) (by decide)) ?_)
    rw [hrec, heboot]
  · rw [hrec, BootSt.set_writeRec_setSet_other, hxrec]
  · rw [hrec, BootSt.fails_writeRec, BootRec.fails_setSet, hxrec]

/-- A sound package is STAGED. -/
theorem Blk.stageSet_emptied (k : Bool) (pkg : List Byte) : let c := (({ a with boot := x } : Blk).emptySet k).stageSet k pkg
    c.boot.bootRec.set k = ⟨manifestSeq pkg, 1, 0⟩ ∧ c.boot.stored? k = setOfPackage pkg ∧ c.boot.stored? (!k) = x.stored? (!k) ∧
      NoRecord a c ∧ c.updState = a.updState ∧ c.ShowsOther a.runSet ∧ c.boot.tool = x.tool ∧ c.boot.commit = x.commit ∧
      a.StagedInto k c := by
  obtain ⟨hrest, heboot, hother, -⟩ := ({ a with boot := x } : Blk).emptySet_spec k
  dsimp only at hrest heboot hother ⊢
  generalize ({ a with boot := x } : Blk).emptySet k = e at hrest heboot hother ⊢
  obtain ⟨hrest', hboot, hother'⟩ := e.stageSet_spec k pkg
  generalize e.stageSet k pkg = c at hrest' hboot hother' ⊢
  have hall : a.Restaged [.BOOT_STATUS, .BOOT_FB_SEQ, .BOOT_UPD_SEQ] c :=
    (((Blk.Restaged.refl _ a).boot x).trans hrest).trans (hrest'.mono (by simp))
  have hxrec : x.bootRec = a.boot.bootRec := BootSt.bootRec_congr hx0 hx1
  have hrun : e.runSet = a.runSet := hother.runSet
  have hl : ∀ r ∈ [RegName.BOOT_STATUS, .BOOT_FB_SEQ, .BOOT_UPD_SEQ], r ∈ bootShown := by decide
  have hset : ∀ j, c.boot.bootRec.set j = (e.boot.bootRec.setSet k ⟨manifestSeq pkg, 1, 0⟩).set j := fun j => by
    rw [hboot, BootSt.set_writeRec]
  have hput : ∀ y : BootSt, (y.putSet k (setOfPackage pkg)).tool = y.tool ∧ (y.putSet k (setOfPackage pkg)).commit = y.commit :=
    fun y => by cases k <;> exact ⟨rfl, rfl⟩
  have htool : c.boot.tool = x.tool ∧ c.boot.commit = x.commit := by
    have hc : c.boot.tool = e.boot.tool ∧ c.boot.commit = e.boot.commit := by
      rw [hboot, BootSt.writeRec_frame]
      exact hput _
    have he : e.boot.tool = x.tool ∧ e.boot.commit = x.commit := by
      rw [heboot, BootSt.writeRec_frame]
      exact ⟨rfl, rfl⟩
    exact ⟨hc.1.trans he.1, hc.2.trans he.2⟩
  refine ⟨?_, ?_, ?_, ⟨hall.mod, hall.jrn⟩, Blk.updState_congr (hall.reg 0 (by decide)), ?_, htool.1, htool.2,
    ?_, ?_, fun r i hr => hall.1 r i fun hc => hr (.inr ⟨hc.1, hl r hc.2⟩), ?_, by rw [hall.mod]⟩
  · rw [hset, BootRec.set_setSet_self]
  · rw [hboot, BootSt.stored?_writeRec, BootSt.stored?_putSet_self]
  · rw [hboot, BootSt.stored?_writeRec, BootSt.stored?_putSet_other, heboot, BootSt.stored?_writeRec]
  · exact hrun ▸ hother'.showsOther
  · rw [hset, BootRec.set_setSet_other, heboot, BootSt.set_writeRec_setSet_other, hxrec]
  · rw [hboot, BootSt.fails_writeRec, BootRec.fails_setSet, heboot, BootSt.fails_writeRec, BootRec.fails_setSet, hxrec]
  · exact Blk.frame_of_restaged hall.2

end received

/-- What the end of a COMMIT does, by the fault of the package and an entry that does not read back. -/
theorem Blk.stageReceived_eq (b : Blk) (nand : Option Nat) : b.stageReceived nand =
    match b.receivedFault with
    | some (reason, part) => (b.stageFail b.boot.bootRec.spare reason part, [3, BitVec.ofNat 8 reason])
    | none =>
      match nand with
      | some part => ((b.emptySet b.boot.bootRec.spare).stageFail b.boot.bootRec.spare 7 part, [3, 7])
      | none => ((b.emptySet b.boot.bootRec.spare).stageSet b.boot.bootRec.spare b.boot.got, [0]) := rfl

theorem Blk.packageCheck_withBoot (b : Blk) (x : BootSt) (floor : Option Nat) (len : Nat) (pkg : List Byte) :
    ({ b with boot := x } : Blk).packageCheck floor len pkg = b.packageCheck floor len pkg := rfl

/-- The block while its COMMIT ends. -/
def Blk.uncommitted (b : Blk) : Blk := { b with boot := { b.boot with commit := none } }

theorem Blk.receivedFault_uncommitted (b : Blk) : b.uncommitted.receivedFault = b.receivedFault := by
  unfold Blk.receivedFault Blk.uncommitted
  rw [Blk.packageCheck_withBoot]

theorem Blk.recCommitDone_eq {b : Blk} (h : b.Recovers) {q : BitVec 32} (hq : b.boot.commit = some q) (nand : Option Nat) {t : Tool}
    {c : Blk} {body : List Byte} (hs : b.uncommitted.stageReceived nand = (c, body)) (ht : c.boot.tool = some t) :
    b.recCommitDone nand = c.recAnswer t.addr t.port ⟨1, 4, q, []⟩ body := by
  rw [Blk.recCommitDone, Blk.when_of _ (by simp [h.phase, h.running]), hq]
  dsimp only
  rw [← Blk.uncommitted, hs]
  dsimp only
  rw [ht]

/-- What the end of a COMMIT leaves, as O59 states of it: the set, the records, the registers and the answer. -/
theorem Blk.recCommitDone_spec {b : Blk} (h : b.Recovers) {q : BitVec 32} {t : Tool} (hq : b.boot.commit = some q)
    (ht : b.boot.tool = some t) (nand : Option (Fin 64)) : let k := b.boot.bootRec.spare
    ∃ (body : List Byte) (c : Blk), Answers t.addr t.port ⟨1, 4, q, []⟩ body c (b.recCommitDone (nand.map (·.val))) ∧
      c.boot.commit = none ∧
      (∀ reason part, b.receivedFault = some (reason, part) → body = [3, BitVec.ofNat 8 reason] ∧ StagingFails k reason part b c ∧
        c.boot = { b.boot with commit := none, staging := [] }) ∧
      (b.receivedFault = none → nand = none → body = [0] ∧ c.boot.bootRec.set k = ⟨manifestSeq b.boot.got, 1, 0⟩ ∧
        c.boot.stored? k = setOfPackage b.boot.got ∧ c.boot.stored? (!k) = b.boot.stored? (!k) ∧ NoRecord b c ∧
        c.updState = b.updState) ∧
      (∀ part : Fin 64, b.receivedFault = none → nand = some part → body = [3, 7] ∧ StagingFails k 7 part b c ∧
        c.boot.bootRec.set k = ⟨0, 0, 0⟩ ∧ c.boot.stored? k = b.boot.stored? k) ∧
      (b.receivedFault = none → c.ShowsOther b.runSet) ∧ b.StagedInto k c := by
  have hspare : b.uncommitted.boot.bootRec.spare = b.boot.bootRec.spare := rfl
  have hstored : ∀ j, b.uncommitted.boot.stored? j = b.boot.stored? j := fun j => by cases j <;> rfl
  have hreceived := b.uncommitted.stageReceived_eq (nand.map (·.val))
  rw [Blk.receivedFault_uncommitted, hspare] at hreceived
  dsimp only
  generalize b.boot.bootRec.spare = k at hreceived ⊢
  rcases hfault : b.receivedFault with _ | ⟨reason, part⟩
  · rcases nand with _ | part
    · obtain ⟨hset, hnew, hold, hrec, hupd, hshows, htool, hcommit, hinto⟩ :=
        Blk.stageSet_emptied (a := b) b.uncommitted.boot rfl rfl k b.boot.got
      rw [hfault] at hreceived
      refine ⟨[0], _, ?_, hcommit, nofun, fun _ _ => ⟨rfl, hset, hnew, hold.trans (hstored _), hrec, hupd⟩, nofun, fun _ => hshows, hinto⟩
      rw [Blk.recCommitDone_eq h hq _ hreceived (htool.trans ht)]
      exact (hinto.recovers h).answers ..
    · obtain ⟨hfails, hset, hkept, hshows, htool, hcommit, hinto⟩ :=
        Blk.stageFail_emptied (a := b) b.uncommitted.boot rfl rfl k part
      rw [hfault] at hreceived
      refine ⟨[3, 7], _, ?_, hcommit, nofun, nofun, fun p _ hp => ?_, fun _ => hshows, hinto⟩
      · rw [Blk.recCommitDone_eq h hq _ hreceived (htool.trans ht)]
        exact (hinto.recovers h).answers ..
      · cases hp
        exact ⟨rfl, hfails, hset, hkept.trans (hstored k)⟩
  · obtain ⟨hfails, hboot, hinto⟩ := Blk.stageFail_received (a := b) b.uncommitted.boot rfl rfl k reason part
    rw [hfault] at hreceived
    refine ⟨[3, BitVec.ofNat 8 reason], _, ?_, congrArg BootSt.commit hboot, fun r p hp => ?_, nofun, nofun, nofun, hinto⟩
    · rw [Blk.recCommitDone_eq h hq _ hreceived ((congrArg BootSt.tool hboot).trans ht)]
      exact (hinto.recovers h).answers ..
    · cases hp
      exact ⟨rfl, hfails, hboot⟩

end Sys2Proof.Machine
end

section
/-!
PROOFS. What the ticks of a start and the tick on which CONFIG_DONE becomes 1 leave alone (O59).
-/

namespace Sys2Proof.Machine

open Sys2Proof.Claims

/-- The registers that tell how a start has ended. -/
def startRegs : List RegName := [.SYS_STATUS, .BOOT_STATUS, .SYS_NODE]

/-- From `a` to `b` the registers that tell how a start has ended stay, and so do the phase, VBAT, the boot record with the sets,
memory and OTP. -/
structure Blk.Steady (a b : Blk) : Prop where
  regs : ∀ r i, r ∈ startRegs → b.reg r i = a.reg r i
  mem : b.mem = a.mem
  otp : b.otp = a.otp
  phase : b.mod.phase = a.mod.phase
  vbat : b.mod.vbat = a.mod.vbat
  boot : b.boot = a.boot

namespace Blk.Steady

variable {a b c : Blk}

theorem refl (b : Blk) : b.Steady b := ⟨fun _ _ _ => rfl, rfl, rfl, rfl, rfl, rfl⟩

theorem fld (h : a.Steady b) (f : Fld) (i : Nat) (hf : f.reg ∈ startRegs) : b.fld f i = a.fld f i :=
  congrArg f.get (h.regs _ _ hf)

theorem flag (h : a.Steady b) (f : Fld) (i : Nat) (hf : f.reg ∈ startRegs) : b.flag f i = a.flag f i :=
  congrArg (· != 0) (h.fld f i hf)

theorem units (h : a.Steady b) {bus jrn tbu le afe hpc out cam fus gnss yld fab net pwr dbg free} :
    Blk.Steady a ⟨b.regs, b.mem, b.otp, b.mod, bus, jrn, tbu, le, afe, hpc, out, cam, fus, gnss, yld, fab, net, pwr, b.boot, dbg,
      free⟩ := ⟨h.regs, h.mem, h.otp, h.phase, h.vbat, h.boot⟩

theorem withMod (h : a.Steady b) {m : ModSt} (hm : m.phase = b.mod.phase) (hv : m.vbat = b.mod.vbat) : a.Steady { b with mod := m } :=
  ⟨h.regs, h.mem, h.otp, hm.trans h.phase, hv.trans h.vbat, h.boot⟩

theorem ite {p : Prop} [Decidable p] (hb : a.Steady b) (hc : a.Steady c) : a.Steady (if p then b else c) := by
  split <;> assumption

theorem when (h : a.Steady b) {p f} (hf : ∀ {b : Blk}, a.Steady b → a.Steady (f b)) : a.Steady (b.when p f) := by
  cases p
  · exact h
  · exact hf h

theorem foldl {α : Type} {l : List α} {f : Blk → α → Blk} (h : a.Steady b)
    (hf : ∀ {b : Blk} {x}, a.Steady b → a.Steady (f b x)) : a.Steady (l.foldl f b) := by
  induction l generalizing b with
  | nil => exact h
  | cons x l ih => exact ih (hf h)

/-! ### Registers and records -/

theorem setReg (h : a.Steady b) {r i v} (hr : r ∉ startRegs) : a.Steady (b.setReg r i v) :=
  ⟨fun q j hq => (b.reg_setReg_name _ _ v fun (e : q = r) => hr (e ▸ hq)).trans (h.regs q j hq), h.mem, h.otp, h.phase, h.vbat, h.boot⟩

theorem setFld (h : a.Steady b) {f i v} (hr : f.reg ∉ startRegs) : a.Steady (b.setFld f i v) := h.setReg hr

theorem setFlag (h : a.Steady b) {f i x} (hr : f.reg ∉ startRegs) : a.Steady (b.setFlag f i x) := h.setFld hr

theorem incFld (h : a.Steady b) {f i} (hr : f.reg ∉ startRegs) : a.Steady (b.incFld f i) := h.setFld hr

theorem addSat (h : a.Steady b) {f i n} (hr : f.reg ∉ startRegs) : a.Steady (b.addSat f i n) := h.setFld hr

theorem setReg64 (h : a.Steady b) {lo hi i v} (hlo : lo ∉ startRegs) (hhi : hi ∉ startRegs) :
    a.Steady (b.setReg64 lo hi i v) := (h.setReg hlo).setReg hhi

theorem holdRec (h : a.Steady b) {r} : a.Steady (b.holdRec r) := (h.addSat (by decide)).ite (h.withMod rfl rfl)

theorem raiseRec (h : a.Steady b) {r} : a.Steady (b.raiseRec r) := (h.units.setReg (by decide)).holdRec

theorem raise (h : a.Steady b) {source cls detail data} : a.Steady (b.raise source cls detail data) :=
  h.ite (h.raiseRec.ite (h.withMod rfl rfl))

/-! ### The companions -/

theorem setValve (h : a.Steady b) {c x} : a.Steady (b.setValve c x) := h.units

theorem setSwitch (h : a.Steady b) {c x} : a.Steady (b.setSwitch c x) := h.units

theorem setComp (h : a.Steady b) {k x} : a.Steady (b.setComp k x) := h.units

theorem setLinkUp (h : a.Steady b) {k on} : a.Steady (b.setLinkUp k on) := (h.setFlag (by decide)).ite (h.setFlag (by decide))

theorem solFast (h : a.Steady b) {c} : a.Steady (b.solFast c) := by
  have hd := (h.setFld (f := F.SOL_DUTY_DUTY) (i := c) (v := 0) (by decide)).setFld (f := F.SOL_STATUS_DUTY_SAT) (i := c) (v := 0)
    (by decide)
  exact hd.setValve.ite (hd.setValve.setFld (by decide))

theorem solForget (h : a.Steady b) {c} : a.Steady (b.solForget c) := h.setValve

theorem solStop (h : a.Steady b) {c} : a.Steady (b.solStop c) := h.solFast.solForget

theorem lswSwitch (h : a.Steady b) {c on} : a.Steady (b.lswSwitch c on) := by
  have ho := h.setFlag (f := F.LSW_STATUS_OUT) (i := c) (x := on) (by decide)
  exact h.ite (((ho.setSwitch.setFld (by decide)).setFld (by decide)).ite ho.setSwitch)

theorem lswUpdate (h : a.Steady b) {c} : a.Steady (b.lswUpdate c) := h.lswSwitch

theorem lswForget (h : a.Steady b) {c} : a.Steady (b.lswForget c) := (h.setFld (by decide)).setSwitch

theorem lswDrop (h : a.Steady b) {c} : a.Steady (b.lswDrop c) := h.lswForget.lswUpdate

theorem bankUpdate (h : a.Steady b) {k} : a.Steady (b.bankUpdate k) := h.foldl fun h => h.lswUpdate

theorem valveLimp (h : a.Steady b) {c} : a.Steady (b.valveLimp c) := h.solStop.ite h.solForget.setValve

theorem switchLimp (h : a.Steady b) {c} : a.Steady (b.switchLimp c) := (h.lswForget.setSwitch.setFlag (by decide)).lswUpdate

theorem limpEnter (h : a.Steady b) {k} : a.Steady (b.limpEnter k) :=
  h.ite ((h.setComp.foldl fun h => h.valveLimp).ite (h.setComp.foldl fun h => h.switchLimp))

theorem limpHomeEntry (h : a.Steady b) : a.Steady b.limpHomeEntry := h.when fun h => h.foldl fun h => h.limpEnter

theorem linkFrame (h : a.Steady b) {k} : a.Steady (b.linkFrame k) := by
  unfold Blk.linkFrame
  refine h.when fun h => ?_
  extract_lets x done b1 src b2
  have h2 : a.Steady b2 := h.setComp.setLinkUp.units.ite h.setComp.setLinkUp
  exact h2.bankUpdate.ite h2

theorem watchdogExpiry (h : a.Steady b) {k} : a.Steady (b.watchdogExpiry k) :=
  h.when fun h => ((h.setComp.setLinkUp.setFld (by decide)).ite (h.setComp.setLinkUp.setFld (by decide))).limpEnter

theorem pass (h : a.Steady b) {n} : a.Steady (b.pass n) :=
  (h.foldl fun h => h.setReg64 (by decide) (by decide)).foldl fun h => h.watchdogExpiry

theorem valveTrip (h : a.Steady b) {c} : a.Steady (b.valveTrip c) := (h.setFld (by decide)).solStop

theorem switchTrip (h : a.Steady b) {c} : a.Steady (b.switchTrip c) := (h.setFld (by decide)).lswDrop

theorem tripValves (h : a.Steady b) {t k} : a.Steady (b.tripValves t k) := h.ite ((h.foldl fun h => h.valveTrip).raise)

theorem tripSwitches (h : a.Steady b) {t k} : a.Steady (b.tripSwitches t k) :=
  h.ite ((h.foldl fun h => h.switchTrip).raise)

theorem tripAct (h : a.Steady b) {t} : a.Steady (b.tripAct t) :=
  (h.foldl fun h => h.tripValves).foldl fun h => h.tripSwitches

/-! ### Slots, the ledger and the best conductor -/

theorem dropLate (h : a.Steady b) {s} : a.Steady (b.dropLate s) := h.units

theorem armSlot (h : a.Steady b) {s} : a.Steady (b.armSlot s) := by
  unfold Blk.armSlot
  extract_lets b1 b2 src
  split
  · exact h.dropLate
  · split
    · exact ((h.dropLate.setFld (by decide)).setFld (by decide)).setFld (by decide)
    · have h2 : a.Steady b2 := (h.dropLate.setFld (by decide)).setFld (by decide)
      exact ((h.dropLate.setFld (by decide)).setFld (by decide)).ite (h2.units.ite h2)

theorem showFull (h : a.Steady b) : a.Steady b.showFull := h.setFlag (by decide)

theorem ledgerPut (h : a.Steady b) {e} : a.Steady (b.ledgerPut e) := (h.units.ite (h.units.ite (h.addSat (by decide)))).showFull

theorem ledgerRec (h : a.Steady b) {type kind flags o1 c1 o2 c2 area dry harv} :
    a.Steady (b.ledgerRec type kind flags o1 c1 o2 c2 area dry harv) := h.units.ledgerPut.incFld (by decide)

theorem showTotals (h : a.Steady b) : a.Steady b.showTotals :=
  ((h.setReg (by decide)).setReg (by decide)).setReg (by decide)

theorem openHour (h : a.Steady b) : a.Steady b.openHour := h.units

theorem openDay (h : a.Steady b) : a.Steady b.openDay :=
  (h.units.setReg64 (by decide) (by decide)).raise.ite (h.units.setReg64 (by decide) (by decide))

theorem checkNow (h : a.Steady b) : a.Steady b.checkNow := h.units

theorem seqKept (h : a.Steady b) : a.Steady b.seqKept := (h.setReg (by decide)).showFull

theorem ledgerRestart (h : a.Steady b) : a.Steady b.ledgerRestart := by
  unfold Blk.ledgerRestart
  extract_lets k src b1 b2 b3 b4 b5 b6 src2 b7
  split
  · exact h
  · have h3 : a.Steady b3 := h.units.ledgerRec.ledgerRec
    have h6 : a.Steady b6 := h3.ledgerRec.raise.setFld (by decide)
    exact h6.units.openHour.openDay.checkNow.showTotals

theorem ledgerBegin (h : a.Steady b) : a.Steady b.ledgerBegin := h.ite h.units.ledgerRestart

theorem topoChange (h : a.Steady b) : a.Steady b.topoChange := h.units

theorem updateBest (h : a.Steady b) : a.Steady b.updateBest := by
  unfold Blk.updateBest
  extract_lets was
  split
  · exact ((h.setFld (by decide)).foldl fun h => (h.setFld (by decide)).setFld (by decide)).units
  · extract_lets held b1 b2 own src b3 src2
    have h2 : a.Steady b2 := ((h.setFld (by decide)).setFlag (by decide)).foldl fun h =>
      (h.setFlag (by decide)).setFlag (by decide)
    exact h2.units.units.topoChange.ite (h2.units.units.ite h2.units)

/-! ### The tick of CONFIG_DONE -/

theorem releaseRecs (h : a.Steady b) : a.Steady b.releaseRecs :=
  (h.withMod (m := { b.mod with heldRecs := [] }) rfl rfl).foldl fun h => h.raiseRec

/-- A trip input asserted before the start is seen. -/
theorem tripsSeen (h : a.Steady b) :
    a.Steady ([(F.SOL_TRIP_IN_SEEN, F.SOL_TRIP_IN_LEVEL), (F.LSW_TRIP_IN_SEEN, F.LSW_TRIP_IN_LEVEL)].foldl
      (fun b f => b.setFld f.1 0 (b.fld f.1 0 ||| b.fld f.2 0)) b) := by
  rw [List.foldl_cons, List.foldl_cons, List.foldl_nil]
  exact (h.setFld (by decide)).setFld (by decide)

theorem goLive (h : a.Steady b) : a.Steady b.goLive := by
  unfold Blk.goLive
  extract_lets b1 b2 b3 b4 b5 b6
  have h2 : a.Steady b2 := (h.setFld (by decide)).foldl fun h => h.armSlot
  have h3 : a.Steady b3 := h2.foldl fun h => h.linkFrame
  have h4 : a.Steady b4 := h3.tripsSeen
  have h5 : a.Steady b5 := by
    unfold b5
    refine h4.foldl fun h => ?_
    exact h.tripAct.ite h
  exact ((h5.seqKept.ite h5).ledgerBegin.ite (h5.seqKept.ite h5)).updateBest

end Blk.Steady

end Sys2Proof.Machine
end

section
/-!
PROOFS. What a restart and the loss of the supply leave (O59).
-/

namespace Sys2Proof.Machine

open Sys2Proof.Claims

/-! ## Registers alone -/

/-- From `a` to `b` nothing but registers changes, and of them only those in `l`. -/
def Blk.OnlyRegs (l : List RegName) (a b : Blk) : Prop := RegsKeptBut (fun r _ => r ∈ l) a b ∧ { a with regs := b.regs } = b

namespace Blk.OnlyRegs

variable {l : List RegName} {a b : Blk}

theorem refl (b : Blk) : Blk.OnlyRegs l b b := ⟨fun _ _ _ => rfl, rfl⟩

theorem setReg (h : Blk.OnlyRegs l a b) {r i v} (hr : r ∈ l) : Blk.OnlyRegs l a (b.setReg r i v) := by
  refine ⟨fun q j hq => (b.reg_setReg_name _ _ v fun (e : q = r) => hq (e ▸ hr)).trans (h.1 q j hq), ?_⟩
  have hb := h.2
  rw [b.setReg_eq]
  generalize b.regs = m at hb ⊢
  rw [← hb]

theorem setFlag (h : Blk.OnlyRegs l a b) {f i x} (hr : f.reg ∈ l) : Blk.OnlyRegs l a (b.setFlag f i x) := h.setReg hr

theorem mono (h : Blk.OnlyRegs l a b) {m : List RegName} (hm : ∀ r ∈ l, r ∈ m) : Blk.OnlyRegs m a b :=
  ⟨fun r i hr => h.1 r i fun e => hr (hm r e), h.2⟩

theorem foldl {α : Type} {xs : List α} {f : Blk → α → Blk} (h : Blk.OnlyRegs l a b)
    (hf : ∀ {b : Blk} {x}, x ∈ xs → Blk.OnlyRegs l a b → Blk.OnlyRegs l a (f b x)) : Blk.OnlyRegs l a (xs.foldl f b) := by
  induction xs generalizing b with
  | nil => exact h
  | cons x xs ih => exact ih (hf (.head _) h) fun hx => hf (.tail _ hx)

end Blk.OnlyRegs

/-! ## A restart (R11, R450) -/

/-- The registers that show what the companions do now. -/
def companionRegs : List RegName := [.SOL_STATUS, .LSW_STATUS, .LSW_LIMP, .LSW_BANK_STATUS]

/-- The registers that a restart does not leave at their reset values: what the companions do now, and the strap sampled. -/
def restartRegs : List RegName := [.SOL_STATUS, .LSW_STATUS, .LSW_LIMP, .LSW_BANK_STATUS, .DBG_STATUS]

/-- The companions' registers keep their live bits. -/
theorem Blk.OnlyRegs.keepLive {a b : Blk} (h : Blk.OnlyRegs companionRegs a b) (old : Blk) :
    Blk.OnlyRegs companionRegs a (b.keepLive old) := by
  have hlive : ∀ x ∈ liveRegs, x.1 ∈ companionRegs := by decide
  exact h.foldl fun hx h => h.foldl fun _ h => h.setReg (hlive _ hx)

/-- A map without some of its keys. -/
theorem SMap.get_filter {κ α : Type} [DecidableEq κ] (m : SMap κ α) (p : κ → Bool) (k : κ) (d : α) :
    SMap.get (m.filter fun e => p e.1) k d = if p k then SMap.get m k d else d := by
  induction m with
  | nil => simp
  | cons e m ih =>
    obtain ⟨j, v⟩ := e
    by_cases hj : j = k
    · subst hj
      cases hp : p j <;> simp [hp, SMap.get, ih]
    · cases hp : p j <;> simp [hp, SMap.get, ih, hj]

/-- What a restart leaves (R450): lower shared SRAM, OTP, the config store, the journal and what AON holds. -/
theorem Blk.restart_units (b : Blk) : ∃ a c : Blk, Blk.OnlyRegs companionRegs a c ∧ b.restart = c.sampleStraps ∧ a.regs = [] ∧
    a.mem = b.mem.filter (fun c => inAon c.1) ∧ a.otp = b.otp ∧ a.mod = { b.mod with phase := .released } ∧
    a.jrn = b.jrn.each JRegion.carry ∧ a.boot = b.boot.stored ∧ a.yld.held = b.yld.held ∧ a.dbg.freezeId = b.dbg.freezeId :=
  ⟨_, _, (Blk.OnlyRegs.refl _).keepLive b, rfl, rfl, rfl, rfl, rfl, rfl, rfl, rfl, rfl⟩

/-- After a restart the registers are at their reset values, but for a few, and the units are those of a block `a`. -/
theorem Blk.OnlyRegs.restart {a b c : Blk} (h : Blk.OnlyRegs companionRegs a c) (hc : b.restart = c.sampleStraps) :
    Blk.OnlyRegs restartRegs a b.restart := hc ▸ (h.mono (by decide)).setFlag (by decide)

theorem Blk.restart_mod (b : Blk) : b.restart.mod = { b.mod with phase := .released } := by
  obtain ⟨a, c, hac, hc, -, -, -, hm, -⟩ := b.restart_units
  rw [← (hac.restart hc).2, ← hm]

theorem Blk.restart_otp (b : Blk) : b.restart.otp = b.otp := by
  obtain ⟨a, c, hac, hc, -, -, ho, -⟩ := b.restart_units
  rw [← (hac.restart hc).2, ← ho]

theorem Blk.restart_jrn (b : Blk) : b.restart.jrn = b.jrn.each JRegion.carry := by
  obtain ⟨a, c, hac, hc, -, -, -, -, hj, -⟩ := b.restart_units
  rw [← (hac.restart hc).2, ← hj]

theorem Blk.restart_boot (b : Blk) : b.restart.boot = b.boot.stored := by
  obtain ⟨a, c, hac, hc, -, -, -, -, -, hb, -⟩ := b.restart_units
  rw [← (hac.restart hc).2, ← hb]

theorem Blk.restart_held (b : Blk) : b.restart.yld.held = b.yld.held ∧ b.restart.dbg.freezeId = b.dbg.freezeId := by
  obtain ⟨a, c, hac, hc, -, -, -, -, -, -, hy, hd⟩ := b.restart_units
  rw [← (hac.restart hc).2]
  exact ⟨hy, hd⟩

theorem Blk.byte_restart (b : Blk) (x : Nat) :
    b.restart.byte x = if 0x10000000 ≤ x ∧ x < 0x11000000 then b.byte x else freshByte := by
  obtain ⟨a, c, hac, hc, -, hm, -⟩ := b.restart_units
  rw [← (hac.restart hc).2, Blk.byte, hm, SMap.get_filter b.mem inAon x freshByte, Blk.byte]
  simp only [inAon, Bool.and_eq_true, decide_eq_true_eq]

theorem Blk.reg_restart (b : Blk) {r : RegName} (i : Nat) (hr : r ∉ restartRegs) : b.restart.reg r i = r.resetWord i := by
  obtain ⟨a, c, hac, hc, hregs, -⟩ := b.restart_units
  rw [(hac.restart hc).1 r i hr, Blk.reg, hregs, SMap.get_nil]

/-- After a restart the configuration is not in force. -/
theorem Blk.restart_configDone (b : Blk) : b.restart.configDone = false :=
  (Blk.flag_congr (b.reg_restart 0 (by decide))).trans (Blk.flag_reset_of_zero (c := 0) rfl rfl)

/-- The strap sampled stands apart from the flag that says that the node is frozen. -/
theorem Blk.restart_frozen (b : Blk) : b.restart.frozen = false := by
  obtain ⟨a, c, hac, hc, hregs, -⟩ := b.restart_units
  have hreg : c.reg .DBG_STATUS 0 = Blk.reset.reg .DBG_STATUS 0 := by
    rw [hac.1 .DBG_STATUS 0 (by decide), Blk.reg, hregs, Blk.reg, Blk.reset]
  rw [hc, Blk.frozen, Blk.sampleStraps, Blk.setFlag, Blk.flag_setFld_of_apart _ _ _ (by decide) (by decide), Blk.flag_congr hreg]
  exact Blk.flag_reset_of_zero (c := 0x10) rfl rfl

theorem Blk.restart_tb1 (b : Blk) : b.restart.tb1 = 0 := by
  rw [Blk.tb1, Blk.tb, Blk.reg64, b.reg_restart 1 (by decide), b.reg_restart 1 (by decide)]
  rfl

end Sys2Proof.Machine
end

section
/-!
PROOFS. The companions' limp-home at a start, the rise of the supply, and what a start finds (O59).
-/

namespace Sys2Proof.Machine

open Sys2Proof.Claims

/-! ## Companions in limp-home (R192) -/

theorem Blk.comp_setComp_self (b : Blk) (k : Nat) (x : CompSt) : (b.setComp k x).comp k = x :=
  SMap.get_put_self (lt := natLt) b.out.comp k x CompSt.zero

theorem Blk.comp_setComp_of_ne (b : Blk) {k j : Nat} (x : CompSt) (h : j ≠ k) : (b.setComp k x).comp j = b.comp j :=
  SMap.get_put_of_ne (lt := natLt) b.out.comp x CompSt.zero CompSt.zero h

/-- From `a` to `b` a companion in limp-home stays there. -/
def Blk.StaysLimp (a b : Blk) : Prop := ∀ k, (a.comp k).limp = true → (b.comp k).limp = true

namespace Blk.StaysLimp

variable {a b : Blk}

theorem refl (b : Blk) : b.StaysLimp b := fun _ h => h

theorem of_comp (h : a.StaysLimp b) {c : Blk} (hc : c.out.comp = b.out.comp) : a.StaysLimp c := fun k hk => by
  rw [Blk.comp, hc]
  exact h k hk

theorem ite {p : Prop} [Decidable p] {c : Blk} (hb : a.StaysLimp b) (hc : a.StaysLimp c) : a.StaysLimp (if p then b else c) := by
  split <;> assumption

theorem foldl {α : Type} {l : List α} {f : Blk → α → Blk} (h : a.StaysLimp b)
    (hf : ∀ {b : Blk} {x}, a.StaysLimp b → a.StaysLimp (f b x)) : a.StaysLimp (l.foldl f b) := by
  induction l generalizing b with
  | nil => exact h
  | cons x l ih => exact ih (hf h)

theorem when (h : a.StaysLimp b) {p : Bool} {f : Blk → Blk} (hf : a.StaysLimp (f b)) : a.StaysLimp (b.when p f) := by
  cases p
  · exact h
  · exact hf

theorem setReg (h : a.StaysLimp b) {r i v} : a.StaysLimp (b.setReg r i v) := h.of_comp rfl

theorem setFld (h : a.StaysLimp b) {f i v} : a.StaysLimp (b.setFld f i v) := h.setReg

theorem setFlag (h : a.StaysLimp b) {f i x} : a.StaysLimp (b.setFlag f i x) := h.setReg

theorem setReg64 (h : a.StaysLimp b) {lo hi i v} : a.StaysLimp (b.setReg64 lo hi i v) := h.setReg.setReg

theorem setValve (h : a.StaysLimp b) {c x} : a.StaysLimp (b.setValve c x) := h.of_comp rfl

theorem setSwitch (h : a.StaysLimp b) {c x} : a.StaysLimp (b.setSwitch c x) := h.of_comp rfl

theorem setComp (h : a.StaysLimp b) {k : Nat} {x : CompSt} (hx : (b.comp k).limp = true → x.limp = true) :
    a.StaysLimp (b.setComp k x) := fun j hj => by
  by_cases e : j = k
  · subst e
    rw [Blk.comp_setComp_self]
    exact hx (h j hj)
  · rw [Blk.comp_setComp_of_ne _ _ e]
    exact h j hj

theorem setLinkUp (h : a.StaysLimp b) {k on} : a.StaysLimp (b.setLinkUp k on) := h.setFlag.ite h.setFlag

theorem solFast (h : a.StaysLimp b) {c} : a.StaysLimp (b.solFast c) := h.setFld.setFld.setValve.ite h.setFld.setFld.setValve.setFld

theorem valveLimp (h : a.StaysLimp b) {c} : a.StaysLimp (b.valveLimp c) := h.solFast.setValve.ite h.setValve.setValve

theorem lswUpdate (h : a.StaysLimp b) {c} : a.StaysLimp (b.lswUpdate c) :=
  h.ite (h.setFlag.setSwitch.setFld.setFld.ite h.setFlag.setSwitch)

theorem switchLimp (h : a.StaysLimp b) {c} : a.StaysLimp (b.switchLimp c) := h.setFld.setSwitch.setSwitch.setFlag.lswUpdate

/-- The channels of a companion are told that it has entered limp-home. -/
theorem channels (h : a.StaysLimp b) {k : Nat} : a.StaysLimp
    (if k < 8 then (List.range 8).foldl (fun b j => b.valveLimp (8 * k + j)) b
      else (List.range 16).foldl (fun b j => b.switchLimp (16 * (k - 8) + j)) b) :=
  (h.foldl fun h => h.valveLimp).ite (h.foldl fun h => h.switchLimp)

theorem limpEnter (h : a.StaysLimp b) {k} : a.StaysLimp (b.limpEnter k) := h.ite (h.setComp (by exact fun _ => rfl)).channels

theorem watchdogExpiry (h : a.StaysLimp b) {k} : a.StaysLimp (b.watchdogExpiry k) := by
  unfold Blk.watchdogExpiry
  extract_lets x
  refine h.when ?_
  extract_lets c d
  have hc : a.StaysLimp c := (h.setComp (by exact id)).setLinkUp
  have hd : a.StaysLimp d := hc.setFld.ite hc.setFld
  exact hd.limpEnter

theorem pass (h : a.StaysLimp b) {n} : a.StaysLimp (b.pass n) :=
  (h.foldl fun h => h.setReg64).foldl fun h => h.watchdogExpiry

theorem raise (h : a.StaysLimp b) {source cls detail data} : a.StaysLimp (b.raise source cls detail data) :=
  h.of_comp (by rw [b.raise_frame])

end Blk.StaysLimp

/-- A companion that enters limp-home is there. -/
theorem Blk.limpEnter_limp (b : Blk) (k : Nat) : ((b.limpEnter k).comp k).limp = true := by
  unfold Blk.limpEnter
  split
  next h => exact h
  next =>
    refine (Blk.StaysLimp.refl _).channels k ?_
    rw [Blk.comp_setComp_self]

theorem Blk.limpEnter_all (b : Blk) (l : List Nat) : ∀ k ∈ l, ((l.foldl Blk.limpEnter b).comp k).limp = true := by
  induction l generalizing b with
  | nil => exact fun _ h => nomatch h
  | cons j l ih =>
    intro k hk
    rcases List.mem_cons.mp hk with rfl | hk
    · exact (Blk.StaysLimp.refl (b.limpEnter k)).foldl (fun h => h.limpEnter) k (b.limpEnter_limp k)
    · exact ih _ k hk

/-- Every companion is in limp-home. -/
def Blk.AllLimp (b : Blk) : Prop := ∀ k, k < 16 → (b.comp k).limp = true

theorem Blk.AllLimp.stays {a b : Blk} (ha : a.AllLimp) (h : a.StaysLimp b) : b.AllLimp := fun k hk => h k (ha k hk)

theorem Blk.AllLimp.of_comp {a b : Blk} (ha : a.AllLimp) (h : b.out.comp = a.out.comp) : b.AllLimp :=
  ha.stays ((Blk.StaysLimp.refl a).of_comp h)

/-- While the compute side does not run, LIMP_HOME_ENTRY puts every companion into limp-home (R192). -/
theorem Blk.limpHomeEntry_allLimp {b : Blk} (hp : b.mod.phase ≠ .off) (hr : b.mod.phase ≠ .running) : b.limpHomeEntry.AllLimp := by
  have hc : (b.powered && (decide (b.mod.phase ≠ .running) || (b.frozen && !b.flag F.DBG_STATUS_HOLD_STRAP 0))) = true := by
    rw [Blk.powered, decide_eq_true hp, decide_eq_true hr, Bool.true_or, Bool.true_and]
  rw [Blk.limpHomeEntry, hc]
  exact fun k hk => Blk.limpEnter_all b _ k (List.mem_range.mpr hk)

/-! ## The supply (R14, R368) -/

/-- The supply has risen, and is not NORMAL yet. -/
theorem Blk.rise_spec (b : Blk) (mv : Nat) : (b.rise mv).mod.phase = .rising ∧ (b.rise mv).mod.vbat = mv ∧
    (b.rise mv).configDone = false ∧ (b.rise mv).otp = b.otp ∧ (b.rise mv).boot = b.boot.stored ∧
    (∀ a, (b.rise mv).byte a = freshByte) ∧ (b.rise mv).AllLimp := by
  have hoff : b.powerOff.configDone = false := Blk.flag_reset_of_zero (c := 0) rfl rfl
  have hmem : b.powerOff.mem = [] := rfl
  have hotp : b.powerOff.otp = b.otp := rfl
  have hboot : b.powerOff.boot = b.boot.stored := rfl
  unfold Blk.rise
  generalize b.powerOff = c at hoff hmem hotp hboot ⊢
  extract_lets c' m
  generalize hd : Blk.mk _ _ _ _ _ _ _ _ _ _ _ _ _ _ _ _ _ _ _ _ _ = d
  have h := (Blk.Steady.refl d).limpHomeEntry
  have hphase : d.mod.phase = .rising := by rw [← hd]
  have hregs : d.regs = c.regs := by rw [← hd]
  have hdone : d.configDone = false := (Blk.flag_congr (Blk.reg_congr hregs _ _)).trans hoff
  refine ⟨h.phase.trans hphase, h.vbat.trans (by rw [← hd]), (h.flag F.SYS_STATUS_CONFIG_DONE 0 (by decide)).trans hdone,
    h.otp.trans (by rw [← hd, ← hotp]), h.boot.trans (by rw [← hd, ← hboot]), fun a => ?_,
    Blk.limpHomeEntry_allLimp (by rw [hphase]; decide) (by rw [hphase]; decide)⟩
  rw [Blk.byte, h.mem.trans (by rw [← hd, ← hmem] : d.mem = []), SMap.get_nil]

/-! ## What a start finds (steps 1 and 2 of R397) -/

namespace Blk.Steady

variable {a b : Blk}

theorem domainsUp (h : a.Steady b) : a.Steady b.domainsUp := by
  unfold Blk.domainsUp
  extract_lets c src
  have hc : a.Steady c := by
    unfold c
    refine h.foldl fun h => ?_
    exact (h.setFld (by decide)).ite h
  exact hc.units

theorem takeOtp (h : a.Steady b) : a.Steady b.takeOtp := by
  unfold Blk.takeOtp
  extract_lets c id d map
  have hc : a.Steady c :=
    (((h.setFld (by decide)).setFld (by decide)).setFld (by decide)).setFld (by decide)
  have hd : a.Steady d := (hc.setReg (by decide)).setReg64 (by decide) (by decide)
  exact hd.units

theorem takeJournal (h : a.Steady b) {torn} : a.Steady (b.takeJournal torn) :=
  h.units.setFld (by decide)

end Blk.Steady

theorem Blk.begin_otp (b : Blk) : b.begin_.otp = b.otp := by
  unfold Blk.begin_
  split
  · rfl
  · exact b.restart_otp
  · rfl

/-- A start finds the boot record and the sets as the config store holds them. -/
theorem Blk.begin_boot (b : Blk) : b.begin_.boot = b.boot.stored ∨ b.begin_.boot = b.boot := by
  unfold Blk.begin_
  split
  · exact .inl rfl
  · exact .inl b.restart_boot
  · exact .inr rfl

theorem Blk.begin_bootRec (b : Blk) : b.begin_.boot.bootRec = b.boot.bootRec := by
  rcases b.begin_boot with h | h
  · rw [h, BootSt.bootRec_stored]
  · rw [h]

/-- The pins sampled when reset is released: the node address, and the strap beside it. -/
theorem Blk.sampled_spec (b : Blk) (node : BitVec 9) (hold : Bool) :
    ((b.setFld F.SYS_NODE_NODE 0 node.toNat).setFlag F.DBG_STATUS_HOLD_STRAP 0 hold).fld F.SYS_NODE_NODE 0 = node.toNat := by
  have hlt : node.toNat < 2 ^ F.SYS_NODE_NODE.w := node.isLt
  refine (Blk.fld_setFld_of_apart (f := F.DBG_STATUS_HOLD_STRAP) _ 0 _ (by decide) (by decide)).trans ?_
  rw [Blk.fld_setFld_self _ _ _ _ (by decide), Nat.mod_eq_of_lt hlt]

theorem Blk.StaysLimp.takeJournal {a b : Blk} (h : a.StaysLimp b) {torn} : a.StaysLimp (b.takeJournal torn) := by
  unfold Blk.takeJournal
  extract_lets of_ j j' n
  have hj : a.StaysLimp { b with jrn := j' } := h.of_comp rfl
  exact hj.setFld

/-- Reset is released on `b`: the pins are sampled, and nothing else is taken yet. -/
structure Blk.Released (b : Blk) (x : StartIn) (c : Blk) : Prop where
  node : c.fld F.SYS_NODE_NODE 0 = x.node.toNat
  mem : c.mem = b.begin_.mem
  otp : c.otp = b.begin_.otp
  boot : c.boot = b.begin_.boot
  phase : c.mod.phase = .released

theorem Blk.Released.sampled {b a : Blk} {x : StartIn} (hmem : a.mem = b.begin_.mem) (hotp : a.otp = b.begin_.otp)
    (hboot : a.boot = b.begin_.boot) (hphase : a.mod.phase = .released) :
    b.Released x ((a.setFld F.SYS_NODE_NODE 0 x.node.toNat).setFlag F.DBG_STATUS_HOLD_STRAP 0 x.hold) where
  node := a.sampled_spec x.node x.hold
  mem := (Blk.setFlag_mem ..).trans ((Blk.setFld_mem ..).trans hmem)
  otp := (Blk.setFlag_otp ..).trans ((Blk.setFld_otp ..).trans hotp)
  boot := (Blk.setFlag_boot ..).trans ((Blk.setFld_boot ..).trans hboot)
  phase := (congrArg ModSt.phase ((Blk.setFlag_mod ..).trans (Blk.setFld_mod ..))).trans hphase

/-- A start goes on with every companion in limp-home. -/
theorem Blk.Steady.found {b c : Blk} {x : StartIn} (h : b.Released x c) :
    c.Steady ((c.domainsUp.takeOtp.limpHomeEntry).takeJournal x.torn) ∧
      ((c.domainsUp.takeOtp.limpHomeEntry).takeJournal x.torn).AllLimp := by
  have ht := (Blk.Steady.refl c).domainsUp.takeOtp
  have hp : c.domainsUp.takeOtp.mod.phase = .released := ht.phase.trans h.phase
  generalize c.domainsUp.takeOtp = d at ht hp ⊢
  have hl : d.limpHomeEntry.AllLimp := Blk.limpHomeEntry_allLimp (by rw [hp]; decide) (by rw [hp]; decide)
  refine ⟨ht.limpHomeEntry.takeJournal, ?_⟩
  generalize d.limpHomeEntry = e at hl ⊢
  exact hl.stays (Blk.StaysLimp.refl e).takeJournal

/-- What a start finds. -/
theorem Blk.prepare_found (b : Blk) (x : StartIn) :
    ∃ c, b.Released x c ∧ c.Steady (b.prepare x) ∧ (b.prepare x).AllLimp := by
  unfold Blk.prepare
  extract_lets b1 m b2 b3
  have h : b.Released x b3 := .sampled rfl rfl rfl rfl
  clear_value b3
  exact ⟨b3, h, Blk.Steady.found h⟩

/-- What a start finds: the address sampled, memory, OTP and the config store as they were, and every companion in limp-home. -/
theorem Blk.prepare_spec (b : Blk) (x : StartIn) : (b.prepare x).fld F.SYS_NODE_NODE 0 = x.node.toNat ∧
    (b.prepare x).mem = b.begin_.mem ∧ (b.prepare x).otp = b.begin_.otp ∧ (b.prepare x).boot = b.begin_.boot ∧
    (b.prepare x).mod.phase = .released ∧ (b.prepare x).AllLimp := by
  obtain ⟨c, hc, hs, hl⟩ := b.prepare_found x
  exact ⟨(hs.fld F.SYS_NODE_NODE 0 (by decide)).trans hc.node, hs.mem.trans hc.mem, hs.otp.trans hc.otp, hs.boot.trans hc.boot,
    hs.phase.trans hc.phase, hl⟩

theorem Blk.prepare_bootRec (b : Blk) (x : StartIn) : (b.prepare x).boot.bootRec = b.boot.bootRec := by
  obtain ⟨-, -, -, h, -⟩ := b.prepare_spec x
  rw [h, b.begin_bootRec]

end Sys2Proof.Machine
end

section
/-!
PROOFS. How a full start ends: in a commit, or held in reset (R397, R400, R410; O59).
-/

namespace Sys2Proof.Machine

open Sys2Proof.Claims

/-! ## The boot record -/

theorem BootRec.set_mark_self (r : BootRec) (k : Bool) (s : Nat) : ((r.mark k s).set k).state = s :=
  congrArg SetRec.state (r.set_setSet_self k _)

theorem BootRec.set_mark_other (r : BootRec) (k : Bool) (s : Nat) : (r.mark k s).set (!k) = r.set (!k) := r.set_setSet_other k _

theorem BootRec.fails_mark (r : BootRec) (k : Bool) (s : Nat) : (r.mark k s).fails = r.fails := r.fails_setSet k _

/-- Which set an Eclosion start tries, and which one a start on GOOD sets tries first, depend on the sets alone. -/
theorem BootRec.trial_congr {r q : BootRec} (h : ∀ k, q.set k = r.set k) : q.trial = r.trial := by
  have ha : q.a = r.a := h false
  have hb : q.b = r.b := h true
  simp only [BootRec.trial, BootRec.topGood, h, ha, hb]

theorem BootRec.best_congr {r q : BootRec} (h : ∀ k, q.set k = r.set k) : q.best = r.best := by
  have ha : q.a = r.a := h false
  have hb : q.b = r.b := h true
  simp only [BootRec.best, ha, hb]

/-- While set `k` is BAD, only the other one can be GOOD. -/
theorem BootRec.best_of_bad {r : BootRec} {k : Bool} (h : (r.set k).state = 4) :
    r.best = if (r.set (!k)).state = 3 then some (!k) else none := by
  cases k
  · have ha : r.a.state = 4 := h
    by_cases hb : r.b.state = 3
    · simp [BootRec.best, BootRec.set, ha, hb]
    · simp [BootRec.best, BootRec.set, ha, hb]
  · have hb : r.b.state = 4 := h
    by_cases ha : r.a.state = 3
    · simp [BootRec.best, BootRec.set, ha, hb]
    · simp [BootRec.best, BootRec.set, ha, hb]

theorem Blk.writeBootRec_bootRec (b : Blk) (r : BootRec) :
    (b.writeBootRec r).boot.bootRec = { r with counter := b.boot.bootRec.counter + 1 } := b.boot.bootRec_writeRec r

/-! ## The commit (R400) -/

/-- The registers show the set that runs, and how it was started. -/
theorem Blk.showStart_spec (b : Blk) (k : Bool) {kind : Nat} (hk : kind < 8) (r : BootRec) :
    (b.showStart k kind r).flag F.BOOT_STATUS_SET 0 = k ∧ (b.showStart k kind r).fld F.BOOT_STATUS_START_KIND 0 = kind := by
  have hkind : kind % 2 ^ F.BOOT_STATUS_START_KIND.w = kind := Nat.mod_eq_of_lt hk
  unfold Blk.showStart
  extract_lets b1 b2 b3 b4
  have h1 : b1.flag F.BOOT_STATUS_SET 0 = k := by
    unfold b1
    rw [Blk.flag_setFld_of_apart _ _ _ (by decide) (by decide), Blk.setFlag,
      Blk.flag_setFld_of_apart _ _ _ (by decide) (by decide), Blk.flag_setFlag_self _ _ _ _ (by decide) (by decide)]
  have h1' : b1.fld F.BOOT_STATUS_START_KIND 0 = kind := by
    unfold b1
    rw [Blk.fld_setFld_self _ _ _ _ (by decide), hkind]
  have h2 : b2.flag F.BOOT_STATUS_SET 0 = k := by
    unfold b2
    rw [Blk.setFlag, Blk.flag_setFld_of_apart _ _ _ (by decide) (by decide),
      Blk.flag_setFld_of_apart _ _ _ (by decide) (by decide), h1]
  have h2' : b2.fld F.BOOT_STATUS_START_KIND 0 = kind := by
    unfold b2
    rw [Blk.setFlag, Blk.fld_setFld_of_apart _ _ _ (by decide) (by decide),
      Blk.fld_setFld_of_apart _ _ _ (by decide) (by decide), h1']
  have h4 : b2.Steady (b4.setFld F.BOOT_START_MS_MS 0 (min 65535 (b4.tb1 / 1000000))) := by
    have h3 : b2.Steady b3 := ((Blk.Steady.refl b2).setReg (by decide)).setReg (by decide)
    have h4 : b2.Steady b4 := (h3.setReg (by decide)).ite h3
    exact h4.setFld (by decide)
  exact ⟨(h4.flag F.BOOT_STATUS_SET 0 (by decide)).trans h2, (h4.fld F.BOOT_STATUS_START_KIND 0 (by decide)).trans h2'⟩

/-- What a commit states stands in registers, the phase and the boot record alone. -/
theorem Committed.steady {a b : Blk} {k : Bool} {kind : Nat} (ha : Committed k kind a) (h : a.Steady b) : Committed k kind b := by
  obtain ⟨hphase, hdone, hset, hkind, hfails, hgood⟩ := ha
  refine ⟨h.phase.trans hphase, (h.flag F.SYS_STATUS_CONFIG_DONE 0 (by decide)).trans hdone,
    (h.flag F.BOOT_STATUS_SET 0 (by decide)).trans hset, (h.fld F.BOOT_STATUS_START_KIND 0 (by decide)).trans hkind, ?_, ?_⟩
  · rw [h.boot, hfails]
  · rw [h.boot, hgood]

/-- Set `k` is GOOD and CONFIG_DONE 1. -/
theorem Committed.of_shown {b : Blk} {k : Bool} {kind : Nat} (hset : b.flag F.BOOT_STATUS_SET 0 = k)
    (hkind : b.fld F.BOOT_STATUS_START_KIND 0 = kind) (hfails : b.boot.bootRec.fails = 0)
    (hgood : (b.boot.bootRec.set k).state = 3) :
    Committed k kind (({ b with mod := { b.mod with phase := .running } } : Blk).setFld F.SYS_STATUS_CONFIG_DONE 0 1) := by
  refine ⟨congrArg ModSt.phase (Blk.setFld_mod ..), ?_, ?_, ?_, ?_, ?_⟩
  · exact Blk.flag_setFlag_self _ F.SYS_STATUS_CONFIG_DONE 0 true (by decide) (by decide)
  · rw [Blk.flag_setFld_of_apart _ _ _ (by decide) (by decide)]
    exact hset
  · rw [Blk.fld_setFld_of_apart _ _ _ (by decide) (by decide)]
    exact hkind
  · rw [Blk.setFld_boot]
    exact hfails
  · rw [Blk.setFld_boot]
    exact hgood

/-- Set `k` is GOOD in the boot record, and FAILS is 0. -/
theorem Blk.recordGood_spec (b : Blk) (r : BootRec) (k : Bool) :
    (b.fixOwners.writeBootRec { r.mark k 3 with fails := 0 }).regs = b.regs ∧
      (b.fixOwners.writeBootRec { r.mark k 3 with fails := 0 }).boot.bootRec.fails = 0 ∧
      ((b.fixOwners.writeBootRec { r.mark k 3 with fails := 0 }).boot.bootRec.set k).state = 3 := by
  refine ⟨rfl, ?_, ?_⟩
  · rw [Blk.writeBootRec_bootRec]
  · rw [Blk.writeBootRec_bootRec, BootRec.set_withCounter, BootRec.set_withFails, BootRec.set_mark_self]

/-- The last steps of a start whose registers show the set that runs. -/
theorem Blk.commit_of_shown {b : Blk} {k : Bool} {kind : Nat} (hset : b.flag F.BOOT_STATUS_SET 0 = k)
    (hkind : b.fld F.BOOT_STATUS_START_KIND 0 = kind) (r : BootRec) :
    let c := b.fixOwners.writeBootRec { r.mark k 3 with fails := 0 }
    Committed k kind
      ((({ c with mod := { c.mod with phase := .running } } : Blk).setFld F.SYS_STATUS_CONFIG_DONE 0 1).releaseRecs.goLive) := by
  obtain ⟨hregs, hfails, hgood⟩ := b.recordGood_spec r k
  generalize b.fixOwners.writeBootRec { r.mark k 3 with fails := 0 } = c at hregs hfails hgood
  have hdone := Committed.of_shown ((Blk.flag_congr (Blk.reg_congr hregs _ _)).trans hset) ((Blk.fld_congr hregs _ _).trans hkind)
    hfails hgood
  exact Committed.steady hdone (Blk.Steady.refl _).releaseRecs.goLive

/-- A start that reaches its commit ends committed. -/
theorem Blk.commitStart_committed (b : Blk) (k : Bool) {kind : Nat} (hk : kind < 8) (n : Nat) :
    Committed k kind (b.commitStart k kind n) := by
  obtain ⟨hset, hkind⟩ := (b.pass (b.startTicks k kind n)).showStart_spec k hk (b.pass (b.startTicks k kind n)).boot.bootRec
  exact Blk.commit_of_shown hset hkind _

/-! ## A start that fails (R398, R410) -/

/-- From `a` to `b` the boot record stays, and so does what the companions are in. -/
structure Blk.KeepsRec (a b : Blk) : Prop where
  bootRec : b.boot.bootRec = a.boot.bootRec
  limp : a.StaysLimp b

theorem Blk.keepsRec_raise (b : Blk) (source cls detail data : Nat) : b.KeepsRec (b.raise source cls detail data) where
  bootRec := congrArg BootSt.bootRec (Blk.Steady.refl b).raise.boot
  limp := (Blk.StaysLimp.refl b).raise

theorem Blk.keepsRec_undo (b t : Blk) : b.KeepsRec (b.undo t) := ⟨rfl, (Blk.StaysLimp.refl b).of_comp rfl⟩

theorem Blk.KeepsRec.trans {a b c : Blk} (h : a.KeepsRec b) (h' : b.KeepsRec c) : a.KeepsRec c :=
  ⟨h'.bootRec.trans h.bootRec, fun k hk => h'.limp k (h.limp k hk)⟩

theorem Blk.keepsRec_pass (b : Blk) (n : Nat) : b.KeepsRec (b.pass n) where
  bootRec := congrArg BootSt.bootRec (Blk.Steady.refl b).pass.boot
  limp := (Blk.StaysLimp.refl b).pass

/-- The compute side of `b` is held from now on. -/
theorem Blk.hold_spec (b : Blk) :
    let c := { b.hold .failedHold with boot := { b.boot with heldAt := b.tb1 } }
    HeldInReset c ∧ b.KeepsRec c := by
  have hdone : (b.setFld F.SYS_STATUS_CONFIG_DONE 0 0).configDone = false :=
    Blk.flag_setFlag_self b F.SYS_STATUS_CONFIG_DONE 0 false (by decide) (by decide)
  have htb : (b.setFld F.SYS_STATUS_CONFIG_DONE 0 0).tb1 = b.tb1 := by
    rw [Blk.tb1, Blk.tb1, Blk.tb, Blk.tb, Blk.reg64, Blk.reg64, Blk.setFld, Blk.reg_setReg_name _ _ _ _ (by decide),
      Blk.reg_setReg_name _ _ _ _ (by decide)]
  have hlimp : b.StaysLimp (b.setFld F.SYS_STATUS_CONFIG_DONE 0 0) := (Blk.StaysLimp.refl b).setFld
  unfold Blk.hold
  generalize b.setFld F.SYS_STATUS_CONFIG_DONE 0 0 = c at hdone htb hlimp
  exact ⟨⟨rfl, hdone, htb.symm⟩, rfl, hlimp.of_comp rfl⟩

/-- A failed start is held in reset, and keeps the boot record. -/
theorem Blk.failedStart_spec (b : Blk) (n : Nat) : HeldInReset (b.failedStart n) ∧ b.KeepsRec (b.failedStart n) := by
  have hp := b.keepsRec_pass n
  unfold Blk.failedStart
  generalize b.pass n = c at hp
  extract_lets
  obtain ⟨hheld, hkeep⟩ := c.hold_spec
  exact ⟨hheld, hp.trans hkeep⟩

/-- From `a` to `b` set `k` has become BAD. -/
structure Blk.MarksBad (k : Bool) (a b : Blk) : Prop where
  bad : (b.boot.bootRec.set k).state = 4
  other : b.boot.bootRec.set (!k) = a.boot.bootRec.set (!k)
  fails : b.boot.bootRec.fails = a.boot.bootRec.fails
  limp : a.StaysLimp b

theorem Blk.MarksBad.after {k : Bool} {a b c : Blk} (h : b.MarksBad k c) (h' : a.KeepsRec b) : a.MarksBad k c where
  bad := h.bad
  other := by rw [h.other, h'.bootRec]
  fails := by rw [h.fails, h'.bootRec]
  limp := fun j hj => h.limp j (h'.limp j hj)

theorem Blk.MarksBad.keeps {k : Bool} {a b c : Blk} (h : a.MarksBad k b) (h' : b.KeepsRec c) : a.MarksBad k c where
  bad := by rw [h'.bootRec, h.bad]
  other := by rw [h'.bootRec, h.other]
  fails := by rw [h'.bootRec, h.fails]
  limp := fun j hj => h'.limp j (h.limp j hj)

theorem Blk.markBad_spec (b : Blk) (k : Bool) : b.MarksBad k (b.markBad k) := by
  have hrec : (b.markBad k).boot.bootRec = { b.boot.bootRec.mark k 4 with counter := b.boot.bootRec.counter + 1 } :=
    b.writeBootRec_bootRec _
  refine ⟨?_, ?_, ?_, (Blk.StaysLimp.refl b).of_comp rfl⟩
  · rw [hrec, BootRec.set_withCounter, BootRec.set_mark_self]
  · rw [hrec, BootRec.set_withCounter, BootRec.set_mark_other]
  · rw [hrec]
    exact BootRec.fails_mark ..

/-- After a failed try of set `k` it is BAD, and the other one and FAILS are as before. -/
theorem Blk.failed_spec (b t : Blk) (k : Bool) (f : StartFail) : b.MarksBad k (b.failed t k f) :=
  (((b.undo t).markBad_spec k).after (b.keepsRec_undo t)).keeps (Blk.keepsRec_raise ..)

/-- The record of the change of sets is raised after a failed try. -/
theorem Blk.failed_raise_spec (b t : Blk) (k : Bool) (f : StartFail) (source cls detail data : Nat) :
    b.MarksBad k ((b.failed t k f).raise source cls detail data) := (b.failed_spec t k f).keeps (Blk.keepsRec_raise ..)

end Sys2Proof.Machine
end

section
/-!
PROOFS. The sets that a full start tries, and how it ends (R397, R398, R400, R410; O59).
-/

namespace Sys2Proof.Machine

open Sys2Proof.Claims

/-! ## A start on GOOD sets -/

/-- A try of set `k` failed, and the other one is to run. -/
def Blk.fellBack (b t : Blk) (k : Bool) (f : StartFail) : Blk :=
  (b.failed t k f).raise 560 0x12 0x07 (updData 0xFF k f.reason 0)

theorem Blk.startGood_none {b : Blk} (kind n : Nat) (h : b.boot.bootRec.best = none) : b.startGood kind n = b.failedStart n := by
  rw [Blk.startGood, h]

theorem Blk.startGood_passes {b t : Blk} {k : Bool} (kind n : Nat) (h : b.boot.bootRec.best = some k)
    (ht : b.trySet k false none = (t, none)) : b.startGood kind n = t.commitStart k kind n := by
  simp only [Blk.startGood, h, ht]

theorem Blk.startGood_alone {b t : Blk} {k : Bool} {f : StartFail} (kind n : Nat) (h : b.boot.bootRec.best = some k)
    (ht : b.trySet k false none = (t, some f)) (ho : ((b.fellBack t k f).boot.bootRec.set (!k)).state ≠ 3) :
    b.startGood kind n = (b.fellBack t k f).failedStart n := by
  rw [Blk.fellBack] at ho ⊢
  simp only [Blk.startGood, h, ht, if_pos ho]

theorem Blk.startGood_other {b t u : Blk} {k : Bool} {f : StartFail} (kind n : Nat) (h : b.boot.bootRec.best = some k)
    (ht : b.trySet k false none = (t, some f)) (ho : ((b.fellBack t k f).boot.bootRec.set (!k)).state = 3)
    (hu : (b.fellBack t k f).trySet (!k) false none = (u, none)) : b.startGood kind n = u.commitStart (!k) 3 n := by
  rw [Blk.fellBack] at ho hu
  simp only [Blk.startGood, h, ht, if_neg (not_not_intro ho), hu]

theorem Blk.startGood_both {b t u : Blk} {k : Bool} {f g : StartFail} (kind n : Nat) (h : b.boot.bootRec.best = some k)
    (ht : b.trySet k false none = (t, some f)) (ho : ((b.fellBack t k f).boot.bootRec.set (!k)).state = 3)
    (hu : (b.fellBack t k f).trySet (!k) false none = (u, some g)) :
    b.startGood kind n =
      (((b.fellBack t k f).undo u).raise 560 0x12 g.detail (updData g.part (!k) g.reason g.item)).failedStart n := by
  rw [Blk.fellBack] at ho hu ⊢
  simp only [Blk.startGood, h, ht, if_neg (not_not_intro ho), hu]

theorem Blk.fellBack_spec (b t : Blk) (k : Bool) (f : StartFail) : b.MarksBad k (b.fellBack t k f) :=
  b.failed_raise_spec t k f 560 0x12 0x07 (updData 0xFF k f.reason 0)

/-- A start has ended with a set running, or in a hold with every companion in limp-home. -/
def Blk.Ended (b : Blk) : Prop := (∃ k kind, Committed k kind b) ∨ (HeldInReset b ∧ b.AllLimp)

theorem Blk.ended_of_commit (b : Blk) (k : Bool) {kind : Nat} (hk : kind < 8) (n : Nat) : (b.commitStart k kind n).Ended :=
  .inl ⟨k, kind, b.commitStart_committed k hk n⟩

theorem Blk.AllLimp.failedStart {b : Blk} (h : b.AllLimp) (n : Nat) : (b.failedStart n).Ended :=
  .inr ⟨(b.failedStart_spec n).1, h.stays (b.failedStart_spec n).2.limp⟩

/-- A start on GOOD sets ends. -/
theorem Blk.AllLimp.startGood {b : Blk} (h : b.AllLimp) {kind : Nat} (hk : kind < 8) (n : Nat) : (b.startGood kind n).Ended := by
  rcases hbest : b.boot.bootRec.best with _ | k
  · rw [Blk.startGood_none kind n hbest]
    exact h.failedStart n
  · rcases ht : b.trySet k false none with ⟨t, _ | f⟩
    · rw [Blk.startGood_passes kind n hbest ht]
      exact t.ended_of_commit k hk n
    · have hl : (b.fellBack t k f).AllLimp := h.stays (b.fellBack_spec t k f).limp
      by_cases ho : ((b.fellBack t k f).boot.bootRec.set (!k)).state = 3
      · rcases hu : (b.fellBack t k f).trySet (!k) false none with ⟨u, _ | g⟩
        · rw [Blk.startGood_other kind n hbest ht ho hu]
          exact u.ended_of_commit (!k) (by decide) n
        · rw [Blk.startGood_both kind n hbest ht ho hu]
          exact ((hl.stays (Blk.keepsRec_undo _ u).limp).stays (Blk.keepsRec_raise ..).limp).failedStart n
      · rw [Blk.startGood_alone kind n hbest ht ho]
        exact hl.failedStart n

/-! ## A start from step 3 of R397 on -/

/-- Set `k` has been cut short twice. -/
def BootRec.cutShort (r : BootRec) (k : Bool) : Prop := (r.set k).state = 2 ∧ 2 ≤ (r.set k).trialN

theorem Blk.interrupted_of_not {b : Blk} {k : Bool} (h : ¬ b.boot.bootRec.cutShort k) : b.interrupted k = b := by
  have hc : ((b.boot.bootRec.set k).state == 2 && decide (2 ≤ (b.boot.bootRec.set k).trialN)) = false := by
    rw [Bool.eq_false_iff, ne_eq, Bool.and_eq_true, beq_iff_eq, decide_eq_true_eq]
    exact h
  rw [Blk.interrupted, hc, Blk.when_false]

theorem Blk.AllLimp.interrupted {b : Blk} (h : b.AllLimp) (k : Bool) : (b.interrupted k).AllLimp := by
  unfold Blk.interrupted
  extract_lets s
  cases s.state == 2 && decide (2 ≤ s.trialN)
  · exact h
  · exact h.stays ((b.markBad_spec k).keeps (Blk.keepsRec_raise ..)).limp

/-- The boot record of a start that tries set `k` in Eclosion (R397). -/
def Blk.onTrial (b : Blk) (k : Bool) : Blk :=
  b.writeBootRec (b.boot.bootRec.setSet k { b.boot.bootRec.set k with
    state := 2, trialN := (b.boot.bootRec.set k).trialN + 1 })

/-- A try of set `k` in Eclosion failed, and the GOOD sets follow. -/
def Blk.reverted (b t : Blk) (k : Bool) (f : StartFail) : Blk :=
  (b.failed t k f).raise 560 0x12 0x06 (updData 0xFF k f.reason f.item)

theorem Blk.reverted_spec (b t : Blk) (k : Bool) (f : StartFail) : b.MarksBad k (b.reverted t k f) :=
  b.failed_raise_spec t k f 560 0x12 0x06 (updData 0xFF k f.reason f.item)

section procedure

variable {b c t : Blk} {item : Option (Fin 6)} {n : Nat} {k : Bool} {f : StartFail}

theorem Blk.startSets_none (hc : (b.interrupted false).interrupted true = c) (h : c.boot.bootRec.trial = none) :
    b.startSets item n = c.startGood 0 n := by
  unfold Blk.startSets
  dsimp only
  rw [hc, h]

theorem Blk.startSets_passes (hc : (b.interrupted false).interrupted true = c) (h : c.boot.bootRec.trial = some k)
    (ht : (c.onTrial k).trySet k true item = (t, none)) : b.startSets item n = t.commitStart k 1 n := by
  rw [Blk.onTrial] at ht
  unfold Blk.startSets
  dsimp only
  rw [hc, h]
  dsimp only
  rw [ht]

theorem Blk.startSets_reverts (hc : (b.interrupted false).interrupted true = c) (h : c.boot.bootRec.trial = some k)
    (ht : (c.onTrial k).trySet k true item = (t, some f)) :
    b.startSets item n = ((c.onTrial k).reverted t k f).startGood 2 n := by
  rw [Blk.onTrial] at ht ⊢
  rw [Blk.reverted]
  unfold Blk.startSets
  dsimp only
  rw [hc, h]
  dsimp only
  rw [ht]

end procedure

theorem Blk.onTrial_limp (b : Blk) (k : Bool) : b.StaysLimp (b.onTrial k) := (Blk.StaysLimp.refl b).of_comp rfl

/-- A start ends. -/
theorem Blk.AllLimp.startSets {b : Blk} (h : b.AllLimp) (item : Option (Fin 6)) (n : Nat) : (b.startSets item n).Ended := by
  have hc := (h.interrupted false).interrupted true
  generalize he : (b.interrupted false).interrupted true = c at hc
  rcases htrial : c.boot.bootRec.trial with _ | k
  · rw [Blk.startSets_none he htrial]
    exact hc.startGood (by decide) n
  · rcases ht : (c.onTrial k).trySet k true item with ⟨t, _ | f⟩
    · rw [Blk.startSets_passes he htrial ht]
      exact t.ended_of_commit k (by decide) n
    · rw [Blk.startSets_reverts he htrial ht]
      exact ((hc.stays (c.onTrial_limp k)).stays ((c.onTrial k).reverted_spec t k f).limp).startGood (by decide) n

/-! ## The procedure -/

/-- What a start comes to once set `k` has failed, only the other one being left. -/
theorem Blk.MarksBad.heldAfter {k : Bool} {a b : Blk} (h : a.MarksBad k b) (n : Nat) : let c := b.failedStart n
    HeldInReset c ∧ c.boot.bootRec.fails = a.boot.bootRec.fails ∧ (c.boot.bootRec.set k).state = 4 ∧
      c.boot.bootRec.set (!k) = a.boot.bootRec.set (!k) := by
  obtain ⟨hheld, hkeep⟩ := b.failedStart_spec n
  have hm := h.keeps hkeep
  exact ⟨hheld, hm.fails, hm.bad, hm.other⟩

/-- A start on the GOOD set `k`: it runs, or the other one does, or the compute side is held. -/
theorem Blk.startGood_spec {b : Blk} {k : Bool} {kind : Nat} (hk : kind < 8) (n : Nat) (h : b.boot.bootRec.best = some k) :
    let c := b.startGood kind n
    ((b.trySet k false none).2 = none → Committed k kind c) ∧
    (∀ t f, b.trySet k false none = (t, some f) → (b.boot.bootRec.set (!k)).state ≠ 3 →
      HeldInReset c ∧ c.boot.bootRec.fails = b.boot.bootRec.fails ∧ (c.boot.bootRec.set k).state = 4 ∧
        c.boot.bootRec.set (!k) = b.boot.bootRec.set (!k)) ∧
    ∀ t f, b.trySet k false none = (t, some f) → (b.boot.bootRec.set (!k)).state = 3 →
      (((b.fellBack t k f).trySet (!k) false none).2 = none → Committed (!k) 3 c) ∧
      (((b.fellBack t k f).trySet (!k) false none).2 ≠ none → HeldInReset c ∧ c.boot.bootRec.fails = b.boot.bootRec.fails ∧
        (c.boot.bootRec.set k).state = 4 ∧ c.boot.bootRec.set (!k) = b.boot.bootRec.set (!k)) := by
  refine ⟨fun ht => ?_, fun t f ht ho => ?_, fun t f ht ho => ⟨fun hu => ?_, fun hu => ?_⟩⟩
  · rw [Blk.startGood_passes kind n h (Prod.ext rfl ht)]
    exact Blk.commitStart_committed _ k hk n
  · rw [Blk.startGood_alone kind n h ht (by rwa [(b.fellBack_spec t k f).other])]
    exact (b.fellBack_spec t k f).heldAfter n
  · rw [Blk.startGood_other kind n h ht (by rwa [(b.fellBack_spec t k f).other]) (Prod.ext rfl hu)]
    exact Blk.commitStart_committed _ (!k) (by decide) n
  · obtain ⟨g, hg⟩ := Option.ne_none_iff_exists'.mp hu
    rw [Blk.startGood_both kind n h ht (by rwa [(b.fellBack_spec t k f).other]) (Prod.ext rfl hg)]
    exact (((b.fellBack_spec t k f).keeps (Blk.keepsRec_undo _ _)).keeps (Blk.keepsRec_raise ..)).heldAfter n

/-- After a failed Eclosion the other set runs where it is GOOD, and else the compute side is held (R397, R410). -/
theorem Blk.MarksBad.startGood_spec {k : Bool} {a b : Blk} (h : a.MarksBad k b) (n : Nat) : let c := b.startGood 2 n
    ((a.boot.bootRec.set (!k)).state ≠ 3 →
      HeldInReset c ∧ c.boot.bootRec.fails = a.boot.bootRec.fails ∧ (c.boot.bootRec.set k).state = 4) ∧
    ((a.boot.bootRec.set (!k)).state = 3 → (b.trySet (!k) false none).2 = none → Committed (!k) 2 c) := by
  have hbest := BootRec.best_of_bad h.bad
  rw [h.other] at hbest
  refine ⟨fun ho => ?_, fun ho ht => ?_⟩
  · rw [if_neg ho] at hbest
    rw [Blk.startGood_none 2 n hbest]
    obtain ⟨hheld, hfails, hbad, -⟩ := h.heldAfter n
    exact ⟨hheld, hfails, hbad⟩
  · rw [if_pos ho] at hbest
    exact (Blk.startGood_spec (by decide) n hbest).1 ht

/-- What a start from step 3 of R397 on leads to, no set having been cut short twice; `r` is the boot record before it. -/
theorem Blk.startSets_procedure {x : StartIn} {a p : Blk} (hcut : ∀ k, ¬ a.boot.bootRec.cutShort k)
    (hp : (a.prepare x).writeBootRec { a.boot.bootRec with fails := a.boot.bootRec.fails + 1 } = p) :
    StartProcedure x a (p.startSets x.item x.ticks) := by
  have hrec := (a.prepare x).writeBootRec_bootRec { a.boot.bootRec with fails := a.boot.bootRec.fails + 1 }
  unfold StartProcedure
  dsimp only
  rw [hp] at hrec ⊢
  generalize a.boot.bootRec = r at hcut hrec ⊢
  have hset : ∀ k, p.boot.bootRec.set k = r.set k := fun k => by
    rw [hrec]
    cases k <;> rfl
  have hfails : p.boot.bootRec.fails = r.fails + 1 := by rw [hrec]
  have hcutp : ∀ k, ¬ p.boot.bootRec.cutShort k := fun k => by
    rw [BootRec.cutShort, hset]
    exact hcut k
  have hint : (p.interrupted false).interrupted true = p := by
    rw [Blk.interrupted_of_not (hcutp false), Blk.interrupted_of_not (hcutp true)]
  have htrial : p.boot.bootRec.trial = r.trial := BootRec.trial_congr hset
  have hbest : p.boot.bootRec.best = r.best := BootRec.best_congr hset
  refine ⟨fun ht hb => ?_, fun k ht hb => ?_, fun k ht => ?_⟩
  · rw [Blk.startSets_none hint (htrial.trans ht), Blk.startGood_none 0 _ (hbest.trans hb)]
    obtain ⟨hheld, hkeep⟩ := p.failedStart_spec x.ticks
    exact ⟨hheld, by rw [hkeep.bootRec, hfails]⟩
  · rw [Blk.startSets_none hint (htrial.trans ht)]
    have h := Blk.startGood_spec (kind := 0) (by decide) x.ticks (hbest.trans hb)
    rw [hset, hfails] at h
    exact h
  · have hp' : p.writeBootRec (p.boot.bootRec.setSet k { r.set k with state := 2, trialN := (r.set k).trialN + 1 }) = p.onTrial k := by
      rw [Blk.onTrial, hset]
    have hrec' : (p.onTrial k).boot.bootRec = { p.boot.bootRec.setSet k { r.set k with
        state := 2, trialN := (r.set k).trialN + 1 } with counter := p.boot.bootRec.counter + 1 } := by
      rw [← hp', Blk.writeBootRec_bootRec]
    have hother : (p.onTrial k).boot.bootRec.set (!k) = r.set (!k) := by
      rw [hrec', BootRec.set_withCounter, BootRec.set_setSet_other, hset]
    have hfails' : (p.onTrial k).boot.bootRec.fails = r.fails + 1 := by
      rw [hrec', ← hfails]
      exact BootRec.fails_setSet ..
    rw [hp']
    refine ⟨fun hok => ?_, fun t f hf => ?_⟩
    · rw [Blk.startSets_passes hint (htrial.trans ht) (Prod.ext rfl hok)]
      exact Blk.commitStart_committed _ k (by decide) _
    · rw [Blk.startSets_reverts hint (htrial.trans ht) hf]
      have h := ((p.onTrial k).reverted_spec t k f).startGood_spec x.ticks
      rw [hother, hfails'] at h
      exact h

end Sys2Proof.Machine
end

section
/-!
PROOFS. Chrysalis, and what a full start comes to (R397, R398, R413; O59).
-/

namespace Sys2Proof.Machine

open Sys2Proof.Claims

/-! ## Chrysalis (R413) -/

/-- The compute side of `c` is held in Chrysalis, with ETH5 as SLAVE. -/
structure Blk.InChrysalis (c b : Blk) : Prop where
  mod : b.mod = { c.mod with phase := .chrysalis }
  enabled : b.flag F.ETH_CTRL_EN 5 = true
  slave : b.flag F.ETH_CTRL_ROLE 5 = false
  done : b.configDone = false
  regs : RegsKeptBut (fun r i => (r = .SYS_STATUS ∧ i = 0) ∨ (r = .ETH_CTRL ∧ i = 5)) c b
  frame : { c with regs := b.regs, mod := b.mod } = b

theorem Blk.hold_frame (c : Blk) (p : Phase) :
    c.hold p = { c with regs := (c.setFld F.SYS_STATUS_CONFIG_DONE 0 0).regs, mod := { c.mod with phase := p } } := rfl

/-- A block with other registers and another module, two of whose registers are written. -/
theorem Blk.setFld2_frame (c : Blk) (m : SMap RegKey Word) (x : ModSt) (f g : Fld) (i v w : Nat) :
    let b := (({ c with regs := m, mod := x } : Blk).setFld f i v).setFld g i w
    b.mod = x ∧ { c with regs := b.regs, mod := b.mod } = b := ⟨rfl, rfl⟩

theorem Blk.hold_chrysalis (c : Blk) :
    c.InChrysalis (((c.hold .chrysalis).setFld F.ETH_CTRL_EN 5 1).setFld F.ETH_CTRL_ROLE 5 0) := by
  have hdone : (c.hold .chrysalis).configDone = false :=
    Blk.flag_setFlag_self c F.SYS_STATUS_CONFIG_DONE 0 false (by decide) (by decide)
  have hregs : RegsKeptBut (fun r i => (r = .SYS_STATUS ∧ i = 0) ∨ (r = .ETH_CTRL ∧ i = 5)) c (c.hold .chrysalis) :=
    RegsKeptBut.setFld c (f := F.SYS_STATUS_CONFIG_DONE) 0 (.inl ⟨rfl, rfl⟩)
  have hframe := Blk.setFld2_frame c (c.setFld F.SYS_STATUS_CONFIG_DONE 0 0).regs { c.mod with phase := .chrysalis }
    F.ETH_CTRL_EN F.ETH_CTRL_ROLE 5 1 0
  rw [← c.hold_frame .chrysalis] at hframe
  generalize c.hold .chrysalis = d at hdone hregs hframe ⊢
  refine ⟨hframe.1, ?_, Blk.flag_setFlag_self _ F.ETH_CTRL_ROLE 5 false (by decide) (by decide), ?_, ?_, hframe.2⟩
  · rw [Blk.flag_setFld_of_apart _ _ _ (by decide) (by decide)]
    exact Blk.flag_setFlag_self d F.ETH_CTRL_EN 5 true (by decide) (by decide)
  · refine (Blk.flag_congr ?_).trans hdone
    exact (Blk.reg_setReg_name _ _ _ _ (by decide)).trans (Blk.reg_setReg_name _ _ _ _ (by decide))
  · exact (hregs.trans (RegsKeptBut.setFld d _ (.inr ⟨rfl, rfl⟩))).trans (RegsKeptBut.setFld _ _ (.inr ⟨rfl, rfl⟩))

/-- A record is raised, and then registers and the module change. -/
theorem Blk.frame_of_raised_held {p c b : Blk} (hc : c = { p with regs := c.regs, mod := c.mod, jrn := c.jrn })
    (hb : { c with regs := b.regs, mod := b.mod } = b) : { p with regs := b.regs, mod := b.mod, jrn := b.jrn } = b := by
  rw [hc] at hb
  rw [← hb]

/-- A module enters Chrysalis. -/
theorem Blk.chrysalis_spec (p : Blk) : let c := p.raise 560 0x12 0x08 (updData 0xFF false 0 0)
    c.InChrysalis p.chrysalis ∧
      RegsKeptBut (fun r i => RecReg r i ∨ (r = .SYS_STATUS ∧ i = 0) ∨ (r = .ETH_CTRL ∧ i = 5)) p p.chrysalis ∧
      { p with regs := p.chrysalis.regs, mod := p.chrysalis.mod, jrn := p.chrysalis.jrn } = p.chrysalis := by
  have hrec := p.regs_raise 560 0x12 0x08 (updData 0xFF false 0 0)
  have hfr := p.raise_frame 560 0x12 0x08 (updData 0xFF false 0 0)
  unfold Blk.chrysalis
  generalize p.raise 560 0x12 0x08 (updData 0xFF false 0 0) = c at hrec hfr
  have h := c.hold_chrysalis
  extract_lets
  generalize ((c.hold .chrysalis).setFld F.ETH_CTRL_EN 5 1).setFld F.ETH_CTRL_ROLE 5 0 = b at h
  refine ⟨h, fun r i hr => ?_, Blk.frame_of_raised_held hfr h.frame⟩
  exact (h.regs r i fun e => hr (.inr e)).trans (hrec r i fun e => hr (.inl e))

/-! ## OTP (R401) -/

/-- OTP reads as `m`. -/
def otpInv (m : List Host.Cell) : BlockInv where
  holds b := b.otp = m
  setReg h _ _ _ := h
  setByte h _ _ := h
  units h _ _ ho := ho.trans h
  clear h := h
  forget h _ := h
  undo h _ := h

/-- A start writes no OTP. -/
theorem Blk.fullStart_otp (b : Blk) (x : StartIn) : (b.fullStart x).otp = b.otp :=
  Blk.Meets.fullStart (K := otpInv b.otp) (show b.otp = b.otp from rfl)

/-! ## A full start -/

/-- A start goes into Chrysalis (R413): there is no root, RECOVER_N is low, or three starts have failed. -/
def Blk.StartRecovers (b : Blk) (x : StartIn) : Prop :=
  otpTop b.otp 3 = none ∨ x.recoverN = false ∨ 3 ≤ b.boot.bootRec.fails

/-- A full start may begin. -/
def Blk.MayStart (b : Blk) : Prop := b.mod.phase ∈ [Phase.off, .rising, .released] ∧ b.frozen = false

theorem Blk.MayStart.begins {b : Blk} (h : b.MayStart) {x : StartIn} (hx : 3000 ≤ x.mv) :
    (b.inReset && !b.frozen && decide (3000 ≤ x.mv)) = true := by
  obtain ⟨hphase, hfrozen⟩ := h
  have hreset : b.inReset = true := by
    rw [Blk.inReset, Bool.or_eq_true, Bool.or_eq_true, decide_eq_true_eq, decide_eq_true_eq, decide_eq_true_eq]
    simpa using hphase
  rw [hreset, hfrozen, decide_eq_true hx]
  rfl

section fullStart

variable {b : Blk} {x : StartIn}

theorem Blk.fullStart_low (h : b.MayStart) (hx : 3000 ≤ x.mv) (hlow : x.mv < 6500) :
    b.fullStart x = if b.mod.phase = .off then b.rise x.mv else b := by
  rw [Blk.fullStart, h.begins hx, Blk.when_true, if_pos hlow]

theorem Blk.startRecovers_iff :
    ((otpTop (b.prepare x).otp 3).isNone = true ∨ (!x.recoverN) = true ∨ 3 ≤ (b.prepare x).boot.bootRec.fails) ↔ b.StartRecovers x := by
  obtain ⟨-, -, hotp, -⟩ := b.prepare_spec x
  rw [hotp, b.begin_otp, b.prepare_bootRec x, Option.isNone_iff_eq_none, Bool.not_eq_true']
  exact Iff.rfl

theorem Blk.fullStart_recovers (h : b.MayStart) (hx : 6500 ≤ x.mv) (hr : b.StartRecovers x) :
    b.fullStart x = ((b.prepare x).pass x.ticks).chrysalis := by
  rw [Blk.fullStart, h.begins (by omega), Blk.when_true, if_neg (by omega)]
  exact if_pos (Blk.startRecovers_iff.mpr hr)

theorem Blk.fullStart_sets (h : b.MayStart) (hx : 6500 ≤ x.mv) (hr : ¬ b.StartRecovers x) : b.fullStart x =
    ((b.prepare x).writeBootRec { b.boot.bootRec with fails := b.boot.bootRec.fails + 1 }).startSets x.item x.ticks := by
  rw [Blk.fullStart, h.begins (by omega), Blk.when_true, if_neg (by omega), ← b.prepare_bootRec x]
  exact if_neg fun e => hr (Blk.startRecovers_iff.mp e)

end fullStart

end Sys2Proof.Machine
end

section
/-!
PROOFS. Starts, staging and recovery (O59).
-/

namespace Sys2Proof.Machine

open Sys2Proof.Claims

/-! ## A full start -/

/-- What every end of a start shows. -/
def Blk.Settled (b : Blk) : Prop :=
  (b.mod.phase = .running ∨ b.mod.phase = .chrysalis ∨ b.mod.phase = .failedHold) ∧ (b.configDone = true ↔ b.mod.phase = .running) ∧
    (b.mod.phase = .running → Committed (b.flag F.BOOT_STATUS_SET 0) (b.fld F.BOOT_STATUS_START_KIND 0) b) ∧
    (b.mod.phase = .failedHold → HeldInReset b) ∧ (b.mod.phase ≠ .running → b.AllLimp)

theorem Blk.Ended.settled {b : Blk} (h : b.Ended) : b.Settled := by
  rcases h with ⟨k, kind, h⟩ | ⟨h, hlimp⟩
  · obtain ⟨hphase, hdone, hset, hkind, -, -⟩ := id h
    refine ⟨.inl hphase, iff_of_true hdone hphase, fun _ => ?_, fun hf => ?_, fun hr => absurd hphase hr⟩
    · rw [hset, hkind]
      exact h
    · rw [hphase] at hf
      cases hf
  · obtain ⟨hphase, hdone, -⟩ := id h
    have hr : b.mod.phase ≠ .running := by rw [hphase]; decide
    exact ⟨.inr (.inr hphase), iff_of_false (by rw [hdone]; decide) hr, fun e => absurd e hr, fun _ => h, fun _ => hlimp⟩

/-- A start that goes into Chrysalis (R413). -/
theorem Blk.prepare_chrysalis (a : Blk) (x : StartIn) : let p := (a.prepare x).pass x.ticks
    p.chrysalis.Settled ∧ p.chrysalis.mod.phase ≠ .running ∧ p.chrysalis.fld F.SYS_NODE_NODE 0 = x.node.toNat ∧
      p.chrysalis.boot = a.begin_.boot ∧ p.chrysalis.mem = a.begin_.mem ∧ p.chrysalis.otp = a.begin_.otp := by
  obtain ⟨hnode, hmem, hotp, hboot, -, hlimp⟩ := a.prepare_spec x
  have hsteady : (a.prepare x).Steady ((a.prepare x).pass x.ticks) := (Blk.Steady.refl _).pass
  have hl : ((a.prepare x).pass x.ticks).AllLimp := hlimp.stays (Blk.StaysLimp.refl _).pass
  have hnode' := (hsteady.fld F.SYS_NODE_NODE 0 (by decide)).trans hnode
  have hmem' := hsteady.mem.trans hmem
  have hotp' := hsteady.otp.trans hotp
  have hboot' := hsteady.boot.trans hboot
  dsimp only
  generalize (a.prepare x).pass x.ticks = p at hnode' hmem' hotp' hboot' hl
  obtain ⟨hc, hregs, hframe⟩ := p.chrysalis_spec
  have hphase : p.chrysalis.mod.phase = .chrysalis := congrArg ModSt.phase hc.mod
  have hdone := hc.done
  generalize p.chrysalis = b at hphase hdone hregs hframe
  have hr : b.mod.phase ≠ .running := by rw [hphase]; decide
  refine ⟨⟨.inr (.inl hphase), iff_of_false (by rw [hdone]; decide) hr, fun e => absurd e hr, fun e => ?_, fun _ => ?_⟩, hr, ?_, ?_,
    ?_, ?_⟩
  · rw [hphase] at e
    cases e
  · exact hl.of_comp (by rw [← hframe])
  · rw [← hnode']
    exact congrArg F.SYS_NODE_NODE.get (hregs _ _ (by simp [RecReg]))
  · rw [← hboot', ← hframe]
  · rw [← hmem', ← hframe]
  · rw [← hotp', ← hframe]

theorem Blk.AllLimp.writeBootRec {b : Blk} (h : b.AllLimp) (r : BootRec) : (b.writeBootRec r).AllLimp := h.of_comp rfl

/-- FULL_START with the supply NORMAL. -/
theorem Blk.fullStart_settled {b : Blk} {x : StartIn} (h : b.MayStart) (hx : 6500 ≤ x.mv) : (b.fullStart x).Settled := by
  by_cases hr : b.StartRecovers x
  · rw [Blk.fullStart_recovers h hx hr]
    exact (b.prepare_chrysalis x).1
  · obtain ⟨-, -, -, -, -, hlimp⟩ := b.prepare_spec x
    rw [Blk.fullStart_sets h hx hr]
    exact ((hlimp.writeBootRec _).startSets x.item x.ticks).settled

/-- FULL_START into Chrysalis, and nothing else changes. -/
theorem Blk.fullStart_chrysalis {b : Blk} {x : StartIn} (h : b.MayStart) (hx : 6500 ≤ x.mv) (hr : b.StartRecovers x) :
    let p := (b.prepare x).pass x.ticks
    let c := p.raise 560 0x12 0x08 (updData 0xFF false 0 0)
    let d := b.fullStart x
    d.mod = { c.mod with phase := .chrysalis } ∧ d.jrn = c.jrn ∧ d.flag F.ETH_CTRL_EN 5 = true ∧ d.flag F.ETH_CTRL_ROLE 5 = false ∧
      d.fld F.SYS_NODE_NODE 0 = x.node.toNat ∧ d.boot = b.begin_.boot ∧ MemKept b.begin_ d ∧
      RegsKeptBut (fun r i => RecReg r i ∨ (r = .SYS_STATUS ∧ i = 0) ∨ (r = .ETH_CTRL ∧ i = 5)) p d ∧
      { p with regs := d.regs, mod := d.mod, jrn := d.jrn } = d := by
  obtain ⟨-, -, hnode, hboot, hmem, hotp⟩ := b.prepare_chrysalis x
  dsimp only
  rw [Blk.fullStart_recovers h hx hr]
  generalize (b.prepare x).pass x.ticks = p at hnode hboot hmem hotp
  obtain ⟨hc, hregs, hframe⟩ := p.chrysalis_spec
  refine ⟨hc.mod, ?_, hc.enabled, hc.slave, hnode, hboot, ⟨fun a => Blk.byte_congr hmem a, fun a => by rw [hotp]⟩, hregs, hframe⟩
  have hjrn := congrArg Blk.jrn hc.frame
  exact hjrn.symm

end Sys2Proof.Machine
end

section
/-!
PROOFS. Starts, staging and recovery, command by command (O59).
-/

namespace Sys2Proof.Machine

open Sys2Proof.Claims

/-! ## The commands of the recovery protocol -/

/-- A datagram that is answered as every datagram of its OP would be: with a reply that depends on no operation. -/
theorem IsRecovery.replies {src : BitVec 128} {port : BitVec 16} {d : List Byte} {c : Instr} {op : Nat}
    (h : IsRecovery src port d c op) {s : State} {a : Blk} {l : List Byte} (ha : a.Recovers)
    (hw : a.boot.restart = false ∨ a.mod.recoverN = false)
    (hr : ∀ act, s.blk.recover op src port.toNat d act = a.recSend src port.toNat l) :
    Completes c s fun b => Replies src port.toNat l a b := by
  obtain ⟨h1, h7⟩ := h.op_range
  obtain ⟨act, hact⟩ := Blk.byOp_stays (b := s.blk) (src := src) (port := port.toNat) (d := d) h1 h7
  have hsent := ha.replies src port.toNat l
  refine .of_run (h.exec_eq s) (hact _ (hr act) ?_) hsent
  rwa [replies_boot hsent, replies_mod hsent]

section datagram

variable {s : State} {src : BitVec 128} {port : BitVec 16} {d : List Byte} {m : RecMsg} (hb : s.blk.Recovers)
  (hd : recParse d = some m) (hw : s.blk.boot.restart = false ∨ s.blk.mod.recoverN = false) {c : Instr} {op : Nat}

include hb hd hw

theorem IsRecovery.ignored (h : IsRecovery src port d c op) (hop : m.op ≠ op) : Completes c s fun b => b = s.blk := by
  obtain ⟨h1, h7⟩ := h.op_range
  obtain ⟨act, hact⟩ := Blk.byOp_stays (b := s.blk) (src := src) (port := port.toNat) (d := d) h1 h7
  exact .of_run (h.exec_eq s) (hact _ (Blk.recover_other hb hd src port.toNat act hop) hw) rfl

/-- Without a tool bound only HELLO is served. -/
theorem IsRecovery.unbound (h : IsRecovery src port d c op) (hop : m.op = op) (hf : s.blk.boundTool = none) (h1 : op ≠ 1) :
    Completes c s fun b => Replies src port.toNat (recReply m.op m.seq [6]) s.blk b :=
  h.replies hb hw fun act => Blk.recover_free hb hd src port.toNat act hop hf h1

/-- What a tool that is not served now is told, or told again (R415). -/
theorem IsRecovery.bound (h : IsRecovery src port d c op) (hop : m.op = op) {t : Tool} (ht : s.blk.boundTool = some t) :
    (t.addr ≠ src → Completes c s fun b => Replies src port.toNat (recReply m.op m.seq [6]) s.blk b) ∧
    (t.addr = src → s.blk.boot.commit.isSome = true → Completes c s fun b =>
      Replies src port.toNat (recReply m.op m.seq [5]) (s.blk.recSeen t port.toNat) b) ∧
    (∀ l, t.addr = src → s.blk.boot.commit = none → t.last = some (m.seq, l) → Completes c s fun b =>
      Replies src port.toNat l (s.blk.recSeen t port.toNat) b) ∧
    (t.addr = src → s.blk.boot.commit = none → (∀ q l, t.last = some (q, l) → q ≠ m.seq) → m.version ≠ 1 →
      Completes c s fun b => Answers src port.toNat m [1] s.blk b) := by
  refine ⟨fun ha => ?_, fun ha hc => ?_, fun l ha hc hl => ?_, fun ha hc hl hv => ?_⟩
  · exact h.replies hb hw fun act => Blk.recover_stranger hb hd src port.toNat act hop ht ha
  · exact h.replies (hb.withBoot _) hw fun act => Blk.recover_busy hb hd src port.toNat act hop ht ha hc
  · exact h.replies (hb.withBoot _) hw fun act => Blk.recover_again hb hd src port.toNat act hop ht ha hc hl
  · refine h.replies (hb.withBoot _) hw fun act => ?_
    rw [Blk.recover_acts hb hd src port.toNat act hop ht ha hc hl, Blk.acted_version _ _ _ _ hv, Blk.recAnswer_recSeen,
      Blk.recAnswer_eq]

end datagram

/-- HELLO of a tool while none is bound. -/
theorem Blk.recHello_free {b : Blk} (h : b.Recovers) {d : List Byte} {m : RecMsg} (hd : recParse d = some m) (src : BitVec 128)
    (port : Nat) (hf : b.boundTool = none) (hop : m.op = 1) :
    Answers src port m (if m.version = 1 then b.helloBody else [1]) b (b.recHello src port d) := by
  rw [b.recHello_eq src port d, Blk.recover_hello_free h hd src port helloAct hop hf]
  by_cases hv : m.version = 1
  · rw [if_pos hv, Blk.acted_answered b src port hv (c := b) (body := b.helloBody) rfl]
    exact h.answers src port m _
  · rw [if_neg hv, Blk.acted_version b src port helloAct hv]
    exact h.answers src port m _

/-- A datagram for the recovery protocol is the command of its OP. -/
theorem Blk.ethFrame_byOp {b : Blk} (h : b.Recovers) {d : List Byte} {m : RecMsg} (hd : recParse d = some m) (src : BitVec 128)
    (port : BitVec 16) : b.ethFrame 5 (.udp src (linkLocal (b.mac 5)) port 47500 d) = b.byOp src port.toNat d m.op := by
  rw [Blk.ethFrame_recovery h.phase, Blk.recDatagram_eq, recParse_op hd]

/-! ## RECOVER_N and the bound tool (R414, R415) -/

theorem Blk.recoverRelease_restarts {b : Blk} (hr : b.boot.restart = true) (hp : b.mod.phase = .chrysalis) (hf : b.frozen = false) :
    b.recoverRelease = ({ b with mod := { b.mod with recoverN := true } } : Blk).restart := by
  have hf' : ({ b with mod := { b.mod with recoverN := true } } : Blk).frozen = b.frozen := rfl
  rw [Blk.recoverRelease, hf', hp, hf, hr]
  exact Blk.when_true ..

theorem Blk.recoverRelease_stays {b : Blk} (h : b.boot.restart = false ∨ b.mod.phase ≠ .chrysalis ∨ b.frozen = true) :
    b.recoverRelease = { b with mod := { b.mod with recoverN := true } } := by
  have hf' : ({ b with mod := { b.mod with recoverN := true } } : Blk).frozen = b.frozen := rfl
  have hc : (decide (b.mod.phase = .chrysalis) && !b.frozen && b.boot.restart) = false := by
    rcases h with h | h | h <;> simp [h]
  rw [Blk.recoverRelease, hf', hc, Blk.when_false]

theorem Blk.bindingTimeout_unbinds {b : Blk} (hp : b.mod.phase = .chrysalis) (hf : b.frozen = false) {t : Tool}
    (ht : b.boot.tool = some t) (h : t.at_ + 60000000000 ≤ b.tb1) :
    b.bindingTimeout = { b with boot := { b.boot with tool := none } } := by
  rw [Blk.bindingTimeout, ht]
  exact Blk.when_of _ (by simp [hp, hf, h])

/-- FAILED_START_RESTART: the hold of 1 s is over (R398). -/
theorem Blk.failedStartRestart_restarts {b : Blk} (ha : b.aonRuns = true) (hp : b.mod.phase = .failedHold)
    (h : b.boot.heldAt + 1000000000 ≤ b.tb1) : b.failedStartRestart = b.restart := Blk.when_of _ (by simp [ha, hp, h])

/-! ## The obligation -/

/-- Settles O59, command by command: what a start finds, tries and ends in; what a restart leaves; staging by its STATE; the recovery
protocol by who is bound and what the datagram asks. -/
theorem startUpdateAndRecovery : Obligations.StartUpdateAndRecovery := by
  unfold Obligations.StartUpdateAndRecovery
  refine ⟨fun s x hphase hfrozen => ⟨fun hx hlow => ?rises, fun hx => ?starts⟩, fun b => ?restart,
    fun s => ⟨fun ha hp h => .of_run (f := Blk.failedStartRestart) rfl (Blk.failedStartRestart_restarts ha hp h) rfl, fun ha => ?staging⟩,
    fun s src port d m hp hf hen hlink hd hw => ?recovery,
    fun s => ⟨fun hr hp hf => .of_run (f := Blk.recoverRelease) rfl (Blk.recoverRelease_restarts hr hp hf) rfl,
      fun h => .of_run (f := Blk.recoverRelease) rfl (Blk.recoverRelease_stays h) rfl,
      fun hp hf => ⟨fun nand q t hq ht hen hlink => ?commit,
        fun t ht h => .of_run (f := Blk.bindingTimeout) rfl (Blk.bindingTimeout_unbinds hp hf ht h) rfl⟩⟩⟩
  case rises =>
    have hstart := Blk.fullStart_low (b := s.blk) ⟨hphase, hfrozen⟩ hx hlow
    refine .of_run (f := fun b => b.fullStart x) rfl hstart ⟨fun h => if_neg h, fun h => ?_⟩
    rw [if_pos h]
    exact ⟨rfl, s.blk.rise_spec x.mv⟩
  case starts =>
    have hmay : s.blk.MayStart := ⟨hphase, hfrozen⟩
    obtain ⟨hends, hdone, hcommit, hheld, hlimp⟩ := Blk.fullStart_settled hmay hx
    refine .of_run (f := fun b => b.fullStart x) rfl rfl ⟨hends, hdone, s.blk.fullStart_otp x, hcommit, hheld, hlimp,
      fun hr => Blk.fullStart_chrysalis hmay hx hr, fun hr hcut => ?_⟩
    rw [Blk.fullStart_sets hmay hx hr]
    exact Blk.startSets_procedure hcut rfl
  case restart =>
    obtain ⟨hheld, hfreeze⟩ := b.restart_held
    exact ⟨b.restart_mod, b.restart_otp, b.restart_boot, b.restart_jrn, b.restart_configDone, b.restart_frozen, b.restart_tb1,
      hheld, hfreeze, b.byte_restart, fun r i hr => b.reg_restart i hr⟩
  case staging =>
    refine ⟨fun h => .of_run (f := Blk.updateStage) rfl rfl (Blk.updateStage_busy_spec ha h),
      fun h1 h2 => .of_run (f := Blk.updateStage) rfl rfl (Blk.updateStage_takes_spec ha h1 h2),
      fun hs => ⟨Blk.readPackage_of_readable, fun nand => ⟨fun hwait => ?_, fun hwait hfault => ?_, fun reason part hwait hfault => ?_⟩⟩,
      fun hs => .of_run (f := fun b => b.stageComplete none) rfl rfl (Blk.stageComplete_writes_spec ha hs),
      fun part hs => .of_run (f := fun b => b.stageComplete (some part.val)) rfl rfl (Blk.stageComplete_nand_spec part ha hs),
      fun h => .of_run (f := Blk.stageAbort) rfl rfl (Blk.stageAbort_spec ha h),
      fun h => .of_run (f := Blk.stageDiscard) rfl rfl (Blk.stageDiscard_spec ha h),
      fun h => .of_run (f := Blk.stageDiscard) rfl (Blk.stageDiscard_none ha h) rfl⟩
    · exact .of_run (f := fun b => b.stageComplete (nand.map Fin.val)) rfl (Blk.stageComplete_waits (nand.map Fin.val) hs hwait) rfl
    · exact .of_run (f := fun b => b.stageComplete (nand.map Fin.val)) rfl rfl
        (Blk.stageComplete_passes_spec (nand.map Fin.val) ha hs hwait hfault)
    · exact .of_run (f := fun b => b.stageComplete (nand.map Fin.val)) rfl rfl
        (Blk.stageComplete_fails_spec (nand.map Fin.val) ha hs hwait hfault)
  case recovery =>
    have hb : s.blk.Recovers := ⟨hp, hf, hen, hlink⟩
    refine ⟨?_, fun c op hc hop => IsRecovery.ignored hb hd hw hc hop,
      fun hfree hop => .of_run (f := fun b => b.recHello src port.toNat d) rfl rfl
        (Blk.recHello_free hb hd src port.toNat (Blk.boundTool_free hfree) hop),
      fun c op hc hop hfree h1 => IsRecovery.unbound hb hd hw hc hop (Blk.boundTool_free hfree) h1,
      fun t ht hlate => ⟨fun c op hc hop => IsRecovery.bound hb hd hw hc hop (Blk.boundTool_some ht hlate), fun ha hc hl hv => ?_⟩⟩
    · rintro dst sport rfl rfl c op hc rfl
      rw [IsRecovery.exec_eq hc s, State.run_eq, ← Blk.ethFrame_byOp hb hd]
      rfl
    · have hh : s.blk.Hears src d m t := ⟨hb, hd, Blk.boundTool_some ht hlate, ha, hc, hl, hv⟩
      refine ⟨fun hop => .of_run (f := fun b => b.recHello src port.toNat d) rfl rfl (hh.hello hop),
        fun hop => .of_run (f := fun b => b.recBegin src port.toNat d) rfl rfl (hh.begin_ hop), fun hop => ?data,
        fun hop => .of_run (f := fun b => b.recCommit src port.toNat d) rfl rfl (hh.commit hop), fun hop => ?otp,
        fun hop => .of_run (f := fun b => b.recReadLog src port.toNat d) rfl rfl (hh.readLog hop),
        fun hop hr => .of_run (f := fun b => b.recRestart src port.toNat d) rfl rfl (hh.restart_waits hop hr),
        fun hop hr => .of_run (f := fun b => b.recRestart src port.toNat d) rfl rfl (hh.restart_runs hop hr),
        fun hop => .of_run (f := fun b => b.ethFrame 5 _) rfl (Blk.ethFrame_byOp hb hd src port) (hh.none hop)⟩
      case data =>
        exact .of_run (f := fun b => b.recData src port.toNat d) rfl rfl
          ⟨fun hwant => hh.data_unasked hop hwant, fun w hwant => hh.data hop hwant⟩
      case otp =>
        exact .of_run (f := fun b => b.recOtpWrite src port.toNat d) rfl rfl
          ⟨fun h => hh.otp_malformed hop h, fun hlen hsig => hh.otp hop hlen hsig⟩
  case commit =>
    obtain ⟨body, c, hanswer, hidle, hfault, hstaged, hnand, hshows, hinto⟩ :=
      Blk.recCommitDone_spec ⟨hp, hf, hen, hlink⟩ hq ht nand
    exact .of_run (f := fun b => b.recCommitDone (nand.map Fin.val)) rfl rfl
      ⟨body, c, hanswer, hidle, hfault, hstaged, hnand, hinto.other, hinto.fails, hshows, hinto.regs, hinto.frame⟩

end Sys2Proof.Machine
end

section
/-!
PROOFS. What a command of the Timebase Unit, a Loop Engine or the receiver leaves as it is: registers outside a set, memory and OTP; and
records that are raised alike on blocks which agree on what a record holds.
-/

namespace Sys2Proof.Machine

open Sys2Proof.Claims

/-- From `a` to `b` only registers in `R` change, and neither memory nor OTP does. -/
structure Blk.Within (R : RegName → Nat → Prop) (a b : Blk) : Prop where
  regs : RegsKeptBut R a b
  mem : b.mem = a.mem
  otp : b.otp = a.otp

namespace Blk.Within

variable {R S : RegName → Nat → Prop} {a b c : Blk}

theorem refl (b : Blk) : b.Within R b := ⟨fun _ _ _ => rfl, rfl, rfl⟩

theorem of_same (hr : b.regs = a.regs) (hm : b.mem = a.mem) (ho : b.otp = a.otp) : a.Within R b := ⟨.of_regs hr, hm, ho⟩

theorem trans (h : a.Within R b) (h' : b.Within R c) : a.Within R c :=
  ⟨h.regs.trans h'.regs, h'.mem.trans h.mem, h'.otp.trans h.otp⟩

theorem mono (h : a.Within R b) (hR : ∀ r i, R r i → S r i) : a.Within S b :=
  ⟨fun r i hr => h.regs r i fun e => hr (hR r i e), h.mem, h.otp⟩

theorem units (h : a.Within R b) {mod bus jrn tbu le afe hpc out cam fus gnss yld fab net pwr boot dbg free} :
    Blk.Within R a ⟨b.regs, b.mem, b.otp, mod, bus, jrn, tbu, le, afe, hpc, out, cam, fus, gnss, yld, fab, net, pwr, boot, dbg,
      free⟩ := ⟨h.regs, h.mem, h.otp⟩

theorem setReg (h : a.Within R b) {r i v} (hr : R r i) : a.Within R (b.setReg r i v) :=
  ⟨h.regs.trans fun q j hq => b.reg_setReg_of_ne v fun e => hq (by obtain ⟨rfl, rfl⟩ := Prod.mk.inj e; exact hr), h.mem, h.otp⟩

theorem setFld (h : a.Within R b) {f i v} (hr : R f.reg i) : a.Within R (b.setFld f i v) := h.setReg hr

theorem setFlag (h : a.Within R b) {f i x} (hr : R f.reg i) : a.Within R (b.setFlag f i x) := h.setReg hr

theorem setSFld (h : a.Within R b) {f i v} (hr : R f.reg i) : a.Within R (b.setSFld f i v) := h.setReg hr

theorem incFld (h : a.Within R b) {f i} (hr : R f.reg i) : a.Within R (b.incFld f i) := h.setReg hr

theorem addSat (h : a.Within R b) {f i n} (hr : R f.reg i) : a.Within R (b.addSat f i n) := h.setReg hr

theorem setReg64 (h : a.Within R b) {lo hi i v} (hlo : R lo i) (hhi : R hi i) : a.Within R (b.setReg64 lo hi i v) :=
  (h.setReg hlo).setReg hhi

theorem raise (h : a.Within R b) {source cls detail data} (hR : ∀ r i, RecReg r i → R r i) :
    a.Within R (b.raise source cls detail data) :=
  h.trans ⟨fun r i hr => b.regs_raise source cls detail data r i fun e => hr (hR r i e), b.raise_mem .., b.raise_otp ..⟩

theorem ite {p : Prop} [Decidable p] (hb : a.Within R b) (hc : a.Within R c) : a.Within R (if p then b else c) := by
  split <;> assumption

theorem foldl {α : Type} {l : List α} {f : Blk → α → Blk} (h : a.Within R b)
    (hf : ∀ {b : Blk} {x}, x ∈ l → a.Within R b → a.Within R (f b x)) : a.Within R (l.foldl f b) := by
  induction l generalizing b with
  | nil => exact h
  | cons x l ih => exact ih (hf (.head _) h) fun hx => hf (.tail _ hx)

theorem memKept (h : a.Within R b) : MemKept a b := ⟨Blk.byte_congr h.mem, fun _ => by rw [h.otp]⟩

theorem regsKept (h : a.Within (fun _ _ => False) b) : RegsKept a b := fun r i => h.regs r i id

theorem fld (h : a.Within R b) (f : Fld) (i : Nat) (hf : ¬ R f.reg i) : b.fld f i = a.fld f i :=
  congrArg f.get (h.regs _ _ hf)

theorem flag (h : a.Within R b) (f : Fld) (i : Nat) (hf : ¬ R f.reg i) : b.flag f i = a.flag f i :=
  congrArg (· != 0) (h.fld f i hf)

theorem reg64 (h : a.Within R b) {lo hi : RegName} {i : Nat} (hlo : ¬ R lo i) (hhi : ¬ R hi i) :
    b.reg64 lo hi i = a.reg64 lo hi i := by
  rw [Blk.reg64, Blk.reg64, h.regs _ _ hlo, h.regs _ _ hhi]

end Blk.Within

/-! ## Fields as they are written -/

@[simp] theorem Blk.flag_setFld_one (b : Blk) (f : Fld) (i : Nat) (h : f.lo + f.w ≤ 32) (hw : 0 < f.w) :
    (b.setFld f i 1).flag f i = true := b.flag_setFlag_self f i true h hw

@[simp] theorem Blk.flag_setFld_zero (b : Blk) (f : Fld) (i : Nat) (h : f.lo + f.w ≤ 32) (hw : 0 < f.w) :
    (b.setFld f i 0).flag f i = false := b.flag_setFlag_self f i false h hw

/-! ## Records -/

/-- The registers that a record is made of, and those that say where it goes. -/
def recordInputs : List RegName :=
  [.DBG_STATUS, .SYS_STATUS, .TB_VALUE_LO, .TB_VALUE_HI, .SYS_NODE, .BOOT_SEQ, .FAB_STATUS, .SYS_FAULT_LATCH, .FAB_FLTQ]

/-- From `a` to `b` all that a record depends on stays as it is. -/
structure Blk.RecordsAlike (a b : Blk) : Prop where
  regs : ∀ r i, r ∈ recordInputs → b.reg r i = a.reg r i
  mod : b.mod = a.mod
  jrn : b.jrn = a.jrn
  fab : b.fab = a.fab

namespace Blk.RecordsAlike

variable {a b c : Blk}

theorem refl (b : Blk) : b.RecordsAlike b := ⟨fun _ _ _ => rfl, rfl, rfl, rfl⟩

theorem trans (h : a.RecordsAlike b) (h' : b.RecordsAlike c) : a.RecordsAlike c :=
  ⟨fun r i hr => (h'.regs r i hr).trans (h.regs r i hr), h'.mod.trans h.mod, h'.jrn.trans h.jrn, h'.fab.trans h.fab⟩

theorem of_within {R : RegName → Nat → Prop} (h : a.Within R b) (hR : ∀ r i, r ∈ recordInputs → ¬ R r i) (hm : b.mod = a.mod)
    (hj : b.jrn = a.jrn) (hf : b.fab = a.fab) : a.RecordsAlike b := ⟨fun r i hr => h.regs r i (hR r i hr), hm, hj, hf⟩

theorem fld (h : a.RecordsAlike b) (f : Fld) (i : Nat) (hf : f.reg ∈ recordInputs) : b.fld f i = a.fld f i :=
  congrArg f.get (h.regs _ _ hf)

theorem flag (h : a.RecordsAlike b) (f : Fld) (i : Nat) (hf : f.reg ∈ recordInputs) : b.flag f i = a.flag f i :=
  congrArg (· != 0) (h.fld f i hf)

theorem tb1 (h : a.RecordsAlike b) : b.tb1 = a.tb1 := by
  rw [Blk.tb1, Blk.tb1, Blk.tb, Blk.tb, Blk.reg64, Blk.reg64, h.regs _ _ (by decide), h.regs _ _ (by decide)]

theorem mkRec (h : a.RecordsAlike b) (source cls detail data : Nat) : b.mkRec source cls detail data = a.mkRec source cls detail data := by
  rw [Blk.mkRec, Blk.mkRec, h.tb1, Blk.node, Blk.node, h.fld F.SYS_NODE_NODE 0 (by decide)]

/-- Setting the same register to the same word keeps what a record depends on alike. -/
theorem setReg (h : a.RecordsAlike b) (r : RegName) (i : Nat) (v : Word) : (a.setReg r i v).RecordsAlike (b.setReg r i v) := by
  refine ⟨fun q j hq => ?_, h.mod, h.jrn, h.fab⟩
  by_cases e : (q, j) = (r, i)
  · obtain ⟨rfl, rfl⟩ := Prod.mk.inj e
    rw [Blk.reg_setReg_self, Blk.reg_setReg_self]
  · rw [b.reg_setReg_of_ne v e, a.reg_setReg_of_ne v e, h.regs q j hq]

theorem latched (h : a.RecordsAlike b) (r : FaultRec) : (a.latched r).RecordsAlike (b.latched r) := by
  have hlog : (a.logFault r).RecordsAlike (b.logFault r) := by
    refine ⟨h.regs, h.mod, ?_, h.fab⟩
    rw [Blk.logFault, Blk.logFault, h.jrn, h.tb1, Blk.runSeq, Blk.runSeq, h.regs .BOOT_SEQ 0 (by decide)]
  rw [Blk.latched, Blk.latched, h.regs .SYS_FAULT_LATCH 0 (by decide)]
  exact hlog.setReg ..

theorem holdRec (h : a.RecordsAlike b) (r : FaultRec) : (a.holdRec r).RecordsAlike (b.holdRec r) := by
  have hk : b.condKnown = a.condKnown := by rw [Blk.condKnown, Blk.condKnown, h.fab, h.flag F.FAB_STATUS_COND_V 0 (by decide)]
  rw [Blk.holdRec, Blk.holdRec, hk, h.mod]
  split
  · rw [Blk.addSat, Blk.addSat, Blk.setFld, Blk.setFld, h.fld F.FAB_FLTQ_DROPPED 0 (by decide), h.regs .FAB_FLTQ 0 (by decide)]
    exact h.setReg ..
  · exact ⟨h.regs, rfl, h.jrn, h.fab⟩

/-- The same record raised on both leaves them alike. -/
theorem raise (h : a.RecordsAlike b) (source cls detail data : Nat) :
    (a.raise source cls detail data).RecordsAlike (b.raise source cls detail data) := by
  have hfrozen : b.frozen = a.frozen := h.flag F.DBG_STATUS_FROZEN 0 (by decide)
  have hdone : b.configDone = a.configDone := h.flag F.SYS_STATUS_CONFIG_DONE 0 (by decide)
  rw [Blk.raise, Blk.raise, hfrozen, hdone, h.mkRec, h.mod]
  split
  · exact h
  · split
    · rw [Blk.raiseRec_eq, Blk.raiseRec_eq]
      exact (h.latched _).holdRec _
    · exact ⟨h.regs, rfl, h.jrn, h.fab⟩

theorem noRecord (h : a.RecordsAlike b) : NoRecord a b := ⟨h.mod, h.jrn⟩

/-- A record raised on `a` is the one record on what stays alike after it. -/
theorem oneRecord {source cls detail data : Nat} (h : (a.raise source cls detail data).RecordsAlike b) :
    OneRecord source cls detail data a b :=
  ⟨h.mod, h.jrn, h.regs .SYS_FAULT_LATCH 0 (by decide), h.regs .FAB_FLTQ 0 (by decide)⟩

end Blk.RecordsAlike

end Sys2Proof.Machine
end

section
/-!
PROOFS. Event slots: what arming does, the two words of COUNT and PERIOD (O11), and the write of SLOT_CTRL (O12).
-/

namespace Sys2Proof.Machine

open Sys2Proof.Claims

theorem NMap.get_set_self {α : Type} [DecidableEq α] (m : NMap α) (k : Nat) (v d : α) : SMap.get (NMap.set m k v d) k d = v :=
  SMap.get_put_self (lt := natLt) m k v d

theorem NMap.get_set_of_ne {α : Type} [DecidableEq α] (m : NMap α) {k j : Nat} (v d : α) (h : j ≠ k) :
    SMap.get (NMap.set m k v d) j d = SMap.get m j d := SMap.get_put_of_ne (lt := natLt) m v d d h

/-! ## Arming (R46, R47, R451) -/

/-- The registers that arming slot `s` writes. -/
def SlotArmReg (s : Nat) (r : RegName) (i : Nat) : Prop := i = s ∧ r ∈ [RegName.SLOT_CTRL, .SLOT_STATUS]

theorem slotArmReg_ctrl (s : Nat) : SlotArmReg s .SLOT_CTRL s := ⟨rfl, .head _⟩

theorem slotArmReg_status (s : Nat) : SlotArmReg s .SLOT_STATUS s := ⟨rfl, .tail _ (.head _)⟩

theorem Blk.Within.armSlot {R : RegName → Nat → Prop} {a b : Blk} {s : Nat} (h : a.Within R b)
    (hR : ∀ r i, SlotArmReg s r i → R r i) : a.Within R (b.armSlot s) := by
  have hctrl := hR _ _ (slotArmReg_ctrl s)
  have hstatus := hR _ _ (slotArmReg_status s)
  have hdrop : a.Within R (b.dropLate s) := h.units
  unfold Blk.armSlot
  extract_lets b1 b2 src
  have hb2 : a.Within R b2 := (hdrop.setFld hstatus).setFld hstatus
  exact hdrop.ite (((((hdrop.setFld hctrl).setFld hstatus).setFld hstatus)).ite
    (((hdrop.setFld hstatus).setFld hstatus).ite (hb2.units.ite hb2)))

/-- Of the unit's state beyond the registers arming changes only which slots fire late. -/
theorem Blk.armSlot_tbu (b : Blk) (s : Nat) : ∃ l, (b.armSlot s).tbu = { b.tbu with lateArm := l } := by
  unfold Blk.armSlot
  dsimp only
  split
  · exact ⟨_, rfl⟩
  · split
    · exact ⟨_, rfl⟩
    · split
      · exact ⟨_, rfl⟩
      · split <;> exact ⟨_, rfl⟩

/-- Slot `s` with ARMED and HELD_INVALID at the values given. -/
def Blk.slotShows (b : Blk) (s armed held : Nat) : Blk :=
  (b.setFld F.SLOT_STATUS_ARMED s armed).setFld F.SLOT_STATUS_HELD_INVALID s held

theorem Blk.armed_slotShows (b : Blk) (s : Nat) {v h : Nat} :
    (b.slotShows s v h).flag F.SLOT_STATUS_ARMED s = (v % 2 != 0) := by
  rw [Blk.slotShows, Blk.flag_setFld_of_apart _ _ _ (by decide) (by decide), Blk.flag, Blk.fld_setFld_self _ _ _ _ (by decide)]
  rfl

theorem Blk.held_slotShows (b : Blk) (s : Nat) {v h : Nat} :
    (b.slotShows s v h).flag F.SLOT_STATUS_HELD_INVALID s = (h % 2 != 0) := by
  rw [Blk.slotShows, Blk.flag, Blk.fld_setFld_self _ _ _ _ (by decide)]
  rfl

theorem Blk.reg_slotShows (b : Blk) (s v h : Nat) {r : RegName} (i : Nat) (hr : r ≠ .SLOT_STATUS) :
    (b.slotShows s v h).reg r i = b.reg r i := by
  rw [Blk.slotShows, Blk.reg_setFld_name _ _ _ _ hr, Blk.reg_setFld_name _ _ _ _ hr]

section arming

variable {b : Blk} {s : Nat} (hc : b.configDone = true)

include hc

/-- A slot that a check refuses (R451). -/
theorem Blk.armSlot_of_refused (ho : b.slotOk s = false) :
    b.armSlot s = ((b.dropLate s).setFld F.SLOT_CTRL_EN s 0).slotShows s 0 0 := by
  have hc' : (b.dropLate s).configDone = true := hc
  have ho' : (b.dropLate s).slotOk s = false := ho
  unfold Blk.armSlot
  dsimp only
  rw [if_neg (by simp [hc']), if_pos (by simp [ho'])]
  rfl

/-- A slot whose timebase is not valid is held (R47). -/
theorem Blk.armSlot_of_held (ho : b.slotOk s = true) (hv : b.tbValid (b.fld F.SLOT_CTRL_TB s) = false) :
    b.armSlot s = (b.dropLate s).slotShows s 0 1 := by
  have hc' : (b.dropLate s).configDone = true := hc
  have ho' : (b.dropLate s).slotOk s = true := ho
  have hv' : (b.dropLate s).tbValid ((b.dropLate s).fld F.SLOT_CTRL_TB s) = false := hv
  unfold Blk.armSlot
  dsimp only
  rw [if_neg (by simp [hc']), if_neg (by simp [ho']), if_pos (by simp [hv'])]
  rfl

/-- COUNT of slot `s` is at or past the last snapshot of its timebase (R46). -/
def Blk.slotPassed (b : Blk) (s : Nat) : Bool :=
  atOrPast (b.slotWidth s) (b.fld F.SLOT_CTRL_DIR s) (b.slotCount s) (b.tb (b.fld F.SLOT_CTRL_TB s))

/-- A slot that is armed fires late where its timebase has passed COUNT (R46). -/
theorem Blk.armSlot_of_armed (ho : b.slotOk s = true) (hv : b.tbValid (b.fld F.SLOT_CTRL_TB s) = true) :
    let c := (b.dropLate s).slotShows s 1 0
    b.armSlot s = if c.slotPassed s then { c with tbu := { c.tbu with lateArm := c.tbu.lateArm ++ [s] } } else c := by
  have hc' : (b.dropLate s).configDone = true := hc
  have ho' : (b.dropLate s).slotOk s = true := ho
  have hv' : (b.dropLate s).tbValid ((b.dropLate s).fld F.SLOT_CTRL_TB s) = true := hv
  unfold Blk.armSlot
  dsimp only
  rw [if_neg (by simp [hc']), if_neg (by simp [ho']), if_neg (by simp [hv'])]
  rfl

end arming

/-- The registers that the checks of a slot and its timebase are read from. -/
def slotReads : List RegName :=
  [.SLOT_CTRL, .SLOT_PERIOD_LO, .SLOT_PERIOD_HI, .SLOT_TARGET, .TB_CFG, .TBU_STATUS, .SYS_STATUS, .TB_VALUE_LO, .TB_VALUE_HI]

section congr

variable {a b : Blk} (h : ∀ r i, r ∈ slotReads → b.reg r i = a.reg r i) (s : Nat)

include h

theorem Blk.fld_of_slotReads (f : Fld) (hf : f.reg ∈ slotReads) : b.fld f s = a.fld f s := congrArg f.get (h _ _ hf)

theorem Blk.tbWidth_congr : b.tbWidth s = a.tbWidth s := by
  rw [Blk.tbWidth, Blk.tbWidth, Blk.fld_of_slotReads h s F.TB_CFG_KIND (by decide)]

theorem Blk.tbAngular_congr : b.tbAngular s = a.tbAngular s := by
  rw [Blk.tbAngular, Blk.tbAngular, Blk.fld_of_slotReads h s F.TB_CFG_KIND (by decide)]

theorem Blk.slotWidth_congr : b.slotWidth s = a.slotWidth s := by
  rw [Blk.slotWidth, Blk.slotWidth, Blk.flag, Blk.flag, Blk.fld_of_slotReads h s F.SLOT_CTRL_LOW16 (by decide),
    Blk.fld_of_slotReads h s F.SLOT_CTRL_TB (by decide), Blk.tbWidth_congr h]

theorem Blk.slotPeriod_congr : b.slotPeriod s = a.slotPeriod s := by
  rw [Blk.slotPeriod, Blk.slotPeriod, Blk.reg64, Blk.reg64, h _ _ (by decide), h _ _ (by decide)]

theorem Blk.slotOk_congr : b.slotOk s = a.slotOk s := by
  have hf := Blk.fld_of_slotReads h s
  simp only [Blk.slotOk, Blk.flag, Blk.slotWidth_congr h, Blk.slotPeriod_congr h, Blk.tbAngular_congr h, hf F.SLOT_CTRL_LOW16 (by decide),
    hf F.SLOT_CTRL_TB (by decide), hf F.SLOT_CTRL_DIR (by decide), hf F.SLOT_CTRL_MODE (by decide),
    hf F.SLOT_TARGET_KIND (by decide), hf F.SLOT_TARGET_ID (by decide)]

theorem Blk.tbValid_congr : b.tbValid s = a.tbValid s := by
  simp only [Blk.tbValid, Blk.fld, h .TBU_STATUS _ (by decide)]

theorem Blk.tb_congr : b.tb s = a.tb s := by
  simp only [Blk.tb, Blk.reg64, h .TB_VALUE_LO _ (by decide), h .TB_VALUE_HI _ (by decide)]

theorem Blk.slotPassed_congr (hc : b.slotCount s = a.slotCount s) : b.slotPassed s = a.slotPassed s := by
  have hf := Blk.fld_of_slotReads h s
  rw [Blk.slotPassed, Blk.slotPassed, Blk.slotWidth_congr h, hf F.SLOT_CTRL_DIR (by decide), hf F.SLOT_CTRL_TB (by decide), hc,
    Blk.tb_congr h]

end congr

/-- A slot that passes the checks on a valid timebase is armed, late where COUNT has been passed; its settings stay. -/
theorem Blk.armSlot_spec {b : Blk} {s : Nat} (hc : b.configDone = true) (ho : b.slotOk s = true)
    (hv : b.tbValid (b.fld F.SLOT_CTRL_TB s) = true) : (b.armSlot s).flag F.SLOT_STATUS_ARMED s = true ∧
      (b.armSlot s).flag F.SLOT_STATUS_HELD_INVALID s = false ∧ (b.armSlot s).reg .SLOT_CTRL s = b.reg .SLOT_CTRL s ∧
      (s ∈ (b.armSlot s).tbu.lateArm ↔ b.slotPassed s = true) := by
  have hkept : ∀ r i, r ≠ .SLOT_STATUS → ((b.dropLate s).slotShows s 1 0).reg r i = b.reg r i :=
    fun r i hr => Blk.reg_slotShows _ s 1 0 i hr
  have hpassed : ((b.dropLate s).slotShows s 1 0).slotPassed s = b.slotPassed s := by
    refine Blk.slotPassed_congr (fun r i hr => hkept r i ?_) s ?_
    · rintro rfl
      exact absurd hr (by decide)
    · rw [Blk.slotCount, Blk.slotCount, Blk.reg64, Blk.reg64, hkept _ _ (by decide), hkept _ _ (by decide)]
  have harmed := Blk.armed_slotShows (b.dropLate s) s (v := 1) (h := 0)
  have hheld := Blk.held_slotShows (b.dropLate s) s (v := 1) (h := 0)
  have hlate : s ∉ ((b.dropLate s).slotShows s 1 0).tbu.lateArm := by simp [Blk.slotShows, Blk.dropLate]
  rw [Blk.armSlot_of_armed hc ho hv]
  dsimp only
  rw [hpassed]
  split
  next hp => exact ⟨harmed, hheld, hkept _ _ (by decide), by simp [hp]⟩
  next hp => exact ⟨harmed, hheld, hkept _ _ (by decide), by simp [hp, hlate]⟩

/-! ## The words of COUNT and PERIOD (R452) -/

/-- The word that a low word takes beside a written high word: the one written with it, else the held one, else the one in use. -/
theorem lowWord_eq (lo held : Option Word) (v : Word) : (lo <|> held).getD v = match lo, held with
    | some w, _ => w
    | none, some w => w
    | none, none => v := by
  cases lo <;> cases held <;> rfl

/-- COUNT of slot `s` takes the words `lo` and `hi`, and no low word is held. -/
def Blk.withCount (b : Blk) (s : Nat) (lo hi : Word) : Blk :=
  let c := (b.setReg .SLOT_COUNT_LO s lo).setReg .SLOT_COUNT_HI s hi
  { c with tbu := { c.tbu with cntHeld := NMap.set c.tbu.cntHeld s none none } }

/-- PERIOD of slot `s` takes the words `lo` and `hi`, and no low word is held. -/
def Blk.withPeriod (b : Blk) (s : Nat) (lo hi : Word) : Blk :=
  let c := (b.setReg .SLOT_PERIOD_LO s lo).setReg .SLOT_PERIOD_HI s hi
  { c with tbu := { c.tbu with perHeld := NMap.set c.tbu.perHeld s none none } }

theorem Blk.slotCountHigh_of_enabled {b : Blk} {s : Nat} (hi : Word) (lo : Option Word) (h : b.fireDue.flag F.SLOT_CTRL_EN s = true) :
    b.slotCountHigh s hi lo = (b.fireDue.withCount s
      ((lo <|> SMap.get b.fireDue.tbu.cntHeld s none).getD (b.fireDue.reg .SLOT_COUNT_LO s)) hi).armSlot s := if_pos h

theorem Blk.slotPeriodWrite_of_enabled {b : Blk} {s : Nat} (hi : Word) (lo : Option Word) (h : b.fireDue.flag F.SLOT_CTRL_EN s = true) :
    b.slotPeriodWrite s lo (some hi) = b.fireDue.withPeriod s
      ((lo <|> SMap.get b.fireDue.tbu.perHeld s none).getD (b.fireDue.reg .SLOT_PERIOD_LO s)) hi := if_pos h

/-- A register that takes a word where one is written. -/
def Blk.setSome (b : Blk) (r : RegName) (i : Nat) : Option Word → Blk
  | some v => b.setReg r i v
  | none => b

theorem Blk.Within.setSome {R : RegName → Nat → Prop} {a b : Blk} (h : a.Within R b) {r i v} (hr : R r i) :
    a.Within R (b.setSome r i v) := by
  cases v
  exacts [h, h.setReg hr]

theorem Blk.reg_setSome_self (b : Blk) (r : RegName) (i : Nat) (v : Option Word) : (b.setSome r i v).reg r i = v.getD (b.reg r i) := by
  cases v
  exacts [rfl, b.reg_setReg_self r i _]

theorem Blk.reg_setSome_name (b : Blk) {r q : RegName} (i j : Nat) (v : Option Word) (h : q ≠ r) :
    (b.setSome r i v).reg q j = b.reg q j := by
  cases v
  exacts [rfl, b.reg_setReg_name i j _ h]

theorem Blk.slotCountHigh_of_disabled {b : Blk} {s : Nat} (hi : Word) (lo : Option Word)
    (h : b.fireDue.flag F.SLOT_CTRL_EN s = false) :
    b.slotCountHigh s hi lo = (b.fireDue.setSome .SLOT_COUNT_LO s lo).setReg .SLOT_COUNT_HI s hi := by
  refine (if_neg (by simp [h])).trans ?_
  cases lo <;> rfl

theorem Blk.slotPeriodWrite_of_disabled {b : Blk} {s : Nat} (lo hi : Option Word) (h : b.fireDue.flag F.SLOT_CTRL_EN s = false) :
    b.slotPeriodWrite s lo hi = (b.fireDue.setSome .SLOT_PERIOD_LO s lo).setSome .SLOT_PERIOD_HI s hi := by
  refine (if_neg (by simp [h])).trans ?_
  cases lo <;> cases hi <;> rfl

/-- A high word of COUNT written while EN is 1 (R46, R452). -/
theorem Blk.withCount_armSlot_spec (f : Blk) (s : Nat) (lo hi : Word) : let b := (f.withCount s lo hi).armSlot s
    b.reg .SLOT_COUNT_HI s = hi ∧ b.reg .SLOT_COUNT_LO s = lo ∧ SMap.get b.tbu.cntHeld s none = none ∧
      (f.configDone = true → f.slotOk s = true → f.tbValid (f.fld F.SLOT_CTRL_TB s) = true → b.flag F.SLOT_STATUS_ARMED s = true) ∧
      f.Within (fun r i => i = s ∧ r ∈ [.SLOT_COUNT_LO, .SLOT_COUNT_HI, .SLOT_CTRL, .SLOT_STATUS]) b := by
  have hcount : f.Within (fun r i => i = s ∧ r ∈ [RegName.SLOT_COUNT_LO, .SLOT_COUNT_HI]) (f.withCount s lo hi) :=
    (((Blk.Within.refl f).setReg (by simp)).setReg (by simp)).units
  have hhi : (f.withCount s lo hi).reg .SLOT_COUNT_HI s = hi := Blk.reg_setReg_self ..
  have hlo : (f.withCount s lo hi).reg .SLOT_COUNT_LO s = lo :=
    (Blk.reg_setReg_name _ _ _ _ (by decide)).trans (Blk.reg_setReg_self ..)
  have hheld : SMap.get (f.withCount s lo hi).tbu.cntHeld s none = none := NMap.get_set_self f.tbu.cntHeld s none none
  have hreads : ∀ r i, r ∈ slotReads → (f.withCount s lo hi).reg r i = f.reg r i := fun r i hr => hcount.regs r i <| by
    rintro ⟨-, h⟩
    revert hr h
    revert r
    decide
  generalize f.withCount s lo hi = c at hcount hhi hlo hheld hreads ⊢
  have harm := (Blk.Within.refl (R := SlotArmReg s) c).armSlot fun _ _ => id
  obtain ⟨l, htbu⟩ := c.armSlot_tbu s
  refine ⟨(harm.regs _ _ (by simp [SlotArmReg])).trans hhi, (harm.regs _ _ (by simp [SlotArmReg])).trans hlo, by rw [htbu, hheld],
    fun hdone hok hvalid => ?_, ?_⟩
  · have hdone' : c.configDone = true := by
      rwa [Blk.configDone, Blk.flag, Blk.fld_of_slotReads hreads _ F.SYS_STATUS_CONFIG_DONE (by decide)]
    have hvalid' : c.tbValid (c.fld F.SLOT_CTRL_TB s) = true := by
      rwa [Blk.fld_of_slotReads hreads _ F.SLOT_CTRL_TB (by decide), Blk.tbValid_congr hreads]
    exact (Blk.armSlot_spec hdone' ((Blk.slotOk_congr hreads s).trans hok) hvalid').1
  · refine (hcount.mono fun r i h => ?_).trans (harm.mono fun r i h => ?_)
    · exact ⟨h.1, by have := h.2; simp_all; tauto⟩
    · exact ⟨h.1, by have := h.2; simp_all⟩

/-- A command that acts while AON runs completes with what `f` makes of the block. -/
theorem Completes.of_live {c : Instr} {s : State} {P : Blk → Prop} {f : Blk → Blk} {b : Blk} (ha : s.blk.aonRuns = true)
    (hc : exec c s = s.run fun b => b.live f) (hb : f s.blk = b) (hp : P b) : Completes c s P :=
  .of_run hc ((s.blk.live_of f ha).trans hb) hp

/-- Settles O11: once the due slots have fired, a word is held, taken or armed by. -/
theorem slotCountAndPeriodWords : Obligations.SlotCountAndPeriodWords := by
  unfold Obligations.SlotCountAndPeriodWords
  intro s slot hb f
  refine ⟨fun hen => ⟨fun v => ?_, fun hi lo => ?_, fun v => ?_, fun hi lo => ?_⟩,
    fun hen => ⟨fun v => ?_, fun hi lo => ?_, fun lo hi => ?_⟩⟩
  · refine .of_live hb rfl (if_pos hen)
      ⟨NMap.get_set_self f.tbu.cntHeld slot (some v) none, ?_, ?_, fun j hj => NMap.get_set_of_ne f.tbu.cntHeld (some v) none hj⟩
    exacts [fun _ _ => rfl, ⟨fun _ => rfl, fun _ => rfl⟩]
  · obtain ⟨h1, h2, h3, h4, h5⟩ := f.withCount_armSlot_spec slot
      ((lo <|> SMap.get f.tbu.cntHeld slot.val none).getD (f.reg .SLOT_COUNT_LO slot)) hi
    exact .of_live hb rfl (Blk.slotCountHigh_of_enabled hi lo hen)
      ⟨h1, h2.trans (lowWord_eq ..), h3, h4, h5.regs, h5.memKept⟩
  · refine .of_live hb rfl (if_pos hen) ⟨NMap.get_set_self f.tbu.perHeld slot (some v) none, ?_, ?_⟩
    exacts [fun _ _ => rfl, ⟨fun _ => rfl, fun _ => rfl⟩]
  · refine .of_live hb rfl (Blk.slotPeriodWrite_of_enabled hi lo hen)
      ⟨Blk.reg_setReg_self .., ?_, NMap.get_set_self f.tbu.perHeld slot none none, ?_, ?_⟩
    · exact ((Blk.reg_setReg_name _ _ _ _ (by decide)).trans (Blk.reg_setReg_self ..)).trans (lowWord_eq ..)
    · exact (((Blk.Within.refl f).setReg (by simp)).setReg (by simp)).regs
    · exact ⟨fun _ => rfl, fun _ => rfl⟩
  · have hw : f.Within (fun r i => i = slot.val ∧ r = .SLOT_COUNT_LO) (f.setReg .SLOT_COUNT_LO slot v) :=
      (Blk.Within.refl f).setReg ⟨rfl, rfl⟩
    exact .of_live hb rfl (if_neg (by simp [f, hen])) ⟨Blk.reg_setReg_self .., hw.regs, hw.memKept⟩
  · have hw : f.Within (fun r i => i = slot.val ∧ r ∈ [.SLOT_COUNT_LO, .SLOT_COUNT_HI])
        ((f.setSome .SLOT_COUNT_LO slot lo).setReg .SLOT_COUNT_HI slot hi) :=
      ((Blk.Within.refl f).setSome (by simp)).setReg (by simp)
    exact .of_live hb rfl (Blk.slotCountHigh_of_disabled hi lo hen) ⟨Blk.reg_setReg_self ..,
      (Blk.reg_setReg_name _ _ _ _ (by decide)).trans (Blk.reg_setSome_self ..), hw.regs, hw.memKept⟩
  · have hw : f.Within (fun r i => i = slot.val ∧ r ∈ [.SLOT_PERIOD_LO, .SLOT_PERIOD_HI])
        ((f.setSome .SLOT_PERIOD_LO slot lo).setSome .SLOT_PERIOD_HI slot hi) :=
      ((Blk.Within.refl f).setSome (by simp)).setSome (by simp)
    refine .of_live hb rfl (Blk.slotPeriodWrite_of_disabled lo hi hen) ⟨?_, ?_, hw.regs, hw.memKept⟩
    · rw [Blk.reg_setSome_self, Blk.reg_setSome_name _ _ _ _ (by decide)]
    · rw [Blk.reg_setSome_name _ _ _ _ (by decide), Blk.reg_setSome_self]

end Sys2Proof.Machine
end

section
/-!
PROOFS. The write of SLOT_CTRL (O12).
-/

namespace Sys2Proof.Machine

open Sys2Proof.Claims

/-- The block whose SLOT_CTRL of slot `s` takes the fields of the word, the slots that were due having fired. -/
def Blk.slotCtrlSet (b : Blk) (s : Nat) (ctrl : Word) : Blk := b.fireDue.setReg .SLOT_CTRL s (ctrl &&& 0x1FFFF)

section written

variable {b : Blk} {s : Nat} {ctrl : Word}

theorem Blk.slotCtrlWrite_of_off (h : ctrl.getLsbD 0 = false) :
    b.slotCtrlWrite s ctrl = ((b.slotCtrlSet s ctrl).dropLate s).slotShows s 0 0 := by
  have h0 : (ctrl &&& BitVec.ofNat 32 RegName.SLOT_CTRL.masks.rw).getLsbD 0 = false := by rw [BitVec.getLsbD_and, h, Bool.false_and]
  exact if_pos (by rw [h0]; rfl)

theorem Blk.slotCtrlWrite_of_on (h : ctrl.getLsbD 0 = true) : b.slotCtrlWrite s ctrl =
    if b.fireDue.reg .SLOT_CTRL s = ctrl &&& 0x1FFFF then b.slotCtrlSet s ctrl else (b.slotCtrlSet s ctrl).armSlot s := by
  have h0 : (ctrl &&& BitVec.ofNat 32 RegName.SLOT_CTRL.masks.rw).getLsbD 0 = true := by
    rw [BitVec.getLsbD_and, h]
    rfl
  exact if_neg (by rw [h0]; decide)

theorem Blk.within_slotCtrlWrite : b.fireDue.Within (SlotArmReg s) (b.slotCtrlWrite s ctrl) := by
  have hset : b.fireDue.Within (SlotArmReg s) (b.slotCtrlSet s ctrl) := (Blk.Within.refl _).setReg (slotArmReg_ctrl s)
  cases h : ctrl.getLsbD 0 with
  | false =>
    rw [Blk.slotCtrlWrite_of_off h]
    have hdrop : b.fireDue.Within (SlotArmReg s) ((b.slotCtrlSet s ctrl).dropLate s) := hset.units
    exact (hdrop.setFld (slotArmReg_status s)).setFld (slotArmReg_status s)
  | true =>
    rw [Blk.slotCtrlWrite_of_on h]
    exact hset.ite (hset.armSlot fun _ _ => id)

/-- SLOT_CTRL is all that the word changes before the slot is armed. -/
theorem Blk.reg_slotCtrlSet {r : RegName} (i : Nat) (hr : r ≠ .SLOT_CTRL) : (b.slotCtrlSet s ctrl).reg r i = b.fireDue.reg r i :=
  Blk.reg_setReg_name _ _ _ _ hr

theorem Blk.ctrl_slotCtrlSet : (b.slotCtrlSet s ctrl).reg .SLOT_CTRL s = ctrl &&& 0x1FFFF := Blk.reg_setReg_self ..

theorem Blk.slotCount_slotCtrlSet : (b.slotCtrlSet s ctrl).slotCount s = b.fireDue.slotCount s := by
  rw [Blk.slotCount, Blk.slotCount, Blk.reg64, Blk.reg64, Blk.reg_slotCtrlSet _ (by decide), Blk.reg_slotCtrlSet _ (by decide)]

theorem Blk.tb_slotCtrlSet (n : Nat) : (b.slotCtrlSet s ctrl).tb n = b.fireDue.tb n := by
  rw [Blk.tb, Blk.tb, Blk.reg64, Blk.reg64, Blk.reg_slotCtrlSet _ (by decide), Blk.reg_slotCtrlSet _ (by decide)]

theorem Blk.tbValid_slotCtrlSet (n : Nat) : (b.slotCtrlSet s ctrl).tbValid n = b.fireDue.tbValid n := by
  rw [Blk.tbValid, Blk.tbValid, Blk.fld, Blk.fld, Blk.reg_slotCtrlSet _ (by decide)]

theorem Blk.configDone_slotCtrlSet : (b.slotCtrlSet s ctrl).configDone = b.fireDue.configDone := by
  rw [Blk.configDone, Blk.configDone, Blk.flag, Blk.flag, Blk.fld, Blk.fld, Blk.reg_slotCtrlSet _ (by decide)]

end written

/-- The checks of a slot are those of R451. -/
theorem Blk.slotOk_eq_false_iff (b : Blk) (s : Nat) : b.slotOk s = false ↔
    (b.flag F.SLOT_CTRL_LOW16 s = true ∧ b.tbAngular (b.fld F.SLOT_CTRL_TB s) = false) ∨
      b.fld F.SLOT_CTRL_DIR s = 3 ∨ (b.fld F.SLOT_CTRL_MODE s = 1 ∧ b.fld F.SLOT_CTRL_DIR s = 2) ∨
      (b.fld F.SLOT_CTRL_MODE s = 1 ∧ (b.slotPeriod s = 0 ∨ 2 ^ (b.slotWidth s - 1) ≤ b.slotPeriod s)) ∨
      targetOk (b.fld F.SLOT_TARGET_KIND s) (b.fld F.SLOT_TARGET_ID s) = false := by
  simp only [Blk.slotOk, Bool.and_eq_false_iff, Bool.or_eq_false_iff, Bool.not_eq_false', Bool.and_eq_true, Bool.or_eq_true,
    bne_eq_false_iff_eq, beq_iff_eq, decide_eq_true_eq, or_assoc]

/-- Settles O12, by what the word switches: off, nothing new, or the slot to be armed. -/
theorem slotArmingChecks : Obligations.SlotArmingChecks := by
  unfold Obligations.SlotArmingChecks
  refine ⟨fun s slot ctrl hb => .of_live hb rfl rfl ?_, Blk.slotOk_eq_false_iff⟩
  extract_lets f set armed
  have hframe := s.blk.within_slotCtrlWrite (s := slot) (ctrl := ctrl)
  have hset : set = s.blk.slotCtrlSet slot ctrl := rfl
  have harm : armed → s.blk.slotCtrlWrite slot ctrl = set.armSlot slot ∧ set.configDone = true := fun ⟨hc, h, hne⟩ =>
    ⟨(Blk.slotCtrlWrite_of_on h).trans (if_neg hne), Blk.configDone_slotCtrlSet.trans hc⟩
  refine ⟨fun h => ?off, fun hsame h => ?same, fun ha ho => ?refused, fun ha ho hv => ?held, fun ha ho hv => ?armed, hframe.regs,
    hframe.memKept⟩
  case off =>
    rw [Blk.slotCtrlWrite_of_off h]
    exact ⟨(Blk.reg_slotShows _ _ _ _ _ (by decide)).trans Blk.ctrl_slotCtrlSet, Blk.armed_slotShows .., Blk.held_slotShows ..⟩
  case same =>
    rw [Blk.slotCtrlWrite_of_on h, if_pos hsame]
    intro r i
    by_cases e : (r, i) = (.SLOT_CTRL, slot.val)
    · obtain ⟨rfl, rfl⟩ := Prod.mk.inj e
      exact Blk.ctrl_slotCtrlSet.trans hsame.symm
    · exact Blk.reg_setReg_of_ne _ _ e
  case refused =>
    obtain ⟨hw, hc⟩ := harm ha
    rw [hw, Blk.armSlot_of_refused hc ho, Blk.flag_congr (Blk.reg_slotShows _ _ _ _ _ (by decide))]
    exact ⟨Blk.flag_setFld_zero _ _ _ (by decide) (by decide), Blk.armed_slotShows ..⟩
  case held =>
    obtain ⟨hw, hc⟩ := harm ha
    rw [hw, Blk.armSlot_of_held hc ho ((Blk.tbValid_slotCtrlSet _).trans hv)]
    exact ⟨(Blk.reg_slotShows _ _ _ _ _ (by decide)).trans Blk.ctrl_slotCtrlSet, Blk.armed_slotShows .., Blk.held_slotShows ..⟩
  case armed =>
    obtain ⟨hw, hc⟩ := harm ha
    obtain ⟨harmed, hheld, hctrl, hlate⟩ := Blk.armSlot_spec hc ho ((Blk.tbValid_slotCtrlSet _).trans hv)
    rw [hw]
    refine ⟨hctrl.trans Blk.ctrl_slotCtrlSet, harmed, hheld, hlate.trans ?_⟩
    rw [Blk.slotPassed, hset, Blk.slotCount_slotCtrlSet, Blk.tb_slotCtrlSet]

end Sys2Proof.Machine
end

section
/-!
PROOFS. The advance of COUNT on a firing: the fewest periods after which it lies ahead (O14).
-/

namespace Sys2Proof.Machine

open Sys2Proof.Claims

/-! ## Comparisons modulo the width (R44, R45) -/

/-- Equal remainders are equal balanced remainders. -/
theorem bmod_of_emod_eq {x y : Int} {n : Nat} (h : x % n = y % n) : x.bmod n = y.bmod n := by
  rw [← Int.emod_bmod, h, Int.emod_bmod]

/-- A difference of timebase values is the balanced remainder of their difference. -/
theorem sdiff_eq_bmod (w x y : Nat) : sdiff w x y = ((x : Int) - y).bmod (2 ^ w) := by
  rw [sdiff, BitVec.toInt_sub, BitVec.toInt_eq_toNat_bmod, BitVec.toInt_eq_toNat_bmod, BitVec.toNat_ofNat, BitVec.toNat_ofNat,
    Int.bmod_sub_bmod, Int.sub_bmod_bmod]
  refine bmod_of_emod_eq ?_
  simp [Int.sub_emod]

/-- The fewest whole periods that take a slot from `d` behind to ahead. -/
theorem extraPeriods_spec (d : Int) {p : Nat} (hp : 0 < p) :
    0 < d + extraPeriods d p * p ∧ (∀ m : Nat, m < extraPeriods d p → d + m * p ≤ 0) ∧
      (extraPeriods d p ≠ 0 → d + extraPeriods d p * p ≤ p) := by
  unfold extraPeriods
  split
  next h =>
    refine ⟨?_, fun m hm => by omega, fun hk => absurd rfl hk⟩
    simp only [Nat.cast_zero, zero_mul]
    omega
  next h =>
    have hd : d ≤ 0 := by omega
    have hpos : (0 : Int) < p := by omega
    have hnn : 0 ≤ -d / (p : Int) := Int.ediv_nonneg (by omega) (by omega)
    have hdm := Int.mul_ediv_add_emod (-d) p
    have hlt := Int.emod_lt_of_pos (-d) hpos
    have hge := Int.emod_nonneg (-d) hpos.ne'
    push_cast [Int.toNat_of_nonneg hnn]
    refine ⟨by nlinarith, fun m hm => ?_, fun _ => by nlinarith⟩
    have hm' : (m : Int) ≤ -d / p := by omega
    nlinarith

/-- Of the balanced remainders modulo an even range those in its open half are their own. -/
theorem bmod_of_within {H : Nat} {x d : Int} (hd : d = x.bmod (2 * H)) {y t : Int} (hy : y - x = t - d) (hlo : -H ≤ t) (hhi : t < H) :
    y.bmod (2 * H) = t := by
  have hdvd := Int.dvd_bmod_sub_self (x := x) (m := 2 * H)
  refine (Int.bmod_eq_iff (by omega)).mpr ⟨by omega, by omega, ?_⟩
  rw [← hd] at hdvd
  convert hdvd using 1
  omega

/-- A slot behind by `d`, in direction `σ` (1 up, −1 down), modulo an even range of which a period is less than half: the periods
of `extraPeriods` are the fewest after which it lies ahead. -/
theorem periods_ahead {H p : Nat} {x σ : Int} (hσ : σ = 1 ∨ σ = -1) (hp : 0 < p) (hH : p < H) {k : Nat}
    (hk : extraPeriods (σ * x.bmod (2 * H)) p = k) :
    0 < σ * (x + σ * k * p).bmod (2 * H) ∧ ∀ m : Nat, m < k → σ * (x + σ * m * p).bmod (2 * H) ≤ 0 := by
  obtain ⟨hpos, hle, hbound⟩ := extraPeriods_spec (σ * x.bmod (2 * H)) hp
  rw [hk] at hpos hle hbound
  have hlo := Int.le_bmod (x := x) (m := 2 * H) (by omega)
  have hhi := Int.bmod_lt (x := x) (m := 2 * H) (by omega)
  generalize hd : x.bmod (2 * H) = d at *
  have hmono : ∀ m : Nat, m ≤ k → (0 : Int) ≤ m * p ∧ (m : Int) * p ≤ k * p := fun m hm => by
    exact ⟨by positivity, by gcongr⟩
  have hexact : ∀ m : Nat, m ≤ k → σ * (x + σ * m * p).bmod (2 * H) = σ * d + m * p := fun m hm => by
    obtain ⟨h0, hm'⟩ := hmono m hm
    have hkd : k ≠ 0 → σ * d + k * p ≤ p := hbound
    have hk0 : k = 0 → (k : Int) * p = 0 := fun h => by simp [h]
    rw [bmod_of_within hd.symm (t := d + σ * (m * p)) (by ring)]
    · rcases hσ with rfl | rfl <;> ring
    · rcases hσ with rfl | rfl <;> by_cases h : k = 0 <;> grind
    · rcases hσ with rfl | rfl <;> by_cases h : k = 0 <;> grind
  exact ⟨(hexact k le_rfl).symm ▸ hpos, fun m hm => (hexact m hm.le).symm ▸ hle m hm⟩

/-! ## The advance of COUNT (R49) -/

/-- COUNT `c` after `n` periods in direction `σ`, modulo 2^64. -/
def countMoved (c p : Nat) (σ : Int) (n : Nat) : Nat := (((c : Int) + σ * n * p) % 2 ^ 64).toNat

theorem sdiff_countMoved {w : Nat} (hw : w ≤ 64) (c p : Nat) (σ : Int) (n now : Nat) :
    sdiff w (countMoved c p σ n) now = ((c : Int) + σ * n * p - now).bmod (2 ^ w) := by
  rw [sdiff_eq_bmod, countMoved, Int.toNat_of_nonneg (Int.emod_nonneg _ (by norm_num))]
  refine bmod_of_emod_eq ?_
  have hdvd : ((2 ^ w : Nat) : Int) ∣ 2 ^ 64 := by exact_mod_cast pow_dvd_pow 2 hw
  rw [Int.sub_emod, Int.emod_emod_of_dvd _ hdvd, ← Int.sub_emod]

theorem Blk.slotWidth_pos (b : Blk) (s : Nat) : 1 ≤ b.slotWidth s ∧ b.slotWidth s ≤ 64 := by
  unfold Blk.slotWidth Blk.tbWidth
  grind

theorem Blk.reg64_lt (b : Blk) (lo hi : RegName) (i : Nat) : b.reg64 lo hi i < 2 ^ 64 := by
  have := (b.reg lo i).isLt
  have := (b.reg hi i).isLt
  unfold Blk.reg64
  omega

/-- The direction of a slot that goes UP or DOWN, as a sign. -/
def Blk.slotSign (b : Blk) (s : Nat) : Int := if b.fld F.SLOT_CTRL_DIR s = 0 then 1 else -1

/-- The half of the range over which slot `s` compares. -/
def Blk.slotHalf (b : Blk) (s : Nat) : Nat := 2 ^ (b.slotWidth s - 1)

theorem Blk.slotRange (b : Blk) (s : Nat) : 2 ^ b.slotWidth s = 2 * b.slotHalf s := by
  have := (b.slotWidth_pos s).1
  rw [Blk.slotHalf, ← pow_succ']
  congr 1
  omega

/-- The distance of COUNT of slot `s`, moved by `n` periods, from the snapshot, before the direction is taken. -/
def Blk.slotDistance (b : Blk) (s n : Nat) : Int :=
  b.slotCount s + b.slotSign s * n * b.slotPeriod s - b.tb (b.fld F.SLOT_CTRL_TB s)

theorem Blk.advance_skipped (b : Blk) (s : Nat) (hP : b.slotPeriod s < b.slotHalf s) :
    (b.advance s).2 = extraPeriods (b.slotSign s * (b.slotDistance s 1).bmod (2 * b.slotHalf s)) (b.slotPeriod s) := by
  have hp64 : b.slotPeriod s % 2 ^ 64 = b.slotPeriod s := Nat.mod_eq_of_lt (b.reg64_lt ..)
  have hlt : b.slotPeriod s < 2 ^ 64 := b.reg64_lt ..
  unfold Blk.advance
  dsimp only
  rw [Blk.slotHalf] at hP
  rw [if_pos hP, ← b.slotRange]
  unfold Blk.slotSign Blk.slotDistance Blk.slotSign
  by_cases hd : b.fld F.SLOT_CTRL_DIR s = 0
  · simp [hd, sdiff_eq_bmod]
  · have hmod : ((b.slotCount s + 2 ^ 64 - b.slotPeriod s % 2 ^ 64 : Nat) : Int) = b.slotCount s - b.slotPeriod s + 2 ^ 64 := by omega
    have hdvd : ((2 ^ b.slotWidth s : Nat) : Int) ∣ 2 ^ 64 := by exact_mod_cast pow_dvd_pow 2 (b.slotWidth_pos s).2
    rw [if_neg (by simpa using hd), if_neg hd, sdiff_eq_bmod, hmod, neg_one_mul]
    congr 2
    refine bmod_of_emod_eq (Int.modEq_iff_dvd.mpr ?_)
    convert (Int.dvd_neg.mpr hdvd) using 1
    push_cast
    ring

/-- COUNT after the advance is moved by the period of the firing and those skipped. -/
theorem Blk.advance_count (b : Blk) (s : Nat) :
    (b.advance s).1 = countMoved (b.slotCount s) (b.slotPeriod s) (b.slotSign s) ((b.advance s).2 + 1) := by
  have hp64 : b.slotPeriod s < 2 ^ 64 := b.reg64_lt ..
  suffices ∀ k, (if b.fld F.SLOT_CTRL_DIR s == 0 then (b.slotCount s + b.slotPeriod s * (1 + k)) % 2 ^ 64
      else (b.slotCount s + 2 ^ 64 * (1 + k) - b.slotPeriod s * (1 + k)) % 2 ^ 64) =
      countMoved (b.slotCount s) (b.slotPeriod s) (b.slotSign s) (k + 1) from this _
  intro k
  have hle : b.slotPeriod s * (1 + k) ≤ 2 ^ 64 * (1 + k) := by gcongr
  generalize hm : b.slotPeriod s * (1 + k) = m at hle ⊢
  have hm' : ((k + 1 : Nat) : Int) * b.slotPeriod s = m := by rw [← hm]; push_cast; ring
  unfold Blk.slotSign countMoved
  rw [mul_assoc, hm']
  split
  next hd =>
    rw [if_pos (by simpa using hd)]
    omega
  next hd =>
    rw [if_neg (by simpa using hd)]
    omega

/-- The advance ends at the first count ahead of the snapshot, beyond the one period of the firing. -/
theorem Blk.advance_spec (b : Blk) (s : Nat) (hp : b.slotPeriod s ≠ 0) (hP : b.slotPeriod s < b.slotHalf s) :
    let ahead := fun n => b.slotSign s * (b.slotDistance s n).bmod (2 * b.slotHalf s)
    0 < ahead ((b.advance s).2 + 1) ∧ ∀ m < (b.advance s).2, ahead (m + 1) ≤ 0 := by
  intro ahead
  have hσ : b.slotSign s = 1 ∨ b.slotSign s = -1 := by unfold Blk.slotSign; split <;> simp
  have hstep : ∀ n : Nat, ahead (n + 1) =
      b.slotSign s * (b.slotDistance s 1 + b.slotSign s * n * b.slotPeriod s).bmod (2 * b.slotHalf s) := fun n => by
    unfold ahead Blk.slotDistance
    congr 2
    push_cast
    ring
  obtain ⟨hpos, hle⟩ := periods_ahead hσ (by omega) hP (b.advance_skipped s hP).symm
  exact ⟨(hstep _).symm ▸ hpos, fun m hm => (hstep m).symm ▸ hle m hm⟩

end Sys2Proof.Machine
end

section
/-!
PROOFS. The firing of a slot (O14).
-/

namespace Sys2Proof.Machine

open Sys2Proof.Claims

/-! ## What a firing does before the mode (R46, R48, R51) -/

/-- Slot `s` is due no longer, FIRES counts one, and a late firing sets ARM_LATE. -/
def Blk.slotCounted (b : Blk) (s : Nat) (late : Bool) : Blk :=
  let c := Blk.incFld { b with tbu := { b.tbu with due := b.tbu.due.filter (·.slot ≠ s) } } F.SLOT_FIRES_FIRES s
  if late then c.setFld F.SLOT_STATUS_ARM_LATE s 1 else c

/-- The target of slot `s` gets its trigger. -/
def Blk.slotTriggered (b : Blk) (s : Nat) : Blk :=
  if b.fld F.SLOT_TARGET_KIND s = 0 then b else { b with tbu := { b.tbu with trig := b.tbu.trig ++
    [⟨s, b.fld F.SLOT_TARGET_KIND s, b.fld F.SLOT_TARGET_ID s, b.snapshot, b.fld F.TBU_STATUS_TB_VALID 0⟩] } }

/-- The mode of slot `s` is applied (R49). -/
def Blk.slotModed (b : Blk) (s : Nat) : Blk :=
  match b.fld F.SLOT_CTRL_MODE s with
  | 0 => (b.setFld F.SLOT_CTRL_EN s 0).setFld F.SLOT_STATUS_ARMED s 0
  | 1 =>
    let c := b.setReg64 .SLOT_COUNT_LO .SLOT_COUNT_HI s (b.advance s).1
    if (b.advance s).2 = 0 then c else c.raise 592 0x01 0x04 (s * 2 ^ 22 + min (b.advance s).2 0xFFFF)
  | _ => b

theorem Blk.fireSlot_of_due {b : Blk} {s : Nat} {x : DueSlot} (h : b.tbu.due.find? (·.slot = s) = some x) :
    b.fireSlot s = ((b.slotCounted s x.late).slotTriggered s).slotModed s := by
  unfold Blk.fireSlot
  rw [h]
  rfl

/-- The registers that counting a firing writes. -/
def SlotFireReg (s : Nat) (r : RegName) (i : Nat) : Prop := i = s ∧ r ∈ [RegName.SLOT_FIRES, .SLOT_STATUS]

section counted

variable (b : Blk) (s : Nat) (late : Bool)

theorem Blk.within_slotCounted : b.Within (SlotFireReg s) (b.slotCounted s late) := by
  have hcount : b.Within (SlotFireReg s)
      (Blk.incFld { b with tbu := { b.tbu with due := b.tbu.due.filter (·.slot ≠ s) } } F.SLOT_FIRES_FIRES s) :=
    (Blk.Within.refl b).units.incFld ⟨rfl, .head _⟩
  exact (hcount.setFld ⟨rfl, .tail _ (.head _)⟩).ite hcount

theorem Blk.tbu_slotCounted : (b.slotCounted s late).tbu = { b.tbu with due := b.tbu.due.filter (·.slot ≠ s) } := by
  cases late <;> rfl

theorem Blk.units_slotCounted : (b.slotCounted s late).mod = b.mod ∧ (b.slotCounted s late).jrn = b.jrn ∧
    (b.slotCounted s late).fab = b.fab := by
  cases late with
  | false => exact ⟨Blk.incFld_mod .., Blk.incFld_jrn .., Blk.incFld_fab ..⟩
  | true =>
    exact ⟨(Blk.setFld_mod ..).trans (Blk.incFld_mod ..), (Blk.setFld_jrn ..).trans (Blk.incFld_jrn ..),
      (Blk.setFld_fab ..).trans (Blk.incFld_fab ..)⟩

theorem Blk.within_slotTriggered {R : RegName → Nat → Prop} : b.Within R (b.slotTriggered s) :=
  (Blk.Within.refl b).ite (Blk.Within.refl b).units

theorem Blk.units_slotTriggered : (b.slotTriggered s).mod = b.mod ∧ (b.slotTriggered s).jrn = b.jrn ∧
    (b.slotTriggered s).fab = b.fab := by
  unfold Blk.slotTriggered
  split <;> exact ⟨rfl, rfl, rfl⟩

theorem Blk.due_slotTriggered : (b.slotTriggered s).tbu.due = b.tbu.due := by
  unfold Blk.slotTriggered
  split <;> rfl

theorem Blk.trig_slotTriggered : (b.slotTriggered s).tbu.trig = b.tbu.trig ++ (if b.fld F.SLOT_TARGET_KIND s = 0 then []
    else [⟨s, b.fld F.SLOT_TARGET_KIND s, b.fld F.SLOT_TARGET_ID s, b.snapshot, b.fld F.TBU_STATUS_TB_VALID 0⟩]) := by
  unfold Blk.slotTriggered
  split
  · exact (List.append_nil _).symm
  · rfl

theorem Blk.fires_slotCounted :
    (b.slotCounted s late).fld F.SLOT_FIRES_FIRES s = (b.fld F.SLOT_FIRES_FIRES s + 1) % 2 ^ 32 := by
  cases late with
  | false => exact Blk.fld_setFld_self _ _ _ _ (by decide)
  | true => exact (Blk.fld_setFld_name _ _ _ _ (by decide)).trans (Blk.fld_setFld_self _ _ _ _ (by decide))

theorem Blk.armLate_slotCounted (h : late = true) : (b.slotCounted s late).flag F.SLOT_STATUS_ARM_LATE s = true := by
  subst h
  exact Blk.flag_setFld_one _ _ _ (by decide) (by decide)

end counted

/-- From `a` to `c` the firing of slot `s` is counted and its target triggered. -/
structure Blk.SlotFired (a c : Blk) (s : Nat) (late : Bool) : Prop where
  within : a.Within (SlotFireReg s) c
  fires : c.fld F.SLOT_FIRES_FIRES s = (a.fld F.SLOT_FIRES_FIRES s + 1) % 2 ^ 32
  due : c.tbu.due = a.tbu.due.filter (·.slot ≠ s)
  trig : c.tbu.trig = a.tbu.trig ++ (if a.fld F.SLOT_TARGET_KIND s = 0 then []
    else [⟨s, a.fld F.SLOT_TARGET_KIND s, a.fld F.SLOT_TARGET_ID s, a.snapshot, a.fld F.TBU_STATUS_TB_VALID 0⟩])
  armLate : late = true → c.flag F.SLOT_STATUS_ARM_LATE s = true
  alike : a.RecordsAlike c

theorem Blk.slotFired (b : Blk) (s : Nat) (late : Bool) : b.SlotFired ((b.slotCounted s late).slotTriggered s) s late := by
  have hc := b.within_slotCounted s late
  have ht := (b.slotCounted s late).within_slotTriggered s (R := fun _ _ => False)
  have hsnap : (b.slotCounted s late).snapshot = b.snapshot :=
    List.map_congr_left fun k _ => hc.reg64 (by simp [SlotFireReg]) (by simp [SlotFireReg])
  have htrig := (b.slotCounted s late).trig_slotTriggered s
  rw [hsnap, hc.fld F.SLOT_TARGET_KIND _ (by simp [SlotFireReg]), hc.fld F.SLOT_TARGET_ID _ (by simp [SlotFireReg]),
    hc.fld F.TBU_STATUS_TB_VALID _ (by simp [SlotFireReg]), b.tbu_slotCounted] at htrig
  have hall := hc.trans (ht.mono (S := SlotFireReg s) fun _ _ => False.elim)
  refine ⟨hall, (ht.fld _ _ id).trans (b.fires_slotCounted s late), ?_, htrig,
    fun h => (ht.flag _ _ id).trans (b.armLate_slotCounted s late h), .of_within hall ?_ ?_ ?_ ?_⟩
  · rw [Blk.due_slotTriggered, Blk.tbu_slotCounted]
  · rintro r i hr ⟨-, h⟩
    revert r
    decide
  · exact ((b.slotCounted s late).units_slotTriggered s).1.trans (b.units_slotCounted s late).1
  · exact ((b.slotCounted s late).units_slotTriggered s).2.1.trans (b.units_slotCounted s late).2.1
  · exact ((b.slotCounted s late).units_slotTriggered s).2.2.trans (b.units_slotCounted s late).2.2

/-! ## The mode (R49) -/

/-- The registers that applying the mode of slot `s` writes, records apart. -/
def SlotModeReg (s : Nat) (r : RegName) (i : Nat) : Prop :=
  i = s ∧ r ∈ [RegName.SLOT_CTRL, .SLOT_STATUS, .SLOT_COUNT_LO, .SLOT_COUNT_HI] ∨ RecReg r i

/-- What no mode changes of slot `s`. -/
structure Blk.SlotModed (a b : Blk) (s : Nat) : Prop where
  within : a.Within (SlotModeReg s) b
  tbu : b.tbu = a.tbu
  armLate : b.flag F.SLOT_STATUS_ARM_LATE s = a.flag F.SLOT_STATUS_ARM_LATE s

section moded

variable {b : Blk} {s : Nat}

theorem Blk.slotModed_of_once (h : b.fld F.SLOT_CTRL_MODE s = 0) :
    b.slotModed s = (b.setFld F.SLOT_CTRL_EN s 0).setFld F.SLOT_STATUS_ARMED s 0 := by
  unfold Blk.slotModed
  rw [h]
  rfl

theorem Blk.slotModed_of_periodic (h : b.fld F.SLOT_CTRL_MODE s = 1) : b.slotModed s =
    if (b.advance s).2 = 0 then b.setReg64 .SLOT_COUNT_LO .SLOT_COUNT_HI s (b.advance s).1
    else (b.setReg64 .SLOT_COUNT_LO .SLOT_COUNT_HI s (b.advance s).1).raise 592 0x01 0x04
      (s * 2 ^ 22 + min (b.advance s).2 0xFFFF) := by
  unfold Blk.slotModed
  split
  · omega
  · rfl
  next h1 => exact absurd h h1

theorem Blk.slotModed_of_window (h : 2 ≤ b.fld F.SLOT_CTRL_MODE s) : b.slotModed s = b := by
  unfold Blk.slotModed
  split
  · omega
  · omega
  · rfl

theorem Blk.slotModed_spec (b : Blk) (s : Nat) : b.SlotModed (b.slotModed s) s := by
  have hrefl := Blk.Within.refl (R := SlotModeReg s) b
  have hcases : b.fld F.SLOT_CTRL_MODE s = 0 ∨ b.fld F.SLOT_CTRL_MODE s = 1 ∨ 2 ≤ b.fld F.SLOT_CTRL_MODE s := by omega
  rcases hcases with h | h | h
  · rw [Blk.slotModed_of_once h]
    refine ⟨(hrefl.setFld (.inl (by simp))).setFld (.inl (by simp)), (Blk.setFld_tbu ..).trans (Blk.setFld_tbu ..), ?_⟩
    exact (Blk.flag_setFld_of_apart _ _ _ (by decide) (by decide)).trans (Blk.flag_congr (Blk.reg_setFld_name _ _ _ _ (by decide)))
  · rw [Blk.slotModed_of_periodic h]
    have hset := hrefl.setReg64 (lo := .SLOT_COUNT_LO) (hi := .SLOT_COUNT_HI) (i := s) (v := (b.advance s).1) (.inl (by simp))
      (.inl (by simp))
    have hlate : (b.setReg64 .SLOT_COUNT_LO .SLOT_COUNT_HI s (b.advance s).1).flag F.SLOT_STATUS_ARM_LATE s =
        b.flag F.SLOT_STATUS_ARM_LATE s :=
      Blk.flag_congr ((Blk.reg_setReg_name _ _ _ _ (by decide)).trans (Blk.reg_setReg_name _ _ _ _ (by decide)))
    split
    · exact ⟨hset, Blk.setReg64_tbu .., hlate⟩
    · exact ⟨hset.raise fun _ _ => .inr, Blk.raise_tbu .., (Blk.flag_congr (Blk.regs_raise _ _ _ _ _ _ _ (by simp [RecReg]))).trans hlate⟩
  · rw [Blk.slotModed_of_window h]
    exact ⟨hrefl, rfl, rfl⟩

end moded

/-! ## The firing (R44, R50) -/

/-- A 64-bit number reads as written. -/
theorem Blk.reg64_setReg64_self (b : Blk) {lo hi : RegName} (h : lo ≠ hi) (i : Nat) {v : Nat} (hv : v < 2 ^ 64) :
    (b.setReg64 lo hi i v).reg64 lo hi i = v := by
  rw [Blk.reg64, Blk.setReg64, Blk.reg_setReg_self, Blk.reg_setReg_name _ _ _ _ h, Blk.reg_setReg_self, BitVec.toNat_ofNat,
    BitVec.toNat_ofNat]
  omega

/-- The advance depends on the slot's own registers and the snapshot. -/
theorem Blk.advance_congr {a b : Blk} (h : ∀ r i, r ∈ slotReads → b.reg r i = a.reg r i) (s : Nat) (hc : b.slotCount s = a.slotCount s) :
    b.advance s = a.advance s := by
  have hf := Blk.fld_of_slotReads h s
  rw [Blk.advance, Blk.advance, Blk.slotWidth_congr h, Blk.slotPeriod_congr h, hf F.SLOT_CTRL_DIR (by decide),
    hf F.SLOT_CTRL_TB (by decide), hc, Blk.tb_congr h]

section fired

variable {a c : Blk} {s : Nat} {late : Bool} (hf : a.SlotFired c s late)

include hf

theorem Blk.SlotFired.slotCount : c.slotCount s = a.slotCount s :=
  hf.within.reg64 (by simp [SlotFireReg]) (by simp [SlotFireReg])

theorem Blk.SlotFired.advance : c.advance s = a.advance s := by
  refine Blk.advance_congr (fun r i hr => hf.within.regs r i ?_) s hf.slotCount
  rintro ⟨-, h⟩
  revert r
  decide

theorem Blk.SlotFired.mode : c.fld F.SLOT_CTRL_MODE s = a.fld F.SLOT_CTRL_MODE s := hf.within.fld _ _ (by simp [SlotFireReg])

theorem Blk.SlotFired.ctrl : c.reg .SLOT_CTRL s = a.reg .SLOT_CTRL s := hf.within.regs _ _ (by simp [SlotFireReg])

/-- After a ONCE slot EN is 0 (R49). -/
theorem Blk.SlotFired.once (h : a.fld F.SLOT_CTRL_MODE s = 0) :
    (c.slotModed s).flag F.SLOT_CTRL_EN s = false ∧ (c.slotModed s).slotCount s = a.slotCount s := by
  rw [Blk.slotModed_of_once (hf.mode.trans h)]
  refine ⟨(Blk.flag_congr (Blk.reg_setFld_name _ _ _ _ (by decide))).trans (Blk.flag_setFld_zero _ _ _ (by decide) (by decide)), ?_⟩
  rw [← hf.slotCount]
  have hset : c.Within (fun r _ => r ∈ [RegName.SLOT_CTRL, .SLOT_STATUS])
      ((c.setFld F.SLOT_CTRL_EN s 0).setFld F.SLOT_STATUS_ARMED s 0) :=
    ((Blk.Within.refl c).setFld (.head _)).setFld (.tail _ (.head _))
  exact hset.reg64 (by decide) (by decide)

/-- A window slot stays as it is (R49). -/
theorem Blk.SlotFired.window (h : 2 ≤ a.fld F.SLOT_CTRL_MODE s) :
    (c.slotModed s).reg .SLOT_CTRL s = a.reg .SLOT_CTRL s ∧ (c.slotModed s).slotCount s = a.slotCount s := by
  rw [Blk.slotModed_of_window (hf.mode.symm ▸ h)]
  exact ⟨hf.ctrl, hf.slotCount⟩

/-- A PERIODIC slot takes the count that it advances to, and the skipped periods are recorded (R49). -/
theorem Blk.SlotFired.periodic (h : a.fld F.SLOT_CTRL_MODE s = 1) : let b := c.slotModed s
    b.reg .SLOT_CTRL s = a.reg .SLOT_CTRL s ∧ b.slotCount s = (a.advance s).1 ∧
      ((a.advance s).2 = 0 → NoRecord a b) ∧
      ((a.advance s).2 ≠ 0 → OneRecord 592 0x01 0x04 (s * 2 ^ 22 + min (a.advance s).2 0xFFFF) a b) := by
  dsimp only
  have hlt : (a.advance s).1 < 2 ^ 64 := a.advance_count s ▸ by
    unfold countMoved
    omega
  rw [Blk.slotModed_of_periodic (hf.mode.trans h), hf.advance]
  have hset : c.Within (fun r _ => r ∈ [RegName.SLOT_COUNT_LO, .SLOT_COUNT_HI])
      (c.setReg64 .SLOT_COUNT_LO .SLOT_COUNT_HI s (a.advance s).1) :=
    (Blk.Within.refl c).setReg64 (.head _) (.tail _ (.head _))
  have hcount : (c.setReg64 .SLOT_COUNT_LO .SLOT_COUNT_HI s (a.advance s).1).slotCount s = (a.advance s).1 :=
    c.reg64_setReg64_self (by decide) s hlt
  have halike : a.RecordsAlike (c.setReg64 .SLOT_COUNT_LO .SLOT_COUNT_HI s (a.advance s).1) :=
    hf.alike.trans (.of_within hset (fun r _ => by revert r; decide) (Blk.setReg64_mod ..) (Blk.setReg64_jrn ..) (Blk.setReg64_fab ..))
  have hctrl := (hset.regs .SLOT_CTRL s (by decide)).trans hf.ctrl
  generalize c.setReg64 .SLOT_COUNT_LO .SLOT_COUNT_HI s (a.advance s).1 = d at hcount halike hctrl ⊢
  split
  next h0 => exact ⟨hctrl, hcount, fun _ => halike.noRecord, fun hne => absurd h0 hne⟩
  next h0 =>
    have hraise := (Blk.Within.refl (R := RecReg) d).raise (source := 592) (cls := 1) (detail := 4)
      (data := s * 2 ^ 22 + min (a.advance s).2 0xFFFF) fun _ _ => id
    exact ⟨(hraise.regs _ _ (by simp [RecReg])).trans hctrl, (hraise.reg64 (by simp [RecReg]) (by simp [RecReg])).trans hcount,
      fun h0' => absurd h0' h0, fun _ => (halike.raise ..).oneRecord⟩

end fired

/-- COUNT moved by `n` periods UP or DOWN. -/
theorem Blk.countMoved_slotSign (b : Blk) (s n : Nat) :
    (((b.slotCount s : Int) + (if b.fld F.SLOT_CTRL_DIR s = 0 then (n : Int) else -n) * b.slotPeriod s) % 2 ^ 64).toNat =
      countMoved (b.slotCount s) (b.slotPeriod s) (b.slotSign s) n := by
  unfold countMoved Blk.slotSign
  split
  · rw [one_mul]
  · rw [neg_one_mul]

/-- Which side of the snapshot COUNT lies on after `n` periods. -/
theorem Blk.ahead_iff (b : Blk) (s n : Nat) :
    let c := (b.slotCount s : Int) + (if b.fld F.SLOT_CTRL_DIR s = 0 then (n : Int) else -n) * b.slotPeriod s
    let off := sdiff (b.slotWidth s) (c % 2 ^ 64).toNat (b.tb (b.fld F.SLOT_CTRL_TB s))
    (if b.fld F.SLOT_CTRL_DIR s = 0 then 0 < off else off < 0) ↔
      0 < b.slotSign s * (b.slotDistance s n).bmod (2 * b.slotHalf s) := by
  dsimp only
  rw [b.countMoved_slotSign, sdiff_countMoved (b.slotWidth_pos s).2, b.slotRange]
  unfold Blk.slotDistance
  generalize Int.bmod _ _ = d
  unfold Blk.slotSign
  split <;> omega

/-- Settles O14: the firing is counted and triggers its target, and each mode has its own outcome. -/
theorem slotFiring : Obligations.SlotFiring := by
  unfold Obligations.SlotFiring
  intro s slot x hb hhead hslot
  have hfind : s.blk.tbu.due.find? (·.slot = slot.val) = some x := by
    obtain ⟨l, hl⟩ := List.head?_eq_some_iff.mp hhead
    simp [hl, hslot]
  have hwhen : (s.blk.tbu.due.head?.map (·.slot) == some slot.val) = true := by simp [hhead, hslot]
  have hf := s.blk.slotFired slot x.late
  have hfire := Blk.fireSlot_of_due hfind
  generalize (s.blk.slotCounted slot x.late).slotTriggered slot = c at hf hfire
  obtain ⟨hwithin, htbu, hlate⟩ := c.slotModed_spec slot
  have hall : s.blk.Within (fun r i => SlotFireReg slot r i ∨ SlotModeReg slot r i) (c.slotModed slot) :=
    (hf.within.mono fun _ _ => .inl).trans (hwithin.mono fun _ _ => .inr)
  refine .of_live hb rfl ((Blk.when_of _ hwhen).trans hfire) ⟨(hwithin.fld _ _ (by simp [SlotModeReg, RecReg])).trans hf.fires,
    ?due, by rw [htbu, hf.trig], fun h => hlate.trans (hf.armLate h), hf.once, fun h hdir hp hP => ?periodic, hf.window,
    fun r i hr => hall.regs r i ?regs, hall.memKept⟩
  case due =>
    rw [htbu, hf.due]
    simp
  case regs =>
    simp only [SlotFireReg, SlotModeReg, RecReg, List.mem_cons, List.not_mem_nil, or_false] at hr ⊢
    tauto
  case periodic =>
    obtain ⟨hctrl, hcount, hnone, hone⟩ := hf.periodic h
    obtain ⟨hahead, hbehind⟩ := s.blk.advance_spec slot hp hP
    refine ⟨hctrl, (s.blk.advance slot).2, hcount.trans ?_, ?_, fun n h1 hn => ?_, hnone, hone⟩
    · exact (s.blk.advance_count slot).trans (s.blk.countMoved_slotSign slot _).symm
    · exact (s.blk.ahead_iff slot _).mpr hahead
    · obtain ⟨m, rfl⟩ := Nat.exists_eq_add_of_le' h1
      exact fun h => absurd ((s.blk.ahead_iff slot _).mp h) (not_lt.mpr (hbehind m (by omega)))

end Sys2Proof.Machine
end

section
/-!
PROOFS. The sensor front end: sample words, IMP channels, and captures of ENC channels (O42).
-/

namespace Sys2Proof.Machine

open Sys2Proof.Claims

/-! ## Sample words (R196, R197) -/

theorem toNat_sampleWord (valid : Bool) (reason seq : Nat) (value : Int) : (sampleWord valid reason seq value).toNat =
    valid.toNat * 2147483648 + reason % 16 * 134217728 + seq % 8 * 16777216 + (value % 16777216).toNat := by
  have := valid.toNat_le
  rw [sampleWord, BitVec.toNat_ofNat]
  norm_num
  omega

/-- The fields of a sample word. -/
theorem fields_sampleWord (valid : Bool) (reason seq : Nat) (value : Int) : let w := sampleWord valid reason seq value
    sampleSeq w = seq % 8 ∧ (w.extractLsb' 27 4).toNat = reason % 16 ∧ (w.extractLsb' 0 24).toNat = (value % 16777216).toNat ∧
      sampleValid w = valid := by
  have hw := toNat_sampleWord valid reason seq value
  have hv := valid.toNat_le
  generalize sampleWord valid reason seq value = w at hw
  dsimp only
  refine ⟨?_, ?_, ?_, ?_⟩
  · rw [sampleSeq, BitVec.extractLsb'_toNat, Nat.shiftRight_eq_div_pow]
    norm_num
    omega
  · rw [BitVec.extractLsb'_toNat, Nat.shiftRight_eq_div_pow]
    norm_num
    omega
  · rw [BitVec.extractLsb'_toNat, Nat.shiftRight_eq_div_pow]
    norm_num
    omega
  · rw [sampleValid, BitVec.getLsbD, Nat.testBit_eq_decide_div_mod_eq]
    norm_num
    cases valid <;> simp only [Bool.toNat_false, Bool.toNat_true, decide_eq_true_eq, decide_eq_false_iff_not] at hw ⊢ <;> omega

/-- A sample word is valid exactly where no reason applies (R197). -/
theorem sampleValid_reasonWord (reasons : List Nat) (seq : Nat) (value : Int) :
    sampleValid (reasonWord reasons seq value) = reasons.min?.isNone := by
  unfold reasonWord
  cases reasons.min? with
  | none => exact (fields_sampleWord true 0 seq value).2.2.2
  | some r => exact (fields_sampleWord false r seq _).2.2.2

/-! ## IMP channels (R204, R206) -/

theorem Blk.imp_setImp_self (b : Blk) (i : Nat) (x : ImpSt) : (b.setImp i x).imp i = x := NMap.get_set_self b.afe.imp i x _

theorem Blk.imp_setImp_of_ne (b : Blk) {i j : Nat} (x : ImpSt) (h : j ≠ i) : (b.setImp i x).imp j = b.imp j :=
  NMap.get_set_of_ne b.afe.imp x _ h

theorem Blk.imp_congr {a b : Blk} (h : b.afe = a.afe) (j : Nat) : b.imp j = a.imp j := by rw [Blk.imp, Blk.imp, h]

theorem Blk.reg_setImp (b : Blk) (i : Nat) (x : ImpSt) (r : RegName) (j : Nat) : (b.setImp i x).reg r j = b.reg r j := rfl

theorem Blk.fld_setImp (b : Blk) (i : Nat) (x : ImpSt) (f : Fld) (j : Nat) : (b.setImp i x).fld f j = b.fld f j := rfl

theorem Blk.tbu_setImp (b : Blk) (i : Nat) (x : ImpSt) : (b.setImp i x).tbu = b.tbu := rfl

theorem Blk.Within.setImp {R : RegName → Nat → Prop} {a b : Blk} (h : a.Within R b) {i x} : a.Within R (b.setImp i x) := h.units

/-- A sample of `mv` millivolts is a hit on IMP channel `i` (R204). -/
def Blk.impHit (b : Blk) (i : Nat) (mv : Int) : Prop :=
  (b.imp i).rect < b.fld F.IMP_CFG_THRESH i ∧ b.fld F.IMP_CFG_THRESH i ≤ mv.natAbs ∧
    ∀ t, (b.imp i).lastHit = some t → t + max 1 (b.fld F.IMP_CFG_HOLDOFF i) * 1000 ≤ b.tb1

theorem Blk.impSample_of_disabled {b : Blk} {i : Nat} {mv : Int} (h : b.flag F.IMP_CFG_EN i = false) : b.impSample i mv = b :=
  if_neg (by simp [h])

/-- The channel after a sample. -/
theorem Blk.impSample_of_enabled {b : Blk} {i : Nat} {mv : Int} (ha : b.aonRuns = true) (h : b.flag F.IMP_CFG_EN i = true) :
    ∃ x, b.impSample i mv = b.setImp i x ∧ x.rect = mv.natAbs ∧ x.dist = (b.imp i).dist ∧
      (b.impHit i mv → x.fresh = (b.imp i).fresh + 1 ∧ x.lastHit = some b.tb1) ∧
      (¬ b.impHit i mv → x.fresh = (b.imp i).fresh ∧ x.lastHit = (b.imp i).lastHit) := by
  refine ⟨_, Blk.when_of _ (by rw [ha, h]; rfl), rfl, rfl, ?_⟩
  unfold Blk.impHit
  cases (b.imp i).lastHit with
  | none => simp
  | some t =>
    simp
    grind

/-- The lowest reason that applies to a word of an IMP channel, 0 where none does: DISABLED, SATURATED, TIMEBASE, NO_TRAVEL. -/
def impReason (en full lost short : Bool) : Nat :=
  if en = false then 1 else if full = true then 8 else if lost = true then 9 else if short = true then 0xA else 0

theorem reasonWord_imp (en full lost short : Bool) (seq : Nat) (value : Int) :
    reasonWord ((if en then [] else [1]) ++ (if full then [8] else []) ++ (if lost then [9] else []) ++ (if short then [0xA] else []))
      seq value = sampleWord (decide (impReason en full lost short = 0)) (impReason en full lost short) seq
        (if en = false then 0 else value) := by
  cases en with
  | false => cases full <;> cases lost <;> cases short <;> rfl
  | true => cases full <;> cases lost <;> cases short <;> rfl

theorem impReason_mod (en full lost short : Bool) : impReason en full lost short % 16 = impReason en full lost short := by
  decide +revert

/-- IMP channel `i` with its interval closed: `w` is its word, and `c` and `d` the counts that it takes. -/
def Blk.impClosed (b : Blk) (i c d : Nat) (w : Word) : Blk :=
  ((((b.setReg .IMP_WORD i w).setFld F.IMP_CAP_CNT_CNT i c).setFld F.IMP_CAP_DIST_DIST i d).setFld F.IMP_LIVE_LIVE i 0).setImp i
    { b.imp i with dist := 0, tbLost := false }

/-- The interval of channel `i` is shorter than MIN_MM. -/
def Blk.impShort (b : Blk) (i : Nat) : Bool := decide ((b.imp i).dist < max 1 (b.fld F.IMP_CFG_MIN_MM i) * 1000)

/-- Impacts per 256 m, floored, of the interval of channel `i`. -/
def Blk.impRate (b : Blk) (i : Nat) : Nat := b.fld F.IMP_LIVE_LIVE i * 256000000 / (b.imp i).dist

/-- The word that closes the interval of channel `i`. -/
def Blk.impWord (b : Blk) (i : Nat) : Word :=
  reasonWord ((if b.flag F.IMP_CFG_EN i then [] else [1]) ++ (if !b.impShort i && decide (b.impRate i > 2 ^ 23 - 1) then [8] else []) ++
    (if (b.imp i).tbLost then [9] else []) ++ (if b.impShort i then [0xA] else [])) (sampleSeq (b.reg .IMP_WORD i) + 1)
    (if b.impShort i then b.fld F.IMP_LIVE_LIVE i else min (b.impRate i) (2 ^ 23 - 1) : Nat)

theorem Blk.impClose_eq (b : Blk) (i : Nat) :
    b.impClose i = b.impClosed i (b.fld F.IMP_LIVE_LIVE i) (b.imp i).dist (b.impWord i) := rfl

/-- The channel after its interval is closed (R206). -/
theorem Blk.impClosed_spec (b : Blk) (i c d : Nat) (w : Word) : let a := b.impClosed i c d w
    a.fld F.IMP_CAP_CNT_CNT i = c % 2 ^ 24 ∧ a.fld F.IMP_CAP_DIST_DIST i = d % 2 ^ 32 ∧ a.fld F.IMP_LIVE_LIVE i = 0 ∧
      a.imp i = { b.imp i with dist := 0, tbLost := false } ∧ (∀ j, j ≠ i → a.imp j = b.imp j) ∧ a.reg .IMP_WORD i = w ∧
      b.Within (fun r j => j = i ∧ r ∈ [.IMP_WORD, .IMP_CAP_CNT, .IMP_CAP_DIST, .IMP_LIVE]) a ∧ a.tbu = b.tbu := by
  have hw : b.Within (fun r j => j = i ∧ r ∈ [.IMP_WORD, .IMP_CAP_CNT, .IMP_CAP_DIST, .IMP_LIVE])
      ((((b.setReg .IMP_WORD i w).setFld F.IMP_CAP_CNT_CNT i c).setFld F.IMP_CAP_DIST_DIST i d).setFld F.IMP_LIVE_LIVE i 0) :=
    ((((Blk.Within.refl b).setReg (by simp)).setFld (by simp)).setFld (by simp)).setFld (by simp)
  dsimp only [Blk.impClosed]
  refine ⟨?_, ?_, ?_, Blk.imp_setImp_self .., fun j hj => (Blk.imp_setImp_of_ne _ _ hj).trans (Blk.imp_congr ?_ j), ?_, hw.setImp, ?_⟩
  · rw [Blk.fld_setImp, Blk.fld_setFld_name _ _ _ _ (by decide), Blk.fld_setFld_name _ _ _ _ (by decide),
      Blk.fld_setFld_self _ _ _ _ (by decide)]
  · rw [Blk.fld_setImp, Blk.fld_setFld_name _ _ _ _ (by decide), Blk.fld_setFld_self _ _ _ _ (by decide)]
  · rw [Blk.fld_setImp, Blk.fld_setFld_self _ _ _ _ (by decide), Nat.zero_mod]
  · rw [Blk.setFld_afe, Blk.setFld_afe, Blk.setFld_afe, Blk.setReg_afe]
  · rw [Blk.reg_setImp, Blk.reg_setFld_name _ _ _ _ (by decide), Blk.reg_setFld_name _ _ _ _ (by decide),
      Blk.reg_setFld_name _ _ _ _ (by decide), Blk.reg_setReg_self]
  · rw [Blk.tbu_setImp, Blk.setFld_tbu, Blk.setFld_tbu, Blk.setFld_tbu, Blk.setReg_tbu]

/-- The fields of a word of an IMP channel: no more than 24 bits are in its value. -/
theorem fields_impWord (en lost : Bool) (short : Prop) [Decidable short] {c : Nat} (full seq : Nat) (hc : c < 16777216) :
    let w := reasonWord ((if en then [] else [1]) ++ (if !decide short && decide (full > 2 ^ 23 - 1) then [8] else []) ++
      (if lost then [9] else []) ++ (if decide short then [0xA] else [])) seq (if decide short then c else min full (2 ^ 23 - 1) : Nat)
    let reason := if en = false then 1 else if ¬ short ∧ 2 ^ 23 - 1 < full then 8
      else if lost = true then 9 else if short then 0xA else 0
    sampleSeq w = seq % 8 ∧ (w.extractLsb' 0 24).toNat = (if en = false then 0 else if short then c else min full (2 ^ 23 - 1)) ∧
      (w.extractLsb' 27 4).toNat = reason ∧ (sampleValid w = true ↔ reason = 0) := by
  have hreason : impReason en (!decide short && decide (full > 2 ^ 23 - 1)) lost (decide short) =
      (if en = false then 1 else if ¬ short ∧ 2 ^ 23 - 1 < full then 8
      else if lost = true then 9 else if short then 0xA else 0) := by simp [impReason]
  have hv : (if short then c else min full (2 ^ 23 - 1)) < 16777216 := by
    split
    · exact hc
    · exact lt_of_le_of_lt (min_le_right _ _) (by norm_num)
  have hmod := impReason_mod en (!decide short && decide (full > 2 ^ 23 - 1)) lost (decide short)
  dsimp only
  rw [reasonWord_imp]
  simp only [hreason, decide_eq_true_eq] at hmod ⊢
  generalize (if short then c else min full (2 ^ 23 - 1)) = v at hv ⊢
  generalize (if en = false then 1 else _ : Nat) = r at hmod ⊢
  obtain ⟨hseq, hbits, hvalue, hvalid⟩ := fields_sampleWord (decide (r = 0)) r seq (if en = false then 0 else (v : Int))
  refine ⟨hseq, hvalue.trans ?_, hbits.trans hmod, by rw [hvalid, decide_eq_true_eq]⟩
  split <;> omega

/-! ## Commands -/

theorem impSample_completes (s : State) (i : Fin 16) (mv : Int) (ha : s.blk.aonRuns = true) : Completes (.impSample i mv) s fun b =>
    (s.blk.flag F.IMP_CFG_EN i = false → b = s.blk) ∧
      (s.blk.flag F.IMP_CFG_EN i = true → (b.imp i).rect = mv.natAbs ∧
        (s.blk.impHit i mv → (b.imp i).fresh = (s.blk.imp i).fresh + 1 ∧ (b.imp i).lastHit = some s.blk.tb1) ∧
        (¬ s.blk.impHit i mv → (b.imp i).fresh = (s.blk.imp i).fresh ∧ (b.imp i).lastHit = (s.blk.imp i).lastHit) ∧
        (b.imp i).dist = (s.blk.imp i).dist ∧ (∀ j, j ≠ i.val → b.imp j = s.blk.imp j)) ∧ RegsKept s.blk b ∧ MemKept s.blk b := by
  cases h : s.blk.flag F.IMP_CFG_EN i with
  | false =>
    exact .of_run (f := fun b => b.impSample i mv) rfl (Blk.impSample_of_disabled h)
      ⟨fun _ => rfl, fun h => (nomatch h), fun _ _ => rfl, ⟨fun _ => rfl, fun _ => rfl⟩⟩
  | true =>
    obtain ⟨x, hx, hrect, hdist, hhit, hmiss⟩ := Blk.impSample_of_enabled (mv := mv) ha h
    have hw : s.blk.Within (fun _ _ => False) (s.blk.setImp i x) := (Blk.Within.refl _).setImp
    refine .of_run (f := fun b => b.impSample i mv) rfl hx ⟨fun h => (nomatch h), fun _ => ?_, hw.regsKept, hw.memKept⟩
    rw [Blk.imp_setImp_self]
    exact ⟨hrect, hhit, hmiss, hdist, fun j hj => Blk.imp_setImp_of_ne _ _ hj⟩

theorem Blk.takeTrig_eq {b c : Blk} {kind id : Nat} {t : Trigger} (h : b.takeTrig kind id = some (t, c)) :
    c = { b with tbu := { b.tbu with trig := b.tbu.trig.erase t } } := by
  unfold Blk.takeTrig at h
  split at h
  · cases h
  · obtain ⟨rfl, rfl⟩ := Prod.mk.inj (Option.some.inj h)
    rfl

theorem Blk.sampleTrigger_of_imp {b c : Blk} {i : Nat} {t : Trigger} (hi : i < 16) (h : b.takeTrig 2 (64 + i) = some (t, c)) :
    b.sampleTrigger (64 + i) = c.impClose i := by
  unfold Blk.sampleTrigger
  rw [h]
  dsimp only
  rw [if_neg (by omega), if_pos (by omega), Nat.add_sub_cancel_left]

theorem Blk.sampleTrigger_of_enc {b c : Blk} {e : Nat} {t : Trigger} (h : b.takeTrig 2 (80 + e) = some (t, c)) :
    b.sampleTrigger (80 + e) = c.setReg .ENC_CAP e (c.reg .ENC_WORD e) := by
  unfold Blk.sampleTrigger
  rw [h]
  dsimp only
  rw [if_neg (by omega), if_neg (by omega), Nat.add_sub_cancel_left]

theorem impTrigger_completes (s : State) (i : Fin 16) (ch : Fin 112) (t : Trigger) (b0 : Blk) (ha : s.blk.aonRuns = true)
    (hch : ch.val = 64 + i.val) (ht : s.blk.takeTrig 2 ch = some (t, b0)) :
    Completes (.sensorSampleTrigger ch) s fun b => b.reg .IMP_WORD i = s.blk.impWord i ∧
      b.fld F.IMP_CAP_CNT_CNT i = s.blk.fld F.IMP_LIVE_LIVE i ∧ b.fld F.IMP_CAP_DIST_DIST i = (s.blk.imp i).dist % 2 ^ 32 ∧
      b.fld F.IMP_LIVE_LIVE i = 0 ∧ b.imp i = { s.blk.imp i with dist := 0, tbLost := false } ∧
      (∀ j, j ≠ i.val → b.imp j = s.blk.imp j) ∧ b.tbu.trig = s.blk.tbu.trig.erase t ∧
      s.blk.Within (fun r j => j = i.val ∧ r ∈ [.IMP_WORD, .IMP_CAP_CNT, .IMP_CAP_DIST, .IMP_LIVE]) b := by
  rw [hch] at ht
  have hb : s.blk.sampleTrigger ch = b0.impClose i := hch ▸ Blk.sampleTrigger_of_imp i.isLt ht
  obtain rfl := Blk.takeTrig_eq ht
  rw [Blk.impClose_eq] at hb
  obtain ⟨hcnt, hdist, hlive, himp, hothers, hword, hwithin, htbu⟩ := Blk.impClosed_spec { s.blk with tbu := { s.blk.tbu with
    trig := s.blk.tbu.trig.erase t } } i (s.blk.fld F.IMP_LIVE_LIVE i) (s.blk.imp i).dist (s.blk.impWord i)
  have hc : s.blk.fld F.IMP_LIVE_LIVE i % 2 ^ 24 = s.blk.fld F.IMP_LIVE_LIVE i := Nat.mod_mod ..
  exact .of_live ha rfl hb ⟨hword, hcnt.trans hc, hdist, hlive, himp, hothers, htbu ▸ rfl, (Blk.Within.refl s.blk).units.trans hwithin⟩

theorem encTrigger_completes (s : State) (e : Fin 32) (ch : Fin 112) (t : Trigger) (b0 : Blk) (ha : s.blk.aonRuns = true)
    (hch : ch.val = 80 + e.val) (ht : s.blk.takeTrig 2 ch = some (t, b0)) :
    Completes (.sensorSampleTrigger ch) s fun b =>
      b.reg .ENC_CAP e = s.blk.reg .ENC_WORD e ∧ b.tbu.trig = s.blk.tbu.trig.erase t ∧ b.afe = s.blk.afe ∧
        RegsKeptBut (fun r j => r = .ENC_CAP ∧ j = e.val) s.blk b ∧ MemKept s.blk b := by
  rw [hch] at ht
  have hb : s.blk.sampleTrigger ch = b0.setReg .ENC_CAP e (b0.reg .ENC_WORD e) := hch ▸ Blk.sampleTrigger_of_enc ht
  obtain rfl := Blk.takeTrig_eq ht
  have hw : s.blk.Within (fun r j => r = .ENC_CAP ∧ j = e.val) (Blk.setReg { s.blk with tbu := { s.blk.tbu with
      trig := s.blk.tbu.trig.erase t } } .ENC_CAP e (s.blk.reg .ENC_WORD e)) := (Blk.Within.refl s.blk).units.setReg ⟨rfl, rfl⟩
  exact .of_live ha rfl hb ⟨Blk.reg_setReg_self .., rfl, rfl, hw.regs, hw.memKept⟩

end Sys2Proof.Machine
end

section
/-!
PROOFS. The edges of ENC channels: what they count, and the pulses that the built timebases take from them (O42).
-/

namespace Sys2Proof.Machine

open Sys2Proof.Claims

/-! ## Steps of an edge (R207) -/

theorem Blk.enc_setEnc_self (b : Blk) (e : Nat) (x : EncSt) : (b.setEnc e x).enc e = x := NMap.get_set_self b.afe.enc e x _

theorem Blk.enc_setEnc_of_ne (b : Blk) {e k : Nat} (x : EncSt) (h : k ≠ e) : (b.setEnc e x).enc k = b.enc k :=
  NMap.get_set_of_ne b.afe.enc x _ h

theorem Blk.enc_setFld (b : Blk) (f : Fld) (i v k : Nat) : (b.setFld f i v).enc k = b.enc k := rfl

theorem Blk.reg_setEnc (b : Blk) (e : Nat) (x : EncSt) (r : RegName) (j : Nat) : (b.setEnc e x).reg r j = b.reg r j := rfl

theorem Blk.fld_setEnc (b : Blk) (e : Nat) (x : EncSt) (f : Fld) (j : Nat) : (b.setEnc e x).fld f j = b.fld f j := rfl

/-- From `a` to `b` nothing changes but ENC channels `e` and `o`, with ENC_PERIOD. -/
structure Blk.EncStep (e o : Nat) (a b : Blk) : Prop where
  within : a.Within (fun r j => r = .ENC_PERIOD ∧ (j = e ∨ j = o)) b
  others : ∀ k, k ≠ e → k ≠ o → b.enc k = a.enc k
  rest : { a with regs := b.regs, afe := { a.afe with enc := b.afe.enc } } = b

namespace Blk.EncStep

variable {e o : Nat} {a b : Blk}

theorem refl (b : Blk) : b.EncStep e o b := ⟨.refl b, fun _ _ _ => rfl, rfl⟩

theorem setEnc (h : a.EncStep e o b) {k : Nat} (hk : k = e ∨ k = o) (x : EncSt) : a.EncStep e o (b.setEnc k x) := by
  refine ⟨h.within.units, fun j he ho => (b.enc_setEnc_of_ne x ?_).trans (h.others j he ho), ?_⟩
  · rintro rfl
    exact hk.elim he ho
  · have hr := h.rest
    rw [← hr]
    rfl

theorem setFld (h : a.EncStep e o b) {f : Fld} (hf : f.reg = .ENC_PERIOD) {k : Nat} (hk : k = e ∨ k = o) (v : Nat) :
    a.EncStep e o (b.setFld f k v) := by
  refine ⟨h.within.setFld ⟨hf, hk⟩, fun j he ho => (b.enc_setFld ..).trans (h.others j he ho), ?_⟩
  have hr := h.rest
  rw [← hr]
  rfl

theorem encCount (h : a.EncStep e o b) {k : Nat} (hk : k = e ∨ k = o) (d : Int) : a.EncStep e o (b.encCount k d) := by
  unfold Blk.encCount
  dsimp only
  split
  · exact (h.setFld rfl hk _).setEnc hk _
  · exact h.setEnc hk _

theorem tbu (h : a.EncStep e o b) : b.tbu = a.tbu := (congrArg Blk.tbu h.rest).symm

theorem tb1 (h : a.EncStep e o b) : b.tb1 = a.tb1 := h.within.reg64 (by simp) (by simp)

end Blk.EncStep

/-- Channel `k` counts `d` from `a` to `b`. -/
structure Blk.EncCounts (a b : Blk) (k : Nat) (d : Int) : Prop where
  count : (b.enc k).count = (a.enc k).count + d
  lastAt : (b.enc k).lastAt = some a.tb1
  period : ∀ t, (a.enc k).lastAt = some t → b.fld F.ENC_PERIOD_PERIOD k = min ((a.tb1 - t) / 10) (2 ^ 32 - 1)

/-- Channel `k` counts nothing from `a` to `b`. -/
structure Blk.EncQuiet (a b : Blk) (k : Nat) : Prop where
  count : (b.enc k).count = (a.enc k).count
  lastAt : (b.enc k).lastAt = (a.enc k).lastAt
  period : b.reg .ENC_PERIOD k = a.reg .ENC_PERIOD k

section count

variable {a b c : Blk} {k : Nat}

/-- The block with ENC_PERIOD of channel `k` at the ticks since the edge before, if any (R207). -/
def Blk.encPeriod (b : Blk) (k : Nat) : Blk :=
  match (b.enc k).lastAt with
  | some t => b.setFld F.ENC_PERIOD_PERIOD k (min ((b.tb1 - t) / 10) (2 ^ 32 - 1))
  | none => b

theorem Blk.encCount_eq (b : Blk) (k : Nat) (d : Int) : b.encCount k d =
    (b.encPeriod k).setEnc k { b.enc k with count := (b.enc k).count + d, lastAt := some b.tb1 } := rfl

theorem Blk.enc_encPeriod (b : Blk) (k j : Nat) : (b.encPeriod k).enc j = b.enc j := by
  unfold Blk.encPeriod
  split
  exacts [b.enc_setFld .., rfl]

theorem Blk.reg_encPeriod_of_ne (b : Blk) {j k : Nat} (h : j ≠ k) (r : RegName) : (b.encPeriod k).reg r j = b.reg r j := by
  unfold Blk.encPeriod
  split
  exacts [Blk.reg_setFld_index _ _ _ h, rfl]

theorem Blk.period_encPeriod {b : Blk} {k t : Nat} (h : (b.enc k).lastAt = some t) :
    (b.encPeriod k).fld F.ENC_PERIOD_PERIOD k = min ((b.tb1 - t) / 10) (2 ^ 32 - 1) := by
  unfold Blk.encPeriod
  rw [h]
  exact (Blk.fld_setFld_self _ _ _ _ (by decide)).trans (Nat.mod_eq_of_lt (lt_of_le_of_lt (min_le_right _ _) (by norm_num)))

theorem Blk.enc_encCount_self (b : Blk) (k : Nat) (d : Int) :
    (b.encCount k d).enc k = { b.enc k with count := (b.enc k).count + d, lastAt := some b.tb1 } := by
  rw [Blk.encCount_eq, Blk.enc_setEnc_self]

theorem Blk.enc_encCount_of_ne (b : Blk) {j k : Nat} (d : Int) (h : j ≠ k) : (b.encCount k d).enc j = b.enc j := by
  rw [Blk.encCount_eq, Blk.enc_setEnc_of_ne _ _ h, Blk.enc_encPeriod]

theorem Blk.reg_encCount_of_ne (b : Blk) {j k : Nat} (d : Int) (h : j ≠ k) (r : RegName) : (b.encCount k d).reg r j = b.reg r j := by
  rw [Blk.encCount_eq, Blk.reg_setEnc, Blk.reg_encPeriod_of_ne _ h]

theorem Blk.EncQuiet.encCount (h : a.EncQuiet b k) (ht : b.tb1 = a.tb1) (d : Int) : a.EncCounts (b.encCount k d) k d := by
  refine ⟨?_, ?_, fun t hlast => ?_⟩
  · rw [Blk.enc_encCount_self, h.count]
  · rw [Blk.enc_encCount_self, ht]
  · rw [Blk.encCount_eq, Blk.fld_setEnc, Blk.period_encPeriod (h.lastAt.trans hlast), ht]

/-- What a channel has counted stays where its count and its period stay. -/
theorem Blk.EncCounts.of_same {d : Int} (h : a.EncCounts b k d) (hc : (c.enc k).count = (b.enc k).count)
    (hl : (c.enc k).lastAt = (b.enc k).lastAt) (hp : c.reg .ENC_PERIOD k = b.reg .ENC_PERIOD k) : a.EncCounts c k d :=
  ⟨hc.trans h.count, hl.trans h.lastAt, fun t ht => (congrArg F.ENC_PERIOD_PERIOD.get hp).trans (h.period t ht)⟩

theorem Blk.EncQuiet.of_same (h : a.EncQuiet b k) (hc : (c.enc k).count = (b.enc k).count)
    (hl : (c.enc k).lastAt = (b.enc k).lastAt) (hp : c.reg .ENC_PERIOD k = b.reg .ENC_PERIOD k) : a.EncQuiet c k :=
  ⟨hc.trans h.count, hl.trans h.lastAt, hp.trans h.period⟩

theorem Blk.EncCounts.encCount_of_ne {d : Int} (h : a.EncCounts b k d) {j : Nat} (hj : k ≠ j) (d' : Int) :
    a.EncCounts (b.encCount j d') k d :=
  h.of_same (by rw [b.enc_encCount_of_ne _ hj]) (by rw [b.enc_encCount_of_ne _ hj]) (b.reg_encCount_of_ne _ hj _)

theorem Blk.EncQuiet.encCount_of_ne (h : a.EncQuiet b k) {j : Nat} (hj : k ≠ j) (d' : Int) : a.EncQuiet (b.encCount j d') k :=
  h.of_same (by rw [b.enc_encCount_of_ne _ hj]) (by rw [b.enc_encCount_of_ne _ hj]) (b.reg_encCount_of_ne _ hj _)

end count

/-- Channel `k` counts an edge to level `l` of its own, or nothing where it counts none. -/
def Blk.EncOwn (a b : Blk) (k : Nat) (l : Bool) : Prop :=
  (a.countsEdge k l = true → a.EncCounts b k 1) ∧ (a.countsEdge k l = false → a.EncQuiet b k)

/-- The filtered level of a channel takes the edge `x`. -/
def Blk.moveEnc (b : Blk) (x : Nat × Bool) : Blk := b.setEnc x.1 { b.enc x.1 with level := x.2, moved := some b.tb1 }

/-- A channel counts the edge `x` of its own, but for the even channel of a pair. -/
def Blk.countOwn (quad : Bool) (even : Nat) (b : Blk) (x : Nat × Bool) : Blk :=
  if b.countsEdge x.1 x.2 && !(quad && x.1 == even) then b.encCount x.1 1 else b

/-- The even channel of a pair counts the edge of channel `e`, up where that channel leads. -/
def Blk.countPair (b : Blk) (even e : Nat) : Blk :=
  let same := (b.enc even).level == (b.enc (even + 1)).level
  b.encCount even (if (if e = even then !same else same) then 1 else -1)

/-- Both channels of a pair have changed on one tick. -/
def Blk.quadFault (b : Blk) (even : Nat) : Blk := b.setEnc even { b.enc even with quadErr := true }

/-- The built timebases take the pulses that the edges give. -/
def Blk.edgePulses (b : Blk) (edges : List (Nat × Bool)) : Blk :=
  { b with tbu := { b.tbu with pulses := b.tbu.pulses ++ (List.range 13).flatMap fun k => b.pulsesOf edges (k + 3) } }

/-- The other channel of the pair of channel `e`. -/
def encOther (e : Nat) : Nat := if e = e - e % 2 then e + 1 else e - e % 2

/-- The even channel of the pair of channel `e` counts for both. -/
def Blk.encPaired (b : Blk) (e : Nat) : Bool := b.flag F.ENC_CFG_QUAD (e - e % 2) && b.flag F.ENC_CFG_EN (e - e % 2)

/-! ## What the steps keep -/

section steps

variable {a b : Blk} {e o : Nat}

theorem Blk.EncStep.flag_cfg (h : a.EncStep e o b) (f : Fld) (hf : f.reg = .ENC_CFG) (k : Nat) : b.flag f k = a.flag f k :=
  h.within.flag f k (by simp [hf])

theorem Blk.EncStep.countsEdge (h : a.EncStep e o b) (k : Nat) (l : Bool) : b.countsEdge k l = a.countsEdge k l := by
  rw [Blk.countsEdge, Blk.countsEdge, h.flag_cfg _ rfl, h.flag_cfg _ rfl]

theorem Blk.EncStep.moveEnc (h : a.EncStep e o b) {x : Nat × Bool} (hx : x.1 = e ∨ x.1 = o) : a.EncStep e o (b.moveEnc x) :=
  h.setEnc hx _

theorem Blk.EncStep.countOwn (h : a.EncStep e o b) {x : Nat × Bool} (hx : x.1 = e ∨ x.1 = o) (q : Bool) (ev : Nat) :
    a.EncStep e o (b.countOwn q ev x) := by
  unfold Blk.countOwn
  split
  exacts [h.encCount hx _, h]

theorem Blk.enc_moveEnc_self (b : Blk) (k : Nat) (l : Bool) :
    (b.moveEnc (k, l)).enc k = { b.enc k with level := l, moved := some b.tb1 } := Blk.enc_setEnc_self ..

theorem Blk.enc_moveEnc_of_ne (b : Blk) {j k : Nat} (l : Bool) (h : j ≠ k) : (b.moveEnc (k, l)).enc j = b.enc j :=
  Blk.enc_setEnc_of_ne _ _ h

theorem Blk.EncQuiet.refl (a : Blk) (k : Nat) : a.EncQuiet a k := ⟨rfl, rfl, rfl⟩

theorem Blk.EncQuiet.moveEnc {k : Nat} (h : a.EncQuiet b k) (j : Nat) (l : Bool) : a.EncQuiet (b.moveEnc (j, l)) k := by
  by_cases hj : k = j
  · subst hj
    exact h.of_same (by rw [Blk.enc_moveEnc_self]) (by rw [Blk.enc_moveEnc_self]) rfl
  · exact h.of_same (by rw [b.enc_moveEnc_of_ne l hj]) (by rw [b.enc_moveEnc_of_ne l hj]) rfl

theorem Blk.level_encCount (b : Blk) (k j : Nat) (d : Int) : ((b.encCount k d).enc j).level = (b.enc j).level := by
  by_cases h : j = k
  · rw [h, Blk.enc_encCount_self]
  · rw [Blk.enc_encCount_of_ne _ _ h]

theorem Blk.level_moveEnc (b : Blk) (k j : Nat) (l : Bool) : ((b.moveEnc (k, l)).enc j).level = if j = k then l else (b.enc j).level := by
  split
  next h => rw [h, Blk.enc_moveEnc_self]
  next h => rw [b.enc_moveEnc_of_ne l h]

theorem Blk.level_countOwn (b : Blk) (q : Bool) (ev : Nat) (x : Nat × Bool) (j : Nat) :
    ((b.countOwn q ev x).enc j).level = (b.enc j).level := by
  unfold Blk.countOwn
  split
  exacts [b.level_encCount .., rfl]

theorem Blk.countOwn_of_ne (b : Blk) (q : Bool) (ev : Nat) {k j : Nat} (l : Bool) (h : j ≠ k) :
    (b.countOwn q ev (k, l)).enc j = b.enc j ∧ (b.countOwn q ev (k, l)).reg .ENC_PERIOD j = b.reg .ENC_PERIOD j := by
  unfold Blk.countOwn
  split
  · exact ⟨b.enc_encCount_of_ne _ h, b.reg_encCount_of_ne _ h _⟩
  · exact ⟨rfl, rfl⟩

theorem Blk.countOwn_of_paired (b : Blk) {k ev : Nat} (h : k = ev) (l : Bool) : b.countOwn true ev (k, l) = b := if_neg (by simp [h])

/-- The even channel of a pair counts no edge of its own. -/
theorem Blk.EncQuiet.countOwn_paired {ev : Nat} (h : a.EncQuiet b ev) (k : Nat) (l : Bool) : a.EncQuiet (b.countOwn true ev (k, l)) ev := by
  by_cases hk : k = ev
  · rw [Blk.countOwn_of_paired _ hk]
    exact h
  · obtain ⟨henc, hreg⟩ := b.countOwn_of_ne true ev l (Ne.symm hk)
    exact h.of_same (by rw [henc]) (by rw [henc]) hreg

/-- A channel that does not count for its pair counts its own edges. -/
theorem Blk.EncQuiet.countOwn {k : Nat} (hq : a.EncQuiet b k) (h : a.EncStep e o b) {q : Bool} {ev : Nat} (hne : ¬ (q = true ∧ k = ev))
    (l : Bool) : a.EncOwn (b.countOwn q ev (k, l)) k l := by
  have hpair : (!(q && k == ev)) = true := by by_cases hk : k = ev <;> simp_all
  unfold Blk.countOwn
  dsimp only
  rw [h.countsEdge, hpair, Bool.and_true]
  constructor
  · intro hc
    rw [if_pos hc]
    exact hq.encCount h.tb1 1
  · intro hc
    rw [if_neg (by simp [hc])]
    exact hq

theorem Blk.EncOwn.of_same {c : Blk} {k : Nat} {l : Bool} (h : a.EncOwn b k l) (hc : (c.enc k).count = (b.enc k).count)
    (hl : (c.enc k).lastAt = (b.enc k).lastAt) (hp : c.reg .ENC_PERIOD k = b.reg .ENC_PERIOD k) : a.EncOwn c k l :=
  ⟨fun h1 => (h.1 h1).of_same hc hl hp, fun h0 => (h.2 h0).of_same hc hl hp⟩

end steps

/-! ## Pulses of the built timebases (R36) -/

/-- A list that one index alone contributes to. -/
theorem flatMap_range_single {α : Type} {f : Nat → List α} {m : Nat} (hf : ∀ k, k ≠ m → f k = []) (n : Nat) :
    (List.range n).flatMap f = if m < n then f m else [] := by
  induction n with
  | zero => rfl
  | succ n ih =>
    rw [List.range_succ, List.flatMap_append, ih, List.flatMap_singleton]
    by_cases h : n = m
    · subst h
      simp
    · rw [hf n h, List.append_nil]
      simp only [show m < n + 1 ↔ m < n by omega]

/-- Every pulse of a timebase is for that timebase. -/
theorem Blk.tb_of_mem_pulsesOf {b : Blk} {edges : List (Nat × Bool)} {n : Nat} {p : Pulse} (h : p ∈ b.pulsesOf edges n) : p.tb = n := by
  unfold Blk.pulsesOf at h
  grind

theorem Blk.filter_edgePulses (b : Blk) (edges : List (Nat × Bool)) {n : Nat} (h3 : 3 ≤ n) (h16 : n < 16) :
    (b.edgePulses edges).tbu.pulses.filter (fun p => p.tb == n) =
      b.tbu.pulses.filter (fun p => p.tb == n) ++ b.pulsesOf edges n := by
  have hone : ∀ k, k ≠ n - 3 → (b.pulsesOf edges (k + 3)).filter (fun p => p.tb == n) = [] := fun k hk => by
    refine List.filter_eq_nil_iff.mpr fun p hp => ?_
    have := Blk.tb_of_mem_pulsesOf hp
    simp
    omega
  have hall : (b.pulsesOf edges n).filter (fun p => p.tb == n) = b.pulsesOf edges n :=
    List.filter_eq_self.mpr fun p hp => by simp [Blk.tb_of_mem_pulsesOf hp]
  unfold Blk.edgePulses
  dsimp only
  rw [List.filter_append, List.filter_flatMap, flatMap_range_single hone, if_pos (by omega), Nat.sub_add_cancel h3, hall]

/-- A timebase that takes source pulses from one channel alone gets one for each edge that the channel counts. -/
theorem Blk.pulsesOf_single {b : Blk} {n e : Nat} {l : Bool} (hv : b.builtValid n = true) (ha : b.fld F.TB_CFG_SRC_A n = e)
    (hq : b.flag F.TB_CFG_QUAD n = false) (hs : b.flag F.TB_CFG_SRC_B_EN n = false) :
    b.pulsesOf [(e, l)] n = if b.countsEdge e l = true then [⟨n, false, false, true⟩] else [] := by
  unfold Blk.pulsesOf
  dsimp only
  rw [if_pos hv, hq, hs, ha]
  cases h : b.countsEdge e l <;> simp [h]

/-- The registers that the validity of a built timebase depends on. -/
def builtReads : List RegName := [.SYS_STATUS, .TB_CFG, .TB_SCALE, .ENC_CFG]

theorem Blk.builtValid_congr {a b : Blk} (h : ∀ r i, r ∈ builtReads → b.reg r i = a.reg r i) (n : Nat) :
    b.builtValid n = a.builtValid n := by
  have hf : ∀ (f : Fld) i, f.reg ∈ builtReads → b.fld f i = a.fld f i := fun f i hr => congrArg f.get (h _ _ hr)
  simp only [Blk.builtValid, Blk.configDone, Blk.flag, hf F.SYS_STATUS_CONFIG_DONE _ (by decide), hf F.TB_CFG_KIND _ (by decide),
    hf F.TB_CFG_SRC_A _ (by decide), hf F.TB_CFG_SRC_B _ (by decide), hf F.TB_CFG_SRC_B_EN _ (by decide),
    hf F.TB_CFG_QUAD _ (by decide), hf F.TB_SCALE_SCALE _ (by decide), hf F.ENC_CFG_EN _ (by decide)]

/-! ## One edge, and both of a pair (R207) -/

theorem encOther_ne (e : Nat) : encOther e ≠ e := by
  unfold encOther
  split <;> omega

/-- The edge of channel `e` alone, but for the pulses. -/
def Blk.edgeAlone (b : Blk) (e : Nat) (l : Bool) : Blk :=
  let c := (b.moveEnc (e, l)).countOwn (b.encPaired e) (e - e % 2) (e, l)
  if b.encPaired e then c.countPair (e - e % 2) e else c

section alone

variable (b : Blk) (e : Nat) (l : Bool)

theorem Blk.encStep_edgeAlone : b.EncStep e (encOther e) (b.edgeAlone e l) := by
  have hc := ((Blk.EncStep.refl (e := e) (o := encOther e) b).moveEnc (x := (e, l)) (.inl rfl)).countOwn (x := (e, l)) (.inl rfl)
    (b.encPaired e) (e - e % 2)
  have hev : e - e % 2 = e ∨ e - e % 2 = encOther e := by
    unfold encOther
    split <;> omega
  unfold Blk.edgeAlone
  split
  exacts [hc.encCount hev _, hc]

theorem Blk.level_edgeAlone (k : Nat) : ((b.edgeAlone e l).enc k).level = if k = e then l else (b.enc k).level := by
  have hc : (((b.moveEnc (e, l)).countOwn (b.encPaired e) (e - e % 2) (e, l)).enc k).level = if k = e then l else (b.enc k).level := by
    rw [Blk.level_countOwn, Blk.level_moveEnc]
  unfold Blk.edgeAlone
  dsimp only
  split
  exacts [(Blk.level_encCount ..).trans hc, hc]

theorem Blk.edgeAlone_own (h : ¬ (b.encPaired e = true ∧ e = e - e % 2)) : b.EncOwn (b.edgeAlone e l) e l := by
  have hown := ((Blk.EncQuiet.refl b e).moveEnc e l).countOwn ((Blk.EncStep.refl (e := e) (o := e) b).moveEnc (.inl rfl)) h l
  unfold Blk.edgeAlone
  dsimp only
  split
  next hq =>
    have hne : e ≠ e - e % 2 := fun he => h ⟨hq, he⟩
    exact hown.of_same (by rw [Blk.countPair, Blk.enc_encCount_of_ne _ _ hne]) (by rw [Blk.countPair, Blk.enc_encCount_of_ne _ _ hne])
      (Blk.reg_encCount_of_ne _ _ hne _)
  next => exact hown

theorem Blk.edgeAlone_other (h : ¬ (b.encPaired e = true ∧ e ≠ e - e % 2)) :
    (b.edgeAlone e l).enc (encOther e) = b.enc (encOther e) ∧
      (b.edgeAlone e l).reg .ENC_PERIOD (encOther e) = b.reg .ENC_PERIOD (encOther e) := by
  have hne := encOther_ne e
  obtain ⟨henc, hreg⟩ := (b.moveEnc (e, l)).countOwn_of_ne (b.encPaired e) (e - e % 2) l hne
  unfold Blk.edgeAlone
  dsimp only
  split
  next hq =>
    have he : encOther e ≠ e - e % 2 := by
      have : e = e - e % 2 := by_contra fun hne => h ⟨hq, hne⟩
      omega
    exact ⟨(Blk.enc_encCount_of_ne _ _ he).trans (henc.trans (b.enc_moveEnc_of_ne l hne)), (Blk.reg_encCount_of_ne _ _ he _).trans hreg⟩
  next => exact ⟨henc.trans (b.enc_moveEnc_of_ne l hne), hreg⟩

theorem Blk.edgeAlone_pair (h : b.encPaired e = true) : b.EncCounts (b.edgeAlone e l) (e - e % 2)
    (if l = (b.enc (encOther e)).level then (if e = e - e % 2 then -1 else 1) else (if e = e - e % 2 then 1 else -1)) := by
  have hstep := ((Blk.EncStep.refl (e := e) (o := e) b).moveEnc (x := (e, l)) (.inl rfl)).countOwn (x := (e, l)) (.inl rfl)
    (b.encPaired e) (e - e % 2)
  have hquiet := (Blk.EncQuiet.refl b (e - e % 2)).moveEnc e l
  have hc := hquiet.countOwn_paired e l
  rw [← h] at hc
  unfold Blk.edgeAlone
  dsimp only
  rw [if_pos h, Blk.countPair, Blk.level_countOwn, Blk.level_countOwn, Blk.level_moveEnc, Blk.level_moveEnc]
  convert hc.encCount hstep.tb1 _ using 1
  unfold encOther
  by_cases hev : e = e - e % 2
  · have hodd : ¬ (e - e % 2 + 1 = e) := by omega
    simp only [if_pos hev, if_pos hev.symm, if_neg hodd]
    rw [← hev]
    by_cases hl : l = (b.enc (e + 1)).level <;> simp [hl]
  · have hodd : e - e % 2 + 1 = e := by omega
    simp only [if_neg hev, if_neg (Ne.symm hev), if_pos hodd]
    by_cases hl : l = (b.enc (e - e % 2)).level <;> simp [hl]
    exact fun h => hl h.symm

end alone

/-- The edges of channel `e` and of the other one of its pair on one tick, but for the pulses. -/
def Blk.edgeBoth (b : Blk) (e : Nat) (l l' : Bool) : Blk :=
  let c := (((b.moveEnc (e, l)).moveEnc (encOther e, l')).countOwn (b.encPaired e) (e - e % 2) (e, l)).countOwn (b.encPaired e)
    (e - e % 2) (encOther e, l')
  if b.encPaired e then c.quadFault (e - e % 2) else c

section both

variable (b : Blk) (e : Nat) (l l' : Bool)

theorem Blk.encStep_moveBoth : b.EncStep e (encOther e) ((b.moveEnc (e, l)).moveEnc (encOther e, l')) :=
  ((Blk.EncStep.refl b).moveEnc (x := (e, l)) (.inl rfl)).moveEnc (x := (encOther e, l')) (.inr rfl)

theorem Blk.encStep_edgeBoth : b.EncStep e (encOther e) (b.edgeBoth e l l') := by
  have hc := ((b.encStep_moveBoth e l l').countOwn (x := (e, l)) (.inl rfl) (b.encPaired e) (e - e % 2)).countOwn
    (x := (encOther e, l')) (.inr rfl) (b.encPaired e) (e - e % 2)
  have hev : e - e % 2 = e ∨ e - e % 2 = encOther e := by
    unfold encOther
    split <;> omega
  unfold Blk.edgeBoth
  split
  exacts [hc.setEnc hev _, hc]

theorem Blk.enc_quadFault_of_ne (b : Blk) {ev k : Nat} (h : k ≠ ev) : (b.quadFault ev).enc k = b.enc k := Blk.enc_setEnc_of_ne _ _ h

theorem Blk.enc_quadFault_self (b : Blk) (ev : Nat) : (b.quadFault ev).enc ev = { b.enc ev with quadErr := true } :=
  Blk.enc_setEnc_self ..

theorem Blk.level_quadFault (b : Blk) (ev k : Nat) : ((b.quadFault ev).enc k).level = (b.enc k).level := by
  by_cases h : k = ev
  · rw [h, Blk.enc_quadFault_self]
  · rw [Blk.enc_quadFault_of_ne _ h]

theorem Blk.level_edgeBoth (k : Nat) :
    ((b.edgeBoth e l l').enc k).level = if k = encOther e then l' else if k = e then l else (b.enc k).level := by
  unfold Blk.edgeBoth
  dsimp only
  split
  · rw [Blk.level_quadFault, Blk.level_countOwn, Blk.level_countOwn, Blk.level_moveEnc, Blk.level_moveEnc]
  · rw [Blk.level_countOwn, Blk.level_countOwn, Blk.level_moveEnc, Blk.level_moveEnc]

/-- What a channel counts on its own stays where its pair reports that both have changed. -/
theorem Blk.EncOwn.quadFault {a b : Blk} {k ev : Nat} {l : Bool} (h : a.EncOwn b k l) {q : Bool} (hne : ¬ (q = true ∧ k = ev)) :
    a.EncOwn (if q then b.quadFault ev else b) k l := by
  split
  next hq =>
    have hk : k ≠ ev := fun hk => hne ⟨hq, hk⟩
    exact h.of_same (by rw [Blk.enc_quadFault_of_ne _ hk]) (by rw [Blk.enc_quadFault_of_ne _ hk]) rfl
  next => exact h

theorem Blk.edgeBoth_own (h : ¬ (b.encPaired e = true ∧ e = e - e % 2)) : b.EncOwn (b.edgeBoth e l l') e l := by
  have hquiet := ((Blk.EncQuiet.refl b e).moveEnc e l).moveEnc (encOther e) l'
  have hown := hquiet.countOwn (b.encStep_moveBoth e l l') h l
  obtain ⟨henc, hreg⟩ := Blk.countOwn_of_ne (((b.moveEnc (e, l)).moveEnc (encOther e, l')).countOwn (b.encPaired e) (e - e % 2) (e, l))
    (b.encPaired e) (e - e % 2) l' (encOther_ne e).symm
  exact (hown.of_same (by rw [henc]) (by rw [henc]) hreg).quadFault h

theorem Blk.edgeBoth_otherOwn (h : ¬ (b.encPaired e = true ∧ encOther e = e - e % 2)) :
    b.EncOwn (b.edgeBoth e l l') (encOther e) l' := by
  have hquiet := ((Blk.EncQuiet.refl b (encOther e)).moveEnc e l).moveEnc (encOther e) l'
  obtain ⟨henc, hreg⟩ := Blk.countOwn_of_ne ((b.moveEnc (e, l)).moveEnc (encOther e, l')) (b.encPaired e) (e - e % 2) l (encOther_ne e)
  have hstep := (b.encStep_moveBoth e l l').countOwn (x := (e, l)) (.inl rfl) (b.encPaired e) (e - e % 2)
  exact ((hquiet.of_same (by rw [henc]) (by rw [henc]) hreg).countOwn hstep h l').quadFault h

theorem Blk.edgeBoth_pair (h : b.encPaired e = true) :
    b.EncQuiet (b.edgeBoth e l l') (e - e % 2) ∧ ((b.edgeBoth e l l').enc (e - e % 2)).quadErr = true := by
  have hquiet := ((((Blk.EncQuiet.refl b (e - e % 2)).moveEnc e l).moveEnc (encOther e) l').countOwn_paired e l).countOwn_paired
    (encOther e) l'
  unfold Blk.edgeBoth
  dsimp only
  rw [if_pos h, Blk.enc_quadFault_self, h]
  exact ⟨hquiet.of_same (by rw [Blk.enc_quadFault_self]) (by rw [Blk.enc_quadFault_self]) rfl, rfl⟩

/-- A pair both inputs of which have changed delivers a word that is not valid. -/
theorem Blk.encWord_of_quadErr {b : Blk} {e : Nat} (h : (b.enc e).quadErr = true) : sampleValid (b.encWord e) = false := by
  unfold Blk.encWord
  dsimp only
  rw [sampleValid_reasonWord, h]
  cases b.flag F.ENC_CFG_EN e <;> rfl

end both

/-! ## The command -/

section edge

variable {b : Blk} {e since : Nat} {l : Bool} (ha : b.aonRuns = true) (he : b.edgeOk e l since = true)
  (hm : (b.enc (encOther e)).moved ≠ some b.tb1)

include ha he hm

theorem Blk.encEdge_alone : b.encEdge e l since none = (b.edgeAlone e l).edgePulses [(e, l)] := by
  have hm' : ((b.enc (encOther e)).moved != some b.tb1) = true := by simpa using hm
  unfold Blk.encEdge Blk.edgeAlone Blk.encPaired
  refine (Blk.when_of _ ?_).trans ?_
  · exact Bool.and_eq_true_iff.mpr ⟨Bool.and_eq_true_iff.mpr ⟨Bool.and_eq_true_iff.mpr ⟨ha, he⟩, hm'⟩, rfl⟩
  · cases b.flag F.ENC_CFG_QUAD (e - e % 2) && b.flag F.ENC_CFG_EN (e - e % 2) <;> rfl

theorem Blk.encEdge_both {t : Nat} (hother : b.edgeOk (encOther e) (!(b.enc (encOther e)).level) t = true) :
    b.encEdge e l since (some t) = (b.edgeBoth e l (!(b.enc (encOther e)).level)).edgePulses
      [(e, l), (encOther e, !(b.enc (encOther e)).level)] := by
  have hm' : ((b.enc (encOther e)).moved != some b.tb1) = true := by simpa using hm
  unfold Blk.encEdge Blk.edgeBoth Blk.encPaired
  refine (Blk.when_of _ ?_).trans ?_
  · exact Bool.and_eq_true_iff.mpr ⟨Bool.and_eq_true_iff.mpr ⟨Bool.and_eq_true_iff.mpr ⟨ha, he⟩, hm'⟩, hother⟩
  · cases b.flag F.ENC_CFG_QUAD (e - e % 2) && b.flag F.ENC_CFG_EN (e - e % 2) <;> rfl

end edge

theorem Blk.edgeOk_of_stood {b : Blk} {k since : Nat} {l : Bool} (h : (b.enc k).level = !l ∧
    (∀ t, (b.enc k).moved = some t → t < since) ∧ since + (b.fld F.ENC_CFG_FILT k + 2) * 10 ≤ b.tb1) : b.edgeOk k l since = true := by
  obtain ⟨hl, hm, hs⟩ := h
  have hmoved : b.sinceMoved k since = true := by
    unfold Blk.sinceMoved
    cases ht : (b.enc k).moved with
    | none => rfl
    | some t => simpa using hm t ht
  unfold Blk.edgeOk
  rw [hl, hmoved]
  simp [hs]

theorem Blk.countsEdge_iff (b : Blk) (k : Nat) (l : Bool) :
    b.countsEdge k l = true ↔ b.flag F.ENC_CFG_EN k = true ∧ (l = true ∨ b.flag F.ENC_CFG_BOTH_EDGES k = true) := by
  simp [Blk.countsEdge]

theorem Blk.encPaired_iff (b : Blk) (e : Nat) :
    b.encPaired e = true ↔ b.flag F.ENC_CFG_QUAD (e - e % 2) = true ∧ b.flag F.ENC_CFG_EN (e - e % 2) = true := by
  simp [Blk.encPaired]

/-- The pulses are all that the edges leave beyond the channels. -/
theorem Blk.EncStep.edgePulses {a b : Blk} {e o : Nat} (h : a.EncStep e o b) (edges : List (Nat × Bool)) :
    { a with
      regs := (b.edgePulses edges).regs
      afe := { a.afe with enc := (b.edgePulses edges).afe.enc }
      tbu := { a.tbu with pulses := (b.edgePulses edges).tbu.pulses } } = b.edgePulses edges := by
  have hr := h.rest
  rw [← hr]
  rfl

/-- The pulses for a linear timebase that takes source pulses from channel `e` alone (R36). -/
theorem Blk.EncStep.pulses_single {a b : Blk} {e o n : Nat} (h : a.EncStep e o b) (l : Bool) (h3 : 3 ≤ n) (h16 : n < 16)
    (hv : a.builtValid n = true) (ha : a.fld F.TB_CFG_SRC_A n = e) (hq : a.flag F.TB_CFG_QUAD n = false)
    (hs : a.flag F.TB_CFG_SRC_B_EN n = false) : (b.edgePulses [(e, l)]).tbu.pulses.filter (fun p => p.tb == n) =
      a.tbu.pulses.filter (fun p => p.tb == n) ++ if a.countsEdge e l = true then [⟨n, false, false, true⟩] else [] := by
  have hreads : ∀ r i, r ∈ builtReads → b.reg r i = a.reg r i := fun r i hr =>
    h.within.regs r i (by rintro ⟨rfl, -⟩; simp [builtReads] at hr)
  have hfld : ∀ f : Fld, f.reg = .TB_CFG → b.fld f n = a.fld f n := fun f hf => h.within.fld f n (by simp [hf])
  have hflag : ∀ f : Fld, f.reg = .TB_CFG → b.flag f n = a.flag f n := fun f hf => h.within.flag f n (by simp [hf])
  rw [Blk.filter_edgePulses _ _ h3 h16, h.tbu, Blk.pulsesOf_single ((Blk.builtValid_congr hreads n).trans hv) ((hfld _ rfl).trans ha)
    ((hflag _ rfl).trans hq) ((hflag _ rfl).trans hs), h.countsEdge]

/-- Settles O42: IMP samples and triggers channel by channel, and edges step by step. -/
theorem impactAndPulseInputs : Obligations.ImpactAndPulseInputs := by
  unfold Obligations.ImpactAndPulseInputs
  refine ⟨impSample_completes, fun s i ch t b0 ha hch ht => ?_, encTrigger_completes, fun s e l since ha => ?_⟩
  · obtain ⟨b, hb, hword, hcnt, hdist, hlive, himp, hothers, htrig, hwithin⟩ := impTrigger_completes s i ch t b0 ha hch ht
    have hc : s.blk.fld F.IMP_LIVE_LIVE i < 16777216 := Nat.mod_lt _ (by decide)
    obtain ⟨hseq, hvalue, hreason, hvalid⟩ := fields_impWord (s.blk.flag F.IMP_CFG_EN i) (s.blk.imp i).tbLost
      ((s.blk.imp i).dist < max 1 (s.blk.fld F.IMP_CFG_MIN_MM i) * 1000)
      (s.blk.fld F.IMP_LIVE_LIVE i * 256000000 / (s.blk.imp i).dist) (sampleSeq (s.blk.reg .IMP_WORD i) + 1) hc
    have hw : b.reg .IMP_WORD i = _ := hword.trans (by rw [Blk.impWord, Blk.impShort, Blk.impRate])
    rw [← hw] at hseq hvalue hreason hvalid
    refine ⟨b, hb, hcnt, hdist, hlive, by rw [himp], by rw [himp], by rw [himp], hothers, hseq, hvalue, hreason, hvalid, htrig,
      hwithin.regs, hwithin.memKept⟩
  · intro even other pair stood own counts quiet frame hm hst
    have ho : other = encOther e := by
      unfold other even encOther
      split <;> split <;> omega
    have hodd : e.val ≠ even → encOther e = even := fun h => by
      rw [← ho]
      exact if_neg fun h0 => h (by unfold even; omega)
    have heven : e.val = even → encOther e ≠ even := fun h h' => encOther_ne e (h'.trans h.symm)
    have hpair : s.blk.encPaired e = true ↔ pair := s.blk.encPaired_iff e
    have hown : ∀ k l, s.blk.countsEdge k l = true ↔ own k l := s.blk.countsEdge_iff
    clear_value other
    subst ho
    have he := Blk.edgeOk_of_stood hst
    have hcounts : ∀ {b k d x}, s.blk.EncCounts b k d → counts (b.edgePulses x) k d := fun h => ⟨h.count, h.lastAt, h.period⟩
    have hquiet : ∀ {b k x}, s.blk.EncQuiet b k → quiet (b.edgePulses x) k := fun h => ⟨h.count, h.lastAt, h.period⟩
    have howned : ∀ {b k l x}, s.blk.EncOwn b k l → (own k l → counts (b.edgePulses x) k 1) ∧ (¬ own k l → quiet (b.edgePulses x) k) :=
      fun {b k l x} h => ⟨fun h1 => hcounts (h.1 ((hown k l).mpr h1)),
        fun h0 => hquiet (h.2 (Bool.eq_false_iff.mpr fun h => h0 ((hown k l).mp h)))⟩
    refine ⟨?alone, fun since' hother => ?both⟩
    case alone =>
      have hstep := s.blk.encStep_edgeAlone e l
      refine .of_run (f := fun b => b.encEdge e l since none) rfl (Blk.encEdge_alone ha he hm) ⟨?_, ?_, fun h => ?_, fun h => ?_, fun h => ?_,
        fun n h3 h16 hv hn hq hs => ?_, hstep.others, hstep.within.regs, hstep.edgePulses _⟩
      · exact (s.blk.level_edgeAlone e l e).trans (if_pos rfl)
      · exact (s.blk.level_edgeAlone e l _).trans (if_neg (encOther_ne e))
      · exact howned (s.blk.edgeAlone_own e l fun h' => h ⟨hpair.mp h'.1, h'.2⟩)
      · exact hcounts (s.blk.edgeAlone_pair e l (hpair.mpr h))
      · exact s.blk.edgeAlone_other e l fun h' => h ⟨hpair.mp h'.1, h'.2⟩
      · rw [← if_congr (hown e l) rfl rfl]
        exact hstep.pulses_single l h3 h16 hv hn hq hs
    case both =>
      have hstep := s.blk.encStep_edgeBoth e l (!(s.blk.enc (encOther e)).level)
      have hlevel := s.blk.level_edgeBoth e l (!(s.blk.enc (encOther e)).level)
      have hfirst := s.blk.edgeBoth_own e l (!(s.blk.enc (encOther e)).level)
      have hsecond := s.blk.edgeBoth_otherOwn e l (!(s.blk.enc (encOther e)).level)
      have hboth := s.blk.edgeBoth_pair e l (!(s.blk.enc (encOther e)).level)
      have hrun := Blk.encEdge_both ha he hm (Blk.edgeOk_of_stood hother)
      generalize s.blk.edgeBoth e l (!(s.blk.enc (encOther e)).level) = b at *
      have hl := (hlevel e).trans ((if_neg (encOther_ne e).symm).trans (if_pos rfl))
      have hl' := (hlevel (encOther e)).trans (if_pos rfl)
      refine .of_run (f := fun b => b.encEdge e l since (some since')) rfl hrun ⟨hl, hl', fun k hk hne => ?_, fun h => ?_, hstep.others,
        hstep.within.regs, hstep.edgePulses _⟩
      · rcases hk with rfl | rfl
        · have := hfirst fun h' => hne ⟨hpair.mp h'.1, h'.2⟩
          rw [← hl] at this
          exact howned this
        · have := hsecond fun h' => hne ⟨hpair.mp h'.1, h'.2⟩
          rw [← hl'] at this
          exact howned this
      · obtain ⟨hq, herr⟩ := hboth (hpair.mpr h)
        exact ⟨hquiet hq, herr, Blk.encWord_of_quadErr herr⟩

end Sys2Proof.Machine
end

section
/-!
PROOFS. Built timebases: the course under a shift and from a new base, and what pulses, index, stall and slip do (O15).
-/

namespace Sys2Proof.Machine

open Sys2Proof.Claims

/-! ## Whole counts (R36, R40) -/

theorem posUnit_pos : 0 < posUnit := by decide

theorem counts_add (p k : Int) : counts (p + k * posUnit) = counts p + k := Int.add_mul_fdiv_right p k posUnit_pos.ne'

theorem counts_mul (k : Int) : counts (k * posUnit) = k := Int.mul_fdiv_cancel k posUnit_pos.ne'

theorem counts_eq_ediv (p : Int) : counts p = p / posUnit := Int.fdiv_eq_ediv_of_nonneg p posUnit_pos.le

theorem counts_lt_iff (p k : Int) : counts p < k ↔ p < k * posUnit := by
  rw [counts_eq_ediv, Int.ediv_lt_iff_lt_mul posUnit_pos]

theorem le_counts_iff (p k : Int) : k ≤ counts p ↔ k * posUnit ≤ p := by
  rw [counts_eq_ediv, Int.le_ediv_iff_mul_le posUnit_pos]

/-! ## The course (R37, R39, R40) -/

section course

variable {a b : Blk} {n now : Nat}

/-- The flags and the step that the course of timebase `n` depends on are alike. -/
structure Blk.CourseAlike (a b : Blk) (n : Nat) : Prop where
  interp : b.flag F.TB_CFG_INTERP n = a.flag F.TB_CFG_INTERP n
  stalled : b.flag F.TB_STAT_STALLED n = a.flag F.TB_STAT_STALLED n
  step : b.pulseStep n = a.pulseStep n

theorem Blk.CourseAlike.rawCourse (h : a.CourseAlike b n) (hx : b.built n = a.built n) : b.rawCourse n now = a.rawCourse n now := by
  rw [Blk.rawCourse, Blk.rawCourse, h.interp, h.stalled, h.step, hx]

theorem Blk.CourseAlike.course (h : a.CourseAlike b n) (hx : b.built n = a.built n) : b.course n now = a.course n now := by
  rw [Blk.course, Blk.course, h.rawCourse hx, hx]

/-- The pulse count moves with the position and the base. -/
theorem Blk.CourseAlike.rawCourse_shift (h : a.CourseAlike b n) {z : Int} {hold : Option Int}
    (hx : b.built n = { a.built n with pos := (a.built n).pos + z, base := (a.built n).base + z, hold := hold }) :
    (b.rawCourse n now).1 = (a.rawCourse n now).1 + z := by
  rw [Blk.rawCourse, Blk.rawCourse, h.interp, h.stalled, h.step, hx]
  dsimp only
  generalize a.pulseStep n = step
  split
  next iv _ _ _ =>
    generalize step * ((now - (a.built n).baseAt : Nat) : Int) / (iv : Int) = adv
    split <;> split <;> split <;> dsimp only <;> omega
  · rfl
  · rfl

/-- From a base set now the pulse count is that base. -/
theorem Blk.rawCourse_of_now (h : (b.built n).baseAt = now) : (b.rawCourse n now).1 = (b.built n).base := by
  unfold Blk.rawCourse
  dsimp only
  split
  next iv _ _ _ =>
    rw [h, Nat.sub_self, Nat.cast_zero, mul_zero, Int.zero_ediv]
    split <;> split <;> dsimp only <;> omega
  · rfl
  · rfl

/-- The position that a course shows of a pulse count, held after an index or not (log 60). -/
def heldAt (up : Bool) (hold : Option Int) (raw : Int) : Int :=
  match hold with
  | some h => if up then (if raw < h * posUnit then h * posUnit else raw) else (if raw ≥ (h + 1) * posUnit then h * posUnit else raw)
  | none => raw

theorem heldAt_up (h raw : Int) : heldAt true (some h) raw = if raw < h * posUnit then h * posUnit else raw := rfl

theorem heldAt_down (h raw : Int) : heldAt false (some h) raw = if raw ≥ (h + 1) * posUnit then h * posUnit else raw := rfl

theorem Blk.course_eq (b : Blk) (n now : Nat) :
    (b.course n now).1 = heldAt (b.built n).up (b.built n).hold (b.rawCourse n now).1 := by
  unfold Blk.course
  dsimp only
  cases (b.built n).hold with
  | none => rfl
  | some h =>
    cases (b.built n).up with
    | false =>
      rw [heldAt_down]
      dsimp only
      rw [if_neg Bool.false_ne_true]
      exact apply_ite Prod.fst ..
    | true =>
      rw [heldAt_up]
      dsimp only
      rw [if_pos rfl]
      exact apply_ite Prod.fst ..

/-- A position that is shown shows itself. -/
theorem heldAt_heldAt (up : Bool) (hold : Option Int) (raw : Int) : heldAt up hold (heldAt up hold raw) = heldAt up hold raw := by
  cases hold with
  | none => rfl
  | some k =>
    have hk : (k + 1) * posUnit = k * posUnit + posUnit := by ring
    have hu := posUnit_pos
    cases up with
    | false =>
      rw [heldAt_down k raw, heldAt_down]
      split_ifs <;> omega
    | true =>
      rw [heldAt_up k raw, heldAt_up]
      split_ifs <;> omega

/-- From a base set now at the course, the course stays, whatever the rate and the step. -/
theorem Blk.course_rebased (h : b.built n = { a.built n with base := (a.course n now).1, baseAt := now }) :
    (b.course n now).1 = (a.course n now).1 := by
  have hraw : (b.rawCourse n now).1 = (a.course n now).1 := by rw [Blk.rawCourse_of_now (by rw [h]), h]
  rw [b.course_eq, hraw, h, a.course_eq, heldAt_heldAt]

end course

/-! ## Steps of one timebase -/

theorem Blk.built_setBuilt_self (b : Blk) (n : Nat) (x : Built) : (b.setBuilt n x).built n = x := NMap.get_set_self b.tbu.built n x _

theorem Blk.built_setBuilt_of_ne (b : Blk) {n m : Nat} (x : Built) (h : m ≠ n) : (b.setBuilt n x).built m = b.built m :=
  NMap.get_set_of_ne b.tbu.built x _ h

theorem Blk.built_setFld (b : Blk) (f : Fld) (i v m : Nat) : (b.setFld f i v).built m = b.built m := rfl

/-- From `a` to `b` no timebase but `n` changes, and of the registers TB_STAT of timebase `n` alone. -/
structure Blk.BuiltStep (n : Nat) (a b : Blk) : Prop where
  within : a.Within (fun r i => r = .TB_STAT ∧ i = n) b
  others : ∀ m, m ≠ n → b.built m = a.built m

namespace Blk.BuiltStep

variable {n : Nat} {a b : Blk}

theorem refl (b : Blk) : b.BuiltStep n b := ⟨.refl b, fun _ _ => rfl⟩

theorem trans {c : Blk} (h : a.BuiltStep n b) (h' : b.BuiltStep n c) : a.BuiltStep n c :=
  ⟨h.within.trans h'.within, fun m hm => (h'.others m hm).trans (h.others m hm)⟩

theorem setBuilt (h : a.BuiltStep n b) (x : Built) : a.BuiltStep n (b.setBuilt n x) :=
  ⟨h.within.units, fun m hm => (b.built_setBuilt_of_ne x hm).trans (h.others m hm)⟩

theorem setFld (h : a.BuiltStep n b) {f : Fld} (hf : f.reg = .TB_STAT) (v : Nat) : a.BuiltStep n (b.setFld f n v) :=
  ⟨h.within.setFld ⟨hf, rfl⟩, fun m hm => (b.built_setFld ..).trans (h.others m hm)⟩

theorem tb1 (h : a.BuiltStep n b) : b.tb1 = a.tb1 := h.within.reg64 (by simp) (by simp)

theorem kept (h : a.BuiltStep n b) : (∀ m, m ≠ n → b.built m = a.built m) ∧ RegsKeptBut (fun r i => r = .TB_STAT ∧ i = n) a b ∧
    MemKept a b ∧ b.tb1 = a.tb1 := ⟨h.others, h.within.regs, h.within.memKept, h.tb1⟩

end Blk.BuiltStep

/-- The block without the pulse `p`. -/
def Blk.withoutPulse (b : Blk) (p : Pulse) : Blk := { b with tbu := { b.tbu with pulses := b.tbu.pulses.erase p } }

theorem Blk.takePulse_of_find {b : Blk} {n : Nat} {p : Pulse} (h : b.tbu.pulses.find? (fun q => q.tb = n) = some p) :
    b.takePulse n = some (p, b.withoutPulse p) := by
  unfold Blk.takePulse
  rw [h]
  rfl

theorem Blk.BuiltStep.withoutPulse (b : Blk) (n : Nat) (p : Pulse) : b.BuiltStep n (b.withoutPulse p) :=
  ⟨(Blk.Within.refl b).units, fun _ _ => rfl⟩

/-! ## Source pulses (R36 to R39) -/

/-- The direction of a source pulse. -/
def Blk.pulseDir (b : Blk) (n : Nat) (srcB fwd : Bool) : Bool :=
  if b.flag F.TB_CFG_QUAD n then (if srcB then (b.built n).fwd else fwd) else true

/-- Interpolation lags a pulse of direction `dir`. -/
def Blk.pulseLags (b : Blk) (n : Nat) (dir : Bool) : Bool := b.flag F.TB_CFG_INTERP n && dir == (b.built n).up && !b.reached n

/-- Timebase `n` after a source pulse. -/
def Blk.pulseBuilt (b : Blk) (n : Nat) (srcB fwd : Bool) : Built :=
  let x := b.built n
  let now := b.tb1
  let dir := b.pulseDir n srcB fwd
  let pos := if dir then x.pos + b.pulseStep n else x.pos - b.pulseStep n
  let cur := (b.rawCourse n now).1
  { x with
    pos := pos
    base := if dir != x.up then pos else if dir then max pos cur else min pos cur
    baseAt := now
    last := some now
    ival := if b.flag F.TB_STAT_STALLED n then none else x.last.bind fun t => if now > t then some (now - t) else x.ival
    up := dir
    hold := x.hold.filter fun h => dir == x.up && (if dir then decide (counts pos < h) else decide (h < counts pos))
    quiet := now
    fwd := if b.flag F.TB_CFG_QUAD n && !srcB then fwd else x.fwd }

/-- TB_STAT of timebase `n` after a source pulse of direction `dir`. -/
def Blk.pulseStat (b : Blk) (n : Nat) (lags dir : Bool) : Blk :=
  ((if lags then b.setFld F.TB_STAT_STEP_FWD n 1 else b).setFld F.TB_STAT_STALLED n 0).setFlag F.TB_STAT_REVERSE n (!dir)

theorem Blk.addPulse_eq {b : Blk} {n : Nat} (h3 : 3 ≤ n) (hv : b.builtValid n = true) (srcB fwd : Bool) : b.addPulse n srcB fwd =
    (b.setBuilt n (b.pulseBuilt n srcB fwd)).pulseStat n (b.pulseLags n (b.pulseDir n srcB fwd)) (b.pulseDir n srcB fwd) := by
  unfold Blk.addPulse
  refine (Blk.when_of _ (by simp [h3, hv])).trans ?_
  rfl

theorem Blk.BuiltStep.pulseStat {a b : Blk} {n : Nat} (h : a.BuiltStep n b) (lags dir : Bool) : a.BuiltStep n (b.pulseStat n lags dir) := by
  unfold Blk.pulseStat
  split
  · exact ((h.setFld rfl _).setFld rfl _).setFld rfl _
  · exact (h.setFld rfl _).setFld rfl _

theorem Blk.pulseStat_spec (b : Blk) (n : Nat) (lags dir : Bool) : let c := b.pulseStat n lags dir
    c.flag F.TB_STAT_STALLED n = false ∧ c.flag F.TB_STAT_REVERSE n = !dir ∧
      c.flag F.TB_STAT_STEP_FWD n = (b.flag F.TB_STAT_STEP_FWD n || lags) ∧ c.tbu = b.tbu := by
  unfold Blk.pulseStat Blk.setFlag
  refine ⟨?_, Blk.flag_setFlag_self _ _ _ _ (by decide) (by decide), ?_, ?_⟩
  · rw [Blk.flag_setFld_of_apart _ _ _ (by decide) (by decide), Blk.flag_setFld_zero _ _ _ (by decide) (by decide)]
  · rw [Blk.flag_setFld_of_apart _ _ _ (by decide) (by decide), Blk.flag_setFld_of_apart _ _ _ (by decide) (by decide)]
    cases lags with
    | false => rw [Bool.or_false]; rfl
    | true => rw [Bool.or_true]; exact Blk.flag_setFld_one _ _ _ (by decide) (by decide)
  · rw [Blk.setFld_tbu, Blk.setFld_tbu]
    split
    exacts [Blk.setFld_tbu .., rfl]

theorem Blk.sourcePulse_eq {b : Blk} {n : Nat} {p : Pulse} (ha : b.aonRuns = true)
    (hp : b.tbu.pulses.find? (fun q => q.tb = n) = some p) (hi : p.index = false) :
    b.sourcePulse n = (b.withoutPulse p).addPulse n p.srcB p.fwd := by
  refine (Blk.when_of _ ha).trans ?_
  rw [Blk.takePulse_of_find hp]
  exact if_neg (by simp [hi])

theorem sourcePulse_completes (s : State) (n : Fin 16) (p : Pulse) (ha : s.blk.aonRuns = true)
    (hp : s.blk.tbu.pulses.find? (fun q => q.tb = n.val) = some p) (hi : p.index = false) (h3 : 3 ≤ n.val)
    (hv : s.blk.builtValid n = true) : Completes (.sourcePulse n) s fun b =>
      let dir := s.blk.pulseDir n p.srcB p.fwd
      b.built n = s.blk.pulseBuilt n p.srcB p.fwd ∧ b.flag F.TB_STAT_STALLED n = false ∧ b.flag F.TB_STAT_REVERSE n = !dir ∧
        b.flag F.TB_STAT_STEP_FWD n = (s.blk.flag F.TB_STAT_STEP_FWD n || s.blk.pulseLags n dir) ∧
        b.tbu.pulses = s.blk.tbu.pulses.erase p ∧ s.blk.BuiltStep n b := by
  have hv' : (s.blk.withoutPulse p).builtValid n = true := hv
  have hx : (s.blk.withoutPulse p).pulseBuilt n p.srcB p.fwd = s.blk.pulseBuilt n p.srcB p.fwd := rfl
  have hd : (s.blk.withoutPulse p).pulseDir n p.srcB p.fwd = s.blk.pulseDir n p.srcB p.fwd := rfl
  have hl : ∀ dir, (s.blk.withoutPulse p).pulseLags n dir = s.blk.pulseLags n dir := fun _ => rfl
  have hb := (Blk.sourcePulse_eq ha hp hi).trans (Blk.addPulse_eq h3 hv' p.srcB p.fwd)
  rw [hx, hd, hl] at hb
  have hset := (Blk.BuiltStep.withoutPulse s.blk n p).setBuilt (s.blk.pulseBuilt n p.srcB p.fwd)
  have hself := (s.blk.withoutPulse p).built_setBuilt_self n (s.blk.pulseBuilt n p.srcB p.fwd)
  have hpulses : ((s.blk.withoutPulse p).setBuilt n (s.blk.pulseBuilt n p.srcB p.fwd)).tbu.pulses = s.blk.tbu.pulses.erase p := rfl
  have hstat : ((s.blk.withoutPulse p).setBuilt n (s.blk.pulseBuilt n p.srcB p.fwd)).flag F.TB_STAT_STEP_FWD n =
    s.blk.flag F.TB_STAT_STEP_FWD n := rfl
  generalize (s.blk.withoutPulse p).setBuilt n (s.blk.pulseBuilt n p.srcB p.fwd) = c at *
  obtain ⟨hstalled, hreverse, hstep, htbu⟩ := c.pulseStat_spec n
    (s.blk.pulseLags n (s.blk.pulseDir n p.srcB p.fwd)) (s.blk.pulseDir n p.srcB p.fwd)
  refine .of_run (f := fun b => b.sourcePulse n) rfl hb ⟨?_, hstalled, hreverse, hstat ▸ hstep, by rw [htbu, hpulses],
    hset.pulseStat _ _⟩
  rw [Blk.built, htbu]
  exact hself

/-! ## Index pulses (R40) -/

/-- How far OFFSET lies ahead of the count `cur` in the direction of movement. -/
def Blk.indexAhead (b : Blk) (n : Nat) (cur : Int) : Int :=
  let off : Int := b.fld F.TB_INDEX_OFFSET n
  if (b.built n).up then (off - cur) % 65536 else (cur - off) % 65536

/-- The timebase with its pulse count moved by `k` counts. -/
def Built.moved (x : Built) (k : Int) (hold : Option Int) : Built :=
  { x with pos := x.pos + k * posUnit, base := x.base + k * posUnit, hold := hold }

/-- Timebase `n` with its pulse count set `k` counts beside the value that it shows. -/
def Blk.reindexed (b : Blk) (n : Nat) (k : Int) (hold : Option Int) : Blk :=
  b.setBuilt n ((b.built n).moved (counts (b.course n b.tb1).1 + k - counts (b.rawCourse n b.tb1).1) hold)

section index

variable {b : Blk} {n : Nat}

theorem Blk.addIndex_of_here (hd : b.indexAhead n (counts (b.course n b.tb1).1) = 0) : b.addIndex n = b := by
  unfold Blk.addIndex Blk.when
  split
  · exact if_pos hd
  · rfl

variable (ha : b.tbAngular n = true) (hv : b.builtValid n = true)

include ha hv

theorem Blk.addIndex_of_ahead {d : Int} (hd : b.indexAhead n (counts (b.course n b.tb1).1) = d) (h0 : 1 ≤ d) (h1 : d ≤ 32767) :
    b.addIndex n = (b.reindexed n (if (b.built n).up then d else -d) none).setFld F.TB_STAT_STEP_FWD n 1 := by
  subst hd
  have hne : b.indexAhead n (counts (b.course n b.tb1).1) ≠ 0 := by omega
  exact (Blk.when_of _ (by simp [ha, hv])).trans ((if_neg hne).trans (if_pos h1))

theorem Blk.addIndex_of_behind {d : Int} (hd : b.indexAhead n (counts (b.course n b.tb1).1) = d) (h1 : 32768 ≤ d) :
    b.addIndex n = b.reindexed n (if (b.built n).up then -(65536 - d) else 65536 - d) (some (counts (b.course n b.tb1).1)) := by
  subst hd
  have hne : b.indexAhead n (counts (b.course n b.tb1).1) ≠ 0 := by omega
  have hle : ¬ b.indexAhead n (counts (b.course n b.tb1).1) ≤ 32767 := by omega
  exact (Blk.when_of _ (by simp [ha, hv])).trans ((if_neg hne).trans (if_neg hle))

end index

/-- The pulse count that a moved timebase shows. -/
theorem Blk.counts_rawCourse_moved {a b : Blk} {n now : Nat} (h : a.CourseAlike b n) {k : Int} {hold : Option Int}
    (hx : b.built n = (a.built n).moved k hold) : counts (b.rawCourse n now).1 = counts (a.rawCourse n now).1 + k := by
  rw [h.rawCourse_shift (z := k * posUnit) hx, counts_add]

theorem Blk.indexPulse_eq {b : Blk} {n : Nat} {p : Pulse} (ha : b.aonRuns = true)
    (hp : b.tbu.pulses.find? (fun q => q.tb = n) = some p) (hi : p.index = true) :
    b.indexPulse n = (b.withoutPulse p).addIndex n := by
  refine (Blk.when_of _ ha).trans ?_
  rw [Blk.takePulse_of_find hp]
  exact if_pos hi

theorem Blk.indexAhead_bounds (b : Blk) (n : Nat) (cur : Int) : 0 ≤ b.indexAhead n cur ∧ b.indexAhead n cur ≤ 65535 := by
  unfold Blk.indexAhead
  dsimp only
  split <;> omega

/-- Whole turns apart from OFFSET, on the way ahead or from behind. -/
theorem Blk.indexAhead_meets {b : Blk} {n : Nat} {cur d : Int} (hd : b.indexAhead n cur = d) :
    (cur + (if (b.built n).up then d else -d) - b.fld F.TB_INDEX_OFFSET n) % 65536 = 0 ∧
      (cur + (if (b.built n).up then -(65536 - d) else 65536 - d) - b.fld F.TB_INDEX_OFFSET n) % 65536 = 0 := by
  subst hd
  unfold Blk.indexAhead
  dsimp only
  split <;> omega

/-- What an index pulse makes of timebase `n` (R40): `a` is the block before it. -/
structure Blk.Indexed (n : Nat) (a b : Blk) (d : Int) : Prop where
  ahead : 1 ≤ d → d ≤ 32767 → b.flag F.TB_STAT_STEP_FWD n = true ∧ counts (b.course n a.tb1).1 =
    (if (a.built n).up then counts (a.course n a.tb1).1 + d else counts (a.course n a.tb1).1 - d)
  behind : 32768 ≤ d → (b.built n).hold = some (counts (a.course n a.tb1).1) ∧
    counts (b.course n a.tb1).1 = counts (a.course n a.tb1).1 ∧ RegsKept a b
  count : (counts (b.rawCourse n a.tb1).1 - a.fld F.TB_INDEX_OFFSET n) % 65536 =
    if d = 0 then (counts (a.rawCourse n a.tb1).1 - a.fld F.TB_INDEX_OFFSET n) % 65536 else 0
  pulses : b.tbu.pulses = a.tbu.pulses
  step : a.BuiltStep n b

theorem Blk.BuiltStep.pulseStep {a b : Blk} {n : Nat} (h : a.BuiltStep n b) : b.pulseStep n = a.pulseStep n := by
  have hfld : ∀ (f : Fld) i, f.reg ≠ .TB_STAT → b.fld f i = a.fld f i := fun f i hf => h.within.fld f i fun hr => hf hr.1
  rw [Blk.pulseStep, Blk.pulseStep, Blk.sfld, Blk.sfld, Blk.flag, Blk.flag, hfld F.TB_CFG_KIND _ (by decide),
    hfld F.TB_CFG_SRC_B_EN _ (by decide), hfld F.TB3_SLIP_SLIP _ (by decide), hfld F.TB_SCALE_SCALE _ (by decide)]

theorem Blk.BuiltStep.courseAlike {a b : Blk} {n : Nat} (h : a.BuiltStep n b)
    (hs : b.flag F.TB_STAT_STALLED n = a.flag F.TB_STAT_STALLED n) : a.CourseAlike b n :=
  ⟨h.within.flag F.TB_CFG_INTERP n (by simp), hs, h.pulseStep⟩

theorem Blk.reindexed_spec (b : Blk) (n : Nat) (k : Int) (hold : Option Int) : let c := b.reindexed n k hold
    b.BuiltStep n c ∧ c.built n = (b.built n).moved (counts (b.course n b.tb1).1 + k - counts (b.rawCourse n b.tb1).1) hold ∧
      counts (c.rawCourse n b.tb1).1 = counts (b.course n b.tb1).1 + k ∧ RegsKept b c ∧ c.tbu.pulses = b.tbu.pulses := by
  have hstep := (Blk.BuiltStep.refl b).setBuilt (n := n) ((b.built n).moved (counts (b.course n b.tb1).1 + k -
    counts (b.rawCourse n b.tb1).1) hold)
  have hself := b.built_setBuilt_self n ((b.built n).moved (counts (b.course n b.tb1).1 + k - counts (b.rawCourse n b.tb1).1) hold)
  have hraw := Blk.counts_rawCourse_moved (now := b.tb1) (hstep.courseAlike rfl) hself
  exact ⟨hstep, hself, hraw.trans (by omega), fun _ _ => rfl, rfl⟩

/-- A count that lies behind OFFSET by the way shows the value where it holds. -/
theorem counts_heldAt {up : Bool} {cur raw k : Int} (hraw : counts raw = cur + (if up then -k else k)) (hk : 0 < k) :
    counts (heldAt up (some cur) raw) = cur := by
  cases up with
  | false =>
    rw [if_neg Bool.false_ne_true] at hraw
    have hle : raw ≥ (cur + 1) * posUnit := (le_counts_iff raw (cur + 1)).mp (by omega)
    rw [heldAt_down, if_pos hle, counts_mul]
  | true =>
    rw [if_pos rfl] at hraw
    have hlt : raw < cur * posUnit := (counts_lt_iff raw cur).mp (by omega)
    rw [heldAt_up, if_pos hlt, counts_mul]

theorem Blk.addIndex_spec {b : Blk} {n : Nat} (ha : b.tbAngular n = true) (hv : b.builtValid n = true) :
    b.Indexed n (b.addIndex n) (b.indexAhead n (counts (b.course n b.tb1).1)) := by
  generalize hd : b.indexAhead n (counts (b.course n b.tb1).1) = d
  obtain ⟨h0, h65535⟩ := hd ▸ b.indexAhead_bounds n (counts (b.course n b.tb1).1)
  obtain ⟨hmeets, hmeets'⟩ := Blk.indexAhead_meets hd
  have hcases : d = 0 ∨ (1 ≤ d ∧ d ≤ 32767) ∨ 32768 ≤ d := by omega
  rcases hcases with rfl | ⟨h1, h2⟩ | h3
  · rw [Blk.addIndex_of_here hd]
    exact ⟨by omega, by omega, (if_pos rfl).symm, rfl, .refl b⟩
  · obtain ⟨hstep, hself, hraw, hkept, htbu⟩ := b.reindexed_spec n (if (b.built n).up then d else -d) none
    rw [Blk.addIndex_of_ahead ha hv hd h1 h2]
    generalize b.reindexed n (if (b.built n).up then d else -d) none = c at *
    have hset := hstep.setFld (f := F.TB_STAT_STEP_FWD) rfl 1
    have halike : c.CourseAlike (c.setFld F.TB_STAT_STEP_FWD n 1) n := ((Blk.BuiltStep.refl c).setFld rfl _).courseAlike
      (Blk.flag_setFld_of_apart _ _ _ (by decide) (by decide))
    have hx := c.built_setFld F.TB_STAT_STEP_FWD n 1 n
    refine ⟨fun _ _ => ⟨Blk.flag_setFld_one _ _ _ (by decide) (by decide), ?_⟩, by omega, ?_, ?_, hset⟩
    · rw [halike.course hx, c.course_eq, hself]
      refine hraw.trans ?_
      split <;> rfl
    · rw [halike.rawCourse hx, hraw, hmeets, if_neg (by omega)]
    · rw [Blk.setFld_tbu, htbu]
  · obtain ⟨hstep, hself, hraw, hkept, htbu⟩ := b.reindexed_spec n (if (b.built n).up then -(65536 - d) else 65536 - d)
      (some (counts (b.course n b.tb1).1))
    rw [Blk.addIndex_of_behind ha hv hd h3]
    generalize b.reindexed n (if (b.built n).up then -(65536 - d) else 65536 - d) (some (counts (b.course n b.tb1).1)) = c at *
    refine ⟨by omega, fun _ => ⟨by rw [hself]; rfl, ?_, hkept⟩, ?_, htbu, hstep⟩
    · rw [c.course_eq, hself]
      exact counts_heldAt hraw (by omega)
    · rw [hraw, hmeets', if_neg (by omega)]

/-- The base that a pulse in the direction of movement may not take back. -/
theorem pulseBase (dir up : Bool) (pos raw : Int) : (if dir != up then pos else if dir then max pos raw else min pos raw) =
    if dir = up then (if dir = true then max pos raw else min pos raw) else pos := by
  cases dir <;> cases up <;> rfl

/-! ## Stalls (R39) -/

/-- Timebase `n` with its base at the course and at this instant. -/
def Blk.rebased (b : Blk) (n : Nat) : Blk := b.setBuilt n { b.built n with base := (b.course n b.tb1).1, baseAt := b.tb1 }

theorem Blk.built_rebased (b : Blk) (n : Nat) :
    (b.rebased n).built n = { b.built n with base := (b.course n b.tb1).1, baseAt := b.tb1 } := b.built_setBuilt_self n _

theorem tbStallExpiry_completes (s : State) (n : Fin 16) (ha : s.blk.aonRuns = true) (h3 : 3 ≤ n.val)
    (hkind : s.blk.fld F.TB_CFG_KIND n = 1 ∨ s.blk.fld F.TB_CFG_KIND n = 2) (hst : s.blk.flag F.TB_STAT_STALLED n = false)
    (hquiet : (s.blk.built n).quiet + s.blk.fld F.TB_STALL_STALL_MS n * 1000000 ≤ s.blk.tb1) :
    Completes (.tbStallExpiry n) s fun b => b.flag F.TB_STAT_STALLED n = true ∧ b.built n = (s.blk.rebased n).built n ∧
      s.blk.BuiltStep n b := by
  have hset : s.blk.BuiltStep n (s.blk.rebased n) := (Blk.BuiltStep.refl s.blk).setBuilt _
  have hb : s.blk.tbStallExpiry n = (s.blk.rebased n).setFld F.TB_STAT_STALLED n 1 := by
    unfold Blk.tbStallExpiry
    refine Blk.when_of _ ?_
    simp [h3, ha, hkind, hst, hquiet]
  refine .of_run (f := fun b => b.tbStallExpiry n) rfl hb ?_
  generalize s.blk.rebased n = c at *
  exact ⟨Blk.flag_setFld_one _ _ _ (by decide) (by decide), c.built_setFld .., hset.setFld rfl _⟩

/-! ## The slip of TB3 (R41) -/

theorem Blk.sfld_setSFld_self (b : Blk) (f : Fld) (i : Nat) (v : Int) (h : f.lo + f.w ≤ 32) :
    (b.setSFld f i v).sfld f i = v.bmod (2 ^ f.w) := by
  rw [Blk.sfld, Blk.setSFld, Blk.fld_setFld_self _ _ _ _ h, Nat.mod_eq_of_lt (BitVec.isLt _), BitVec.ofNat_toNat, BitVec.setWidth_eq,
    BitVec.toInt_ofInt]

/-- SLIP may be updated: the speed is valid and above 0.5 m/s, FUSE is 1, and a wheel speed is measured. -/
def Blk.slipMoves (b : Blk) (iv : Nat) : Prop :=
  b.speedValid = true ∧ b.solution.2 > 500 ∧ b.flag F.TB_CFG_FUSE 3 = true ∧ iv > 0 ∧ b.flag F.TB_STAT_STALLED 3 = false

/-- The worth of a pulse of TB3 in 1/131 072 µm. -/
def Blk.slipRaw (b : Blk) : Int := (b.fld F.TB_SCALE_SCALE 3 : Int) * (if b.flag F.TB_CFG_SRC_B_EN 3 = true then 1 else 2)

/-- The SLIP that makes the wheel speed equal the ground speed. -/
def Blk.slipGoal (b : Blk) (iv : Nat) : Int :=
  if b.slipRaw = 0 then b.sfld F.TB3_SLIP_SLIP 0
  else (b.solution.2 : Int) * iv * 131072 * 100000 / (b.slipRaw * 1000000) - 100000

/-- SLIP `slip` moved by `m` toward `goal`, within 15 %. -/
def slipToward (slip goal m : Int) : Int := max (-15000) (min 15000 (if goal ≥ slip then slip + m else slip - m))

/-- SLIP after an update. -/
def Blk.slipNew (b : Blk) (iv : Nat) : Int :=
  slipToward (b.sfld F.TB3_SLIP_SLIP 0) (b.slipGoal iv)
    (Config.slipMove b.free % ((min 500 (b.slipGoal iv - b.sfld F.TB3_SLIP_SLIP 0).natAbs : Nat) + 1))

theorem slipToward_spec {slip goal m : Int} (hslip : slip.natAbs ≤ 15000) (h0 : 0 ≤ m) (hm : m < (min 500 (goal - slip).natAbs : Nat) + 1) :
    let new := slipToward slip goal m
    new.natAbs ≤ 15000 ∧ (new - slip).natAbs ≤ 500 ∧ (slip ≤ goal → slip ≤ new ∧ new ≤ goal) ∧
      (goal ≤ slip → goal ≤ new ∧ new ≤ slip) := by
  unfold slipToward
  dsimp only
  split <;> omega

/-- The instant of the update is noted. -/
def Blk.slipNoted (b : Blk) : Blk := { b with tbu := { b.tbu with slipAt := b.tb1 } }

/-- The block after an update that moves SLIP: the position does not step. -/
def Blk.slipMoved (b : Blk) (new : Int) : Blk :=
  (((b.rebased 3).setSFld F.TB3_SLIP_SLIP 0 new).setFld F.TB3_SLIP_AIDING 0 1).took

theorem Blk.solution_slipNoted (b : Blk) : b.slipNoted.solution = b.solution := by
  have hstream : ∀ x, b.slipNoted.streamAt x = b.streamAt x := fun _ => rfl
  have hword : ∀ x, b.slipNoted.word x = b.word x := fun _ => rfl
  have hhost : b.slipNoted.flag F.GNSS_CTRL_HOST 0 = b.flag F.GNSS_CTRL_HOST 0 := rfl
  have hfld : b.slipNoted.fld F.GNSS_NAV_STREAM_STREAM 0 = b.fld F.GNSS_NAV_STREAM_STREAM 0 := rfl
  have hgnss : b.slipNoted.gnss = b.gnss := rfl
  have hnav : b.slipNoted.navRec = b.navRec := by
    rw [Blk.navRec, Blk.navRec]
    simp only [hstream, hword, hhost, hfld, hgnss]
  rw [Blk.solution, Blk.solution, Blk.navStatus, Blk.navStatus, hnav]

theorem Blk.slipMoves_slipNoted (b : Blk) (iv : Nat) : b.slipNoted.slipMoves iv ↔ b.slipMoves iv := by
  rw [Blk.slipMoves, Blk.slipMoves, Blk.speedValid, Blk.speedValid, b.solution_slipNoted]
  rfl

theorem Blk.slipNew_slipNoted (b : Blk) (iv : Nat) : b.slipNoted.slipNew iv = b.slipNew iv := by
  have hraw : b.slipNoted.slipRaw = b.slipRaw := rfl
  have hslip : b.slipNoted.sfld F.TB3_SLIP_SLIP 0 = b.sfld F.TB3_SLIP_SLIP 0 := rfl
  have hfree : b.slipNoted.free = b.free := rfl
  rw [Blk.slipNew, Blk.slipNew, Blk.slipGoal, Blk.slipGoal, hraw, b.solution_slipNoted, hslip, hfree]

section update

variable {b : Blk} (h : b.tbu.slipAt + 100000000 ≤ b.tb1)

include h

theorem Blk.slipUpdate_of_moves {iv : Nat} (hiv : (b.built 3).ival = some iv) (hm : b.slipMoves iv) :
    b.slipUpdate = b.slipNoted.slipMoved (b.slipNew iv) := by
  have hm' := (b.slipMoves_slipNoted iv).mpr hm
  rw [← b.slipNew_slipNoted]
  unfold Blk.slipUpdate
  refine (Blk.when_of _ (by simpa using h)).trans ?_
  dsimp only
  split
  next iv' hiv' =>
    obtain rfl : iv = iv' := Option.some.inj (hiv.symm.trans hiv')
    refine (if_pos hm').trans ?_
    unfold Blk.slipMoved Blk.slipNew slipToward Blk.slipGoal Blk.slipRaw
    rfl
  next hiv' => exact absurd (hiv.symm.trans hiv') (by simp)

theorem Blk.slipUpdate_of_stays (hm : ∀ iv, (b.built 3).ival = some iv → ¬ b.slipMoves iv) :
    b.slipUpdate = b.slipNoted.setFld F.TB3_SLIP_AIDING 0 0 := by
  unfold Blk.slipUpdate
  refine (Blk.when_of _ (by simpa using h)).trans ?_
  dsimp only
  split
  next iv hiv =>
    have hm' := mt (b.slipMoves_slipNoted iv).mp (hm iv hiv)
    exact if_neg hm'
  next => rfl

end update

/-- The register that an update of SLIP writes. -/
def SlipReg (r : RegName) (i : Nat) : Prop := r = .TB3_SLIP ∧ i = 0

theorem Blk.slipMoved_spec (b : Blk) {new : Int} (h : new.natAbs ≤ 15000) : let c := b.slipMoved new
    c.sfld F.TB3_SLIP_SLIP 0 = new ∧ c.built 3 = (b.rebased 3).built 3 ∧ c.tbu.slipAt = b.tbu.slipAt ∧ b.Within SlipReg c := by
  have hset : b.Within SlipReg (b.rebased 3) := (Blk.Within.refl b).units
  have hat : (b.rebased 3).tbu.slipAt = b.tbu.slipAt := rfl
  unfold Blk.slipMoved
  generalize b.rebased 3 = c at *
  have htbu : ((c.setSFld F.TB3_SLIP_SLIP 0 new).setFld F.TB3_SLIP_AIDING 0 1).took.tbu = c.tbu :=
    (Blk.took_tbu _).trans ((Blk.setFld_tbu ..).trans (Blk.setFld_tbu ..))
  refine ⟨?_, by rw [Blk.built, Blk.built, htbu], by rw [htbu, hat], ?_⟩
  · have hfld : ((c.setSFld F.TB3_SLIP_SLIP 0 new).setFld F.TB3_SLIP_AIDING 0 1).took.fld F.TB3_SLIP_SLIP 0 =
        (c.setSFld F.TB3_SLIP_SLIP 0 new).fld F.TB3_SLIP_SLIP 0 :=
      (Blk.fld_congr (Blk.took_regs _) _ _).trans (Blk.fld_setFld_of_apart _ _ _ (by decide) (by decide))
    rw [Blk.sfld, hfld, ← Blk.sfld, c.sfld_setSFld_self F.TB3_SLIP_SLIP 0 new (by decide)]
    exact Int.bmod_eq_of_le (by norm_num; omega) (by norm_num; omega)
  · exact ((hset.setSFld ⟨rfl, rfl⟩).setFld ⟨rfl, rfl⟩).trans (.of_same (Blk.took_regs _) (Blk.took_mem _) (Blk.took_otp _))

/-- SLIP stays, with AIDING at 0. -/
theorem Blk.slipStays_spec (b : Blk) : let c := b.setFld F.TB3_SLIP_AIDING 0 0
    c.sfld F.TB3_SLIP_SLIP 0 = b.sfld F.TB3_SLIP_SLIP 0 ∧ c.flag F.TB3_SLIP_AIDING 0 = false ∧ c.tbu = b.tbu ∧ b.CourseAlike c 3 ∧
      b.Within SlipReg c := by
  have hw : b.Within SlipReg (b.setFld F.TB3_SLIP_AIDING 0 0) := (Blk.Within.refl b).setFld ⟨rfl, rfl⟩
  have hslip : (b.setFld F.TB3_SLIP_AIDING 0 0).sfld F.TB3_SLIP_SLIP 0 = b.sfld F.TB3_SLIP_SLIP 0 :=
    congrArg (fun v => (BitVec.ofNat 16 v).toInt) (Blk.fld_setFld_of_apart _ _ _ (by decide) (by decide))
  refine ⟨hslip, Blk.flag_setFld_zero _ _ _ (by decide) (by decide), Blk.setFld_tbu .., ⟨?_, ?_, ?_⟩, hw⟩
  · exact hw.flag _ _ (by simp [SlipReg])
  · exact hw.flag _ _ (by simp [SlipReg])
  · rw [Blk.pulseStep, Blk.pulseStep, hslip, hw.fld F.TB_CFG_KIND _ (by simp [SlipReg]), hw.flag F.TB_CFG_SRC_B_EN _ (by simp [SlipReg]),
      hw.fld F.TB_SCALE_SCALE _ (by simp [SlipReg])]

/-- An update of SLIP (R41). -/
theorem tb3SlipUpdate_completes (s : State) (ha : s.blk.aonRuns = true) (hslip : (s.blk.sfld F.TB3_SLIP_SLIP 0).natAbs ≤ 15000)
    (hat : s.blk.tbu.slipAt + 100000000 ≤ s.blk.tb1) : Completes .tb3SlipUpdate s fun b =>
      let slip := s.blk.sfld F.TB3_SLIP_SLIP 0
      let new := b.sfld F.TB3_SLIP_SLIP 0
      new.natAbs ≤ 15000 ∧ (new - slip).natAbs ≤ 500 ∧ b.tbu.slipAt = s.blk.tb1 ∧
        ((∀ iv, (s.blk.built 3).ival = some iv → ¬ s.blk.slipMoves iv) → new = slip ∧ b.flag F.TB3_SLIP_AIDING 0 = false) ∧
        (∀ iv, (s.blk.built 3).ival = some iv →
          (slip ≤ s.blk.slipGoal iv → slip ≤ new ∧ new ≤ s.blk.slipGoal iv) ∧
          (s.blk.slipGoal iv ≤ slip → s.blk.slipGoal iv ≤ new ∧ new ≤ slip)) ∧
        (b.course 3 s.blk.tb1).1 = (s.blk.course 3 s.blk.tb1).1 ∧ s.blk.Within SlipReg b := by
  have hnoted : s.blk.Within SlipReg s.blk.slipNoted := (Blk.Within.refl s.blk).units
  by_cases hm : ∃ iv, (s.blk.built 3).ival = some iv ∧ s.blk.slipMoves iv
  · obtain ⟨iv, hiv, hm⟩ := hm
    refine .of_live ha rfl (Blk.slipUpdate_of_moves hat hiv hm) ?_
    obtain ⟨hrange, hspan, hup, hdown⟩ := slipToward_spec (goal := s.blk.slipGoal iv) hslip
      (Int.emod_nonneg (Config.slipMove s.blk.free) (by omega))
      (Int.emod_lt_of_pos (Config.slipMove s.blk.free)
        (by omega : (0 : Int) < (min 500 (s.blk.slipGoal iv - s.blk.sfld F.TB3_SLIP_SLIP 0).natAbs : Nat) + 1))
    obtain ⟨hnew, hx, hslipAt, hw⟩ := s.blk.slipNoted.slipMoved_spec (new := s.blk.slipNew iv) hrange
    rw [Blk.built_rebased] at hx
    dsimp only
    rw [hnew]
    refine ⟨hrange, hspan, hslipAt, fun h => absurd hm (h iv hiv), fun iv' hiv' => ?_, Blk.course_rebased hx, hnoted.trans hw⟩
    obtain rfl : iv = iv' := Option.some.inj (hiv.symm.trans hiv')
    exact ⟨hup, hdown⟩
  · have hstays : ∀ iv, (s.blk.built 3).ival = some iv → ¬ s.blk.slipMoves iv := fun iv hiv h => hm ⟨iv, hiv, h⟩
    refine .of_live ha rfl (Blk.slipUpdate_of_stays hat hstays) ?_
    obtain ⟨hnew, haiding, htbu, halike, hw⟩ := s.blk.slipNoted.slipStays_spec
    have hnew' : (s.blk.slipNoted.setFld F.TB3_SLIP_AIDING 0 0).sfld F.TB3_SLIP_SLIP 0 = s.blk.sfld F.TB3_SLIP_SLIP 0 := hnew
    dsimp only
    rw [hnew']
    refine ⟨hslip, by omega, by rw [htbu]; rfl, fun _ => ⟨rfl, haiding⟩,
      fun iv _ => ⟨fun h => ⟨le_refl _, h⟩, fun h => ⟨h, le_refl _⟩⟩, ?_,
      hnoted.trans hw⟩
    have hcourse : s.blk.slipNoted.course 3 s.blk.tb1 = s.blk.course 3 s.blk.tb1 := rfl
    rw [halike.course (by rw [Blk.built, Blk.built, htbu]), hcourse]

/-- Settles O15: each pulse, index, stall and update by what it makes of the timebase. -/
theorem builtTimebasePulses : Obligations.BuiltTimebasePulses := by
  unfold Obligations.BuiltTimebasePulses
  intro s n ha x now step cur kept
  refine ⟨fun p hp hi h3 hv => ?source, fun p hp hi hang hv => ?index, fun h3 hkind hst hquiet => ?stall, fun hslip hat => ?slip⟩
  case source =>
    obtain ⟨b, hb, hx, hstalled, hreverse, hstep, hpulses, hkept⟩ := sourcePulse_completes s n p ha hp hi h3 hv
    refine ⟨b, hb, by rw [hx]; rfl, by rw [hx]; rfl, by rw [hx]; rfl, ?_, hstalled, hreverse, hstep, hpulses, hkept.kept⟩
    rw [hx]
    exact pulseBase ..
  case index =>
    have hang' : (s.blk.withoutPulse p).tbAngular n = true := hang
    have hv' : (s.blk.withoutPulse p).builtValid n = true := hv
    have hspec := Blk.addIndex_spec hang' hv'
    have hcourse : (s.blk.withoutPulse p).course n (s.blk.withoutPulse p).tb1 = s.blk.course n now := rfl
    have hraw : (s.blk.withoutPulse p).rawCourse n (s.blk.withoutPulse p).tb1 = s.blk.rawCourse n now := rfl
    have hbuilt : (s.blk.withoutPulse p).built n = s.blk.built n := rfl
    have hoff : (s.blk.withoutPulse p).fld F.TB_INDEX_OFFSET n = s.blk.fld F.TB_INDEX_OFFSET n := rfl
    have hahead : (s.blk.withoutPulse p).indexAhead n cur = s.blk.indexAhead n cur := rfl
    have htb1 : (s.blk.withoutPulse p).tb1 = now := rfl
    have hhere := Blk.addIndex_of_here (b := s.blk.withoutPulse p) (n := n)
    have hrun := Blk.indexPulse_eq ha hp hi
    rw [hcourse] at hspec hhere
    change (s.blk.withoutPulse p).Indexed n _ ((s.blk.withoutPulse p).indexAhead n cur) at hspec
    change (s.blk.withoutPulse p).indexAhead n cur = 0 → _ at hhere
    rw [hahead] at hspec hhere
    generalize (s.blk.withoutPulse p).addIndex n = b at hspec hhere hrun
    obtain ⟨hfwd, hback, hcount, hpulses, hstep⟩ := hspec
    rw [hcourse, hbuilt] at hfwd
    rw [hcourse] at hback
    rw [hraw, hoff] at hcount
    rw [htb1] at hfwd hback hcount
    exact .of_run (f := fun b => b.indexPulse n) rfl hrun ⟨hhere, hfwd, hback, hcount, hpulses,
      ((Blk.BuiltStep.withoutPulse s.blk n p).trans hstep).kept⟩
  case stall =>
    obtain ⟨b, hb, hstalled, hx, hstep⟩ := tbStallExpiry_completes s n ha h3 hkind hst hquiet
    rw [Blk.built_rebased] at hx
    exact ⟨b, hb, hstalled, by rw [hx], Blk.course_rebased hx, hstep.kept⟩
  case slip =>
    obtain ⟨b, hb, hrange, hspan, hslipAt, hstays, hgoal, hcourse, hw⟩ := tb3SlipUpdate_completes s ha hslip hat
    refine ⟨b, hb, hrange, hspan, hslipAt, fun hno => hstays fun iv hiv hm => ?_, fun iv hiv hraw => ?_, hcourse, hw.regs, hw.memKept⟩
    · obtain ⟨hv, hfast, hfuse, hpos, hst⟩ := hm
      rcases hno with h | h | h | h | h
      · simp [hv] at h
      · omega
      · simp [hfuse] at h
      · simp [hiv] at h
      · simp [hst] at h
    · have hg := hgoal iv hiv
      rw [Blk.slipGoal, Blk.slipRaw, if_neg hraw] at hg
      exact hg

end Sys2Proof.Machine
end

section
/-!
PROOFS. What the operations of a tick leave of the timebases, the waiting load of TB2 and the waiting snapshot (O16).
-/

namespace Sys2Proof.Machine

open Sys2Proof.Claims

/-- The registers of the timebases and of their snapshot. -/
def timeRegs : List RegName := [.TB_VALUE_LO, .TB_VALUE_HI, .TBU_SNAPVAL_LO, .TBU_SNAPVAL_HI, .TBU_STATUS, .TBU_CTRL]

/-- From `a` to `b` the timebases and their snapshot stay, and what waits of a load or a snapshot. -/
structure Blk.TimeKept (a b : Blk) : Prop where
  regs : ∀ r i, r ∈ timeRegs → b.reg r i = a.reg r i
  snap : b.tbu.snap = a.tbu.snap
  load : b.tbu.tb2Load = a.tbu.tb2Load

namespace Blk.TimeKept

variable {a b c : Blk}

theorem refl (b : Blk) : b.TimeKept b := ⟨fun _ _ _ => rfl, rfl, rfl⟩

theorem trans (h : a.TimeKept b) (h' : b.TimeKept c) : a.TimeKept c :=
  ⟨fun r i hr => (h'.regs r i hr).trans (h.regs r i hr), h'.snap.trans h.snap, h'.load.trans h.load⟩

theorem units (h : a.TimeKept b) {mem otp mod bus jrn le afe hpc out cam fus gnss yld fab net pwr boot dbg free} :
    Blk.TimeKept a ⟨b.regs, mem, otp, mod, bus, jrn, b.tbu, le, afe, hpc, out, cam, fus, gnss, yld, fab, net, pwr, boot, dbg,
      free⟩ := ⟨h.regs, h.snap, h.load⟩

theorem withTbu (h : a.TimeKept b) {t : TbuSt} (hs : t.snap = b.tbu.snap := by rfl) (hl : t.tb2Load = b.tbu.tb2Load := by rfl) :
    a.TimeKept { b with tbu := t } := ⟨h.regs, hs.trans h.snap, hl.trans h.load⟩

theorem ite {p : Prop} [Decidable p] (hb : a.TimeKept b) (hc : a.TimeKept c) : a.TimeKept (if p then b else c) := by
  split <;> assumption

theorem when (h : a.TimeKept b) {p f} (hf : ∀ {b : Blk}, a.TimeKept b → a.TimeKept (f b)) : a.TimeKept (b.when p f) := by
  cases p
  · exact h
  · exact hf h

theorem foldl {α : Type} {l : List α} {f : Blk → α → Blk} (h : a.TimeKept b)
    (hf : ∀ {b : Blk} {x}, a.TimeKept b → a.TimeKept (f b x)) : a.TimeKept (l.foldl f b) := by
  induction l generalizing b with
  | nil => exact h
  | cons x l ih => exact ih (hf h)

/-! ### Registers, memory, records and the log -/

theorem setReg (h : a.TimeKept b) {r i v} (hr : r ∉ timeRegs) : a.TimeKept (b.setReg r i v) :=
  ⟨fun q j hq => (b.reg_setReg_name _ _ v fun (e : q = r) => hr (e ▸ hq)).trans (h.regs q j hq), h.snap, h.load⟩

theorem setFld (h : a.TimeKept b) {f i v} (hr : f.reg ∉ timeRegs) : a.TimeKept (b.setFld f i v) := h.setReg hr

theorem setFlag (h : a.TimeKept b) {f i x} (hr : f.reg ∉ timeRegs) : a.TimeKept (b.setFlag f i x) := h.setFld hr

theorem incFld (h : a.TimeKept b) {f i} (hr : f.reg ∉ timeRegs) : a.TimeKept (b.incFld f i) := h.setFld hr

theorem addSat (h : a.TimeKept b) {f i n} (hr : f.reg ∉ timeRegs) : a.TimeKept (b.addSat f i n) := h.setFld hr

theorem setReg64 (h : a.TimeKept b) {lo hi i v} (hlo : lo ∉ timeRegs) (hhi : hi ∉ timeRegs) : a.TimeKept (b.setReg64 lo hi i v) :=
  (h.setReg hlo).setReg hhi

theorem writeMem (h : a.TimeKept b) {addr n v} : a.TimeKept (b.writeMem addr n v) := by
  induction n generalizing b addr v with
  | zero => exact h
  | succ n ih => exact ih h.units

theorem took (h : a.TimeKept b) : a.TimeKept b.took := h.units

theorem holdRec (h : a.TimeKept b) {r} : a.TimeKept (b.holdRec r) := (h.addSat (by decide)).ite h.units

theorem raiseRec (h : a.TimeKept b) {r} : a.TimeKept (b.raiseRec r) := (h.units.setReg (by decide)).holdRec

theorem raise (h : a.TimeKept b) {source cls detail data} : a.TimeKept (b.raise source cls detail data) :=
  h.ite (h.raiseRec.ite h.units)

/-! ### Sending on the links, accesses and their answers -/

theorem setTask (h : a.TimeKept b) {t x} : a.TimeKept (b.setTask t x) := h.units

theorem setCur (h : a.TimeKept b) {e t} : a.TimeKept (b.setCur e t) := h.units

theorem emit (h : a.TimeKept b) {p} : a.TimeKept (b.emit p) := h.units

theorem sendStream (h : a.TimeKept b) {stream smaster payload} : a.TimeKept (b.sendStream stream smaster payload) := by
  unfold Blk.sendStream
  split
  exacts [h, (h.foldl fun h => h.emit).incFld (by decide)]

theorem xferDone (h : a.TimeKept b) {x status} : a.TimeKept (b.xferDone x status) := by
  unfold Blk.xferDone
  split
  exacts [h, h.units]

theorem inboundDone (h : a.TimeKept b) {i status data} : a.TimeKept (b.inboundDone i status data) :=
  h.units.emit.ite h.units

theorem takeResults (h : a.TimeKept b) {l} : a.TimeKept (b.takeResults l) := by
  induction l with
  | nil => exact h
  | cons c l ih =>
    unfold Blk.takeResults
    extract_lets b1
    split
    · split
      exacts [ih.units.inboundDone, ih]
    · exact ih.units.xferDone
    · exact ih

theorem answer (h : a.TimeKept b) {c} : a.TimeKept (b.answer c) := h.units.ite h

theorem serveMem (h : a.TimeKept b) {x} : a.TimeKept (b.serveMem x) := by
  unfold Blk.serveMem
  split
  exacts [h.answer, h.writeMem.answer]

theorem settleMem (h : a.TimeKept b) {addr} : a.TimeKept (b.settleMem addr) := by
  unfold Blk.settleMem
  split
  · exact h
  · split
    · exact h
    · exact (h.units.foldl fun h => h.serveMem).ite (h.units.foldl fun h => h.serveMem).takeResults

theorem refuse (h : a.TimeKept b) {source detail data} : a.TimeKept (b.refuse source detail data) := by
  have hcount := h.incFld (f := F.ACC_REFUSED_REFUSED) (i := 0) (by decide)
  exact hcount.ite ((hcount.settleMem.writeMem.incFld (by decide)).ite (hcount.addSat (by decide)))

theorem submit (h : a.TimeKept b) {x} : a.TimeKept (b.submit x) := by
  unfold Blk.submit
  split
  exacts [h.units, h.refuse.answer]

/-! ### Pulses, slots and windows -/

theorem setBuilt (h : a.TimeKept b) {n x} : a.TimeKept (b.setBuilt n x) := h.withTbu

theorem addPulse (h : a.TimeKept b) {n srcB fwd} : a.TimeKept (b.addPulse n srcB fwd) :=
  h.when fun h => (((h.setBuilt.setFld (by decide)).ite h.setBuilt).setFld (by decide)).setFlag (by decide)

theorem addIndex (h : a.TimeKept b) {n} : a.TimeKept (b.addIndex n) :=
  h.when fun h => h.ite ((h.setBuilt.setFld (by decide)).ite h.setBuilt)

theorem addPulses (h : a.TimeKept b) : a.TimeKept b.addPulses := (h.withTbu).foldl fun h => h.addIndex.ite h.addPulse

theorem armSlot (h : a.TimeKept b) {s} : a.TimeKept (b.armSlot s) := by
  have hdrop : a.TimeKept (b.dropLate s) := h.withTbu
  unfold Blk.armSlot
  extract_lets b1 b2 src
  have h2 : a.TimeKept b2 := (hdrop.setFld (by decide)).setFld (by decide)
  exact hdrop.ite ((((hdrop.setFld (by decide)).setFld (by decide)).setFld (by decide)).ite
    (((hdrop.setFld (by decide)).setFld (by decide)).ite ((h2.withTbu).ite h2)))

theorem validChange (h : a.TimeKept b) {old new slots} : a.TimeKept (b.validChange old new slots) :=
  h.foldl fun {b s} h => by
    have hdrop : a.TimeKept (b.dropLate s) := h.withTbu
    exact h.ite (h.armSlot.ite ((hdrop.setFld (by decide)).setFld (by decide)))

theorem slotCounted (h : a.TimeKept b) {s late} : a.TimeKept (b.slotCounted s late) := by
  unfold Blk.slotCounted
  extract_lets src c
  have hc : a.TimeKept c := h.withTbu.incFld (by decide)
  exact (hc.setFld (by decide)).ite hc

theorem slotModed (h : a.TimeKept b) {s} : a.TimeKept (b.slotModed s) := by
  unfold Blk.slotModed
  split
  · exact (h.setFld (by decide)).setFld (by decide)
  · extract_lets c
    have hc : a.TimeKept c := h.setReg64 (by decide) (by decide)
    exact hc.ite hc.raise
  · exact h

theorem fireSlot (h : a.TimeKept b) {s} : a.TimeKept (b.fireSlot s) := by
  cases hx : b.tbu.due.find? (·.slot = s) with
  | none =>
    unfold Blk.fireSlot
    rw [hx]
    exact h
  | some x =>
    rw [Blk.fireSlot_of_due hx]
    have hc : a.TimeKept (b.slotCounted s x.late) := h.slotCounted
    have ht : a.TimeKept ((b.slotCounted s x.late).slotTriggered s) := hc.ite (hc.withTbu)
    exact ht.slotModed

theorem fireDue (h : a.TimeKept b) : a.TimeKept b.fireDue := h.foldl fun h => h.fireSlot

theorem resolveWindow (h : a.TimeKept b) {w start stop} : a.TimeKept (b.resolveWindow w start stop) := by
  unfold Blk.resolveWindow
  split
  exacts [h.setFld (by decide), h.addSat (by decide), h.addSat (by decide), h.setFld (by decide), h]

theorem resolveWindows (h : a.TimeKept b) : a.TimeKept b.resolveWindows := (h.foldl fun h => h.resolveWindow).withTbu

/-! ### Missed deadlines -/

theorem sendOut (h : a.TimeKept b) {t e x v} : a.TimeKept (b.sendOut t e x v) := by
  unfold Blk.sendOut
  extract_lets eng lane own
  split
  exacts [h.units.ite h.refuse, h.units.ite h.refuse, h.submit, h.sendStream, h]

theorem commitSafe (h : a.TimeKept b) {t} : a.TimeKept (b.commitSafe t) :=
  h.foldl fun h => (h.sendOut.setTask.ite h.sendOut).ite h

theorem leave (h : a.TimeKept b) {t} : a.TimeKept (b.leave t) := h.setCur.ite h

theorem toDisabled (h : a.TimeKept b) {t} : a.TimeKept (b.toDisabled t) :=
  (((h.setFld (by decide)).setFld (by decide)).setFld (by decide)).setTask.leave

theorem disableByEn (h : a.TimeKept b) {t} : a.TimeKept (b.disableByEn t) := h.toDisabled.commitSafe.ite h.toDisabled

theorem toIdle (h : a.TimeKept b) {t} : a.TimeKept (b.toIdle t) := (h.setFld (by decide)).setTask.leave

theorem countAbort (h : a.TimeKept b) {t} : a.TimeKept (b.countAbort t) := (h.addSat (by decide)).setFld (by decide)

theorem abortBy (h : a.TimeKept b) {t m} : a.TimeKept (b.abortBy t m) := by
  unfold Blk.abortBy
  extract_lets b1 b2
  split
  · split
    · exact h.countAbort.disableByEn.ite h.countAbort.disableByEn.commitSafe
    · exact h.countAbort.disableByEn.ite h.countAbort.disableByEn.commitSafe
    · exact h.countAbort.disableByEn
  · split
    · exact h.countAbort.toIdle.commitSafe
    · exact h.countAbort.toDisabled.commitSafe
    · exact h.countAbort.disableByEn
    · exact h.countAbort.toIdle

theorem miss (h : a.TimeKept b) {t detail} : a.TimeKept (b.miss t detail) :=
  h.raise.setTask.ite ((h.raise.setTask.ite h.raise.setTask.abortBy).ite h.raise.setTask.setTask)

theorem missNow (h : a.TimeKept b) {t} : a.TimeKept (b.missNow t) := by
  have hd : a.TimeKept (b.deadlineReached t) := h.when fun h => h.setTask.miss
  unfold Blk.missNow Blk.backstopReached
  split
  exacts [hd.setTask.miss, hd.setTask, hd]

theorem missFlush (h : a.TimeKept b) : a.TimeKept b.missFlush := h.foldl fun h => h.missNow

theorem missTicks (h : a.TimeKept b) : a.TimeKept b.missTicks := h.foldl fun h => h.setTask.ite h

/-! ### Sensors, yield, the links and the receiver -/

theorem encTick (h : a.TimeKept b) : a.TimeKept b.encTick := h.foldl fun h => (h.setReg (by decide)).units.ite (h.setReg (by decide))

theorem impTick (h : a.TimeKept b) {moved i} : a.TimeKept (b.impTick moved i) := ((h.addSat (by decide)).units.ite h.units).ite h

theorem showFull (h : a.TimeKept b) : a.TimeKept b.showFull := h.setFlag (by decide)

theorem ledgerPut (h : a.TimeKept b) {e} : a.TimeKept (b.ledgerPut e) :=
  (h.units.ite (h.units.ite (h.addSat (by decide)))).showFull

theorem ledgerRec (h : a.TimeKept b) {type kind flags o1 c1 o2 c2 area dry harv} :
    a.TimeKept (b.ledgerRec type kind flags o1 c1 o2 c2 area dry harv) := h.units.ledgerPut.incFld (by decide)

theorem settle (h : a.TimeKept b) {n} : a.TimeKept (b.settle n) := by
  have haccrue : ∀ {b : Blk} {y}, a.TimeKept b → a.TimeKept (b.accrueTo y) := fun h => (h.units.ite h.units).units
  induction n generalizing b with
  | zero => exact h
  | succ n ih =>
    unfold Blk.settle
    split
    · exact haccrue h
    · exact (ih (haccrue h).units).ite (haccrue h)

theorem showTotals (h : a.TimeKept b) : a.TimeKept b.showTotals :=
  ((h.setReg (by decide)).setReg (by decide)).setReg (by decide)

theorem settleAll (h : a.TimeKept b) : a.TimeKept b.settleAll := h.ite h.settle.units.showTotals

theorem accrAccept (h : a.TimeKept b) {i} : a.TimeKept (b.accrAccept i) := by
  unfold Blk.accrAccept
  split
  · exact h
  · exact h.when fun h => (h.setFld (by decide)).units.settleAll

theorem tileClose (h : a.TimeKept b) : a.TimeKept b.tileClose := by
  unfold Blk.tileClose
  split
  exacts [h, h.units]

theorem joinTile (h : a.TimeKept b) {c} : a.TimeKept (b.joinTile c) := h.units.tileClose.ite h.units

theorem dayBoundary (h : a.TimeKept b) : a.TimeKept b.dayBoundary := h.setReg64 (by decide) (by decide)

theorem closeRecord (h : a.TimeKept b) {kind p restart c1 c2} : a.TimeKept (b.closeRecord kind p restart c1 c2) := h.ledgerRec

theorem openDay (h : a.TimeKept b) : a.TimeKept b.openDay := h.units.dayBoundary.raise.ite h.units.dayBoundary

theorem ledgerBegin (h : a.TimeKept b) : a.TimeKept b.ledgerBegin := by
  have hrestart : ∀ {b : Blk}, a.TimeKept b → a.TimeKept b.ledgerRestart := fun h => by
    unfold Blk.ledgerRestart
    extract_lets k src b1 b2 b3 b4 b5 b6 src2 b7
    split
    · exact h
    · have h3 : a.TimeKept b3 := h.units.closeRecord.closeRecord
      have h6 : a.TimeKept b6 := h3.ledgerRec.raise.setFld (by decide)
      exact h6.units.units.openDay.units.showTotals
  exact h.ite (hrestart h.units)

theorem hourClose (h : a.TimeKept b) : a.TimeKept b.hourClose := h.when fun h => h.settleAll.closeRecord.units.units

theorem dayClose (h : a.TimeKept b) : a.TimeKept b.dayClose :=
  h.when fun h => h.hourClose.settleAll.closeRecord.openDay.units.units

theorem jobCloseComplete (h : a.TimeKept b) : a.TimeKept b.jobCloseComplete := by
  unfold Blk.jobCloseComplete
  refine h.when fun h => ?_
  extract_lets src b1 now b2 b3 b4 p b5 src2 b6 b7
  have h4 : a.TimeKept b4 := h.units.settleAll.closeRecord.closeRecord.closeRecord
  have h7 : a.TimeKept b7 := h4.ledgerRec.units.foldl fun h => h.joinTile
  exact (h7.tileClose.setFld (by decide)).units

theorem yldFlush (h : a.TimeKept b) : a.TimeKept b.yldFlush :=
  h.when fun h => (h.foldl fun h => h.accrAccept).hourClose.dayClose.jobCloseComplete

theorem accrTick (h : a.TimeKept b) {moved edges} : a.TimeKept (b.accrTick moved edges) := by
  have hinput : ∀ {b : Blk} {i}, a.TimeKept b → a.TimeKept (b.accrInput i) := fun h =>
    h.ite ((h.setFld (by decide)).units.ite (h.setFld (by decide)).units)
  exact h.when fun h => (h.ledgerBegin.units.foldl hinput).ite h.ledgerBegin.units

theorem clockStep (h : a.TimeKept b) {d before} : a.TimeKept (b.clockStep d before) := by
  unfold Blk.clockStep
  refine h.when fun h => ?_
  extract_lets b1 u src src2 src3 b2 b3 src4 b4 ms
  have h3 : a.TimeKept b3 := (h.ledgerRec.units.addSat (by decide)).dayBoundary
  exact (h3.units.raise.ite (h3.units.raise.ite h3.units)).units

theorem tickEpoch (h : a.TimeKept b) : a.TimeKept b.tickEpoch := h.units.ite h

theorem tickDead (h : a.TimeKept b) : a.TimeKept b.tickDead := h.ite (h.units.foldl fun h => h.raise)

theorem tickTrack (h : a.TimeKept b) : a.TimeKept b.tickTrack := h.foldl fun h => h.units.raise.took

theorem tickTc (h : a.TimeKept b) {k} : a.TimeKept (b.tickTc k) := h.ite (h.units.foldl fun h => h.units)

theorem tickFt (h : a.TimeKept b) : a.TimeKept b.tickFt := (h.setReg64 (by decide) (by decide)).units.ite h

end Blk.TimeKept

end Sys2Proof.Machine
end

section
/-!
PROOFS. The tick of the Timebase Unit (O16).
-/

namespace Sys2Proof.Machine

open Sys2Proof.Claims

/-! ## The timebases (R33, R42) -/

/-- A 64-bit number reads as written, modulo 2^64. -/
theorem Blk.reg64_setReg64_mod (b : Blk) {lo hi : RegName} (h : lo ≠ hi) (i v : Nat) : (b.setReg64 lo hi i v).reg64 lo hi i = v % 2 ^ 64 := by
  rw [Blk.reg64, Blk.setReg64, Blk.reg_setReg_self, Blk.reg_setReg_name _ _ _ _ h, Blk.reg_setReg_self, BitVec.toNat_ofNat,
    BitVec.toNat_ofNat]
  omega

/-- From `a` to `b` only registers in `R` change, and a load of TB2 and a snapshot wait as they did. -/
structure Blk.TickStep (R : RegName → Nat → Prop) (a b : Blk) : Prop where
  regs : RegsKeptBut R a b
  snap : b.tbu.snap = a.tbu.snap
  load : b.tbu.tb2Load = a.tbu.tb2Load

namespace Blk.TickStep

variable {R : RegName → Nat → Prop} {a b c : Blk}

theorem refl (b : Blk) : b.TickStep R b := ⟨fun _ _ _ => rfl, rfl, rfl⟩

theorem trans (h : a.TickStep R b) (h' : b.TickStep R c) : a.TickStep R c :=
  ⟨h.regs.trans h'.regs, h'.snap.trans h.snap, h'.load.trans h.load⟩

theorem setReg (h : a.TickStep R b) {r i v} (hr : R r i) : a.TickStep R (b.setReg r i v) :=
  ⟨h.regs.trans fun q j hq => b.reg_setReg_of_ne v fun e => hq (by obtain ⟨rfl, rfl⟩ := Prod.mk.inj e; exact hr), h.snap, h.load⟩

theorem setReg64 (h : a.TickStep R b) {lo hi i v} (hlo : R lo i) (hhi : R hi i) : a.TickStep R (b.setReg64 lo hi i v) :=
  (h.setReg hlo).setReg hhi

theorem setFld (h : a.TickStep R b) {f i v} (hr : R f.reg i) : a.TickStep R (b.setFld f i v) := h.setReg hr

theorem withGnss (h : a.TickStep R b) {g} : a.TickStep R { b with gnss := g } := ⟨h.regs, h.snap, h.load⟩

theorem withTbu (h : a.TickStep R b) {t : TbuSt} (hs : t.snap = b.tbu.snap := by rfl) (hl : t.tb2Load = b.tbu.tb2Load := by rfl) :
    a.TickStep R { b with tbu := t } := ⟨h.regs, hs.trans h.snap, hl.trans h.load⟩

theorem ite {p : Prop} [Decidable p] (hb : a.TickStep R b) (hc : a.TickStep R c) : a.TickStep R (if p then b else c) := by
  split <;> assumption

theorem tb (h : a.TickStep R b) {n : Nat} (hlo : ¬ R .TB_VALUE_LO n) (hhi : ¬ R .TB_VALUE_HI n) : b.tb n = a.tb n := by
  rw [Blk.tb, Blk.tb, Blk.reg64, Blk.reg64, h.regs _ _ hlo, h.regs _ _ hhi]

end Blk.TickStep

/-- The registers of TB0 on a tick. -/
def Tb0Reg (r : RegName) (i : Nat) : Prop := i = 0 ∧ r ∈ [RegName.TB_VALUE_LO, .TB_VALUE_HI, .TBU_STATUS, .GNSS_STATUS]

theorem Blk.TickStep.tb0Counts {a b : Blk} (h : a.TickStep Tb0Reg b) : a.TickStep Tb0Reg b.tb0Counts := by
  unfold Blk.tb0Counts
  extract_lets b1 src b2
  have h1 : a.TickStep Tb0Reg b1 := h.setFld (by simp [Tb0Reg])
  have h2 : a.TickStep Tb0Reg b2 := h1.withGnss.ite h1
  exact (h2.setFld (by simp [Tb0Reg])).ite h1

theorem Blk.tickStep_tickTb0 (b : Blk) : b.TickStep Tb0Reg b.tickTb0 := by
  have hset : ∀ v, b.TickStep Tb0Reg (b.setReg64 .TB_VALUE_LO .TB_VALUE_HI 0 v) := fun v =>
    (Blk.TickStep.refl b).setReg64 (by simp [Tb0Reg]) (by simp [Tb0Reg])
  unfold Blk.tickTb0
  dsimp only
  split
  next g _ =>
    have h := hset (g + 10)
    generalize b.setReg64 .TB_VALUE_LO .TB_VALUE_HI 0 (g + 10) = c at h ⊢
    exact h.withTbu.tb0Counts.ite (Blk.TickStep.refl b).withTbu
  next g _ _ =>
    have h := hset (g + 10)
    generalize b.setReg64 .TB_VALUE_LO .TB_VALUE_HI 0 (g + 10) = c at h ⊢
    exact h.withTbu.tb0Counts
  next =>
    have h := hset (b.tb 0 + (b.tbu.tb0Ps + b.tb0Step) / 1000)
    generalize b.setReg64 .TB_VALUE_LO .TB_VALUE_HI 0 _ = c at h ⊢
    exact h.withTbu

/-- The registers of built timebase `n` on a tick. -/
def BuiltReg (n : Nat) (r : RegName) (i : Nat) : Prop := i = n ∧ r ∈ [RegName.TB_VALUE_LO, .TB_VALUE_HI, .TB_STAT]

theorem Blk.tickStep_tickBuilt (b : Blk) (n : Nat) : b.TickStep (BuiltReg n) (b.tickBuilt n) := by
  have hrefl := Blk.TickStep.refl (R := BuiltReg n) b
  have hset : ∀ v x, b.TickStep (BuiltReg n) ((b.setReg64 .TB_VALUE_LO .TB_VALUE_HI n v).setFlag F.TB_STAT_HOLDING n x) := fun v x =>
    (hrefl.setReg64 (by simp [BuiltReg]) (by simp [BuiltReg])).setFld (by simp [BuiltReg])
  exact (hset _ _).ite (hrefl.withTbu.ite hrefl)

theorem Blk.TickStep.foldl {R : RegName → Nat → Prop} {α : Type} {l : List α} {f : Blk → α → Blk}
    (hf : ∀ (b : Blk), ∀ x ∈ l, b.TickStep R (f b x)) (b : Blk) : b.TickStep R (l.foldl f b) := by
  induction l generalizing b with
  | nil => exact .refl b
  | cons x l ih => exact (hf b x (.head _)).trans (ih (fun b y hy => hf b y (.tail _ hy)) _)

theorem Blk.TickStep.mono {R S : RegName → Nat → Prop} {a b : Blk} (h : a.TickStep R b) (hR : ∀ r i, R r i → S r i) : a.TickStep S b :=
  ⟨fun r i hr => h.regs r i fun e => hr (hR r i e), h.snap, h.load⟩

/-- What a tick makes of TB2 (R42). -/
structure Blk.Tb2Ticked (a b : Blk) : Prop where
  tb1 : b.tb 1 = a.tb 1
  snap : b.tbu.snap = a.tbu.snap
  load : b.tbu.tb2Load = none
  loaded : ∀ v, a.tbu.tb2Load = some v → a.flag F.TBU_CTRL_TB2_AUTO 0 = false → b.tb 2 = v.toNat ∧ b.tbValid 2 = true

/-- The status of TB2 on a tick. -/
def Tb2Status (r : RegName) (_ : Nat) : Prop := r = .TBU_STATUS

theorem Blk.tbValid_setFld_or {b : Blk} : (b.setFld F.TBU_STATUS_TB_VALID 0 (b.fld F.TBU_STATUS_TB_VALID 0 ||| 4)).tbValid 2 = true := by
  rw [Blk.tbValid, Blk.fld_setFld_self _ _ _ _ (by decide), Nat.testBit_mod_two_pow, Nat.testBit_or]
  simp only [Bool.and_eq_true, Bool.or_eq_true, decide_eq_true_eq]
  exact ⟨by decide, .inr (by decide)⟩

theorem Blk.tickTb2_spec (b : Blk) : b.Tb2Ticked b.tickTb2.1 := by
  unfold Blk.tickTb2
  extract_lets course would loaded auto val wasValid load step b1 src b2 b3
  have h1 : b1.tb 1 = b.tb 1 ∧ b1.tb 2 = val % 2 ^ 64 ∧ b1.tbu = b.tbu := by
    refine ⟨?_, b.reg64_setReg64_mod (by decide) 2 val, Blk.setReg64_tbu ..⟩
    exact ((Blk.TickStep.refl (R := BuiltReg 2) b).setReg64 (by simp [BuiltReg]) (by simp [BuiltReg])).tb (by simp [BuiltReg]) (by simp [BuiltReg])
  clear_value b1
  obtain ⟨htb1, htb2, htbu⟩ := h1
  have hb2 : b2.tb 1 = b.tb 1 ∧ b2.tb 2 = val % 2 ^ 64 ∧ b2.tbu.snap = b.tbu.snap ∧ b2.tbu.tb2Load = none :=
    ⟨htb1, htb2, (by rw [htbu] : b1.tbu.snap = b.tbu.snap), rfl⟩
  clear_value b2
  obtain ⟨htb1, htb2, hsnap, hload⟩ := hb2
  have hb3 : b2.TickStep Tb2Status b3 := ((Blk.TickStep.refl b2).setFld rfl).ite (.refl b2)
  have hvalid : load = true → b3.tbValid 2 = true := fun hl => by
    have e : b3 = b2.setFld F.TBU_STATUS_TB_VALID 0 (b2.fld F.TBU_STATUS_TB_VALID 0 ||| 4) := if_pos (.inr (.inl hl))
    rw [e]
    exact b2.tbValid_setFld_or
  clear_value b3
  have hlast : ∀ c, b3.TickStep Tb2Status c → (b3.tbValid 2 = true → c.tbValid 2 = true) → b.Tb2Ticked c := fun c hc hv => by
    have hall := hb3.trans hc
    refine ⟨(hall.tb (by simp [Tb2Status]) (by simp [Tb2Status])).trans htb1, hall.snap.trans hsnap, hall.load.trans hload, fun v hlv hauto => ?_⟩
    have hl : load = true := by simp [load, hlv]
    have hval : val = v.toNat := by simp [val, auto, hauto, loaded, hlv]
    refine ⟨?_, hv (hvalid hl)⟩
    rw [hall.tb (by simp [Tb2Status]) (by simp [Tb2Status]), htb2, hval]
    exact Nat.mod_eq_of_lt v.isLt
  clear_value step
  split
  next d =>
    refine hlast _ ((Blk.TickStep.refl b3).setFld ?_) fun hv => ?_
    · split <;> rfl
    · rw [Blk.tbValid]
      split
      · rwa [Blk.fld_setFld_of_apart _ _ _ (by decide) (by decide)]
      · rwa [Blk.fld_setFld_of_apart _ _ _ (by decide) (by decide)]
  next => exact hlast _ (.refl b3) id

/-- What a tick makes of TB1 and TB2 (R33, R42). -/
structure Blk.TimebasesTicked (a b : Blk) : Prop where
  tb1 : b.tb 1 = (a.tb 1 + 10) % 2 ^ 64
  snap : b.tbu.snap = a.tbu.snap
  load : b.tbu.tb2Load = none
  loaded : ∀ v, a.tbu.tb2Load = some v → a.flag F.TBU_CTRL_TB2_AUTO 0 = false → b.tb 2 = v.toNat ∧ b.tbValid 2 = true

/-- The registers of the built timebases and of fabric time on a tick. -/
def LaterReg (r : RegName) (i : Nat) : Prop :=
  3 ≤ i ∧ r ∈ [RegName.TB_VALUE_LO, .TB_VALUE_HI, .TB_STAT] ∨ r ∈ [RegName.FAB_FT_LO, .FAB_FT_HI]

theorem Blk.TickStep.withFab {R : RegName → Nat → Prop} {a b : Blk} (h : a.TickStep R b) {x} : a.TickStep R { b with fab := x } :=
  ⟨h.regs, h.snap, h.load⟩

theorem Blk.TickStep.tickFt {a b : Blk} (h : a.TickStep LaterReg b) : a.TickStep LaterReg b.tickFt := by
  have hset : ∀ v, a.TickStep LaterReg (b.setReg64 .FAB_FT_LO .FAB_FT_HI 0 v) := fun v =>
    h.setReg64 (by simp [LaterReg]) (by simp [LaterReg])
  exact (hset _).withFab.ite h

theorem Blk.tickTimebases_spec (b : Blk) : b.TimebasesTicked b.tickTimebases.1 := by
  have E : @Blk.tickTimebases = fun b =>
      let (b, step) := b.tickTb0.tickTb1.tickTb2
      (((List.range 13).foldl (fun b k => b.tickBuilt (k + 3)) b).tickFt, step) := rfl
  have h0 := b.tickStep_tickTb0
  have h1 : b.tickTb0.TickStep (BuiltReg 1) b.tickTb0.tickTb1 := (Blk.TickStep.refl _).setReg64 (by simp [BuiltReg]) (by simp [BuiltReg])
  have hval : b.tickTb0.tickTb1.tb 1 = (b.tickTb0.tb 1 + 10) % 2 ^ 64 := b.tickTb0.reg64_setReg64_mod (by decide) 1 _
  rw [h0.tb (by simp [Tb0Reg]) (by simp [Tb0Reg])] at hval
  have h2 := b.tickTb0.tickTb1.tickTb2_spec
  rw [congrFun E b]
  split
  next c step e =>
    rw [e] at h2
    have hbuilt : c.TickStep LaterReg ((List.range 13).foldl (fun b k => b.tickBuilt (k + 3)) c) :=
      .foldl (fun b k _ => (b.tickStep_tickBuilt (k + 3)).mono fun r i ⟨hi, hr⟩ => .inl ⟨by omega, hr⟩) c
    have hlater := hbuilt.tickFt
    have htb : ∀ n, n ≤ 2 → ((List.range 13).foldl (fun b k => b.tickBuilt (k + 3)) c).tickFt.tb n = c.tb n := fun n hn =>
      hlater.tb (by simp [LaterReg]; omega) (by simp [LaterReg]; omega)
    have hvalid : ((List.range 13).foldl (fun b k => b.tickBuilt (k + 3)) c).tickFt.tbValid 2 = c.tbValid 2 :=
      congrArg (fun w => (F.TBU_STATUS_TB_VALID.get w).testBit 2) (hlater.regs .TBU_STATUS 0 (by simp [LaterReg]))
    have hauto : b.tickTb0.tickTb1.flag F.TBU_CTRL_TB2_AUTO 0 = b.flag F.TBU_CTRL_TB2_AUTO 0 :=
      (Blk.flag_congr (h1.regs _ _ (by simp [BuiltReg]))).trans (Blk.flag_congr (h0.regs _ _ (by simp [Tb0Reg])))
    refine ⟨(htb 1 (by omega)).trans (h2.tb1.trans hval), hlater.snap.trans (h2.snap.trans (h1.snap.trans h0.snap)),
      hlater.load.trans h2.load, fun v hv ha => ?_⟩
    obtain ⟨htb2, hvalid2⟩ := h2.loaded v ((h1.load.trans h0.load).trans hv) (hauto.trans ha)
    exact ⟨(htb 2 (by omega)).trans htb2, hvalid.trans hvalid2⟩

/-! ## Slots, snapshot, and the whole tick (R32, R35) -/

theorem Blk.TimeKept.tb {a b : Blk} (h : a.TimeKept b) (n : Nat) : b.tb n = a.tb n := by
  rw [Blk.tb, Blk.tb, Blk.reg64, Blk.reg64, h.regs _ _ (by decide), h.regs _ _ (by decide)]

theorem Blk.TimeKept.tbValid {a b : Blk} (h : a.TimeKept b) (n : Nat) : b.tbValid n = a.tbValid n :=
  congrArg (fun w => (F.TBU_STATUS_TB_VALID.get w).testBit n) (h.regs .TBU_STATUS 0 (by decide))

/-- The valid bits of the built timebases leave those of TB0 to TB2 as they stand (R35). -/
theorem Blk.testBit_validBits (b : Blk) (h : b.tbValid 2 = true) : b.validBits.testBit 2 = true := by
  have hfold : ∀ (l : List Nat) acc, acc.testBit 2 = true →
      (l.foldl (fun acc k => if b.builtValid (k + 3) then acc + 2 ^ (k + 3) else acc) acc).testBit 2 = true := by
    intro l
    induction l with
    | nil => exact fun _ h => h
    | cons k l ih =>
      intro acc hacc
      refine ih _ ?_
      dsimp only
      split
      · rw [Nat.testBit_eq_decide_div_mod_eq] at hacc ⊢
        have : 2 ^ (k + 3) = 8 * 2 ^ k := by ring
        simp only [decide_eq_true_eq] at hacc ⊢
        omega
      · exact hacc
  refine hfold _ _ ?_
  rw [show (8 : Nat) = 2 ^ 3 from rfl, Nat.testBit_mod_two_pow, Nat.testBit_or]
  simp only [Bool.and_eq_true, Bool.or_eq_true, decide_eq_true_eq]
  exact ⟨by decide, .inl h⟩

/-- The slots and windows of a tick keep TB2's validity, and the timebases. -/
theorem Blk.tickSlots_spec (b : Blk) (old : List Nat) (was : Nat) : let c := b.tickSlots old was
    (b.tbValid 2 = true → c.tbValid 2 = true) ∧ (∀ n, c.tb n = b.tb n) ∧ c.tbu.snap = b.tbu.snap ∧ c.tbu.tb2Load = b.tbu.tb2Load := by
  unfold Blk.tickSlots
  extract_lets valid b1 slots due src b2 b3 src2 c
  have hstep : b.TickStep Tb2Status b1 := (Blk.TickStep.refl b).setFld rfl
  have hkept : b1.TimeKept c := (((Blk.TimeKept.refl b1).withTbu.validChange).withTbu).resolveWindows
  have hv : b.tbValid 2 = true → b1.tbValid 2 = true := fun h => by
    rw [Blk.tbValid, Blk.fld_setFld_self _ _ _ _ (by decide), Nat.testBit_mod_two_pow, b.testBit_validBits h]
    rfl
  exact ⟨fun h => (hkept.tbValid 2).trans (hv h), fun n => (hkept.tb n).trans (hstep.tb (by simp [Tb2Status]) (by simp [Tb2Status])),
    hkept.snap.trans hstep.snap, hkept.load.trans hstep.load⟩

/-- The registers of the snapshot. -/
def SnapReg (r : RegName) (_ : Nat) : Prop := r ∈ [RegName.TBU_SNAPVAL_LO, .TBU_SNAPVAL_HI]

/-- The registers of the snapshot take the values of the first `m` timebases, all from one tick. -/
theorem Blk.copySnap_spec (b : Blk) (m : Nat) :
    let c := (List.range m).foldl (fun c n => c.setReg64 .TBU_SNAPVAL_LO .TBU_SNAPVAL_HI n (c.tb n)) b
    b.TickStep SnapReg c ∧ ∀ n, n < m → c.reg64 .TBU_SNAPVAL_LO .TBU_SNAPVAL_HI n = b.tb n := by
  induction m with
  | zero => exact ⟨.refl b, fun n hn => absurd hn (Nat.not_lt_zero n)⟩
  | succ m ih =>
    rw [List.range_succ, List.foldl_concat]
    generalize (List.range m).foldl (fun c n => c.setReg64 .TBU_SNAPVAL_LO .TBU_SNAPVAL_HI n (c.tb n)) b = c at ih ⊢
    obtain ⟨hstep, hvals⟩ := ih
    have hset : ∀ v, b.TickStep SnapReg (c.setReg64 .TBU_SNAPVAL_LO .TBU_SNAPVAL_HI m v) := fun v =>
      hstep.setReg64 (by simp [SnapReg]) (by simp [SnapReg])
    refine ⟨hset _, fun n hn => ?_⟩
    by_cases h : n = m
    · subst h
      rw [c.reg64_setReg64_mod (by decide), hstep.tb (by simp [SnapReg]) (by simp [SnapReg])]
      exact Nat.mod_eq_of_lt (b.reg64_lt ..)
    · have hne : ∀ v, c.TickStep (fun r i => SnapReg r i ∧ i = m) (c.setReg64 .TBU_SNAPVAL_LO .TBU_SNAPVAL_HI m v) := fun v =>
        (Blk.TickStep.refl c).setReg64 (by simp [SnapReg]) (by simp [SnapReg])
      rw [Blk.reg64, (hne _).regs _ _ (by simp [h]), (hne _).regs _ _ (by simp [h])]
      exact hvals n (by omega)

/-- A snapshot that waited is taken (R32). -/
structure Blk.SnapTaken (a b : Blk) : Prop where
  tb : ∀ n, b.tb n = a.tb n
  valid : b.tbValid 2 = a.tbValid 2
  snap : b.tbu.snap = false
  load : b.tbu.tb2Load = a.tbu.tb2Load
  vals : a.tbu.snap = true → ∀ n, n < 16 → b.reg64 .TBU_SNAPVAL_LO .TBU_SNAPVAL_HI n = a.tb n

theorem Blk.takeSnap_spec (b : Blk) : b.SnapTaken b.takeSnap := by
  unfold Blk.takeSnap
  split
  next h =>
    obtain ⟨hstep, hvals⟩ := Blk.copySnap_spec { b with tbu := { b.tbu with snap := false } } 16
    exact ⟨fun n => hstep.tb (by simp [SnapReg]) (by simp [SnapReg]),
      congrArg (fun w => (F.TBU_STATUS_TB_VALID.get w).testBit 2) (hstep.regs .TBU_STATUS 0 (by simp [SnapReg])), hstep.snap,
      hstep.load, fun _ => hvals⟩
  next h => exact ⟨fun _ => rfl, rfl, by simpa using h, rfl, fun hs => absurd hs h⟩

/-- What a tick leaves (R32, R33, R42). -/
structure Blk.Ticked (a b : Blk) : Prop where
  tb1 : b.tb 1 = (a.tb 1 + 10) % 2 ^ 64
  snap : b.tbu.snap = false
  vals : a.tbu.snap = true → ∀ n, n < 16 → b.reg64 .TBU_SNAPVAL_LO .TBU_SNAPVAL_HI n = b.tb n
  loaded : ∀ v, a.tbu.tb2Load = some v → a.flag F.TBU_CTRL_TB2_AUTO 0 = false → b.tb 2 = v.toNat ∧ b.tbValid 2 = true
  load : b.tbu.tb2Load = none

theorem Blk.Ticked.kept {a b c : Blk} (h : a.Ticked b) (hk : b.TimeKept c) : a.Ticked c := by
  refine ⟨(hk.tb 1).trans h.tb1, hk.snap.trans h.snap, fun hs n hn => ?_, fun v hv ha => ?_, hk.load.trans h.load⟩
  · rw [hk.tb, ← h.vals hs n hn, Blk.reg64, Blk.reg64, hk.regs _ _ (by decide), hk.regs _ _ (by decide)]
  · rw [hk.tb, hk.tbValid]
    exact h.loaded v hv ha

theorem Blk.tbuTick_spec {b : Blk} (ha : b.aonRuns = true) : b.Ticked b.tbuTick := by
  have h0 : b.TimeKept b.addPulses.fireDue.missFlush.yldFlush := (Blk.TimeKept.refl b).addPulses.fireDue.missFlush.yldFlush
  unfold Blk.tbuTick
  rw [Blk.when_of _ ha]
  extract_lets b1 old wasValid
  have h1 : b.TimeKept b1 := h0
  have htimes := b1.tickTimebases_spec
  clear_value b1 old wasValid
  have hauto : b1.flag F.TBU_CTRL_TB2_AUTO 0 = b.flag F.TBU_CTRL_TB2_AUTO 0 := Blk.flag_congr (h1.regs _ _ (by decide))
  split
  next c step e =>
    rw [e] at htimes
    extract_lets b2 moved b3 b4 b5
    obtain ⟨hvalid, htb, hsnap, hload⟩ := c.tickSlots_spec old wasValid
    have h2 : (c.tickSlots old wasValid).TimeKept b2 := (Blk.TimeKept.refl _).missTicks.encTick
    have h4 : (c.tickSlots old wasValid).TimeKept b4 := h2.accrTick.foldl fun h => h.impTick
    have htake := b4.takeSnap_spec
    have h5 : b4.takeSnap.TimeKept b5 := ((Blk.TimeKept.refl _).tickEpoch.tickDead.tickTrack.tickTc.tickTc).took
    have hticked : b.Ticked b4.takeSnap := by
      have htbs : ∀ n, b4.takeSnap.tb n = c.tb n := fun n => (htake.tb n).trans ((h4.tb n).trans (htb n))
      refine ⟨?_, htake.snap, fun hs n hn => ?_, fun v hv ha => ?_, ?_⟩
      · rw [htbs, htimes.tb1, h1.tb]
      · rw [htake.tb]
        exact htake.vals ((h4.snap.trans (hsnap.trans (htimes.snap.trans h1.snap))).trans hs) n hn
      · obtain ⟨htb2, hv2⟩ := htimes.loaded v (h1.load.trans hv) (hauto.trans ha)
        exact ⟨(htbs 2).trans htb2, htake.valid.trans ((h4.tbValid 2).trans (hvalid hv2))⟩
      · exact htake.load.trans (h4.load.trans (hload.trans htimes.load))
    have hb5 := hticked.kept h5
    clear_value b5
    split
    exacts [hb5, hb5.kept (Blk.TimeKept.refl b5).clockStep]

/-- Settles O16: the tick part by part, and the writes that wait for it. -/
theorem tickAdvancesTimebases : Obligations.TickAdvancesTimebases := by
  unfold Obligations.TickAdvancesTimebases
  intro s ha
  refine ⟨?_, fun v => .of_live ha rfl rfl rfl, fun hi => .of_live ha rfl rfl rfl, fun hi lo => .of_live ha rfl rfl rfl,
    .of_live ha rfl rfl rfl⟩
  have h := Blk.tbuTick_spec ha
  exact .of_run (f := Blk.tbuTick) rfl rfl ⟨h.tb1, h.snap, h.vals, h.loaded, h.load⟩

end Sys2Proof.Machine
end

section
/-!
PROOFS. What a task sends to the companions when its SAFE values are committed (R77, R79): the values of its entries of KIND 1 and 2
whose channel it owns, in order; of the rest of the block only the task's primary value and the count and log of refusals change.
-/

namespace Sys2Proof.Machine

open Sys2Proof.Claims

/-! ## Refusals raise no record -/

theorem Blk.settleMem_noRecord (b : Blk) (addr : Nat) : NoRecord b (b.settleMem addr) := by
  by_cases hr : regionOf addr = some .regs
  · rw [Blk.settleMem, if_pos hr]
    exact ⟨rfl, rfl⟩
  · cases ht : targetNo addr with
    | none =>
      rw [Blk.settleMem, if_neg hr, ht]
      exact ⟨rfl, rfl⟩
    | some t =>
      obtain ⟨e, h, -⟩ := b.settleMem_serves hr ht
      unfold Blk.Serves at h
      rw [h]
      exact ⟨rfl, rfl⟩

theorem Blk.refuse_noRecord (b : Blk) (source detail data : Nat) : NoRecord b (b.refuse source detail data) := by
  have hinc : NoRecord b (b.incFld F.ACC_REFUSED_REFUSED 0) := ⟨Blk.setFld_mod .., Blk.setFld_jrn ..⟩
  unfold Blk.refuse
  generalize b.incFld F.ACC_REFUSED_REFUSED 0 = c at hinc ⊢
  dsimp only
  split
  · exact hinc
  · split
    · obtain ⟨hmod, hjrn⟩ := c.settleMem_noRecord (c.logAddr + (c.reg .ACC_LOG_WR 0).toNat % c.logN * 16)
      exact ⟨(Blk.setFld_mod ..).trans ((Blk.writeMem_mod ..).trans (hmod.trans hinc.1)),
        (Blk.setFld_jrn ..).trans ((Blk.writeMem_jrn ..).trans (hjrn.trans hinc.2))⟩
    · exact ⟨(Blk.addSat_mod ..).trans hinc.1, (Blk.addSat_jrn ..).trans hinc.2⟩

/-! ## Sending -/

/-- From `a` to `b` task `t` has sent `l` on the actuator link: nothing else of the tasks changes but its primary value, no record is
raised, and of the registers only those of refusals change. -/
structure Blk.Sends (t : Nat) (l : List LinkMsg) (a b : Blk) : Prop where
  regs : RegsKeptBut RefusalReg a b
  noRecord : NoRecord a b
  link : b.le.link = a.le.link ++ l
  owner : b.le.owner = a.le.owner
  task : b.task t = { a.task t with prim := (b.task t).prim }
  others : OtherTasksKept t a b

namespace Blk.Sends

variable {t : Nat} {l m : List LinkMsg} {a b c : Blk}

theorem refl (b : Blk) : b.Sends t [] b := ⟨fun _ _ _ => rfl, ⟨rfl, rfl⟩, (List.append_nil _).symm, rfl, rfl, fun _ _ => rfl⟩

theorem trans (h : a.Sends t l b) (h' : b.Sends t m c) : a.Sends t (l ++ m) c where
  regs := h.regs.trans h'.regs
  noRecord := ⟨h'.noRecord.1.trans h.noRecord.1, h'.noRecord.2.trans h.noRecord.2⟩
  link := by rw [h'.link, h.link, List.append_assoc]
  owner := h'.owner.trans h.owner
  task := by rw [h'.task, h.task]
  others u hu := (h'.others u hu).trans (h.others u hu)

theorem setPrim (h : a.Sends t l b) (v : Word) : a.Sends t l (b.setTask t { b.task t with prim := v }) where
  regs := h.regs
  noRecord := h.noRecord
  link := h.link
  owner := h.owner
  task := by rw [Blk.task_setTask_self, h.task]
  others u hu := (Blk.task_setTask_of_ne _ _ hu).trans (h.others u hu)

theorem append (b : Blk) (x : LinkMsg) : b.Sends t [x] { b with le := { b.le with link := b.le.link ++ [x] } } :=
  ⟨fun _ _ _ => rfl, ⟨rfl, rfl⟩, rfl, rfl, rfl, fun _ _ => rfl⟩

theorem refuse (b : Blk) (source detail data : Nat) : b.Sends t [] (b.refuse source detail data) := by
  have h := b.accesses_refuse source detail data
  obtain ⟨hregs, -, hle⟩ := h
  have htask := Blk.Accesses.task (b.accesses_refuse source detail data)
  exact ⟨hregs, b.refuse_noRecord .., by rw [hle, List.append_nil], by rw [hle], by rw [htask], fun u _ => htask u⟩

theorem fld (h : a.Sends t l b) (f : Fld) (i : Nat) (hf : f.reg ∉ [RegName.ACC_REFUSED, .ACC_LOG_WR, .ACC_LOG_LOST]) :
    b.fld f i = a.fld f i := congrArg f.get (h.regs _ _ fun hc => hf hc.2)

theorem flag (h : a.Sends t l b) (f : Fld) (i : Nat) (hf : f.reg ∉ [RegName.ACC_REFUSED, .ACC_LOG_WR, .ACC_LOG_LOST]) :
    b.flag f i = a.flag f i := congrArg (· != 0) (h.fld f i hf)

theorem configDone (h : a.Sends t l b) : b.configDone = a.configDone := h.flag F.SYS_STATUS_CONFIG_DONE 0 (by decide)

end Blk.Sends

/-- The SAFE value of an output entry as it is committed. -/
def safeValue (_ : Nat) (x : OutEntry) : Option (BitVec 128) := some (x.safe.setWidth 128)

theorem entryMsgs_cons (b : Blk) (t : Nat) (x : Nat × OutEntry) (l : List (Nat × OutEntry)) (v : Nat → OutEntry → Option (BitVec 128)) :
    entryMsgs b t (x :: l) v = entryMsgs b t [x] v ++ entryMsgs b t l v := List.filterMap_append (l := [x])

theorem entryMsgs_congr {a b : Blk} (hc : b.configDone = a.configDone) (ho : b.le.owner = a.le.owner) (t : Nat)
    (l : List (Nat × OutEntry)) (v : Nat → OutEntry → Option (BitVec 128)) : entryMsgs b t l v = entryMsgs a t l v := by
  rw [entryMsgs, entryMsgs, hc, ho]

/-- Task `t` may drive channel `k` of the companions: it owns it, or no owner is fixed yet (log 66). -/
def Blk.drives (b : Blk) (t k : Nat) : Bool := !b.configDone || SMap.get b.le.owner k none == some t

theorem Blk.drives_iff {b : Blk} {t k : Nat} : b.drives t k = true ↔ b.configDone = false ∨ SMap.get b.le.owner k none = some t := by
  simp [Blk.drives]

/-- Message `x` leaves on the link where the task drives the channel, and a write that another task owns is refused. -/
theorem Blk.sends_owned (b : Blk) (t k : Nat) (x : LinkMsg) (source detail data : Nat) :
    b.Sends t (if b.drives t k = true then [x] else []) (if b.drives t k = true
      then { b with le := { b.le with link := b.le.link ++ [x] } } else b.refuse source detail data) := by
  split
  exacts [.append b x, .refuse b ..]

/-- A value of an entry of KIND 1 or 2 leaves on the link where the task owns the channel, and is refused elsewhere. -/
theorem Blk.sends_sendOut (b : Blk) (t e : Nat) (x : OutEntry) (hk : x.kind = 1 ∨ x.kind = 2) :
    b.Sends t (entryMsgs b t [(e, x)] safeValue) (b.sendOut t e x (x.safe.setWidth 128)) := by
  obtain ⟨kind, lane, id, addr, safe⟩ := x
  obtain rfl | rfl := hk
  · have hm : entryMsgs b t [(e, ⟨1, lane, id, addr, safe⟩)] safeValue =
        if b.drives t id = true then [.sol id ((safe.setWidth 128).extractLsb' 0 32)] else [] := by
      by_cases ho : b.drives t id = true <;> simp [entryMsgs, safeValue, ho, ← Blk.drives_iff]
    rw [hm]
    exact b.sends_owned t id ..
  · have hm : entryMsgs b t [(e, ⟨2, lane, id, addr, safe⟩)] safeValue =
        if b.drives t (64 + id) = true then [.lsw id ((safe.setWidth 128).extractLsb' 0 32)] else [] := by
      by_cases ho : b.drives t (64 + id) = true <;> simp [entryMsgs, safeValue, ho, ← Blk.drives_iff]
    rw [hm]
    exact b.sends_owned t (64 + id) ..

/-- The SAFE value of one entry is committed, `primary` being the number of the primary one. -/
def Blk.commitEntry (t primary : Nat) (b : Blk) (x : Nat × OutEntry) : Blk :=
  if x.2.kind = 1 ∨ x.2.kind = 2 then
    let b := b.sendOut t x.1 x.2 (x.2.safe.setWidth 128)
    if x.1 = primary then b.setTask t { b.task t with prim := x.2.safe } else b
  else b

theorem Blk.sends_commitEntry (t primary : Nat) (b : Blk) (x : Nat × OutEntry) :
    b.Sends t (entryMsgs b t [x] safeValue) (b.commitEntry t primary x) := by
  unfold Blk.commitEntry
  split
  case isTrue hk =>
    have hs := b.sends_sendOut t x.1 x.2 hk
    dsimp only
    split
    exacts [hs.setPrim _, hs]
  case isFalse hk =>
    rw [not_or] at hk
    have hm : entryMsgs b t [x] safeValue = [] := by simp [entryMsgs, safeValue, hk.1, hk.2]
    rw [hm]
    exact .refl b

theorem Blk.sends_commitEntries (t primary : Nat) (l : List (Nat × OutEntry)) (b : Blk) :
    b.Sends t (entryMsgs b t l safeValue) (l.foldl (Blk.commitEntry t primary) b) := by
  induction l generalizing b with
  | nil => exact .refl b
  | cons x l ih =>
    have hx := b.sends_commitEntry t primary x
    rw [entryMsgs_cons, ← entryMsgs_congr hx.configDone hx.owner t l safeValue]
    exact hx.trans (ih _)

theorem Blk.sends_commitSafe (b : Blk) (t : Nat) : b.Sends t (safeMsgs b t) (b.commitSafe t) :=
  b.sends_commitEntries t (b.desc t).primary (b.outEntries t (b.desc t))

/-! ## The SAFE values depend on the descriptor, the output map and the owners alone -/

theorem Blk.tword_congr {a b : Blk} (hm : b.mem = a.mem) (t off : Nat) : b.tword t off = a.tword t off := Blk.readMem_congr hm _ _

theorem Blk.desc_congr {a b : Blk} (hm : b.mem = a.mem) {t : Nat} (hd : b.reg .TASK_DESC t = a.reg .TASK_DESC t) :
    b.desc t = a.desc t := by
  simp only [Blk.desc, Blk.tword_congr hm, Blk.fld, hd]

theorem safeMsgs_congr {a b : Blk} {t : Nat} (hm : b.mem = a.mem) (hd : b.reg .TASK_DESC t = a.reg .TASK_DESC t)
    (hc : b.configDone = a.configDone) (ho : b.le.owner = a.le.owner) : safeMsgs b t = safeMsgs a t := by
  have hout : b.outEntries t (b.desc t) = a.outEntries t (a.desc t) := by
    rw [Blk.desc_congr hm hd]
    simp only [Blk.outEntries, Blk.outEntry, Blk.tword_congr hm]
  rw [safeMsgs, safeMsgs, linkMsgs, linkMsgs, hout, entryMsgs_congr hc ho]

end Sys2Proof.Machine
end

section
/-!
PROOFS. How a run of a task ends by its mark (R75, R77, R78, R79): the abort is counted, the task is IDLE or DISABLED without a run,
and where the mark or DISABLE_ACTION says so its SAFE values are sent.
-/

namespace Sys2Proof.Machine

open Sys2Proof.Claims

/-- The registers of a task that an abort writes. -/
def TaskReg (t : Nat) (r : RegName) (i : Nat) : Prop := i = t ∧ r ∈ [RegName.TASK_STATUS, .TASK_CTRL, .TASK_CNT]

/-- From `a` to `b` only task `t` changes, in its slot and its status, control and counts; nothing is sent and no record is raised. -/
structure Blk.OnTask (t : Nat) (a b : Blk) : Prop where
  within : a.Within (TaskReg t) b
  noRecord : NoRecord a b
  link : b.le.link = a.le.link
  owner : b.le.owner = a.le.owner
  others : OtherTasksKept t a b

namespace Blk.OnTask

variable {t : Nat} {a b : Blk}

theorem refl (b : Blk) : b.OnTask t b := ⟨.refl b, ⟨rfl, rfl⟩, rfl, rfl, fun _ _ => rfl⟩

theorem setFld (h : a.OnTask t b) (f : Fld) (v : Nat) (hf : f.reg ∈ [RegName.TASK_STATUS, .TASK_CTRL, .TASK_CNT]) :
    a.OnTask t (b.setFld f t v) where
  within := h.within.setFld ⟨rfl, hf⟩
  noRecord := ⟨(b.setFld_mod ..).trans h.noRecord.1, (b.setFld_jrn ..).trans h.noRecord.2⟩
  link := (congrArg LeSt.link (b.setFld_le ..)).trans h.link
  owner := (congrArg LeSt.owner (b.setFld_le ..)).trans h.owner
  others u hu := (Blk.task_congr (b.tasks_setFld ..) u).trans (h.others u hu)

theorem setTask (h : a.OnTask t b) (x : TaskSt) : a.OnTask t (b.setTask t x) where
  within := h.within.units
  noRecord := h.noRecord
  link := h.link
  owner := h.owner
  others u hu := (b.task_setTask_of_ne x hu).trans (h.others u hu)

theorem leave (h : a.OnTask t b) : a.OnTask t (b.leave t) := by
  unfold Blk.leave
  split
  exacts [⟨h.within.units, h.noRecord, h.link, h.owner, h.others⟩, h]

/-- What a task commits does not depend on its state. -/
theorem safeMsgs_eq (h : a.OnTask t b) : safeMsgs b t = safeMsgs a t :=
  safeMsgs_congr h.within.mem (h.within.regs _ _ fun hc => absurd hc.2 (by decide))
    (h.within.flag F.SYS_STATUS_CONFIG_DONE 0 fun hc => absurd hc.2 (by decide)) h.owner

end Blk.OnTask

theorem Blk.fld_leave (b : Blk) (t : Nat) (f : Fld) (i : Nat) : (b.leave t).fld f i = b.fld f i := by
  unfold Blk.leave
  split <;> rfl

theorem Blk.task_leave (b : Blk) (t u : Nat) : (b.leave t).task u = b.task u := by
  unfold Blk.leave
  split <;> rfl

theorem Blk.task_setFld (b : Blk) (f : Fld) (i v u : Nat) : (b.setFld f i v).task u = b.task u := Blk.task_congr (b.tasks_setFld ..) u

theorem Blk.fld_setTask (b : Blk) (t : Nat) (x : TaskSt) (f : Fld) (i : Nat) : (b.setTask t x).fld f i = b.fld f i := rfl

/-! ## The end of a run -/

/-- Task slot `x` holds no run. -/
def TaskSt.Clear (x : TaskSt) : Prop := x.staged = [] ∧ x.started = false ∧ x.dl = none ∧ x.bs = none

/-- From `a` to `b` task `t` gives up its run and is in state `n`. -/
structure Blk.Stops (t n : Nat) (a b : Blk) : Prop extends a.OnTask t b where
  state : b.taskState t = n
  clear : (b.task t).Clear
  status : ∀ f : Fld, f = F.TASK_STATUS_ABORTED ∨ f = F.TASK_CNT_ABORTS ∨ f = F.TASK_CTRL_DISABLE_ACTION → b.fld f t = a.fld f t

theorem Blk.stops_toIdle (b : Blk) (t : Nat) : b.Stops t 1 (b.toIdle t) where
  toOnTask := (((Blk.OnTask.refl b).setFld F.TASK_STATUS_STATE 1 (by decide)).setTask _).leave
  state := by
    rw [Blk.taskState, Blk.toIdle, Blk.fld_leave, Blk.fld_setTask, Blk.fld_setFld_self _ _ _ _ (by decide)]
    rfl
  clear := by
    rw [Blk.toIdle, Blk.task_leave, Blk.task_setTask_self]
    exact ⟨rfl, rfl, rfl, rfl⟩
  status f hf := by
    rw [Blk.toIdle, Blk.fld_leave, Blk.fld_setTask]
    obtain rfl | rfl | rfl := hf <;> exact Blk.fld_setFld_of_apart _ _ _ (by decide) (by decide)

theorem Blk.stops_toDisabled (b : Blk) (t : Nat) : b.Stops t 0 (b.toDisabled t) where
  toOnTask := (((((Blk.OnTask.refl b).setFld F.TASK_STATUS_STATE 0 (by decide)).setFld F.TASK_STATUS_PL_FLAG 0 (by decide)).setFld
    F.TASK_CTRL_EN 0 (by decide)).setTask _).leave
  state := by
    rw [Blk.taskState, Blk.toDisabled, Blk.fld_leave, Blk.fld_setTask, Blk.fld_setFld_of_apart _ _ _ (by decide) (by decide),
      Blk.fld_setFld_of_apart _ _ _ (by decide) (by decide), Blk.fld_setFld_self _ _ _ _ (by decide)]
    rfl
  clear := by
    rw [Blk.toDisabled, Blk.task_leave, Blk.task_setTask_self]
    exact ⟨rfl, rfl, rfl, rfl⟩
  status f hf := by
    have hapart : ∀ g : Fld, g = F.TASK_STATUS_STATE ∨ g = F.TASK_STATUS_PL_FLAG ∨ g = F.TASK_CTRL_EN → ∀ c : Blk, ∀ v,
        (c.setFld g t v).fld f t = c.fld f t := by
      intro g hg c v
      obtain rfl | rfl | rfl := hf <;> obtain rfl | rfl | rfl := hg <;>
        exact Blk.fld_setFld_of_apart _ _ _ (by decide) (by decide)
    rw [Blk.toDisabled, Blk.fld_leave, Blk.fld_setTask, hapart _ (.inr (.inr rfl)), hapart _ (.inr (.inl rfl)), hapart _ (.inl rfl)]

/-- An abort by mark `m` ends in DISABLED, and not in IDLE. -/
def Blk.abortDisables (b : Blk) (t : Nat) (m : AbortMark) : Bool :=
  decide (b.taskState t = 5) || decide (m = .safeDisable) || decide (m = .drain)

/-- An abort by mark `m` sends the SAFE values. -/
def Blk.abortSafe (b : Blk) (t : Nat) (m : AbortMark) : Bool :=
  decide (m = .safe) || decide (m = .safeDisable) ||
    ((decide (b.taskState t = 5) || decide (m = .drain)) && decide (b.fld F.TASK_CTRL_DISABLE_ACTION t = 1))

/-- Task `t` once its run was aborted, before SAFE values are sent. -/
def Blk.stopped (b : Blk) (t : Nat) (disables : Bool) : Blk :=
  if disables = true then (b.countAbort t).toDisabled t else (b.countAbort t).toIdle t

theorem Blk.disableByEn_eq (b : Blk) (t : Nat) : b.disableByEn t =
    if b.fld F.TASK_CTRL_DISABLE_ACTION t = 1 then (b.toDisabled t).commitSafe t else b.toDisabled t := by
  rw [Blk.disableByEn, (b.stops_toDisabled t).status _ (.inr (.inr rfl))]

theorem Blk.fld_countAbort (b : Blk) (t : Nat) {f : Fld} (hs : f = F.TASK_STATUS_STATE ∨ f = F.TASK_CTRL_DISABLE_ACTION) :
    (b.countAbort t).fld f t = b.fld f t := by
  obtain rfl | rfl := hs <;>
    rw [Blk.countAbort, Blk.fld_setFld_of_apart _ _ _ (by decide) (by decide), Blk.addSat,
      Blk.fld_setFld_of_apart _ _ _ (by decide) (by decide)]

theorem Blk.abortBy_eq (b : Blk) (t : Nat) (m : AbortMark) : b.abortBy t m =
    if b.abortSafe t m = true then (b.stopped t (b.abortDisables t m)).commitSafe t else b.stopped t (b.abortDisables t m) := by
  have hoff : ((b.countAbort t).disableByEn t).fld F.TASK_CTRL_DISABLE_ACTION t = b.fld F.TASK_CTRL_DISABLE_ACTION t := by
    have hd := (((b.countAbort t).stops_toDisabled t).status _ (.inr (.inr rfl))).trans (b.fld_countAbort t (.inr rfl))
    rw [Blk.disableByEn]
    split
    · rw [(Blk.sends_commitSafe _ t).fld _ _ (by decide), hd]
    · exact hd
  have hstate : (b.countAbort t).taskState t = b.taskState t := b.fld_countAbort t (.inl rfl)
  unfold Blk.abortBy
  dsimp only
  rw [hstate, hoff, Blk.disableByEn_eq, b.fld_countAbort t (.inr rfl)]
  by_cases h5 : b.taskState t = 5 <;> by_cases ho : b.fld F.TASK_CTRL_DISABLE_ACTION t = 1 <;> cases m <;>
    simp [Blk.abortSafe, Blk.abortDisables, Blk.stopped, h5, ho]

/-- From `a` to `b` the run of task `t` was aborted: it is counted, the task is in state `n`, and `l` was sent. -/
structure Blk.Aborts (t n : Nat) (l : List LinkMsg) (a b : Blk) : Prop where
  state : b.taskState t = n
  aborted : b.flag F.TASK_STATUS_ABORTED t = true
  count : b.fld F.TASK_CNT_ABORTS t = min (a.fld F.TASK_CNT_ABORTS t + 1) 65535
  clear : (b.task t).Clear
  link : b.le.link = a.le.link ++ l
  noRecord : NoRecord a b
  others : OtherTasksKept t a b
  regs : RegsKeptBut (fun r i => TaskReg t r i ∨ RefusalReg r i) a b

theorem Blk.onTask_countAbort (b : Blk) (t : Nat) : b.OnTask t (b.countAbort t) :=
  ((Blk.OnTask.refl b).setFld F.TASK_CNT_ABORTS _ (by decide)).setFld F.TASK_STATUS_ABORTED 1 (by decide)

theorem Blk.count_countAbort (b : Blk) (t : Nat) : (b.countAbort t).fld F.TASK_CNT_ABORTS t = min (b.fld F.TASK_CNT_ABORTS t + 1) 65535 := by
  rw [Blk.countAbort, Blk.fld_setFld_of_apart _ _ _ (by decide) (by decide), Blk.addSat, Blk.fld_setFld_self _ _ _ _ (by decide)]
  exact Nat.mod_eq_of_lt (Nat.lt_of_le_of_lt (Nat.min_le_right ..) (by decide))

theorem Blk.Stops.aborts {t n : Nat} {b c : Blk} (h : (b.countAbort t).Stops t n c) : b.Aborts t n [] c ∧ b.OnTask t c := by
  have hcount := b.onTask_countAbort t
  have hon : b.OnTask t c := ⟨hcount.within.trans h.within, ⟨h.noRecord.1.trans hcount.noRecord.1, h.noRecord.2.trans hcount.noRecord.2⟩,
    h.link.trans hcount.link, h.owner.trans hcount.owner, fun u hu => (h.others u hu).trans (hcount.others u hu)⟩
  have haborted : (b.countAbort t).flag F.TASK_STATUS_ABORTED t = true := Blk.flag_setFld_one _ _ _ (by decide) (by decide)
  exact ⟨⟨h.state, (congrArg (· != 0) (h.status _ (.inl rfl))).trans haborted,
    (h.status _ (.inr (.inl rfl))).trans (b.count_countAbort t), h.clear, by rw [hon.link, List.append_nil], hon.noRecord, hon.others,
    fun r i hr => hon.within.regs r i fun hc => hr (.inl hc)⟩, hon⟩

theorem Blk.aborts_stopped (b : Blk) (t : Nat) (disables : Bool) :
    b.Aborts t (if disables = true then 0 else 1) [] (b.stopped t disables) ∧ b.OnTask t (b.stopped t disables) := by
  cases disables
  · exact ((b.countAbort t).stops_toIdle t).aborts
  · exact ((b.countAbort t).stops_toDisabled t).aborts

theorem Blk.Aborts.sends {t n : Nat} {l m : List LinkMsg} {a b c : Blk} (h : a.Aborts t n l b) (hs : b.Sends t m c) :
    a.Aborts t n (l ++ m) c where
  state := (hs.fld _ _ (by decide)).trans h.state
  aborted := (hs.flag _ _ (by decide)).trans h.aborted
  count := (hs.fld _ _ (by decide)).trans h.count
  clear := by
    rw [hs.task]
    exact h.clear
  link := by rw [hs.link, h.link, List.append_assoc]
  noRecord := ⟨hs.noRecord.1.trans h.noRecord.1, hs.noRecord.2.trans h.noRecord.2⟩
  others u hu := (hs.others u hu).trans (h.others u hu)
  regs := h.regs.trans fun r i hr => hs.regs r i fun hc => hr (.inr hc)

/-- An abort by a mark, with the state it ends in and what it sends. -/
theorem Blk.aborts_abortBy (b : Blk) (t : Nat) (m : AbortMark) :
    b.Aborts t (if b.abortDisables t m = true then 0 else 1) (if b.abortSafe t m = true then safeMsgs b t else []) (b.abortBy t m) ∧
      (b.abortSafe t m = false → MemKept b (b.abortBy t m)) := by
  obtain ⟨hstop, hon⟩ := b.aborts_stopped t (b.abortDisables t m)
  rw [Blk.abortBy_eq]
  cases b.abortSafe t m
  · exact ⟨hstop, fun _ => hon.within.memKept⟩
  · have hs := hstop.sends ((b.stopped t (b.abortDisables t m)).sends_commitSafe t)
    rw [hon.safeMsgs_eq] at hs
    exact ⟨hs, fun h => nomatch h⟩

end Sys2Proof.Machine
end

section
/-!
PROOFS. Triggers that reach a task, and deadlines and backstops that a tick found reached (O18).
-/

namespace Sys2Proof.Machine

open Sys2Proof.Claims

/-! ## Reached deadlines and backstops -/

/-- What the last tick found due for task `t` is taken up. -/
def Blk.dueTaken (b : Blk) (t : Nat) : Blk := b.setTask t { b.task t with due := .none }

theorem Blk.missData_dueTaken (b : Blk) (t : Nat) : (b.dueTaken t).missData t = b.missData t := by
  have hdesc : (b.dueTaken t).desc t = b.desc t := Blk.desc_congr rfl rfl
  rw [Blk.missData, Blk.missData, hdesc, Blk.dueTaken, Blk.task_setTask_self, Blk.reg_setTask]

/-- The one record of a reached deadline (`detail` 1) or backstop (`detail` 2) is raised. -/
def Blk.missRaised (b : Blk) (t detail : Nat) : Blk :=
  ((b.dueTaken t).raise (taskEng t) 0x01 detail (b.missData t)).setTask t { (b.dueTaken t).task t with missed := true }

/-- From `a` to `b` the one record of task `t` is raised; beside it only the slot of the task changes. -/
structure Blk.Misses (t detail : Nat) (a b : Blk) : Prop where
  task : b.task t = { a.task t with missed := true, due := .none }
  others : OtherTasksKept t a b
  oneRecord : OneRecord (taskEng t) 0x01 detail (a.missData t) a b
  within : a.Within RecReg b
  link : b.le.link = a.le.link
  owner : b.le.owner = a.le.owner

theorem Blk.misses_missRaised (b : Blk) (t detail : Nat) : b.Misses t detail (b.missRaised t detail) := by
  have hle := (b.dueTaken t).raise_le (taskEng t) 0x01 detail (b.missData t)
  have htask : ∀ u, ((b.dueTaken t).raise (taskEng t) 0x01 detail (b.missData t)).task u = (b.dueTaken t).task u := fun u =>
    Blk.task_congr (congrArg LeSt.tasks hle) u
  have hdue : b.RecordsAlike (b.dueTaken t) := ⟨fun _ _ _ => rfl, rfl, rfl, rfl⟩
  have halike : (b.raise (taskEng t) 0x01 detail (b.missData t)).RecordsAlike
      ((b.dueTaken t).raise (taskEng t) 0x01 detail (b.missData t)) := hdue.raise ..
  have hwithin : b.Within RecReg ((b.dueTaken t).raise (taskEng t) 0x01 detail (b.missData t)) :=
    Blk.Within.raise (Blk.Within.refl b).units fun _ _ h => h
  unfold Blk.missRaised
  generalize (b.dueTaken t).raise (taskEng t) 0x01 detail (b.missData t) = c at hle htask halike hwithin ⊢
  refine ⟨?_, fun u hu => ?_, halike.oneRecord, hwithin.units, (congrArg LeSt.link hle).trans rfl,
    (congrArg LeSt.owner hle).trans rfl⟩
  · rw [Blk.task_setTask_self, Blk.dueTaken, Blk.task_setTask_self]
  · rw [Blk.task_setTask_of_ne _ _ hu, htask, Blk.dueTaken, Blk.task_setTask_of_ne _ _ hu]

namespace Blk.Misses

variable {t detail : Nat} {a b : Blk}

theorem fld (h : a.Misses t detail b) (f : Fld) (hf : f.reg ≠ .SYS_FAULT_LATCH ∧ f.reg ≠ .FAB_FLTQ) (i : Nat) :
    b.fld f i = a.fld f i := h.within.fld f i fun hc => hc.2.elim hf.1 hf.2

theorem missMark (h : a.Misses t detail b) : b.missMark t = a.missMark t := by
  rw [Blk.missMark, Blk.missMark, Blk.taskState, Blk.taskState, h.fld _ (by decide), h.fld _ (by decide), h.task]

theorem safeMsgs_eq (h : a.Misses t detail b) : safeMsgs b t = safeMsgs a t :=
  safeMsgs_congr h.within.mem (h.within.regs _ _ fun hc => absurd hc.2 (by decide))
    (h.within.flag F.SYS_STATUS_CONFIG_DONE 0 fun hc => absurd hc.2 (by decide)) h.owner

end Blk.Misses

/-- The record first; then an ended run goes on to its commit, a READY one stays or is aborted, and any other is marked. -/
theorem Blk.miss_dueTaken (b : Blk) (t detail : Nat) : (b.dueTaken t).miss t detail =
    let m := b.missRaised t detail
    if (b.task t).ended = true then m
    else if b.taskState t = 2 then
      if b.fld F.TASK_CTRL_MISS_ACTION t = 0 then m else m.abortBy t (b.missMark t)
    else m.setTask t { m.task t with mark := b.missMark t } := by
  have hm := b.misses_missRaised t detail
  have heq : (b.dueTaken t).miss t detail =
      let m := b.missRaised t detail
      if (m.task t).ended = true then m
      else if m.taskState t = 2 then
        if m.fld F.TASK_CTRL_MISS_ACTION t = 0 then m else m.abortBy t (m.missMark t)
      else m.setTask t { m.task t with mark := m.missMark t } := by
    rw [Blk.miss, Blk.missData_dueTaken]
    rfl
  rw [heq]
  dsimp only
  rw [hm.missMark, Blk.taskState, hm.fld _ (by decide), hm.fld _ (by decide), hm.task, Blk.taskState]

theorem Blk.deadlineReached_of_due {b : Blk} {t : Nat} (h : (b.task t).due = .deadline) : b.deadlineReached t = (b.dueTaken t).miss t 1 := by
  rw [Blk.deadlineReached, h]
  rfl

theorem Blk.deadlineReached_of_not_due {b : Blk} {t : Nat} (h : (b.task t).due ≠ .deadline) : b.deadlineReached t = b := by
  rw [Blk.deadlineReached, Blk.when, if_neg (by simpa using h)]

theorem Blk.backstopReached_of_due {b : Blk} {t : Nat} (h : (b.task t).due = .backstop) : b.backstopReached t = (b.dueTaken t).miss t 2 := by
  rw [Blk.backstopReached, h]
  rfl

theorem Blk.backstopReached_of_drain {b : Blk} {t : Nat} (h : (b.task t).due = .drain) : b.backstopReached t =
    b.setTask t { b.task t with due := .none, mark := if (b.task t).ended = true then (b.task t).mark else .drain } := by
  rw [Blk.backstopReached, h]

theorem Blk.missNow_of_none {b : Blk} {t : Nat} (h : (b.task t).due = .none) : b.missNow t = b := by
  rw [Blk.missNow, Blk.deadlineReached_of_not_due (by simp [h]), Blk.backstopReached, h]

/-! ### The other tasks -/

theorem Blk.othersKept_miss (b : Blk) (t detail : Nat) : OtherTasksKept t b ((b.dueTaken t).miss t detail) := by
  have hm := (b.misses_missRaised t detail).others
  rw [Blk.miss_dueTaken]
  generalize b.missRaised t detail = m at hm ⊢
  dsimp only
  split
  · exact hm
  · split
    · split
      · exact hm
      · exact fun u hu => ((m.aborts_abortBy t (b.missMark t)).1.others u hu).trans (hm u hu)
    · exact fun u hu => (m.task_setTask_of_ne _ hu).trans (hm u hu)

theorem Blk.othersKept_missNow (b : Blk) (t : Nat) : OtherTasksKept t b (b.missNow t) := by
  have hd : OtherTasksKept t b (b.deadlineReached t) := by
    by_cases h : (b.task t).due = .deadline
    · rw [Blk.deadlineReached_of_due h]
      exact b.othersKept_miss t 1
    · rw [Blk.deadlineReached_of_not_due h]
      exact fun _ _ => rfl
  rw [Blk.missNow]
  generalize b.deadlineReached t = c at hd ⊢
  intro u hu
  rw [← hd u hu]
  unfold Blk.backstopReached
  split
  · exact c.othersKept_miss t 2 u hu
  · exact c.task_setTask_of_ne _ hu
  · rfl

/-! ### A miss, by what stands of the run -/

/-- A READY task whose MISS_ACTION is not ABORT_NONE is aborted by it, behind the one record (R76, R77). -/
theorem Blk.Misses.abort {a m : Blk} {t detail : Nat} (hm : a.Misses t detail m) (h2 : a.taskState t = 2)
    (h0 : a.fld F.TASK_CTRL_MISS_ACTION t ≠ 0) :
    let b := m.abortBy t (a.missMark t)
    let act := a.fld F.TASK_CTRL_MISS_ACTION t
    OneRecord (taskEng t) 0x01 detail (a.missData t) a b ∧ b.taskState t = (if act = 3 then 0 else 1) ∧
      b.flag F.TASK_STATUS_ABORTED t = true ∧ b.fld F.TASK_CNT_ABORTS t = min (a.fld F.TASK_CNT_ABORTS t + 1) 65535 ∧
      b.reg .TASK_SEQ t = a.reg .TASK_SEQ t ∧ (b.task t).dl = none ∧ (b.task t).bs = none ∧
      (act = 1 → b.le.link = a.le.link ∧ MemKept a b) ∧ (act ≠ 1 → b.le.link = a.le.link ++ safeMsgs a t) := by
  obtain ⟨hab, hkept⟩ := m.aborts_abortBy t (a.missMark t)
  generalize m.abortBy t (a.missMark t) = c at hab hkept ⊢
  have hlt : a.fld F.TASK_CTRL_MISS_ACTION t < 4 := Nat.mod_lt _ (by decide)
  have hstate : m.taskState t ≠ 5 := by
    rw [Blk.taskState, hm.fld _ (by decide)]
    exact fun h => absurd (h2.symm.trans h) (by decide)
  have hsend : m.abortSafe t (a.missMark t) = decide (a.fld F.TASK_CTRL_MISS_ACTION t ≠ 1) ∧
      m.abortDisables t (a.missMark t) = decide (a.fld F.TASK_CTRL_MISS_ACTION t = 3) := by
    rw [Blk.missMark, if_neg (h2 ▸ by decide), Blk.abortSafe, Blk.abortDisables, decide_eq_false hstate]
    generalize a.fld F.TASK_CTRL_MISS_ACTION t = act at h0 hlt ⊢
    interval_cases act
    · exact absurd rfl h0
    all_goals exact ⟨rfl, rfl⟩
  obtain ⟨hsafe, hdis⟩ := hsend
  rw [hsafe, hdis, hm.safeMsgs_eq] at hab
  rw [hsafe] at hkept
  have hreg : ∀ r i, r ∉ [RegName.TASK_STATUS, .TASK_CTRL, .TASK_CNT, .ACC_REFUSED, .ACC_LOG_WR, .ACC_LOG_LOST] →
      c.reg r i = m.reg r i := fun r i hr => hab.regs r i fun hc => hr (by
    simp only [TaskReg, RefusalReg, List.mem_cons, List.not_mem_nil, or_false] at hc ⊢
    tauto)
  obtain ⟨hmod, hjrn, hlatch, hqueue⟩ := hm.oneRecord
  obtain ⟨-, -, hdl, hbs⟩ := hab.clear
  refine ⟨⟨hab.noRecord.1.trans hmod, hab.noRecord.2.trans hjrn, (hreg _ _ (by decide)).trans hlatch, (hreg _ _ (by decide)).trans hqueue⟩,
    by simpa using hab.state, hab.aborted, hab.count.trans (by rw [hm.fld _ (by decide)]),
    (hreg _ _ (by decide)).trans (hm.within.regs _ _ fun hc => absurd hc.2 (by decide)), hdl, hbs, fun h1 => ⟨?_, ?_⟩, fun h1 => ?_⟩
  · rw [hab.link, hm.link, h1]
    exact List.append_nil _
  · obtain ⟨hbyte, hotp⟩ := hkept (by rw [h1]; rfl)
    have hmem := hm.within.memKept
    exact ⟨fun x => (hbyte x).trans (hmem.1 x), fun x => (hotp x).trans (hmem.2 x)⟩
  · rw [hab.link, hm.link, if_pos (by simp [h1])]

/-- What DEADLINE_REACHED and BACKSTOP_REACHED do where the tick found the deadline or first the backstop reached. -/
theorem Blk.miss_spec (a : Blk) (t detail : Nat) :
    let b := (a.dueTaken t).miss t detail
    let x := a.task t
    let act := a.fld F.TASK_CTRL_MISS_ACTION t
    let safe := a.le.link ++ safeMsgs a t
    OneRecord (taskEng t) 0x01 detail (a.missData t) a b ∧ OtherTasksKept t a b ∧
    (x.ended = true → b.task t = { x with missed := true, due := .none } ∧ RegsKeptBut RecReg a b ∧ MemKept a b) ∧
    (x.ended = false → a.taskState t ≠ 2 →
      b.task t = { x with missed := true, due := .none, mark := a.missMark t } ∧ RegsKeptBut RecReg a b ∧ MemKept a b) ∧
    (x.ended = false → a.taskState t = 2 →
      (act = 0 → b.task t = { x with missed := true, due := .none } ∧ RegsKeptBut RecReg a b ∧ MemKept a b) ∧
      (act ≠ 0 → b.taskState t = (if act = 3 then 0 else 1) ∧ b.flag F.TASK_STATUS_ABORTED t = true ∧
        b.fld F.TASK_CNT_ABORTS t = min (a.fld F.TASK_CNT_ABORTS t + 1) 65535 ∧
        b.reg .TASK_SEQ t = a.reg .TASK_SEQ t ∧ (b.task t).dl = none ∧ (b.task t).bs = none) ∧
      (act = 1 → b.le.link = a.le.link ∧ MemKept a b) ∧ (2 ≤ act → act ≤ 3 → b.le.link = safe)) := by
  have hm := a.misses_missRaised t detail
  have hothers := a.othersKept_miss t detail
  rw [Blk.miss_dueTaken] at hothers ⊢
  generalize a.missRaised t detail = m at hm hothers ⊢
  dsimp only at hothers ⊢
  have hmem : MemKept a m := hm.within.memKept
  have hregs : RegsKeptBut RecReg a m := hm.within.regs
  by_cases he : (a.task t).ended = true
  · have hne : ¬ (a.task t).ended = false := by simp [he]
    rw [if_pos he]
    exact ⟨hm.oneRecord, hm.others, fun _ => ⟨hm.task, hregs, hmem⟩, fun h => absurd h hne, fun h => absurd h hne⟩
  · rw [if_neg he] at hothers ⊢
    by_cases h2 : a.taskState t = 2
    · rw [if_pos h2] at hothers ⊢
      by_cases h0 : a.fld F.TASK_CTRL_MISS_ACTION t = 0
      · rw [if_pos h0]
        refine ⟨hm.oneRecord, hm.others, fun h => absurd h he, fun _ h => absurd h2 h, fun _ _ => ⟨fun _ => ⟨hm.task, hregs, hmem⟩,
          fun h => absurd h0 h, fun h => ?_, fun h => ?_⟩⟩
        all_goals omega
      · rw [if_neg h0] at hothers ⊢
        obtain ⟨hone, hstate, haborted, hcount, hseq, hdl, hbs, hhold, hsafe⟩ := hm.abort h2 h0
        exact ⟨hone, hothers, fun h => absurd h he, fun _ h => absurd h2 h, fun _ _ => ⟨fun h => absurd h h0,
          fun _ => ⟨hstate, haborted, hcount, hseq, hdl, hbs⟩, hhold, fun h _ => hsafe (by omega)⟩⟩
    · rw [if_neg h2] at hothers ⊢
      refine ⟨hm.oneRecord, hothers, fun h => absurd h he, fun _ _ => ⟨?_, hregs, hmem⟩, fun _ h => absurd h h2⟩
      rw [Blk.task_setTask_self, hm.task]

/-! ## Triggers -/

/-- The run that a trigger of task `t` begins (R55, R67). -/
def Blk.readied (b : Blk) (t : Nat) (g : Trigger) : TaskSt :=
  let d := b.desc t
  { (b.task t).clear with
    arrival := b.tb1, trigTb1 := g.vals.getD 1 0
    dl := if d.dlEn = true ∧ g.valid.testBit d.dlTb = true then some ((g.vals.getD d.dlTb 0 + d.dlOffset) % 2 ^ b.tbWidth d.dlTb) else none
    bs := if d.backstop = 0 then none else some (g.vals.getD 1 0 + d.backstop * 1000) }

section trigger

variable {b c : Blk} {t : Nat} {g : Trigger} (h : b.takeTrig 1 t = some (g, c))

include h

theorem Blk.regs_takeTrig : c.regs = b.regs := by rw [Blk.takeTrig_eq h]

theorem Blk.le_takeTrig : c.le = b.le := by rw [Blk.takeTrig_eq h]

theorem Blk.trig_takeTrig : c.tbu.trig = b.tbu.trig.erase g := by rw [Blk.takeTrig_eq h]

theorem Blk.within_takeTrig {R : RegName → Nat → Prop} : b.Within R c := by
  rw [Blk.takeTrig_eq h]
  exact .units (.refl b)

theorem Blk.alike_takeTrig : b.RecordsAlike c := by
  rw [Blk.takeTrig_eq h]
  exact ⟨fun _ _ _ => rfl, rfl, rfl, rfl⟩

theorem Blk.task_takeTrig (u : Nat) : c.task u = b.task u := Blk.task_congr (by rw [Blk.le_takeTrig h]) u

theorem Blk.desc_takeTrig : c.desc t = b.desc t :=
  Blk.desc_congr (by rw [Blk.takeTrig_eq h]) (Blk.reg_congr (Blk.regs_takeTrig h) ..)

/-- What a trigger taken off its way does to task `t`, by the state of the task. -/
theorem Blk.triggerArrival_eq :
    (b.taskState t = 1 → b.triggerArrival t = (c.setTask t (b.readied t g)).setFld F.TASK_STATUS_STATE t 2) ∧
    (b.taskState t = 2 ∨ b.taskState t = 3 ∨ b.taskState t = 4 →
      b.triggerArrival t = (c.addSat F.TASK_CNT_DROPPED t 1).raise (taskEng t) 0x01 0x03 (b.missData t)) ∧
    (b.taskState t ∉ [1, 2, 3, 4] → b.triggerArrival t = c) := by
  have hdesc : c.desc t = b.desc t := Blk.desc_takeTrig h
  have htask : c.task t = b.task t := Blk.task_takeTrig h t
  have hstate : c.taskState t = b.taskState t := Blk.fld_congr (Blk.regs_takeTrig h) ..
  have hdata : c.missData t = b.missData t := by
    rw [Blk.missData, Blk.missData, hdesc, htask, Blk.reg_congr (Blk.regs_takeTrig h)]
  have htb1 : c.tb1 = b.tb1 := (Blk.alike_takeTrig h).tb1
  have hwidth : ∀ n, c.tbWidth n = b.tbWidth n := fun n => by
    rw [Blk.tbWidth, Blk.tbWidth, Blk.fld_congr (Blk.regs_takeTrig h)]
  unfold Blk.triggerArrival
  rw [h]
  dsimp only
  rw [hstate, hdata]
  refine ⟨fun hs => ?_, fun hs => ?_, fun hs => ?_⟩
  · rw [hs]
    simp only [Blk.readied, hdesc, htask, htb1, hwidth, Bool.and_eq_true]
  · obtain hs | hs | hs := hs <;> simp only [hs]
  · simp only [List.mem_cons, List.not_mem_nil, or_false, not_or] at hs
    split
    case h_5 => rfl
    all_goals omega

theorem Blk.trigger_idle (hs : b.taskState t = 1) : let d := b.triggerArrival t
    d.taskState t = 2 ∧ d.task t = b.readied t g ∧ NoRecord b d ∧ d.tbu.trig = b.tbu.trig.erase g ∧ OtherTasksKept t b d ∧
      b.Within (fun r i => r = .TASK_STATUS ∧ i = t) d := by
  rw [(Blk.triggerArrival_eq h).1 hs]
  have hset : b.Within (fun r i => r = .TASK_STATUS ∧ i = t) (c.setTask t (b.readied t g)) := (Blk.within_takeTrig h).units
  have hrec : NoRecord b (c.setTask t (b.readied t g)) := (Blk.alike_takeTrig h).noRecord
  have htrig : (c.setTask t (b.readied t g)).tbu.trig = b.tbu.trig.erase g := (Blk.trig_takeTrig h :)
  have hself := c.task_setTask_self t (b.readied t g)
  have hother : OtherTasksKept t b (c.setTask t (b.readied t g)) := fun u hu =>
    (c.task_setTask_of_ne _ hu).trans (Blk.task_takeTrig h u)
  generalize c.setTask t (b.readied t g) = e at hset hrec htrig hself hother ⊢
  refine ⟨?_, (e.task_setFld ..).trans hself, ⟨(e.setFld_mod ..).trans hrec.1, (e.setFld_jrn ..).trans hrec.2⟩, ?_,
    fun u hu => (e.task_setFld ..).trans (hother u hu), hset.setFld ⟨rfl, rfl⟩⟩
  · rw [Blk.taskState, Blk.fld_setFld_self _ _ _ _ (by decide)]
    rfl
  · rw [Blk.setFld_tbu, htrig]

theorem Blk.trigger_busy (hs : b.taskState t = 2 ∨ b.taskState t = 3 ∨ b.taskState t = 4) : let d := b.triggerArrival t
    d.task t = b.task t ∧ d.fld F.TASK_CNT_DROPPED t = min (b.fld F.TASK_CNT_DROPPED t + 1) 65535 ∧
      OneRecord (taskEng t) 0x01 0x03 (b.missData t) b d ∧ d.tbu.trig = b.tbu.trig.erase g ∧ OtherTasksKept t b d ∧
      b.Within (fun r i => (r = .TASK_CNT ∧ i = t) ∨ RecReg r i) d := by
  rw [(Blk.triggerArrival_eq h).2.1 hs]
  have hin : b.Within (fun r i => r = .TASK_CNT ∧ i = t) (c.addSat F.TASK_CNT_DROPPED t 1) := (Blk.within_takeTrig h).addSat ⟨rfl, rfl⟩
  have halike : b.RecordsAlike (c.addSat F.TASK_CNT_DROPPED t 1) := by
    obtain ⟨-, hmod, hjrn, hfab⟩ := Blk.alike_takeTrig h
    exact .of_within hin (fun r i hr hc => absurd (hc.1 ▸ hr) (by decide)) ((c.addSat_mod ..).trans hmod)
      ((c.addSat_jrn ..).trans hjrn) ((c.addSat_fab ..).trans hfab)
  have hle : (c.addSat F.TASK_CNT_DROPPED t 1).le = b.le := (c.addSat_le ..).trans (Blk.le_takeTrig h)
  have htbu : (c.addSat F.TASK_CNT_DROPPED t 1).tbu.trig = b.tbu.trig.erase g :=
    (congrArg TbuSt.trig (c.addSat_tbu ..)).trans (Blk.trig_takeTrig h)
  have hcnt : (c.addSat F.TASK_CNT_DROPPED t 1).fld F.TASK_CNT_DROPPED t = min (b.fld F.TASK_CNT_DROPPED t + 1) 65535 := by
    rw [Blk.addSat, Blk.fld_setFld_self _ _ _ _ (by decide), Blk.fld_congr (Blk.regs_takeTrig h)]
    exact Nat.mod_eq_of_lt (Nat.lt_of_le_of_lt (Nat.min_le_right ..) (by decide))
  generalize c.addSat F.TASK_CNT_DROPPED t 1 = e at hin halike hle htbu hcnt ⊢
  have htask : ∀ u, (e.raise (taskEng t) 0x01 0x03 (b.missData t)).task u = b.task u := fun u =>
    Blk.task_congr (congrArg LeSt.tasks ((e.raise_le ..).trans hle)) u
  have hfld : (e.raise (taskEng t) 0x01 0x03 (b.missData t)).fld F.TASK_CNT_DROPPED t = e.fld F.TASK_CNT_DROPPED t :=
    congrArg F.TASK_CNT_DROPPED.get (e.regs_raise _ _ _ _ _ _ (by simp [RecReg]))
  refine ⟨htask t, hfld.trans hcnt, (halike.raise ..).oneRecord, ?_, fun u _ => htask u,
    (hin.mono fun _ _ => .inl).raise fun _ _ => .inr⟩
  rw [Blk.raise_tbu, htbu]

end trigger

/-- Every clause of TRIGGER_ARRIVAL, whatever the task does. -/
theorem Blk.trigger_spec {b c : Blk} {t : Nat} {g : Trigger} (h : b.takeTrig 1 t = some (g, c)) : let d := b.triggerArrival t
    (b.taskState t = 1 → d.taskState t = 2 ∧ d.task t = b.readied t g ∧ NoRecord b d ∧
      RegsKeptBut (fun r i => r = .TASK_STATUS ∧ i = t) b d) ∧
    (b.taskState t = 2 ∨ b.taskState t = 3 ∨ b.taskState t = 4 →
      d.task t = b.task t ∧ d.fld F.TASK_CNT_DROPPED t = min (b.fld F.TASK_CNT_DROPPED t + 1) 65535 ∧
      OneRecord (taskEng t) 0x01 0x03 (b.missData t) b d ∧ RegsKeptBut (fun r i => (r = .TASK_CNT ∧ i = t) ∨ RecReg r i) b d) ∧
    (b.taskState t = 0 ∨ b.taskState t = 5 → d = c) ∧
    d.tbu.trig = b.tbu.trig.erase g ∧ OtherTasksKept t b d ∧ MemKept b d := by
  by_cases h1 : b.taskState t = 1
  · obtain ⟨hstate, htask, hrec, htrig, hothers, hw⟩ := Blk.trigger_idle h h1
    refine ⟨fun _ => ⟨hstate, htask, hrec, hw.regs⟩, fun h => ?_, fun h => ?_, htrig, hothers, hw.memKept⟩ <;> omega
  · by_cases hbusy : b.taskState t = 2 ∨ b.taskState t = 3 ∨ b.taskState t = 4
    · obtain ⟨htask, hcnt, hrec, htrig, hothers, hw⟩ := Blk.trigger_busy h hbusy
      exact ⟨fun h => absurd h h1, fun _ => ⟨htask, hcnt, hrec, hw.regs⟩, fun h => by omega, htrig, hothers, hw.memKept⟩
    · have hd : b.triggerArrival t = c := (Blk.triggerArrival_eq h).2.2 (by simp; omega)
      refine ⟨fun h => absurd h h1, fun h => absurd h hbusy, fun _ => hd, ?_, ?_, ?_⟩
      · rw [hd, Blk.trig_takeTrig h]
      · rw [hd]
        exact fun u _ => Blk.task_takeTrig h u
      · rw [hd]
        exact (Blk.within_takeTrig (R := fun _ _ => False) h).memKept

/-! ## Aborts -/

theorem Blk.instanceAbort_of_marked {a : Blk} {t : Nat} (hx : (a.task t).started = true) (he : (a.task t).ended = false)
    (hm : (a.task t).mark ≠ .none) : a.instanceAbort t = (a.missNow t).abortBy t ((a.missNow t).task t).mark := by
  unfold Blk.instanceAbort
  dsimp only
  rw [Blk.when_of _ (by simp [hx, he, hm])]

theorem Blk.drainLimit_of_reached {a : Blk} {t : Nat} (h5 : a.taskState t = 5) (hdl : (a.desc t).dlEn = false)
    (hbs : (a.desc t).backstop = 0) (he : (a.task t).ended = false) (hdrain : (a.task t).drainAt + 1000000 ≤ a.tb1) :
    a.drainLimit t = a.abortBy t .drain := by
  unfold Blk.drainLimit
  dsimp only
  rw [Blk.when_of _ (by simp [h5, hdl, hbs, he, hdrain])]

/-- The abort of a marked run, behind what the last tick found due for it. -/
theorem Blk.abort_spec (a : Blk) (t : Nat) :
    let m := a.missNow t
    let mark := (m.task t).mark
    let b := m.abortBy t mark
    let safe := m.le.link ++ safeMsgs m t
    ((a.task t).due = .none → m = a) ∧
      b.fld F.TASK_CNT_ABORTS t = min (m.fld F.TASK_CNT_ABORTS t + 1) 65535 ∧
      b.flag F.TASK_STATUS_ABORTED t = true ∧ (b.task t).staged = [] ∧ (b.task t).started = false ∧ NoRecord m b ∧
      OtherTasksKept t a b ∧
      (m.taskState t ≠ 5 →
        (mark = .hold → b.taskState t = 1 ∧ b.le.link = m.le.link ∧ MemKept m b) ∧
        (mark = .safe → b.taskState t = 1 ∧ b.le.link = safe) ∧
        (mark = .safeDisable → b.taskState t = 0 ∧ b.le.link = safe)) ∧
      (m.taskState t = 5 → b.taskState t = 0 ∧
        b.le.link = (if m.fld F.TASK_CTRL_DISABLE_ACTION t = 1 ∨ mark = .safe ∨ mark = .safeDisable then safe else m.le.link)) := by
  have hnow := a.othersKept_missNow t
  have hnone : (a.task t).due = .none → a.missNow t = a := Blk.missNow_of_none
  generalize a.missNow t = m at hnow hnone ⊢
  dsimp only
  generalize (m.task t).mark = mark
  obtain ⟨⟨hstate, haborted, hcount, hclear, hlink, hrec, hothers, -⟩, hkept⟩ := m.aborts_abortBy t mark
  refine ⟨hnone, hcount, haborted, hclear.1, hclear.2.1, hrec, fun u hu => (hothers u hu).trans (hnow u hu), fun h5 => ?_, fun h5 => ?_⟩
  · refine ⟨?_, ?_, ?_⟩ <;> rintro rfl
    · have hdis : m.abortDisables t .hold = false := by simp [Blk.abortDisables, h5]
      have hsafe : m.abortSafe t .hold = false := by simp [Blk.abortSafe, h5]
      exact ⟨by simpa [hdis] using hstate, by simpa [hsafe] using hlink, hkept hsafe⟩
    · have hdis : m.abortDisables t .safe = false := by simp [Blk.abortDisables, h5]
      exact ⟨by simpa [hdis] using hstate, by simpa [Blk.abortSafe] using hlink⟩
    · exact ⟨by simpa [Blk.abortDisables] using hstate, by simpa [Blk.abortSafe] using hlink⟩
  · have hsafe : m.abortSafe t mark = true ↔ m.fld F.TASK_CTRL_DISABLE_ACTION t = 1 ∨ mark = .safe ∨ mark = .safeDisable := by
      simp [Blk.abortSafe, h5]
      tauto
    rw [apply_ite (m.le.link ++ ·), List.append_nil] at hlink
    simp only [hsafe] at hlink
    exact ⟨by simpa [Blk.abortDisables, h5] using hstate, hlink⟩

/-- Settles O18: a trigger by the state of its task, a miss by what stands of the run, an abort by its mark. -/
theorem triggersAndMissedDeadlines : Obligations.TriggersAndMissedDeadlines := by
  unfold Obligations.TriggersAndMissedDeadlines
  intro s t ha
  refine ⟨fun g b0 h => .of_live ha rfl rfl (Blk.trigger_spec h), fun detail hd => ?_, fun hd => ?_, fun hx he hm => ?_,
    fun h5 hdl hbs he hdrain => ?_⟩
  · have hmiss := s.blk.miss_spec t detail
    obtain ⟨rfl, hdue⟩ | ⟨rfl, hdue⟩ := hd
    · exact .of_live ha rfl (Blk.deadlineReached_of_due hdue) hmiss
    · exact .of_live ha rfl (Blk.backstopReached_of_due hdue) hmiss
  · refine .of_live ha rfl (Blk.backstopReached_of_drain hd) ⟨Blk.task_setTask_self .., fun u hu => Blk.task_setTask_of_ne _ _ hu,
      ⟨rfl, rfl⟩, fun _ _ => rfl, fun _ => rfl, fun _ => rfl⟩
  · exact .of_live ha rfl (Blk.instanceAbort_of_marked hx he hm) (s.blk.abort_spec t)
  · refine .of_live ha rfl (Blk.drainLimit_of_reached h5 hdl hbs he hdrain) ?_
    obtain ⟨⟨hstate, haborted, hcount, -, hlink, hrec, hothers, -⟩, -⟩ := s.blk.aborts_abortBy t .drain
    have hdis : s.blk.abortDisables t .drain = true := by simp [Blk.abortDisables]
    have hsafe : s.blk.abortSafe t .drain = decide (s.blk.fld F.TASK_CTRL_DISABLE_ACTION t = 1) := by simp [Blk.abortSafe]
    rw [hdis, if_pos rfl] at hstate
    rw [hsafe, apply_ite (s.blk.le.link ++ ·), List.append_nil] at hlink
    exact ⟨hstate, haborted, hrec, hothers, hcount, by simpa using hlink⟩

end Sys2Proof.Machine
end

section
/-!
PROOFS. TB0 as the receiver moves it (R273, R274, R275): it loses its validity and its slots are held, it goes to holdover, and it is
set to GNSS time by a step or a hold.
-/

namespace Sys2Proof.Machine

open Sys2Proof.Claims

theorem Blk.RecordsAlike.oneRecord_trans {a b c : Blk} {source cls detail data : Nat} (h : a.RecordsAlike b)
    (h' : OneRecord source cls detail data b c) : OneRecord source cls detail data a c := by
  obtain ⟨hmod, hjrn, hlatch, hq⟩ := h'
  have hr := (h.raise source cls detail data).oneRecord
  exact ⟨hmod.trans (h.raise source cls detail data).mod, hjrn.trans (h.raise source cls detail data).jrn,
    hlatch.trans ((h.raise source cls detail data).regs _ _ (by decide)), hq.trans ((h.raise source cls detail data).regs _ _ (by decide))⟩

/-! ## Slots of a timebase that is no longer valid (R47) -/

theorem SMap.mem_put_of_ne {κ α : Type} [DecidableEq κ] [DecidableEq α] {lt : κ → κ → Bool} {m : SMap κ α} {k : κ} {v d : α}
    {e : κ × α} (he : e ∈ m) (h : e.1 ≠ k) : e ∈ SMap.put lt m k v d := by
  have herase : e ∈ SMap.erase m k := by
    induction m with
    | nil => cases he
    | cons x m ih =>
      obtain rfl | he := List.mem_cons.mp he
      · simp [SMap.erase, h]
      · rw [SMap.erase]
        split
        exacts [ih he, .tail _ (ih he)]
  have hinsert : ∀ l : SMap κ α, e ∈ l → e ∈ SMap.insert lt l k v := by
    intro l
    induction l with
    | nil => exact fun h => nomatch h
    | cons x l ih =>
      intro he
      rw [SMap.insert]
      split
      · exact .tail _ he
      · obtain rfl | he := List.mem_cons.mp he
        exacts [.head _, .tail _ (ih he)]
  unfold SMap.put
  split
  exacts [herase, hinsert _ herase]

theorem Blk.mem_enabledSlots_setReg {b : Blk} {r : RegName} {i k : Nat} {v : Word} (hr : r ≠ .SLOT_CTRL) (hk : k ∈ b.enabledSlots) :
    k ∈ (b.setReg r i v).enabledSlots := by
  obtain ⟨e, he, hen⟩ := List.mem_filterMap.mp hk
  refine List.mem_filterMap.mpr ⟨e, SMap.mem_put_of_ne he fun hc => ?_, hen⟩
  split at hen
  case isTrue h => exact hr ((congrArg Prod.fst hc).symm.trans h.1)
  case isFalse => cases hen

/-- Slot `k` is held because its timebase is not valid. -/
def Blk.SlotHeld (b : Blk) (k : Nat) : Prop := b.flag F.SLOT_STATUS_ARMED k = false ∧ b.flag F.SLOT_STATUS_HELD_INVALID k = true

/-- The block with slot `k` held because its timebase is not valid. -/
def Blk.holdSlot (b : Blk) (k : Nat) : Blk := ((b.dropLate k).setFld F.SLOT_STATUS_ARMED k 0).setFld F.SLOT_STATUS_HELD_INVALID k 1

/-- From `a` to `b` only the status of slots changes, and the list of those that fire late. -/
structure Blk.SlotsOnly (a b : Blk) : Prop where
  regs : RegsKeptBut (fun r _ => r = .SLOT_STATUS) a b
  rest : { a with regs := b.regs, tbu := { a.tbu with lateArm := b.tbu.lateArm } } = b

theorem Blk.SlotsOnly.refl (b : Blk) : b.SlotsOnly b := ⟨fun _ _ _ => rfl, rfl⟩

theorem Blk.SlotsOnly.trans {a b c : Blk} (h : a.SlotsOnly b) (h' : b.SlotsOnly c) : a.SlotsOnly c :=
  ⟨h.regs.trans h'.regs, by rw [← h'.rest, ← h.rest]⟩

theorem Blk.SlotsOnly.fld {a b : Blk} (h : a.SlotsOnly b) {f : Fld} (hf : f.reg ≠ .SLOT_STATUS) (i : Nat) : b.fld f i = a.fld f i :=
  congrArg f.get (h.regs _ _ hf)

theorem Blk.slotsOnly_setFld (b : Blk) {f : Fld} (i v : Nat) (hf : f.reg = .SLOT_STATUS) : b.SlotsOnly (b.setFld f i v) :=
  ⟨.setFld b v hf, rfl⟩

theorem Blk.slotsOnly_holdSlot (b : Blk) (k : Nat) : b.SlotsOnly (b.holdSlot k) :=
  .trans (b := b.dropLate k) ⟨fun _ _ _ => rfl, rfl⟩ ((Blk.slotsOnly_setFld _ k 0 rfl).trans (Blk.slotsOnly_setFld _ k 1 rfl))

theorem Blk.slotHeld_holdSlot (b : Blk) (k : Nat) : (b.holdSlot k).SlotHeld k := by
  refine ⟨?_, Blk.flag_setFld_one _ _ _ (by decide) (by decide)⟩
  rw [Blk.holdSlot, Blk.flag_setFld_of_apart _ _ _ (by decide) (by decide), Blk.flag_setFld_zero _ _ _ (by decide) (by decide)]

theorem Blk.SlotHeld.holdSlot {b : Blk} {k : Nat} (h : b.SlotHeld k) (j : Nat) : (b.holdSlot j).SlotHeld k := by
  by_cases hj : k = j
  · subst hj
    exact b.slotHeld_holdSlot k
  · have hreg : (b.holdSlot j).reg .SLOT_STATUS k = b.reg .SLOT_STATUS k :=
      (Blk.reg_setFld_index _ _ _ hj).trans (Blk.reg_setFld_index _ _ _ hj)
    exact ⟨(Blk.flag_congr hreg).trans h.1, (Blk.flag_congr hreg).trans h.2⟩

/-- Where TB0 alone loses its validity, the change holds the slots of the list that are on TB0 and leaves all else. -/
theorem Blk.validChange_lost {old new : Nat} (hnew : ∀ n, new.testBit n = (old.testBit n && decide (n ≠ 0))) (l : List Nat) (b : Blk) :
    b.SlotsOnly (b.validChange old new l) ∧ (∀ k, b.SlotHeld k → (b.validChange old new l).SlotHeld k) ∧
      (old.testBit 0 = true → ∀ k ∈ l, b.fld F.SLOT_CTRL_TB k = 0 → (b.validChange old new l).SlotHeld k) := by
  induction l generalizing b with
  | nil => exact ⟨.refl b, fun _ h => h, fun _ _ h => nomatch h⟩
  | cons s l ih =>
    have hstep : b.validChange old new (s :: l) =
        (if old.testBit 0 = true ∧ b.fld F.SLOT_CTRL_TB s = 0 then b.holdSlot s else b).validChange old new l := by
      by_cases ht : b.fld F.SLOT_CTRL_TB s = 0
      · cases ho : old.testBit 0 <;> simp [Blk.validChange, hnew, ht, ho, Blk.holdSlot]
      · simp [Blk.validChange, hnew, ht]
    rw [hstep]
    split
    case isTrue hs =>
      obtain ⟨hrest, hkeep, hheld⟩ := ih (b.holdSlot s)
      have honly := b.slotsOnly_holdSlot s
      refine ⟨honly.trans hrest, fun k hk => hkeep k (hk.holdSlot s), fun ho k hk htb => ?_⟩
      obtain rfl | hk := List.mem_cons.mp hk
      · exact hkeep k (b.slotHeld_holdSlot k)
      · exact hheld ho k hk ((honly.fld (by decide) k).trans htb)
    case isFalse hs =>
      obtain ⟨hrest, hkeep, hheld⟩ := ih b
      refine ⟨hrest, hkeep, fun ho k hk htb => ?_⟩
      obtain rfl | hk := List.mem_cons.mp hk
      · exact absurd ⟨ho, htb⟩ hs
      · exact hheld ho k hk htb

/-! ## TB0 is no longer valid -/

/-- From `a` to `b` TB0 has lost its validity: its slots are held, and beside TBU_STATUS and their status nothing changes. -/
structure Blk.LosesTb0 (a b : Blk) : Prop where
  invalid : b.tbValid 0 = false
  others : ∀ n, 0 < n → b.tbValid n = a.tbValid n
  slots : a.tbValid 0 = true → ∀ k ∈ a.enabledSlots, a.fld F.SLOT_CTRL_TB k = 0 → b.SlotHeld k
  within : a.Within (fun r i => (i = 0 ∧ r = .TBU_STATUS) ∨ r = .SLOT_STATUS) b
  rest : { a with regs := b.regs, tbu := { a.tbu with lateArm := b.tbu.lateArm } } = b

theorem testBit_sub_mod_two (old n : Nat) : (old - old % 2).testBit n = (old.testBit n && decide (n ≠ 0)) := by
  have h : old - old % 2 = old / 2 * 2 := by omega
  rw [h]
  cases n with
  | zero => simp [Nat.testBit_zero]
  | succ n => simp [Nat.testBit_succ]

theorem Blk.losesTb0_tb0Invalid (a : Blk) : a.LosesTb0 a.tb0Invalid := by
  have hlt : a.fld F.TBU_STATUS_TB_VALID 0 < 2 ^ 16 := Nat.mod_lt _ (by decide)
  have hold : ∀ n, a.tbValid n = (a.fld F.TBU_STATUS_TB_VALID 0).testBit n := fun _ => rfl
  unfold Blk.tb0Invalid
  generalize a.fld F.TBU_STATUS_TB_VALID 0 = old at hlt hold ⊢
  have hbits := testBit_sub_mod_two old
  have hle : old - old % 2 ≤ old := Nat.sub_le ..
  dsimp only
  generalize old - old % 2 = new at hbits hle ⊢
  have hset : (a.setFld F.TBU_STATUS_TB_VALID 0 new).fld F.TBU_STATUS_TB_VALID 0 = new := by
    rw [Blk.fld_setFld_self _ _ _ _ (by decide)]
    exact Nat.mod_eq_of_lt (Nat.lt_of_le_of_lt hle hlt)
  have htb : ∀ k, (a.setFld F.TBU_STATUS_TB_VALID 0 new).fld F.SLOT_CTRL_TB k = a.fld F.SLOT_CTRL_TB k := fun k =>
    a.fld_setFld_name _ _ _ (by decide)
  have hwithin : a.Within (fun r i => (i = 0 ∧ r = .TBU_STATUS) ∨ r = .SLOT_STATUS) (a.setFld F.TBU_STATUS_TB_VALID 0 new) :=
    (Blk.Within.refl a).setFld (.inl ⟨rfl, rfl⟩)
  have hrest : ∀ f i v, { a with regs := (a.setFld f i v).regs } = a.setFld f i v := fun _ _ _ => rfl
  specialize hrest F.TBU_STATUS_TB_VALID 0 new
  generalize a.setFld F.TBU_STATUS_TB_VALID 0 new = b at *
  obtain ⟨honly, -, hheld⟩ := Blk.validChange_lost hbits a.enabledSlots b
  generalize b.validChange old new a.enabledSlots = c at *
  have hvalid : ∀ n, c.tbValid n = (a.tbValid n && decide (n ≠ 0)) := fun n => by
    rw [Blk.tbValid, honly.fld (by decide), hset, hold, hbits]
  refine ⟨by simp [hvalid], fun n hn => ?_, fun hv k hk ht => hheld ((hold 0).symm.trans hv) k hk ((htb k).trans ht), hwithin.trans
    ⟨fun r i hr => honly.regs r i fun e => hr (.inr e), ?_, ?_⟩, ?_⟩
  · rw [hvalid, decide_eq_true (by omega), Bool.and_true]
  · rw [← honly.rest]
  · rw [← honly.rest]
  · rw [← honly.rest, ← hrest]

theorem Blk.LosesTb0.alike {a b : Blk} (h : a.LosesTb0 b) : a.RecordsAlike b := by
  refine .of_within h.within (fun r i hr hc => ?_) ?_ ?_ ?_
  · obtain ⟨-, rfl⟩ | rfl := hc <;> exact absurd hr (by decide)
  all_goals rw [← h.rest]

/-! ## TB0 is set to GNSS time -/

/-- From `a` to `b` TB0 is set to GNSS time `g`: by a step on the next tick where it lies behind, and else by a hold. -/
def Blk.Reaches (g : Nat) (a b : Blk) : Prop :=
  (a.tb 0 ≤ g → b.tbu.tb0Jump = some g ∧ b.tbu.tb0Hold = none) ∧ (g < a.tb 0 → b.tbu.tb0Hold = some g ∧ b.tbu.tb0Jump = none)

theorem Blk.tb0Reach_spec (b : Blk) (g : Nat) : let c := b.tb0Reach g
    b.Reaches g c ∧ c.regs = b.regs ∧ c.gnss = b.gnss ∧ NoRecord b c ∧ c.mem = b.mem ∧ c.otp = b.otp ∧
      c.tbu.tb0Err = b.tbu.tb0Err := by
  unfold Blk.tb0Reach
  split
  case isTrue h => exact ⟨⟨fun _ => ⟨rfl, rfl⟩, fun h' => by omega⟩, rfl, rfl, ⟨rfl, rfl⟩, rfl, rfl, rfl⟩
  case isFalse h => exact ⟨⟨fun h' => absurd h' h, fun _ => ⟨rfl, rfl⟩⟩, rfl, rfl, ⟨rfl, rfl⟩, rfl, rfl, rfl⟩

end Sys2Proof.Machine
end

section
/-!
PROOFS. The commands that move TB0 between its states: lock, loss, limit and return (R273, R274, R275).
-/

namespace Sys2Proof.Machine

open Sys2Proof.Claims

/-- From `a` to `b` nothing but registers change. -/
def Blk.RegsOnly (a b : Blk) : Prop := { a with regs := b.regs } = b

theorem Blk.RegsOnly.refl (b : Blk) : b.RegsOnly b := rfl

theorem Blk.RegsOnly.trans {a b c : Blk} (h : a.RegsOnly b) (h' : b.RegsOnly c) : a.RegsOnly c := by
  unfold Blk.RegsOnly at *
  rw [← h', ← h]

theorem Blk.RegsOnly.setReg {a b : Blk} (h : a.RegsOnly b) (r : RegName) (i : Nat) (v : Word) : a.RegsOnly (b.setReg r i v) :=
  h.trans rfl

theorem Blk.RegsOnly.setFld {a b : Blk} (h : a.RegsOnly b) (f : Fld) (i v : Nat) : a.RegsOnly (b.setFld f i v) := h.setReg ..

theorem Blk.RegsOnly.noRecord {a b : Blk} (h : a.RegsOnly b) : NoRecord a b := by
  unfold Blk.RegsOnly at h
  rw [← h]
  exact ⟨rfl, rfl⟩

/-- A record depends on the registers that it is made of, and not on the rest of what a command of the receiver changes. -/
theorem Blk.RegsOnly.alike {a b : Blk} (h : a.RegsOnly b) {R : RegName → Nat → Prop} (hw : a.Within R b)
    (hR : ∀ r i, r ∈ recordInputs → ¬ R r i) : a.RecordsAlike b := by
  have hu := h
  unfold Blk.RegsOnly at hu
  refine .of_within hw hR ?_ ?_ ?_ <;> rw [← hu]

theorem Blk.RegsOnly.gnss {a b : Blk} (h : a.RegsOnly b) : b.gnss = a.gnss := by
  unfold Blk.RegsOnly at h
  rw [← h]

theorem Blk.RegsOnly.tbu {a b : Blk} (h : a.RegsOnly b) : b.tbu = a.tbu := by
  unfold Blk.RegsOnly at h
  rw [← h]

/-- The state of TB0 (R273). -/
def Blk.timeState (b : Blk) : Nat := b.fld F.GNSS_STATUS_TIME_STATE 0

/-! ## Holdover -/

theorem Fld.get_ofNat_low (n : Nat) (hn : n < 2 ^ 16) : F.GNSS_HOLD_STAT_HOLD_ERR.get (BitVec.ofNat 32 n) = n ∧
    F.GNSS_HOLD_STAT_HOLD_S.get (BitVec.ofNat 32 n) = 0 := by
  have hw : (BitVec.ofNat 32 n).toNat = n := by
    rw [BitVec.toNat_ofNat]
    exact Nat.mod_eq_of_lt (by omega)
  simp only [Fld.get, hw]
  norm_num at hn ⊢
  omega

/-- From `a` to `b` TB0 goes to holdover with `err` ns of error. -/
def Blk.EntersHoldover (err : Nat) (a b : Blk) : Prop := b.timeState = 2 ∧ b.fld F.GNSS_HOLD_STAT_HOLD_ERR 0 = min err 65535 ∧
  b.fld F.GNSS_HOLD_STAT_HOLD_S 0 = 0 ∧ b.gnss.holdAt = a.tb1 ∧ b.tbu.tb0Hold = none ∧ b.tbu.tb0Jump = none ∧
  b.gnss.timeAt = none ∧ b.tbValid 0 = a.tbValid 0 ∧
  OneRecord 536 0x0B 0x01 (min ((a.tb1 - a.gnss.lockAt) / 1000000000) 0xFFFFFFFF) a b

/-- The same on a block with the same time, states and slots. -/
theorem Blk.EntersHoldover.of_alike {a b c : Blk} {err : Nat} (h : b.EntersHoldover err c) (halike : a.RecordsAlike b)
    (hlock : b.gnss.lockAt = a.gnss.lockAt) (hvalid : b.tbValid 0 = a.tbValid 0) : a.EntersHoldover err c := by
  obtain ⟨hstate, herr, hs, hat, hhold, hjump, htime, htb, hone⟩ := h
  rw [halike.tb1] at hat hone
  rw [hlock] at hone
  exact ⟨hstate, herr, hs, hat, hhold, hjump, htime, htb.trans hvalid, halike.oneRecord_trans hone⟩

/-- From `a` to `b` a return that is under way is withdrawn. -/
def Blk.ReturnEnds (a b : Blk) : Prop := b.timeState = a.timeState ∧ NoRecord a b ∧
  (a.timeState = 2 → b.tbu = { a.tbu with tb0Hold := none, tb0Jump := none }) ∧ (a.timeState ≠ 2 → b.tbu = a.tbu)

/-- TB0 in holdover, before the record is raised. -/
def Blk.heldOver (b : Blk) (err : Nat) : Blk :=
  ({ b with
    gnss := { b.gnss with holdAt := b.tb1, lockNs := b.tb1 - b.gnss.lockAt },
    tbu := { b.tbu with tb0Hold := none, tb0Jump := none, tb0Drift := b.tbu.tb0Err } }.setFld F.GNSS_STATUS_TIME_STATE 0 2).setReg
      .GNSS_HOLD_STAT 0 (BitVec.ofNat 32 (min err 65535))

/-- The registers of holdover. -/
def HoldReg (r : RegName) (i : Nat) : Prop := i = 0 ∧ r ∈ [RegName.GNSS_STATUS, .GNSS_HOLD_STAT]

theorem HoldReg.not_input {r : RegName} {i : Nat} (h : r ∈ recordInputs) : ¬ HoldReg r i := fun hc => by
  obtain ⟨-, hr⟩ := hc
  revert h hr
  simp only [recordInputs, List.mem_cons, List.not_mem_nil, or_false]
  rintro (rfl | rfl | rfl | rfl | rfl | rfl | rfl | rfl | rfl) (h | h) <;> cases h

theorem Blk.heldOver_spec (b : Blk) (err : Nat) : let c := b.heldOver err
    c.timeState = 2 ∧ c.reg .GNSS_HOLD_STAT 0 = BitVec.ofNat 32 (min err 65535) ∧ b.Within HoldReg c ∧ b.RecordsAlike c ∧
      c.gnss = { b.gnss with holdAt := b.tb1, lockNs := b.tb1 - b.gnss.lockAt } ∧
      c.tbu = { b.tbu with tb0Hold := none, tb0Jump := none, tb0Drift := b.tbu.tb0Err } := by
  unfold Blk.heldOver
  have hin : ∀ g u, b.RecordsAlike { b with gnss := g, tbu := u } ∧ b.Within HoldReg { b with gnss := g, tbu := u } ∧
      ({ b with gnss := g, tbu := u } : Blk).gnss = g ∧ ({ b with gnss := g, tbu := u } : Blk).tbu = u := fun _ _ =>
    ⟨⟨fun _ _ _ => rfl, rfl, rfl, rfl⟩, .of_same rfl rfl rfl, rfl, rfl⟩
  generalize ({ b.gnss with holdAt := b.tb1, lockNs := b.tb1 - b.gnss.lockAt } : GnssSt) = g
  generalize ({ b.tbu with tb0Hold := none, tb0Jump := none, tb0Drift := b.tbu.tb0Err } : TbuSt) = u
  obtain ⟨halike, hin, hg, hu⟩ := hin g u
  generalize ({ b with gnss := g, tbu := u } : Blk) = d at *
  have honly := ((Blk.RegsOnly.refl d).setFld F.GNSS_STATUS_TIME_STATE 0 2).setReg .GNSS_HOLD_STAT 0
    (BitVec.ofNat 32 (min err 65535))
  have hw : d.Within HoldReg ((d.setFld F.GNSS_STATUS_TIME_STATE 0 2).setReg .GNSS_HOLD_STAT 0 (BitVec.ofNat 32 (min err 65535))) :=
    ((Blk.Within.refl d).setFld ⟨rfl, by decide⟩).setReg ⟨rfl, by decide⟩
  refine ⟨?_, Blk.reg_setReg_self .., hin.trans hw, halike.trans (honly.alike hw fun r i hr => HoldReg.not_input hr),
    honly.gnss.trans hg, honly.tbu.trans hu⟩
  rw [Blk.timeState, Blk.fld, Blk.reg_setReg_name _ _ _ _ (by decide)]
  exact d.fld_setFld_self F.GNSS_STATUS_TIME_STATE 0 2 (by decide)

theorem Blk.toHoldover_eq (b : Blk) (err : Nat) : b.toHoldover err =
    (b.heldOver err).raise 536 0x0B 0x01 (min ((b.tb1 - b.gnss.lockAt) / 1000000000) 0xFFFFFFFF) := by
  obtain ⟨-, -, -, halike, hg, -⟩ := b.heldOver_spec err
  have hd : b.toHoldover err = (b.heldOver err).raise 536 0x0B 0x01
      (min (((b.heldOver err).tb1 - (b.heldOver err).gnss.lockAt) / 1000000000) 0xFFFFFFFF) := by
    rw [Blk.toHoldover, Blk.heldOver]
  rw [hd, halike.tb1, hg]

theorem Blk.toHoldover_spec (b : Blk) (err : Nat) : let c := b.toHoldover err
    (b.gnss.timeAt = none → b.EntersHoldover err c) ∧ b.Within (fun r i => HoldReg r i ∨ RecReg r i) c ∧
      c.gnss = { b.gnss with holdAt := b.tb1, lockNs := b.tb1 - b.gnss.lockAt } := by
  rw [Blk.toHoldover_eq]
  obtain ⟨hstate, hstat, hwithin, halike, hg, hu⟩ := b.heldOver_spec err
  obtain ⟨herr, hs⟩ := Fld.get_ofNat_low (min err 65535) (Nat.lt_of_le_of_lt (Nat.min_le_right ..) (by decide))
  generalize b.heldOver err = h at *
  generalize hdata : min ((b.tb1 - b.gnss.lockAt) / 1000000000) 0xFFFFFFFF = data
  have hone : OneRecord 536 0x0B 0x01 data b (h.raise 536 0x0B 0x01 data) := (halike.raise ..).oneRecord
  have hregs : ∀ r i, ¬ RecReg r i → (h.raise 536 0x0B 0x01 data).reg r i = h.reg r i := h.regs_raise 536 0x0B 0x01 data
  have hw : b.Within (fun r i => HoldReg r i ∨ RecReg r i) (h.raise 536 0x0B 0x01 data) :=
    (hwithin.mono fun _ _ => .inl).raise fun _ _ => .inr
  have hgnss := (h.raise_gnss 536 0x0B 0x01 data).trans hg
  have htbu := (h.raise_tbu 536 0x0B 0x01 data).trans hu
  generalize h.raise 536 0x0B 0x01 data = c at *
  have hst : c.reg .GNSS_HOLD_STAT 0 = BitVec.ofNat 32 (min err 65535) := (hregs _ _ (by simp [RecReg])).trans hstat
  refine ⟨fun hn => ⟨(congrArg F.GNSS_STATUS_TIME_STATE.get (hregs _ _ (by simp [RecReg]))).trans hstate,
    (congrArg F.GNSS_HOLD_STAT_HOLD_ERR.get hst).trans herr, (congrArg F.GNSS_HOLD_STAT_HOLD_S.get hst).trans hs, by rw [hgnss],
    by rw [htbu], by rw [htbu], by rw [hgnss]; exact hn, ?_, hdata ▸ hone⟩, hw, hgnss⟩
  rw [Blk.tbValid, Blk.tbValid, hw.fld _ _ (by simp [HoldReg, RecReg])]

/-- What the loss of the timing does to TB0 (R274). -/
theorem Blk.timeLost_spec (a : Blk) (err : Nat) : let b := a.timeLost err
    (a.timeState = 1 → a.EntersHoldover err b ∧ a.Within (fun r i => HoldReg r i ∨ RecReg r i) b) ∧
      (a.timeState ≠ 1 → a.ReturnEnds b ∧ b.regs = a.regs) ∧ MemKept a b ∧ b.gnss.chans = a.gnss.chans := by
  obtain ⟨hhold, hw, hg⟩ := Blk.toHoldover_spec { a with gnss := { a.gnss with timeAt := none } } err
  have heq : a.timeLost err = if a.timeState = 1 then ({ a with gnss := { a.gnss with timeAt := none } } : Blk).toHoldover err
      else if a.timeState = 2 then ({ a with gnss := { a.gnss with timeAt := none } } : Blk).tb0Free
      else { a with gnss := { a.gnss with timeAt := none } } := rfl
  rw [heq]
  by_cases h1 : a.timeState = 1
  · rw [if_pos h1]
    have hw : a.Within (fun r i => HoldReg r i ∨ RecReg r i) _ := (Blk.Within.refl a).units.trans hw
    exact ⟨fun _ => ⟨(hhold rfl).of_alike ⟨fun _ _ _ => rfl, rfl, rfl, rfl⟩ rfl rfl, hw⟩, fun h => absurd h1 h, hw.memKept, by rw [hg]⟩
  · rw [if_neg h1]
    by_cases h2 : a.timeState = 2
    · rw [if_pos h2]
      exact ⟨fun h => absurd h h1, fun _ => ⟨⟨rfl, ⟨rfl, rfl⟩, fun _ => rfl, fun h => absurd h2 h⟩, rfl⟩,
        ⟨fun _ => rfl, fun _ => rfl⟩, rfl⟩
    · rw [if_neg h2]
      exact ⟨fun h => absurd h h1, fun _ => ⟨⟨rfl, ⟨rfl, rfl⟩, fun h => absurd h h2, fun _ => rfl⟩, rfl⟩,
        ⟨fun _ => rfl, fun _ => rfl⟩, rfl⟩

/-! ## Lock -/

theorem Blk.timeLock_spec (a : Blk) (g : Nat) :
    let b := ({ a with gnss := { a.gnss with lockAt := a.tb1 } }.setFld F.GNSS_STATUS_TIME_STATE 0 1).tb0Reach g
    b.timeState = 1 ∧ b.gnss = { a.gnss with lockAt := a.tb1 } ∧ a.Reaches g b ∧ NoRecord a b ∧
      a.Within (fun r i => i = 0 ∧ r ∈ [RegName.GNSS_STATUS]) b := by
  have hin : a.Within (fun r i => i = 0 ∧ r ∈ [RegName.GNSS_STATUS]) { a with gnss := { a.gnss with lockAt := a.tb1 } } :=
    (Blk.Within.refl a).units
  have hrec0 : NoRecord a { a with gnss := { a.gnss with lockAt := a.tb1 } } := ⟨rfl, rfl⟩
  have hg : ({ a with gnss := { a.gnss with lockAt := a.tb1 } } : Blk).gnss = { a.gnss with lockAt := a.tb1 } := rfl
  generalize ({ a with gnss := { a.gnss with lockAt := a.tb1 } } : Blk) = c at hin hrec0 hg ⊢
  have hstate : (c.setFld F.GNSS_STATUS_TIME_STATE 0 1).timeState = 1 := by
    rw [Blk.timeState, Blk.fld_setFld_self _ _ _ _ (by decide)]
    rfl
  have hw : a.Within (fun r i => i = 0 ∧ r ∈ [RegName.GNSS_STATUS]) (c.setFld F.GNSS_STATUS_TIME_STATE 0 1) :=
    hin.setFld ⟨rfl, .head _⟩
  have hmod := (c.setFld_mod F.GNSS_STATUS_TIME_STATE 0 1).trans hrec0.1
  have hjrn := (c.setFld_jrn F.GNSS_STATUS_TIME_STATE 0 1).trans hrec0.2
  have hgnss := (c.setFld_gnss F.GNSS_STATUS_TIME_STATE 0 1).trans hg
  generalize c.setFld F.GNSS_STATUS_TIME_STATE 0 1 = d at *
  obtain ⟨hreach, hregs, hkept, hrec, hmem, hotp, -⟩ := d.tb0Reach_spec g
  have htb : d.tb 0 = a.tb 0 := hw.reg64 (by simp) (by simp)
  rw [Blk.Reaches, htb] at hreach
  generalize d.tb0Reach g = e at *
  exact ⟨(Blk.fld_congr hregs ..).trans hstate, hkept.trans hgnss, hreach, ⟨hrec.1.trans hmod, hrec.2.trans hjrn⟩,
    hw.trans (.of_same hregs hmem hotp)⟩

theorem timeLock_completes (s : State) (since g t : Nat) (hr : s.blk.gnssRuns = true) (h0 : s.blk.timeState = 0)
    (ht : s.blk.gnss.timeAt = some t) (hs : t ≤ since) (h10 : since + 10000000000 ≤ s.blk.tb1) :
    Completes (.timeLock since g) s fun b => b.timeState = 1 ∧ b.gnss = { s.blk.gnss with lockAt := s.blk.tb1 } ∧
      s.blk.Reaches g b ∧ NoRecord s.blk b ∧ RegsKeptBut (fun r i => i = 0 ∧ r ∈ [RegName.GNSS_STATUS]) s.blk b ∧ MemKept s.blk b := by
  obtain ⟨hstate, hg, hreach, hrec, hw⟩ := s.blk.timeLock_spec g
  refine .of_run (f := fun b => b.timeLock since g) rfl ?_ ⟨hstate, hg, hreach, hrec, hw.regs, hw.memKept⟩
  have h0 : s.blk.fld F.GNSS_STATUS_TIME_STATE 0 = 0 := h0
  unfold Blk.timeLock
  rw [Blk.when_of _ (by simp [hr, h0, ht, hs, h10])]

/-! ## The limit of holdover, and the return of lock -/

/-- From `a` to `b` TB0 is lost, and its slots are held. -/
def Blk.Tb0Lost (a b : Blk) : Prop := b.tbValid 0 = false ∧ (∀ n, 0 < n → b.tbValid n = a.tbValid n) ∧
  (a.tbValid 0 = true → ∀ k ∈ a.enabledSlots, a.fld F.SLOT_CTRL_TB k = 0 → b.SlotHeld k) ∧
  RegsKeptBut (fun r i => (i = 0 ∧ r ∈ [.GNSS_STATUS, .GNSS_HOLD_STAT, .TBU_STATUS]) ∨ r = .SLOT_STATUS ∨ RecReg r i) a b ∧ MemKept a b

/-- TB0 is lost where it loses its validity between writes of the registers of holdover and a record. -/
theorem Blk.LosesTb0.lost {a b c d : Blk} (h : c.LosesTb0 d) (hc : a.Within HoldReg c) (hslots : ∀ k ∈ a.enabledSlots, k ∈ c.enabledSlots)
    (hb : d.Within (fun r i => HoldReg r i ∨ RecReg r i) b) : a.Tb0Lost b := by
  have hfirst : ∀ f i, f.reg ≠ .GNSS_STATUS ∧ f.reg ≠ .GNSS_HOLD_STAT → c.fld f i = a.fld f i := fun f i hf =>
    hc.fld f i fun hr => by
      obtain ⟨-, hr⟩ := hr
      simp only [List.mem_cons, List.not_mem_nil, or_false] at hr
      exact hr.elim hf.1 hf.2
  have hlast : ∀ f i, f.reg ∉ [RegName.GNSS_STATUS, .GNSS_HOLD_STAT, .SYS_FAULT_LATCH, .FAB_FLTQ] → b.fld f i = d.fld f i := fun f i hf =>
    hb.fld f i fun hr => hf (by
      simp only [HoldReg, RecReg, List.mem_cons, List.not_mem_nil, or_false] at hr ⊢
      tauto)
  have hvalid : ∀ n, c.tbValid n = a.tbValid n := fun n => by rw [Blk.tbValid, Blk.tbValid, hfirst _ _ (by decide)]
  have hkept : ∀ n, b.tbValid n = d.tbValid n := fun n => by rw [Blk.tbValid, Blk.tbValid, hlast _ _ (by decide)]
  have hw : a.Within (fun r i => (i = 0 ∧ r ∈ [.GNSS_STATUS, .GNSS_HOLD_STAT, .TBU_STATUS]) ∨ r = .SLOT_STATUS ∨ RecReg r i) b := by
    have hhold : ∀ r i, HoldReg r i → i = 0 ∧ r ∈ [RegName.GNSS_STATUS, .GNSS_HOLD_STAT, .TBU_STATUS] := fun r i hr =>
      ⟨hr.1, List.mem_append_left [RegName.TBU_STATUS] hr.2⟩
    refine ((hc.mono fun r i hr => .inl (hhold r i hr)).trans (h.within.mono fun r i hr => ?_)).trans (hb.mono fun r i hr => ?_)
    · obtain ⟨hi, rfl⟩ | hr := hr
      exacts [.inl ⟨hi, by decide⟩, .inr (.inl hr)]
    · exact hr.imp (hhold r i) .inr
  refine ⟨(hkept 0).trans h.invalid, fun n hn => (hkept n).trans ((h.others n hn).trans (hvalid n)), fun hv k hk htb => ?_, hw.regs,
    hw.memKept⟩
  obtain ⟨harmed, hheld⟩ := h.slots ((hvalid 0).trans hv) k (hslots k hk) ((hfirst _ _ (by decide)).trans htb)
  exact ⟨(congrArg (· != 0) (hlast F.SLOT_STATUS_ARMED k (by decide))).trans harmed,
    (congrArg (· != 0) (hlast F.SLOT_STATUS_HELD_INVALID k (by decide))).trans hheld⟩

theorem Blk.holdS_congr {a b : Blk} (htb : b.tb1 = a.tb1) (hat : b.gnss.holdAt = a.gnss.holdAt) : b.holdS = a.holdS := by
  rw [Blk.holdS, Blk.holdS, htb, hat]

/-- GNSS_HOLD_STAT shows the time in holdover and, where it is estimated, the error. -/
def Blk.holdShown (a : Blk) (err : Option Nat) : Blk :=
  (match err with
    | some e => a.setFld F.GNSS_HOLD_STAT_HOLD_ERR 0 (min e 65535)
    | none => a).setFld F.GNSS_HOLD_STAT_HOLD_S 0 a.holdS

theorem Blk.holdShown_spec (a : Blk) (err : Option Nat) : let b := a.holdShown err
    (∀ e, err = some e → b.fld F.GNSS_HOLD_STAT_HOLD_ERR 0 = min e 65535) ∧ b.fld F.GNSS_HOLD_STAT_HOLD_S 0 = a.holdS ∧
      a.RegsOnly b ∧ a.Within (fun r i => i = 0 ∧ r ∈ [RegName.GNSS_HOLD_STAT]) b ∧ (∀ k ∈ a.enabledSlots, k ∈ b.enabledSlots) := by
  unfold Blk.holdShown
  have hs : a.holdS % 2 ^ F.GNSS_HOLD_STAT_HOLD_S.w = a.holdS :=
    Nat.mod_eq_of_lt (Nat.lt_of_le_of_lt (Nat.min_le_left ..) (by decide))
  cases err with
  | none =>
    refine ⟨fun e he => (nomatch he), (Blk.fld_setFld_self _ _ _ _ (by decide)).trans hs, (Blk.RegsOnly.refl a).setFld ..,
      (Blk.Within.refl a).setFld ⟨rfl, .head _⟩, fun k hk => Blk.mem_enabledSlots_setReg (by decide) hk⟩
  | some e =>
    refine ⟨fun e' he => ?_, (Blk.fld_setFld_self _ _ _ _ (by decide)).trans hs, ((Blk.RegsOnly.refl a).setFld ..).setFld ..,
      ((Blk.Within.refl a).setFld ⟨rfl, .head _⟩).setFld ⟨rfl, .head _⟩,
      fun k hk => Blk.mem_enabledSlots_setReg (by decide) (Blk.mem_enabledSlots_setReg (by decide) hk)⟩
    obtain rfl := Option.some.inj he
    rw [Blk.fld_setFld_of_apart _ _ _ (by decide) (by decide), Blk.fld_setFld_self _ _ _ _ (by decide)]
    exact Nat.mod_eq_of_lt (Nat.lt_of_le_of_lt (Nat.min_le_right ..) (by decide))

theorem holdoverEntry_completes (s : State) (err : Nat) (hr : s.blk.gnssOn = true) : Completes (.holdoverEntry err) s fun b =>
    (s.blk.timeState = 1 → s.blk.EntersHoldover err b ∧
      RegsKeptBut (fun r i => (i = 0 ∧ r ∈ [.GNSS_STATUS, .GNSS_HOLD_STAT]) ∨ RecReg r i) s.blk b) ∧
    (s.blk.timeState ≠ 1 → s.blk.ReturnEnds b ∧ RegsKept s.blk b) ∧ MemKept s.blk b := by
  obtain ⟨hlocked, hother, hmem, -⟩ := s.blk.timeLost_spec err
  exact .of_run (f := fun b => b.holdoverEntry err) rfl (Blk.when_of _ hr) ⟨fun h => ⟨(hlocked h).1, (hlocked h).2.regs⟩,
    fun h => ⟨(hother h).1, fun r i => Blk.reg_congr (hother h).2 r i⟩, hmem⟩

/-- TB0 beyond a limit of holdover, before the record is raised. -/
def Blk.pastLimit (b : Blk) : Blk :=
  ({ b with gnss := { b.gnss with timeAt := none } } : Blk).tb0Invalid.setFld F.GNSS_STATUS_TIME_STATE 0 0

theorem Blk.holdShown_holdS (a : Blk) (err : Option Nat) : (a.holdShown err).holdS = a.holdS := by
  obtain ⟨-, -, honly, hw, -⟩ := a.holdShown_spec err
  have halike := honly.alike (hw.mono fun r i hr => (⟨hr.1, .tail _ hr.2⟩ : HoldReg r i)) fun r i hr => HoldReg.not_input hr
  exact Blk.holdS_congr halike.tb1 (by rw [honly.gnss])

/-- The end of holdover by a limit (R274). -/
theorem Blk.pastLimit_spec {a b : Blk} (hin : a.Within HoldReg b) (halike : a.RecordsAlike b)
    (hslots : ∀ k ∈ a.enabledSlots, k ∈ b.enabledSlots)
    (data : Nat) : let c := b.pastLimit.raise 536 0x0B 0x02 data
    c.timeState = 0 ∧ a.Tb0Lost c ∧ OneRecord 536 0x0B 0x02 data a c ∧ c.reg .GNSS_HOLD_STAT 0 = b.reg .GNSS_HOLD_STAT 0 ∧
      b.pastLimit.holdS = b.holdS := by
  have hlost := ({ b with gnss := { b.gnss with timeAt := none } } : Blk).losesTb0_tb0Invalid
  have hin0 : a.Within HoldReg { b with gnss := { b.gnss with timeAt := none } } := hin.units
  have halike0 : a.RecordsAlike { b with gnss := { b.gnss with timeAt := none } } := halike.trans ⟨fun _ _ _ => rfl, rfl, rfl, rfl⟩
  have hslots0 : ∀ k ∈ a.enabledSlots, k ∈ ({ b with gnss := { b.gnss with timeAt := none } } : Blk).enabledSlots := hslots
  have hat : ({ b with gnss := { b.gnss with timeAt := none } } : Blk).holdS = b.holdS := rfl
  have hstat : ({ b with gnss := { b.gnss with timeAt := none } } : Blk).reg .GNSS_HOLD_STAT 0 = b.reg .GNSS_HOLD_STAT 0 := rfl
  unfold Blk.pastLimit
  generalize ({ b with gnss := { b.gnss with timeAt := none } } : Blk) = c at *
  have hg : c.tb0Invalid.gnss = c.gnss := by rw [← hlost.rest]
  generalize c.tb0Invalid = d at *
  have hon := (Blk.RegsOnly.refl d).setFld F.GNSS_STATUS_TIME_STATE 0 0
  have hset : d.Within HoldReg (d.setFld F.GNSS_STATUS_TIME_STATE 0 0) := (Blk.Within.refl d).setFld ⟨rfl, by decide⟩
  have hstate : (d.setFld F.GNSS_STATUS_TIME_STATE 0 0).timeState = 0 := by
    rw [Blk.timeState, Blk.fld_setFld_self _ _ _ _ (by decide)]
    rfl
  have hkept : (d.setFld F.GNSS_STATUS_TIME_STATE 0 0).reg .GNSS_HOLD_STAT 0 = d.reg .GNSS_HOLD_STAT 0 :=
    d.reg_setFld_name _ _ _ (by decide)
  generalize d.setFld F.GNSS_STATUS_TIME_STATE 0 0 = e at *
  have hae := (halike0.trans hlost.alike).trans (hon.alike hset fun r i hr => HoldReg.not_input hr)
  have hregs := e.regs_raise 536 0x0B 0x02 data
  refine ⟨(congrArg F.GNSS_STATUS_TIME_STATE.get (hregs _ _ (by simp [RecReg]))).trans hstate,
    hlost.lost hin0 hslots0 ((hset.mono fun _ _ => .inl).raise fun _ _ => .inr), (hae.raise ..).oneRecord, ?_, ?_⟩
  · rw [hregs _ _ (by simp [RecReg]), hkept, hlost.within.regs _ _ (by simp), hstat]
  · rw [← hat]
    exact Blk.holdS_congr (hae.tb1.trans halike0.tb1.symm) (by rw [hon.gnss, hg])

theorem holdoverLimit_completes (s : State) (err : Nat) (ha : s.blk.aonRuns = true) (h2 : s.blk.timeState = 2)
    (hret : s.blk.returning = false) : Completes (.holdoverLimit err) s fun b =>
      let past := s.blk.fld F.GNSS_HOLD_HOLD_LIM 0 < err ∨ s.blk.fld F.GNSS_HOLD_HOLD_MAX_S 0 < s.blk.holdS
      b.fld F.GNSS_HOLD_STAT_HOLD_ERR 0 = min err 65535 ∧ b.fld F.GNSS_HOLD_STAT_HOLD_S 0 = s.blk.holdS ∧
      (¬ past → b.timeState = 2 ∧ b.tbValid 0 = s.blk.tbValid 0 ∧ NoRecord s.blk b ∧
        RegsKeptBut (fun r i => i = 0 ∧ r ∈ [RegName.GNSS_HOLD_STAT]) s.blk b ∧ MemKept s.blk b) ∧
      (past → b.timeState = 0 ∧ s.blk.Tb0Lost b ∧ OneRecord 536 0x0B 0x02 (s.blk.holdS * 65536 + min err 65535) s.blk b) := by
  obtain ⟨herr, hs, honly, hw, hslots⟩ := s.blk.holdShown_spec (some err)
  specialize herr err rfl
  have hrun : s.blk.holdoverLimit err =
      let b := s.blk.holdShown (some err)
      if b.fld F.GNSS_HOLD_HOLD_LIM 0 < err ∨ b.fld F.GNSS_HOLD_HOLD_MAX_S 0 < b.holdS then
        b.pastLimit.raise 536 0x0B 0x02 (b.pastLimit.holdS * 65536 + min err 65535) else b := by
    have h2 : s.blk.fld F.GNSS_STATUS_TIME_STATE 0 = 2 := h2
    unfold Blk.holdoverLimit
    rw [Blk.when_of _ (by simp [ha, h2, hret])]
    rfl
  have hat := s.blk.holdShown_holdS (some err)
  generalize s.blk.holdShown (some err) = b at *
  dsimp only at hrun
  have hin : s.blk.Within HoldReg b := hw.mono fun r i hr => ⟨hr.1, .tail _ hr.2⟩
  have halike := honly.alike hin fun r i hr => HoldReg.not_input hr
  obtain ⟨hstate, hlost, hone, hstat, hpast⟩ := Blk.pastLimit_spec hin halike hslots (s.blk.holdS * 65536 + min err 65535)
  rw [hpast, hat, hw.fld F.GNSS_HOLD_HOLD_LIM 0 (by simp), hw.fld F.GNSS_HOLD_HOLD_MAX_S 0 (by simp)] at hrun
  refine .of_run (f := fun b => b.holdoverLimit err) rfl hrun ?_
  split
  case isTrue hp =>
    exact ⟨(congrArg F.GNSS_HOLD_STAT_HOLD_ERR.get hstat).trans herr, (congrArg F.GNSS_HOLD_STAT_HOLD_S.get hstat).trans hs,
      fun h => absurd hp h, fun _ => ⟨hstate, hlost, hone⟩⟩
  case isFalse hp =>
    have hstate : b.timeState = s.blk.timeState := hw.fld F.GNSS_STATUS_TIME_STATE 0 (by simp)
    exact ⟨herr, hs, fun _ => ⟨hstate.trans h2, by rw [Blk.tbValid, Blk.tbValid, hw.fld _ _ (by simp)],
      honly.noRecord, hw.regs, hw.memKept⟩, fun h => absurd h hp⟩

/-- TB0 is slewed to GNSS time: its error is measured anew, and it is locked. -/
def Blk.relocked (b : Blk) (off : Int) : Blk :=
  { b with gnss := { b.gnss with lockAt := b.tb1 }, tbu := { b.tbu with tb0Err := off * 1000 } }.setFld F.GNSS_STATUS_TIME_STATE 0 1

theorem satN_eq_limited (v : Int) : satN 32 v = (limited 32 v).1 := by
  have hp : (2 : Int) ^ (32 - 1) = 2147483648 := by norm_num
  unfold satN limited
  simp only [hp]
  split
  · omega
  · split <;> omega

/-- The end of holdover by a lock that is near (R275). -/
theorem Blk.relocked_spec {a b : Blk} (hw : a.Within (fun r i => i = 0 ∧ r ∈ [RegName.GNSS_STATUS, .GNSS_HOLD_STAT]) b)
    (hon : a.RegsOnly b) (htb1 : b.tb1 = a.tb1) (off : Int) : let c := b.relocked off
    c.timeState = 1 ∧ c.tbu.tb0Err = off * 1000 ∧ c.gnss.lockAt = a.tb1 ∧ NoRecord a c ∧
      a.Within (fun r i => i = 0 ∧ r ∈ [RegName.GNSS_STATUS, .GNSS_HOLD_STAT]) c ∧ c.tbu.tb0Jump = a.tbu.tb0Jump ∧
      c.tbu.tb0Hold = a.tbu.tb0Hold := by
  unfold Blk.relocked
  rw [htb1]
  have hin : ∀ g u, a.Within (fun r i => i = 0 ∧ r ∈ [RegName.GNSS_STATUS, .GNSS_HOLD_STAT]) { b with gnss := g, tbu := u } ∧
      NoRecord a { b with gnss := g, tbu := u } ∧ ({ b with gnss := g, tbu := u } : Blk).gnss = g ∧
      ({ b with gnss := g, tbu := u } : Blk).tbu = u := fun _ _ => ⟨hw.units, hon.noRecord, rfl, rfl⟩
  obtain ⟨hin, hrec, hg, hu⟩ := hin { b.gnss with lockAt := a.tb1 } { b.tbu with tb0Err := off * 1000 }
  generalize ({ b with gnss := { b.gnss with lockAt := a.tb1 }, tbu := { b.tbu with tb0Err := off * 1000 } } : Blk) = c at *
  have honly := (Blk.RegsOnly.refl c).setFld F.GNSS_STATUS_TIME_STATE 0 1
  have hset : c.Within (fun r i => i = 0 ∧ r ∈ [RegName.GNSS_STATUS, .GNSS_HOLD_STAT]) (c.setFld F.GNSS_STATUS_TIME_STATE 0 1) :=
    (Blk.Within.refl c).setFld ⟨rfl, .head _⟩
  have hstate : (c.setFld F.GNSS_STATUS_TIME_STATE 0 1).timeState = 1 := by
    rw [Blk.timeState, Blk.fld_setFld_self _ _ _ _ (by decide)]
    rfl
  generalize c.setFld F.GNSS_STATUS_TIME_STATE 0 1 = d at *
  have htbu := honly.tbu.trans hu
  have hgnss := honly.gnss.trans hg
  refine ⟨hstate, by rw [htbu], by rw [hgnss], ⟨honly.noRecord.1.trans hrec.1, honly.noRecord.2.trans hrec.2⟩, hin.trans hset, ?_, ?_⟩
  all_goals rw [htbu, ← hon.tbu]

theorem lockReturn_completes (s : State) (g : Nat) (hr : s.blk.gnssRuns = true) (h2 : s.blk.timeState = 2)
    (hret : s.blk.returning = false) : Completes (.lockReturn g) s fun b =>
      let off : Int := (s.blk.tb 0 : Int) - g
      (off.natAbs ≤ 1000000 → b.timeState = 1 ∧ b.tbu.tb0Err = off * 1000 ∧ b.gnss.lockAt = s.blk.tb1 ∧
        b.tbValid 0 = s.blk.tbValid 0 ∧ NoRecord s.blk b ∧
        (RegsKeptBut (fun r i => i = 0 ∧ r ∈ [RegName.GNSS_STATUS, .GNSS_HOLD_STAT]) s.blk b ∧ MemKept s.blk b) ∧
        (s.blk.tbValid 0 = false → s.blk.Reaches g b) ∧
        (s.blk.tbValid 0 = true → b.tbu.tb0Jump = s.blk.tbu.tb0Jump ∧ b.tbu.tb0Hold = s.blk.tbu.tb0Hold)) ∧
      (1000000 < off.natAbs → b.timeState = 2 ∧ s.blk.Tb0Lost b ∧ s.blk.Reaches g b ∧
        OneRecord 536 0x0B 0x03 (BitVec.ofInt 32 (limited 32 (off.tdiv 1000)).1).toNat s.blk b) := by
  obtain ⟨-, -, honly, hw, hslots⟩ := s.blk.holdShown_spec none
  have hrun : s.blk.lockReturn g =
      let off : Int := (s.blk.tb 0 : Int) - g
      let b := s.blk.holdShown none
      if off.natAbs ≤ 1000000 then if (b.relocked off).tbValid 0 = true then b.relocked off else (b.relocked off).tb0Reach g
      else (b.tb0Invalid.raise 536 0x0B 0x03 (BitVec.ofInt 32 (satN 32 (off.tdiv 1000))).toNat).tb0Reach g := by
    have h2 : s.blk.fld F.GNSS_STATUS_TIME_STATE 0 = 2 := h2
    unfold Blk.lockReturn
    rw [Blk.when_of _ (by simp [hr, h2, hret])]
    rfl
  generalize s.blk.holdShown none = b at *
  dsimp only at hrun ⊢
  generalize (s.blk.tb 0 : Int) - g = off at hrun ⊢
  have hin : s.blk.Within HoldReg b := hw.mono fun r i hr => ⟨hr.1, .tail _ hr.2⟩
  have halike := honly.alike hin fun r i hr => HoldReg.not_input hr
  refine .of_run (f := fun b => b.lockReturn g) rfl hrun ?_
  split
  case isTrue hnear =>
    refine ⟨fun _ => ?_, fun h => by omega⟩
    obtain ⟨hstate, herr, hlock, hrec, hwc, hjump, hhold⟩ := Blk.relocked_spec hin honly halike.tb1 off
    generalize b.relocked off = c at *
    have hvalid : c.tbValid 0 = s.blk.tbValid 0 := by rw [Blk.tbValid, Blk.tbValid, hwc.fld _ _ (by simp)]
    obtain ⟨hreach, hregs, hgnss, hrecd, hmem, hotp, herrd⟩ := c.tb0Reach_spec g
    have htb : c.tb 0 = s.blk.tb 0 := hwc.reg64 (by simp) (by simp)
    rw [Blk.Reaches, htb] at hreach
    generalize c.tb0Reach g = d at *
    split
    case isTrue hv =>
      exact ⟨hstate, herr, hlock, hvalid, hrec, ⟨hwc.regs, hwc.memKept⟩,
        fun h => absurd (hv.symm.trans (hvalid.trans h)) (by decide), fun _ => ⟨hjump, hhold⟩⟩
    case isFalse hv =>
      have hvd : d.tbValid 0 = c.tbValid 0 := by rw [Blk.tbValid, Blk.tbValid, Blk.fld_congr hregs]
      have hwd := hwc.trans (.of_same hregs hmem hotp)
      exact ⟨(Blk.fld_congr hregs ..).trans hstate, herrd.trans herr, (congrArg GnssSt.lockAt hgnss).trans hlock, hvd.trans hvalid,
        ⟨hrecd.1.trans hrec.1, hrecd.2.trans hrec.2⟩, ⟨hwd.regs, hwd.memKept⟩, fun _ => hreach,
        fun h => absurd (hvalid.trans h) hv⟩
  case isFalse hfar =>
    refine ⟨fun h => absurd h hfar, fun _ => ?_⟩
    rw [satN_eq_limited]
    have hlost := b.losesTb0_tb0Invalid
    generalize b.tb0Invalid = c at *
    generalize (BitVec.ofInt 32 (limited 32 (off.tdiv 1000)).1).toNat = data
    have hone : OneRecord 536 0x0B 0x03 data s.blk (c.raise 536 0x0B 0x03 data) := ((halike.trans hlost.alike).raise ..).oneRecord
    have hraise : c.Within (fun r i => HoldReg r i ∨ RecReg r i) (c.raise 536 0x0B 0x03 data) := (Blk.Within.refl c).raise fun _ _ => .inr
    have hstate : (c.raise 536 0x0B 0x03 data).timeState = s.blk.timeState :=
      (congrArg F.GNSS_STATUS_TIME_STATE.get (c.regs_raise 536 0x0B 0x03 data _ _ (by simp [RecReg]))).trans
        ((hlost.within.fld _ _ (by simp)).trans (hw.fld _ _ (by simp)))
    have htb : (c.raise 536 0x0B 0x03 data).tb 0 = s.blk.tb 0 :=
      (hraise.reg64 (by simp [HoldReg, RecReg]) (by simp [HoldReg, RecReg])).trans
        ((hlost.within.reg64 (by simp) (by simp)).trans (hw.reg64 (by simp) (by simp)))
    generalize c.raise 536 0x0B 0x03 data = d at *
    obtain ⟨hreach, hregs, -, hrecd, hmem, hotp, -⟩ := d.tb0Reach_spec g
    rw [Blk.Reaches, htb] at hreach
    generalize d.tb0Reach g = e at *
    exact ⟨((Blk.fld_congr hregs ..).trans hstate).trans h2, hlost.lost hin hslots (hraise.trans (.of_same hregs hmem hotp)), hreach,
      hrecd.1.trans hone.1, hrecd.2.trans hone.2.1, (Blk.reg_congr hregs ..).trans hone.2.2.1, (Blk.reg_congr hregs ..).trans hone.2.2.2⟩

end Sys2Proof.Machine
end

section
/-!
PROOFS. The navigation solution as it is published: the record, what it says of time and validity, and the stream that it leaves on
(R266, R267, R268, R273).
-/

namespace Sys2Proof.Machine

open Sys2Proof.Claims

/-! ## A sample of a stream leaves -/

/-- The first enabled stream entry that names `stream` (R316). -/
def Blk.streamEntry (b : Blk) (stream : Nat) : Option Nat :=
  (List.range 512).find? fun e => b.flag F.STX_CFG_EN e && b.fld F.STX_CFG_STREAM e == stream

theorem Blk.emits_eq (l : List Nat) (k : Nat → Packet) (b : Blk) :
    l.foldl (fun acc d => acc.emit (k d)) b = { b with bus := { b.bus with egress := b.bus.egress ++ l.map k } } := by
  induction l generalizing b with
  | nil => simp
  | cons d l ih => rw [List.foldl_cons, ih, Blk.emit, List.map_cons, List.append_cons b.bus.egress (k d) (l.map k)]

theorem Blk.sendStream_of_none {b : Blk} {stream : Nat} (sm : Nat) (pay : List (BitVec 128)) (h : b.streamEntry stream = none) :
    b.sendStream stream sm pay = b := by
  unfold Blk.sendStream
  split
  next => rfl
  next e he => exact absurd ((show b.streamEntry stream = some e from he).symm.trans h) (by simp)

theorem Blk.sendStream_of_some {b : Blk} {stream e : Nat} (sm : Nat) (pay : List (BitVec 128)) (h : b.streamEntry stream = some e) :
    b.sendStream stream sm pay = Blk.incFld { b with bus := { b.bus with
      egress := b.bus.egress ++ (b.streamDests e).map fun d => b.newPacket 5 1 d sm 0 stream 3 pay } } F.STX_SENT_SENT e := by
  unfold Blk.sendStream
  split
  next he => exact absurd ((show b.streamEntry stream = none from he).symm.trans h) (by simp)
  next e' he =>
    obtain rfl := Option.some.inj ((show b.streamEntry stream = some e' from he).symm.trans h)
    exact congrArg (Blk.incFld · F.STX_SENT_SENT e') (Blk.emits_eq ..)

/-- From `a` to `b` nothing but registers and what waits on the bus changes. -/
def Blk.SendsOnly (a b : Blk) : Prop := { a with regs := b.regs, bus := b.bus } = b

theorem Blk.SendsOnly.regsOnly {a b c : Blk} (h : a.SendsOnly b) (h' : b.RegsOnly c) : a.SendsOnly c := by
  unfold Blk.SendsOnly Blk.RegsOnly at *
  rw [← h', ← h]

/-- A sample leaves for every destination of the entry that names the stream, which counts it; without one nothing changes. -/
theorem Blk.sendStream_spec (b : Blk) (stream sm : Nat) (pay : List (BitVec 128)) : let c := b.sendStream stream sm pay
    (b.streamEntry stream = none → c.bus = b.bus) ∧
    (∀ e, b.streamEntry stream = some e →
      c.bus.egress = b.bus.egress ++ (b.streamDests e).map fun d => b.newPacket 5 1 d sm 0 stream 3 pay) ∧
    b.Within (fun r i => r = .STX_SENT ∧ b.streamEntry stream = some i) c ∧ b.SendsOnly c := by
  cases hentry : b.streamEntry stream with
  | none =>
    rw [Blk.sendStream_of_none sm pay hentry]
    exact ⟨fun _ => rfl, fun e he => (nomatch he), .refl b, rfl⟩
  | some e =>
    rw [Blk.sendStream_of_some sm pay hentry]
    have hin : ∀ l, b.Within (fun r i => r = .STX_SENT ∧ some e = some i) { b with bus := { b.bus with egress := l } } ∧
        b.SendsOnly { b with bus := { b.bus with egress := l } } ∧ ({ b with bus := { b.bus with egress := l } } : Blk).bus.egress = l :=
      fun _ => ⟨.units (.refl b), rfl, rfl⟩
    generalize hegress : b.bus.egress ++ (b.streamDests e).map (fun d => b.newPacket 5 1 d sm 0 stream 3 pay) = l
    obtain ⟨hw, hrest, hl⟩ := hin l
    generalize ({ b with bus := { b.bus with egress := l } } : Blk) = c at *
    have hon : c.RegsOnly (c.incFld F.STX_SENT_SENT e) := (Blk.RegsOnly.refl c).setFld ..
    have hwd : b.Within (fun r i => r = .STX_SENT ∧ some e = some i) (c.incFld F.STX_SENT_SENT e) := hw.incFld ⟨rfl, rfl⟩
    generalize c.incFld F.STX_SENT_SENT e = d at *
    refine ⟨fun h => (nomatch h), fun e' he => ?_, hwd, hrest.regsOnly hon⟩
    obtain rfl := Option.some.inj he
    unfold Blk.RegsOnly at hon
    rw [← hon, hl, hegress]

/-- Where a sample goes depends on the stream entries, and what it says of its origin on the node. -/
theorem Blk.stream_congr {a b : Blk} (h : ∀ r i, r ∈ [RegName.STX_CFG, .STX_DEST01, .STX_DEST23, .SYS_NODE] → b.reg r i = a.reg r i) :
    (∀ stream, b.streamEntry stream = a.streamEntry stream) ∧ (∀ e, b.streamDests e = a.streamDests e) ∧
      ∀ d sm stream pay, b.newPacket 5 1 d sm 0 stream 3 pay = a.newPacket 5 1 d sm 0 stream 3 pay := by
  refine ⟨fun stream => ?_, fun e => ?_, fun d sm stream pay => ?_⟩
  · simp only [Blk.streamEntry, Blk.flag, Blk.fld, h .STX_CFG _ (by decide)]
  · simp only [Blk.streamDests, h .STX_DEST01 _ (by decide), h .STX_DEST23 _ (by decide)]
  · simp only [Blk.newPacket, Blk.node, Blk.fld, h .SYS_NODE _ (by decide)]

/-! ## Word 0 of the record (R266) -/

theorem navWord_fields (v h : Bool) {st n seq : Nat} (hst : st < 8) (hn : n < 256) :
    let w : Word := BitVec.ofNat 32 (v.toNat * 2 ^ 31 + st * 2 ^ 28 + h.toNat * 2 ^ 27 + n * 2 ^ 16 + seq % 65536)
    (w.extractLsb' 28 3).toNat = st ∧ (w.extractLsb' 0 16).toNat = seq % 65536 ∧ (w.extractLsb' 16 8).toNat = n ∧
      w.getLsbD 31 = v ∧ w.getLsbD 27 = h := by
  have hv := v.toNat_le
  have hh := h.toNat_le
  have hw : (BitVec.ofNat 32 (v.toNat * 2 ^ 31 + st * 2 ^ 28 + h.toNat * 2 ^ 27 + n * 2 ^ 16 + seq % 65536)).toNat =
      v.toNat * 2147483648 + st * 268435456 + h.toNat * 134217728 + n * 65536 + seq % 65536 := by
    rw [BitVec.toNat_ofNat]
    norm_num
    omega
  dsimp only
  generalize BitVec.ofNat 32 (v.toNat * 2 ^ 31 + st * 2 ^ 28 + h.toNat * 2 ^ 27 + n * 2 ^ 16 + seq % 65536) = w at hw
  refine ⟨?_, ?_, ?_, ?_, ?_⟩
  · rw [BitVec.extractLsb'_toNat, Nat.shiftRight_eq_div_pow]
    norm_num
    omega
  · rw [BitVec.extractLsb'_toNat, Nat.shiftRight_eq_div_pow]
    norm_num
    omega
  · rw [BitVec.extractLsb'_toNat, Nat.shiftRight_eq_div_pow]
    norm_num
    omega
  · rw [BitVec.getLsbD, Nat.testBit_eq_decide_div_mod_eq]
    norm_num
    cases v <;> simp only [Bool.toNat_false, Bool.toNat_true, decide_eq_true_eq, decide_eq_false_iff_not] at hw ⊢ <;> omega
  · rw [BitVec.getLsbD, Nat.testBit_eq_decide_div_mod_eq]
    norm_num
    cases h <;> simp only [Bool.toNat_false, Bool.toNat_true, decide_eq_true_eq, decide_eq_false_iff_not] at hw ⊢ <;> omega

theorem navRecord_word0 (st : Nat) (h : Bool) (seq age t : Nat) (x : Solution) : (navRecord st h seq age t x).getD 0 0 =
    BitVec.ofNat 32 ((decide (1 ≤ st) && decide (x.hpe ≤ 500)).toNat * 2 ^ 31 + st * 2 ^ 28 + h.toNat * 2 ^ 27 + min x.nsv 255 * 2 ^ 16 +
      seq % 65536) := rfl

theorem Blk.atReference_quality (b : Blk) (x : Solution) : (b.atReference x).nsv = x.nsv ∧ (b.atReference x).hpe = x.hpe := by
  unfold Blk.atReference
  dsimp only
  split <;> exact ⟨rfl, rfl⟩

theorem Blk.solStatus_le (b : Blk) (x : Solution) : b.solStatus x ≤ 5 := by
  unfold Blk.solStatus
  dsimp only
  repeat' split
  all_goals omega

/-! ## The solution, step by step -/

/-- TB1 of the last accepted baseline, with the one of solution `x`. -/
def Blk.headAfter (b : Blk) (x : Solution) : Option Nat := if b.baseOk x = true then some b.tb1 else b.gnss.headAt

/-- The heading is valid (R268): an accepted baseline lies less than 200 ms back. -/
def Blk.headingOk (b : Blk) (x : Solution) : Bool :=
  match b.headAfter x with
  | some t => b.flag F.GNSS_CTRL_HEAD_EN 0 && decide (b.tb1 < t + 200000000)
  | none => false

/-- The receiver once solution `x` is published. -/
def Blk.published (b : Blk) (x : Solution) : GnssSt :=
  { b.gnss with
    headAt := b.headAfter x
    nav := navRecord (b.solStatus x) (b.headingOk x) b.gnss.seq b.corrAge (b.tb 0 - x.ago) (b.atReference x)
    seq := (b.gnss.seq + 1) % 65536, solAt := some b.tb1, refix := false, eph := x.eph
    fixAt := if 1 ≤ b.solStatus x ∧ b.solStatus x ≤ 4 then some b.tb1 else b.gnss.fixAt
    timeAt := if b.flag F.GNSS_CTRL_EN 0 && x.timing.isSome then some (b.gnss.timeAt.getD b.tb1) else none }

/-- GNSS_LEAP takes the difference of GPS time and UTC, once it is known. -/
def Blk.withLeap (b : Blk) (l : Option Nat) : Blk :=
  match l with
  | some s => (b.setFld F.GNSS_LEAP_LEAP 0 s).setFld F.GNSS_LEAP_LEAP_V 0 1
  | none => b

/-- The error of TB0 is measured, but in holdover. -/
def Blk.withTiming (b : Blk) (e : Option Int) : Blk :=
  match e with
  | some e => if b.fld F.GNSS_STATUS_TIME_STATE 0 = 2 then b else { b with tbu := { b.tbu with tb0Err := e } }
  | none => b

/-- What a solution changes before it leaves on its stream. -/
def Blk.solved (b : Blk) (x : Solution) : Blk :=
  ((({ b with gnss := b.published x }).setFlag F.GNSS_STATUS_AIDING 0 (x.ins && decide (1 ≤ b.solStatus x))).withLeap x.leap).withTiming x.timing

theorem Blk.navSolution_eq {b : Blk} {x : Solution} (hon : b.gnssOn = true) (hev : b.every b.gnss.solAt 10000000 = true)
    (hago : x.ago ≤ 5000000) : b.navSolution x =
      (b.solved x).sendStream ((b.solved x).fld F.GNSS_NAV_STREAM_STREAM 0) 536 ((List.range 4).map (flitOf (b.published x).nav)) := by
  unfold Blk.navSolution
  rw [Blk.when_of _ (by simp [hon, hev, hago])]
  unfold Blk.solved Blk.published Blk.headingOk Blk.headAfter
  cases hbase : b.baseOk x <;> rfl

theorem Blk.withLeap_spec (b : Blk) (l : Option Nat) : let c := b.withLeap l
    b.RegsOnly c ∧ b.Within (fun r i => i = 0 ∧ r = .GNSS_LEAP) c ∧
      ∀ s, l = some s → c.fld F.GNSS_LEAP_LEAP 0 = s % 256 ∧ c.flag F.GNSS_LEAP_LEAP_V 0 = true := by
  cases l with
  | none => exact ⟨.refl b, .refl b, fun s hs => nomatch hs⟩
  | some s =>
    refine ⟨((Blk.RegsOnly.refl b).setFld ..).setFld .., ((Blk.Within.refl b).setFld ⟨rfl, rfl⟩).setFld ⟨rfl, rfl⟩, fun s' hs => ?_⟩
    obtain rfl := Option.some.inj hs
    refine ⟨?_, Blk.flag_setFld_one _ _ _ (by decide) (by decide)⟩
    rw [Blk.withLeap, Blk.fld_setFld_of_apart _ _ _ (by decide) (by decide), Blk.fld_setFld_self _ _ _ _ (by decide)]
    rfl

theorem Blk.withTiming_spec (b : Blk) (l : Option Int) : let c := b.withTiming l
    c.gnss = b.gnss ∧ c.bus = b.bus ∧ c.regs = b.regs ∧ (∀ R, b.Within R c) ∧
      ∀ e, l = some e → b.timeState ≠ 2 → c.tbu.tb0Err = e := by
  cases l with
  | none => exact ⟨rfl, rfl, rfl, fun _ => .refl b, fun e he => nomatch he⟩
  | some e =>
    by_cases h2 : b.fld F.GNSS_STATUS_TIME_STATE 0 = 2
    · rw [Blk.withTiming]
      dsimp only
      rw [if_pos h2]
      exact ⟨rfl, rfl, rfl, fun _ => .refl b, fun _ _ h => absurd h2 h⟩
    · rw [Blk.withTiming]
      dsimp only
      rw [if_neg h2]
      exact ⟨rfl, rfl, rfl, fun _ => .units (.refl b), fun e' he _ => Option.some.inj he⟩

/-- The registers that a solution writes before it leaves. -/
def SolutionReg (r : RegName) (i : Nat) : Prop := i = 0 ∧ (r = .GNSS_STATUS ∨ r = .GNSS_LEAP)

theorem Blk.solved_spec (b : Blk) (x : Solution) : let c := b.solved x
    c.gnss = b.published x ∧ c.bus = b.bus ∧ b.Within SolutionReg c ∧
      c.flag F.GNSS_STATUS_AIDING 0 = (x.ins && decide (1 ≤ b.solStatus x)) ∧
      (∀ l, x.leap = some l → c.fld F.GNSS_LEAP_LEAP 0 = l % 256 ∧ c.flag F.GNSS_LEAP_LEAP_V 0 = true) ∧
      ∀ e, x.timing = some e → b.timeState ≠ 2 → c.tbu.tb0Err = e := by
  have hin : ∀ g, b.Within SolutionReg { b with gnss := g } ∧ ({ b with gnss := g } : Blk).gnss = g ∧
      ({ b with gnss := g } : Blk).bus = b.bus ∧ ({ b with gnss := g } : Blk).timeState = b.timeState := fun _ => ⟨.units (.refl b), rfl, rfl, rfl⟩
  unfold Blk.solved
  generalize (x.ins && decide (1 ≤ b.solStatus x)) = aiding
  generalize b.published x = g
  obtain ⟨hw0, hg0, hb0, hstate0⟩ := hin g
  generalize ({ b with gnss := g } : Blk) = c0 at *
  have hon1 := (Blk.RegsOnly.refl c0).setFld F.GNSS_STATUS_AIDING 0 aiding.toNat
  have hw1 : c0.Within SolutionReg (c0.setFlag F.GNSS_STATUS_AIDING 0 aiding) := (Blk.Within.refl c0).setFlag ⟨rfl, .inl rfl⟩
  have haid : (c0.setFlag F.GNSS_STATUS_AIDING 0 aiding).flag F.GNSS_STATUS_AIDING 0 = aiding :=
    Blk.flag_setFlag_self _ _ _ _ (by decide) (by decide)
  have hstate1 : (c0.setFlag F.GNSS_STATUS_AIDING 0 aiding).timeState = c0.timeState :=
    Blk.fld_setFld_of_apart _ _ _ (by decide) (by decide)
  change c0.RegsOnly (c0.setFlag F.GNSS_STATUS_AIDING 0 aiding) at hon1
  generalize c0.setFlag F.GNSS_STATUS_AIDING 0 aiding = c1 at *
  obtain ⟨hon2, hw2, hleap⟩ := c1.withLeap_spec x.leap
  generalize c1.withLeap x.leap = c2 at *
  have hstate2 : c2.timeState = c1.timeState := hw2.fld F.GNSS_STATUS_TIME_STATE 0 (by simp)
  have haid2 : c2.flag F.GNSS_STATUS_AIDING 0 = c1.flag F.GNSS_STATUS_AIDING 0 := hw2.flag F.GNSS_STATUS_AIDING 0 (by simp)
  obtain ⟨hg3, hb3, hregs3, hw3, htiming⟩ := c2.withTiming_spec x.timing
  generalize c2.withTiming x.timing = c3 at *
  have hbus : c2.bus = c0.bus := by
    unfold Blk.RegsOnly at hon1 hon2
    rw [← hon2, ← hon1]
  refine ⟨hg3.trans (hon2.gnss.trans (hon1.gnss.trans hg0)), hb3.trans (hbus.trans hb0), (hw0.trans hw1).trans
    ((hw2.mono fun r i hr => ⟨hr.1, .inr hr.2⟩).trans (hw3 _)), ?_, fun l hl => ?_, fun e he hs => htiming e he ?_⟩
  · rw [Blk.flag_congr (Blk.reg_congr hregs3 ..), haid2, haid]
  · obtain ⟨hval, hv⟩ := hleap l hl
    exact ⟨(Blk.fld_congr hregs3 ..).trans hval, (Blk.flag_congr (Blk.reg_congr hregs3 ..)).trans hv⟩
  · rw [hstate2, hstate1, hstate0]
    exact hs

theorem Blk.headingOk_iff (b : Blk) (x : Solution) : b.headingOk x = true ↔ b.flag F.GNSS_CTRL_HEAD_EN 0 = true ∧
    (b.baseOk x = true ∨ ∃ t, b.gnss.headAt = some t ∧ b.tb1 < t + 200000000) := by
  unfold Blk.headingOk Blk.headAfter
  by_cases hbase : b.baseOk x = true
  · have hen : b.flag F.GNSS_CTRL_HEAD_EN 0 = true := by
      unfold Blk.baseOk at hbase
      exact (Bool.and_eq_true_iff.mp hbase).1
    rw [if_pos hbase]
    simp [hbase, hen]
  · rw [if_neg hbase]
    cases hat : b.gnss.headAt with
    | none => simp [hbase]
    | some t => simp [hbase]

/-- Word 0 of the record that solution `x` publishes. -/
theorem Blk.published_word (b : Blk) (x : Solution) : let w := (b.published x).nav.getD 0 0
    (w.extractLsb' 28 3).toNat = b.solStatus x ∧ (w.extractLsb' 0 16).toNat = b.gnss.seq % 65536 ∧
      (w.extractLsb' 16 8).toNat = min x.nsv 255 ∧ w.getLsbD 31 = (decide (1 ≤ b.solStatus x) && decide (x.hpe ≤ 500)) ∧
      w.getLsbD 27 = b.headingOk x := by
  obtain ⟨hnsv, hhpe⟩ := b.atReference_quality x
  have hst := b.solStatus_le x
  rw [Blk.published, navRecord_word0, hnsv, hhpe]
  exact navWord_fields _ _ (by omega) (by omega)

theorem navSolution_completes (s : State) (x : Solution) (hon : s.blk.gnssOn = true)
    (hat : ∀ t, s.blk.gnss.solAt = some t → t + 10000000 ≤ s.blk.tb1) (hago : x.ago ≤ 5000000) :
    Completes (.navSolution x) s fun b =>
      let w := b.gnss.nav.getD 0 0
      let st := s.blk.solStatus x
      let stream := s.blk.fld F.GNSS_NAV_STREAM_STREAM 0
      let entry := s.blk.streamEntry stream
      b.gnss.solAt = some s.blk.tb1 ∧ b.gnss.seq = (s.blk.gnss.seq + 1) % 65536 ∧ b.gnss.nav.length = 16 ∧
        b.gnss.nav = navRecord st (w.getLsbD 27) s.blk.gnss.seq s.blk.corrAge (s.blk.tb 0 - x.ago) (s.blk.atReference x) ∧
        (w.extractLsb' 28 3).toNat = st ∧ (w.extractLsb' 0 16).toNat = s.blk.gnss.seq % 65536 ∧
        (w.extractLsb' 16 8).toNat = min x.nsv 255 ∧ (w.getLsbD 31 = true ↔ 1 ≤ st ∧ x.hpe ≤ 500) ∧
        (w.getLsbD 27 = true ↔ s.blk.flag F.GNSS_CTRL_HEAD_EN 0 = true ∧
          (s.blk.baseOk x = true ∨ ∃ t, s.blk.gnss.headAt = some t ∧ s.blk.tb1 < t + 200000000)) ∧
        (b.flag F.GNSS_STATUS_AIDING 0 = true ↔ x.ins = true ∧ 1 ≤ st) ∧
        (∀ l, x.leap = some l → b.fld F.GNSS_LEAP_LEAP 0 = l % 256 ∧ b.flag F.GNSS_LEAP_LEAP_V 0 = true) ∧
        (∀ e, x.timing = some e → s.blk.timeState ≠ 2 → b.tbu.tb0Err = e) ∧
        b.gnss.fixAt = (if 1 ≤ st ∧ st ≤ 4 then some s.blk.tb1 else s.blk.gnss.fixAt) ∧
        b.gnss.timeAt = (if s.blk.flag F.GNSS_CTRL_EN 0 = true ∧ x.timing ≠ none then some (s.blk.gnss.timeAt.getD s.blk.tb1) else none) ∧
        (entry = none → b.bus = s.blk.bus) ∧
        (∀ e, entry = some e → b.bus.egress = s.blk.bus.egress ++ (s.blk.streamDests e).map (fun d =>
          s.blk.newPacket 5 1 d 536 0 stream 3 ((List.range 4).map (flitOf b.gnss.nav)))) ∧
        RegsKeptBut (fun r i => (i = 0 ∧ (r = .GNSS_STATUS ∨ r = .GNSS_LEAP)) ∨ (r = .STX_SENT ∧ entry = some i)) s.blk b ∧
        MemKept s.blk b := by
  have hev : s.blk.every s.blk.gnss.solAt 10000000 = true := by
    unfold Blk.every
    split
    case h_1 => rfl
    case h_2 t ht => exact decide_eq_true (hat t ht)
  obtain ⟨hg, hbus, hw, haid, hleap, htiming⟩ := s.blk.solved_spec x
  have hrun := Blk.navSolution_eq hon hev hago
  obtain ⟨hstatus, hseq, hnsv, hv, hh⟩ := s.blk.published_word x
  generalize s.blk.solved x = c at *
  have hstream : c.fld F.GNSS_NAV_STREAM_STREAM 0 = s.blk.fld F.GNSS_NAV_STREAM_STREAM 0 := hw.fld F.GNSS_NAV_STREAM_STREAM 0 (by simp [SolutionReg])
  obtain ⟨hentry, hdests, hpacket⟩ := Blk.stream_congr (a := s.blk) (b := c) fun r i hr => hw.regs r i fun hc => by
    obtain ⟨-, rfl | rfl⟩ := hc <;> exact absurd hr (by decide)
  rw [hstream] at hrun
  obtain ⟨hnone, hsome, hsw, hso⟩ := c.sendStream_spec (s.blk.fld F.GNSS_NAV_STREAM_STREAM 0) 536
    ((List.range 4).map (flitOf (s.blk.published x).nav))
  rw [hentry] at hnone hsome hsw
  refine .of_run (f := fun b => b.navSolution x) rfl hrun ?_
  generalize c.sendStream (s.blk.fld F.GNSS_NAV_STREAM_STREAM 0) 536 ((List.range 4).map (flitOf (s.blk.published x).nav)) = d at *
  have hgd : d.gnss = s.blk.published x := by
    unfold Blk.SendsOnly at hso
    rw [← hso]
    exact hg
  have htd : d.tbu = c.tbu := by
    unfold Blk.SendsOnly at hso
    rw [← hso]
  dsimp only
  rw [hgd, htd]
  have hall := (hw.mono fun r i hr => Or.inl hr).trans (hsw.mono fun r i hr => Or.inr (a := SolutionReg r i) hr)
  refine ⟨rfl, rfl, rfl, ?_, hstatus, hseq, hnsv, ?_, ?_, ?_, fun l hl => ?_, htiming, rfl, ?_, fun h => (hnone h).trans hbus, fun e he => ?_,
    hall.regs, hall.memKept⟩
  · rw [hh]
    rfl
  · rw [hv]
    simp
  · rw [hh]
    exact s.blk.headingOk_iff x
  · rw [hsw.flag F.GNSS_STATUS_AIDING 0 (by simp), haid]
    simp
  · obtain ⟨hval, hvalid⟩ := hleap l hl
    exact ⟨(hsw.fld F.GNSS_LEAP_LEAP 0 (by simp)).trans hval, (hsw.flag F.GNSS_LEAP_LEAP_V 0 (by simp)).trans hvalid⟩
  · rw [Blk.published]
    cases x.timing <;> simp
  · rw [hsome e he, hbus, hdests]
    simp only [hpacket]

/-- A snap copies the record word by word (R266). -/
theorem Blk.copied_spec (l : List Word) (n : Nat) (b : Blk) :
    let c := (l.zipIdx n).foldl (fun b w => b.setReg .GNSS_NAV w.2 w.1) b
    (∀ k w, l[k]? = some w → c.reg .GNSS_NAV (n + k) = w) ∧ b.RegsOnly c ∧
      b.Within (fun r i => r = .GNSS_NAV ∧ n ≤ i ∧ i < n + l.length) c := by
  induction l generalizing b n with
  | nil => exact ⟨fun k w h => by simp at h, .refl b, .refl b⟩
  | cons v l ih =>
    rw [List.zipIdx_cons, List.foldl_cons]
    have hself : (b.setReg .GNSS_NAV n v).reg .GNSS_NAV n = v := Blk.reg_setReg_self ..
    have hon := (Blk.RegsOnly.refl b).setReg .GNSS_NAV n v
    have hw : b.Within (fun r i => r = .GNSS_NAV ∧ n ≤ i ∧ i < n + (v :: l).length) (b.setReg .GNSS_NAV n v) :=
      (Blk.Within.refl b).setReg ⟨rfl, Nat.le_refl n, by simp⟩
    obtain ⟨hval, honc, hwc⟩ := ih (n + 1) (b.setReg .GNSS_NAV n v)
    dsimp only at hval honc hwc ⊢
    generalize (l.zipIdx (n + 1)).foldl (fun b w => b.setReg .GNSS_NAV w.2 w.1) (b.setReg .GNSS_NAV n v) = c at *
    generalize b.setReg .GNSS_NAV n v = d at *
    refine ⟨fun k w hk => ?_, hon.trans honc, hw.trans (hwc.mono fun r i hr => ⟨hr.1, by omega, ?_⟩)⟩
    · cases k with
      | zero =>
        obtain rfl : v = w := by simpa using hk
        exact (hwc.regs _ _ (by simp)).trans hself
      | succ k =>
        have := hval k w (by simpa using hk)
        rwa [Nat.add_right_comm] at this
    · rw [List.length_cons]
      omega

theorem Blk.RegsOnly.unitsKept {a b : Blk} (h : a.RegsOnly b) : UnitsKept a b := by
  unfold Blk.RegsOnly at h
  unfold UnitsKept
  rw [← h]

theorem navSnap_completes (s : State) (ha : s.blk.aonRuns = true) : Completes .navSnap s fun b =>
    (∀ k w, s.blk.gnss.nav[k]? = some w → b.reg .GNSS_NAV k = w) ∧
      RegsKeptBut (fun r i => r = .GNSS_NAV ∧ i < s.blk.gnss.nav.length) s.blk b ∧ MemKept s.blk b ∧ UnitsKept s.blk b := by
  obtain ⟨hval, hon, hw⟩ := Blk.copied_spec s.blk.gnss.nav 0 s.blk
  have hw := hw.mono (S := fun r i => r = .GNSS_NAV ∧ i < s.blk.gnss.nav.length) fun r i hr => ⟨hr.1, by omega⟩
  refine .of_live ha rfl rfl ⟨fun k w hk => ?_, hw.regs, hw.memKept, hon.unitsKept⟩
  have hreg := hval k w hk
  rwa [Nat.zero_add] at hreg

end Sys2Proof.Machine
end

section
/-!
PROOFS. The correction stream (R270, R271): which frames are accepted, what joins the open epoch, and when it closes.
-/

namespace Sys2Proof.Machine

open Sys2Proof.Claims

/-- The registers of the correction stream. -/
def RtcmReg (r : RegName) (i : Nat) : Prop := i = 0 ∧ r ∈ [RegName.GNSS_RTCM_CNT, .GNSS_RTCM_STAT]

/-- The receiver's part of the block replaced. -/
theorem Blk.withGnss_spec (b : Blk) (g : GnssSt) : (∀ R, b.Within R { b with gnss := g }) ∧ ({ b with gnss := g } : Blk).gnss = g ∧
    ∀ f i, ({ b with gnss := g } : Blk).fld f i = b.fld f i := ⟨fun _ => .units (.refl b), rfl, fun _ _ => rfl⟩

theorem Blk.fld_withGnss (b : Blk) (g : GnssSt) (f : Fld) (i : Nat) : ({ b with gnss := g } : Blk).fld f i = b.fld f i :=
  Blk.fld_congr rfl f i

/-! ## Epochs -/

/-- The open correction epoch is complete (R271). -/
def Blk.EpochEnded (b : Blk) : Prop := ∃ t, b.gnss.epochAt = some t ∧ (b.gnss.final = true ∨ t + 200000000 ≤ b.tb1)

theorem Blk.epochOver_iff {b : Blk} : b.epochOver = true ↔ b.EpochEnded := by
  unfold Blk.epochOver Blk.EpochEnded
  cases b.gnss.epochAt <;> simp

theorem Blk.epochEnd_of_some {b : Blk} {t : Nat} (h : b.gnss.epochAt = some t) :
    b.epochEnd = { b with gnss := { b.gnss with epoch := [], epochAt := none, final := false, corrAt := some t } } := by
  unfold Blk.epochEnd
  rw [h]

theorem correctionEpochClose_completes (s : State) (t : Nat) (hat : s.blk.gnss.epochAt = some t) (hon : s.blk.gnssOn = true)
    (hend : s.blk.gnss.final = true ∨ t + 200000000 ≤ s.blk.tb1) : Completes .correctionEpochClose s fun b =>
      b.gnss = { s.blk.gnss with epoch := [], epochAt := none, final := false, corrAt := some t } ∧ RegsKept s.blk b ∧ MemKept s.blk b := by
  have hover : s.blk.epochOver = true := Blk.epochOver_iff.mpr ⟨t, hat, hend⟩
  exact .of_run (f := Blk.correctionClose) rfl ((Blk.when_of _ (by simp [hon, hover])).trans (Blk.epochEnd_of_some hat))
    ⟨rfl, fun _ _ => rfl, fun _ => rfl, fun _ => rfl⟩

/-- What the receiver holds once a message that arrived at TB1 `at_` has joined the open epoch, `ended` where that was complete. -/
def GnssSt.joined (g : GnssSt) (ended : Bool) (at_ : Nat) (m : List Byte) : GnssSt :=
  { g with
    epoch := (if ended = true then [] else g.epoch) ++ [m]
    epochAt := some (if ended = true then at_ else g.epochAt.getD at_)
    final := rtcmBits m 54 1 == 0
    corrAt := if ended = true then g.epochAt else g.corrAt }

theorem Blk.joinEpoch_eq (b : Blk) (at_ : Nat) (m : List Byte) :
    b.joinEpoch at_ m = { b with gnss := b.gnss.joined b.epochOver at_ m } := by
  unfold Blk.joinEpoch
  by_cases h : b.epochOver = true
  · obtain ⟨t, hat, -⟩ := Blk.epochOver_iff.mp h
    rw [if_pos h, Blk.epochEnd_of_some hat, GnssSt.joined, if_pos h, if_pos h, if_pos h, hat]
    rfl
  · rw [if_neg h, GnssSt.joined, if_neg h, if_neg h, if_neg h]

/-! ## The reference station -/

/-- Station `id` comes into use in place of another (R271). -/
def Blk.StationChanges (b : Blk) (id : Nat) : Prop :=
  (∃ e ∈ b.gnss.stations, e.2 ≠ none) ∧ b.fld F.GNSS_RTCM_STAT_STATION 0 ≠ id

/-- What the use of a station leaves of the receiver. -/
structure Blk.UsesStation (id : Nat) (a b : Blk) : Prop where
  within : a.Within RtcmReg b
  station : b.fld F.GNSS_RTCM_STAT_STATION 0 = id
  accept : b.fld F.GNSS_RTCM_CNT_ACCEPT 0 = a.fld F.GNSS_RTCM_CNT_ACCEPT 0
  refix : a.StationChanges id → b.gnss.refix = true
  kept : ¬ a.StationChanges id → b.gnss.refix = a.gnss.refix ∧ b.gnss.chans = a.gnss.chans
  rest : { a.gnss with refix := b.gnss.refix, chans := b.gnss.chans } = b.gnss

theorem Blk.useStation_spec (b : Blk) {id : Nat} (hid : id < 4096) : b.UsesStation id (b.useStation id) := by
  have hon := (Blk.RegsOnly.refl b).setFld F.GNSS_RTCM_STAT_STATION 0 id
  have hw : b.Within RtcmReg (b.setFld F.GNSS_RTCM_STAT_STATION 0 id) := (Blk.Within.refl b).setFld ⟨rfl, by decide⟩
  have hst : (b.setFld F.GNSS_RTCM_STAT_STATION 0 id).fld F.GNSS_RTCM_STAT_STATION 0 = id := by
    rw [Blk.fld_setFld_self _ _ _ _ (by decide)]
    exact Nat.mod_eq_of_lt hid
  have hacc : (b.setFld F.GNSS_RTCM_STAT_STATION 0 id).fld F.GNSS_RTCM_CNT_ACCEPT 0 = b.fld F.GNSS_RTCM_CNT_ACCEPT 0 :=
    b.fld_setFld_of_apart _ _ (by decide) (by decide)
  have hchanged : ((b.gnss.stations.any fun s => s.2.isSome) && b.fld F.GNSS_RTCM_STAT_STATION 0 != id) = true ↔
      b.StationChanges id := by
    simp [Blk.StationChanges, Option.isSome_iff_ne_none]
  unfold Blk.useStation
  dsimp only
  generalize ((b.gnss.stations.any fun s => s.2.isSome) && b.fld F.GNSS_RTCM_STAT_STATION 0 != id) = changed at hchanged ⊢
  generalize b.setFld F.GNSS_RTCM_STAT_STATION 0 id = c at *
  have hg := hon.gnss
  cases changed
  · rw [if_neg Bool.false_ne_true]
    have hno : ¬ b.StationChanges id := fun h => nomatch hchanged.mpr h
    exact ⟨hw, hst, hacc, fun h => absurd h hno, fun _ => by rw [hg]; exact ⟨rfl, rfl⟩, by rw [hg]⟩
  · rw [if_pos rfl]
    refine ⟨hw.units, (c.fld_withGnss ..).trans hst, (c.fld_withGnss ..).trans hacc, fun _ => rfl, fun h => absurd (hchanged.mp rfl) h, ?_⟩
    rw [← hg]

/-! ## A frame -/

theorem rtcmBits_lt (m : List Byte) (off n : Nat) : rtcmBits m off n < 2 ^ n := Nat.mod_lt _ (Nat.two_pow_pos n)

theorem epochOver_congr {a b : Blk} (htb : b.tb1 = a.tb1) (hat : b.gnss.epochAt = a.gnss.epochAt) (hf : b.gnss.final = a.gnss.final) :
    b.epochOver = a.epochOver := by
  unfold Blk.epochOver
  rw [hat, hf, htb]

theorem Blk.Within.tb1 {R : RegName → Nat → Prop} {a b : Blk} (h : a.Within R b) (hlo : ¬ R .TB_VALUE_LO 1) (hhi : ¬ R .TB_VALUE_HI 1) :
    b.tb1 = a.tb1 := h.reg64 hlo hhi

/-- What changes of the receiver when messages join epochs. -/
theorem Blk.joinsEpoch_spec (l : List (Nat × Nat × List Byte)) (b : Blk) : let c := l.foldl (fun b h => b.joinEpoch h.2.1 h.2.2) b
    (∀ R, b.Within R c) ∧ c.gnss.stations = b.gnss.stations ∧ c.gnss.held = b.gnss.held ∧ c.gnss.refix = b.gnss.refix ∧
      ∀ f i, c.fld f i = b.fld f i := by
  induction l generalizing b with
  | nil => exact ⟨fun _ => .refl b, rfl, rfl, rfl, fun _ _ => rfl⟩
  | cons h l ih =>
    rw [List.foldl_cons, Blk.joinEpoch_eq]
    have hstations : (b.gnss.joined b.epochOver h.2.1 h.2.2).stations = b.gnss.stations := rfl
    have hheld : (b.gnss.joined b.epochOver h.2.1 h.2.2).held = b.gnss.held := rfl
    have hrefix : (b.gnss.joined b.epochOver h.2.1 h.2.2).refix = b.gnss.refix := rfl
    generalize b.gnss.joined b.epochOver h.2.1 h.2.2 = g at *
    obtain ⟨hw, hgnss, hfld⟩ := b.withGnss_spec g
    obtain ⟨hwc, hst, hh, hr, hf⟩ := ih { b with gnss := g }
    generalize ({ b with gnss := g } : Blk) = d at *
    rw [hgnss] at hst hh hr
    exact ⟨fun R => (hw R).trans (hwc R), hst.trans hstations, hh.trans hheld, hr.trans hrefix, fun f i => (hf f i).trans (hfld f i)⟩

/-- The receiver once the position of station `id` is known; the frames held for it wait no longer. -/
def GnssSt.located (g : GnssSt) (id : Nat) (m : List Byte) : GnssSt :=
  { g with stations := NMap.set g.stations id (some m) none, held := g.held.filter fun h => h.1 != id }

/-- A station's position becomes known: frames held for it join, and it is in use (R271). -/
theorem Blk.station_spec (b : Blk) (m : List Byte) {id : Nat} (hid : id < 4096) : let c := b.station m id
    b.Within RtcmReg c ∧ c.fld F.GNSS_RTCM_CNT_ACCEPT 0 = b.fld F.GNSS_RTCM_CNT_ACCEPT 0 ∧
      SMap.get c.gnss.stations id none = some m ∧ c.fld F.GNSS_RTCM_STAT_STATION 0 = id ∧ (∀ h ∈ c.gnss.held, h.1 ≠ id) ∧
      (∀ h, h.1 ≠ id → (h ∈ c.gnss.held ↔ h ∈ b.gnss.held)) ∧ (b.StationChanges id → c.gnss.refix = true) := by
  have huse := b.useStation_spec hid
  have heq : ∃ l : List (Nat × Nat × List Byte), b.station m id =
      l.foldl (fun b h => b.joinEpoch h.2.1 h.2.2) { b.useStation id with gnss := (b.useStation id).gnss.located id m } := ⟨_, rfl⟩
  obtain ⟨l, heq⟩ := heq
  rw [heq]
  generalize b.useStation id = c at *
  have hheld : c.gnss.held = b.gnss.held := by rw [← huse.rest]
  have hstations : (c.gnss.located id m).stations = NMap.set c.gnss.stations id (some m) none := rfl
  have hheldg : (c.gnss.located id m).held = c.gnss.held.filter fun h => h.1 != id := rfl
  have hrefix : (c.gnss.located id m).refix = c.gnss.refix := rfl
  generalize c.gnss.located id m = g at *
  obtain ⟨hw, hgnss, hfld⟩ := c.withGnss_spec g
  generalize ({ c with gnss := g } : Blk) = d at *
  obtain ⟨hwe, hst, hh, hr, hf⟩ := d.joinsEpoch_spec l
  generalize l.foldl (fun b h => b.joinEpoch h.2.1 h.2.2) d = e at *
  rw [hgnss] at hst hh hr
  refine ⟨(huse.within.trans (hw _)).trans (hwe _), (hf ..).trans ((hfld ..).trans huse.accept), ?_, (hf ..).trans ((hfld ..).trans huse.station),
    fun h hm => ?_, fun h hne => ?_, fun hc => ?_⟩
  · rw [hst, hstations, NMap.get_set_self]
  · rw [hh, hheldg] at hm
    simpa using (List.mem_filter.mp hm).2
  · rw [hh, hheldg, hheld, List.mem_filter]
    simp [hne]
  · rw [hr, hrefix, huse.refix hc]

theorem Blk.UsesStation.epochOver {id : Nat} {a b : Blk} (h : a.UsesStation id b) : b.epochOver = a.epochOver :=
  epochOver_congr (h.within.tb1 (by simp [RtcmReg]) (by simp [RtcmReg])) (by rw [← h.rest]) (by rw [← h.rest])

/-- A multiple-signal message of a station whose position is known joins the epoch (R271). -/
theorem Blk.msm_spec (b : Blk) (at_ : Nat) (m : List Byte) {id : Nat} (hid : id < 4096) {ended : Prop} [Decidable ended]
    (hended : b.EpochEnded ↔ ended) :
    let c := (b.useStation id).joinEpoch at_ m
    b.Within RtcmReg c ∧ c.fld F.GNSS_RTCM_CNT_ACCEPT 0 = b.fld F.GNSS_RTCM_CNT_ACCEPT 0 ∧
      c.gnss.epoch = (if ended then [] else b.gnss.epoch) ++ [m] ∧
      c.gnss.epochAt = some (if ended then at_ else b.gnss.epochAt.getD at_) ∧ c.gnss.final = (rtcmBits m 54 1 == 0) ∧
      c.gnss.corrAt = (if ended then b.gnss.epochAt else b.gnss.corrAt) ∧ c.fld F.GNSS_RTCM_STAT_STATION 0 = id ∧
      (b.StationChanges id → c.gnss.refix = true) ∧
      (¬ b.StationChanges id → c.gnss.refix = b.gnss.refix ∧ c.gnss.chans = b.gnss.chans) := by
  have huse := b.useStation_spec hid
  have hover := huse.epochOver
  have hended : (b.epochOver = true) = ended := propext (Blk.epochOver_iff.trans hended)
  rw [Blk.joinEpoch_eq]
  generalize b.useStation id = c at *
  have hepoch : c.gnss.epoch = b.gnss.epoch ∧ c.gnss.epochAt = b.gnss.epochAt ∧ c.gnss.corrAt = b.gnss.corrAt := by
    rw [← huse.rest]
    exact ⟨rfl, rfl, rfl⟩
  obtain ⟨hepoch, hat, hcorr⟩ := hepoch
  obtain ⟨hw, hgnss, hfld⟩ := c.withGnss_spec (c.gnss.joined c.epochOver at_ m)
  generalize ({ c with gnss := c.gnss.joined c.epochOver at_ m } : Blk) = d at *
  have hrefix : (c.gnss.joined c.epochOver at_ m).refix = c.gnss.refix ∧ (c.gnss.joined c.epochOver at_ m).chans = c.gnss.chans := ⟨rfl, rfl⟩
  dsimp only
  rw [hgnss, hrefix.1, hrefix.2]
  refine ⟨huse.within.trans (hw _), (hfld ..).trans huse.accept, ?_, ?_, rfl, ?_, (hfld ..).trans huse.station, huse.refix, huse.kept⟩
  · simp only [GnssSt.joined, hover, hepoch, hended]
  · simp only [GnssSt.joined, hover, hat, hended]
  · simp only [GnssSt.joined, hover, hat, hcorr, hended]

/-! ## RTCM_FRAME by what the frame is -/

/-- From `a` to `b` a frame is discarded. -/
def Blk.Discards (a b : Blk) : Prop := b.fld F.GNSS_RTCM_CNT_DISCARD 0 = min (a.fld F.GNSS_RTCM_CNT_DISCARD 0 + 1) 65535 ∧
  b.gnss = a.gnss ∧ RegsKeptBut (fun r i => i = 0 ∧ r ∈ [RegName.GNSS_RTCM_CNT]) a b ∧ MemKept a b

theorem Blk.discards_addSat (b : Blk) : b.Discards (b.addSat F.GNSS_RTCM_CNT_DISCARD 0 1) := by
  have hw : b.Within (fun r i => i = 0 ∧ r ∈ [RegName.GNSS_RTCM_CNT]) (b.addSat F.GNSS_RTCM_CNT_DISCARD 0 1) :=
    (Blk.Within.refl b).addSat ⟨rfl, .head _⟩
  refine ⟨?_, b.addSat_gnss .., hw.regs, hw.memKept⟩
  rw [Blk.addSat, Blk.fld_setFld_self _ _ _ _ (by decide)]
  exact Nat.mod_eq_of_lt (Nat.lt_of_le_of_lt (Nat.min_le_right ..) (by decide))

/-- What an accepted message does once it is counted. -/
def Blk.rtcmTaken (b : Blk) (m : List Byte) : Blk :=
  let n := rtcmBits m 0 12
  let id := rtcmBits m 12 12
  if n = 1005 ∨ n = 1006 then b.station m id
  else if isMsm n = true then
    if (SMap.get b.gnss.stations id none).isSome = true then (b.useStation id).joinEpoch b.tb1 m
    else { b with gnss := { b.gnss with held := b.gnss.held ++ [(id, b.tb1, m)] } }
  else b

theorem Blk.rtcmFrame_of_bad {b : Blk} {f : List Byte} (hon : b.gnssOn = true) (h : rtcmMessage f = none) :
    b.rtcmFrame f = b.addSat F.GNSS_RTCM_CNT_DISCARD 0 1 := by
  rw [Blk.rtcmFrame, Blk.when_of _ hon, h]

theorem Blk.rtcmFrame_of_unknown {b : Blk} {f m : List Byte} (hon : b.gnssOn = true) (h : rtcmMessage f = some m)
    (hn : rtcmAccepted (rtcmBits m 0 12) = false) : b.rtcmFrame f = b.addSat F.GNSS_RTCM_CNT_DISCARD 0 1 := by
  rw [Blk.rtcmFrame, Blk.when_of _ hon, h]
  dsimp only
  rw [if_pos (by simp [hn])]

theorem Blk.rtcmFrame_of_accepted {b : Blk} {f m : List Byte} (hon : b.gnssOn = true) (h : rtcmMessage f = some m)
    (hn : rtcmAccepted (rtcmBits m 0 12) = true) : b.rtcmFrame f = (b.incFld F.GNSS_RTCM_CNT_ACCEPT 0).rtcmTaken m := by
  rw [Blk.rtcmFrame, Blk.when_of _ hon, h]
  dsimp only
  rw [if_neg (by simp [hn])]
  rfl

theorem isMsm_not_position {n : Nat} (h : isMsm n = true) : ¬ (n = 1005 ∨ n = 1006) ∧ ¬ (n = 1033 ∨ n = 1230) := by
  simp only [isMsm, Bool.and_eq_true, decide_eq_true_eq] at h
  omega

/-- The claim on a message that is accepted, from the block `a` in which it is counted. -/
theorem Blk.rtcmTaken_spec (a : Blk) (m : List Byte) {ended : Prop} [Decidable ended] (hended : a.EpochEnded ↔ ended) :
    let b := a.rtcmTaken m
    let n := rtcmBits m 0 12
    let id := rtcmBits m 12 12
    let known := SMap.get a.gnss.stations id none ≠ none
    a.Within RtcmReg b ∧ b.fld F.GNSS_RTCM_CNT_ACCEPT 0 = a.fld F.GNSS_RTCM_CNT_ACCEPT 0 ∧
      (isMsm n = true → known →
        b.gnss.epoch = (if ended then [] else a.gnss.epoch) ++ [m] ∧
        b.gnss.epochAt = some (if ended then a.tb1 else a.gnss.epochAt.getD a.tb1) ∧
        b.gnss.final = (rtcmBits m 54 1 == 0) ∧ b.gnss.corrAt = (if ended then a.gnss.epochAt else a.gnss.corrAt) ∧
        b.fld F.GNSS_RTCM_STAT_STATION 0 = id ∧ (a.StationChanges id → b.gnss.refix = true) ∧
        (¬ a.StationChanges id → b.gnss.refix = a.gnss.refix ∧ b.gnss.chans = a.gnss.chans)) ∧
      (isMsm n = true → ¬ known → b.gnss = { a.gnss with held := a.gnss.held ++ [(id, a.tb1, m)] }) ∧
      (n = 1005 ∨ n = 1006 → SMap.get b.gnss.stations id none = some m ∧ b.fld F.GNSS_RTCM_STAT_STATION 0 = id ∧
        (∀ h ∈ b.gnss.held, h.1 ≠ id) ∧ (∀ h, h.1 ≠ id → (h ∈ b.gnss.held ↔ h ∈ a.gnss.held)) ∧
        (a.StationChanges id → b.gnss.refix = true)) ∧
      (n = 1033 ∨ n = 1230 → b = a) := by
  have hid : rtcmBits m 12 12 < 4096 := rtcmBits_lt m 12 12
  unfold Blk.rtcmTaken
  dsimp only
  generalize rtcmBits m 12 12 = id at *
  generalize rtcmBits m 0 12 = n at *
  by_cases hpos : n = 1005 ∨ n = 1006
  · rw [if_pos hpos]
    obtain ⟨hw, hacc, hst⟩ := a.station_spec m hid
    exact ⟨hw, hacc, fun h => absurd hpos (isMsm_not_position h).1, fun h => absurd hpos (isMsm_not_position h).1, fun _ => hst,
      fun h => by omega⟩
  · rw [if_neg hpos]
    by_cases hmsm : isMsm n = true
    · rw [if_pos hmsm]
      have hother := (isMsm_not_position hmsm).2
      by_cases hk : SMap.get a.gnss.stations id none = none
      · rw [if_neg (by simp [hk])]
        exact ⟨.units (.refl a), a.fld_withGnss .., fun _ h => absurd hk h, fun _ _ => rfl, fun h => absurd h hpos, fun h => absurd h hother⟩
      · rw [if_pos (Option.isSome_iff_ne_none.mpr hk)]
        obtain ⟨hw, hacc, hall⟩ := a.msm_spec a.tb1 m hid hended
        exact ⟨hw, hacc, fun _ _ => hall, fun _ h => absurd hk h, fun h => absurd h hpos, fun h => absurd h hother⟩
    · rw [if_neg hmsm]
      exact ⟨.refl a, rfl, fun h => absurd h hmsm, fun h => absurd h hmsm, fun h => absurd h hpos, fun _ => rfl⟩

theorem rtcmFrame_completes (s : State) (f : List Byte) (hon : s.blk.gnssOn = true) {ended : Prop} [Decidable ended]
    (hended : s.blk.EpochEnded ↔ ended) : Completes (.rtcmFrame f) s fun b =>
      (rtcmMessage f = none → s.blk.Discards b) ∧
      (∀ m, rtcmMessage f = some m →
        let n := rtcmBits m 0 12
        let id := rtcmBits m 12 12
        let known := SMap.get s.blk.gnss.stations id none ≠ none
        (rtcmAccepted n = false → s.blk.Discards b) ∧
        (rtcmAccepted n = true →
          b.fld F.GNSS_RTCM_CNT_ACCEPT 0 = (s.blk.fld F.GNSS_RTCM_CNT_ACCEPT 0 + 1) % 65536 ∧
          (RegsKeptBut RtcmReg s.blk b ∧ MemKept s.blk b) ∧
          (isMsm n = true → known →
            b.gnss.epoch = (if ended then [] else s.blk.gnss.epoch) ++ [m] ∧
            b.gnss.epochAt = some (if ended then s.blk.tb1 else s.blk.gnss.epochAt.getD s.blk.tb1) ∧
            b.gnss.final = (rtcmBits m 54 1 == 0) ∧ b.gnss.corrAt = (if ended then s.blk.gnss.epochAt else s.blk.gnss.corrAt) ∧
            b.fld F.GNSS_RTCM_STAT_STATION 0 = id ∧ (s.blk.StationChanges id → b.gnss.refix = true) ∧
            (¬ s.blk.StationChanges id → b.gnss.refix = s.blk.gnss.refix ∧ b.gnss.chans = s.blk.gnss.chans)) ∧
          (isMsm n = true → ¬ known → b.gnss = { s.blk.gnss with held := s.blk.gnss.held ++ [(id, s.blk.tb1, m)] }) ∧
          (n = 1005 ∨ n = 1006 → SMap.get b.gnss.stations id none = some m ∧ b.fld F.GNSS_RTCM_STAT_STATION 0 = id ∧
            (∀ h ∈ b.gnss.held, h.1 ≠ id) ∧ (∀ h, h.1 ≠ id → (h ∈ b.gnss.held ↔ h ∈ s.blk.gnss.held)) ∧
            (s.blk.StationChanges id → b.gnss.refix = true)) ∧
          (n = 1033 ∨ n = 1230 → b.gnss = s.blk.gnss ∧ RegsKeptBut (fun r i => i = 0 ∧ r ∈ [RegName.GNSS_RTCM_CNT]) s.blk b ∧
            MemKept s.blk b))) := by
  cases hm : rtcmMessage f with
  | none =>
    exact .of_run (f := fun b => b.rtcmFrame f) rfl (Blk.rtcmFrame_of_bad hon hm) ⟨fun _ => s.blk.discards_addSat, fun m h => nomatch h⟩
  | some m =>
    cases hn : rtcmAccepted (rtcmBits m 0 12) with
    | false =>
      refine .of_run (f := fun b => b.rtcmFrame f) rfl (Blk.rtcmFrame_of_unknown hon hm hn) ⟨fun h => (nomatch h), fun m' h => ?_⟩
      obtain rfl := Option.some.inj h
      exact ⟨fun _ => s.blk.discards_addSat, fun h => nomatch hn.symm.trans h⟩
    | true =>
      refine .of_run (f := fun b => b.rtcmFrame f) rfl (Blk.rtcmFrame_of_accepted hon hm hn) ⟨fun h => (nomatch h), fun m' h => ?_⟩
      obtain rfl := Option.some.inj h
      refine ⟨fun h => (nomatch hn.symm.trans h), fun _ => ?_⟩
      have hcnt : (s.blk.incFld F.GNSS_RTCM_CNT_ACCEPT 0).fld F.GNSS_RTCM_CNT_ACCEPT 0 = (s.blk.fld F.GNSS_RTCM_CNT_ACCEPT 0 + 1) % 65536 :=
        s.blk.fld_setFld_self _ _ _ (by decide)
      have hw : s.blk.Within (fun r i => i = 0 ∧ r ∈ [RegName.GNSS_RTCM_CNT]) (s.blk.incFld F.GNSS_RTCM_CNT_ACCEPT 0) :=
        (Blk.Within.refl s.blk).incFld ⟨rfl, .head _⟩
      have hg : (s.blk.incFld F.GNSS_RTCM_CNT_ACCEPT 0).gnss = s.blk.gnss := s.blk.incFld_gnss ..
      generalize s.blk.incFld F.GNSS_RTCM_CNT_ACCEPT 0 = a at *
      have htb1 : a.tb1 = s.blk.tb1 := hw.tb1 (by simp) (by simp)
      have hst : a.fld F.GNSS_RTCM_STAT_STATION 0 = s.blk.fld F.GNSS_RTCM_STAT_STATION 0 := hw.fld F.GNSS_RTCM_STAT_STATION 0 (by simp)
      have hepoch : a.EpochEnded ↔ ended := by
        rw [← hended, Blk.EpochEnded, Blk.EpochEnded, hg, htb1]
      obtain ⟨hwt, hacc, hmsm, hheld, hpos, helse⟩ := a.rtcmTaken_spec m hepoch
      have hall : s.blk.Within RtcmReg (a.rtcmTaken m) :=
        (hw.mono fun r i hr => ⟨hr.1, List.mem_append_left [RegName.GNSS_RTCM_STAT] hr.2⟩).trans hwt
      simp only [Blk.StationChanges, hg, hst, htb1] at hmsm hheld hpos
      refine ⟨hacc.trans hcnt, ⟨hall.regs, hall.memKept⟩, hmsm, hheld, hpos, fun h => ?_⟩
      rw [helse h]
      exact ⟨hg, hw.regs, hw.memKept⟩

end Sys2Proof.Machine
end

section
/-!
PROOFS. PPS_OUT, NMEA, the enabling of the receiver and its antennas (R277, R279, R281, R432), and the commands together (O49).
-/

namespace Sys2Proof.Machine

open Sys2Proof.Claims

/-! ## PPS and NMEA -/

theorem Blk.ppsDriven_withGnss (b : Blk) (g : GnssSt) : ({ b with gnss := g } : Blk).ppsDriven = b.ppsDriven := rfl

theorem ppsSecond_completes (s : State) (ha : s.blk.aonRuns = true) (hd : s.blk.ppsDriven = true)
    (hsec : s.blk.gnss.ppsSec < s.blk.tb 0 / 1000000000) (hwas : s.blk.tbu.tb0Was / 1000000000 < s.blk.tb 0 / 1000000000) :
    Completes .ppsSecond s fun b => b.ppsOut = true ∧
      b.gnss = { s.blk.gnss with pps := true, ppsSec := s.blk.tb 0 / 1000000000 } ∧ RegsKept s.blk b ∧ MemKept s.blk b := by
  refine .of_run (f := Blk.ppsSecond) rfl (Blk.when_of _ (by simp [ha, hd, hsec, hwas])) ⟨?_, rfl, fun _ _ => rfl, fun _ => rfl, fun _ => rfl⟩
  rw [Blk.ppsOut, Bool.or_true]

theorem ppsWidthEnd_completes (s : State) (ha : s.blk.aonRuns = true) (hd : s.blk.ppsDriven = true)
    (hend : s.blk.gnss.ppsSec * 1000000000 + max 1 (min 500 (s.blk.fld F.GNSS_PPS_WIDTH_MS 0)) * 1000000 ≤ s.blk.tb 0) :
    Completes .ppsWidthEnd s fun b => b.ppsOut = false ∧ b.gnss = { s.blk.gnss with pps := false } ∧ RegsKept s.blk b ∧
      MemKept s.blk b := by
  have hrun : s.blk.ppsWidthEnd = { s.blk with gnss := { s.blk.gnss with pps := false } } := by
    unfold Blk.ppsWidthEnd
    dsimp only
    rw [Blk.when_of _ (by rw [ha, hd, decide_eq_true hend]; rfl)]
  refine .of_run (f := Blk.ppsWidthEnd) rfl hrun
    ⟨?_, rfl, fun _ _ => rfl, fun _ => rfl, fun _ => rfl⟩
  rw [Blk.ppsOut, Blk.ppsDriven_withGnss, hd]
  rfl

/-- A frame of an Ethernet port leaves, waits for the link, or does not arise (R339). -/
theorem Blk.ethSend_spec (b : Blk) (e : Nat) (o : EthOut) : let c := b.ethSend e o
    let open_ := b.flag F.ETH_CTRL_EN e = true ∧ b.ethRuns = true
    { b with net := c.net } = c ∧
      (open_ → b.flag F.ETH_STATUS_LINK e = true → SMap.get c.net.wire e [] = SMap.get b.net.wire e [] ++ [o]) ∧
      (open_ → b.flag F.ETH_STATUS_LINK e = false → SMap.get c.net.ethQ e [] = SMap.get b.net.ethQ e [] ++ [o]) ∧
      (¬ open_ → c.net = b.net) := by
  unfold Blk.ethSend
  dsimp only
  split
  case isTrue hopen =>
    split
    case isTrue hlink =>
      exact ⟨rfl, fun _ _ => NMap.get_set_self .., fun _ h => absurd (hlink.symm.trans h) (by simp), fun h => absurd hopen h⟩
    case isFalse hlink => exact ⟨rfl, fun _ h => absurd h hlink, fun _ _ => NMap.get_set_self .., fun h => absurd hopen h⟩
  case isFalse hopen => exact ⟨rfl, fun h => absurd h hopen, fun h => absurd h hopen, fun _ => rfl⟩

/-- The datagram of an output epoch (R279). -/
def Blk.nmeaFrame (b : Blk) : EthOut :=
  .udp ⟨allNodes, b.fld F.GNSS_NMEA_PORT 0, b.fld F.GNSS_NMEA_PORT 0, nmeaDatagram ⟨b.gnss.nav,
    if b.tbValid 0 then some b.utcNs.toNat else none, b.fld F.GNSS_RTCM_STAT_STATION 0⟩ (b.fld F.GNSS_NMEA_SENT 0)⟩

theorem Blk.nmeaOutput_eq {b : Blk} (hr : b.gnssRuns = true) (hsent : b.fld F.GNSS_NMEA_SENT 0 ≠ 0)
    (hwas : b.nmeaEpoch b.tbu.tb0Was < b.nmeaEpoch (b.tb 0)) (hnew : b.nmeaEpoch (b.tb 0) ≠ b.gnss.nmea) : b.nmeaOutput =
      Blk.ethSend { b with gnss := { b.gnss with nmea := b.nmeaEpoch (b.tb 0) } } (b.fld F.GNSS_NMEA_ETH 0) b.nmeaFrame := by
  unfold Blk.nmeaOutput
  dsimp only
  rw [Blk.when_of _ (by simp [hr, hsent, hwas, hnew])]
  simp only [Blk.fld_withGnss, Blk.nmeaFrame]

theorem nmeaOutput_completes (s : State) (hr : s.blk.gnssRuns = true) (hsent : s.blk.fld F.GNSS_NMEA_SENT 0 ≠ 0)
    (hwas : s.blk.nmeaEpoch s.blk.tbu.tb0Was < s.blk.nmeaEpoch (s.blk.tb 0))
    (hnew : s.blk.nmeaEpoch (s.blk.tb 0) ≠ s.blk.gnss.nmea) : Completes .nmeaOutput s fun b =>
      let e := s.blk.fld F.GNSS_NMEA_ETH 0
      let port := s.blk.fld F.GNSS_NMEA_PORT 0
      let utc := if s.blk.tbValid 0 then some s.blk.utcNs.toNat else none
      let out := EthOut.udp ⟨allNodes, port, port, nmeaDatagram ⟨s.blk.gnss.nav, utc, s.blk.fld F.GNSS_RTCM_STAT_STATION 0⟩
        (s.blk.fld F.GNSS_NMEA_SENT 0)⟩
      let open_ := s.blk.flag F.ETH_CTRL_EN e = true ∧ s.blk.ethRuns = true
      b.gnss = { s.blk.gnss with nmea := s.blk.nmeaEpoch (s.blk.tb 0) } ∧ RegsKept s.blk b ∧ MemKept s.blk b ∧
        (open_ → s.blk.flag F.ETH_STATUS_LINK e = true → SMap.get b.net.wire e [] = SMap.get s.blk.net.wire e [] ++ [out]) ∧
        (open_ → s.blk.flag F.ETH_STATUS_LINK e = false → SMap.get b.net.ethQ e [] = SMap.get s.blk.net.ethQ e [] ++ [out]) ∧
        (¬ open_ → b.net = s.blk.net) := by
  refine .of_run (f := Blk.nmeaOutput) rfl (Blk.nmeaOutput_eq hr hsent hwas hnew) ?_
  have hin : ∀ g, ({ s.blk with gnss := g } : Blk).gnss = g ∧ ({ s.blk with gnss := g } : Blk).net = s.blk.net ∧
      ({ s.blk with gnss := g } : Blk).regs = s.blk.regs ∧ (∀ R, s.blk.Within R { s.blk with gnss := g }) ∧
      ({ s.blk with gnss := g } : Blk).ethRuns = s.blk.ethRuns := fun _ => ⟨rfl, rfl, rfl, fun _ => .units (.refl s.blk), rfl⟩
  have hframe : s.blk.nmeaFrame = .udp ⟨allNodes, s.blk.fld F.GNSS_NMEA_PORT 0, s.blk.fld F.GNSS_NMEA_PORT 0,
      nmeaDatagram ⟨s.blk.gnss.nav, if s.blk.tbValid 0 then some s.blk.utcNs.toNat else none, s.blk.fld F.GNSS_RTCM_STAT_STATION 0⟩
        (s.blk.fld F.GNSS_NMEA_SENT 0)⟩ := rfl
  dsimp only
  rw [← hframe]
  generalize s.blk.nmeaFrame = out
  generalize ({ s.blk.gnss with nmea := s.blk.nmeaEpoch (s.blk.tb 0) } : GnssSt) = g
  generalize s.blk.fld F.GNSS_NMEA_ETH 0 = e
  obtain ⟨hg, hnet, hregs, hw, heth⟩ := hin g
  generalize ({ s.blk with gnss := g } : Blk) = c at *
  obtain ⟨hrest, hwire, hq, hclosed⟩ := c.ethSend_spec e out
  generalize c.ethSend e out = d at *
  have hkept : c.Within (fun _ _ => False) d := .of_same (by rw [← hrest]) (by rw [← hrest]) (by rw [← hrest])
  have hall := (hw _).trans hkept
  have hflag : ∀ f, c.flag f e = s.blk.flag f e := fun f => Blk.flag_congr (Blk.reg_congr hregs ..)
  rw [hflag, heth] at hclosed
  simp only [hflag, heth, hnet] at hwire hq hclosed
  refine ⟨?_, hall.regsKept, hall.memKept, hwire, hq, hclosed⟩
  rw [← hrest, hg]

/-! ## Enabling -/

theorem Blk.chan_setChan_self (b : Blk) (c : Nat) (x : ChanSt) : (b.setChan c x).chan c = x := NMap.get_set_self ..

theorem Blk.chan_setChan_of_ne (b : Blk) {c d : Nat} (x : ChanSt) (h : d ≠ c) : (b.setChan c x).chan d = b.chan d :=
  NMap.get_set_of_ne _ _ _ h

theorem Blk.chan_congr {a b : Blk} (h : b.gnss.chans = a.gnss.chans) (c : Nat) : b.chan c = a.chan c := by rw [Blk.chan, h, Blk.chan]

theorem Blk.chState_setChan (b : Blk) (c d : Nat) (x : ChanSt) : (b.setChan c x).chState d = b.chState d := Blk.fld_congr rfl _ d

/-- Channel `c` starts in ACQ (R281). -/
def Blk.startChan (b : Blk) (c : Nat) : Blk := (b.setFld F.CH_STATUS_STATE c 1).setChan c { b.chan c with since := b.tb1, stop := false }

theorem Blk.startChan_spec (b : Blk) (c : Nat) : let d := b.startChan c
    d.chState c = 1 ∧ d.chan c = { b.chan c with since := b.tb1, stop := false } ∧ (∀ k, k ≠ c → d.chan k = b.chan k) ∧
      b.Within (fun r i => r = .CH_STATUS ∧ i = c) d := by
  have hw : b.Within (fun r i => r = .CH_STATUS ∧ i = c) (b.setFld F.CH_STATUS_STATE c 1) := (Blk.Within.refl b).setFld ⟨rfl, rfl⟩
  have hstate : (b.setFld F.CH_STATUS_STATE c 1).fld F.CH_STATUS_STATE c = 1 := by
    rw [Blk.fld_setFld_self _ _ _ _ (by decide)]
    rfl
  have hg := (b.setFld_gnss F.CH_STATUS_STATE c 1)
  unfold Blk.startChan
  generalize b.setFld F.CH_STATUS_STATE c 1 = a at *
  exact ⟨(a.chState_setChan ..).trans hstate, Blk.chan_setChan_self ..,
    fun k hk => (a.chan_setChan_of_ne _ hk).trans (Blk.chan_congr (by rw [hg]) k), hw.units⟩

theorem Blk.startChans_spec (n : Nat) (b : Blk) : let d := (List.range n).foldl Blk.startChan b
    (∀ c, c < n → d.chState c = 1 ∧ d.chan c = { b.chan c with since := b.tb1, stop := false }) ∧
      (∀ c, n ≤ c → d.chan c = b.chan c) ∧ b.Within (fun r _ => r = .CH_STATUS) d := by
  induction n with
  | zero => exact ⟨fun c h => absurd h (by omega), fun _ _ => rfl, .refl b⟩
  | succ n ih =>
    rw [List.range_succ, List.foldl_append, List.foldl_cons, List.foldl_nil]
    obtain ⟨hstart, hlater, hw⟩ := ih
    generalize (List.range n).foldl Blk.startChan b = d at *
    obtain ⟨hstate, hchan, hother, hwd⟩ := d.startChan_spec n
    have htb1 : d.tb1 = b.tb1 := hw.tb1 (by simp) (by simp)
    generalize d.startChan n = e at *
    refine ⟨fun c hc => ?_, fun c hc => (hother c (by omega)).trans (hlater c (by omega)), hw.trans (hwd.mono fun r i hr => hr.1)⟩
    by_cases hcn : c = n
    · subst hcn
      exact ⟨hstate, by rw [hchan, hlater c (Nat.le_refl c), htb1]⟩
    · obtain ⟨hs, hch⟩ := hstart c (by omega)
      exact ⟨(hwd.fld F.CH_STATUS_STATE c (by simp [hcn])).trans hs, (hother c hcn).trans hch⟩

theorem gnssEnable_completes (s : State) (ha : s.blk.aonRuns = true) : Completes .gnssEnable s fun b =>
    let starts := s.blk.flag F.GNSS_CTRL_EN 0 = false ∧ s.blk.flag F.GNSS_CTRL_HOST 0 = true
    b.flag F.GNSS_CTRL_EN 0 = true ∧
      (starts → (∀ c, c < 384 → b.chState c = 1 ∧ b.chan c = { s.blk.chan c with since := s.blk.tb1, stop := false }) ∧
        RegsKeptBut (fun r i => (r = .GNSS_CTRL ∧ i = 0) ∨ r = .CH_STATUS) s.blk b) ∧
      (¬ starts → b.gnss = s.blk.gnss ∧ RegsKeptBut (fun r i => i = 0 ∧ r ∈ [RegName.GNSS_CTRL]) s.blk b ∧ MemKept s.blk b) ∧
      MemKept s.blk b := by
  have hon := (Blk.RegsOnly.refl s.blk).setFld F.GNSS_CTRL_EN 0 1
  have hw : s.blk.Within (fun r i => i = 0 ∧ r ∈ [RegName.GNSS_CTRL]) (s.blk.setFld F.GNSS_CTRL_EN 0 1) :=
    (Blk.Within.refl s.blk).setFld ⟨rfl, .head _⟩
  have hen : (s.blk.setFld F.GNSS_CTRL_EN 0 1).flag F.GNSS_CTRL_EN 0 = true := Blk.flag_setFld_one _ _ _ (by decide) (by decide)
  have hhost : (s.blk.setFld F.GNSS_CTRL_EN 0 1).flag F.GNSS_CTRL_HOST 0 = s.blk.flag F.GNSS_CTRL_HOST 0 :=
    Blk.flag_setFld_of_apart _ _ _ (by decide) (by decide)
  have hrun : s.blk.gnssEnable = (s.blk.setFld F.GNSS_CTRL_EN 0 1).when
      (!s.blk.flag F.GNSS_CTRL_EN 0 && (s.blk.setFld F.GNSS_CTRL_EN 0 1).flag F.GNSS_CTRL_HOST 0) fun b =>
        (List.range 384).foldl Blk.startChan b := rfl
  rw [hhost] at hrun
  generalize s.blk.setFld F.GNSS_CTRL_EN 0 1 = a at *
  obtain ⟨hstart, -, hws⟩ := a.startChans_spec 384
  have htb1 : a.tb1 = s.blk.tb1 := hw.tb1 (by simp) (by simp)
  have hchan : ∀ c, a.chan c = s.blk.chan c := Blk.chan_congr (by rw [hon.gnss])
  by_cases hs : s.blk.flag F.GNSS_CTRL_EN 0 = false ∧ s.blk.flag F.GNSS_CTRL_HOST 0 = true
  · rw [Blk.when_of _ (by simp [hs.1, hs.2])] at hrun
    have hall : s.blk.Within (fun r i => (r = .GNSS_CTRL ∧ i = 0) ∨ r = .CH_STATUS) ((List.range 384).foldl Blk.startChan a) :=
      (hw.mono fun r i hr => .inl ⟨List.mem_singleton.mp hr.2, hr.1⟩).trans (hws.mono fun r i hr => .inr hr)
    refine .of_live ha rfl hrun ⟨(hws.flag F.GNSS_CTRL_EN 0 (by simp)).trans hen, fun _ => ⟨fun c hc => ?_, hall.regs⟩, fun h => absurd hs h,
      hall.memKept⟩
    rw [← hchan, ← htb1]
    exact hstart c hc
  · have hcond : (!s.blk.flag F.GNSS_CTRL_EN 0 && s.blk.flag F.GNSS_CTRL_HOST 0) = false := by
      rw [Bool.eq_false_iff]
      simpa using hs
    rw [hcond, Blk.when, if_neg Bool.false_ne_true] at hrun
    exact .of_live ha rfl hrun ⟨hen, fun h => absurd h hs, fun _ => ⟨hon.gnss, hw.regs, hw.memKept⟩, hw.memKept⟩

/-- Channel `c` stops at its next dump (R281). -/
def Blk.stopChan (b : Blk) (c : Nat) : Blk := if b.chState c = 0 then b else b.setChan c { b.chan c with stop := true }

theorem Blk.stopChans_spec (n : Nat) (b : Blk) : let d := (List.range n).foldl Blk.stopChan b
    (∀ c, c < n → b.chState c ≠ 0 → d.chan c = { b.chan c with stop := true }) ∧
      (∀ c, n ≤ c ∨ b.chState c = 0 → d.chan c = b.chan c) ∧ { b with gnss := { b.gnss with chans := d.gnss.chans } } = d := by
  induction n with
  | zero => exact ⟨fun c h => absurd h (by omega), fun _ _ => rfl, rfl⟩
  | succ n ih =>
    rw [List.range_succ, List.foldl_append, List.foldl_cons, List.foldl_nil]
    obtain ⟨hstop, hlater, hrest⟩ := ih
    generalize (List.range n).foldl Blk.stopChan b = d at *
    have hstate : ∀ c, d.chState c = b.chState c := fun c => Blk.fld_congr (by rw [← hrest]) ..
    unfold Blk.stopChan
    dsimp only
    split
    case isTrue h0 =>
      rw [hstate] at h0
      refine ⟨fun c hc hs => hstop c ?_ hs, fun c hc => hlater c ?_, hrest⟩
      · have : c ≠ n := fun e => hs (e ▸ h0)
        omega
      · obtain hc | hc := hc
        exacts [.inl (by omega), .inr hc]
    case isFalse h0 =>
      rw [hstate] at h0
      refine ⟨fun c hc hs => ?_, fun c hc => ?_, ?_⟩
      · by_cases hcn : c = n
        · subst hcn
          rw [Blk.chan_setChan_self, hlater c (.inl (Nat.le_refl c))]
        · exact (d.chan_setChan_of_ne _ hcn).trans (hstop c (by omega) hs)
      · have hcn : c ≠ n := by
          rintro rfl
          exact hc.elim (by omega) h0
        refine (d.chan_setChan_of_ne _ hcn).trans (hlater c ?_)
        obtain hc | hc := hc
        exacts [.inl (by omega), .inr hc]
      · rw [← hrest]
        rfl

/-- A receiver that is disabled, `a` being `o` with EN 0: its channels stop, and it loses the timing (R274, R281). -/
theorem Blk.stopChans_timeLost {o a : Blk} (hon : o.RegsOnly a) (hw : o.Within (fun r i => i = 0 ∧ r ∈ [RegName.GNSS_CTRL]) a)
    (hen : a.flag F.GNSS_CTRL_EN 0 = false) (err : Nat) : let b := ((List.range 384).foldl Blk.stopChan a).timeLost err
    b.flag F.GNSS_CTRL_EN 0 = false ∧ (∀ c, c < 384 → o.chState c ≠ 0 → b.chan c = { o.chan c with stop := true }) ∧
      (∀ c, c < 384 → o.chState c = 0 → b.chan c = o.chan c) ∧
      (o.timeState = 1 → o.EntersHoldover err b ∧
        RegsKeptBut (fun r i => (i = 0 ∧ r ∈ [.GNSS_CTRL, .GNSS_STATUS, .GNSS_HOLD_STAT]) ∨ RecReg r i) o b) ∧
      (o.timeState ≠ 1 → o.ReturnEnds b ∧ RegsKeptBut (fun r i => i = 0 ∧ r ∈ [RegName.GNSS_CTRL]) o b ∧ MemKept o b) ∧
      MemKept o b := by
  obtain ⟨hstop, hkept, hrest⟩ := a.stopChans_spec 384
  generalize (List.range 384).foldl Blk.stopChan a = d at *
  obtain ⟨hlocked, hother, hmem, hchans⟩ := d.timeLost_spec err
  have hchan : ∀ c, (d.timeLost err).chan c = d.chan c := Blk.chan_congr hchans
  generalize d.timeLost err = e at *
  have hregs : d.regs = a.regs := by rw [← hrest]
  have hwd : o.Within (fun r i => i = 0 ∧ r ∈ [RegName.GNSS_CTRL]) d :=
    hw.trans (.of_same hregs (by rw [← hrest]) (by rw [← hrest]))
  have halike : o.RecordsAlike d := by
    refine (hon.alike hw ?_).trans ⟨fun r i _ => Blk.reg_congr hregs r i, ?_, ?_, ?_⟩
    · rintro r i hr ⟨-, hc⟩
      obtain rfl := List.mem_singleton.mp hc
      exact absurd hr (by decide)
    all_goals rw [← hrest]
  have hlock : d.gnss.lockAt = o.gnss.lockAt := by rw [← hrest, ← hon.gnss]
  have htbu : d.tbu = o.tbu := by rw [← hrest, ← hon.tbu]
  have hstate : d.timeState = o.timeState := hwd.fld F.GNSS_STATUS_TIME_STATE 0 (by simp)
  have hvalid : d.tbValid 0 = o.tbValid 0 := by rw [Blk.tbValid, Blk.tbValid, hwd.fld F.TBU_STATUS_TB_VALID 0 (by simp)]
  have hch : ∀ c, a.chan c = o.chan c := Blk.chan_congr (by rw [hon.gnss])
  have hchs : ∀ c, a.chState c = o.chState c := fun c => hw.fld F.CH_STATUS_STATE c (by simp)
  have hdmem := hwd.memKept
  have hmemory : MemKept o e := ⟨fun x => (hmem.1 x).trans (hdmem.1 x), fun x => (hmem.2 x).trans (hdmem.2 x)⟩
  rw [hstate] at hlocked hother
  simp only [hch, hchs] at hstop hkept
  refine ⟨?_, fun c hc h => (hchan c).trans (hstop c hc h), fun c _ h => (hchan c).trans (hkept c (.inr h)),
    fun h1 => ?_, fun h1 => ?_, hmemory⟩
  · have hdf : d.flag F.GNSS_CTRL_EN 0 = false := (Blk.flag_congr (Blk.reg_congr hregs ..)).trans hen
    by_cases h1 : o.timeState = 1
    · exact ((hlocked h1).2.flag F.GNSS_CTRL_EN 0 (by simp [HoldReg, RecReg])).trans hdf
    · exact (Blk.flag_congr (Blk.reg_congr (hother h1).2 ..)).trans hdf
  · obtain ⟨henter, hwe⟩ := hlocked h1
    have hall : o.Within (fun r i => (i = 0 ∧ r ∈ [.GNSS_CTRL, .GNSS_STATUS, .GNSS_HOLD_STAT]) ∨ RecReg r i) e :=
      (hwd.mono fun r i hr => .inl ⟨hr.1, List.mem_append_left [RegName.GNSS_STATUS, .GNSS_HOLD_STAT] hr.2⟩).trans
        (hwe.mono fun r i hr => hr.imp (fun h => ⟨h.1, .tail _ h.2⟩) id)
    exact ⟨henter.of_alike halike hlock hvalid, hall.regs⟩
  · obtain ⟨⟨hst, hrec, hret, hsame⟩, hre⟩ := hother h1
    rw [hstate, htbu] at hret hsame
    exact ⟨⟨hst.trans hstate, ⟨hrec.1.trans halike.mod, hrec.2.trans halike.jrn⟩, hret, hsame⟩,
      hwd.regs.trans (.of_regs hre), hmemory⟩

theorem gnssDisable_completes (s : State) (err : Nat) (ha : s.blk.aonRuns = true) : Completes (.gnssDisable err) s fun b =>
    let stops := s.blk.flag F.GNSS_CTRL_EN 0 = true ∧ s.blk.flag F.GNSS_CTRL_HOST 0 = true
    b.flag F.GNSS_CTRL_EN 0 = false ∧
      (stops → (∀ c, c < 384 → s.blk.chState c ≠ 0 → b.chan c = { s.blk.chan c with stop := true }) ∧
        (∀ c, c < 384 → s.blk.chState c = 0 → b.chan c = s.blk.chan c) ∧
        (s.blk.timeState = 1 → s.blk.EntersHoldover err b ∧
          RegsKeptBut (fun r i => (i = 0 ∧ r ∈ [.GNSS_CTRL, .GNSS_STATUS, .GNSS_HOLD_STAT]) ∨ RecReg r i) s.blk b) ∧
        (s.blk.timeState ≠ 1 → s.blk.ReturnEnds b ∧
          RegsKeptBut (fun r i => i = 0 ∧ r ∈ [RegName.GNSS_CTRL]) s.blk b ∧ MemKept s.blk b)) ∧
      (¬ stops → b.gnss = s.blk.gnss ∧ RegsKeptBut (fun r i => i = 0 ∧ r ∈ [RegName.GNSS_CTRL]) s.blk b ∧ MemKept s.blk b) ∧
      MemKept s.blk b := by
  have hon := (Blk.RegsOnly.refl s.blk).setFld F.GNSS_CTRL_EN 0 0
  have hw : s.blk.Within (fun r i => i = 0 ∧ r ∈ [RegName.GNSS_CTRL]) (s.blk.setFld F.GNSS_CTRL_EN 0 0) :=
    (Blk.Within.refl s.blk).setFld ⟨rfl, .head _⟩
  have hen : (s.blk.setFld F.GNSS_CTRL_EN 0 0).flag F.GNSS_CTRL_EN 0 = false := Blk.flag_setFld_zero _ _ _ (by decide) (by decide)
  have hhost : (s.blk.setFld F.GNSS_CTRL_EN 0 0).flag F.GNSS_CTRL_HOST 0 = s.blk.flag F.GNSS_CTRL_HOST 0 :=
    Blk.flag_setFld_of_apart _ _ _ (by decide) (by decide)
  have hrun : s.blk.gnssDisable err = (s.blk.setFld F.GNSS_CTRL_EN 0 0).when
      (s.blk.flag F.GNSS_CTRL_EN 0 && (s.blk.setFld F.GNSS_CTRL_EN 0 0).flag F.GNSS_CTRL_HOST 0) fun b =>
        ((List.range 384).foldl Blk.stopChan b).timeLost err := rfl
  rw [hhost] at hrun
  generalize s.blk.setFld F.GNSS_CTRL_EN 0 0 = a at *
  by_cases hs : s.blk.flag F.GNSS_CTRL_EN 0 = true ∧ s.blk.flag F.GNSS_CTRL_HOST 0 = true
  · rw [Blk.when_of _ (by simp [hs.1, hs.2])] at hrun
    refine .of_live ha rfl hrun ?_
    obtain ⟨hoff, hstop, hidle, hlocked, hother, hmem⟩ := Blk.stopChans_timeLost hon hw hen err
    exact ⟨hoff, fun _ => ⟨hstop, hidle, hlocked, hother⟩, fun h => absurd hs h, hmem⟩
  · have hcond : (s.blk.flag F.GNSS_CTRL_EN 0 && s.blk.flag F.GNSS_CTRL_HOST 0) = false := by
      rw [Bool.eq_false_iff]
      simpa using hs
    rw [hcond, Blk.when, if_neg Bool.false_ne_true] at hrun
    exact .of_live ha rfl hrun ⟨hen, fun h => absurd h hs, fun _ => ⟨hon.gnss, hw.regs, hw.memKept⟩, hw.memKept⟩

/-! ## The antennas -/

theorem Blk.setFlag_status_spec (b : Blk) {f g : Fld} {x : Bool} {p : Prop} (hx : x = true ↔ p) (hreg : f.reg = .GNSS_STATUS)
    (hfit : f.lo + f.w ≤ 32) (hw : 0 < f.w) (hapart : g.reg ≠ f.reg ∨ g.lo + g.w ≤ f.lo ∨ f.lo + f.w ≤ g.lo) :
    let c := b.setFlag f 0 x
    (c.flag f 0 = true ↔ p) ∧ c.flag g 0 = b.flag g 0 ∧ RegsKeptBut (fun r i => r = .GNSS_STATUS ∧ i = 0) b c ∧
      MemKept b c ∧ UnitsKept b c := by
  have hwithin : b.Within (fun r i => r = .GNSS_STATUS ∧ i = 0) (b.setFlag f 0 x) := (Blk.Within.refl b).setFlag ⟨hreg, rfl⟩
  have hon : b.RegsOnly (b.setFlag f 0 x) := (Blk.RegsOnly.refl b).setFld ..
  refine ⟨?_, Blk.flag_setFld_of_apart _ _ _ hfit hapart, hwithin.regs, hwithin.memKept, hon.unitsKept⟩
  rw [b.flag_setFlag_self f 0 x hfit hw, hx]

theorem antennaBiasFault_completes (s : State) (ant : Bool) (ua : Nat) (ha : s.blk.aonRuns = true) :
    Completes (.antennaBiasFault ant ua) s fun b =>
      (b.flag (if ant then F.GNSS_STATUS_ANT_B_FLT else F.GNSS_STATUS_ANT_A_FLT) 0 = true ↔ ua < 5000 ∨ 100000 < ua) ∧
        b.flag (if ant then F.GNSS_STATUS_ANT_A_FLT else F.GNSS_STATUS_ANT_B_FLT) 0 =
          s.blk.flag (if ant then F.GNSS_STATUS_ANT_A_FLT else F.GNSS_STATUS_ANT_B_FLT) 0 ∧
        RegsKeptBut (fun r i => r = .GNSS_STATUS ∧ i = 0) s.blk b ∧ MemKept s.blk b ∧ UnitsKept s.blk b := by
  have hfault : (decide (ua < 5000) || decide (100000 < ua)) = true ↔ ua < 5000 ∨ 100000 < ua := by simp
  refine .of_run (f := fun b => b.antennaBias ant ua) rfl (Blk.when_of _ ha) ?_
  cases ant
  · exact s.blk.setFlag_status_spec (f := F.GNSS_STATUS_ANT_A_FLT) (g := F.GNSS_STATUS_ANT_B_FLT) hfault rfl (by decide) (by decide) (by decide)
  · exact s.blk.setFlag_status_spec (f := F.GNSS_STATUS_ANT_B_FLT) (g := F.GNSS_STATUS_ANT_A_FLT) hfault rfl (by decide) (by decide) (by decide)

end Sys2Proof.Machine
end

section
/-!
PROOFS. The commands of satellite time and position together (O49).
-/

namespace Sys2Proof.Machine

open Sys2Proof.Claims

/-- Settles O49: each command by its own lemma on the solution, the corrections, the states of TB0, PPS, NMEA and the antennas. -/
theorem positionAndTime : Obligations.PositionAndTime := by
  unfold Obligations.PositionAndTime
  intro s
  refine ⟨fun x hon hat hago => navSolution_completes s x hon hat hago, fun ha => navSnap_completes s ha,
    fun f hon => rtcmFrame_completes s f hon .rfl, fun t hat hon hend => correctionEpochClose_completes s t hat hon hend,
    fun since g t hr h0 ht hs h10 => timeLock_completes s since g t hr h0 ht hs h10, fun err hr => holdoverEntry_completes s err hr,
    fun err ha h2 hret => holdoverLimit_completes s err ha h2 hret, fun g hr h2 hret => lockReturn_completes s g hr h2 hret,
    fun ha hd hsec hwas => ppsSecond_completes s ha hd hsec hwas,
    fun ha hd hend => ppsWidthEnd_completes s ha hd hend, fun hr hsent hwas hnew => nmeaOutput_completes s hr hsent hwas hnew,
    fun ha => gnssEnable_completes s ha, fun err ha => gnssDisable_completes s err ha,
    fun ant ua ha => antennaBiasFault_completes s ant ua ha⟩

end Sys2Proof.Machine
end
